-- ==== Sys2Proof/Word.lean ====
section
/-! DEFINITION. The words of the model: a register or memory word, a byte. R4: bit 0 is the least significant bit. -/

namespace Sys2Proof

/-- A 32-bit word: a register, a memory word (R4). -/
abbrev Word := BitVec 32

/-- One octet of memory or of a frame. -/
abbrev Byte := BitVec 8

end Sys2Proof
end

