-- ==== Sys2Proof/Syntax.lean ====
section
/-! DEFINITION. The commands of the block: one constructor of `Instr` per row of spec/opcode_table.json. A command that is an
event carries the network time `t` (in 1/40 µs, R194) at which it comes about; a command that is an access carries the
agent that makes it; every value that comes from outside the block (a frame's octets, a measured power, an ECC outcome,
a pin level) is an operand. -/

namespace Sys2Proof

/-- One of the two cores; also one of the two collectors, delivery rings, cipher queues and watchdogs (R15, R318). -/
inductive CoreId where
  | c0 | c1
  deriving DecidableEq, Repr

/-- The agents that see the address map (R31). -/
inductive Agent where
  | core0 | core1 | debug | host
  deriving DecidableEq, Repr

/-- The kinds of a memory access (R32). -/
inductive AccKind where
  | load | store | fetch
  deriving DecidableEq, Repr

/-- The widths of a memory access (Table 1-6). -/
inductive Width where
  | w8 | w16 | w32
  deriving DecidableEq, Repr

/-- What the error correction of a memory finds at one read: a flash codeword (R285-R287) or a Ballast word (R276). -/
inductive Ecc where
  | clean
  | corrected
  /-- a flash codeword recovered at this retry step, 1-7 (R286) -/
  | retried (step : Nat)
  | uncorrectable
  deriving DecidableEq, Repr

/-- The sixteen sub-window means of one channel on the two chains over one 1 ms interval, in 0.25 dBm (R113). -/
structure ChanPow where
  chan : Nat
  chainA : List Int
  chainB : List Int
  deriving DecidableEq, Repr

/-- What the held steps of a cold start find: banks that fail, spare columns in use by fuse and by self-test as pairs of bank and
columns (R271), Ballast words corrected or uncorrectable (R279). -/
structure ColdFindings where
  badBanks : BitVec 20
  fused : List (Nat × Nat)
  soft : List (Nat × Nat)
  corrected : List Nat
  uncorrectable : List Nat
  deriving DecidableEq, Repr

/-- The outcome of a bank test (R273): spares assigned and retested, or a failure beyond repair. -/
inductive TestResult where
  | pass
  | repaired (columns : Nat)
  | fail
  deriving DecidableEq, Repr

/-- Where a recovery-loader frame comes from (R401): the mailbox buffer, or UART0 with these octets, the leading 0x5A among them. -/
inductive LoaderSrc where
  | mailbox
  | uart (octets : List Byte)
  deriving DecidableEq, Repr

/-- The opening of a host transfer (R396): the OP byte, how many bytes are clocked with it, when HOST_CS is asserted. -/
structure CsOpen where
  op : Byte
  n : Nat
  t : Nat
  deriving DecidableEq, Repr

/-- A stretch of a GET (R399): how many bytes are clocked, and whether more follow before HOST_CS is deasserted. -/
structure GetSpan where
  n : Nat
  more : Bool
  deriving DecidableEq, Repr

/-- The commands: one constructor per row of the table, named after its mnemonic. Those without operands stand last. A command
without a time `t` comes about at the present network time, to which the timed commands bring the block. -/
inductive Instr where
  /-- SOFTWARE_RESET_DEVICE (R37): A keyed write of SYS_SWRST with SCOPE 0b00 makes a device warm start with cause SWRST. -/
  | softwareResetDevice (key : BitVec 16)
  /-- CORE0_RESET (R39): A keyed write of SYS_SWRST with SCOPE 0b01 restarts core 0 at SYS_C0VEC without a start. -/
  | core0Reset (key : BitVec 16)
  /-- CORE1_RESET (R39): A keyed write of SYS_SWRST with SCOPE 0b10 restarts core 1 at SYS_C1VEC if SYS_C1CTL.RUN is 1. -/
  | core1Reset (key : BitVec 16)
  /-- DOUBLE_FAULT (R37): A double fault on a core causes a Ripcord freeze and a warm start. -/
  | doubleFault (c : CoreId) (t : Nat)
  /-- WATCHDOG_EXPIRY (R409): A watchdog count reaching 0 causes a Ripcord freeze with cause WDT0 or WDT1 and a warm start. -/
  | watchdogExpiry (c : CoreId) (t : Nat)
  /-- WDT_HALF_TIMEOUT (R409): A watchdog reaching TO/2 posts from source 217 + n. -/
  | wdtHalfTimeout (c : CoreId) (t : Nat)
  /-- WDT_KICK (R409): A write of 0xC0DE to WDT_KICK.KEY reloads the watchdog with TO. -/
  | wdtKick (c : CoreId) (key : BitVec 16)
  /-- CORE0_RELEASE (R374): When the held start steps are complete, core 0 is released at boot ROM or at SYS_RIPVEC. -/
  | core0Release (found : ColdFindings) (t : Nat)
  /-- START_CALIBRATION_DONE (R375): Start radio calibration ends, RCALBUSY clears and deferred RFE and Envelope enables take effect. -/
  | startCalibrationDone (t : Nat)
  /-- SAFE_EXIT (R394): A write of 0xEA5E to SYS_SAFECTL.KEY in SAFE leaves SAFE by a warm start with cause SAFEEXIT. -/
  | safeExit (key : BitVec 16)
  /-- C1CTL_RUN_WRITE (R37): A write of SYS_C1CTL.RUN releases core 1 at SYS_C1VEC on a 0-to-1 change, or holds it in reset. -/
  | c1ctlRunWrite (run : Bool)
  /-- BOOT_GOOD (R378): A write of 0x600D to SYS_BOOTGOOD.KEY clears ATTEMPTS and PROB in one atomic Ballast write. -/
  | bootGood (key : BitVec 16)
  /-- MEMORY_ACCESS (R32): A core, debug or mailbox load, store or fetch is served or faults under the rules of its region. -/
  | memoryAccess (a : Agent) (k : AccKind) (w : Width) (addr data : Word) (ecc : Ecc) (t : Nat)
  /-- STEP_MEMORY_STORE (R35): A store to Reel step memory is accepted only while the engine is stopped, and otherwise it sets WRITE_IGNORED. -/
  | stepMemoryStore (a : Agent) (addr data : Word)
  /-- FENCE_I (R18): FENCE.I makes instructions written to SRAM visible to the core's fetches. -/
  | fenceI (c : CoreId)
  /-- WFI (R335): A core executing WFI becomes quiescent, which may begin DOZE or an automatic sleep choice. -/
  | wfi (c : CoreId) (t : Nat)
  /-- ILLEGAL_CSR (R23): An access to an unlisted custom CSR number raises an illegal-instruction exception. -/
  | illegalCsr (c : CoreId) (num : BitVec 12)
  /-- TIME_CSR_READ (R20): A read of the time CSR latches the matching timeh and ntimef. -/
  | timeCsrRead (c : CoreId) (t : Nat)
  /-- DCINV (R16): A write of 1 to ncache.DCINV invalidates the whole data cache before the next instruction retires; the write
  carries the other fields of Table 1-5 with it. -/
  | dcinv (c : CoreId) (data : BitVec 4)
  /-- ICINV (R18): A write of 1 to ncache.ICINV invalidates the whole instruction cache before the next instruction retires; the
  write carries the other fields of Table 1-5 with it. -/
  | icinv (c : CoreId) (data : BitVec 4)
  /-- DEBUG_HALT_REQUEST (R25): A debug halt request halts a hart and wakes a quiescent core. -/
  | debugHaltRequest (c : CoreId)
  /-- REGISTER_WRITE (R45): A write to a register with no row of its own goes to its field by class: L waits for a boundary, S goes to the shadow, K applies only while the unit is stopped. -/
  | registerWrite (a : Agent) (addr data : Word)
  /-- UNIT_SAFE_BOUNDARY (R45): An epoch unit reaches its safe boundary and applies its waiting L writes and any armed set in one step. -/
  | unitSafeBoundary (u : Nat) (t : Nat)
  /-- LAG_LIMIT_EXPIRY (R53): MIXED outlasting CFG_LAGLIM.MS sets STUCK and posts a CFG record. -/
  | lagLimitExpiry (t : Nat)
  /-- RFE_STARTUP_DONE (R71): The RFE completes STARTING and reaches IDLE after RFE_CTL.EN is set with the sample PLL running. -/
  | rfeStartupDone (t : Nat)
  /-- AUTO_RECAL (R68): With RFE_CALCTL.AUTO = 1 the RFE starts RECAL_STALE by itself when the synthesizer is idle and an entry is not usable. -/
  | autoRecal (t : Nat)
  /-- CAL_STEP_DONE (R67): A calibration step of one channel completes and updates its RFE_CALTAB entry. -/
  | calStepDone (t : Nat)
  /-- SYNTH_LOCK_DONE (R73): The synthesizer completes its lock on a channel. -/
  | synthLockDone (t : Nat)
  /-- TX_CLAIM (R72): A transmit claims the synthesizer at T − 32 µs or on arrival, after which it calibrates if needed and locks. -/
  | txClaim (t : Nat)
  /-- COEX_REQ_ASSERT (R84): COEX_REQ and COEX_PRI are asserted LEAD µs before a timed transmit, no earlier than the claim. -/
  | coexReqAssert (t : Nat)
  /-- TX_START (R73): At S − 8 µs the start sequence begins: COEX_GNT is sampled, the Envelope is blanked and the FEM wires and PA follow. -/
  | txStart (gnt : Bool) (t : Nat)
  /-- TX_FIRST_CHIP (R75): The first chip goes on air at S from a timebase compare. -/
  | txFirstChip (t : Nat)
  /-- TX_LAST_CHIP (R71): The last chip ends and the RFE enters TX_TAIL with the PA ramping down. -/
  | txLastChip (t : Nat)
  /-- TX_TAIL_END (R79): The PA is off, TX_TAIL ends and the transmitter and synthesizer are released to any waiting transmit. -/
  | txTailEnd (t : Nat)
  /-- BLANK_END (R81): The blank ends 20 µs after the last chip or after the PA is off, and lanes resume detection. -/
  | blankEnd (t : Nat)
  /-- TX_LATE_CANCEL (R74): A transmit whose synthesizer is not locked at T + TOL − 8 µs is cancelled with TX_LATE. -/
  | txLateCancel (t : Nat)
  /-- SYNTH_TIMEOUT (R74): An as-soon-as-possible transmit not locked 100 µs after its claim is cancelled with SYNTH_TIMEOUT. -/
  | synthTimeout (t : Nat)
  /-- COEX_GNT_REVOKE (R86): A revocation of COEX_GNT after the sample either is ignored or, with ABORT = 1, stops the transmit with COEX_ABORT. -/
  | coexGntRevoke (t : Nat)
  /-- ACK_COMMIT (R76): At 8 µs after the last received chip a requested acknowledgement is committed as a timed transmit, or loses the turn. -/
  | ackCommit (lane : Nat) (t : Nat)
  /-- COEX_CNT_READ (R85): A read of COEX_CNT returns and clears the denied and aborted counts. -/
  | coexCntRead (a : Agent)
  /-- ENVELOPE_START (R110): A write of 1 to ENV_CTL.EN while the Envelope is off starts it, or puts it in XWAIT while the timebase is on the FIO. -/
  | envelopeStart (data : Word)
  /-- ENVELOPE_XWAIT_END (R110): The timebase reaches the crystal with the sample PLL locked, and an Envelope in XWAIT begins its start. -/
  | envelopeXwaitEnd (t : Nat)
  /-- ENVELOPE_RUN (R110): The Envelope start completes, the started groups' lanes are in HUNT and STATE becomes RUN. -/
  | envelopeRun (t : Nat)
  /-- MS_BOUNDARY (R113): At each 1 ms crystal interval the noise floors update and epoch unit 17 reaches its boundary. -/
  | msBoundary (pow : List ChanPow) (t : Nat)
  /-- ENVELOPE_STOPPED (R111): The last group has stopped, the sample clock stops, the tap falls and STATE becomes OFF. -/
  | envelopeStopped (t : Nat)
  /-- SURVEY_BEGIN (R114): After every lane has gone OFF, snapshots begin and STATE reads SURVEY. -/
  | surveyBegin (t : Nat)
  /-- AGC_GAIN_DOWN (R90): An ADC overload makes the AGC lower its chain's gain within 0.2 µs. -/
  | agcGainDown (chain exp : Nat) (clip : Bool) (t : Nat)
  /-- AGC_GAIN_UP (R90): After 32 µs with the peak more than 9 dB below full scale the AGC raises the gain by one step. -/
  | agcGainUp (chain : Nat) (t : Nat)
  /-- PREAMBLE_DETECT (R95): A lane in HUNT detects a preamble on two consecutive symbols and enters PREAMBLE. -/
  | preambleDetect (lane : Nat) (chain corr0 corr1 : Nat) (t : Nat)
  /-- SP_PREAMBLE_DETECT (R433): The single path detects a preamble at its fixed threshold and begins port comparison. -/
  | spPreambleDetect (corr0 corr1 : Nat) (t : Nat)
  /-- CHAIN_CHOICE (R97): After four symbols, or at the SFD, the lane or single path chooses the chain or port with the higher energy. -/
  | chainChoice (lane : Nat) (symbols energyA energyB : Nat) (t : Nat)
  /-- SFD_RECOGNISED (R96): The SFD is recognised, a frame buffer is taken and cleared, and the lane enters FRAME. -/
  | sfdRecognised (lane : Nat) (rssi : Int) (t : Nat)
  /-- SFD_TIMEOUT (R96): A lane that has not recognised the SFD within SFDTO symbols abandons the attempt and increments ABANDON. -/
  | sfdTimeout (lane : Nat) (t : Nat)
  /-- PHR_RECEIVED (R127): The PHR is complete and the frame continues, or is abandoned if its length is invalid. -/
  | phrReceived (lane : Nat) (phr : BitVec 16) (psdu : List Byte) (t : Nat)
  /-- ADDR_REACHED (R225): The addressing fields are in the buffer, the parse record becomes final and ADDR becomes true. -/
  | addrReached (lane : Nat) (t : Nat)
  /-- FRAME_END (R100): The lane reports frame end, CRC result and timestamps to its engine and returns to HUNT. -/
  | frameEnd (lane : Nat) (cq : Nat) (t : Nat)
  /-- GROUP_HOLD (R118): A write of 1 to a bit of ENV_GHOLD_SET holds the group, and its hunting lanes go OFF. -/
  | groupHold (mask : BitVec 16)
  /-- GROUP_STOPPED (R118): A held group's frames are delivered and its contexts wait, so engine g halts and the group is stopped. -/
  | groupStopped (g : Nat) (t : Nat)
  /-- GROUP_RELEASE (R119): A write of 1 to a bit of ENV_GHOLD_CLR restarts the group, cancels its stop, or clears HOLD. -/
  | groupRelease (mask : BitVec 16)
  /-- ENV_LERR_READ (R100): A read of ENV_LERR returns and clears the lane's three failure counts. -/
  | envLerrRead (a : Agent) (k : Nat)
  /-- NOP (R157): The step has no effect. -/
  | nop (e c : Nat)
  /-- MOVI (R157): The step loads an immediate, or a register plus an immediate, into v[DST]. -/
  | movi (e c : Nat)
  /-- ADD (R158): The step adds operand B to v[DST] and sets Z. -/
  | addOp (e c : Nat)
  /-- SUB (R158): The step subtracts operand B from v[DST] and sets Z, LT and SLT. -/
  | subOp (e c : Nat)
  /-- AND (R158): The step ANDs operand B into v[DST] and sets Z. -/
  | andOp (e c : Nat)
  /-- OR (R158): The step ORs operand B into v[DST] and sets Z. -/
  | orOp (e c : Nat)
  /-- XOR (R158): The step XORs operand B into v[DST] and sets Z. -/
  | xorOp (e c : Nat)
  /-- SHL (R158): The step shifts v[DST] left and sets Z. -/
  | shl (e c : Nat)
  /-- SHR (R158): The step shifts v[DST] right, logically or arithmetically, and sets Z. -/
  | shr (e c : Nat)
  /-- CMP (R158): The step sets Z, LT and SLT from v[DST] − B. -/
  | cmp (e c : Nat)
  /-- LD (R159): The step loads from the frame buffer, a neighbour entry, the scratch or radio memory. -/
  | ld (e c : Nat)
  /-- ST (R159): The step stores v[DST] to the frame buffer, a neighbour entry, the scratch or radio memory. -/
  | st (e c : Nat)
  /-- LOOKUP (R162): The step searches the neighbour table for a key and sets HIT, PEND and v[DST]. -/
  | lookup (e c : Nat)
  /-- READF (R161): The step reads a datapath field into v[DST], latching or removing where the field says so. -/
  | readf (e c : Nat)
  /-- TXQ (R165): The step copies a descriptor from the scratch into a free slot of a transmit queue. -/
  | txq (e c : Nat)
  /-- TXACK (R169): The step requests the immediate acknowledgement of the current frame. -/
  | txack (e c : Nat)
  /-- DELIV (R171): The step hands the current frame to a core's delivery ring, or leaves it held if the ring is full. -/
  | deliv (e c : Nat)
  /-- DROP (R171): The step releases the current frame without delivering it. -/
  | dropFrame (e c : Nat)
  /-- POST (R172): The step publishes an event on a line with its hop count. -/
  | postEvent (e c : Nat)
  /-- IRQ (R173): The step posts an interrupt record to a core's collector. -/
  | irq (e c : Nat)
  /-- SYNC (R174): The step runs the epoch check on a tag and sets EPR. -/
  | syncEpoch (e c : Nat)
  /-- TIMER (R174): The step starts or cancels the context timer. -/
  | timer (e c : Nat)
  /-- WAITEV (R175): The step ends the turn and waits for any condition of its mask. -/
  | waitev (e c : Nat)
  /-- WAITT (R175): The step ends the turn and waits for a network time. -/
  | waitt (e c : Nat)
  /-- YIELD (R146): The step ends the turn and the context is READY at once. -/
  | yield (e c : Nat)
  /-- JMP (R153): The step jumps to TGT or to a computed step if COND is true. -/
  | jmp (e c : Nat)
  /-- CALL (R153): The step pushes PC + 1 and jumps if COND is true. -/
  | call (e c : Nat)
  /-- RET (R153): The step pops the return stack if COND is true. -/
  | ret (e c : Nat)
  /-- HALT (R181): The step puts the context into HALTED and releases its lane's frames. -/
  | halt (e c : Nat)
  /-- TXGO (R167): ARM TXGO takes the released transmit, runs the dwell check and hands it to the RFE. -/
  | txgo (e c : Nat)
  /-- TXHOLD (R163): ARM TXHOLD sets HOLD in every queued entry for a neighbour. -/
  | txhold (e c : Nat)
  /-- TXREL (R163): ARM TXREL clears HOLD in every queued entry for a neighbour. -/
  | txrel (e c : Nat)
  /-- HOP (R208): ARM HOP computes the channel of the hopping formula for an event. -/
  | hop (e c : Nat)
  /-- GUARD (R213): ARM GUARD returns a link's widened half-window and may mark it UNSYNC. -/
  | guard (e c : Nat)
  /-- RESYNC (R211): ARM RESYNC updates a link's timing block from the current frame's SFD time. -/
  | resync (e c : Nat)
  /-- SPRX (R164): ARM SPRX writes RFE_SPCTL with a channel, a format, a diversity and EN = 1. -/
  | sprx (e c : Nat)
  /-- SPOFF (R164): ARM SPOFF writes 0 to RFE_SPCTL.EN. -/
  | spoff (e c : Nat)
  /-- SPED (R163): ARM SPED starts a single-path energy measurement over IMM µs. -/
  | sped (e c : Nat)
  /-- SPED_DONE (R163): The energy measurement ends, its result is available to READF ED and DONE is set. -/
  | spedDone (c : Nat) (ed : Int) (t : Nat)
  /-- ARM_SADC (R163): ARM SADC requests one sensor-ADC conversion for the context. -/
  | armSadc (e c : Nat)
  /-- ARM_WAKE (R347): ARM WAKE requests a wake of the named cores. -/
  | armWake (e c : Nat)
  /-- CONTEXT_TIMER_EXPIRY (R174): A context timer expires and latches TMR. -/
  | contextTimerExpiry (e c : Nat) (t : Nat)
  /-- WAITT_WAKE (R175): A WAITT target is reached and the context becomes READY. -/
  | waittWake (e c : Nat) (t : Nat)
  /-- CONTEXT_DISPATCH (R148): The engine chooses a READY context, urgent ones first, to run its next stretch. -/
  | contextDispatch (e : Nat) (parity : Bool) (t : Nat)
  /-- CONTEXT_RESTART (R180): A write of REEL_CRST restarts one context in its start state. -/
  | contextRestart (data : Word)
  /-- ENGINE16_STOPPED (R182): Every context of engine 16 waits and the engine stops, restarting at once if RUN reads 1. -/
  | engine16Stopped (t : Nat)
  /-- TXQ_RELEASE (R166): A queued entry is released at T − 48 µs and offered to engine 16, making TXPEND true. -/
  | txqRelease (t : Nat)
  /-- TXQBASE_WRITE (R434): A write to REEL_TXQBASE is accepted only with engine 16 stopped, the queues empty and the area in radio memory. -/
  | txqbaseWrite (data : Word)
  /-- LOAD (R188): REEL_LDCMD.OP LOAD starts a step-table load of an engine, or is refused with REJECT. -/
  | loadTable (data : Word)
  /-- LOAD_VERIFY_DONE (R189): VERIFY ends and the load either fails with its code or enters STOPPING. -/
  | loadVerifyDone (t : Nat)
  /-- LOAD_QUIET_STOP (R189): At the group's quiet instant the loader sets HOLD and the group stops with no lane dark. -/
  | loadQuietStop (t : Nat)
  /-- LOAD_SOFT_WAIT_EXPIRY (R189): The soft wait expires and the loader holds the group so that it stops as a hold gives. -/
  | loadSoftWaitExpiry (t : Nat)
  /-- LOAD_COMPLETE (R191): COPY, CHECK and RESTART end, the code is written and a loader record is posted. -/
  | loadComplete (t : Nat)
  /-- XTAL_READY (R197): The 40 MHz crystal reaches amplitude and is confirmed, so XTAL_READY is set. -/
  | xtalReady (t : Nat)
  /-- TIMEBASE_SWITCH (R197): At the next 32.768 kHz edge the timebase moves from the FIO to the crystal without a step. -/
  | timebaseSwitch (t : Nat)
  /-- LFCAL_MEASURE (R196): Each 1 s TBASE measures the 32.768 kHz crystal and loads TBASE_LFCAL.INC. -/
  | lfcalMeasure (inc : Word) (t : Nat)
  /-- LF_CRYSTAL_START (R199): The 32.768 kHz crystal starts, LFOK sets and the carry takes up the count. -/
  | lfCrystalStart (t : Nat)
  /-- LF_CRYSTAL_STOP (R371): The stop detector finds no 32.768 kHz edge, so the RTC stands still with OSCSTOP and TIME_SUSPECT set. -/
  | lfCrystalStop (t : Nat)
  /-- VBKP_LOW (R371): VBKP below 1.55 V while it feeds the backup domain sets TIME_SUSPECT. -/
  | vbkpLow (low feeds : Bool) (t : Nat)
  /-- FIO_BURST_START (R198): With the crystal stopped, TBASE starts the FIO 61 µs before the earliest timed compare. -/
  | fioBurstStart (t : Nat)
  /-- TBASE_NOW_READ (R200): A read of TBASE_NOW_LO latches TBASE_NOW_HI and TBASE_NOW_F. -/
  | tbaseNowRead (a : Agent)
  /-- SLOT_START (R202): At each slot start the counter advances, LINK applies its writes, SLOT latches and the slot-start event is published. -/
  | slotStart (t : Nat)
  /-- LINK_ADJ_WRITE (R205): A write to LINK_ADJ shifts the slot start after the next one by a signed amount. -/
  | linkAdjWrite (data : Word)
  /-- LINK_EVC_READ (R203): A read of LINK_EVC_LO latches LINK_EVC_HI. -/
  | linkEvcRead (a : Agent)
  /-- LINK_SSTART_READ (R202): A read of LINK_SSTART_LO latches LINK_SSTART_HI. -/
  | linkSstartRead (a : Agent)
  /-- SUPERVISION_EXPIRY (R218): A link whose supervision deadline has passed is dropped, its transmits are held and SUPV_EXPIRED is posted. -/
  | supervisionExpiry (n : Nat) (t : Nat)
  /-- DWELL_BUCKET_ROLL (R220): At each W/16 boundary the oldest dwell bucket leaves the sum and a new one opens. -/
  | dwellBucketRoll (t : Nat)
  /-- LINK_DWSTAT_READ (R221): A read of LINK_DWSTAT returns and clears the count of DWELL_LIMIT refusals. -/
  | linkDwstatRead (a : Agent)
  /-- BALLAST_WRITE_THROUGH (R236): A store to an RXNEXT word is written through to its Ballast mirror word as one atomic write. -/
  | ballastWriteThrough (n : Nat) (t : Nat)
  /-- DELIVERY_WRITE (R239): The delivery writer writes the record, advances PUT and posts if NOTIFY, then releases the buffer. -/
  | deliveryWrite (r : CoreId) (t : Nat)
  /-- RTAKE_WRITE (R240): A write to LINK_RTAKE.TAKE acts at once unless it would move TAKE past PUT. -/
  | rtakeWrite (r : CoreId) (take : BitVec 16)
  /-- LINK_RPUT_READ (R239): A read of LINK_RPUT returns and clears the FULL refusal count. -/
  | linkRputRead (a : Agent) (r : CoreId)
  /-- CIPHER_SUBMIT (R246): A write of CIPH_QPUT.PUT submits descriptors, or is ignored with QERR if occupancy leaves 0-32. -/
  | cipherSubmit (q : CoreId) (put : BitVec 16)
  /-- CCM_ENC (R243): A CCM* encryption request is checked and run. -/
  | ccmEnc (q : CoreId)
  /-- CCM_DEC (R249): A CCM* decryption request is run and its output is zeroed if the tag fails. -/
  | ccmDec (q : CoreId)
  /-- GCM_ENC (R243): A GCM encryption request is checked and run. -/
  | gcmEnc (q : CoreId)
  /-- GCM_DEC (R249): A GCM decryption request is run and its output is zeroed if the tag fails. -/
  | gcmDec (q : CoreId)
  /-- CTR (R243): A CTR request is checked and run. -/
  | ctr (q : CoreId)
  /-- CMAC_GEN (R243): A CMAC generation request is checked and run. -/
  | cmacGen (q : CoreId)
  /-- CMAC_VER (R249): A CMAC verification request is checked and run. -/
  | cmacVer (q : CoreId)
  /-- SHA256 (R243): A SHA-256 request hashes a message. -/
  | sha256 (q : CoreId)
  /-- ECDSA_VER (R243): An ECDSA P-256 verification request is checked and run. -/
  | ecdsaVer (q : CoreId)
  /-- UNWRAP (R256): A KW blob is unwrapped into a key slot. -/
  | unwrap (q : CoreId)
  /-- WRAP (R256): An exportable key slot is wrapped out. -/
  | wrap (q : CoreId)
  /-- RNG (R243): A request writes LEN random octets, or ends with RNG_FAIL. -/
  | rng (q : CoreId) (octets : List Byte)
  /-- CIPHER_COMPLETE (R247): A request finishes its outputs, writes its STAT word, advances DONE and posts if NOTIFY. -/
  | cipherComplete (t : Nat)
  /-- QUEUE_FLUSH (R251): A write of 1 to CIPH_QCTL.FLUSH completes every request of the queue that has not started with ABORTED. -/
  | queueFlush (q : CoreId)
  /-- KSEL_WRITE (R253): A write of CIPH_KSEL selects the slot and clears the staging words. -/
  | kselWrite (data : Word)
  /-- ALARM_TRIP (R259): A detector trips, so keys are erased, the engine halts, and records and the Ballast alarm history follow. -/
  | alarmTrip (causes : BitVec 4) (t : Nat)
  /-- ALMACT_CLEAR (R260): ALMACT clears once no detector has tripped for 1 ms. -/
  | almactClear (t : Nat)
  /-- TRNG_STARTUP_DONE (R262): The TRNG start-up tests pass and conditioned output begins. -/
  | trngStartupDone (word : Word) (t : Nat)
  /-- TRNG_DATA_READ (R262): A read of TRNG_DATA returns and clears the word, and the next conditioned word enters. -/
  | trngDataRead (a : Agent) (nextWord : Option Word)
  /-- BANK_POWER_REQUEST (R266): A write of MEMC_BANKCTL or MEMC_RBANKCTL requests ON, RET or OFF for banks, or is refused with RDENY. -/
  | bankPowerRequest (radio : Bool) (data : Word)
  /-- BANK_TRANSITION_DONE (R266): A bank completes its change of power state. -/
  | bankTransitionDone (b : Nat) (t : Nat)
  /-- BANK_TEST_START (R272): MEMC_TCMD.OP START puts one bank into TEST, or is refused with REFUSED. -/
  | bankTestStart (data : Word)
  /-- BANK_TEST_END (R273): A bank test ends with OK, REPAIRED or FAIL and posts a MEMC record. -/
  | bankTestEnd (r : TestResult) (t : Nat)
  /-- MEMC_BCNT_READ (R276): A read of MEMC_BCNT returns and clears the Ballast error counts. -/
  | memcBcntRead (a : Agent)
  /-- PROG (R293): FLC command PROG blank-checks and programs one page from the page buffer. -/
  | flashProg (vec0 vec1 : Word)
  /-- ERASE (R294): FLC command ERASE starts setting every bit of a block to 1. -/
  | flashErase (vec0 vec1 : Word)
  /-- PROG_COMPLETE (R293): A page program ends, caches are invalidated, and the result is written and posted. -/
  | progComplete (weak good : Bool) (t : Nat)
  /-- ERASE_COMPLETE (R294): An erase's array time completes, caches are invalidated, and the result is written and posted. -/
  | eraseComplete (good : Bool) (t : Nat)
  /-- MARGIN_COMPLETE (R299): A margin read ends with OK or MARGIN_FAIL. -/
  | marginComplete (counts : List (Nat × Nat)) (bad : List Nat) (t : Nat)
  /-- ERASE_SUSPENDED (R296): The erase stops at a safe point, SUSPENDED is set and the waiting access is served. -/
  | eraseSuspended (t : Nat)
  /-- ERASE_RESUME (R296): After 50 µs with no access to its plane the suspended erase resumes. -/
  | eraseResume (t : Nat)
  /-- FLC_ECNT_READ (R285): A read of FLC_ECNT returns and clears the ECC counts. -/
  | flcEcntRead (a : Agent)
  /-- FLC_RRSTAT_READ (R286): A read of FLC_RRSTAT returns and clears the retry count. -/
  | flcRrstatRead (a : Agent)
  /-- EVL_PUBSW (R311): A write of EVL_PUBSW publishes an event from firmware with the hop count written. -/
  | evlPubsw (data : Word)
  /-- LINECFG_WRITE (R310): A write of EVL_LINECFG whose SUB another line already names changes nothing and sets SUBCONF. -/
  | linecfgWrite (l : Nat) (data : Word)
  /-- EVL_LOOP_READ (R315): A read of EVL_LOOP returns and clears the dropped-event count. -/
  | evlLoopRead (a : Agent)
  /-- EVL_COAL_READ (R314): A read of EVL_COAL returns and clears the line's merge count. -/
  | evlCoalRead (a : Agent) (l : Nat)
  /-- ICOL_RECORD_WRITE (R320): The collector writes a posted record into its level queue and it becomes eligible. -/
  | icolRecordWrite (c : CoreId) (t : Nat)
  /-- FROMPEND_WRITE (R321): With enable and pending set and a free slot, the collector writes a FROMPEND record and clears the pending bit. -/
  | frompendWrite (c : CoreId) (t : Nat)
  /-- ICOL_TAKE (R326): A read of ICOL_TAKE takes the head eligible record, pushes the stack and raises the running priority. -/
  | icolTake (a : Agent) (c : CoreId)
  /-- ICOL_EOI (R327): A write of ICOL_EOI pops the stack, restores the running priority and frees the slot. -/
  | icolEoi (c : CoreId)
  /-- ICOL_SWPOST (R330): A write of ICOL_SWPOST posts a software record with the held payload. -/
  | icolSwpost (c : CoreId) (data : Word)
  /-- ICOL_ENSET (R331): A write of ICOL_ENSET sets source enable bits. -/
  | icolEnset (c : CoreId) (w : Nat) (bits : Word)
  /-- ICOL_ENCLR (R331): A write of ICOL_ENCLR clears source enable bits. -/
  | icolEnclr (c : CoreId) (w : Nat) (bits : Word)
  /-- ICOL_PSET (R321): A write of ICOL_PSET sets source pending bits. -/
  | icolPset (c : CoreId) (w : Nat) (bits : Word)
  /-- ICOL_PCLR (R321): A write of ICOL_PCLR clears pending bits and their merged counts. -/
  | icolPclr (c : CoreId) (w : Nat) (bits : Word)
  /-- ICOL_NLX5PSET (R332): A write of ICOL_NLX5PSET sets pending bits of software sources 992-1023. -/
  | icolNlx5pset (c : CoreId) (bits : Word)
  /-- MODERATION_EXPIRY (R329): A moderation hold ends after T µs and MEIP follows the eligible records. -/
  | moderationExpiry (c : CoreId) (t : Nat)
  /-- ICOL_OVFCNT_READ (R320): A read of ICOL_OVFCNT returns and clears the overflow count. -/
  | icolOvfcntRead (a : Agent) (c : CoreId)
  /-- PWR_ENTER (R338): PWR_CMD.OP ENTER requests an explicit sleep mode once both cores are quiescent. -/
  | pwrEnter (key : BitVec 16) (target : BitVec 4)
  /-- PWR_CANCEL (R338): PWR_CMD.OP CANCEL withdraws an explicit request whose handshake has not begun. -/
  | pwrCancel (key : BitVec 16)
  /-- HANDSHAKE_DELAY_CLEAR (R343): A domain that answered DELAY is asked again when its cause clears. -/
  | handshakeDelayClear (t : Nat)
  /-- HANDSHAKE_TIMEOUT (R343): Delays exceeding DLYMAX end the entry with TIMEOUT. -/
  | handshakeTimeout (t : Nat)
  /-- SLEEP_ENTRY_DONE (R345): The memory cluster has granted, power changes are made and the sleep mode is reached, waking at once if a wake is latched. -/
  | sleepEntryDone (t : Nat)
  /-- PREWAKE (R340): The controller wakes the device at t_next − 1000 µs − MARGIN. -/
  | prewake (t : Nat)
  /-- WAKE_PIN_EDGE (R405): An edge on a wake pin WAKE0-WAKE3 wakes the device when PWR_WAKEEN enables it. -/
  | wakePinEdge (j : Nat) (rising : Bool) (t : Nat)
  /-- VCORE_SETTLED (R351): VCORE settles at its level, RAMP clears and a held pace or voltage request may proceed. -/
  | vcoreSettled (t : Nat)
  /-- HOVER_CRYSTAL_START (R354): In HOVER the crystal starts XLEAD µs before the earliest compare of engine 16. -/
  | hoverCrystalStart (t : Nat)
  /-- HOVER_SUBSTATE_CHANGE (R353): Engine 16 moves between idle and active in HOVER and VCORE follows. -/
  | hoverSubstateChange (t : Nat)
  /-- PWR_HOVSTAT_READ (R355): A read of PWR_HOVSTAT returns and clears the ACTIVE count. -/
  | pwrHovstatRead (a : Agent)
  /-- PWR_HOVTIME_READ (R355): A read of PWR_HOVTIME returns and clears the crystal-on time. -/
  | pwrHovtimeRead (a : Agent)
  /-- SECOND_BOUNDARY (R359): The RTC fraction wraps, so L writes apply, the count advances, HOUR± applies, alarms compare and snapshots start. -/
  | secondBoundary (t : Nat)
  /-- SET (R363): RTC_CMD.OP SET loads the count and fraction, clears TIME_SUSPECT and starts a snapshot. -/
  | rtcSet (key : BitVec 16)
  /-- CALSET (R361): RTC_CMD.OP CALSET converts the calendar registers and sets the count, or sets CAL_ERR. -/
  | calset (key : BitVec 16)
  /-- HOURPLUS (R364): RTC_CMD.OP HOURPLUS schedules +3600 s at the next second boundary. -/
  | hourplus (key : BitVec 16)
  /-- HOURMINUS (R364): RTC_CMD.OP HOURMINUS schedules −3600 s at the next second boundary. -/
  | hourminus (key : BitVec 16)
  /-- HOURCANCEL (R364): RTC_CMD.OP HOURCANCEL withdraws a waiting HOUR±. -/
  | hourcancel (key : BitVec 16)
  /-- CAL2CNT (R361): RTC_CMD.OP CAL2CNT converts the calendar registers into RTC_SETSEC. -/
  | cal2cnt (key : BitVec 16)
  /-- CNT2CAL (R361): RTC_CMD.OP CNT2CAL converts RTC_SETSEC into the calendar registers. -/
  | cnt2cal (key : BitVec 16)
  /-- RTC_CONVERSION_DONE (R361): A calendar conversion completes within 2 µs and CVBUSY clears. -/
  | rtcConversionDone (t : Nat)
  /-- RTC_SNAPSHOT_WRITE (R372): A due RTC snapshot record is written to the Ballast store. -/
  | rtcSnapshotWrite (t : Nat)
  /-- RTC_SEC_READ (R358): A read of RTC_SEC_LO latches RTC_SEC_HI and RTC_FRAC. -/
  | rtcSecRead (a : Agent) (t : Nat)
  /-- RTC_NOWDATE_READ (R362): A read of RTC_NOWDATE latches the calendar form of the count into both NOW registers. -/
  | rtcNowdateRead (a : Agent)
  /-- ACTIVATE (R387): SYS_UPDCMD.OP ACTIVATE starts an activation from SYS_UPDSRC, or is refused. -/
  | activate (data : Word)
  /-- ACTIVATE_LIVE (R390): SYS_UPDCMD.OP ACTIVATE_LIVE starts an activation without a pause. -/
  | activateLive (data : Word)
  /-- UPDATE_ABORT (R391): SYS_UPDCMD.OP ABORT during VERIFY, WRITESET or QUIESCE ends the activation with ABORTED. -/
  | updateAbort (data : Word)
  /-- UPDATE_VERIFY_DONE (R386): Manifest verification ends, the new set is written and QUIESCE or LOAD begins, or it fails with its code. -/
  | updateVerifyDone (t : Nat)
  /-- QUIET_INSTANT (R388): At a quiet instant every group is held, engine 16 stops and the pause begins. -/
  | quietInstant (t : Nat)
  /-- QUIESCE_SOFT_EXPIRY (R388): QSOFTMS expires and the device holds every group and stops engine 16. -/
  | quiesceSoftExpiry (t : Nat)
  /-- QUIESCE_TIMEOUT (R388): The stop is not complete 100 ms after QUIESCE began, so holds are released and the activation ends. -/
  | quiesceTimeout (t : Nat)
  /-- PAUSE_END (R389): The pause ends, with groups released and core 0 restarted, or with a warm start when a BOOT entry is present. -/
  | pauseEnd (t : Nat)
  /-- HOST_CS_ASSERT (R396): HOST_CS assertion begins a transfer and wakes a sleeping device. -/
  | hostCsAssert (x : CsOpen)
  /-- HOST_STATUS (R396): Host OP STATUS returns the STATUS and ERR bytes and clears the ERR bits. -/
  | hostStatus (n : Nat)
  /-- PUT (R398): Host OP PUT sends one frame that is taken at HOST_CS deassertion if it passes its checks. -/
  | hostPut (octets : List Byte)
  /-- GET (R399): Host OP GET clocks out the pending frame and clears TXRDY when it is complete. -/
  | hostGet (x : GetSpan)
  /-- LOADER_PING (R401): Recovery loader command PING answers OK. -/
  | loaderPing (src : LoaderSrc)
  /-- LOADER_INFO (R401): Recovery loader command INFO returns identity and boot status registers. -/
  | loaderInfo (src : LoaderSrc)
  /-- LOADER_ERASE (R401): Recovery loader command ERASE issues an FLC erase of a block. -/
  | loaderErase (src : LoaderSrc)
  /-- LOADER_PROG (R401): Recovery loader command PROG issues an FLC program of a page. -/
  | loaderProg (src : LoaderSrc)
  /-- BOOTSEL (R401): Recovery loader command BOOTSEL checks a manifest and writes the selector to the twin region. -/
  | bootsel (src : LoaderSrc)
  /-- RESETCOUNT (R401): Recovery loader command RESETCOUNT clears ATTEMPTS in the boot-attempt word. -/
  | resetcount (src : LoaderSrc)
  /-- REBOOT (R401): Recovery loader command REBOOT replies and makes a device warm start. -/
  | reboot (src : LoaderSrc)
  /-- UART_RX_BYTE (R402): A UART receives a character into its FIFO and posts on RXNE or an error. -/
  | uartRxByte (n : Nat) (b : Byte) (parityErr framingErr brk : Bool) (t : Nat)
  /-- UART_DATA_WRITE (R402): A write of UART_DATA queues a byte for transmission. -/
  | uartDataWrite (n : Nat) (b : Byte)
  /-- UART_DATA_READ (R402): A read of UART_DATA returns and removes a received byte. -/
  | uartDataRead (a : Agent) (n : Nat)
  /-- UART_TX_IDLE (R403): A UART finishes sending its queued bytes and posts on TXIDLE. -/
  | uartTxIdle (n : Nat) (t : Nat)
  /-- SPIC_TRANSFER_START (R402): A write of SPIC_CMD.LEN starts one chip-select transfer. -/
  | spicTransferStart (n : Nat) (data : Word)
  /-- SPIC_TRANSFER_END (R403): An SPI controller transfer ends and posts. -/
  | spicTransferEnd (n : Nat) (rx : List Byte) (t : Nat)
  /-- I2C_TRANSFER_START (R402): A write of I2C_CMD starts a transfer to a target address. -/
  | i2cTransferStart (n : Nat) (data : Word)
  /-- I2C_TRANSFER_END (R403): An I2C transfer ends, with NACK or arbitration loss where they occur, and posts. -/
  | i2cTransferEnd (n : Nat) (rx : List Byte) (nack lost : Bool) (t : Nat)
  /-- GPIO_EDGE (R404): A matching edge on a pin publishes its event output and posts if IRQ is set. -/
  | gpioEdge (j : Nat) (level : Bool) (t : Nat)
  /-- SADC_CONVERSION_DONE (R406): A conversion completes into SADC_RESULT or READF SADC, publishes, posts and serves the next request. -/
  | sadcConversionDone (val : BitVec 12) (t : Nat)
  /-- SADC_RESULT_READ (R406): A read of SADC_RESULT returns the value and clears the new-result bit. -/
  | sadcResultRead (a : Agent)
  /-- MONITOR_UPDATE (R407): Every 1 ms the temperature and supply monitors update and threshold crossings post from source 152. -/
  | monitorUpdate (temp : Int) (vbkp vin : Nat) (t : Nat)
  /-- TMR_START (R408): TMR_CMD.OP START or the start task starts or restarts a timer. -/
  | tmrStart (n : Nat)
  /-- TMR_STOP (R408): TMR_CMD.OP STOP or the stop task stops a timer. -/
  | tmrStop (n : Nat)
  /-- TMR_EXPIRY (R408): A timer expires, publishes its event, posts if IRQ is set, and restarts or stops. -/
  | tmrExpiry (n : Nat) (t : Nat)
  /-- SAMPLE_PLL_LOCK (R42): The sample PLL, started at XTAL_READY, achieves lock, and an RFE held in OFF by RFE_CTL.EN = 1 may then begin STARTING. -/
  | samplePllLock (t : Nat)
  /-- VIO_VALID_CHANGE (R418): VIO crosses its 1.60 V valid level, making the VIO-bank balls high-impedance with inputs reading 0 and the SPI target and TAP deaf, or restoring them. -/
  | vioValidChange (valid : Bool) (t : Nat)
  /-- DEBUG_RESUME_REQUEST (R24): A debug resume request returns a debug-halted hart to execution, so it may again become quiescent and its watchdog runs again. -/
  | debugResumeRequest (c : CoreId)
  /-- DMCONTROL_DMACTIVE (R25): A debugger write of dmcontrol.dmactive activates or deactivates the debug module, which limits sleep to DOZE and refuses sleep entry and activation while it is 1. -/
  | dmcontrolDmactive (on : Bool)
  /-- TCK_CYCLE (R424): A TCK edge advances the IEEE 1149.1 TAP controller, which shifts IR or DR, resets on five cycles with TMS high and applies EXTEST to the boundary-scan balls. -/
  | tckCycle (tms tdi : Bool)
  /-- POWER_ON_RESET (R37): A power-on reset starts the device cold. -/
  | powerOnReset
  /-- NRST_LOW (R37): The NRST ball held low for 1 µs or more starts the device cold. -/
  | nrstLow
  /-- BROWNOUT (R37): VIN falling below the brownout threshold starts the device cold. -/
  | brownout
  /-- BACKUP_DOMAIN_RESET (R357): The backup rail falling below 1.3 V resets every RTC field and the backup domain. -/
  | backupDomainReset
  /-- DEBUG_NDMRESET (R25): A debug ndmreset causes a warm start with cause DBGRST. -/
  | debugNdmreset
  /-- REPLAY_MIRROR_LOAD_DONE (R376): The load of RXNEXT from the Ballast mirror ends, RXBUSY clears and waiting engine starts proceed. -/
  | replayMirrorLoadDone
  /-- EPOCH_NOW (R51): CFG_CMD.OP NOW requests an epoch switch at once. -/
  | epochNow
  /-- EPOCH_AT (R51): CFG_CMD.OP AT schedules a switch at the slot whose counter equals CFG_AT, or refuses a value not in the future. -/
  | epochAt
  /-- EPOCH_CANCEL (R51): CFG_CMD.OP CANCEL removes the scheduled switch. -/
  | epochCancel
  /-- DIGEST_RECOMPUTE_DONE (R59): The Bridle digests are current again and DIGBUSY clears within 50 µs of a change. -/
  | digestRecomputeDone
  /-- RECAL_ALL (R68): RFE_CMD.OP RECAL_ALL starts background recalibration of every channel. -/
  | recalAll
  /-- RECAL_STALE (R68): RFE_CMD.OP RECAL_STALE starts background recalibration of the entries that are not usable. -/
  | recalStale
  /-- STOP_CAL (R68): RFE_CMD.OP STOP_CAL ends background recalibration after the current step. -/
  | stopCal
  /-- ENGINE16_RUN (R182): REEL_E16CTL.RUN written 1 starts engine 16 with every context at step 0. -/
  | engine16Run
  /-- ENGINE16_STOP (R182): REEL_E16CTL.RUN written 0 begins stopping engine 16, with QUIESCE true in its contexts. -/
  | engine16Stop
  /-- LOAD_ABORT (R192): REEL_LDCMD.OP ABORT during VERIFY or STOPPING ends the load with ABORTED and releases a hold it set. -/
  | loadAbort
  /-- TBASE_REF_ON (R197): A write of 1 to TBASE_CTL.REF requests the move to the crystal, or is refused while XTAL_READY is 0. -/
  | tbaseRefOn
  /-- TBASE_REF_OFF (R198): A write of 0 to TBASE_CTL.REF stops the crystal, or is refused while AUTO is 1. -/
  | tbaseRefOff
  /-- TBASE_AUTO_ON (R198): A write of 1 to TBASE_CTL.AUTO makes a standing request and starts a stopped crystal. -/
  | tbaseAutoOn
  /-- SETEVC (R204): LINK_CMD.OP SETEVC captures a value that the counter takes at the next slot start. -/
  | setevc
  /-- CANCELSET (R204): LINK_CMD.OP CANCELSET withdraws a waiting SETEVC. -/
  | cancelset
  /-- COMMIT (R253): CIPH_KCMD.OP COMMIT loads the staged key into the selected slot, or sets KPERR. -/
  | keyCommit
  /-- KEY_ERASE (R254): CIPH_KCMD.OP ERASE clears the selected key slot. -/
  | keyErase
  /-- ERASEALL (R254): CIPH_KCMD.OP ERASEALL clears key slots 0-255. -/
  | eraseall
  /-- ALMCLR (R260): A write of 1 to CIPH_CTL.ALMCLR while ALMACT is 0 clears HALTED and reloads the device keys. -/
  | almclr
  /-- DEVICE_KEY_LOAD_DONE (R255): The device-key working copies are loaded and DKREADY becomes 1. -/
  | deviceKeyLoadDone
  /-- TRNG_HEALTH_FAIL (R262): A health test fails, so HFAIL is set, output stops and a running RNG request ends with RNG_FAIL. -/
  | trngHealthFail
  /-- MARGIN0 (R299): FLC command MARGIN0 starts re-reading pages at the stricter programmed threshold. -/
  | margin0
  /-- MARGIN1 (R299): FLC command MARGIN1 starts re-reading pages at the stricter erased threshold. -/
  | margin1
  /-- BSEL (R306): FLC command BSEL writes the boot selector with COUNT + 1 and the new region. -/
  | flashBsel
  /-- PAD_RELEASE (R414): A write of 1 to SYS_PADCTL.RELEASE moves the pads to their register state and clears HELD. -/
  | padRelease
  /-- MEMRD (R400): Mailbox hardware serves a MEMRD frame by reading words and placing a response. -/
  | memrd
  /-- MEMWR (R400): Mailbox hardware serves a MEMWR frame by writing words and placing a response. -/
  | memwr
  /-- RXDONE (R400): HOSTIF_CMD.OP RXDONE releases the receive buffer. -/
  | rxdone
  /-- HOST_TXGO (R400): HOSTIF_CMD.OP TXGO appends the CRC and makes the reply pending for GET. -/
  | hostTxgo
  /-- TXCANCEL (R400): HOSTIF_CMD.OP TXCANCEL withdraws a pending reply frame. -/
  | txcancel
  /-- SADC_START (R406): SADC_CMD.START or the SADC task input requests one conversion on SADC_CTL.CH. -/
  | sadcStart
  deriving DecidableEq, Repr

end Sys2Proof
end

