-- ==== Sys2Proof/Config.lean ====
section
/-! DEFINITION. The free values of the model: constants without a body, one for each value that spec/ leaves to the device or
does not state. Nothing can be proved of their values, so a statement about them holds for every value. Where a value may
differ at each occurrence, the first argument is `State.free`, a counter that the step reads and advances. -/

namespace Sys2Proof.Config

/-- Contents of boot ROM, octet by octet (Table 1-6): the manual prints no ROM image. -/
opaque bootRom : Nat → Byte

/-- What a byte reads whose contents the manual calls undefined: a bank that left OFF (R266), a page or block whose
program or erase was abandoned (R307), overlapping transmit queues (R434). The first argument names the loss. -/
opaque lostByte : Nat → Nat → Byte

/-- A word that the manual leaves open or that no command carries; the argument tells one use from another. -/
opaque freeWord : Nat → Word

/-- VCO band code found by a calibration step (R66: device dependent). -/
opaque calBand : Nat → Nat → BitVec 6

/-- Fine tuning code found by a calibration step (R66: device dependent). -/
opaque calFine : Nat → Nat → BitVec 8

/-- What the temperature sensor reads at a lock, in °C (R66): no command carries it. -/
opaque sensor : Nat → Int

/-- The eight AES-256 device keys, from device-unique fuses (R255): key, octet. -/
opaque deviceKey : Nat → Nat → Byte

/-- The two fused SHA-256 hashes of the signer keys (R386): key, octet. -/
opaque signerHash : Nat → Nat → Byte

/-- `SYS_KEYSTAT` as the fuses stand before any revocation (Table 16-18). -/
opaque keyFuses : BitVec 4

/-- Whether the mean of counted sub-window powers is rounded up to 0.25 dBm (Table 4-10: the manual states no rounding). -/
opaque meanUp : List Int → Bool

/-- Milliseconds that the slow RC counts in a number of 1/40 µs ticks of network time (R409: ±10%). -/
opaque slowRcMs : Nat → Nat

/-- A count or a choice that the manual leaves open; the argument tells one use from another. -/
opaque freeNat : Nat → Nat

/-- Whether a cache still holds a line it once loaded when that is next asked (R16, R18: the manual states no replacement). -/
opaque cacheHolds : Nat → Bool

end Sys2Proof.Config
end

