-- ==== Sys2Proof/Machine/Regs.lean ====
section
/-! DEFINITION. Names of the registers and fields of the register maps of spec/ (each name is the manual's, `UNIT_REGISTER`
and `UNIT_REGISTER_FIELD`). A register is its physical address (R31, Tables 1-6, 1-10, 1-11 and each unit's own
maps); a field is an address, the number of its lowest bit and its width (R4). The two collectors' registers carry the
collector as first index. -/

namespace Sys2Proof.Machine

/-- A field of a register: R4 gives the numbering, the unit's register map the place. -/
structure Field where
  addr : Nat
  lo : Nat
  width : Nat
  deriving DecidableEq, Repr

namespace Reg

abbrev SYS_ID : Nat := 0x40000000
abbrev SYS_ID_PART : Field := ⟨SYS_ID, 16, 16⟩
abbrev SYS_ID_REV : Field := ⟨SYS_ID, 0, 8⟩
abbrev SYS_RSTCAUSE : Nat := 0x40000004
abbrev SYS_RSTCAUSE_DBGRST : Field := ⟨SYS_RSTCAUSE, 13, 1⟩
abbrev SYS_RSTCAUSE_SAFEEXIT : Field := ⟨SYS_RSTCAUSE, 12, 1⟩
abbrev SYS_RSTCAUSE_SWRST : Field := ⟨SYS_RSTCAUSE, 11, 1⟩
abbrev SYS_RSTCAUSE_REELFATAL : Field := ⟨SYS_RSTCAUSE, 10, 1⟩
abbrev SYS_RSTCAUSE_DFAULT1 : Field := ⟨SYS_RSTCAUSE, 9, 1⟩
abbrev SYS_RSTCAUSE_DFAULT0 : Field := ⟨SYS_RSTCAUSE, 8, 1⟩
abbrev SYS_RSTCAUSE_WDT1 : Field := ⟨SYS_RSTCAUSE, 7, 1⟩
abbrev SYS_RSTCAUSE_WDT0 : Field := ⟨SYS_RSTCAUSE, 6, 1⟩
abbrev SYS_RSTCAUSE_STBYWAKE : Field := ⟨SYS_RSTCAUSE, 5, 1⟩
abbrev SYS_RSTCAUSE_HIBWAKE : Field := ⟨SYS_RSTCAUSE, 4, 1⟩
abbrev SYS_RSTCAUSE_OFFWAKE : Field := ⟨SYS_RSTCAUSE, 3, 1⟩
abbrev SYS_RSTCAUSE_BOR : Field := ⟨SYS_RSTCAUSE, 2, 1⟩
abbrev SYS_RSTCAUSE_NRST : Field := ⟨SYS_RSTCAUSE, 1, 1⟩
abbrev SYS_RSTCAUSE_POR : Field := ⟨SYS_RSTCAUSE, 0, 1⟩
abbrev SYS_SWRST : Nat := 0x40000008
abbrev SYS_SWRST_KEY : Field := ⟨SYS_SWRST, 16, 16⟩
abbrev SYS_SWRST_SCOPE : Field := ⟨SYS_SWRST, 0, 2⟩
abbrev SYS_C0VEC : Nat := 0x4000000C
abbrev SYS_C0VEC_ADDR : Field := ⟨SYS_C0VEC, 1, 31⟩
abbrev SYS_C1VEC : Nat := 0x40000010
abbrev SYS_C1VEC_ADDR : Field := ⟨SYS_C1VEC, 1, 31⟩
abbrev SYS_C1CTL : Nat := 0x40000014
abbrev SYS_C1CTL_RUN : Field := ⟨SYS_C1CTL, 0, 1⟩
abbrev SYS_RIPVEC : Nat := 0x40000018
abbrev SYS_RIPVEC_ADDR : Field := ⟨SYS_RIPVEC, 1, 31⟩
abbrev SYS_MODE : Nat := 0x40000020
abbrev SYS_MODE_PREV : Field := ⟨SYS_MODE, 8, 4⟩
abbrev SYS_MODE_MODE : Field := ⟨SYS_MODE, 0, 4⟩
abbrev SYS_BOOTGOOD : Nat := 0x40000030
abbrev SYS_BOOTGOOD_KEY : Field := ⟨SYS_BOOTGOOD, 16, 16⟩
abbrev SYS_BOOTSTAT : Nat := 0x40000034
abbrev SYS_BOOTSTAT_SWAPS : Field := ⟨SYS_BOOTSTAT, 16, 16⟩
abbrev SYS_BOOTSTAT_BADWORD : Field := ⟨SYS_BOOTSTAT, 14, 1⟩
abbrev SYS_BOOTSTAT_ROLLEDBACK : Field := ⟨SYS_BOOTSTAT, 13, 1⟩
abbrev SYS_BOOTSTAT_FIRST_START : Field := ⟨SYS_BOOTSTAT, 12, 1⟩
abbrev SYS_BOOTSTAT_SWAPPED : Field := ⟨SYS_BOOTSTAT, 11, 1⟩
abbrev SYS_BOOTSTAT_RECOVERY : Field := ⟨SYS_BOOTSTAT, 10, 1⟩
abbrev SYS_BOOTSTAT_BSELEXH : Field := ⟨SYS_BOOTSTAT, 9, 1⟩
abbrev SYS_BOOTSTAT_PROB : Field := ⟨SYS_BOOTSTAT, 8, 1⟩
abbrev SYS_BOOTSTAT_ATTEMPTS : Field := ⟨SYS_BOOTSTAT, 0, 8⟩
abbrev SYS_STARTSTAT : Nat := 0x40000038
abbrev SYS_STARTSTAT_DUR : Field := ⟨SYS_STARTSTAT, 16, 16⟩
abbrev SYS_STARTSTAT_JRNFIX : Field := ⟨SYS_STARTSTAT, 4, 1⟩
abbrev SYS_STARTSTAT_RCALSKIP : Field := ⟨SYS_STARTSTAT, 3, 1⟩
abbrev SYS_STARTSTAT_RXBUSY : Field := ⟨SYS_STARTSTAT, 2, 1⟩
abbrev SYS_STARTSTAT_RCALBUSY : Field := ⟨SYS_STARTSTAT, 1, 1⟩
abbrev SYS_STARTSTAT_COLD : Field := ⟨SYS_STARTSTAT, 0, 1⟩
abbrev SYS_UPDSRC : Nat := 0x40000040
abbrev SYS_UPDSRC_ADDR : Field := ⟨SYS_UPDSRC, 2, 30⟩
abbrev SYS_UPDCMD : Nat := 0x40000044
abbrev SYS_UPDCMD_KEY : Field := ⟨SYS_UPDCMD, 16, 16⟩
abbrev SYS_UPDCMD_QSOFTMS : Field := ⟨SYS_UPDCMD, 8, 8⟩
abbrev SYS_UPDCMD_OP : Field := ⟨SYS_UPDCMD, 0, 2⟩
abbrev SYS_UPDSTAT : Nat := 0x40000048
abbrev SYS_UPDSTAT_ENTRY : Field := ⟨SYS_UPDSTAT, 16, 5⟩
abbrev SYS_UPDSTAT_PHASE : Field := ⟨SYS_UPDSTAT, 12, 4⟩
abbrev SYS_UPDSTAT_CODE : Field := ⟨SYS_UPDSTAT, 0, 8⟩
abbrev SYS_RELEASE : Nat := 0x4000004C
abbrev SYS_CFGVER_CUR : Nat := 0x40000050
abbrev SYS_CFGVER_PREV : Nat := 0x40000054
abbrev SYS_PAUSE : Nat := 0x40000058
abbrev SYS_KEYSTAT : Nat := 0x4000005C
abbrev SYS_KEYSTAT_REV1 : Field := ⟨SYS_KEYSTAT, 3, 1⟩
abbrev SYS_KEYSTAT_REV0 : Field := ⟨SYS_KEYSTAT, 2, 1⟩
abbrev SYS_KEYSTAT_KEY1 : Field := ⟨SYS_KEYSTAT, 1, 1⟩
abbrev SYS_KEYSTAT_KEY0 : Field := ⟨SYS_KEYSTAT, 0, 1⟩
abbrev SYS_SAFECTL : Nat := 0x40000060
abbrev SYS_SAFECTL_KEY : Field := ⟨SYS_SAFECTL, 16, 16⟩
abbrev SYS_PADCTL : Nat := 0x40000064
abbrev SYS_PADCTL_HELD : Field := ⟨SYS_PADCTL, 1, 1⟩
abbrev SYS_PADCTL_RELEASE : Field := ⟨SYS_PADCTL, 0, 1⟩
abbrev PWR_STATUS : Nat := 0x40001000
abbrev PWR_STATUS_TARGET : Field := ⟨PWR_STATUS, 8, 4⟩
abbrev PWR_STATUS_REFUSED : Field := ⟨PWR_STATUS, 6, 1⟩
abbrev PWR_STATUS_WAKEPEND : Field := ⟨PWR_STATUS, 5, 1⟩
abbrev PWR_STATUS_DELAYED : Field := ⟨PWR_STATUS, 4, 1⟩
abbrev PWR_STATUS_HSBUSY : Field := ⟨PWR_STATUS, 3, 1⟩
abbrev PWR_STATUS_CMDPEND : Field := ⟨PWR_STATUS, 2, 1⟩
abbrev PWR_STATUS_C1Q : Field := ⟨PWR_STATUS, 1, 1⟩
abbrev PWR_STATUS_C0Q : Field := ⟨PWR_STATUS, 0, 1⟩
abbrev PWR_CMD : Nat := 0x40001004
abbrev PWR_CMD_KEY : Field := ⟨PWR_CMD, 16, 16⟩
abbrev PWR_CMD_TARGET : Field := ⟨PWR_CMD, 4, 4⟩
abbrev PWR_CMD_OP : Field := ⟨PWR_CMD, 0, 2⟩
abbrev PWR_SLEEPCFG : Nat := 0x40001008
abbrev PWR_SLEEPCFG_MARGIN : Field := ⟨PWR_SLEEPCFG, 16, 16⟩
abbrev PWR_SLEEPCFG_SLOTEV : Field := ⟨PWR_SLEEPCFG, 4, 1⟩
abbrev PWR_SLEEPCFG_CAP : Field := ⟨PWR_SLEEPCFG, 1, 2⟩
abbrev PWR_SLEEPCFG_EN : Field := ⟨PWR_SLEEPCFG, 0, 1⟩
abbrev PWR_WAKEEN : Nat := 0x4000100C
abbrev PWR_WAKEEN_HOSTCS : Field := ⟨PWR_WAKEEN, 10, 1⟩
abbrev PWR_WAKEEN_ICOL : Field := ⟨PWR_WAKEEN, 9, 1⟩
abbrev PWR_WAKEEN_TASK : Field := ⟨PWR_WAKEEN, 8, 1⟩
abbrev PWR_WAKEEN_PIN : Field := ⟨PWR_WAKEEN, 4, 4⟩
abbrev PWR_WAKEEN_RTC1 : Field := ⟨PWR_WAKEEN, 3, 1⟩
abbrev PWR_WAKEEN_RTC0 : Field := ⟨PWR_WAKEEN, 2, 1⟩
abbrev PWR_WAKEEN_SLOT : Field := ⟨PWR_WAKEEN, 1, 1⟩
abbrev PWR_WAKEEN_WAKEAT : Field := ⟨PWR_WAKEEN, 0, 1⟩
abbrev PWR_WAKESRC : Nat := 0x40001010
abbrev PWR_WAKESRC_HOSTCS : Field := ⟨PWR_WAKESRC, 10, 1⟩
abbrev PWR_WAKESRC_ICOL : Field := ⟨PWR_WAKESRC, 9, 1⟩
abbrev PWR_WAKESRC_TASK : Field := ⟨PWR_WAKESRC, 8, 1⟩
abbrev PWR_WAKESRC_PIN : Field := ⟨PWR_WAKESRC, 4, 4⟩
abbrev PWR_WAKESRC_RTC1 : Field := ⟨PWR_WAKESRC, 3, 1⟩
abbrev PWR_WAKESRC_RTC0 : Field := ⟨PWR_WAKESRC, 2, 1⟩
abbrev PWR_WAKESRC_SLOT : Field := ⟨PWR_WAKESRC, 1, 1⟩
abbrev PWR_WAKESRC_WAKEAT : Field := ⟨PWR_WAKESRC, 0, 1⟩
abbrev PWR_WAKEAT_LO : Nat := 0x40001014
abbrev PWR_WAKEAT_HI : Nat := 0x40001018
abbrev PWR_WAKEAT_HI_EN : Field := ⟨PWR_WAKEAT_HI, 31, 1⟩
abbrev PWR_WAKEAT_HI_HI : Field := ⟨PWR_WAKEAT_HI, 0, 16⟩
abbrev PWR_HSRES : Nat := 0x4000101C
abbrev PWR_HSRES_TARGET : Field := ⟨PWR_HSRES, 24, 4⟩
abbrev PWR_HSRES_DOMAIN : Field := ⟨PWR_HSRES, 16, 3⟩
abbrev PWR_HSRES_UNIT : Field := ⟨PWR_HSRES, 8, 5⟩
abbrev PWR_HSRES_CODE : Field := ⟨PWR_HSRES, 0, 8⟩
abbrev PWR_HSCFG : Nat := 0x40001020
abbrev PWR_HSCFG_DLYMAX : Field := ⟨PWR_HSCFG, 0, 8⟩
abbrev PWR_DVFS : Nat := 0x40001024
abbrev PWR_DVFS_PACE : Field := ⟨PWR_DVFS, 4, 2⟩
abbrev PWR_DVFS_VSEL : Field := ⟨PWR_DVFS, 0, 2⟩
abbrev PWR_DVFSSTAT : Nat := 0x40001028
abbrev PWR_DVFSSTAT_STAP : Field := ⟨PWR_DVFSSTAT, 10, 2⟩
abbrev PWR_DVFSSTAT_PHELD : Field := ⟨PWR_DVFSSTAT, 9, 1⟩
abbrev PWR_DVFSSTAT_VHELD : Field := ⟨PWR_DVFSSTAT, 8, 1⟩
abbrev PWR_DVFSSTAT_RAMP : Field := ⟨PWR_DVFSSTAT, 7, 1⟩
abbrev PWR_DVFSSTAT_PCUR : Field := ⟨PWR_DVFSSTAT, 4, 2⟩
abbrev PWR_DVFSSTAT_VCUR : Field := ⟨PWR_DVFSSTAT, 0, 2⟩
abbrev PWR_HOVCFG : Nat := 0x4000102C
abbrev PWR_HOVCFG_XLEAD : Field := ⟨PWR_HOVCFG, 0, 11⟩
abbrev PWR_HOVSTAT : Nat := 0x40001030
abbrev PWR_HOVSTAT_ACTIVE : Field := ⟨PWR_HOVSTAT, 16, 16⟩
abbrev PWR_HOVSTAT_SUB : Field := ⟨PWR_HOVSTAT, 0, 2⟩
abbrev PWR_HOVTIME : Nat := 0x40001034
abbrev CFG_STATUS : Nat := 0x40002004
abbrev CFG_STATUS_DIGBUSY : Field := ⟨CFG_STATUS, 6, 1⟩
abbrev CFG_STATUS_STUCK : Field := ⟨CFG_STATUS, 5, 1⟩
abbrev CFG_STATUS_REFUSED : Field := ⟨CFG_STATUS, 4, 1⟩
abbrev CFG_STATUS_LATE : Field := ⟨CFG_STATUS, 3, 1⟩
abbrev CFG_STATUS_HELD : Field := ⟨CFG_STATUS, 2, 1⟩
abbrev CFG_STATUS_SCHED : Field := ⟨CFG_STATUS, 1, 1⟩
abbrev CFG_STATUS_MIXED : Field := ⟨CFG_STATUS, 0, 1⟩
abbrev CFG_EPOCH : Nat := 0x40002008
abbrev CFG_EPOCH_CUR : Field := ⟨CFG_EPOCH, 0, 16⟩
abbrev CFG_CMD : Nat := 0x4000200C
abbrev CFG_CMD_OP : Field := ⟨CFG_CMD, 0, 2⟩
abbrev CFG_AT_LO : Nat := 0x40002010
abbrev CFG_AT_HI : Nat := 0x40002014
abbrev CFG_AT_HI_VAL : Field := ⟨CFG_AT_HI, 0, 8⟩
abbrev CFG_WIN : Nat := 0x40002018
abbrev CFG_WIN_WINDOW : Field := ⟨CFG_WIN, 0, 8⟩
abbrev CFG_LAGLIM : Nat := 0x4000201C
abbrev CFG_LAGLIM_MS : Field := ⟨CFG_LAGLIM, 0, 16⟩
abbrev CFG_PEND : Nat := 0x40002020
abbrev CFG_WIGN : Nat := 0x40002024
abbrev CFG_USEL : Nat := 0x40002028
abbrev CFG_USEL_UNIT : Field := ⟨CFG_USEL, 0, 5⟩
abbrev CFG_LAGVAL : Nat := 0x4000202C
abbrev CFG_UDIG : Nat := 0x40002030
abbrev CFG_DIGEST : Nat := 0x40002040
abbrev CFG_SDIGEST : Nat := 0x40002044
abbrev RTC_STATUS : Nat := 0x40003000
abbrev RTC_STATUS_CVBUSY : Field := ⟨RTC_STATUS, 9, 1⟩
abbrev RTC_STATUS_HOURPEND : Field := ⟨RTC_STATUS, 8, 1⟩
abbrev RTC_STATUS_RESTORED : Field := ⟨RTC_STATUS, 7, 1⟩
abbrev RTC_STATUS_TRIMCLAMP : Field := ⟨RTC_STATUS, 6, 1⟩
abbrev RTC_STATUS_ADJ_ERR : Field := ⟨RTC_STATUS, 5, 1⟩
abbrev RTC_STATUS_CAL_ERR : Field := ⟨RTC_STATUS, 4, 1⟩
abbrev RTC_STATUS_VBKPLOW : Field := ⟨RTC_STATUS, 3, 1⟩
abbrev RTC_STATUS_OSCSTOP : Field := ⟨RTC_STATUS, 2, 1⟩
abbrev RTC_STATUS_TIME_SUSPECT : Field := ⟨RTC_STATUS, 0, 1⟩
abbrev RTC_CMD : Nat := 0x40003004
abbrev RTC_CMD_KEY : Field := ⟨RTC_CMD, 16, 16⟩
abbrev RTC_CMD_OP : Field := ⟨RTC_CMD, 0, 3⟩
abbrev RTC_SEC_LO : Nat := 0x40003008
abbrev RTC_SEC_HI : Nat := 0x4000300C
abbrev RTC_SEC_HI_VAL : Field := ⟨RTC_SEC_HI, 0, 16⟩
abbrev RTC_FRAC : Nat := 0x40003010
abbrev RTC_FRAC_FRAC : Field := ⟨RTC_FRAC, 0, 16⟩
abbrev RTC_SETSEC_LO : Nat := 0x40003014
abbrev RTC_SETSEC_HI : Nat := 0x40003018
abbrev RTC_SETSEC_HI_VAL : Field := ⟨RTC_SETSEC_HI, 0, 16⟩
abbrev RTC_SETFRAC : Nat := 0x4000301C
abbrev RTC_SETFRAC_FRAC : Field := ⟨RTC_SETFRAC, 0, 16⟩
abbrev RTC_CALDATE : Nat := 0x40003020
abbrev RTC_CALDATE_OOR : Field := ⟨RTC_CALDATE, 31, 1⟩
abbrev RTC_CALDATE_WDAY : Field := ⟨RTC_CALDATE, 28, 3⟩
abbrev RTC_CALDATE_YEAR : Field := ⟨RTC_CALDATE, 16, 12⟩
abbrev RTC_CALDATE_MONTH : Field := ⟨RTC_CALDATE, 8, 4⟩
abbrev RTC_CALDATE_DAY : Field := ⟨RTC_CALDATE, 0, 5⟩
abbrev RTC_CALTIME : Nat := 0x40003024
abbrev RTC_CALTIME_HOUR : Field := ⟨RTC_CALTIME, 16, 5⟩
abbrev RTC_CALTIME_MIN : Field := ⟨RTC_CALTIME, 8, 6⟩
abbrev RTC_CALTIME_SEC : Field := ⟨RTC_CALTIME, 0, 6⟩
abbrev RTC_NOWDATE : Nat := 0x40003028
abbrev RTC_NOWDATE_OOR : Field := ⟨RTC_NOWDATE, 31, 1⟩
abbrev RTC_NOWDATE_WDAY : Field := ⟨RTC_NOWDATE, 28, 3⟩
abbrev RTC_NOWDATE_YEAR : Field := ⟨RTC_NOWDATE, 16, 12⟩
abbrev RTC_NOWDATE_MONTH : Field := ⟨RTC_NOWDATE, 8, 4⟩
abbrev RTC_NOWDATE_DAY : Field := ⟨RTC_NOWDATE, 0, 5⟩
abbrev RTC_NOWTIME : Nat := 0x4000302C
abbrev RTC_NOWTIME_HOUR : Field := ⟨RTC_NOWTIME, 16, 5⟩
abbrev RTC_NOWTIME_MIN : Field := ⟨RTC_NOWTIME, 8, 6⟩
abbrev RTC_NOWTIME_SEC : Field := ⟨RTC_NOWTIME, 0, 6⟩
abbrev RTC_TRIM : Nat := 0x40003030
abbrev RTC_TRIM_AUTO : Field := ⟨RTC_TRIM, 31, 1⟩
abbrev RTC_TRIM_TRIM : Field := ⟨RTC_TRIM, 0, 16⟩
abbrev RTC_ALM_LO (k : Nat) : Nat := 0x40003040 + 16 * k
abbrev RTC_ALM_HI (k : Nat) : Nat := 0x40003044 + 16 * k
abbrev RTC_ALM_HI_VAL (k : Nat) : Field := ⟨(RTC_ALM_HI k), 0, 16⟩
abbrev RTC_ALMPER (k : Nat) : Nat := 0x40003048 + 16 * k
abbrev RTC_ALMCTL (k : Nat) : Nat := 0x4000304C + 16 * k
abbrev RTC_ALMCTL_PAST (k : Nat) : Field := ⟨(RTC_ALMCTL k), 3, 1⟩
abbrev RTC_ALMCTL_ALARM_BY_ADJUST (k : Nat) : Field := ⟨(RTC_ALMCTL k), 2, 1⟩
abbrev RTC_ALMCTL_FIRED (k : Nat) : Field := ⟨(RTC_ALMCTL k), 1, 1⟩
abbrev RTC_ALMCTL_ARM (k : Nat) : Field := ⟨(RTC_ALMCTL k), 0, 1⟩
abbrev TBASE_CTL : Nat := 0x40004000
abbrev TBASE_CTL_AUTO : Field := ⟨TBASE_CTL, 1, 1⟩
abbrev TBASE_CTL_REF : Field := ⟨TBASE_CTL, 0, 1⟩
abbrev TBASE_STATUS : Nat := 0x40004004
abbrev TBASE_STATUS_LFCALOK : Field := ⟨TBASE_STATUS, 4, 1⟩
abbrev TBASE_STATUS_LFOK : Field := ⟨TBASE_STATUS, 3, 1⟩
abbrev TBASE_STATUS_REFUSED : Field := ⟨TBASE_STATUS, 2, 1⟩
abbrev TBASE_STATUS_XTAL_READY : Field := ⟨TBASE_STATUS, 1, 1⟩
abbrev TBASE_STATUS_ONXTAL : Field := ⟨TBASE_STATUS, 0, 1⟩
abbrev TBASE_NOW_LO : Nat := 0x40004008
abbrev TBASE_NOW_HI : Nat := 0x4000400C
abbrev TBASE_NOW_F : Nat := 0x40004010
abbrev TBASE_LFCAL : Nat := 0x40004014
abbrev EVL_STATUS : Nat := 0x40005000
abbrev EVL_STATUS_SUBCONF : Field := ⟨EVL_STATUS, 1, 1⟩
abbrev EVL_STATUS_LOOP : Field := ⟨EVL_STATUS, 0, 1⟩
abbrev EVL_LOOP : Nat := 0x40005004
abbrev EVL_LOOP_COUNT : Field := ⟨EVL_LOOP, 16, 16⟩
abbrev EVL_LOOP_HOP : Field := ⟨EVL_LOOP, 8, 4⟩
abbrev EVL_LOOP_LINE : Field := ⟨EVL_LOOP, 0, 7⟩
abbrev EVL_PUBSW : Nat := 0x40005008
abbrev EVL_PUBSW_HOP : Field := ⟨EVL_PUBSW, 8, 3⟩
abbrev EVL_PUBSW_LINE : Field := ⟨EVL_PUBSW, 0, 7⟩
abbrev EVL_WATCH (k : Nat) : Nat := 0x40005010 + 4 * k
abbrev EVL_WATCHEN (k : Nat) : Nat := 0x40005020 + 4 * k
abbrev EVL_LINECFG (k : Nat) : Nat := 0x40005100 + 4 * k
abbrev EVL_LINECFG_HOPLIM (k : Nat) : Field := ⟨(EVL_LINECFG k), 16, 3⟩
abbrev EVL_LINECFG_SUB (k : Nat) : Field := ⟨(EVL_LINECFG k), 0, 9⟩
abbrev EVL_COAL (k : Nat) : Nat := 0x40005300 + 4 * k
abbrev EVL_COAL_COUNT (k : Nat) : Field := ⟨(EVL_COAL k), 0, 16⟩
abbrev EVL_PUBCFG (k : Nat) : Nat := 0x40005500 + 4 * k
abbrev EVL_PUBCFG_LINE (k : Nat) : Field := ⟨(EVL_PUBCFG k), 0, 7⟩
abbrev ICOL_TAKE (c : Nat) : Nat := 0x40006000 + 0x1000 * c
abbrev ICOL_TAKE_VALID (c : Nat) : Field := ⟨(ICOL_TAKE c), 31, 1⟩
abbrev ICOL_TAKE_PRI (c : Nat) : Field := ⟨(ICOL_TAKE c), 28, 3⟩
abbrev ICOL_TAKE_SRC (c : Nat) : Field := ⟨(ICOL_TAKE c), 16, 10⟩
abbrev ICOL_TAKE_SLOT (c : Nat) : Field := ⟨(ICOL_TAKE c), 0, 9⟩
abbrev ICOL_EOI (c : Nat) : Nat := 0x40006004 + 0x1000 * c
abbrev ICOL_RUN (c : Nat) : Nat := 0x40006008 + 0x1000 * c
abbrev ICOL_RUN_DEPTH (c : Nat) : Field := ⟨(ICOL_RUN c), 16, 4⟩
abbrev ICOL_RUN_PRI (c : Nat) : Field := ⟨(ICOL_RUN c), 0, 4⟩
abbrev ICOL_STATUS (c : Nat) : Nat := 0x4000600C + 0x1000 * c
abbrev ICOL_STATUS_WRITE_IGNORED (c : Nat) : Field := ⟨(ICOL_STATUS c), 4, 1⟩
abbrev ICOL_STATUS_EOIERR (c : Nat) : Field := ⟨(ICOL_STATUS c), 3, 1⟩
abbrev ICOL_STATUS_OVF (c : Nat) : Field := ⟨(ICOL_STATUS c), 2, 1⟩
abbrev ICOL_STATUS_MODHOLD (c : Nat) : Field := ⟨(ICOL_STATUS c), 1, 1⟩
abbrev ICOL_STATUS_MEIP (c : Nat) : Field := ⟨(ICOL_STATUS c), 0, 1⟩
abbrev ICOL_CTL (c : Nat) : Nat := 0x40006010 + 0x1000 * c
abbrev ICOL_CTL_THR (c : Nat) : Field := ⟨(ICOL_CTL c), 8, 3⟩
abbrev ICOL_CTL_EN (c : Nat) : Field := ⟨(ICOL_CTL c), 0, 1⟩
abbrev ICOL_RBASE (c : Nat) : Nat := 0x40006014 + 0x1000 * c
abbrev ICOL_RBASE_ADDR (c : Nat) : Field := ⟨(ICOL_RBASE c), 4, 28⟩
abbrev ICOL_RCFG (c : Nat) : Nat := 0x40006018 + 0x1000 * c
abbrev ICOL_RCFG_DEPTH (c : Nat) : Field := ⟨(ICOL_RCFG c), 0, 7⟩
abbrev ICOL_MOD (c : Nat) : Nat := 0x4000601C + 0x1000 * c
abbrev ICOL_MOD_BYP (c : Nat) : Field := ⟨(ICOL_MOD c), 28, 4⟩
abbrev ICOL_MOD_T (c : Nat) : Field := ⟨(ICOL_MOD c), 16, 12⟩
abbrev ICOL_MOD_N (c : Nat) : Field := ⟨(ICOL_MOD c), 0, 4⟩
abbrev ICOL_OVFCNT (c : Nat) : Nat := 0x40006020 + 0x1000 * c
abbrev ICOL_OVFCNT_COUNT (c : Nat) : Field := ⟨(ICOL_OVFCNT c), 0, 16⟩
abbrev ICOL_QCNT0 (c : Nat) : Nat := 0x40006024 + 0x1000 * c
abbrev ICOL_QCNT1 (c : Nat) : Nat := 0x40006028 + 0x1000 * c
abbrev ICOL_SWPLO (c : Nat) : Nat := 0x40006030 + 0x1000 * c
abbrev ICOL_SWPHI (c : Nat) : Nat := 0x40006034 + 0x1000 * c
abbrev ICOL_SWPOST (c : Nat) : Nat := 0x40006038 + 0x1000 * c
abbrev ICOL_SWPOST_PRI (c : Nat) : Field := ⟨(ICOL_SWPOST c), 12, 3⟩
abbrev ICOL_SWPOST_SRC (c : Nat) : Field := ⟨(ICOL_SWPOST c), 0, 10⟩
abbrev ICOL_PRI (c k : Nat) : Nat := 0x40006200 + 0x1000 * c + 4 * k
abbrev ICOL_PRI_P0 (c k : Nat) : Field := ⟨(ICOL_PRI c k), 0, 3⟩
abbrev ICOL_PRI_P1 (c k : Nat) : Field := ⟨(ICOL_PRI c k), 4, 3⟩
abbrev ICOL_PRI_P2 (c k : Nat) : Field := ⟨(ICOL_PRI c k), 8, 3⟩
abbrev ICOL_PRI_P3 (c k : Nat) : Field := ⟨(ICOL_PRI c k), 12, 3⟩
abbrev ICOL_PRI_P4 (c k : Nat) : Field := ⟨(ICOL_PRI c k), 16, 3⟩
abbrev ICOL_PRI_P5 (c k : Nat) : Field := ⟨(ICOL_PRI c k), 20, 3⟩
abbrev ICOL_PRI_P6 (c k : Nat) : Field := ⟨(ICOL_PRI c k), 24, 3⟩
abbrev ICOL_PRI_P7 (c k : Nat) : Field := ⟨(ICOL_PRI c k), 28, 3⟩
abbrev FLC_CTL : Nat := 0x40008000
abbrev FLC_CTL_NOTIFY : Field := ⟨FLC_CTL, 1, 1⟩
abbrev FLC_CTL_GUARD : Field := ⟨FLC_CTL, 0, 1⟩
abbrev FLC_STATUS : Nat := 0x40008004
abbrev FLC_STATUS_UE : Field := ⟨FLC_STATUS, 9, 1⟩
abbrev FLC_STATUS_RETRIED : Field := ⟨FLC_STATUS, 8, 1⟩
abbrev FLC_STATUS_CE : Field := ⟨FLC_STATUS, 7, 1⟩
abbrev FLC_STATUS_READ_ERASING : Field := ⟨FLC_STATUS, 6, 1⟩
abbrev FLC_STATUS_OP : Field := ⟨FLC_STATUS, 2, 3⟩
abbrev FLC_STATUS_SUSPENDED : Field := ⟨FLC_STATUS, 1, 1⟩
abbrev FLC_STATUS_BUSY : Field := ⟨FLC_STATUS, 0, 1⟩
abbrev FLC_CMD : Nat := 0x40008008
abbrev FLC_CMD_KEY : Field := ⟨FLC_CMD, 16, 16⟩
abbrev FLC_CMD_OP : Field := ⟨FLC_CMD, 0, 4⟩
abbrev FLC_ADDR : Nat := 0x4000800C
abbrev FLC_ARG : Nat := 0x40008010
abbrev FLC_ARG_PAGES : Field := ⟨FLC_ARG, 16, 9⟩
abbrev FLC_ARG_REGION : Field := ⟨FLC_ARG, 0, 1⟩
abbrev FLC_RESULT : Nat := 0x40008014
abbrev FLC_RESULT_DUR : Field := ⟨FLC_RESULT, 16, 16⟩
abbrev FLC_RESULT_OP : Field := ⟨FLC_RESULT, 8, 4⟩
abbrev FLC_RESULT_CODE : Field := ⟨FLC_RESULT, 0, 8⟩
abbrev FLC_PROT : Nat := 0x40008018
abbrev FLC_PROT_DUMP : Field := ⟨FLC_PROT, 2, 1⟩
abbrev FLC_PROT_TWIN : Field := ⟨FLC_PROT, 1, 1⟩
abbrev FLC_PROT_LIVE : Field := ⟨FLC_PROT, 0, 1⟩
abbrev FLC_BOOT : Nat := 0x4000801C
abbrev FLC_BOOT_BSELBAD : Field := ⟨FLC_BOOT, 1, 1⟩
abbrev FLC_BOOT_LIVE : Field := ⟨FLC_BOOT, 0, 1⟩
abbrev FLC_UEADDR : Nat := 0x40008020
abbrev FLC_RRSTAT : Nat := 0x40008024
abbrev FLC_RRSTAT_COUNT : Field := ⟨FLC_RRSTAT, 16, 16⟩
abbrev FLC_RRSTAT_LASTSTEP : Field := ⟨FLC_RRSTAT, 0, 3⟩
abbrev FLC_RRADDR : Nat := 0x40008028
abbrev FLC_ECNT : Nat := 0x4000802C
abbrev FLC_ECNT_UE : Field := ⟨FLC_ECNT, 16, 16⟩
abbrev FLC_ECNT_CE : Field := ⟨FLC_ECNT, 0, 16⟩
abbrev FLC_MSTAT : Nat := 0x40008030
abbrev FLC_MSTAT_BITS : Field := ⟨FLC_MSTAT, 16, 16⟩
abbrev FLC_MSTAT_MODE : Field := ⟨FLC_MSTAT, 0, 1⟩
abbrev FLC_MADDR : Nat := 0x40008034
abbrev FLC_ESCNT : Nat := 0x40008038
abbrev FLC_ESCNT_COUNT : Field := ⟨FLC_ESCNT, 0, 16⟩
abbrev FLC_ABORT : Nat := 0x4000803C
abbrev FLC_ABORT_VALID : Field := ⟨FLC_ABORT, 31, 1⟩
abbrev FLC_ABORT_BLOCK : Field := ⟨FLC_ABORT, 0, 10⟩
abbrev FLC_PBUF (k : Nat) : Nat := 0x40008100 + 4 * k
abbrev MEMC_STATUS : Nat := 0x40009000
abbrev MEMC_STATUS_SCANDONE : Field := ⟨MEMC_STATUS, 7, 1⟩
abbrev MEMC_STATUS_RXUE : Field := ⟨MEMC_STATUS, 6, 1⟩
abbrev MEMC_STATUS_BUE : Field := ⟨MEMC_STATUS, 5, 1⟩
abbrev MEMC_STATUS_BCE : Field := ⟨MEMC_STATUS, 4, 1⟩
abbrev MEMC_STATUS_RDENY : Field := ⟨MEMC_STATUS, 3, 1⟩
abbrev MEMC_STATUS_TBUSY : Field := ⟨MEMC_STATUS, 2, 1⟩
abbrev MEMC_BANKCTL : Nat := 0x40009004
abbrev MEMC_RBANKCTL : Nat := 0x40009008
abbrev MEMC_BANKSTAT : Nat := 0x4000900C
abbrev MEMC_RBANKSTAT : Nat := 0x40009010
abbrev MEMC_BAD : Nat := 0x40009014
abbrev MEMC_BAD_RBANK : Field := ⟨MEMC_BAD, 16, 4⟩
abbrev MEMC_BAD_SBANK : Field := ⟨MEMC_BAD, 0, 16⟩
abbrev MEMC_RETSEL : Nat := 0x40009018
abbrev MEMC_RETSEL_RBANK : Field := ⟨MEMC_RETSEL, 16, 4⟩
abbrev MEMC_RETSEL_SBANK : Field := ⟨MEMC_RETSEL, 0, 16⟩
abbrev MEMC_TCMD : Nat := 0x40009020
abbrev MEMC_TCMD_BANK : Field := ⟨MEMC_TCMD, 16, 5⟩
abbrev MEMC_TCMD_OP : Field := ⟨MEMC_TCMD, 0, 2⟩
abbrev MEMC_TSTAT : Nat := 0x40009024
abbrev MEMC_TSTAT_BANK : Field := ⟨MEMC_TSTAT, 16, 5⟩
abbrev MEMC_TSTAT_FREE : Field := ⟨MEMC_TSTAT, 8, 4⟩
abbrev MEMC_TSTAT_CODE : Field := ⟨MEMC_TSTAT, 0, 8⟩
abbrev MEMC_BERR : Nat := 0x40009028
abbrev MEMC_BCNT : Nat := 0x4000902C
abbrev MEMC_BCNT_UE : Field := ⟨MEMC_BCNT, 16, 16⟩
abbrev MEMC_BCNT_CE : Field := ⟨MEMC_BCNT, 0, 16⟩
abbrev MEMC_REPAIR (k : Nat) : Nat := 0x40009040 + 4 * k
abbrev MEMC_REPAIR_FREE (k : Nat) : Field := ⟨(MEMC_REPAIR k), 8, 4⟩
abbrev MEMC_REPAIR_SOFT (k : Nat) : Field := ⟨(MEMC_REPAIR k), 4, 4⟩
abbrev MEMC_REPAIR_FUSED (k : Nat) : Field := ⟨(MEMC_REPAIR k), 0, 4⟩
abbrev CIPH_CTL : Nat := 0x4000A000
abbrev CIPH_CTL_ALMCLR : Field := ⟨CIPH_CTL, 1, 1⟩
abbrev CIPH_CTL_EN : Field := ⟨CIPH_CTL, 0, 1⟩
abbrev CIPH_STATUS : Nat := 0x4000A004
abbrev CIPH_STATUS_WRITE_IGNORED : Field := ⟨CIPH_STATUS, 5, 1⟩
abbrev CIPH_STATUS_KPERR : Field := ⟨CIPH_STATUS, 4, 1⟩
abbrev CIPH_STATUS_DKREADY : Field := ⟨CIPH_STATUS, 3, 1⟩
abbrev CIPH_STATUS_ALMACT : Field := ⟨CIPH_STATUS, 2, 1⟩
abbrev CIPH_STATUS_HALTED : Field := ⟨CIPH_STATUS, 1, 1⟩
abbrev CIPH_STATUS_BUSY : Field := ⟨CIPH_STATUS, 0, 1⟩
abbrev CIPH_ALMCAUSE : Nat := 0x4000A008
abbrev CIPH_ALMCAUSE_COUNT : Field := ⟨CIPH_ALMCAUSE, 16, 16⟩
abbrev CIPH_ALMCAUSE_SHIELD : Field := ⟨CIPH_ALMCAUSE, 3, 1⟩
abbrev CIPH_ALMCAUSE_TIMING : Field := ⟨CIPH_ALMCAUSE, 2, 1⟩
abbrev CIPH_ALMCAUSE_TEMP : Field := ⟨CIPH_ALMCAUSE, 1, 1⟩
abbrev CIPH_ALMCAUSE_GLITCH : Field := ⟨CIPH_ALMCAUSE, 0, 1⟩
abbrev CIPH_ALMEN : Nat := 0x4000A00C
abbrev CIPH_ALMEN_LOCK : Field := ⟨CIPH_ALMEN, 31, 1⟩
abbrev CIPH_ALMEN_SHIELD : Field := ⟨CIPH_ALMEN, 3, 1⟩
abbrev CIPH_ALMEN_TIMING : Field := ⟨CIPH_ALMEN, 2, 1⟩
abbrev CIPH_ALMEN_TEMP : Field := ⟨CIPH_ALMEN, 1, 1⟩
abbrev CIPH_ALMEN_GLITCH : Field := ⟨CIPH_ALMEN, 0, 1⟩
abbrev CIPH_KSEL : Nat := 0x4000A010
abbrev CIPH_KSEL_USAGE : Field := ⟨CIPH_KSEL, 10, 4⟩
abbrev CIPH_KSEL_KSIZE : Field := ⟨CIPH_KSEL, 9, 1⟩
abbrev CIPH_KSEL_SLOT : Field := ⟨CIPH_KSEL, 0, 8⟩
abbrev CIPH_KCMD : Nat := 0x4000A014
abbrev CIPH_KCMD_OP : Field := ⟨CIPH_KCMD, 0, 2⟩
abbrev CIPH_KDATA (k : Nat) : Nat := 0x4000A020 + 4 * k
abbrev CIPH_QBASE (k : Nat) : Nat := 0x4000A040 + 16 * k
abbrev CIPH_QBASE_ADDR (k : Nat) : Field := ⟨(CIPH_QBASE k), 5, 27⟩
abbrev CIPH_QPUT (k : Nat) : Nat := 0x4000A044 + 16 * k
abbrev CIPH_QPUT_VAL (k : Nat) : Field := ⟨(CIPH_QPUT k), 0, 16⟩
abbrev CIPH_QDONE (k : Nat) : Nat := 0x4000A048 + 16 * k
abbrev CIPH_QDONE_VAL (k : Nat) : Field := ⟨(CIPH_QDONE k), 0, 16⟩
abbrev CIPH_QCTL (k : Nat) : Nat := 0x4000A04C + 16 * k
abbrev CIPH_QCTL_QERR (k : Nat) : Field := ⟨(CIPH_QCTL k), 1, 1⟩
abbrev CIPH_QCTL_FLUSH (k : Nat) : Field := ⟨(CIPH_QCTL k), 0, 1⟩
abbrev CIPH_KINFO (k : Nat) : Nat := 0x4000A400 + 4 * k
abbrev CIPH_KINFO_VALID (k : Nat) : Field := ⟨(CIPH_KINFO k), 31, 1⟩
abbrev CIPH_KINFO_KSIZE (k : Nat) : Field := ⟨(CIPH_KINFO k), 30, 1⟩
abbrev CIPH_KINFO_USAGE (k : Nat) : Field := ⟨(CIPH_KINFO k), 26, 4⟩
abbrev CIPH_KINFO_ORIGIN (k : Nat) : Field := ⟨(CIPH_KINFO k), 24, 2⟩
abbrev RFE_CTL : Nat := 0x4000B000
abbrev RFE_CTL_EN : Field := ⟨RFE_CTL, 0, 1⟩
abbrev RFE_STATUS : Nat := 0x4000B004
abbrev RFE_STATUS_WRITE_IGNORED : Field := ⟨RFE_STATUS, 11, 1⟩
abbrev RFE_STATUS_PWR_CLAMP : Field := ⟨RFE_STATUS, 10, 1⟩
abbrev RFE_STATUS_SP_BLOCKED : Field := ⟨RFE_STATUS, 9, 1⟩
abbrev RFE_STATUS_CALSTALE : Field := ⟨RFE_STATUS, 8, 1⟩
abbrev RFE_STATUS_CALBUSY : Field := ⟨RFE_STATUS, 7, 1⟩
abbrev RFE_STATUS_LOCKED : Field := ⟨RFE_STATUS, 6, 1⟩
abbrev RFE_STATUS_STATE : Field := ⟨RFE_STATUS, 0, 4⟩
abbrev RFE_CMD : Nat := 0x4000B008
abbrev RFE_CMD_OP : Field := ⟨RFE_CMD, 0, 2⟩
abbrev RFE_TXCFG : Nat := 0x4000B00C
abbrev RFE_TXCFG_TOL : Field := ⟨RFE_TXCFG, 24, 6⟩
abbrev RFE_TXCFG_ACKPWR : Field := ⟨RFE_TXCFG, 16, 6⟩
abbrev RFE_TXCFG_PWR : Field := ⟨RFE_TXCFG, 8, 6⟩
abbrev RFE_TXCFG_ACKFOLLOW : Field := ⟨RFE_TXCFG, 4, 1⟩
abbrev RFE_TXCFG_PORT : Field := ⟨RFE_TXCFG, 0, 1⟩
abbrev RFE_SPCTL : Nat := 0x4000B010
abbrev RFE_SPCTL_EN : Field := ⟨RFE_SPCTL, 16, 1⟩
abbrev RFE_SPCTL_FMT : Field := ⟨RFE_SPCTL, 12, 1⟩
abbrev RFE_SPCTL_DIV : Field := ⟨RFE_SPCTL, 8, 2⟩
abbrev RFE_SPCTL_CHAN : Field := ⟨RFE_SPCTL, 0, 7⟩
abbrev RFE_SPSTAT : Nat := 0x4000B014
abbrev RFE_SPSTAT_INFRAME : Field := ⟨RFE_SPSTAT, 8, 1⟩
abbrev RFE_SPSTAT_LASTPORT : Field := ⟨RFE_SPSTAT, 4, 1⟩
abbrev RFE_SPSTAT_DIVSTATE : Field := ⟨RFE_SPSTAT, 0, 2⟩
abbrev RFE_ANTCFG : Nat := 0x4000B018
abbrev RFE_ANTCFG_FEM : Field := ⟨RFE_ANTCFG, 4, 1⟩
abbrev RFE_ANTCFG_PORTS : Field := ⟨RFE_ANTCFG, 0, 2⟩
abbrev RFE_CALCTL : Nat := 0x4000B01C
abbrev RFE_CALCTL_AUTO : Field := ⟨RFE_CALCTL, 0, 1⟩
abbrev RFE_TXSTAT : Nat := 0x4000B020
abbrev RFE_TXSTAT_LATE : Field := ⟨RFE_TXSTAT, 16, 16⟩
abbrev RFE_TXSTAT_PORT : Field := ⟨RFE_TXSTAT, 8, 1⟩
abbrev RFE_TXSTAT_CODE : Field := ⟨RFE_TXSTAT, 0, 8⟩
abbrev RFE_CALTAB (k : Nat) : Nat := 0x4000B400 + 4 * k
abbrev RFE_CALTAB_VALID (k : Nat) : Field := ⟨(RFE_CALTAB k), 31, 1⟩
abbrev RFE_CALTAB_STALE (k : Nat) : Field := ⟨(RFE_CALTAB k), 30, 1⟩
abbrev RFE_CALTAB_TEMP (k : Nat) : Field := ⟨(RFE_CALTAB k), 16, 8⟩
abbrev RFE_CALTAB_BAND (k : Nat) : Field := ⟨(RFE_CALTAB k), 8, 6⟩
abbrev RFE_CALTAB_FINE (k : Nat) : Field := ⟨(RFE_CALTAB k), 0, 8⟩
abbrev ENV_CTL : Nat := 0x4000C000
abbrev ENV_CTL_SURVEY : Field := ⟨ENV_CTL, 1, 1⟩
abbrev ENV_CTL_EN : Field := ⟨ENV_CTL, 0, 1⟩
abbrev ENV_STATUS : Nat := 0x4000C004
abbrev ENV_STATUS_WRITE_IGNORED : Field := ⟨ENV_STATUS, 11, 1⟩
abbrev ENV_STATUS_CLIPB : Field := ⟨ENV_STATUS, 9, 1⟩
abbrev ENV_STATUS_CLIPA : Field := ⟨ENV_STATUS, 8, 1⟩
abbrev ENV_STATUS_ACTIVE : Field := ⟨ENV_STATUS, 4, 2⟩
abbrev ENV_STATUS_STATE : Field := ⟨ENV_STATUS, 0, 4⟩
abbrev ENV_CFG : Nat := 0x4000C008
abbrev ENV_CFG_CHAINS : Field := ⟨ENV_CFG, 4, 2⟩
abbrev ENV_CFG_BW : Field := ⟨ENV_CFG, 0, 2⟩
abbrev ENV_NFCFG : Nat := 0x4000C00C
abbrev ENV_NFCFG_AVG : Field := ⟨ENV_NFCFG, 0, 1⟩
abbrev ENV_SVBASE : Nat := 0x4000C010
abbrev ENV_SVBASE_ADDR : Field := ⟨ENV_SVBASE, 4, 28⟩
abbrev ENV_SVSTAT : Nat := 0x4000C014
abbrev ENV_GHOLD_SET : Nat := 0x4000C040
abbrev ENV_GHOLD_SET_HOLD : Field := ⟨ENV_GHOLD_SET, 0, 16⟩
abbrev ENV_GHOLD_CLR : Nat := 0x4000C044
abbrev ENV_GHOLD_CLR_HOLD : Field := ⟨ENV_GHOLD_CLR, 0, 16⟩
abbrev ENV_GRUN : Nat := 0x4000C048
abbrev ENV_GRUN_STD : Field := ⟨ENV_GRUN, 16, 16⟩
abbrev ENV_GRUN_RUN : Field := ⟨ENV_GRUN, 0, 16⟩
abbrev ENV_GCFG (k : Nat) : Nat := 0x4000C100 + 4 * k
abbrev ENV_GCFG_SFDTO (k : Nat) : Field := ⟨(ENV_GCFG k), 16, 4⟩
abbrev ENV_GCFG_PTHR (k : Nat) : Field := ⟨(ENV_GCFG k), 8, 8⟩
abbrev ENV_GCFG_LANEEN (k : Nat) : Field := ⟨(ENV_GCFG k), 0, 8⟩
abbrev ENV_GMODE (k : Nat) : Nat := 0x4000C140 + 4 * k
abbrev ENV_GMODE_MODE (k : Nat) : Field := ⟨(ENV_GMODE k), 0, 1⟩
abbrev ENV_GSTAT (k : Nat) : Nat := 0x4000C180 + 4 * k
abbrev ENV_GSTAT_WRITE_IGNORED (k : Nat) : Field := ⟨(ENV_GSTAT k), 3, 1⟩
abbrev ENV_GSTAT_INSPAN (k : Nat) : Field := ⟨(ENV_GSTAT k), 2, 1⟩
abbrev ENV_GSTAT_STOPPING (k : Nat) : Field := ⟨(ENV_GSTAT k), 1, 1⟩
abbrev ENV_GSTAT_STOPPED (k : Nat) : Field := ⟨(ENV_GSTAT k), 0, 1⟩
abbrev ENV_LSTAT (k : Nat) : Nat := 0x4000C400 + 4 * k
abbrev ENV_LSTAT_RSSI (k : Nat) : Field := ⟨(ENV_LSTAT k), 24, 8⟩
abbrev ENV_LSTAT_CQ (k : Nat) : Field := ⟨(ENV_LSTAT k), 16, 8⟩
abbrev ENV_LSTAT_CHAIN (k : Nat) : Field := ⟨(ENV_LSTAT k), 8, 1⟩
abbrev ENV_LSTAT_BUFS (k : Nat) : Field := ⟨(ENV_LSTAT k), 4, 2⟩
abbrev ENV_LSTAT_STATE (k : Nat) : Field := ⟨(ENV_LSTAT k), 0, 3⟩
abbrev ENV_NF (k : Nat) : Nat := 0x4000C600 + 4 * k
abbrev ENV_NF_VALID (k : Nat) : Field := ⟨(ENV_NF k), 31, 1⟩
abbrev ENV_NF_AGE (k : Nat) : Field := ⟨(ENV_NF k), 16, 8⟩
abbrev ENV_NF_FLOOR (k : Nat) : Field := ⟨(ENV_NF k), 0, 16⟩
abbrev ENV_LERR (k : Nat) : Nat := 0x4000C800 + 4 * k
abbrev ENV_LERR_ABANDON (k : Nat) : Field := ⟨(ENV_LERR k), 24, 8⟩
abbrev ENV_LERR_NOBUF (k : Nat) : Field := ⟨(ENV_LERR k), 16, 8⟩
abbrev ENV_LERR_CRCERR (k : Nat) : Field := ⟨(ENV_LERR k), 0, 16⟩
abbrev REEL_E16CTL : Nat := 0x4000D000
abbrev REEL_E16CTL_RUN : Field := ⟨REEL_E16CTL, 0, 1⟩
abbrev REEL_STATUS : Nat := 0x4000D004
abbrev REEL_STATUS_E16STOPPING : Field := ⟨REEL_STATUS, 24, 1⟩
abbrev REEL_STATUS_RUN : Field := ⟨REEL_STATUS, 0, 17⟩
abbrev REEL_FLTMAP : Nat := 0x4000D008
abbrev REEL_FLTMAP_FAULTED : Field := ⟨REEL_FLTMAP, 0, 17⟩
abbrev REEL_LASTF : Nat := 0x4000D00C
abbrev REEL_LASTF_CAUSE : Field := ⟨REEL_LASTF, 28, 4⟩
abbrev REEL_LASTF_ENG : Field := ⟨REEL_LASTF, 20, 5⟩
abbrev REEL_LASTF_CTX : Field := ⟨REEL_LASTF, 16, 3⟩
abbrev REEL_LASTF_FATAL : Field := ⟨REEL_LASTF, 15, 1⟩
abbrev REEL_LASTF_PC : Field := ⟨REEL_LASTF, 0, 10⟩
abbrev REEL_FATALE : Nat := 0x4000D010
abbrev REEL_FATALE_ENG : Field := ⟨REEL_FATALE, 0, 17⟩
abbrev REEL_FATALC : Nat := 0x4000D014
abbrev REEL_FATALC_CAUSE : Field := ⟨REEL_FATALC, 1, 9⟩
abbrev REEL_CRST : Nat := 0x4000D018
abbrev REEL_CRST_ENG : Field := ⟨REEL_CRST, 16, 5⟩
abbrev REEL_CRST_CTX : Field := ⟨REEL_CRST, 0, 3⟩
abbrev REEL_WIGN : Nat := 0x4000D01C
abbrev REEL_WIGN_ENG : Field := ⟨REEL_WIGN, 0, 17⟩
abbrev REEL_TXQBASE : Nat := 0x4000D020
abbrev REEL_TXQBASE_ADDR : Field := ⟨REEL_TXQBASE, 12, 20⟩
abbrev REEL_TXQSTAT : Nat := 0x4000D024
abbrev REEL_TXQSTAT_Q3 : Field := ⟨REEL_TXQSTAT, 24, 6⟩
abbrev REEL_TXQSTAT_Q2 : Field := ⟨REEL_TXQSTAT, 16, 6⟩
abbrev REEL_TXQSTAT_Q1 : Field := ⟨REEL_TXQSTAT, 8, 6⟩
abbrev REEL_TXQSTAT_Q0 : Field := ⟨REEL_TXQSTAT, 0, 6⟩
abbrev REEL_LDSRC : Nat := 0x4000D028
abbrev REEL_LDSRC_ADDR : Field := ⟨REEL_LDSRC, 3, 29⟩
abbrev REEL_LDCMD : Nat := 0x4000D02C
abbrev REEL_LDCMD_ENG : Field := ⟨REEL_LDCMD, 16, 5⟩
abbrev REEL_LDCMD_SOFTMS : Field := ⟨REEL_LDCMD, 8, 8⟩
abbrev REEL_LDCMD_NORESTART : Field := ⟨REEL_LDCMD, 4, 1⟩
abbrev REEL_LDCMD_OP : Field := ⟨REEL_LDCMD, 0, 2⟩
abbrev REEL_DSEL : Nat := 0x4000D030
abbrev REEL_DSEL_ENG : Field := ⟨REEL_DSEL, 16, 5⟩
abbrev REEL_DSEL_CTX : Field := ⟨REEL_DSEL, 8, 3⟩
abbrev REEL_DSEL_ITEM : Field := ⟨REEL_DSEL, 0, 7⟩
abbrev REEL_DVAL : Nat := 0x4000D034
abbrev REEL_LDSTAT : Nat := 0x4000D038
abbrev REEL_LDSTAT_ENG : Field := ⟨REEL_LDSTAT, 16, 5⟩
abbrev REEL_LDSTAT_PHASE : Field := ⟨REEL_LDSTAT, 12, 4⟩
abbrev REEL_LDSTAT_CLRIGN : Field := ⟨REEL_LDSTAT, 9, 1⟩
abbrev REEL_LDSTAT_REJECT : Field := ⟨REEL_LDSTAT, 8, 1⟩
abbrev REEL_LDSTAT_CODE : Field := ⟨REEL_LDSTAT, 0, 8⟩
abbrev REEL_LDDARK : Nat := 0x4000D03C
abbrev REEL_TID (k : Nat) : Nat := 0x4000D040 + 4 * k
abbrev REEL_CSW (k : Nat) : Nat := 0x4000D100 + 4 * k
abbrev REEL_CSW_STATE (k : Nat) : Field := ⟨(REEL_CSW k), 28, 4⟩
abbrev REEL_CSW_CAUSE (k : Nat) : Field := ⟨(REEL_CSW k), 24, 4⟩
abbrev REEL_CSW_FATAL (k : Nat) : Field := ⟨(REEL_CSW k), 23, 1⟩
abbrev REEL_CSW_SP (k : Nat) : Field := ⟨(REEL_CSW k), 20, 3⟩
abbrev REEL_CSW_EPR (k : Nat) : Field := ⟨(REEL_CSW k), 18, 2⟩
abbrev REEL_CSW_ACC (k : Nat) : Field := ⟨(REEL_CSW k), 17, 1⟩
abbrev REEL_CSW_HIT (k : Nat) : Field := ⟨(REEL_CSW k), 16, 1⟩
abbrev REEL_CSW_SLT (k : Nat) : Field := ⟨(REEL_CSW k), 15, 1⟩
abbrev REEL_CSW_LT (k : Nat) : Field := ⟨(REEL_CSW k), 14, 1⟩
abbrev REEL_CSW_Z (k : Nat) : Field := ⟨(REEL_CSW k), 13, 1⟩
abbrev REEL_CSW_CLOST (k : Nat) : Field := ⟨(REEL_CSW k), 12, 1⟩
abbrev REEL_CSW_URG (k : Nat) : Field := ⟨(REEL_CSW k), 11, 1⟩
abbrev REEL_CSW_PC (k : Nat) : Field := ⟨(REEL_CSW k), 0, 10⟩
abbrev LINK_STATUS : Nat := 0x4000E000
abbrev LINK_STATUS_DRIFT : Field := ⟨LINK_STATUS, 5, 1⟩
abbrev LINK_STATUS_SUPVX : Field := ⟨LINK_STATUS, 4, 1⟩
abbrev LINK_STATUS_PHCLAMP : Field := ⟨LINK_STATUS, 2, 1⟩
abbrev LINK_STATUS_ADJPEND : Field := ⟨LINK_STATUS, 1, 1⟩
abbrev LINK_STATUS_SETPEND : Field := ⟨LINK_STATUS, 0, 1⟩
abbrev LINK_SLOTCFG : Nat := 0x4000E004
abbrev LINK_SLOTCFG_SLOTLEN : Field := ⟨LINK_SLOTCFG, 0, 16⟩
abbrev LINK_EVC_LO : Nat := 0x4000E008
abbrev LINK_EVC_HI : Nat := 0x4000E00C
abbrev LINK_EVC_HI_VAL : Field := ⟨LINK_EVC_HI, 0, 8⟩
abbrev LINK_EVCSET_LO : Nat := 0x4000E010
abbrev LINK_EVCSET_HI : Nat := 0x4000E014
abbrev LINK_EVCSET_HI_VAL : Field := ⟨LINK_EVCSET_HI, 0, 8⟩
abbrev LINK_CMD : Nat := 0x4000E018
abbrev LINK_CMD_OP : Field := ⟨LINK_CMD, 0, 2⟩
abbrev LINK_ADJ : Nat := 0x4000E01C
abbrev LINK_ADJ_SHIFT : Field := ⟨LINK_ADJ, 0, 16⟩
abbrev LINK_SSTART_LO : Nat := 0x4000E020
abbrev LINK_SSTART_HI : Nat := 0x4000E024
abbrev LINK_SSTART_HI_F : Field := ⟨LINK_SSTART_HI, 16, 6⟩
abbrev LINK_SSTART_HI_HI : Field := ⟨LINK_SSTART_HI, 0, 16⟩
abbrev LINK_PARENT : Nat := 0x4000E028
abbrev LINK_PARENT_EN : Field := ⟨LINK_PARENT, 31, 1⟩
abbrev LINK_PARENT_NBR : Field := ⟨LINK_PARENT, 16, 10⟩
abbrev LINK_PARENT_ADJMAX : Field := ⟨LINK_PARENT, 0, 16⟩
abbrev LINK_PPM : Nat := 0x4000E02C
abbrev LINK_PPM_PPMSELF : Field := ⟨LINK_PPM, 0, 7⟩
abbrev LINK_DWCFG : Nat := 0x4000E030
abbrev LINK_DWCFG_LIMIT : Field := ⟨LINK_DWCFG, 16, 16⟩
abbrev LINK_DWCFG_W : Field := ⟨LINK_DWCFG, 8, 6⟩
abbrev LINK_DWCFG_EN : Field := ⟨LINK_DWCFG, 0, 1⟩
abbrev LINK_DWSTAT : Nat := 0x4000E034
abbrev LINK_DWSTAT_REFUSED : Field := ⟨LINK_DWSTAT, 0, 16⟩
abbrev LINK_DWSEL : Nat := 0x4000E038
abbrev LINK_DWSEL_CHAN : Field := ⟨LINK_DWSEL, 0, 7⟩
abbrev LINK_DWVAL : Nat := 0x4000E03C
abbrev LINK_LSEL : Nat := 0x4000E040
abbrev LINK_LSEL_INDEX : Field := ⟨LINK_LSEL, 8, 7⟩
abbrev LINK_LSEL_MAP : Field := ⟨LINK_LSEL, 0, 5⟩
abbrev LINK_LVAL : Nat := 0x4000E044
abbrev LINK_MAPCTL (k : Nat) : Nat := 0x4000E100 + 4 * k
abbrev LINK_MAPCTL_BADSTRIDE (k : Nat) : Field := ⟨(LINK_MAPCTL k), 31, 1⟩
abbrev LINK_MAPCTL_LEN (k : Nat) : Field := ⟨(LINK_MAPCTL k), 16, 8⟩
abbrev LINK_MAPCTL_STRIDE (k : Nat) : Field := ⟨(LINK_MAPCTL k), 8, 7⟩
abbrev LINK_MAPCTL_KIND (k : Nat) : Field := ⟨(LINK_MAPCTL k), 0, 1⟩
abbrev LINK_MAP (k : Nat) : Nat := 0x4000E200 + 4 * k
abbrev LINK_FFCFG : Nat := 0x4000E400
abbrev LINK_FFCFG_VERMASK : Field := ⟨LINK_FFCFG, 0, 3⟩
abbrev LINK_IDEXTLO (k : Nat) : Nat := 0x4000E410 + 16 * k
abbrev LINK_IDEXTHI (k : Nat) : Nat := 0x4000E414 + 16 * k
abbrev LINK_IDSPAN (k : Nat) : Nat := 0x4000E418 + 16 * k
abbrev LINK_IDSPAN_PAN (k : Nat) : Field := ⟨(LINK_IDSPAN k), 16, 16⟩
abbrev LINK_IDSPAN_SHORT (k : Nat) : Field := ⟨(LINK_IDSPAN k), 0, 16⟩
abbrev LINK_IDCTL (k : Nat) : Nat := 0x4000E41C + 16 * k
abbrev LINK_IDCTL_COORD (k : Nat) : Field := ⟨(LINK_IDCTL k), 1, 1⟩
abbrev LINK_IDCTL_EN (k : Nat) : Field := ⟨(LINK_IDCTL k), 0, 1⟩
abbrev LINK_RBASE (k : Nat) : Nat := 0x4000E460 + 16 * k
abbrev LINK_RBASE_ADDR (k : Nat) : Field := ⟨(LINK_RBASE k), 6, 26⟩
abbrev LINK_RCFG (k : Nat) : Nat := 0x4000E464 + 16 * k
abbrev LINK_RCFG_NOTIFY (k : Nat) : Field := ⟨(LINK_RCFG k), 16, 1⟩
abbrev LINK_RCFG_SIZE (k : Nat) : Field := ⟨(LINK_RCFG k), 0, 9⟩
abbrev LINK_RPUT (k : Nat) : Nat := 0x4000E468 + 16 * k
abbrev LINK_RPUT_FULL (k : Nat) : Field := ⟨(LINK_RPUT k), 16, 16⟩
abbrev LINK_RPUT_PUT (k : Nat) : Field := ⟨(LINK_RPUT k), 0, 16⟩
abbrev LINK_RTAKE (k : Nat) : Nat := 0x4000E46C + 16 * k
abbrev LINK_RTAKE_TAKE (k : Nat) : Field := ⟨(LINK_RTAKE k), 0, 16⟩
abbrev COEX_CTL : Nat := 0x4000F000
abbrev COEX_CTL_LEAD : Field := ⟨COEX_CTL, 8, 8⟩
abbrev COEX_CTL_ACKPRI : Field := ⟨COEX_CTL, 6, 1⟩
abbrev COEX_CTL_RXREQ : Field := ⟨COEX_CTL, 5, 1⟩
abbrev COEX_CTL_PRIPOL : Field := ⟨COEX_CTL, 4, 1⟩
abbrev COEX_CTL_GNTPOL : Field := ⟨COEX_CTL, 3, 1⟩
abbrev COEX_CTL_REQPOL : Field := ⟨COEX_CTL, 2, 1⟩
abbrev COEX_CTL_ABORT : Field := ⟨COEX_CTL, 1, 1⟩
abbrev COEX_CTL_EN : Field := ⟨COEX_CTL, 0, 1⟩
abbrev COEX_FEM : Nat := 0x4000F004
abbrev COEX_FEM_RXPOL : Field := ⟨COEX_FEM, 1, 1⟩
abbrev COEX_FEM_TXPOL : Field := ⟨COEX_FEM, 0, 1⟩
abbrev COEX_STATUS : Nat := 0x4000F008
abbrev COEX_STATUS_GNT : Field := ⟨COEX_STATUS, 3, 1⟩
abbrev COEX_STATUS_PRI : Field := ⟨COEX_STATUS, 2, 1⟩
abbrev COEX_STATUS_REQ : Field := ⟨COEX_STATUS, 1, 1⟩
abbrev COEX_CNT : Nat := 0x4000F00C
abbrev COEX_CNT_ABORTED : Field := ⟨COEX_CNT, 16, 16⟩
abbrev COEX_CNT_DENIED : Field := ⟨COEX_CNT, 0, 16⟩
abbrev GPIO_IN (k : Nat) : Nat := 0x40010000 + 4 * k
abbrev GPIO_OUTSET (k : Nat) : Nat := 0x40010008 + 4 * k
abbrev GPIO_OUTCLR (k : Nat) : Nat := 0x40010010 + 4 * k
abbrev GPIO_CFG (k : Nat) : Nat := 0x40010100 + 4 * k
abbrev GPIO_CFG_EDGE (k : Nat) : Field := ⟨(GPIO_CFG k), 9, 2⟩
abbrev GPIO_CFG_IRQ (k : Nat) : Field := ⟨(GPIO_CFG k), 8, 1⟩
abbrev GPIO_CFG_PULL (k : Nat) : Field := ⟨(GPIO_CFG k), 6, 2⟩
abbrev GPIO_CFG_OD (k : Nat) : Field := ⟨(GPIO_CFG k), 5, 1⟩
abbrev GPIO_CFG_DRIVE (k : Nat) : Field := ⟨(GPIO_CFG k), 4, 1⟩
abbrev GPIO_CFG_OE (k : Nat) : Field := ⟨(GPIO_CFG k), 3, 1⟩
abbrev GPIO_CFG_FUNC (k : Nat) : Field := ⟨(GPIO_CFG k), 0, 3⟩
abbrev SPIC_CTL (k : Nat) : Nat := 0x40011000 + 0x1000 * k
abbrev SPIC_CTL_DIV (k : Nat) : Field := ⟨(SPIC_CTL k), 8, 5⟩
abbrev SPIC_CTL_MODE (k : Nat) : Field := ⟨(SPIC_CTL k), 3, 3⟩
abbrev SPIC_CTL_EN (k : Nat) : Field := ⟨(SPIC_CTL k), 0, 1⟩
abbrev SPIC_CMD (k : Nat) : Nat := 0x40011004 + 0x1000 * k
abbrev SPIC_CMD_LEN (k : Nat) : Field := ⟨(SPIC_CMD k), 0, 16⟩
abbrev SPIC_STATUS (k : Nat) : Nat := 0x40011008 + 0x1000 * k
abbrev SPIC_STATUS_ERR (k : Nat) : Field := ⟨(SPIC_STATUS k), 3, 2⟩
abbrev SPIC_STATUS_BUSY (k : Nat) : Field := ⟨(SPIC_STATUS k), 2, 1⟩
abbrev SPIC_STATUS_TXFULL (k : Nat) : Field := ⟨(SPIC_STATUS k), 1, 1⟩
abbrev SPIC_STATUS_RXNE (k : Nat) : Field := ⟨(SPIC_STATUS k), 0, 1⟩
abbrev SPIC_DATA (k : Nat) : Nat := 0x4001100C + 0x1000 * k
abbrev SPIC_DATA_BYTE (k : Nat) : Field := ⟨(SPIC_DATA k), 0, 8⟩
abbrev UART_CTL (k : Nat) : Nat := 0x40013000 + 0x1000 * k
abbrev UART_CTL_CLK (k : Nat) : Field := ⟨(UART_CTL k), 8, 1⟩
abbrev UART_CTL_FMT (k : Nat) : Field := ⟨(UART_CTL k), 4, 4⟩
abbrev UART_CTL_EN (k : Nat) : Field := ⟨(UART_CTL k), 0, 2⟩
abbrev UART_BAUD (k : Nat) : Nat := 0x40013004 + 0x1000 * k
abbrev UART_BAUD_DIV (k : Nat) : Field := ⟨(UART_BAUD k), 0, 20⟩
abbrev UART_STATUS (k : Nat) : Nat := 0x40013008 + 0x1000 * k
abbrev UART_STATUS_ERR (k : Nat) : Field := ⟨(UART_STATUS k), 3, 4⟩
abbrev UART_STATUS_TXIDLE (k : Nat) : Field := ⟨(UART_STATUS k), 2, 1⟩
abbrev UART_STATUS_TXFULL (k : Nat) : Field := ⟨(UART_STATUS k), 1, 1⟩
abbrev UART_STATUS_RXNE (k : Nat) : Field := ⟨(UART_STATUS k), 0, 1⟩
abbrev UART_DATA (k : Nat) : Nat := 0x4001300C + 0x1000 * k
abbrev UART_DATA_BYTE (k : Nat) : Field := ⟨(UART_DATA k), 0, 8⟩
abbrev I2C_CTL (k : Nat) : Nat := 0x40015000 + 0x1000 * k
abbrev I2C_CTL_SPEED (k : Nat) : Field := ⟨(I2C_CTL k), 1, 2⟩
abbrev I2C_CMD (k : Nat) : Nat := 0x40015004 + 0x1000 * k
abbrev I2C_CMD_LEN (k : Nat) : Field := ⟨(I2C_CMD k), 16, 8⟩
abbrev I2C_CMD_MODE (k : Nat) : Field := ⟨(I2C_CMD k), 14, 2⟩
abbrev I2C_CMD_ADDR (k : Nat) : Field := ⟨(I2C_CMD k), 0, 7⟩
abbrev I2C_STATUS (k : Nat) : Nat := 0x40015008 + 0x1000 * k
abbrev I2C_STATUS_ERR (k : Nat) : Field := ⟨(I2C_STATUS k), 3, 2⟩
abbrev I2C_STATUS_BUSY (k : Nat) : Field := ⟨(I2C_STATUS k), 2, 1⟩
abbrev I2C_STATUS_TXFULL (k : Nat) : Field := ⟨(I2C_STATUS k), 1, 1⟩
abbrev I2C_STATUS_RXNE (k : Nat) : Field := ⟨(I2C_STATUS k), 0, 1⟩
abbrev I2C_DATA (k : Nat) : Nat := 0x4001500C + 0x1000 * k
abbrev I2C_DATA_BYTE (k : Nat) : Field := ⟨(I2C_DATA k), 0, 8⟩
abbrev SADC_CTL : Nat := 0x40017000
abbrev SADC_CTL_CH : Field := ⟨SADC_CTL, 4, 3⟩
abbrev SADC_CTL_EN : Field := ⟨SADC_CTL, 0, 1⟩
abbrev SADC_CMD : Nat := 0x40017004
abbrev SADC_CMD_START : Field := ⟨SADC_CMD, 0, 1⟩
abbrev SADC_RESULT : Nat := 0x40017008
abbrev SADC_RESULT_NEW : Field := ⟨SADC_RESULT, 31, 1⟩
abbrev SADC_RESULT_VALUE : Field := ⟨SADC_RESULT, 0, 12⟩
abbrev SADC_TEMP : Nat := 0x4001700C
abbrev SADC_TEMP_T : Field := ⟨SADC_TEMP, 0, 16⟩
abbrev SADC_VMON : Nat := 0x40017010
abbrev SADC_VMON_VBKP : Field := ⟨SADC_VMON, 16, 16⟩
abbrev SADC_VMON_VIN : Field := ⟨SADC_VMON, 0, 16⟩
abbrev SADC_MONCFG : Nat := 0x40017014
abbrev SADC_MONCFG_HIGH : Field := ⟨SADC_MONCFG, 24, 8⟩
abbrev SADC_MONCFG_LOW : Field := ⟨SADC_MONCFG, 16, 8⟩
abbrev SADC_MONCFG_VINLOW : Field := ⟨SADC_MONCFG, 0, 16⟩
abbrev SADC_MONSTAT : Nat := 0x40017018
abbrev SADC_MONSTAT_OVER : Field := ⟨SADC_MONSTAT, 2, 1⟩
abbrev SADC_MONSTAT_UNDER : Field := ⟨SADC_MONSTAT, 1, 1⟩
abbrev SADC_MONSTAT_VINLOW : Field := ⟨SADC_MONSTAT, 0, 1⟩
abbrev TMR_CTL (k : Nat) : Nat := 0x40018000 + 16 * k
abbrev TMR_CTL_RUN (k : Nat) : Field := ⟨(TMR_CTL k), 31, 1⟩
abbrev TMR_CTL_MODE (k : Nat) : Field := ⟨(TMR_CTL k), 0, 2⟩
abbrev TMR_LOAD (k : Nat) : Nat := 0x40018004 + 16 * k
abbrev TMR_CNT (k : Nat) : Nat := 0x40018008 + 16 * k
abbrev TMR_CMD (k : Nat) : Nat := 0x4001800C + 16 * k
abbrev TMR_CMD_OP (k : Nat) : Field := ⟨(TMR_CMD k), 0, 2⟩
abbrev TRNG_CTL : Nat := 0x40019000
abbrev TRNG_CTL_EN : Field := ⟨TRNG_CTL, 0, 1⟩
abbrev TRNG_STATUS : Nat := 0x40019004
abbrev TRNG_STATUS_HFAIL : Field := ⟨TRNG_STATUS, 1, 1⟩
abbrev TRNG_STATUS_AVAIL : Field := ⟨TRNG_STATUS, 0, 1⟩
abbrev TRNG_DATA : Nat := 0x40019008
abbrev WDT_CTL (k : Nat) : Nat := 0x4001A000 + 0x1000 * k
abbrev WDT_CTL_LOCK (k : Nat) : Field := ⟨(WDT_CTL k), 31, 1⟩
abbrev WDT_CTL_EN (k : Nat) : Field := ⟨(WDT_CTL k), 16, 1⟩
abbrev WDT_CTL_TO (k : Nat) : Field := ⟨(WDT_CTL k), 0, 16⟩
abbrev WDT_KICK (k : Nat) : Nat := 0x4001A004 + 0x1000 * k
abbrev WDT_KICK_KEY (k : Nat) : Field := ⟨(WDT_KICK k), 16, 16⟩
abbrev WDT_CNT (k : Nat) : Nat := 0x4001A008 + 0x1000 * k
abbrev WDT_CNT_MS (k : Nat) : Field := ⟨(WDT_CNT k), 0, 16⟩
abbrev HOSTIF_CTL : Nat := 0x4001C000
abbrev HOSTIF_CTL_IRQPIN : Field := ⟨HOSTIF_CTL, 2, 1⟩
abbrev HOSTIF_CTL_MEMEN : Field := ⟨HOSTIF_CTL, 1, 1⟩
abbrev HOSTIF_CTL_EN : Field := ⟨HOSTIF_CTL, 0, 1⟩
abbrev HOSTIF_STATUS : Nat := 0x4001C004
abbrev HOSTIF_STATUS_TXRDY : Field := ⟨HOSTIF_STATUS, 1, 1⟩
abbrev HOSTIF_STATUS_RXFULL : Field := ⟨HOSTIF_STATUS, 0, 1⟩
abbrev HOSTIF_CMD : Nat := 0x4001C008
abbrev HOSTIF_CMD_OP : Field := ⟨HOSTIF_CMD, 0, 3⟩
abbrev HOSTIF_ERR : Nat := 0x4001C00C
abbrev HOSTIF_ERR_TXBUSY : Field := ⟨HOSTIF_ERR, 4, 1⟩
abbrev HOSTIF_ERR_LINK : Field := ⟨HOSTIF_ERR, 0, 4⟩
abbrev HOSTIF_RXBUF (k : Nat) : Nat := 0x4001C400 + 4 * k
abbrev HOSTIF_TXBUF (k : Nat) : Nat := 0x4001C800 + 4 * k

end Reg

end Sys2Proof.Machine
end

