-- ==== Sys2Proof/Machine/Regmap.lean ====
section
/-! DEFINITION. The register maps of spec/ as one table: for every register its place, its Reset word, the masks of its
writable fields by class (R10), of its W1C, W1S and RC fields (R9), and of the fields its Meaning column (or a rule)
keeps across a warm start (R8). What a register access does is in Machine/Ops.lean and Machine/Bus.lean. -/

namespace Sys2Proof.Machine

/-- One register map of spec/: `count` registers `stride` bytes apart from `base`, all of one layout. -/
structure RegRow where
  name : String
  base : Nat
  stride : Nat
  count : Nat
  reset : Word
  rwL : Word
  rwS : Word
  rwK : Word
  w1c : Word
  w1s : Word
  rc : Word
  keep : Word
  deriving DecidableEq, Repr

def regRows0 : List RegRow := [
  ⟨"SYS_ID", 0x40000000, 4, 1, 0x71280002, 0x0, 0x0, 0x0, 0x0, 0x0, 0x0, 0xFFFF00FF⟩,
  ⟨"SYS_RSTCAUSE", 0x40000004, 4, 1, 0x0, 0x0, 0x0, 0x0, 0x3FFF, 0x0, 0x0, 0x3FFF⟩,
  ⟨"SYS_SWRST", 0x40000008, 4, 1, 0x0, 0x0, 0x0, 0x0, 0x0, 0x0, 0x0, 0x0⟩,
  ⟨"SYS_C0VEC", 0x4000000C, 4, 1, 0x0, 0xFFFFFFFE, 0x0, 0x0, 0x0, 0x0, 0x0, 0xFFFFFFFE⟩,
  ⟨"SYS_C1VEC", 0x40000010, 4, 1, 0x0, 0xFFFFFFFE, 0x0, 0x0, 0x0, 0x0, 0x0, 0xFFFFFFFE⟩,
  ⟨"SYS_C1CTL", 0x40000014, 4, 1, 0x0, 0x1, 0x0, 0x0, 0x0, 0x0, 0x0, 0x0⟩,
  ⟨"SYS_RIPVEC", 0x40000018, 4, 1, 0x80, 0xFFFFFFFE, 0x0, 0x0, 0x0, 0x0, 0x0, 0xFFFFFFFE⟩,
  ⟨"SYS_MODE", 0x40000020, 4, 1, 0x5, 0x0, 0x0, 0x0, 0x0, 0x0, 0x0, 0xF00⟩,
  ⟨"SYS_BOOTGOOD", 0x40000030, 4, 1, 0x0, 0x0, 0x0, 0x0, 0x0, 0x0, 0x0, 0x0⟩,
  ⟨"SYS_BOOTSTAT", 0x40000034, 4, 1, 0x0, 0x0, 0x0, 0x0, 0x6A00, 0x0, 0x0, 0x2800⟩,
  ⟨"SYS_STARTSTAT", 0x40000038, 4, 1, 0x0, 0x0, 0x0, 0x0, 0x10, 0x0, 0x0, 0x0⟩,
  ⟨"SYS_UPDSRC", 0x40000040, 4, 1, 0x0, 0xFFFFFFFC, 0x0, 0x0, 0x0, 0x0, 0x0, 0x0⟩,
  ⟨"SYS_UPDCMD", 0x40000044, 4, 1, 0x0, 0x0, 0x0, 0x0, 0x0, 0x0, 0x0, 0x0⟩,
  ⟨"SYS_UPDSTAT", 0x40000048, 4, 1, 0x0, 0x0, 0x0, 0x0, 0x0, 0x0, 0x0, 0x0⟩,
  ⟨"SYS_RELEASE", 0x4000004C, 4, 1, 0x0, 0x0, 0x0, 0x0, 0x0, 0x0, 0x0, 0xFFFFFFFF⟩,
  ⟨"SYS_CFGVER_CUR", 0x40000050, 4, 1, 0x0, 0x0, 0x0, 0x0, 0x0, 0x0, 0x0, 0xFFFFFFFF⟩,
  ⟨"SYS_CFGVER_PREV", 0x40000054, 4, 1, 0x0, 0x0, 0x0, 0x0, 0x0, 0x0, 0x0, 0xFFFFFFFF⟩,
  ⟨"SYS_PAUSE", 0x40000058, 4, 1, 0x0, 0x0, 0x0, 0x0, 0x0, 0x0, 0x0, 0xFFFFFFFF⟩,
  ⟨"SYS_KEYSTAT", 0x4000005C, 4, 1, 0x0, 0x0, 0x0, 0x0, 0x0, 0x0, 0x0, 0xF⟩,
  ⟨"SYS_SAFECTL", 0x40000060, 4, 1, 0x0, 0x0, 0x0, 0x0, 0x0, 0x0, 0x0, 0x0⟩,
  ⟨"SYS_PADCTL", 0x40000064, 4, 1, 0x0, 0x0, 0x0, 0x0, 0x0, 0x0, 0x0, 0x0⟩,
  ⟨"PWR_STATUS", 0x40001000, 4, 1, 0x2, 0x0, 0x0, 0x0, 0x40, 0x0, 0x0, 0x0⟩,
  ⟨"PWR_CMD", 0x40001004, 4, 1, 0x0, 0x0, 0x0, 0x0, 0x0, 0x0, 0x0, 0x0⟩,
  ⟨"PWR_SLEEPCFG", 0x40001008, 4, 1, 0xC80002, 0xFFFF0017, 0x0, 0x0, 0x0, 0x0, 0x0, 0xFFFF0017⟩,
  ⟨"PWR_WAKEEN", 0x4000100C, 4, 1, 0x70D, 0x6FF, 0x0, 0x0, 0x0, 0x0, 0x0, 0x7FF⟩,
  ⟨"PWR_WAKESRC", 0x40001010, 4, 1, 0x0, 0x0, 0x0, 0x0, 0x7FF, 0x0, 0x0, 0x7FF⟩,
  ⟨"PWR_WAKEAT_LO", 0x40001014, 4, 1, 0x0, 0xFFFFFFFF, 0x0, 0x0, 0x0, 0x0, 0x0, 0x0⟩,
  ⟨"PWR_WAKEAT_HI", 0x40001018, 4, 1, 0x0, 0x8000FFFF, 0x0, 0x0, 0x0, 0x0, 0x0, 0x0⟩,
  ⟨"PWR_HSRES", 0x4000101C, 4, 1, 0x0, 0x0, 0x0, 0x0, 0x0, 0x0, 0x0, 0x0⟩,
  ⟨"PWR_HSCFG", 0x40001020, 4, 1, 0x14, 0xFF, 0x0, 0x0, 0x0, 0x0, 0x0, 0xFF⟩,
  ⟨"PWR_DVFS", 0x40001024, 4, 1, 0x0, 0x33, 0x0, 0x0, 0x0, 0x0, 0x0, 0x33⟩,
  ⟨"PWR_DVFSSTAT", 0x40001028, 4, 1, 0xC00, 0x0, 0x0, 0x0, 0x0, 0x0, 0x0, 0x0⟩,
  ⟨"PWR_HOVCFG", 0x4000102C, 4, 1, 0x1F4, 0x7FF, 0x0, 0x0, 0x0, 0x0, 0x0, 0x7FF⟩,
  ⟨"PWR_HOVSTAT", 0x40001030, 4, 1, 0x0, 0x0, 0x0, 0x0, 0x0, 0x0, 0xFFFF0000, 0x0⟩]

def regRows1 : List RegRow := [
  ⟨"PWR_HOVTIME", 0x40001034, 4, 1, 0x0, 0x0, 0x0, 0x0, 0x0, 0x0, 0xFFFFFFFF, 0x0⟩,
  ⟨"CFG_STATUS", 0x40002004, 4, 1, 0x0, 0x0, 0x0, 0x0, 0x38, 0x0, 0x0, 0x2⟩,
  ⟨"CFG_EPOCH", 0x40002008, 4, 1, 0x0, 0x0, 0x0, 0x0, 0x0, 0x0, 0x0, 0xFFFF⟩,
  ⟨"CFG_CMD", 0x4000200C, 4, 1, 0x0, 0x0, 0x0, 0x0, 0x0, 0x0, 0x0, 0x0⟩,
  ⟨"CFG_AT_LO", 0x40002010, 4, 1, 0x0, 0xFFFFFFFF, 0x0, 0x0, 0x0, 0x0, 0x0, 0xFFFFFFFF⟩,
  ⟨"CFG_AT_HI", 0x40002014, 4, 1, 0x0, 0xFF, 0x0, 0x0, 0x0, 0x0, 0x0, 0xFF⟩,
  ⟨"CFG_WIN", 0x40002018, 4, 1, 0x4, 0x0, 0xFF, 0x0, 0x0, 0x0, 0x0, 0xFF⟩,
  ⟨"CFG_LAGLIM", 0x4000201C, 4, 1, 0x64, 0xFFFF, 0x0, 0x0, 0x0, 0x0, 0x0, 0x0⟩,
  ⟨"CFG_PEND", 0x40002020, 4, 1, 0x0, 0x0, 0x0, 0x0, 0x0, 0x0, 0x0, 0x0⟩,
  ⟨"CFG_WIGN", 0x40002024, 4, 1, 0x0, 0x0, 0x0, 0x0, 0xFFFFFFFF, 0x0, 0x0, 0x0⟩,
  ⟨"CFG_USEL", 0x40002028, 4, 1, 0x0, 0x1F, 0x0, 0x0, 0x0, 0x0, 0x0, 0x0⟩,
  ⟨"CFG_LAGVAL", 0x4000202C, 4, 1, 0x0, 0x0, 0x0, 0x0, 0x0, 0x0, 0x0, 0x0⟩,
  ⟨"CFG_UDIG", 0x40002030, 4, 1, 0x0, 0x0, 0x0, 0x0, 0x0, 0x0, 0x0, 0x0⟩,
  ⟨"CFG_DIGEST", 0x40002040, 4, 1, 0x0, 0x0, 0x0, 0x0, 0x0, 0x0, 0x0, 0x0⟩,
  ⟨"CFG_SDIGEST", 0x40002044, 4, 1, 0x0, 0x0, 0x0, 0x0, 0x0, 0x0, 0x0, 0x0⟩,
  ⟨"RTC_STATUS", 0x40003000, 4, 1, 0x5, 0x0, 0x0, 0x0, 0xF4, 0x0, 0x0, 0x3FD⟩,
  ⟨"RTC_CMD", 0x40003004, 4, 1, 0x0, 0x0, 0x0, 0x0, 0x0, 0x0, 0x0, 0xFFFF0007⟩,
  ⟨"RTC_SEC_LO", 0x40003008, 4, 1, 0x0, 0x0, 0x0, 0x0, 0x0, 0x0, 0x0, 0xFFFFFFFF⟩,
  ⟨"RTC_SEC_HI", 0x4000300C, 4, 1, 0x0, 0x0, 0x0, 0x0, 0x0, 0x0, 0x0, 0xFFFF⟩,
  ⟨"RTC_FRAC", 0x40003010, 4, 1, 0x0, 0x0, 0x0, 0x0, 0x0, 0x0, 0x0, 0xFFFF⟩,
  ⟨"RTC_SETSEC_LO", 0x40003014, 4, 1, 0x0, 0xFFFFFFFF, 0x0, 0x0, 0x0, 0x0, 0x0, 0xFFFFFFFF⟩,
  ⟨"RTC_SETSEC_HI", 0x40003018, 4, 1, 0x0, 0xFFFF, 0x0, 0x0, 0x0, 0x0, 0x0, 0xFFFF⟩,
  ⟨"RTC_SETFRAC", 0x4000301C, 4, 1, 0x0, 0xFFFF, 0x0, 0x0, 0x0, 0x0, 0x0, 0xFFFF⟩,
  ⟨"RTC_CALDATE", 0x40003020, 4, 1, 0x57D00101, 0xFFF0F1F, 0x0, 0x0, 0x0, 0x0, 0x0, 0xFFFF0F1F⟩,
  ⟨"RTC_CALTIME", 0x40003024, 4, 1, 0x0, 0x1F3F3F, 0x0, 0x0, 0x0, 0x0, 0x0, 0x1F3F3F⟩,
  ⟨"RTC_NOWDATE", 0x40003028, 4, 1, 0x57D00101, 0x0, 0x0, 0x0, 0x0, 0x0, 0x0, 0xFFFF0F1F⟩,
  ⟨"RTC_NOWTIME", 0x4000302C, 4, 1, 0x0, 0x0, 0x0, 0x0, 0x0, 0x0, 0x0, 0x1F3F3F⟩,
  ⟨"RTC_TRIM", 0x40003030, 4, 1, 0x80000000, 0x8000FFFF, 0x0, 0x0, 0x0, 0x0, 0x0, 0x8000FFFF⟩,
  ⟨"RTC_ALM_LO", 0x40003040, 16, 2, 0x0, 0xFFFFFFFF, 0x0, 0x0, 0x0, 0x0, 0x0, 0xFFFFFFFF⟩,
  ⟨"RTC_ALM_HI", 0x40003044, 16, 2, 0x0, 0xFFFF, 0x0, 0x0, 0x0, 0x0, 0x0, 0xFFFF⟩,
  ⟨"RTC_ALMPER", 0x40003048, 16, 2, 0x0, 0xFFFFFFFF, 0x0, 0x0, 0x0, 0x0, 0x0, 0xFFFFFFFF⟩,
  ⟨"RTC_ALMCTL", 0x4000304C, 16, 2, 0x0, 0x1, 0x0, 0x0, 0xE, 0x0, 0x0, 0xF⟩,
  ⟨"TBASE_CTL", 0x40004000, 4, 1, 0x0, 0x3, 0x0, 0x0, 0x0, 0x0, 0x0, 0x2⟩,
  ⟨"TBASE_STATUS", 0x40004004, 4, 1, 0x0, 0x0, 0x0, 0x0, 0x4, 0x0, 0x0, 0x10⟩]

def regRows2 : List RegRow := [
  ⟨"TBASE_NOW_LO", 0x40004008, 4, 1, 0x0, 0x0, 0x0, 0x0, 0x0, 0x0, 0x0, 0x0⟩,
  ⟨"TBASE_NOW_HI", 0x4000400C, 4, 1, 0x0, 0x0, 0x0, 0x0, 0x0, 0x0, 0x0, 0x0⟩,
  ⟨"TBASE_NOW_F", 0x40004010, 4, 1, 0x0, 0x0, 0x0, 0x0, 0x0, 0x0, 0x0, 0x0⟩,
  ⟨"TBASE_LFCAL", 0x40004014, 4, 1, 0x4C4B400, 0x0, 0x0, 0x0, 0x0, 0x0, 0x0, 0xFFFFFFFF⟩,
  ⟨"EVL_STATUS", 0x40005000, 4, 1, 0x0, 0x0, 0x0, 0x0, 0x3, 0x0, 0x0, 0x0⟩,
  ⟨"EVL_LOOP", 0x40005004, 4, 1, 0x0, 0x0, 0x0, 0x0, 0x0, 0x0, 0xFFFF0000, 0x0⟩,
  ⟨"EVL_PUBSW", 0x40005008, 4, 1, 0x0, 0x0, 0x0, 0x0, 0x0, 0x0, 0x0, 0x0⟩,
  ⟨"EVL_WATCH", 0x40005010, 4, 3, 0x0, 0x0, 0x0, 0x0, 0xFFFFFFFF, 0x0, 0x0, 0x0⟩,
  ⟨"EVL_WATCHEN", 0x40005020, 4, 3, 0x0, 0xFFFFFFFF, 0x0, 0x0, 0x0, 0x0, 0x0, 0xFFFFFFFF⟩,
  ⟨"EVL_LINECFG", 0x40005100, 4, 96, 0x40000, 0x701FF, 0x0, 0x0, 0x0, 0x0, 0x0, 0x701FF⟩,
  ⟨"EVL_COAL", 0x40005300, 4, 96, 0x0, 0x0, 0x0, 0x0, 0x0, 0x0, 0xFFFF, 0x0⟩,
  ⟨"EVL_PUBCFG", 0x40005500, 4, 56, 0x7F, 0x7F, 0x0, 0x0, 0x0, 0x0, 0x0, 0x7F⟩,
  ⟨"ICOL0_TAKE", 0x40006000, 4, 1, 0x0, 0x0, 0x0, 0x0, 0x0, 0x0, 0xF3FF01FF, 0x0⟩,
  ⟨"ICOL0_EOI", 0x40006004, 4, 1, 0x0, 0x0, 0x0, 0x0, 0x0, 0x0, 0x0, 0x0⟩,
  ⟨"ICOL0_RUN", 0x40006008, 4, 1, 0x8, 0x0, 0x0, 0x0, 0x0, 0x0, 0x0, 0x0⟩,
  ⟨"ICOL0_STATUS", 0x4000600C, 4, 1, 0x0, 0x0, 0x0, 0x0, 0x1C, 0x0, 0x0, 0x0⟩,
  ⟨"ICOL0_CTL", 0x40006010, 4, 1, 0x0, 0x701, 0x0, 0x0, 0x0, 0x0, 0x0, 0x701⟩,
  ⟨"ICOL0_RBASE", 0x40006014, 4, 1, 0x0, 0x0, 0x0, 0xFFFFFFF0, 0x0, 0x0, 0x0, 0xFFFFFFF0⟩,
  ⟨"ICOL0_RCFG", 0x40006018, 4, 1, 0x10, 0x0, 0x0, 0x7F, 0x0, 0x0, 0x0, 0x7F⟩,
  ⟨"ICOL0_MOD", 0x4000601C, 4, 1, 0x70640000, 0xFFFF000F, 0x0, 0x0, 0x0, 0x0, 0x0, 0xFFFF000F⟩,
  ⟨"ICOL0_OVFCNT", 0x40006020, 4, 1, 0x0, 0x0, 0x0, 0x0, 0x0, 0x0, 0xFFFF, 0x0⟩,
  ⟨"ICOL0_QCNT0", 0x40006024, 4, 1, 0x0, 0x0, 0x0, 0x0, 0x0, 0x0, 0x0, 0x0⟩,
  ⟨"ICOL0_QCNT1", 0x40006028, 4, 1, 0x0, 0x0, 0x0, 0x0, 0x0, 0x0, 0x0, 0x0⟩,
  ⟨"ICOL0_SWPLO", 0x40006030, 4, 1, 0x0, 0xFFFFFFFF, 0x0, 0x0, 0x0, 0x0, 0x0, 0x0⟩,
  ⟨"ICOL0_SWPHI", 0x40006034, 4, 1, 0x0, 0xFFFFFFFF, 0x0, 0x0, 0x0, 0x0, 0x0, 0x0⟩,
  ⟨"ICOL0_SWPOST", 0x40006038, 4, 1, 0x0, 0x0, 0x0, 0x0, 0x0, 0x0, 0x0, 0x0⟩,
  ⟨"ICOL0_PRI", 0x40006200, 4, 128, 0x0, 0x77777777, 0x0, 0x0, 0x0, 0x0, 0x0, 0x77777777⟩,
  ⟨"ICOL1_TAKE", 0x40007000, 4, 1, 0x0, 0x0, 0x0, 0x0, 0x0, 0x0, 0xF3FF01FF, 0x0⟩,
  ⟨"ICOL1_EOI", 0x40007004, 4, 1, 0x0, 0x0, 0x0, 0x0, 0x0, 0x0, 0x0, 0x0⟩,
  ⟨"ICOL1_RUN", 0x40007008, 4, 1, 0x8, 0x0, 0x0, 0x0, 0x0, 0x0, 0x0, 0x0⟩,
  ⟨"ICOL1_STATUS", 0x4000700C, 4, 1, 0x0, 0x0, 0x0, 0x0, 0x1C, 0x0, 0x0, 0x0⟩,
  ⟨"ICOL1_CTL", 0x40007010, 4, 1, 0x0, 0x701, 0x0, 0x0, 0x0, 0x0, 0x0, 0x701⟩,
  ⟨"ICOL1_RBASE", 0x40007014, 4, 1, 0x0, 0x0, 0x0, 0xFFFFFFF0, 0x0, 0x0, 0x0, 0xFFFFFFF0⟩,
  ⟨"ICOL1_RCFG", 0x40007018, 4, 1, 0x10, 0x0, 0x0, 0x7F, 0x0, 0x0, 0x0, 0x7F⟩]

def regRows3 : List RegRow := [
  ⟨"ICOL1_MOD", 0x4000701C, 4, 1, 0x70640000, 0xFFFF000F, 0x0, 0x0, 0x0, 0x0, 0x0, 0xFFFF000F⟩,
  ⟨"ICOL1_OVFCNT", 0x40007020, 4, 1, 0x0, 0x0, 0x0, 0x0, 0x0, 0x0, 0xFFFF, 0x0⟩,
  ⟨"ICOL1_QCNT0", 0x40007024, 4, 1, 0x0, 0x0, 0x0, 0x0, 0x0, 0x0, 0x0, 0x0⟩,
  ⟨"ICOL1_QCNT1", 0x40007028, 4, 1, 0x0, 0x0, 0x0, 0x0, 0x0, 0x0, 0x0, 0x0⟩,
  ⟨"ICOL1_SWPLO", 0x40007030, 4, 1, 0x0, 0xFFFFFFFF, 0x0, 0x0, 0x0, 0x0, 0x0, 0x0⟩,
  ⟨"ICOL1_SWPHI", 0x40007034, 4, 1, 0x0, 0xFFFFFFFF, 0x0, 0x0, 0x0, 0x0, 0x0, 0x0⟩,
  ⟨"ICOL1_SWPOST", 0x40007038, 4, 1, 0x0, 0x0, 0x0, 0x0, 0x0, 0x0, 0x0, 0x0⟩,
  ⟨"ICOL1_PRI", 0x40007200, 4, 128, 0x0, 0x77777777, 0x0, 0x0, 0x0, 0x0, 0x0, 0x77777777⟩,
  ⟨"FLC_CTL", 0x40008000, 4, 1, 0x0, 0x3, 0x0, 0x0, 0x0, 0x0, 0x0, 0x3⟩,
  ⟨"FLC_STATUS", 0x40008004, 4, 1, 0x0, 0x0, 0x0, 0x0, 0x3C0, 0x0, 0x0, 0x0⟩,
  ⟨"FLC_CMD", 0x40008008, 4, 1, 0x0, 0x0, 0x0, 0x0, 0x0, 0x0, 0x0, 0x0⟩,
  ⟨"FLC_ADDR", 0x4000800C, 4, 1, 0x10000000, 0xFFFFFFFF, 0x0, 0x0, 0x0, 0x0, 0x0, 0x0⟩,
  ⟨"FLC_ARG", 0x40008010, 4, 1, 0x10000, 0x1FF0001, 0x0, 0x0, 0x0, 0x0, 0x0, 0x0⟩,
  ⟨"FLC_RESULT", 0x40008014, 4, 1, 0x0, 0x0, 0x0, 0x0, 0x0, 0x0, 0x0, 0x0⟩,
  ⟨"FLC_PROT", 0x40008018, 4, 1, 0x1, 0x7, 0x0, 0x0, 0x0, 0x0, 0x0, 0x7⟩,
  ⟨"FLC_BOOT", 0x4000801C, 4, 1, 0x0, 0x0, 0x0, 0x0, 0x0, 0x0, 0x0, 0x0⟩,
  ⟨"FLC_UEADDR", 0x40008020, 4, 1, 0x0, 0x0, 0x0, 0x0, 0x0, 0x0, 0x0, 0xFFFFFFFF⟩,
  ⟨"FLC_RRSTAT", 0x40008024, 4, 1, 0x0, 0x0, 0x0, 0x0, 0x0, 0x0, 0xFFFF0000, 0x0⟩,
  ⟨"FLC_RRADDR", 0x40008028, 4, 1, 0x0, 0x0, 0x0, 0x0, 0x0, 0x0, 0x0, 0x0⟩,
  ⟨"FLC_ECNT", 0x4000802C, 4, 1, 0x0, 0x0, 0x0, 0x0, 0x0, 0x0, 0xFFFFFFFF, 0x0⟩,
  ⟨"FLC_MSTAT", 0x40008030, 4, 1, 0x0, 0x0, 0x0, 0x0, 0x0, 0x0, 0x0, 0x0⟩,
  ⟨"FLC_MADDR", 0x40008034, 4, 1, 0x0, 0x0, 0x0, 0x0, 0x0, 0x0, 0x0, 0x0⟩,
  ⟨"FLC_ESCNT", 0x40008038, 4, 1, 0x0, 0x0, 0x0, 0x0, 0x0, 0x0, 0x0, 0x0⟩,
  ⟨"FLC_ABORT", 0x4000803C, 4, 1, 0x0, 0x0, 0x0, 0x0, 0x80000000, 0x0, 0x0, 0x800003FF⟩,
  ⟨"FLC_PBUF", 0x40008100, 4, 64, 0xFFFFFFFF, 0xFFFFFFFF, 0x0, 0x0, 0x0, 0x0, 0x0, 0x0⟩,
  ⟨"MEMC_STATUS", 0x40009000, 4, 1, 0x0, 0x0, 0x0, 0x0, 0x78, 0x0, 0x0, 0x80⟩,
  ⟨"MEMC_BANKCTL", 0x40009004, 4, 1, 0x0, 0xFFFFFFFF, 0x0, 0x0, 0x0, 0x0, 0x0, 0x0⟩,
  ⟨"MEMC_RBANKCTL", 0x40009008, 4, 1, 0x0, 0xFF, 0x0, 0x0, 0x0, 0x0, 0x0, 0x0⟩,
  ⟨"MEMC_BANKSTAT", 0x4000900C, 4, 1, 0x0, 0x0, 0x0, 0x0, 0x0, 0x0, 0x0, 0x0⟩,
  ⟨"MEMC_RBANKSTAT", 0x40009010, 4, 1, 0x0, 0x0, 0x0, 0x0, 0x0, 0x0, 0x0, 0x0⟩,
  ⟨"MEMC_BAD", 0x40009014, 4, 1, 0x0, 0x0, 0x0, 0x0, 0x0, 0x0, 0x0, 0xFFFFF⟩,
  ⟨"MEMC_RETSEL", 0x40009018, 4, 1, 0xFFFFF, 0xFFFFF, 0x0, 0x0, 0x0, 0x0, 0x0, 0xFFFFF⟩,
  ⟨"MEMC_TCMD", 0x40009020, 4, 1, 0x0, 0x0, 0x0, 0x0, 0x0, 0x0, 0x0, 0x0⟩,
  ⟨"MEMC_TSTAT", 0x40009024, 4, 1, 0x0, 0x0, 0x0, 0x0, 0x0, 0x0, 0x0, 0x1F0FFF⟩]

def regRows4 : List RegRow := [
  ⟨"MEMC_BERR", 0x40009028, 4, 1, 0x0, 0x0, 0x0, 0x0, 0x0, 0x0, 0x0, 0xFFFFFFFF⟩,
  ⟨"MEMC_BCNT", 0x4000902C, 4, 1, 0x0, 0x0, 0x0, 0x0, 0x0, 0x0, 0xFFFFFFFF, 0x0⟩,
  ⟨"MEMC_REPAIR", 0x40009040, 4, 20, 0x400, 0x0, 0x0, 0x0, 0x0, 0x0, 0x0, 0xF0⟩,
  ⟨"CIPH_CTL", 0x4000A000, 4, 1, 0x0, 0x1, 0x0, 0x0, 0x0, 0x0, 0x0, 0x1⟩,
  ⟨"CIPH_STATUS", 0x4000A004, 4, 1, 0x0, 0x0, 0x0, 0x0, 0x30, 0x0, 0x0, 0x0⟩,
  ⟨"CIPH_ALMCAUSE", 0x4000A008, 4, 1, 0x0, 0x0, 0x0, 0x0, 0xF, 0x0, 0x0, 0xFFFF000F⟩,
  ⟨"CIPH_ALMEN", 0x4000A00C, 4, 1, 0xF, 0xA, 0x0, 0x0, 0x0, 0x80000000, 0x0, 0x8000000A⟩,
  ⟨"CIPH_KSEL", 0x4000A010, 4, 1, 0x0, 0x3EFF, 0x0, 0x0, 0x0, 0x0, 0x0, 0x0⟩,
  ⟨"CIPH_KCMD", 0x4000A014, 4, 1, 0x0, 0x0, 0x0, 0x0, 0x0, 0x0, 0x0, 0x0⟩,
  ⟨"CIPH_KDATA", 0x4000A020, 4, 8, 0x0, 0x0, 0x0, 0x0, 0x0, 0x0, 0x0, 0x0⟩,
  ⟨"CIPH_QBASE", 0x4000A040, 16, 2, 0x0, 0x0, 0x0, 0xFFFFFFE0, 0x0, 0x0, 0x0, 0xFFFFFFE0⟩,
  ⟨"CIPH_QPUT", 0x4000A044, 16, 2, 0x0, 0xFFFF, 0x0, 0x0, 0x0, 0x0, 0x0, 0x0⟩,
  ⟨"CIPH_QDONE", 0x4000A048, 16, 2, 0x0, 0x0, 0x0, 0x0, 0x0, 0x0, 0x0, 0x0⟩,
  ⟨"CIPH_QCTL", 0x4000A04C, 16, 2, 0x0, 0x0, 0x0, 0x0, 0x2, 0x0, 0x0, 0x0⟩,
  ⟨"CIPH_KINFO", 0x4000A400, 4, 256, 0x0, 0x0, 0x0, 0x0, 0x0, 0x0, 0x0, 0x0⟩,
  ⟨"RFE_CTL", 0x4000B000, 4, 1, 0x0, 0x1, 0x0, 0x0, 0x0, 0x0, 0x0, 0x0⟩,
  ⟨"RFE_STATUS", 0x4000B004, 4, 1, 0x100, 0x0, 0x0, 0x0, 0xE00, 0x0, 0x0, 0x0⟩,
  ⟨"RFE_CMD", 0x4000B008, 4, 1, 0x0, 0x0, 0x0, 0x0, 0x0, 0x0, 0x0, 0x0⟩,
  ⟨"RFE_TXCFG", 0x4000B00C, 4, 1, 0x8000010, 0x3F3F3F11, 0x0, 0x0, 0x0, 0x0, 0x0, 0x0⟩,
  ⟨"RFE_SPCTL", 0x4000B010, 4, 1, 0x0, 0x1137F, 0x0, 0x0, 0x0, 0x0, 0x0, 0x0⟩,
  ⟨"RFE_SPSTAT", 0x4000B014, 4, 1, 0x0, 0x0, 0x0, 0x0, 0x0, 0x0, 0x0, 0x0⟩,
  ⟨"RFE_ANTCFG", 0x4000B018, 4, 1, 0x3, 0x0, 0x0, 0x13, 0x0, 0x0, 0x0, 0x0⟩,
  ⟨"RFE_CALCTL", 0x4000B01C, 4, 1, 0x1, 0x1, 0x0, 0x0, 0x0, 0x0, 0x0, 0x0⟩,
  ⟨"RFE_TXSTAT", 0x4000B020, 4, 1, 0x0, 0x0, 0x0, 0x0, 0x0, 0x0, 0x0, 0x0⟩,
  ⟨"RFE_CALTAB", 0x4000B400, 4, 128, 0x0, 0x0, 0x0, 0x0, 0x0, 0x0, 0x0, 0xC0FF3FFF⟩,
  ⟨"ENV_CTL", 0x4000C000, 4, 1, 0x0, 0x3, 0x0, 0x0, 0x0, 0x0, 0x0, 0x0⟩,
  ⟨"ENV_STATUS", 0x4000C004, 4, 1, 0x0, 0x0, 0x0, 0x0, 0xB00, 0x0, 0x0, 0x0⟩,
  ⟨"ENV_CFG", 0x4000C008, 4, 1, 0x30, 0x0, 0x0, 0x33, 0x0, 0x0, 0x0, 0x0⟩,
  ⟨"ENV_NFCFG", 0x4000C00C, 4, 1, 0x1, 0x0, 0x1, 0x0, 0x0, 0x0, 0x0, 0x0⟩,
  ⟨"ENV_SVBASE", 0x4000C010, 4, 1, 0x2103BC00, 0xFFFFFFF0, 0x0, 0x0, 0x0, 0x0, 0x0, 0x0⟩,
  ⟨"ENV_SVSTAT", 0x4000C014, 4, 1, 0x0, 0x0, 0x0, 0x0, 0x0, 0x0, 0x0, 0xFFFFFFFF⟩,
  ⟨"ENV_GHOLD_SET", 0x4000C040, 4, 1, 0x0, 0x0, 0x0, 0x0, 0x0, 0xFFFF, 0x0, 0xFFFF⟩,
  ⟨"ENV_GHOLD_CLR", 0x4000C044, 4, 1, 0x0, 0x0, 0x0, 0x0, 0xFFFF, 0x0, 0x0, 0xFFFF⟩,
  ⟨"ENV_GRUN", 0x4000C048, 4, 1, 0x0, 0x0, 0x0, 0x0, 0x0, 0x0, 0x0, 0x0⟩]

def regRows5 : List RegRow := [
  ⟨"ENV_GCFG", 0x4000C100, 4, 16, 0xA60FF, 0xFF, 0xFFF00, 0x0, 0x0, 0x0, 0x0, 0x0⟩,
  ⟨"ENV_GMODE", 0x4000C140, 4, 16, 0x0, 0x0, 0x0, 0x1, 0x0, 0x0, 0x0, 0x0⟩,
  ⟨"ENV_GSTAT", 0x4000C180, 4, 16, 0x1, 0x0, 0x0, 0x0, 0x8, 0x0, 0x0, 0x0⟩,
  ⟨"ENV_LSTAT", 0x4000C400, 4, 128, 0x80000000, 0x0, 0x0, 0x0, 0x0, 0x0, 0x0, 0x0⟩,
  ⟨"ENV_NF", 0x4000C600, 4, 128, 0x0, 0x0, 0x0, 0x0, 0x0, 0x0, 0x0, 0x0⟩,
  ⟨"ENV_LERR", 0x4000C800, 4, 128, 0x0, 0x0, 0x0, 0x0, 0x0, 0x0, 0xFFFFFFFF, 0x0⟩,
  ⟨"REEL_E16CTL", 0x4000D000, 4, 1, 0x0, 0x1, 0x0, 0x0, 0x0, 0x0, 0x0, 0x0⟩,
  ⟨"REEL_STATUS", 0x4000D004, 4, 1, 0x0, 0x0, 0x0, 0x0, 0x0, 0x0, 0x0, 0x0⟩,
  ⟨"REEL_FLTMAP", 0x4000D008, 4, 1, 0x0, 0x0, 0x0, 0x0, 0x0, 0x0, 0x0, 0x0⟩,
  ⟨"REEL_LASTF", 0x4000D00C, 4, 1, 0x0, 0x0, 0x0, 0x0, 0x0, 0x0, 0x0, 0xF1F783FF⟩,
  ⟨"REEL_FATALE", 0x4000D010, 4, 1, 0x0, 0x1FFFF, 0x0, 0x0, 0x0, 0x0, 0x0, 0x0⟩,
  ⟨"REEL_FATALC", 0x4000D014, 4, 1, 0x0, 0x3FE, 0x0, 0x0, 0x0, 0x0, 0x0, 0x0⟩,
  ⟨"REEL_CRST", 0x4000D018, 4, 1, 0x0, 0x0, 0x0, 0x0, 0x0, 0x0, 0x0, 0x0⟩,
  ⟨"REEL_WIGN", 0x4000D01C, 4, 1, 0x0, 0x0, 0x0, 0x0, 0x1FFFF, 0x0, 0x0, 0x0⟩,
  ⟨"REEL_TXQBASE", 0x4000D020, 4, 1, 0x2103D000, 0x0, 0x0, 0xFFFFF000, 0x0, 0x0, 0x0, 0x0⟩,
  ⟨"REEL_TXQSTAT", 0x4000D024, 4, 1, 0x0, 0x0, 0x0, 0x0, 0x0, 0x0, 0x0, 0x0⟩,
  ⟨"REEL_LDSRC", 0x4000D028, 4, 1, 0x0, 0xFFFFFFF8, 0x0, 0x0, 0x0, 0x0, 0x0, 0x0⟩,
  ⟨"REEL_LDCMD", 0x4000D02C, 4, 1, 0x0, 0x0, 0x0, 0x0, 0x0, 0x0, 0x0, 0x0⟩,
  ⟨"REEL_DSEL", 0x4000D030, 4, 1, 0x0, 0x1F077F, 0x0, 0x0, 0x0, 0x0, 0x0, 0x0⟩,
  ⟨"REEL_DVAL", 0x4000D034, 4, 1, 0x0, 0x0, 0x0, 0x0, 0x0, 0x0, 0x0, 0x0⟩,
  ⟨"REEL_LDSTAT", 0x4000D038, 4, 1, 0x0, 0x0, 0x0, 0x0, 0x300, 0x0, 0x0, 0x0⟩,
  ⟨"REEL_LDDARK", 0x4000D03C, 4, 1, 0x0, 0x0, 0x0, 0x0, 0x0, 0x0, 0x0, 0x0⟩,
  ⟨"REEL_TID", 0x4000D040, 4, 17, 0x0, 0x0, 0x0, 0xFFFFFFFF, 0x0, 0x0, 0x0, 0xFFFFFFFF⟩,
  ⟨"REEL_CSW", 0x4000D100, 4, 136, 0x0, 0x0, 0x0, 0x0, 0x0, 0x0, 0x0, 0x0⟩,
  ⟨"LINK_STATUS", 0x4000E000, 4, 1, 0x0, 0x0, 0x0, 0x0, 0x34, 0x0, 0x0, 0x0⟩,
  ⟨"LINK_SLOTCFG", 0x4000E004, 4, 1, 0x2710, 0x0, 0xFFFF, 0x0, 0x0, 0x0, 0x0, 0xFFFF⟩,
  ⟨"LINK_EVC_LO", 0x4000E008, 4, 1, 0x0, 0x0, 0x0, 0x0, 0x0, 0x0, 0x0, 0x0⟩,
  ⟨"LINK_EVC_HI", 0x4000E00C, 4, 1, 0x0, 0x0, 0x0, 0x0, 0x0, 0x0, 0x0, 0x0⟩,
  ⟨"LINK_EVCSET_LO", 0x4000E010, 4, 1, 0x0, 0xFFFFFFFF, 0x0, 0x0, 0x0, 0x0, 0x0, 0x0⟩,
  ⟨"LINK_EVCSET_HI", 0x4000E014, 4, 1, 0x0, 0xFF, 0x0, 0x0, 0x0, 0x0, 0x0, 0x0⟩,
  ⟨"LINK_CMD", 0x4000E018, 4, 1, 0x0, 0x0, 0x0, 0x0, 0x0, 0x0, 0x0, 0x0⟩,
  ⟨"LINK_ADJ", 0x4000E01C, 4, 1, 0x0, 0x0, 0x0, 0x0, 0x0, 0x0, 0x0, 0x0⟩,
  ⟨"LINK_SSTART_LO", 0x4000E020, 4, 1, 0x0, 0x0, 0x0, 0x0, 0x0, 0x0, 0x0, 0x0⟩,
  ⟨"LINK_SSTART_HI", 0x4000E024, 4, 1, 0x0, 0x0, 0x0, 0x0, 0x0, 0x0, 0x0, 0x0⟩]

def regRows6 : List RegRow := [
  ⟨"LINK_PARENT", 0x4000E028, 4, 1, 0xFA, 0x83FFFFFF, 0x0, 0x0, 0x0, 0x0, 0x0, 0x0⟩,
  ⟨"LINK_PPM", 0x4000E02C, 4, 1, 0x14, 0x0, 0x7F, 0x0, 0x0, 0x0, 0x0, 0x0⟩,
  ⟨"LINK_DWCFG", 0x4000E030, 4, 1, 0x1901400, 0x0, 0xFFFF3F01, 0x0, 0x0, 0x0, 0x0, 0x0⟩,
  ⟨"LINK_DWSTAT", 0x4000E034, 4, 1, 0x0, 0x0, 0x0, 0x0, 0x0, 0x0, 0xFFFF, 0x0⟩,
  ⟨"LINK_DWSEL", 0x4000E038, 4, 1, 0x0, 0x7F, 0x0, 0x0, 0x0, 0x0, 0x0, 0x0⟩,
  ⟨"LINK_DWVAL", 0x4000E03C, 4, 1, 0x0, 0x0, 0x0, 0x0, 0x0, 0x0, 0x0, 0x0⟩,
  ⟨"LINK_LSEL", 0x4000E040, 4, 1, 0x0, 0x7F1F, 0x0, 0x0, 0x0, 0x0, 0x0, 0x0⟩,
  ⟨"LINK_LVAL", 0x4000E044, 4, 1, 0x0, 0x0, 0x0, 0x0, 0x0, 0x0, 0x0, 0x0⟩,
  ⟨"LINK_MAPCTL", 0x4000E100, 4, 32, 0x100, 0x0, 0x7F01, 0x0, 0x0, 0x0, 0x0, 0x0⟩,
  ⟨"LINK_MAP", 0x4000E200, 4, 128, 0x0, 0x0, 0xFFFFFFFF, 0x0, 0x0, 0x0, 0x0, 0xFFFFFFFF⟩,
  ⟨"LINK_FFCFG", 0x4000E400, 4, 1, 0x7, 0x0, 0x7, 0x0, 0x0, 0x0, 0x0, 0x7⟩,
  ⟨"LINK_IDEXTLO", 0x4000E410, 16, 4, 0x0, 0x0, 0xFFFFFFFF, 0x0, 0x0, 0x0, 0x0, 0xFFFFFFFF⟩,
  ⟨"LINK_IDEXTHI", 0x4000E414, 16, 4, 0x0, 0x0, 0xFFFFFFFF, 0x0, 0x0, 0x0, 0x0, 0xFFFFFFFF⟩,
  ⟨"LINK_IDSPAN", 0x4000E418, 16, 4, 0xFFFFFFFE, 0x0, 0xFFFFFFFF, 0x0, 0x0, 0x0, 0x0, 0xFFFFFFFF⟩,
  ⟨"LINK_IDCTL", 0x4000E41C, 16, 4, 0x0, 0x0, 0x3, 0x0, 0x0, 0x0, 0x0, 0x1⟩,
  ⟨"LINK_RBASE", 0x4000E460, 16, 2, 0x0, 0xFFFFFFC0, 0x0, 0x0, 0x0, 0x0, 0x0, 0xFFFFFFC0⟩,
  ⟨"LINK_RCFG", 0x4000E464, 16, 2, 0x0, 0x101FF, 0x0, 0x0, 0x0, 0x0, 0x0, 0x1FF⟩,
  ⟨"LINK_RPUT", 0x4000E468, 16, 2, 0x0, 0x0, 0x0, 0x0, 0x0, 0x0, 0xFFFF0000, 0x0⟩,
  ⟨"LINK_RTAKE", 0x4000E46C, 16, 2, 0x0, 0xFFFF, 0x0, 0x0, 0x0, 0x0, 0x0, 0x0⟩,
  ⟨"COEX_CTL", 0x4000F000, 4, 1, 0x2840, 0xFF7F, 0x0, 0x0, 0x0, 0x0, 0x0, 0x0⟩,
  ⟨"COEX_FEM", 0x4000F004, 4, 1, 0x0, 0x3, 0x0, 0x0, 0x0, 0x0, 0x0, 0x0⟩,
  ⟨"COEX_STATUS", 0x4000F008, 4, 1, 0x0, 0x0, 0x0, 0x0, 0x0, 0x0, 0x0, 0x0⟩,
  ⟨"COEX_CNT", 0x4000F00C, 4, 1, 0x0, 0x0, 0x0, 0x0, 0x0, 0x0, 0xFFFFFFFF, 0x0⟩,
  ⟨"GPIO_IN", 0x40010000, 4, 2, 0x0, 0x0, 0x0, 0x0, 0x0, 0x0, 0x0, 0x0⟩,
  ⟨"GPIO_OUTSET", 0x40010008, 4, 2, 0x0, 0x0, 0x0, 0x0, 0x0, 0xFFFFFFFF, 0x0, 0x0⟩,
  ⟨"GPIO_OUTCLR", 0x40010010, 4, 2, 0x0, 0x0, 0x0, 0x0, 0xFFFFFFFF, 0x0, 0x0, 0x0⟩,
  ⟨"GPIO_CFG", 0x40010100, 4, 40, 0x0, 0x7FF, 0x0, 0x0, 0x0, 0x0, 0x0, 0x0⟩,
  ⟨"SPIC_CTL", 0x40011000, 4096, 2, 0x300, 0x1F39, 0x0, 0x0, 0x0, 0x0, 0x0, 0x0⟩,
  ⟨"SPIC_CMD", 0x40011004, 4096, 2, 0x0, 0x0, 0x0, 0x0, 0x0, 0x0, 0x0, 0x0⟩,
  ⟨"SPIC_STATUS", 0x40011008, 4096, 2, 0x0, 0x0, 0x0, 0x0, 0x18, 0x0, 0x0, 0x0⟩,
  ⟨"SPIC_DATA", 0x4001100C, 4096, 2, 0x0, 0x0, 0x0, 0x0, 0x0, 0x0, 0xFF, 0x0⟩,
  ⟨"UART_CTL", 0x40013000, 4096, 2, 0x0, 0x1F3, 0x0, 0x0, 0x0, 0x0, 0x0, 0x0⟩,
  ⟨"UART_BAUD", 0x40013004, 4096, 2, 0x22B9, 0xFFFFF, 0x0, 0x0, 0x0, 0x0, 0x0, 0x0⟩,
  ⟨"UART_STATUS", 0x40013008, 4096, 2, 0x4, 0x0, 0x0, 0x0, 0x78, 0x0, 0x0, 0x0⟩]

def regRows7 : List RegRow := [
  ⟨"UART_DATA", 0x4001300C, 4096, 2, 0x0, 0x0, 0x0, 0x0, 0x0, 0x0, 0xFF, 0x0⟩,
  ⟨"I2C_CTL", 0x40015000, 4096, 2, 0x0, 0x6, 0x0, 0x0, 0x0, 0x0, 0x0, 0x0⟩,
  ⟨"I2C_CMD", 0x40015004, 4096, 2, 0x0, 0x0, 0x0, 0x0, 0x0, 0x0, 0x0, 0x0⟩,
  ⟨"I2C_STATUS", 0x40015008, 4096, 2, 0x0, 0x0, 0x0, 0x0, 0x18, 0x0, 0x0, 0x0⟩,
  ⟨"I2C_DATA", 0x4001500C, 4096, 2, 0x0, 0x0, 0x0, 0x0, 0x0, 0x0, 0xFF, 0x0⟩,
  ⟨"SADC_CTL", 0x40017000, 4, 1, 0x0, 0x71, 0x0, 0x0, 0x0, 0x0, 0x0, 0x0⟩,
  ⟨"SADC_CMD", 0x40017004, 4, 1, 0x0, 0x0, 0x0, 0x0, 0x0, 0x0, 0x0, 0x0⟩,
  ⟨"SADC_RESULT", 0x40017008, 4, 1, 0x0, 0x0, 0x0, 0x0, 0x0, 0x0, 0x80000000, 0x0⟩,
  ⟨"SADC_TEMP", 0x4001700C, 4, 1, 0x0, 0x0, 0x0, 0x0, 0x0, 0x0, 0x0, 0x0⟩,
  ⟨"SADC_VMON", 0x40017010, 4, 1, 0x0, 0x0, 0x0, 0x0, 0x0, 0x0, 0x0, 0x0⟩,
  ⟨"SADC_MONCFG", 0x40017014, 4, 1, 0x6ED80834, 0xFFFFFFFF, 0x0, 0x0, 0x0, 0x0, 0x0, 0x0⟩,
  ⟨"SADC_MONSTAT", 0x40017018, 4, 1, 0x0, 0x0, 0x0, 0x0, 0x7, 0x0, 0x0, 0x0⟩,
  ⟨"TMR_CTL", 0x40018000, 16, 8, 0x0, 0x3, 0x0, 0x0, 0x0, 0x0, 0x0, 0x0⟩,
  ⟨"TMR_LOAD", 0x40018004, 16, 8, 0x0, 0xFFFFFFFF, 0x0, 0x0, 0x0, 0x0, 0x0, 0x0⟩,
  ⟨"TMR_CNT", 0x40018008, 16, 8, 0x0, 0x0, 0x0, 0x0, 0x0, 0x0, 0x0, 0x0⟩,
  ⟨"TMR_CMD", 0x4001800C, 16, 8, 0x0, 0x0, 0x0, 0x0, 0x0, 0x0, 0x0, 0x0⟩,
  ⟨"TRNG_CTL", 0x40019000, 4, 1, 0x0, 0x1, 0x0, 0x0, 0x0, 0x0, 0x0, 0x0⟩,
  ⟨"TRNG_STATUS", 0x40019004, 4, 1, 0x0, 0x0, 0x0, 0x0, 0x2, 0x0, 0x0, 0x0⟩,
  ⟨"TRNG_DATA", 0x40019008, 4, 1, 0x0, 0x0, 0x0, 0x0, 0x0, 0x0, 0xFFFFFFFF, 0x0⟩,
  ⟨"WDT_CTL", 0x4001A000, 4096, 2, 0x3E8, 0x1FFFF, 0x0, 0x0, 0x0, 0x80000000, 0x0, 0x0⟩,
  ⟨"WDT_KICK", 0x4001A004, 4096, 2, 0x0, 0x0, 0x0, 0x0, 0x0, 0x0, 0x0, 0x0⟩,
  ⟨"WDT_CNT", 0x4001A008, 4096, 2, 0x0, 0x0, 0x0, 0x0, 0x0, 0x0, 0x0, 0x0⟩,
  ⟨"HOSTIF_CTL", 0x4001C000, 4, 1, 0x0, 0x7, 0x0, 0x0, 0x0, 0x0, 0x0, 0x0⟩,
  ⟨"HOSTIF_STATUS", 0x4001C004, 4, 1, 0x0, 0x0, 0x0, 0x0, 0x0, 0x0, 0x0, 0x0⟩,
  ⟨"HOSTIF_CMD", 0x4001C008, 4, 1, 0x0, 0x0, 0x0, 0x0, 0x0, 0x0, 0x0, 0x0⟩,
  ⟨"HOSTIF_ERR", 0x4001C00C, 4, 1, 0x0, 0x0, 0x0, 0x0, 0x1F, 0x0, 0x0, 0x0⟩,
  ⟨"HOSTIF_RXBUF", 0x4001C400, 4, 256, 0x0, 0x0, 0x0, 0x0, 0x0, 0x0, 0x0, 0x0⟩,
  ⟨"HOSTIF_TXBUF", 0x4001C800, 4, 256, 0x0, 0xFFFFFFFF, 0x0, 0x0, 0x0, 0x0, 0x0, 0x0⟩]

/-- Every register of the manual's maps, in address order of the first of each row. -/
def regRows : List RegRow :=
  regRows0 ++ regRows1 ++ regRows2 ++ regRows3 ++ regRows4 ++ regRows5 ++ regRows6 ++ regRows7

/-- The row of the register at address `a`, if the manual assigns one there (R6). -/
def regRow? (a : Nat) : Option RegRow :=
  regRows.find? fun r => r.base ≤ a && (a - r.base) % r.stride == 0 && (a - r.base) / r.stride < r.count

/-- The Reset word of the register at `a`; 0 where none is assigned (R6, R8). `EVL_PUBCFG` resets to the default line of
Table 13-2: outputs 0, 1 and 2 to lines 0, 1 and 2, every other output to none. -/
def regReset (a : Nat) : Word :=
  if a = Reg.EVL_PUBCFG 0 then 0 else if a = Reg.EVL_PUBCFG 1 then 1 else if a = Reg.EVL_PUBCFG 2 then 2
  else match regRow? a with
    | some r => r.reset
    | none => 0

end Sys2Proof.Machine
end

