-- ==== Sys2Proof/Machine/State.lean ====
section
/-! DEFINITION. The state of the block as plain data: the registers of the manual's maps, the memories, and for each unit the
state that the manual gives it beside its registers. Times are ticks of 1/40 µs of network time (R194). -/

namespace Sys2Proof.Machine

/-- Reasons to stop with a fault. The manual gives every command an effect (an access that faults, a command refused,
a context that faults are states of the device), so no command raises one. -/
inductive Fault where
  /-- Raised by no command; kept so that the type is a closed inductive. Safe: it would only stop the model. -/
  | unreachable
  deriving DecidableEq, Repr

/-- Reasons to refuse a command. -/
inductive Refusal where
  /-- Raised by an arm of `exec` whose command has no meaning yet. Safe: the model stops. -/
  | notModelled (mnemonic : String)
  deriving DecidableEq, Repr

/-! ### Accesses and cores -/

/-- What an access or a read returned to its agent (R32, R9). -/
inductive Response where
  | none
  /-- a load or register read completed with this value -/
  | data (w : Word)
  /-- a store or write completed -/
  | done
  /-- held until the memory serves it (R295, R296) -/
  | held
  | loadFault
  | storeFault
  | fetchFault
  /-- error response of the debug module's system bus access or of the mailbox (R32) -/
  | error
  /-- illegal-instruction exception (R23) -/
  | illegal
  /-- stopped before it was made by an address trigger whose action is a breakpoint exception (R24) -/
  | breakpoint
  deriving DecidableEq, Repr

/-- Whether a core is held in reset, runs, or waits in WFI (R335). -/
inductive CoreRun where
  | held | running | wfi
  deriving DecidableEq, Repr

/-- The private state of a core that R15, R21, R24 and Table 16-9 name, as the RISC-V specifications lay it out: general registers x1
to x31, program counter, privilege, trap and counter CSRs, the sixteen PMP regions, and what debug holds of it (`dcsr`, `dpc`, the four
address triggers as pairs of `tdata1` and `tdata2`, the one selected). -/
structure Hart where
  x : List Word
  pc : Word
  user : Bool            -- user mode; machine mode otherwise (R15)
  mstatus : Word
  mtvec : Word
  mie : Word
  mscratch : Word
  mepc : Word
  mcause : Word
  mtval : Word
  minstret : Nat         -- instructions retired (R21)
  pmpcfg : List Byte
  pmpaddr : List Word
  dcsr : Word
  dpc : Word
  tsel : Nat
  trig : List (Word × Word)
  deriving DecidableEq, Repr

/-- An instruction of a halted hart, of the program buffer or of a single step, whose access waits for the flash controller (R24, R295,
R296): the parcels of the program buffer behind it, the register and the form of its load, its length, its address; `fetch` when the single step
still waits for the instruction itself. -/
structure InsWait where
  step : Bool
  fetch : Bool
  rest : List Nat
  rd : Nat
  f3 : Nat
  len : Nat
  addr : Word
  deriving DecidableEq, Repr

/-- One core. -/
structure Core where
  run : CoreRun
  halted : Bool          -- halted by debug (R25)
  start : Word           -- address at which it was last started (R37, R39)
  dcen : Bool            -- ncache.DCEN (Table 1-5)
  icen : Bool            -- ncache.ICEN
  icache : List (Nat × Byte)   -- bytes the instruction cache holds, by address (R18)
  dcache : List (Nat × Byte)   -- bytes the data cache holds, by address (R16)
  mcycle : Nat           -- ticks while neither in WFI nor quiescent (R21)
  timeh : Nat            -- latched by a read of `time` (R20)
  ntimef : Nat
  hart : Hart
  resp : Response        -- of its last access
  wait : Option InsWait
  deriving DecidableEq, Repr

/-- The debug module of R24 (its registers as version 0.13.2 of the debug specification numbers them): activation, the hart selected,
harts that have resumed on request or have been reset, the abstract command unit (`data0`, `data1`, program buffer, `command`, error,
autoexec), the system bus access (address, data, control bits of `sbcs`, error), and the last answer on `dmi`. -/
structure Debug where
  dmactive : Bool
  hartsel : Nat
  resumed : List Bool
  wasReset : List Bool
  data0 : Word
  data1 : Word
  progbuf : List Word
  command : Word
  cmderr : Nat
  autoexec : Word
  sbaddr : Word
  sbdata : Word
  sbctl : Word           -- sbreadonaddr [20], sbaccess [19:17], sbautoincrement [16], sbreadondata [15], sbbusyerror [22] of `sbcs`
  sberr : Nat
  dmiAns : Nat           -- data and op of the last `dmi` operation
  resp : Response        -- of the last system bus access
  deriving DecidableEq, Repr

/-- States of the IEEE 1149.1 TAP controller (R424). -/
inductive TapState where
  | testLogicReset | runTestIdle
  | selectDr | captureDr | shiftDr | exit1Dr | pauseDr | exit2Dr | updateDr
  | selectIr | captureIr | shiftIr | exit1Ir | pauseIr | exit2Ir | updateIr
  deriving DecidableEq, Repr

/-- The test access port (R424, Table 18-16): `ir` the instruction in force, `sr` the shift register, `bsr` the boundary
register's update latches. -/
structure Tap where
  st : TapState
  ir : Nat
  sr : List Bool
  bsr : List Bool
  dmi : List Bool
  tdo : Option Bool
  deriving DecidableEq, Repr

/-! ### Interrupt collectors (chapter 13) -/

/-- A post on its way to a collector (R320): its TIME is the network time of the post in µs. -/
structure IPost where
  src : Nat
  pri : Nat
  sw : Bool
  lo : Word
  hi : Word
  time : Nat
  deriving DecidableEq, Repr

/-- A record counted in a level queue (R319, R325). -/
structure IRec where
  pri : Nat
  idx : Nat
  src : Nat
  taken : Bool
  deriving DecidableEq, Repr

/-- Moderation (R329). -/
inductive IMod where
  | idle
  | hold (start : Nat)
  | released
  deriving DecidableEq, Repr

/-- One collector beside its registers: input buffer, level queues (oldest first), next ring index of each level, running
priority (8: none), stack, merged counts and priority of the most recent post of each source. -/
structure Icol where
  buf : List IPost
  recs : List IRec
  heads : List (Nat × Nat)
  run : Nat
  stack : List (Nat × IRec)
  merged : List (Nat × Nat)
  lastPri : List (Nat × Nat)
  mod : IMod
  deriving DecidableEq, Repr

/-! ### Reel engines (chapter 6) -/

/-- Context states, Table 6-2. -/
inductive CtxSt where
  | stopped | ready | running | waiting | halted | faulted
  deriving DecidableEq, Repr

/-- What a WAITING context waits for (R175). -/
inductive Wait where
  | none
  | ev (mask : Word)
  | time (target : Nat)
  deriving DecidableEq, Repr

/-- Outstanding ARM action that completes by DONE (R163). -/
inductive Act where
  | none | txgo
  | sped (until_ : Nat)
  | sadc
  deriving DecidableEq, Repr

/-- One context (R144): `lat` holds the latched conditions by condition code (Table 6-5), `evtHop` the hop count of the
held event, `evHop` READF EVHOP, `turnHop` the hop count cleared in this turn (R172), `woke` orders the ends of waits
(R148), `life` counts restarts so that completions of an earlier life are discarded (R167). -/
structure Ctx where
  st : CtxSt
  pc : Nat
  v : List Word
  stack : List Nat
  z : Bool
  lt : Bool
  slt : Bool
  hit : Bool
  pend : Bool
  acc : Bool
  epr : Nat
  scratch : List (Nat × Byte)
  timer : Option Nat
  lat : Word
  evtHop : Nat
  evHop : Nat
  turnHop : Option Nat
  fifo : List (Word × Word)
  clost : Bool
  urg : Bool
  steps : Nat
  cause : Nat
  fatal : Bool
  wait : Wait
  act : Act
  nowHi : Word
  nowF : Nat
  evcHi : Nat
  txgoStat : Word
  ed : Int
  sadc : Nat
  woke : Nat
  life : Nat
  resume : Bool          -- the next stretch first evaluates COND of the wait step at `pc` (R153)
  deriving DecidableEq, Repr

/-- One engine: running, waiting for the replay mirror before it starts (R376), the context that ran last (R148). -/
structure Engine where
  run : Bool
  stopping : Bool        -- engine 16: a stop is in progress (R182)
  wantStart : Bool
  last : Nat
  deriving DecidableEq, Repr

/-- The device's own copy of a queued entry (R165): words 0x00-0x1C, absolute due time, order of its TXQ, originating
context and its life. -/
structure TxEntry where
  q : Nat
  slot : Nat
  words : List Word
  due : Nat
  order : Nat
  eng : Nat
  ctx : Nat
  life : Nat
  hold : Bool
  released : Bool
  taken : Bool           -- taken by TXGO
  deriving DecidableEq, Repr

/-- Where a transmit comes from: the queue entry that TXGO of engine 16 context `taker` took, or the acknowledgement
of a lane's frame. -/
inductive TxFrom where
  | queue (e : TxEntry) (taker life : Nat)
  | ack (lane life : Nat)
  deriving DecidableEq, Repr

/-- A transmit handed to the RFE (R72, R76): times in ticks; `octets` the PSDU on air (R131); `charge` the dwell buckets
charged (R221). -/
structure Tx where
  src : TxFrom
  due : Nat
  tol : Nat
  asap : Bool
  port : Nat
  pwr : Int
  pri : Bool
  fmt : Nat
  chan : Nat
  crct : Bool
  octets : List Byte
  order : Nat
  claim : Nat
  lockT : Option Nat
  start : Option Nat
  charge : List (Nat × Nat)
  air : Nat
  deriving DecidableEq, Repr

/-- RFE states, Table 3-2. -/
inductive RfeSt where
  | off | starting | idle | cal | locking | spRx | txWait | txStart | tx | txTail
  deriving DecidableEq, Repr

/-- Background recalibration (R68): the channels still to calibrate. -/
inductive BgCal where
  | none
  | all (next : Nat)
  | stale
  deriving DecidableEq, Repr

/-- A frame on air (Table 5-1): network time of its first chip in ticks, format, synthesizer channel, port, power in dBm, and its octets,
from the preamble to the FCS. -/
structure Emission where
  start : Nat
  fmt : Nat
  chan : Nat
  port : Nat
  pwr : Int
  octets : List Byte
  deriving DecidableEq, Repr

/-- The RFE and COEX beside their registers (chapter 3). `tune` is the narrow channel the synthesizer is locked or locking
to; `calib` the channel of the step in progress and whether it is a background step. -/
structure Rfe where
  st : RfeSt
  tune : Option Nat
  locked : Bool
  calib : Option (Nat × Bool)
  forTx : Bool           -- the step or lock in progress serves the holder of the transmitter
  bg : BgCal
  holder : Option Tx
  waiting : List Tx
  order : Nat
  blank : Bool
  blankEnd : Option Nat
  req : Bool
  pri : Bool
  reqTo : Nat            -- until when COEX_REQ outlasts a transmit that has ended, and COEX_PRI if `priTail` (Table 3-4, R86)
  priTail : Bool
  gnt : Bool
  femFrom : Option Nat   -- when FEM_TX rises for the transmit that started last, and when it falls; `femPrev`: that of the one before
  femTo : Option Nat
  femPrev : Nat
  divst : Nat            -- RFE_SPSTAT.DIVSTATE
  air : Option Emission  -- the frame on air, from its first chip to the end of TX_TAIL (R122 to R126)
  deriving DecidableEq, Repr

/-! ### Lanes, frames and the Envelope (chapters 4, 5, 9) -/

/-- Lane states, Table 4-5. -/
inductive LaneSt where
  | off | hunt | preamble | frame | blank
  deriving DecidableEq, Repr

/-- Acknowledgement of a frame (R169, R170, Table 6-11). -/
inductive Ack where
  | none | requested | committed | withdrawn | turnLost
  | done (code : Nat)
  deriving DecidableEq, Repr

/-- The own identities and VERMASK that applied at the SFD (R227): per identity EXT, PAN and SHORT word, CTL word. -/
structure Filter where
  vermask : Nat
  ids : List (Nat × Word × Word)
  deriving DecidableEq, Repr

/-- A frame from its SFD until it is released: it holds buffer `buf` of its lane (R99). `psdu` is what arrives on the air
after the PHR, `rxoct` how many octets of it have arrived; `abort` is 2 when blanked after the SFD. -/
structure Frame where
  buf : Nat
  fmt : Nat
  chan : Nat
  chain : Nat
  nfpre : Int
  rssi : Int
  tsfd : Nat
  phr : Option (BitVec 16)
  len : Nat
  psdu : List Byte
  rxoct : Nat
  addr : Bool
  addrOct : Nat          -- octets that were in the buffer when ADDR came, which R226 judges
  fend : Bool
  tend : Nat
  fcsok : Bool
  cq : Nat
  abort : Nat
  filter : Filter
  ack : Ack
  ackFp : Bool
  latchFp : Bool
  ackDone : Bool
  leaving : Bool         -- released by DELIV, copy into SRAM not complete (R171)
  deriving DecidableEq, Repr

/-- One lane, or the single path as lane 128. Before the SFD the attempt is `attempt`: detection time, format, chain
choice, noise floor at detection. `frames` are the frames that hold a buffer, oldest first. -/
structure Lane where
  st : LaneSt
  since : Nat            -- when it entered PREAMBLE
  fmt : Nat
  chain : Option Nat
  nfpre : Int
  chan : Nat
  frames : List Frame
  lastAbort : Nat
  rssi : Int
  cq : Nat
  lastChain : Nat
  fp : Bool              -- frame-pending bit that a LOOKUP latched for the attempt in progress (R162)
  acks : List Frame      -- delivered and released frames whose acknowledgement is still held (R169)
  deriving DecidableEq, Repr

/-- Envelope states, Table 4-12. -/
inductive EnvSt where
  | off | xwait | starting | run | survey | stopping
  deriving DecidableEq, Repr

/-- The Envelope beside its registers: AGC exponents, the current 1 ms interval with the sub-windows that a blank or a busy
lane touches (R113), and SURVEY applied but not yet begun (R114). -/
structure Env where
  st : EnvSt
  expA : Nat
  expB : Nat
  agcHeld : Bool
  interval : Nat
  blankFrom : Option Nat
  blankMask : Nat
  busy : List (Nat × Nat)
  clips : Nat
  survWait : Bool
  active : Nat
  deriving DecidableEq, Repr

/-- A DELIV whose copy into SRAM is not complete (R239): ring, lane and buffer, PSDU length and the sixteen words of the record
before the PSDU, without DSEQ. -/
structure Delivery where
  ring : Nat
  lane : Nat
  buf : Nat
  len : Nat
  head : List Word
  deriving DecidableEq, Repr

/-! ### Step loader, link and timebase (chapters 7, 8) -/

/-- Load phases, Table 7-2. -/
inductive LdPhase where
  | idle | verify | stopping | copy | check | restart
  deriving DecidableEq, Repr

/-- The step loader (R188): `hard` once HOLD is set under R118, `weHold` when the loader set HOLD, `forUpd` a load made by
the update controller, `hdr` the image header as VERIFY read it. -/
structure Loader where
  phase : LdPhase
  eng : Nat
  src : Nat
  soft : Nat
  norestart : Bool
  heldBefore : Bool
  weHold : Bool
  hard : Bool
  began : Nat
  stopT : Option Nat
  forUpd : Bool
  hdr : List Word
  deriving DecidableEq, Repr

/-- One charge of transmit airtime (R220): channel, bucket number, µs. -/
structure Charge where
  chan : Nat
  bucket : Nat
  us : Nat
  deriving DecidableEq, Repr

/-- LINK beside its registers: counter, slot times, waiting SETEVC, waiting shifts in ticks (R205, R212), dwell buckets,
write-throughs of RXNEXT words not yet in the Ballast store (R236), deliveries in progress. -/
structure Link where
  evc : Nat
  slotT : Nat
  nextT : Nat
  setPend : Option Nat
  adj : Option Int
  after : Int
  nextShift : Int
  dwell : List Charge
  bucket : Nat
  thru : List (Nat × Nat × Nat)
  deliv : List Delivery
  past : List Nat        -- starts of the slots before the present one, latest first (R211)
  nextSum : Int          -- the sum of the shifts of the next slot start, of which `nextShift` is what R206 leaves
  deriving DecidableEq, Repr

/-- Sources of the timebase (R195). -/
inductive TbSrc where
  | fio | carry | xtal
  deriving DecidableEq, Repr

/-- TBASE beside its registers: 40 MHz crystal running and ready, the standing or written request to move (R197), the
32.768 kHz crystal, the sample PLL (R42), FIO bursts (R198). -/
structure Tbase where
  src : TbSrc
  xtalOn : Bool
  ready : Bool
  move : Bool
  lfok : Bool
  lfcalok : Bool
  pll : Bool
  fio : Bool
  edge : Nat             -- off the crystal: what the carry gave last, and how far its remainder, in 1/65536 of a tick, stands past it (R195)
  rem : Int
  deriving DecidableEq, Repr

/-- Epoch switches (chapter 2): scheduled value, held switch (`some sched`), when MIXED last became 1, per-unit lag in ticks
and the switch instant, slot starts left in the acceptance window. -/
structure Cfg where
  sched : Option Nat
  held : Option Bool
  mixedAt : Nat
  switchT : Nat
  lag : List (Nat × Nat)
  window : Nat
  stuckDone : Bool       -- STUCK has been set since MIXED last became 1 (R53)
  digest : Word
  sdigest : Word
  udig : List (Nat × Word)
  digBusy : Bool
  deriving DecidableEq, Repr

/-! ### Cipher engine (chapter 10) -/

/-- A key slot's contents (R252). -/
structure Key where
  octets : List Byte
  big : Bool
  usage : Nat
  origin : Nat
  deriving DecidableEq, Repr

/-- A change of the key store that waits for the request in progress (R254). -/
inductive KeyOp where
  | put (slot : Nat) (k : Key)
  | erase (slot : Nat)
  deriving DecidableEq, Repr

/-- The request in progress: queue, sequence number, descriptor words, its outputs, code, key to load on success, and the
slots it uses. -/
structure CipReq where
  q : Nat
  seq : Nat
  desc : List Word
  outs : List (Nat × List Byte)
  code : Nat
  load : Option (Nat × Key)
  slots : List Nat
  deriving DecidableEq, Repr

/-- The cipher engine, key store and TRNG beside their registers: staged key words, the request in progress, the queue served
last, a flush that waits for the request in progress (R251), deferred key changes (R254), start-up tests to come. -/
structure Ciph where
  keys : List (Nat × Key)
  stage : List Word
  staged : Nat
  cur : Option CipReq
  lastQ : Nat
  flushing : Bool
  halted : Bool
  almact : Bool
  almT : Nat             -- when a detector last tripped (R260)
  dkReady : Bool
  deferred : List KeyOp
  trngArm : Bool
  trngUp : Bool
  trngWord : Option Word
  deriving DecidableEq, Repr

/-! ### Memories and flash (chapters 11, 12) -/

/-- Bank states, Table 11-4. -/
inductive BankSt where
  | on | ret | off | test
  deriving DecidableEq, Repr

/-- A range of addresses whose unlisted bytes are undefined, with the tag of the loss. -/
structure Lost where
  base : Nat
  size : Nat
  tag : Nat
  deriving DecidableEq, Repr

/-- MEMC beside its registers: bank states that differ from ON, transitions in progress, the bank under test, Ballast words
known to be uncorrectable, columns repaired by fuses (R271), requests that the cluster holds back for a sleep entry (R342). -/
structure Memc where
  banks : List (Nat × BankSt)
  trans : List (Nat × BankSt)
  test : Option Nat
  bad : List Nat
  fused : List (Nat × Nat)
  asked : List (Nat × BankSt)
  deriving DecidableEq, Repr

/-- An access that waits for the flash controller (R295, R296). -/
structure HeldAcc where
  agent : Agent
  kind : AccKind
  width : Width
  addr : Word
  ecc : Ecc
  deriving DecidableEq, Repr

/-- Where a recovery-loader reply goes, with the CMD and SEQ it answers (R397, R401). -/
structure Reply where
  uart : Bool
  cmd : Nat
  seq : Nat
  deriving DecidableEq, Repr

/-- A flash operation in progress (R290): OP of Table 12-2, captured address and pages, acceptance time, program latch,
suspend requested, suspended, last access to its plane. -/
structure FlcOp where
  op : Nat
  addr : Nat
  pages : Nat
  began : Nat
  latch : List Byte
  suspReq : Bool
  suspended : Bool
  lastAcc : Nat
  reply : Option Reply   -- the recovery loader's command that waits for the end (R401)
  deriving DecidableEq, Repr

/-- FLC beside its registers. -/
structure Flc where
  op : Option FlcOp
  held : List HeldAcc
  marked : List Nat      -- pages programmed since they were last erased: their parity bits are not all 1 (R293)
  deriving DecidableEq, Repr

/-! ### Power, RTC, start, update (chapters 14-16) -/

/-- An entry handshake in progress (R342): target mode, whether the controller chose it, domain now asked (1-4), DELAY with
reason and unit, the delay accumulated in ticks, and when the present delay began. -/
structure Hs where
  target : Nat
  auto : Bool
  domain : Nat
  delay : Option (Nat × Nat)
  delayT : Nat
  delayFrom : Nat
  granted : Bool         -- the memory cluster has granted (R345)
  deriving DecidableEq, Repr

/-- PWR beside its registers: `forced` the code of a sleep mode, ACTIVATE or SAFE, `mode` and `prev` of SYS_MODE, waiting
explicit request, handshake, wake latched during it, VCORE and pace in force and asked, held requests (R350). -/
structure Pwr where
  forced : Option Nat
  mode : Nat
  prev : Nat
  cmd : Option Nat
  hs : Option Hs
  target : Nat
  wakePend : Bool
  autoBlocked : Bool
  vcur : Nat
  vto : Option Nat
  pcur : Nat
  vset : Nat             -- level and pace last carried out or under way, of those asked for (R350)
  pset : Nat
  vheld : Option Nat
  pheld : Option Nat
  pnext : Option Nat
  stap : Nat
  hovActive : Bool
  hovTicks : Nat
  wakeatT : Nat          -- µs at the last write of PWR_WAKEAT (R339)
  wakeReq : Word         -- wake sources (bits of PWR_WAKESRC) met in the command in progress
  wakeCores : Nat        -- cores that a wake task or ARM WAKE among them names
  wakeGot : Word         -- wake sources latched during an entry (R345)
  deriving DecidableEq, Repr

/-- The RTC beside its registers: count, fraction, trim accumulator (R369), waiting HOUR± (`some true` is plus), conversion in
progress, snapshot due, backup domain fed from VBKP. -/
structure Rtc where
  sec : Nat
  frac : Nat
  acc : Int
  hour : Option Bool
  conv : Bool
  snap : Bool
  vbkpLow : Bool
  running : Bool
  since : Nat            -- network time at which `frac` and `acc` stood as they are
  deriving DecidableEq, Repr

/-- The default dump handler at work (R394, R395): the block that it erases, the page that it programs next, and what is still to be
programmed from there on. -/
structure Dump where
  erase : Option Nat
  page : Nat
  left : List Byte
  deriving DecidableEq, Repr

/-- The start sequence (R374). -/
structure Start where
  busy : Bool
  cold : Bool
  toSafe : Bool          -- a Ripcord start that leads to SAFE
  began : Nat
  safe : Bool
  recovery : Bool
  rxbusy : Bool
  rcal : Bool
  rcalT : Bool           -- calibration has begun (XTAL_READY reached)
  freezes : Nat
  causes : Word          -- causes that came at the instant of the start (R38, R392)
  could : Word           -- Ripcord causes that could come at that instant, as the device then stood
  shot : List Word       -- what a Ripcord freeze at that instant copies (R392); [] once the start has ended
  backupLost : Bool      -- first cold start after a backup-domain reset is still to come (R373)
  deferEnv : Bool        -- ENV_CTL.EN = 1 waits for the end of start calibration (R375)
  nbrKept : Bool         -- the neighbour table kept its contents over the start in progress (R237)
  dump : Option Dump
  req : Word             -- Ripcord causes (bits of SYS_RSTCAUSE) met within the command in progress; 0 between commands
  deriving DecidableEq, Repr

/-- Phases of an activation, Table 16-7. -/
inductive UpPhase where
  | idle | verify | writeset | quiesce | pause | load
  deriving DecidableEq, Repr

/-- The update controller (R387-R391): live activation, manifest address and QSOFTMS, when QUIESCE and the pause began, groups that it
holds, engine 16 stopped by it, the wait for a quiet instant given up, a BOOT entry, engines to load, those changed, the one being
loaded, a load that failed, manifest and image ranges it guards, REVOKE0, a CORE1 entry. -/
structure Upd where
  phase : UpPhase
  live : Bool
  src : Nat
  soft : Nat
  began : Nat
  pauseT : Nat
  holds : Nat
  stop16 : Bool
  hard : Bool
  boot : Bool
  engines : List Nat
  changed : List Nat
  doing : Option Nat
  failed : Bool
  guard : List (Nat × Nat)
  revoke : Bool
  core1 : Bool
  deriving DecidableEq, Repr

/-! ### Host mailbox, peripherals, pins (chapters 17, 18) -/

/-- A GET in progress (R399, R400): none, the bytes of the frame that have gone, all gone, or none to be had. -/
inductive GetSt where
  | none
  | sending (count : Nat)
  | sent
  | ones
  deriving DecidableEq, Repr

/-- The host mailbox beside its registers: a frame in the receive buffer and whether hardware serves it, the pending
reply with its octets, chip select, the recovery loader's restart. -/
structure Hostif where
  rxFull : Bool
  rxHw : Bool
  rxLen : Nat
  txRdy : Bool
  txOctets : List Byte
  cs : Bool              -- HOST_CS is asserted; HOST_MISO is high-impedance otherwise
  out : List Byte        -- what the device last returned on HOST_MISO
  resp : Response
  asleep : Bool          -- the transfer woke a sleeping device (R396)
  reboot : Bool          -- the recovery loader restarts once its reply has gone (R401)
  get : GetSt
  uartWait : List Byte   -- a MEMRD that came on UART0 and waits for the flash controller (R401)
  deriving DecidableEq, Repr

structure Uart where
  rx : List Byte
  tx : List Byte
  part : Nat             -- how much of the oldest queued character has been sent, in 1/128 ticks (R402)
  deriving DecidableEq, Repr

/-- An SPI controller or I2C unit: FIFOs, transfer in progress with its length and command word. -/
structure Serial where
  rx : List Byte
  tx : List Byte
  busy : Bool
  cmd : Word
  own : Bool             -- an I2C unit holds its bus, after a transfer that ended without STOP
  deriving DecidableEq, Repr

/-- A conversion request (R406): input, hop count of the task that asked, or the context that asked. -/
structure SadcReq where
  chan : Nat
  hop : Option Nat
  ctx : Option Nat
  deriving DecidableEq, Repr

/-- The SADC: conversion in progress, queued requests in arrival order. -/
structure Sadc where
  cur : Option SadcReq
  queue : List SadcReq
  deriving DecidableEq, Repr

/-- A timer: due time while it runs, hop count of the task that started it. -/
structure Tmr where
  due : Option Nat
  hop : Option Nat
  stopAt : Option Nat    -- when a stop input last reached it (R314)
  cmdStop : Option Nat   -- when `TMR_CMD` last stopped it (R408)
  deriving DecidableEq, Repr

/-- A watchdog: counted time in ticks since the last reload (R409). -/
structure Wdt where
  ticks : Nat
  half : Bool            -- TO/2 reached since
  kick : Option (Nat × Nat)  -- when it was last kicked, and the count that the kick took away (R409)
  deriving DecidableEq, Repr

/-- Pins: levels at the GPIO balls, pads held by a sleep entry (what the pads of pins 4-39 drive, if anything, R414), VIO valid
(R418), and open drain, drive and pull of the held pads, where `GPIO_CFG` has them. -/
structure Pins where
  level : BitVec 40
  held : Option (List (Option Bool))
  vio : Bool
  pads : List Word
  deriving DecidableEq, Repr

/-- A write to class L fields that waits for its unit's boundary (R45). -/
structure WaitW where
  addr : Nat
  mask : Word
  val : Word
  deriving DecidableEq, Repr

/-- The instant of the latest event of a hardware output, and the lines on which one reached its task input at that instant (R314). -/
structure Evl where
  time : Nat
  lines : List Nat
  deriving DecidableEq, Repr

/-- The state of the block. `regs` holds the value each register applies, `shadow` the shadows of S fields, `waits` the L
writes that wait, `armed` the armed sets; each lists only what differs from the Reset word. `pending` is the model's queue
of commands, `free` the model's counter for free values. -/
structure State where
  now : Nat
  regs : List (Nat × Word)
  shadow : List (Nat × Word)
  waits : List WaitW
  armed : List (Nat × Word)
  mem : List Host.Cell
  lost : List Lost
  cfg : Cfg
  core0 : Core
  core1 : Core
  dbg : Debug
  tap : Tap
  icol0 : Icol
  icol1 : Icol
  ctxs : List (Nat × Ctx)
  engs : List (Nat × Engine)
  txq : List TxEntry
  txOrder : Nat
  rfe : Rfe
  lanes : List (Nat × Lane)
  env : Env
  ldr : Loader
  link : Link
  tb : Tbase
  ciph : Ciph
  memc : Memc
  flc : Flc
  pwr : Pwr
  rtc : Rtc
  start : Start
  upd : Upd
  host : Hostif
  uart0 : Uart
  uart1 : Uart
  spic0 : Serial
  spic1 : Serial
  i2c0 : Serial
  i2c1 : Serial
  sadc : Sadc
  tmrs : List (Nat × Tmr)
  wdt0 : Wdt
  wdt1 : Wdt
  pins : Pins
  evl : Evl
  die : Int              -- °C that the temperature sensor last read (R66, R407)
  snap : List Word       -- Ripcord snapshot RAM, 256 words; [] stands for all zero (R41)
  free : Nat
  pending : List Instr
  deriving DecidableEq, Repr

/-! ### Reset: the block as a cold start with no event yet leaves it -/

/-- Private registers of a core in reset: machine mode, PMP regions off. The RISC-V specifications give `mstatus`, `mcause`, the mode, PMP
and `dcsr`; the values of the others are the model's (log entry 74). -/
def Hart.reset : Hart :=
  ⟨List.replicate 31 0, 0, false, 0, 0, 0, 0, 0, 0, 0, 0, List.replicate 16 0, List.replicate 16 0, 0x40000003, 0, 0,
   List.replicate 4 (0x20000000, 0)⟩

/-- A core held in reset: CSRs and caches in their reset state (Table 1-5). -/
def Core.reset : Core :=
  ⟨.held, false, 0, true, true, [], [], 0, 0, 0, Hart.reset, .none, none⟩

/-- The debug module while it is not active. -/
def Debug.reset : Debug :=
  ⟨false, 0, [false, false], [false, false], 0, 0, [0, 0], 0, 0, 0, 0, 0, 0x40000, 0, 0, .none⟩

/-- The test access port after a power-on reset (R424): IDCODE is selected. The boundary cells hold 0 (DESIGN CHOICE, log entry 119). -/
def Tap.reset : Tap := ⟨.testLogicReset, 1, [], List.replicate 50 false, [], none⟩

def Icol.reset : Icol := ⟨[], [], [], 8, [], [], [], .idle⟩

/-- A context of an engine that has never run. -/
def Ctx.reset : Ctx :=
  ⟨.stopped, 0, [0, 0, 0, 0, 0, 0, 0, 0], [], false, false, false, false, false, false, 0, [], none, 0, 0, 0, none, [],
   false, false, 0, 0, false, .none, .none, 0, 0, 0, 0, 0, 0, 0, 0, false⟩

def Engine.reset : Engine := ⟨false, false, false, 0⟩

def Lane.reset : Lane := ⟨.off, 0, 0, none, 0, 0, [], 0, -128, 0, 0, false, []⟩

def Rfe.reset : Rfe :=
  ⟨.off, none, false, none, false, .none, none, [], 0, false, none, false, false, 0, false, false, none, none, 0, 0, none⟩

def Env.reset : Env := ⟨.off, 0, 0, false, 0, none, 0, [], 0, false, 0⟩

def Loader.reset : Loader := ⟨.idle, 0, 0, 0, false, false, false, false, 0, none, false, []⟩

/-- Slot 0 starts at network time 0 and lasts 10 000 µs (R201, Table 8-8). -/
def Link.reset : Link := ⟨0, 0, 400000, none, none, 0, 0, [], 0, [], [], [], 0⟩

/-- The backup rail has just risen: the 32.768 kHz crystal has not started (R199). -/
def Tbase.reset : Tbase := ⟨.fio, true, false, false, false, false, false, true, 0, 0⟩

/-- A start ends with the digests to be recomputed (R58). -/
def Cfg.reset : Cfg := ⟨none, none, 0, 0, [], 0, false, 0, 0, [], true⟩

def Ciph.reset : Ciph :=
  ⟨[], [0, 0, 0, 0, 0, 0, 0, 0], 0, none, 1, false, false, false, 0, true, [], false, false, none⟩

def Pwr.reset : Pwr :=
  ⟨none, 5, 0, none, none, 0, false, false, 0, none, 0, 0, 0, none, none, none, 3, false, 0, 0, 0, 0, 0⟩

def Rtc.reset : Rtc := ⟨0, 0, 0, none, false, false, false, false, 0⟩

def Start.reset : Start :=
  ⟨false, true, false, 0, false, false, false, true, false, 0, 0, 0, [], false, false, false, none, 0⟩

def Upd.reset : Upd :=
  ⟨.idle, false, 0, 0, 0, 0, 0, false, false, false, [], [], none, false, [], false, false⟩

def Hostif.reset : Hostif := ⟨false, false, 0, false, [], false, [], .none, false, false, .none, []⟩

def Serial.reset : Serial := ⟨[], [], false, 0, false⟩

/-- The machine right after reset: the state that a cold start leaves when core 0 has just been released (R374), with
nothing else having happened. -/
def State.reset : State where
  now := 0
  regs := []
  shadow := []
  waits := []
  armed := []
  mem := []
  lost := []
  cfg := Cfg.reset
  core0 := { Core.reset with run := .running }
  core1 := Core.reset
  dbg := Debug.reset
  tap := Tap.reset
  icol0 := Icol.reset
  icol1 := Icol.reset
  ctxs := []
  engs := []
  txq := []
  txOrder := 0
  rfe := Rfe.reset
  lanes := []
  env := Env.reset
  ldr := Loader.reset
  link := Link.reset
  tb := Tbase.reset
  ciph := Ciph.reset
  memc := ⟨[], [], none, [], [], []⟩
  flc := ⟨none, [], []⟩
  pwr := Pwr.reset
  rtc := Rtc.reset
  start := Start.reset
  upd := Upd.reset
  host := Hostif.reset
  uart0 := ⟨[], [], 0⟩
  uart1 := ⟨[], [], 0⟩
  spic0 := Serial.reset
  spic1 := Serial.reset
  i2c0 := Serial.reset
  i2c1 := Serial.reset
  sadc := ⟨none, []⟩
  tmrs := []
  wdt0 := ⟨0, false, none⟩
  wdt1 := ⟨0, false, none⟩
  pins := ⟨0, none, true, []⟩
  evl := ⟨0, []⟩
  die := 0
  snap := []
  free := 0
  pending := []

end Sys2Proof.Machine
end

