-- ==== Sys2Proof/Machine/Ops.lean ====
section
/-! DEFINITION. The shared operations: sparse maps, registers and their fields, memory, time, responses to an access, posts
to the interrupt collectors. -/

namespace Sys2Proof.Machine

/-! ### Sparse maps: a list of keys in rising order, none of them at its default value -/

/-- The value at key `a`: the entry if there is one, else the default. -/
def sget {α : Type} (d : Nat → α) : List (Nat × α) → Nat → α
  | [], a => d a
  | (k, v) :: r, a => if a = k then v else sget d r a

/-- Write `v` at key `a`, keeping the canonical form: an entry equal to its default is not listed. -/
def sput {α : Type} [DecidableEq α] (d : Nat → α) : List (Nat × α) → Nat → α → List (Nat × α)
  | [], a, v => if v = d a then [] else [(a, v)]
  | (k, w) :: r, a, v =>
    if a = k then (if v = d a then r else (a, v) :: r)
    else if a < k then (if v = d a then (k, w) :: r else (a, v) :: (k, w) :: r)
    else (k, w) :: sput d r a v

/-- The canonical form. -/
abbrev Swf {α : Type} (d : Nat → α) (m : List (Nat × α)) : Prop :=
  (m.map Prod.fst).Pairwise (· < ·) ∧ ∀ p ∈ m, p.2 ≠ d p.1

/-! ### Fields of words -/

/-- The value of a field in a word (R4). -/
def fget (w : Word) (f : Field) : Nat := (w >>> f.lo).toNat % 2 ^ f.width

/-- The mask of a field. -/
def fmask (f : Field) : Word := BitVec.ofNat 32 ((2 ^ f.width - 1) * 2 ^ f.lo)

/-- A word with one field replaced. -/
def fset (w : Word) (f : Field) (v : Nat) : Word :=
  (w &&& ~~~fmask f) ||| ((BitVec.ofNat 32 v <<< f.lo) &&& fmask f)

/-- `w` with the bits of `m` taken from `v`. -/
def mergeBits (w m v : Word) : Word := (w &&& ~~~m) ||| (v &&& m)

/-- Bits [lo+width-1:lo] of a word as a number. -/
def bitsOf (w : Word) (lo width : Nat) : Nat := (w >>> lo).toNat % 2 ^ width

/-- Bit `i` of a word. -/
def bitOf (w : Word) (i : Nat) : Bool := w.getLsbD i

/-- A number read as a two's-complement value of `n` bits. -/
def toSigned (n v : Nat) : Int := if v % 2 ^ n < 2 ^ (n - 1) then (v % 2 ^ n : Nat) else (v % 2 ^ n : Nat) - (2 ^ n : Nat)

/-- The two's-complement code of an integer in `n` bits. -/
def ofSigned (n : Nat) (v : Int) : Nat := (v % (2 ^ n : Nat)).toNat

/-- A value held between two limits. -/
def clampN (lo hi v : Nat) : Nat := max lo (min hi v)

/-- An integer held between two limits. -/
def clampI (lo hi v : Int) : Int := max lo (min hi v)

/-- One more, up to a maximum. -/
def satInc (maxV v : Nat) : Nat := min maxV (v + 1)

/-- 1 for true. -/
def b2n (b : Bool) : Nat := if b then 1 else 0

/-- A truth value at a bit. -/
def flagAt (b : Bool) (i : Nat) : Word := if b then (1 : Word) <<< i else 0

/-- A number at a bit. -/
def numAt (v i : Nat) : Word := BitVec.ofNat 32 v <<< i

/-! ### Registers -/

/-- The value that the register at `a` applies. -/
def State.reg (s : State) (a : Nat) : Word := sget regReset s.regs a

/-- Set the value that the register at `a` applies. -/
def State.setReg (s : State) (a : Nat) (w : Word) : State := { s with regs := sput regReset s.regs a w }

/-- The applied value of a field. -/
def State.get (s : State) (f : Field) : Nat := fget (s.reg f.addr) f

/-- Set the applied value of a field. -/
def State.put (s : State) (f : Field) (v : Nat) : State := s.setReg f.addr (fset (s.reg f.addr) f v)

/-- A one-bit field as a truth value. -/
def State.flag (s : State) (f : Field) : Bool := s.get f != 0

/-- The shadow of the register at `a` (R47); only the bits of class S fields mean something. -/
def State.shadowOf (s : State) (a : Nat) : Word := sget regReset s.shadow a

/-- The part of `m` that a waiting write of `a` covers, and its value (R45). -/
def State.waitOf (s : State) (a : Nat) : Word × Word :=
  match s.waits.find? (fun x => x.addr = a) with
  | some x => (x.mask, x.val)
  | none => (0, 0)

/-- The writable bits of class S of the register at `a`. -/
def sMask (a : Nat) : Word := match regRow? a with | some r => r.rwS | none => 0

/-- The writable bits of class K of the register at `a`. -/
def kMask (a : Nat) : Word := match regRow? a with | some r => r.rwK | none => 0

/-- What a read returns for stored fields: the last value written (R45, R47). -/
def State.last (s : State) (a : Nat) : Word :=
  let (m, v) := s.waitOf a
  mergeBits (mergeBits (s.reg a) m v) (sMask a) (s.shadowOf a)

/-- The last value written to a field. -/
def State.lastGet (s : State) (f : Field) : Nat := fget (s.last f.addr) f

/-- Increment a count field, saturating. -/
def State.count (s : State) (f : Field) : State := s.put f (satInc (2 ^ f.width - 1) (s.get f))

/-! ### Regions and memory -/

/-- The rows of Table 1-6. -/
inductive Region where
  | rom | flash | window | sram | radio | ballast | step | periph | window0 | window1 | hole
  deriving DecidableEq, Repr

/-- The row of Table 1-6 that an address lies in (R31, R32). -/
def region (a : Nat) : Region :=
  if a < 0x8000 then .rom
  else if 0x10000000 ≤ a ∧ a < 0x14000000 then .flash
  else if 0x18000000 ≤ a ∧ a < 0x18040000 then .window
  else if 0x20000000 ≤ a ∧ a < 0x20100000 then .sram
  else if 0x21000000 ≤ a ∧ a < 0x21040000 then .radio
  else if 0x22000000 ≤ a ∧ a < 0x22080000 then .ballast
  else if 0x30000000 ≤ a ∧ a < 0x30022000 then .step
  else if 0x40000000 ≤ a ∧ a < 0x4001D000 then .periph
  else if 0x4F000000 ≤ a ∧ a < 0x4F010000 then .window0
  else if 0x4F010000 ≤ a ∧ a < 0x4F020000 then .window1
  else .hole

/-- The empty set that copy 0 of the journal holds on a new device (R381, Table 16-4): MAGIC, zeros, CRC. -/
def emptySet : List Byte :=
  [0x4E, 0x4C, 0x58, 0x53, 0, 0, 0, 0, 0, 0, 0, 0, 0, 0, 0, 0, 0, 0, 0, 0, 0x71, 0x3D, 0x7C, 0x42]

/-- A byte of a device as delivered and after a cold start: SRAM and radio memory 0 (R271), flash erased (Table 12-1), step
memory filled with HALT (R183), the boot selector and the journal as a new device carries them (R304, R381). -/
def memBase (a : Nat) : Byte :=
  match region a with
  | .rom => Config.bootRom a
  | .flash => 0xFF
  | .step => if a % 8 = 7 then 0xFC else 0
  | .ballast =>
    if a = 0x2207D001 then 0x5A
    else if a = 0x22078001 then 0xC3
    else if 0x22079000 ≤ a ∧ a < 0x22079018 then emptySet.getD (a - 0x22079000) 0
    else 0
  | _ => 0

/-- What an unlisted address reads as: the base contents, or an undefined byte where contents were lost. -/
def memDefault (lost : List Lost) (a : Nat) : Byte :=
  match lost.find? (fun l => l.base ≤ a && a < l.base + l.size) with
  | some l => Config.lostByte l.tag a
  | none => memBase a

/-- The canonical form of memory. -/
abbrev Memory.wf (lost : List Lost) (m : List Host.Cell) : Prop := Swf (memDefault lost) m

/-- The byte at an address. -/
def State.byte (s : State) (a : Nat) : Byte := sget (memDefault s.lost) s.mem a

/-- Write one byte. -/
def State.setByte (s : State) (a : Nat) (b : Byte) : State :=
  { s with mem := sput (memDefault s.lost) s.mem a b }

/-- `n` bytes from an address. -/
def State.bytes (s : State) (a n : Nat) : List Byte := (List.range n).map fun i => s.byte (a + i)

/-- Write bytes from an address on. -/
def State.setBytes (s : State) (a : Nat) : List Byte → State
  | [] => s
  | b :: r => (s.setByte a b).setBytes (a + 1) r

/-- Little-endian value of bytes (R4). -/
def leNat : List Byte → Nat
  | [] => 0
  | b :: r => b.toNat + 256 * leNat r

/-- The `n` little-endian bytes of a number (R4). -/
def leBytes (n v : Nat) : List Byte := (List.range n).map fun i => BitVec.ofNat 8 (v / 256 ^ i)

/-- The 32-bit word at an address. -/
def State.word (s : State) (a : Nat) : Word := BitVec.ofNat 32 (leNat (s.bytes a 4))

/-- The 16-bit value at an address. -/
def State.half (s : State) (a : Nat) : Nat := leNat (s.bytes a 2)

/-- Write a 32-bit word. -/
def State.setWord (s : State) (a : Nat) (w : Word) : State := s.setBytes a (leBytes 4 w.toNat)

/-- Write words from an address on. -/
def State.setWords (s : State) (a : Nat) : List Word → State
  | [] => s
  | w :: r => (s.setWord a w).setWords (a + 4) r

/-- What a lost range leaves outside another range. -/
def Lost.outside (l : Lost) (base size : Nat) : List Lost :=
  let e := l.base + l.size
  if e ≤ base || base + size ≤ l.base then [l]
  else
    (if l.base < base then [⟨l.base, base - l.base, l.tag⟩] else []) ++
    (if base + size < e then [⟨base + size, e - (base + size), l.tag⟩] else [])

/-- `base` to `base + size - 1` take their base contents again. -/
def State.clearRange (s : State) (base size : Nat) : State :=
  { s with
    mem := s.mem.filter fun c => !(base ≤ c.1 && c.1 < base + size)
    lost := s.lost.flatMap fun l => l.outside base size }

/-- The contents of a range become undefined. -/
def State.lose (s : State) (base size : Nat) : State :=
  let s := s.clearRange base size
  { s with lost := ⟨base, size, s.free⟩ :: s.lost, free := s.free + 1 }

/-- An address of the boot window stands for the same offset of the region shown there (R36, R283). -/
def State.unalias (s : State) (a : Nat) : Nat :=
  if region a = .window then
    (if s.flag Reg.FLC_BOOT_LIVE then 0x11000000 else 0x10000000) + (a - 0x18000000)
  else a

/-! ### Banks -/

/-- The bank number of an address: 0-15 SRAM, 16-19 radio memory (R264, R272). -/
def bankOf (a : Nat) : Option Nat :=
  match region a with
  | .sram => some ((a - 0x20000000) / 0x10000)
  | .radio => some (16 + (a - 0x21000000) / 0x10000)
  | _ => none

/-- First address of a bank. -/
def bankBase (b : Nat) : Nat := if b < 16 then 0x20000000 + 0x10000 * b else 0x21000000 + 0x10000 * (b - 16)

/-- State of a bank (Table 11-4). -/
def State.bank (s : State) (b : Nat) : BankSt := sget (fun _ => .on) s.memc.banks b

def State.setBank (s : State) (b : Nat) (v : BankSt) : State :=
  { s with memc := { s.memc with banks := sput (fun _ => .on) s.memc.banks b v } }

/-- The bank is marked in `MEMC_BAD` (Table 11-11). -/
def State.bankBad (s : State) (b : Nat) : Bool := bitOf (s.reg Reg.MEMC_BAD) b

/-- An access to the address is refused by its bank (R267). -/
def State.bankRefuses (s : State) (a : Nat) : Bool :=
  match bankOf a with
  | some b => s.bank b = .off || s.bank b = .test || s.bankBad b
  | none => false

/-- An access brings a bank in RET back to ON, with its request field, and it stays ON (R267). -/
def State.wakeBank (s : State) (a : Nat) : State :=
  match bankOf a with
  | some b =>
    if s.bank b = .ret then
      let s := s.setBank b .on
      let s := { s with memc := { s.memc with trans := s.memc.trans.filter fun p => p.1 != b } }
      if b < 16 then s.put ⟨Reg.MEMC_BANKCTL, 2 * b, 2⟩ 0 else s.put ⟨Reg.MEMC_RBANKCTL, 2 * (b - 16), 2⟩ 0
    else s
  | none => s

/-- A write to SRAM by an agent other than the core invalidates the matching bytes of its data cache (R17). -/
def Core.snoop (c : Core) (a n : Nat) : Core :=
  { c with dcache := c.dcache.filter fun x => !(a ≤ x.1 && x.1 < a + n) }

/-- Both data caches lose the bytes of a range. -/
def State.snoopBoth (s : State) (a n : Nat) : State :=
  { s with core0 := s.core0.snoop a n, core1 := s.core1.snoop a n }

/-- Both caches of both cores lose the bytes of a range (R18, R269). -/
def Core.invalidate (c : Core) (a n : Nat) : Core :=
  { c with
    dcache := c.dcache.filter fun x => !(a ≤ x.1 && x.1 < a + n)
    icache := c.icache.filter fun x => !(a ≤ x.1 && x.1 < a + n) }

def State.invalidateBoth (s : State) (a n : Nat) : State :=
  { s with core0 := s.core0.invalidate a n, core1 := s.core1.invalidate a n }

/-- The banks that a range touches wake (R267): a bank spans 64 KiB, and no range that a device agent accesses is empty here. -/
def State.wakeRange (s : State) (a n : Nat) : State :=
  (List.range 20).foldl (fun s b =>
    if a < bankBase b + 0x10000 && bankBase b < a + n then s.wakeBank (bankBase b) else s) s

/-- Some bank that a range touches refuses accesses (R267). -/
def State.rangeRefused (s : State) (a n : Nat) : Bool :=
  (List.range 20).any fun b => a < bankBase b + 0x10000 && bankBase b < a + n && s.bankRefuses (bankBase b)

/-- Two ranges share an address. -/
def overlaps (a n b m : Nat) : Bool := a < b + m && b < a + n && n != 0 && m != 0

/-- The transmit queues lie over the lane buffers, the neighbour table, the parse records, the maps or the SURVEY buffers (R434). -/
def State.txqOver (s : State) : Bool :=
  let a := 4096 * s.get Reg.REEL_TXQBASE_ADDR
  overlaps a 4096 0x21000000 0x14280 || overlaps a 4096 0x21020000 0x10000 || overlaps a 4096 0x2103F000 0x810 ||
    overlaps a 4096 (16 * s.get Reg.ENV_SVBASE_ADDR) 1056

/-- The queues' area has come to lie over another area: its contents, the shared bytes among them, are undefined (R434, log entry 85). -/
def State.txqOverlap (s : State) : State := if s.txqOver then s.lose (4096 * s.get Reg.REEL_TXQBASE_ADDR) 4096 else s

/-- What has just been written to the queues' area while it lies over another area is undefined too (R434). -/
def State.muddy (s : State) (a n : Nat) : State :=
  let q := 4096 * s.get Reg.REEL_TXQBASE_ADDR
  if s.txqOver && overlaps a n q 4096 then s.lose (max a q) (min (a + n) (q + 4096) - max a q) else s

/-- A memory takes what a device agent writes to an address: SRAM or radio memory, in a bank that does not refuse. R267 refuses any access
to a bank in OFF, in TEST or bad; of an agent that it does not list it says no more, and here nothing is stored (DESIGN CHOICE, log
entry 98). -/
def State.takes (s : State) (a : Nat) : Bool := (region a = .sram || region a = .radio) && !s.bankRefuses a

/-- A device agent writes bytes to SRAM or radio memory: the banks wake, the cores' data caches follow (R17, R267). -/
def State.devWrite (s : State) (a : Nat) (bs : List Byte) : State :=
  let n := bs.length
  let s := s.wakeRange a n
  let s :=
    if s.takes a && s.takes (a + n - 1) then s.setBytes a bs
    else bs.zipIdx.foldl (fun s p => if s.takes (a + p.2) then s.setByte (a + p.2) p.1 else s) s
  (s.snoopBoth a n).muddy a n

/-! ### Cores and responses -/

def State.core (s : State) : CoreId → Core
  | .c0 => s.core0
  | .c1 => s.core1

def State.setCore (s : State) (c : CoreId) (x : Core) : State :=
  match c with
  | .c0 => { s with core0 := x }
  | .c1 => { s with core1 := x }

def coreNum : CoreId → Nat
  | .c0 => 0
  | .c1 => 1

/-- A hart has been reset: an active debug module shows it as `havereset` (R24). -/
def Debug.sawReset (d : Debug) (n : Nat) : Debug := if d.dmactive then { d with wasReset := d.wasReset.set n true } else d

def State.resetSeen (s : State) (c : CoreId) : State := { s with dbg := s.dbg.sawReset (coreNum c) }

/-- What an access returned to its agent. -/
def State.respond (s : State) (a : Agent) (r : Response) : State :=
  match a with
  | .core0 => { s with core0 := { s.core0 with resp := r } }
  | .core1 => { s with core1 := { s.core1 with resp := r } }
  | .debug => { s with dbg := { s.dbg with resp := r } }
  | .host => { s with host := { s.host with resp := r } }

/-- A core is quiescent while it waits in WFI or is held; not while debug halts it (R335). -/
def Core.quiescent (c : Core) : Bool := !c.halted && (c.run = .wfi || c.run = .held)

/-! ### Time -/

/-- The device is in none of the sleep modes (Table 1-8). -/
def State.awake (s : State) : Bool :=
  match s.pwr.forced with
  | some m => 4 ≤ m
  | none => true

/-- `mcycle` counts ticks unless its core is in WFI or held (R21): a core that debug has halted is neither in WFI nor quiescent (R335). -/
def Core.tick (c : Core) (dt : Nat) : Core :=
  if c.run = .running then { c with mcycle := (c.mcycle + dt) % 2 ^ 64 } else c

/-- Watchdog n, while enabled, counts when core n is neither held nor halted and the device is awake and not in ACTIVATE (R409). -/
def Wdt.tick (w : Wdt) (c : Core) (on : Bool) (dt : Nat) : Wdt :=
  if on && !c.halted && c.run != .held then { w with ticks := w.ticks + dt } else w

/-- Parts of a tick, in 1/65536, that a cycle of the 32.768 kHz crystal adds to the carry (R195). -/
def State.inc (s : State) : Nat := max 1 (s.reg Reg.TBASE_LFCAL).toNat

/-- The carry at network time t: all the cycles of the 32.768 kHz crystal that end by then have been added, and the remainder below one
tick is kept (R195); before the next edge the count stands. On the crystal, or without edges, it stands too (R199). -/
def Tbase.carried (tb : Tbase) (inc t : Nat) : Tbase :=
  if tb.src = .xtal || !tb.lfok || t < tb.edge then tb
  else
    let k := (65536 * ((t : Int) - tb.edge + 1) - 1 - tb.rem) / inc
    let r := tb.rem + k * inc
    if k ≤ 0 then tb else { tb with edge := ((tb.edge : Int) + r / 65536).toNat, rem := r % 65536 }

/-- Network time reaches `t`; it never steps backwards (R194). Counters that time drives follow (R21, R195, R355, R409). -/
def State.advance (s : State) (t : Nat) : State :=
  let dt := t - s.now
  let on := s.awake && s.pwr.forced != some 10
  { s with
    now := s.now + dt
    core0 := s.core0.tick dt
    core1 := s.core1.tick dt
    wdt0 := s.wdt0.tick s.core0 (on && s.flag (Reg.WDT_CTL_EN 0)) dt
    wdt1 := s.wdt1.tick s.core1 (on && s.flag (Reg.WDT_CTL_EN 1)) dt
    tb := s.tb.carried s.inc (s.now + dt)
    pwr := if s.pwr.forced = some 3 && s.tb.xtalOn then { s.pwr with hovTicks := s.pwr.hovTicks + dt } else s.pwr }

/-- The network time that the timebase shows: on the carry it advances at the edges of the 32.768 kHz crystal (R195). -/
def State.net (s : State) : Nat := if s.tb.src = .carry then s.tb.edge else s.now

/-- Network time in whole µs. -/
def State.us (s : State) : Nat := s.net / 40

/-- The timebase goes to the carry, which takes up the count where it stands (R195, R198): from the crystal, with its next edge at a phase
that nothing fixes (R197); from the FIO, with its edges where they were. -/
def State.carryOn (s : State) : State :=
  let rem : Int :=
    if s.tb.src = .xtal then -(Config.freeNat s.free % s.inc : Nat) else s.tb.rem - 65536 * ((s.now : Int) - s.tb.edge)
  { s with tb := { s.tb with src := .carry, edge := s.now, rem := rem }, free := s.free + 1 }

/-- A fresh number for a free value. -/
def State.fresh (s : State) : State := { s with free := s.free + 1 }

/-- What an ECC outcome that no operand gives turns out to be: free. -/
def State.anyEcc (s : State) : Ecc :=
  match Config.freeNat s.free % 4 with
  | 0 => .clean
  | 1 => .corrected
  | 2 => .retried (1 + Config.freeNat (s.free + 1) % 7)
  | _ => .uncorrectable

/-! ### Interrupt posts (R320-R323) -/

def State.icol (s : State) : CoreId → Icol
  | .c0 => s.icol0
  | .c1 => s.icol1

def State.setIcol (s : State) (c : CoreId) (i : Icol) : State :=
  match c with
  | .c0 => { s with icol0 := i }
  | .c1 => { s with icol1 := i }

/-- `ICOL_PRI` of a source in collector `c` (Table 13-25). -/
def State.icolPri (s : State) (c : CoreId) (src : Nat) : Nat :=
  s.get ⟨Reg.ICOL_PRI (coreNum c) (src / 8), 4 * (src % 8), 3⟩

/-- A post enters a collector's input buffer (R320). -/
def State.postRaw (s : State) (c : CoreId) (src pri : Nat) (sw : Bool) (lo hi : Word) : State :=
  let i := s.icol c
  s.setIcol c { i with buf := i.buf ++ [⟨src, pri, sw, lo, hi, s.us⟩] }

/-- A post of a fixed source (R322), at the priority that `ICOL_PRI` gives (R323). -/
def State.postTo (s : State) (c : CoreId) (src : Nat) (lo hi : Word) : State :=
  s.postRaw c src (s.icolPri c src) false lo hi

/-- A post of a routed source goes to both collectors (R322). -/
def State.postBoth (s : State) (src : Nat) (lo hi : Word) : State :=
  (s.postTo .c0 src lo hi).postTo .c1 src lo hi

/-! ### Contexts, engines, lanes -/

def State.ctx (s : State) (e c : Nat) : Ctx := sget (fun _ => Ctx.reset) s.ctxs (8 * e + c)

def State.setCtx (s : State) (e c : Nat) (x : Ctx) : State :=
  { s with ctxs := sput (fun _ => Ctx.reset) s.ctxs (8 * e + c) x }

def State.eng (s : State) (e : Nat) : Engine := sget (fun _ => Engine.reset) s.engs e

def State.setEng (s : State) (e : Nat) (x : Engine) : State :=
  { s with engs := sput (fun _ => Engine.reset) s.engs e x }

def State.lane (s : State) (k : Nat) : Lane := sget (fun _ => Lane.reset) s.lanes k

def State.setLane (s : State) (k : Nat) (x : Lane) : State :=
  { s with lanes := sput (fun _ => Lane.reset) s.lanes k x }

/-- Contexts of an engine (Table 6-1). -/
def nctx (e : Nat) : Nat := if e = 16 then 4 else if e < 16 then 8 else 0

/-- Set a latched condition of a context (R155). -/
def Ctx.latch (x : Ctx) (code : Nat) : Ctx := { x with lat := x.lat ||| (1 <<< code) }

def State.latch (s : State) (e c code : Nat) : State := s.setCtx e c ((s.ctx e c).latch code)

/-- Fold an operation over 0 to n - 1. -/
def forN {α : Type} (n : Nat) (f : α → Nat → α) (a : α) : α := (List.range n).foldl f a

/-- Latch a condition in every context of every running engine. -/
def State.latchAll (s : State) (code : Nat) : State :=
  forN 17 (fun s e => if (s.eng e).run then forN (nctx e) (fun s c => s.latch e c code) s else s) s

/-- Domain d has granted the entry in progress and is held quiesced (R342): 1 radio, 2 core, 3 peripheral, 4 memory cluster. -/
def State.quiesced (s : State) (d : Nat) : Bool :=
  match s.pwr.hs with
  | some h => d < h.domain || h.granted
  | none => false

/-- Every context of engine e waits in the sense of R145, or the engine is stopped. -/
def State.allWait (s : State) (e : Nat) : Bool :=
  !(s.eng e).run || (List.range (nctx e)).all fun c =>
    match (s.ctx e c).st with
    | .ready => false
    | .running => false
    | _ => true

/-- Timers: due time in the list by number. -/
def State.tmr (s : State) (n : Nat) : Tmr := sget (fun _ => ⟨none, none, none, none⟩) s.tmrs n

def State.setTmr (s : State) (n : Nat) (x : Tmr) : State :=
  { s with tmrs := sput (fun _ => ⟨none, none, none, none⟩) s.tmrs n x }

end Sys2Proof.Machine
end

