-- ==== Sys2Proof/Machine/Crc.lean ====
section
/-! DEFINITION. The cyclic checks of the manual: CRC-32C (R55), the N-mode FCS CRC-32 (R129) and CRC-16 (R130), all reflected. -/

namespace Sys2Proof.Machine

/-- One bit of a reflected CRC. -/
def crcBit (poly c : Nat) : Nat := if c % 2 = 1 then (c / 2) ^^^ poly else c / 2

/-- One octet of a reflected CRC, bit 0 first. -/
def crcOctet (poly c : Nat) (b : Byte) : Nat :=
  crcBit poly (crcBit poly (crcBit poly (crcBit poly
    (crcBit poly (crcBit poly (crcBit poly (crcBit poly (c ^^^ b.toNat))))))))

/-- A reflected CRC over octets. -/
def crcOver (poly init : Nat) (bs : List Byte) : Nat := bs.foldl (crcOctet poly) init

/-- CRC-32C: polynomial 0x1EDC6F41 reflected, initial and final 0xFFFFFFFF (R55). -/
def crc32c (bs : List Byte) : Word := BitVec.ofNat 32 (crcOver 0x82F63B78 0xFFFFFFFF bs ^^^ 0xFFFFFFFF)

/-- CRC-32 of IEEE 802.3 (R129). -/
def crc32 (bs : List Byte) : Nat := crcOver 0xEDB88320 0xFFFFFFFF bs ^^^ 0xFFFFFFFF

/-- The 16-bit check of IEEE 802.15.4 (R130). -/
def crc16 (bs : List Byte) : Nat := crcOver 0x8408 0 bs

/-- The FCS octets that follow `payload` in a frame: S-mode not over the PHR (R134), N-mode over the two PHR octets first
(R129, R130). -/
def fcsOf (fmt : Nat) (crct : Bool) (phr : Nat) (payload : List Byte) : List Byte :=
  if fmt = 1 then leBytes 2 (crc16 payload)
  else if crct then leBytes 2 (crc16 (leBytes 2 phr ++ payload))
  else leBytes 4 (crc32 (leBytes 2 phr ++ payload))

/-- Length of the FCS in octets. -/
def fcsLen (fmt : Nat) (crct : Bool) : Nat := if fmt = 0 && !crct then 4 else 2

end Sys2Proof.Machine
end

