-- ==== Sys2Proof/Machine/Parse.lean ====
section
/-! DEFINITION. The parser (chapter 9): the layout of an IEEE 802.15.4 MAC header, the ADDR point (R225), the filter rules
(R226, R432) and the parse record (Table 9-1). -/

namespace Sys2Proof.Machine

/-- What the parser reads from a PSDU of `len` octets of which the FCS takes the last `fcs`. Offsets are octet numbers. -/
structure Header where
  fc : Nat               -- frame control
  seq : Nat
  known : Bool           -- layout known (R432)
  addrEnd : Nat          -- octets up to the last addressing field
  dstPan : Option Nat
  dst : Nat
  srcPanField : Option Nat
  srcPanEnd : Nat        -- octets up to the end of the source PAN field; 0 if there is none
  src : Nat
  secEnd : Nat           -- octets up to the end of the auxiliary security header
  secctl : Option Nat
  fcnt : Nat
  keyidx : Nat
  deriving DecidableEq, Repr

namespace Hdr

def ftype (fc : Nat) : Nat := fc % 8
def secen (fc : Nat) : Bool := fc.testBit 3
def fp (fc : Nat) : Bool := fc.testBit 4
def ar (fc : Nat) : Bool := fc.testBit 5
def panidc (fc : Nat) : Bool := fc.testBit 6
def seqsup (fc : Nat) : Bool := fc.testBit 8
def iep (fc : Nat) : Bool := fc.testBit 9
def dam (fc : Nat) : Nat := fc / 1024 % 4
def fver (fc : Nat) : Nat := fc / 4096 % 4
def sam (fc : Nat) : Nat := fc / 16384 % 4

/-- The sequence number is suppressed: defined for version 2015 and for the unknown layouts of R432. -/
def noSeq (fc : Nat) : Bool := seqsup fc && (fver fc ≥ 2 || ftype fc > 3)

/-- Length of an address field by its addressing mode. -/
def addrLen (mode : Nat) : Nat := if mode = 2 then 2 else if mode = 3 then 8 else 0

/-- Whether the destination PAN ID field is present: versions 2003 and 2006 by DAM; version 2015 by the table of
IEEE 802.15.4-2020 (R226; PRESUMED, the standard's text). A mode of 0b01 gives no address and no PAN. -/
def hasDstPan (fc : Nat) : Bool :=
  let d := decide (2 ≤ dam fc)
  let s := decide (2 ≤ sam fc)
  if fver fc ≠ 2 then d
  else match d, s with
    | false, false => panidc fc
    | true, false => !panidc fc
    | false, true => false
    | true, true => if dam fc = 3 && sam fc = 3 then !panidc fc else true

/-- Whether the source PAN ID field is present. -/
def hasSrcPan (fc : Nat) : Bool :=
  let d := decide (2 ≤ dam fc)
  let s := decide (2 ≤ sam fc)
  if fver fc ≠ 2 then s && !(panidc fc && d)
  else match d, s with
    | false, true => !panidc fc
    | true, true => !(dam fc = 3 && sam fc = 3) && !panidc fc
    | _, _ => false

end Hdr

/-- The number in `n` octets from offset `o`. -/
def octNum (p : List Byte) (o n : Nat) : Nat := leNat ((p.drop o).take n)

/-- Read a header from a PSDU (layout of the frame version found, R432). -/
def readHeader (p : List Byte) (len fcs : Nat) : Header :=
  let fc := octNum p 0 2
  let known := Hdr.fver fc ≠ 3 ∧ Hdr.ftype fc ≤ 3
  let o := 2
  let seq := if Hdr.noSeq fc then 0 else octNum p o 1
  let o := if Hdr.noSeq fc then o else o + 1
  if ¬known then ⟨fc, seq, false, o, none, 0, none, 0, 0, o, none, 0, 0⟩
  else
    let dpan := if Hdr.hasDstPan fc then some (octNum p o 2) else none
    let o := if Hdr.hasDstPan fc then o + 2 else o
    let dl := Hdr.addrLen (Hdr.dam fc)
    let dst := octNum p o dl
    let o := o + dl
    let span := if Hdr.hasSrcPan fc then some (octNum p o 2) else none
    let o := if Hdr.hasSrcPan fc then o + 2 else o
    let spe := if Hdr.hasSrcPan fc then o else 0
    let sl := Hdr.addrLen (Hdr.sam fc)
    let src := octNum p o sl
    let o := o + sl
    if !Hdr.secen fc then ⟨fc, seq, true, o, dpan, dst, span, spe, src, o, some 0, 0, 0⟩
    else
      let sc := octNum p o 1
      let supp := sc.testBit 5
      let cnt := if supp then 0 else octNum p (o + 1) 4
      let q := o + 1 + (if supp then 0 else 4)
      let mode := sc / 8 % 4
      let kl := if mode = 0 then 0 else if mode = 1 then 1 else if mode = 2 then 5 else 9
      let kidx := if mode = 0 then 0 else octNum p (q + kl - 1) 1
      let bad := q + kl > len - fcs
      ⟨fc, seq, true, o, dpan, dst, span, spe, src, q + kl,
        if o < len - fcs then some sc else none, if bad then 0 else cnt, if bad then 0 else kidx⟩

/-- SRCPAN of Table 9-1: the field, else the destination PAN, which the versions' rules imply (PRESUMED from IEEE 802.15.4 where
the frame has no source address), else 0xFFFF. -/
def Header.srcPan (h : Header) : Nat :=
  if !h.known then 0xFFFF
  else match h.srcPanField with
    | some v => v
    | none => h.dstPan.getD 0xFFFF

/-- SRCSHORT of Table 9-1. -/
def Header.srcShort (h : Header) : Nat := if h.known && Hdr.sam h.fc = 2 then h.src else 0xFFFE

/-- An identity takes part in filtering (Table 9-8). -/
def idEn (x : Nat × Word × Word) : Bool := bitOf x.2.2 0

def idCoord (x : Nat × Word × Word) : Bool := bitOf x.2.2 1

def idPan (x : Nat × Word × Word) : Nat := bitsOf x.2.1 16 16

def idShort (x : Nat × Word × Word) : Nat := bitsOf x.2.1 0 16

/-- The destination address matches an identity (R226, rule 7). -/
def idMatches (h : Header) (x : Nat × Word × Word) : Bool :=
  idEn x && if Hdr.dam h.fc = 3 then h.dst = x.1
    else h.dst = idShort x && idShort x != 0xFFFE &&
      (match h.dstPan with | some p => p = 0xFFFF || p = idPan x | none => true)

/-- The verdict of Table 9-2 and the index of the identity matched, for a frame whose octets at ADDR are `p` (R225, R226, R432); `sc` is its
security control octet. R225 makes the verdict final at ADDR, and rule 1 looks at that octet, which follows the addresses: the octet that the
frame carries there decides, though it may not be in the buffer yet (DESIGN CHOICE, log entry 89). -/
def judge (p : List Byte) (sc : Byte) (len fcs : Nat) (f : Filter) : Nat × Nat :=
  let h := readHeader p len fcs
  let fc := h.fc
  let en := f.ids.filter idEn
  let rule1 := Hdr.fver fc = 3 || !(f.vermask.testBit (Hdr.fver fc)) || Hdr.ftype fc > 3
  if p.length < h.addrEnd then (if p.length ≥ 2 && rule1 then (8, 0) else (9, 0))
  else if rule1 || (Hdr.secen fc && h.addrEnd < len - fcs && sc.getLsbD 5) then (8, 0)
  else if Hdr.dam fc = 1 || Hdr.sam fc = 1 || h.addrEnd > len - fcs then (9, 0)
  else if Hdr.ftype fc = 2 then (5, 0)
  else if Hdr.dam fc = 0 then
    if Hdr.ftype fc = 0 then (4, 0)
    else if en.any (fun x => idCoord x && idPan x = h.srcPan) then (3, 0) else (6, 0)
  else if (match h.dstPan with
      | some v => v != 0xFFFF && !en.any (fun x => idPan x = v)
      | none => en.isEmpty) then (6, 0)
  else if Hdr.dam fc = 2 && h.dst = 0xFFFF then (2, 0)
  else match f.ids.findIdx? (idMatches h) with
    | some i => (1, i)
    | none => (7, 0)

/-- ADDR becomes true when this many octets are in the buffer (R225, R432). -/
def addrPoint (p : List Byte) (len fcs : Nat) : Nat := (readHeader p len fcs).addrEnd

/-- The frame has no auxiliary security header that the parser reads (R225, R432). -/
def Header.plain (h : Header) : Bool := !h.known || !Hdr.secen h.fc

/-- The security control octet precedes the FCS of a PSDU with `room` octets before it, and is among the `n` that have arrived. -/
def Header.ctlIn (h : Header) (n room : Nat) : Bool := !h.plain && h.addrEnd < n && h.addrEnd < room

/-- The auxiliary security header reaches the FCS, as far as the octets that have arrived tell (R432). -/
def Header.reaches (h : Header) (n room : Nat) : Bool :=
  !h.plain && h.addrEnd ≤ n && (room ≤ h.addrEnd || (h.ctlIn n room && room < h.secEnd))

/-- FCNT, KEYIDX and SECCTL: each shows once its octets are in (R224, R234). -/
def Header.security (h : Header) (n room : Nat) : Nat × Nat × Nat :=
  let whole := h.ctlIn n room && !h.reaches n room
  (if whole && h.addrEnd + 5 ≤ n then h.fcnt else 0, if whole && h.secEnd ≤ n then h.keyidx else 0,
    if h.ctlIn n room then h.secctl.getD 0 else 0)

/-- The four words of the parse record for the octets `p` that have arrived (Table 9-1): each field shows once it is parsed (R224). Before
ADDR, those are the frame control, the sequence number, a source PAN field and what follows the addresses. From ADDR on, all but the security
fields are as the `n` octets then in the buffer gave them (R225). -/
def parseRecord (p : List Byte) (n : Nat) (sc : Byte) (len fcs : Nat) (f : Filter) (addr fend : Bool) : List Word :=
  let h := readHeader p len fcs
  let fc := h.fc
  let fcBits := if p.length < 2 then 0 else
    (Hdr.ftype fc) * 2 ^ 7 + (Hdr.fver fc) * 2 ^ 10 + (Hdr.dam fc) * 2 ^ 12 + (Hdr.sam fc) * 2 ^ 14 +
    b2n (Hdr.secen fc) * 2 ^ 17 + b2n (Hdr.fp fc) * 2 ^ 18 + b2n (Hdr.ar fc) * 2 ^ 19 + b2n (Hdr.panidc fc) * 2 ^ 20 +
    b2n (Hdr.iep fc) * 2 ^ 21 + b2n (Hdr.seqsup fc) * 2 ^ 22
  let seq := if p.length < 3 then 0 else h.seq
  let panIn := h.srcPanEnd != 0 && h.srcPanEnd ≤ p.length
  let (cnt, key, ctl) := h.security p.length (len - fcs)
  if !addr then
    [BitVec.ofNat 32 (fcBits + seq * 2 ^ 24), if panIn then BitVec.ofNat 32 (h.srcPan * 2 ^ 16) else 0, BitVec.ofNat 32 cnt,
      BitVec.ofNat 32 (key * 2 ^ 16 + ctl)]
  else
    let (v, idx) := judge (p.take n) sc len fcs f
    let plain := h.plain
    let reach := h.reaches p.length (len - fcs)
    let secIn := plain || fend || (h.ctlIn p.length (len - fcs) && !reach && h.secEnd ≤ p.length)
    let short := min n p.length < h.addrEnd
    [BitVec.ofNat 32 (fcBits + seq * 2 ^ 24 + b2n secIn * 2 ^ 23 + idx * 2 ^ 4 + v),
     if short then (if panIn then BitVec.ofNat 32 (h.srcPan * 2 ^ 16 + 0xFFFE) else 0xFFFFFFFE) else BitVec.ofNat 32 (h.srcPan * 2 ^ 16 + h.srcShort),
     BitVec.ofNat 32 cnt,
     BitVec.ofNat 32 ((if reach then 0xFF else if plain then h.addrEnd else if secIn then h.secEnd else 0) * 2 ^ 24 +
       key * 2 ^ 16 + ctl)]

end Sys2Proof.Machine
end

