-- ==== Sys2Proof/Machine/Frame.lean ====
section
/-! DEFINITION. Frames in a lane's buffers: which frame is current (R156), how octets arrive (R160), the parse record in radio
memory (R224), release and abort. -/

namespace Sys2Proof.Machine

/-- Address of buffer `j` of identity `i` (R275). -/
def bufAddr (i j : Nat) : Nat := 0x21000000 + 640 * i + 320 * j

/-- Address of the parse record of identity `i` (R224). -/
def parseAddr (i : Nat) : Nat := 0x2103F000 + 16 * i

/-- CRCT of a frame by its PHR; an S-mode frame carries the 2-octet FCS. -/
def Frame.crct (f : Frame) : Bool := f.fmt = 1 || (f.phr.getD 0).getLsbD 8

/-- Octets that the FCS of the frame takes. -/
def Frame.fcs (f : Frame) : Nat := fcsLen f.fmt f.crct

/-- The octets that have arrived. -/
def Frame.got (f : Frame) : List Byte := f.psdu.take f.rxoct

/-- Ticks from the end of the SFD to the first PSDU octet, per octet, and of the receive delay (R126, R132, R136,
Table 4-3, R433). -/
def Frame.phrTicks (f : Frame) : Nat := if f.fmt = 1 then 1280 else 10240

def Frame.octTicks (f : Frame) : Nat := if f.fmt = 1 then 1280 else 5120

def rxDelay (lane fmt : Nat) : Nat := if lane = 128 then 40 else if fmt = 1 then 80 else 64

/-- The frame is being received: it has neither ended nor been aborted. -/
def Frame.open_ (f : Frame) : Bool := !f.fend && f.abort = 0

/-- How many octets have arrived by time `now` (R160, R433). -/
def Frame.arrived (f : Frame) (lane now : Nat) : Nat :=
  if f.phr.isNone then 0
  else min f.len ((now - (f.tsfd + f.phrTicks + rxDelay lane f.fmt)) / f.octTicks)

/-- The current frame that holds a buffer (R156). -/
def Lane.cur (l : Lane) : Option Frame := l.frames.find? (fun f => !f.leaving)

/-- Buffers held (R99). -/
def Lane.bufs (l : Lane) : Nat := l.frames.length

/-- Replace the current frame. -/
def Lane.setCur (l : Lane) (g : Frame) : Lane :=
  { l with frames := l.frames.map fun f => if f.buf = g.buf then g else f }

/-- The parse record of a frame, as far as parsing has got (R225, R234). -/
def Frame.parse (f : Frame) : List Word :=
  parseRecord f.got f.addrOct (f.psdu.getD (readHeader f.psdu f.len f.fcs).addrEnd 0) f.len f.fcs f.filter f.addr f.fend

/-- The device writes its own record of the current frame of identity `k` (R224). -/
def State.present (s : State) (k : Nat) : State :=
  let ws := match (s.lane k).cur with
    | some f => f.parse
    | none => [0, 0, 0, 0]
  (s.setWords (parseAddr k) ws).muddy (parseAddr k) 16

/-- Change a lane and present its record. -/
def State.updLane (s : State) (k : Nat) (l : Lane) : State := (s.setLane k l).present k

/-- Octets that have arrived by now enter the buffer of the frame in reception on lane `k`. -/
def State.deposit (s : State) (k : Nat) : State :=
  let l := s.lane k
  match l.frames.find? Frame.open_ with
  | some f =>
    let n := f.arrived k s.now
    if n ≤ f.rxoct then s
    else
      let s := (s.setBytes (bufAddr k f.buf + f.rxoct) ((f.psdu.take n).drop f.rxoct)).muddy (bufAddr k f.buf + f.rxoct) (n - f.rxoct)
      s.updLane k { l with frames := l.frames.map fun g => if g.buf = f.buf then { g with rxoct := n } else g }
  | none => s

/-- Bring every lane's buffers up to date. -/
def State.depositAll (s : State) : State := (s.lanes.map Prod.fst).foldl State.deposit s

/-- Group g is in standard mode (Table 4-20). -/
def State.std (s : State) (g : Nat) : Bool := g < 16 && s.flag (Reg.ENV_GMODE_MODE g)

/-- The lane attached to context c of engine e (Table 6-1, R104). -/
def State.laneOf (s : State) (e c : Nat) : Option Nat :=
  if e = 16 then (if c = 0 then some 128 else none)
  else if s.std e then (if c = 5 then some (8 * e + 5) else none)
  else some (8 * e + c)

/-- The engine and context that serve a lane. -/
def engOf (k : Nat) : Nat := if k = 128 then 16 else k / 8

def ctxOf (k : Nat) : Nat := if k = 128 then 0 else k % 8

/-- The current frame of a context, with its lane (R156). -/
def State.curFrame (s : State) (e c : Nat) : Option (Nat × Frame) :=
  match s.laneOf e c with
  | some k => (s.lane k).cur.map fun f => (k, f)
  | none => none

/-- Sub-windows of the current 1 ms interval between two times, as a mask of sixteen (R113). -/
def subMask (interval t0 t1 : Nat) : Nat :=
  (List.range 16).foldl (fun m i =>
    if t0 < interval + 2500 * (i + 1) ∧ interval + 2500 * i ≤ t1 then m ||| 2 ^ i else m) 0

/-- A lane leaves PREAMBLE or FRAME: the sub-windows it was busy in do not count (R113). -/
def State.markBusy (s : State) (k : Nat) : State :=
  let l := s.lane k
  if l.st = .preamble || l.st = .frame then
    let m := sget (fun _ => 0) s.env.busy k ||| subMask s.env.interval l.since s.now
    { s with env := { s.env with busy := sput (fun _ => 0) s.env.busy k m } }
  else s

/-- Group g lies within the span of the setting in `ENV_CFG.BW` (Table 4-7). -/
def State.inSpan (s : State) (g : Nat) : Bool :=
  match s.get Reg.ENV_CFG_BW with
  | 1 => 4 ≤ g && g ≤ 11
  | 2 => 6 ≤ g && g ≤ 9
  | _ => g < 16

/-- The lane is enabled by `ENV_GCFG.LANEEN` and not absorbed into a standard lane (Table 4-19, R103). -/
def State.laneEnabled (s : State) (k : Nat) : Bool :=
  let en := (s.get (Reg.ENV_GCFG_LANEEN (k / 8))).testBit (k % 8)
  if s.std (k / 8) then k % 8 = 5 && en else en

/-- HOLD of group g (Table 4-17). -/
def State.held (s : State) (g : Nat) : Bool := bitOf (s.reg Reg.ENV_GHOLD_SET) g

/-- The context of the lane has faulted or halted, so that its lane stays OFF (R177, R181). -/
def State.laneMuted (s : State) (k : Nat) : Bool :=
  let x := s.ctx (engOf k) (ctxOf k)
  x.st = .faulted || x.st = .halted

/-- Where a lane goes when it is neither in an attempt nor a frame: HUNT if its group receives, BLANK during a blank, else
OFF (Table 4-5, R99, R114, R118). The single path: HUNT while the RFE is in SP_RX. -/
def State.restState (s : State) (k : Nat) : LaneSt :=
  if k = 128 then (if s.rfe.st = .spRx && !s.laneMuted 128 then .hunt else .off)
  else if !(s.env.st = .run || s.env.st = .survey) || !(s.eng (k / 8)).run || s.held (k / 8) || !s.laneEnabled k ||
      s.env.survWait || s.env.st = .survey || s.laneMuted k then .off
  else if s.rfe.blank then .blank else .hunt

/-- The air traffic may run (R42): the timebase runs on the crystal, and the sample PLL with it. -/
def State.airClock (s : State) : Bool := s.tb.src = .xtal && s.tb.pll

/-- Lane k as it is when it is neither in an attempt nor a frame; a lane that comes to HUNT keeps the time (R95). -/
def State.restLane (s : State) (k : Nat) : Lane :=
  let l := s.lane k
  let st := s.restState k
  { l with st := st, since := if st = .hunt && l.st != .hunt then s.now else l.since }

/-- An attempt of the single path is over: its switch hunts again, unless it is fixed (R63, Table 3-12). -/
def State.spHunt (s : State) (k : Nat) : State :=
  if k = 128 && s.rfe.divst != 3 then { s with rfe := { s.rfe with divst := 0 } } else s

/-- The lane returns to HUNT, or to the state that its group leaves it. -/
def State.laneRest (s : State) (k : Nat) : State :=
  let s := (s.markBusy k).spHunt k
  s.updLane k (s.restLane k)

/-- A held acknowledgement is withdrawn (R169, R170). -/
def Frame.withdraw (f : Frame) : Frame :=
  if f.ack = .requested then { f with ack := .withdrawn, ackDone := true } else f

/-- Withdraw the held acknowledgement of a frame of lane k and set ACKDONE if there was one. -/
def State.ackWithdraw (s : State) (k : Nat) (f : Frame) : State × Frame :=
  if f.ack = .requested then (s.latch (engOf k) (ctxOf k) 18, f.withdraw) else (s, f)

/-- The attempt or frame in progress on lane k ends without FEND. A frame after its SFD keeps its buffer as BLANKED when
`keep`; an attempt before its SFD leaves the abort reason `why` (1 blanked, 3 abandoned) (R81, R96, R161). LABORT is set. -/
def State.abortLane (s : State) (k why : Nat) (keep : Bool) : State :=
  let s := (s.deposit k).markBusy k
  let l := s.lane k
  match l.frames.find? Frame.open_ with
  | some f =>
    let (s, f) := s.ackWithdraw k f
    let l := if keep then { l with frames := l.frames.map fun g => if g.buf = f.buf then { f with abort := 2 } else g }
      else { l with frames := l.frames.filter (fun g => g.buf != f.buf), lastAbort := why }
    ((s.setLane k { l with st := .off }).latch (engOf k) (ctxOf k) 17).laneRest k
  | none =>
    if l.st = .preamble then
      ((s.setLane k { l with st := .off, lastAbort := why }).latch (engOf k) (ctxOf k) 17).laneRest k
    else s

/-- Release the current frame of lane k (R171). -/
def State.release (s : State) (k : Nat) (f : Frame) : State :=
  let l := s.lane k
  s.updLane k { l with frames := l.frames.filter fun g => g.buf != f.buf }

/-- Lane k goes OFF and loses its frames and acknowledgements, that of a frame whose copy into SRAM goes on among them (R177 step 4, R180,
R181). -/
def State.silence (s : State) (k : Nat) : State :=
  let s := (s.markBusy k).spHunt k
  let l := s.lane k
  s.updLane k { l with st := .off, frames := (l.frames.filter fun f => f.leaving).map Frame.withdraw, acks := [] }

end Sys2Proof.Machine
end

