-- ==== Sys2Proof/Machine/Flags.lean ====
section
/-! DEFINITION. The conditions of the step code (Table 6-5): which are true in a context, and what testing one clears (R155);
the flags that arithmetic steps set (R158). -/

namespace Sys2Proof.Machine

/-- The conditions of kind Latched, by code (Table 6-5). -/
def latchedCodes : List Nat := [17, 18, 19, 21, 22, 23, 28, 30, 31]

/-- Order in which released entries are offered (R166): due time, queue, order of the TXQ. -/
def TxEntry.before (a b : TxEntry) : Bool :=
  a.due < b.due || (a.due = b.due && (a.q < b.q || (a.q = b.q && a.order < b.order)))

/-- The entry offered to engine 16 (R166): released, not held, first in order. -/
def State.offered (s : State) : Option TxEntry :=
  (s.txq.filter fun e => e.released && !e.hold && !e.taken).foldl
    (fun o e => match o with
      | none => some e
      | some b => if e.before b then some e else some b) none

/-- The engine is being stopped (code 29): HOLD of its group, or the Envelope stopping; RUN of engine 16 cleared and the engine
not yet stopped. -/
def State.quiescing (s : State) (e : Nat) : Bool :=
  if e = 16 then (s.eng 16).stopping else s.held e || s.env.st = .stopping

/-- An attempt whose preamble has been detected, or the current frame, which had one (R154, R156). -/
def State.attempt (s : State) (e c : Nat) : Bool :=
  match s.laneOf e c with
  | some k => (s.lane k).cur.isSome || (s.lane k).st = .preamble
  | none => false

/-- The lane conditions may be true: the context has a lane, which is not OFF or holds a frame (R154). -/
def State.laneTells (s : State) (e c : Nat) : Bool :=
  match s.laneOf e c with
  | some k => (s.lane k).cur.isSome || (s.lane k).st != .off
  | none => false

/-- Whether condition `code` is true in context c of engine e (R154, Table 6-5). -/
def State.cond (s : State) (e c code : Nat) : Bool :=
  let x := s.ctx e c
  match code with
  | 0 => false
  | 1 => true
  | 2 => x.z
  | 3 => !x.z
  | 4 => x.lt
  | 5 => !x.lt
  | 6 => x.slt
  | 7 => !x.slt
  | 8 => x.hit
  | 9 => x.acc
  | 10 => x.epr = 0
  | 11 => x.epr < 3
  | 12 => s.attempt e c
  | 17 => bitOf x.lat 17 && s.laneTells e c
  | 13 => match s.curFrame e c with | some p => p.2.phr.isSome | none => false
  | 14 => match s.curFrame e c with | some p => p.2.addr | none => false
  | 15 => match s.curFrame e c with | some p => p.2.fend | none => false
  | 16 => match s.curFrame e c with | some p => p.2.fend && p.2.fcsok | none => false
  | 20 => e = 16 && s.offered.isSome
  | 24 => s.tb.src = .xtal
  | 25 => s.std e && c = 5
  | 26 => x.pend
  | 27 => match s.laneOf e c with | some k => 2 ≤ (s.lane k).bufs | none => false
  | 29 => s.quiescing e
  | k => bitOf x.lat k

/-- A step's COND is evaluated: a latched condition found true clears (R155); clearing EVT hands its hop count to READF
EVHOP and to the turn (R161, R172). -/
def State.takeCond (s : State) (e c code : Nat) : Bool × State :=
  let b := s.cond e c code
  if b && latchedCodes.contains code then
    let x := s.ctx e c
    let x := { x with lat := x.lat &&& ~~~((1 : Word) <<< code) }
    let x := if code = 22 then
        { x with evHop := x.evtHop, turnHop := some x.evtHop, evtHop := 0 } else x
    (b, s.setCtx e c x)
  else (b, s)

/-- Some condition of a WAITEV mask is true (R175). -/
def State.anyCond (s : State) (e c : Nat) (mask : Word) : Bool :=
  (List.range 32).any fun i => bitOf mask i && s.cond e c i

/-- The mask names SFD, ADDR, FEND or FCSOK and that condition is true (R147). -/
def State.urgentCond (s : State) (e c : Nat) (mask : Word) : Bool :=
  [13, 14, 15, 16].any fun i => bitOf mask i && s.cond e c i

/-- Z from a result (R158). -/
def Ctx.setZ (x : Ctx) (r : Word) : Ctx := { x with z := r = 0 }

/-- Z, LT and SLT from the operands of SUB and CMP (R158). -/
def Ctx.setCmp (x : Ctx) (a b : Word) : Ctx := { x with z := a - b = 0, lt := a.ult b, slt := a.slt b }

end Sys2Proof.Machine
end

