-- ==== Sys2Proof/Machine/Events.lean ====
section
/-! DEFINITION. Event lines (R310 to R317): publication, hop limit, watch flags, and the task inputs of Table 13-3. -/

namespace Sys2Proof.Machine

/-! ### Tasks -/

/-- The peripheral cluster is powered (Table 14-1). -/
def State.periphOn (s : State) : Bool := s.awake

/-- Interval of timer n in ticks: LOAD 0 behaves as 1 (R408). -/
def State.tmrTicks (s : State) (n : Nat) : Nat := 40 * max 1 (s.reg (Reg.TMR_LOAD n)).toNat

/-- Timer n starts or restarts, by a task of hop count `hop` or by firmware (R408, R314). -/
def State.tmrBegin (s : State) (n : Nat) (hop : Option Nat) : State :=
  s.setTmr n ⟨some (s.now + s.tmrTicks n), hop, none, none⟩

/-- `TMR_CMD` starts timer n: one that a stop task reached in the same instant stays stopped (R408). An earlier write of `TMR_CMD` is of
an earlier instant (DEDUCED, log entry 117). -/
def State.tmrStartAt (s : State) (n : Nat) : State :=
  if (s.tmr n).stopAt = some s.now then s else s.tmrBegin n none

/-- `TMR_CMD` stops timer n (R408). -/
def State.tmrStopAt (s : State) (n : Nat) : State := s.setTmr n ⟨none, none, (s.tmr n).stopAt, some s.now⟩

/-- A start task reaches timer n: one that a stop reached in the same instant stays stopped (R314, R408). -/
def State.tmrStartTask (s : State) (n hop : Nat) : State :=
  if (s.tmr n).stopAt = some s.now || (s.tmr n).cmdStop = some s.now then s else s.tmrBegin n (some hop)

/-- A stop task reaches timer n. -/
def State.tmrStopTask (s : State) (n : Nat) : State := s.setTmr n ⟨none, none, some s.now, (s.tmr n).cmdStop⟩

/-- The peripheral cluster is powered and has not granted a sleep entry: a unit of it may begin something (R342, log entry 91). -/
def State.periphGo (s : State) : Bool := s.periphOn && !s.quiesced 3

/-- A context's ARM SADC has taken its request through the queue: R406 serves requests in arrival order. -/
def State.sadcServe (s : State) : State :=
  match s.sadc.cur, s.sadc.queue with
  | none, r :: q =>
    { s with sadc := ⟨some (if r.ctx.isNone then { r with chan := s.get Reg.SADC_CTL_CH } else r), q⟩ }
  | _, _ => s

/-- A firmware or task request for a conversion (R406): while one is queued, a second merges with it, keeping the higher
hop count (R314). The answer says whether it merged. -/
def State.sadcRequest (s : State) (hop : Option Nat) : Bool × State :=
  if s.sadc.queue.any (fun r => r.ctx.isNone) then
    let up := fun (r : SadcReq) =>
      if r.ctx.isSome then r
      else { r with hop := match r.hop, hop with
        | some a, some b => some (max a b)
        | some a, none => some a
        | none, h => h }
    (true, { s with sadc := { s.sadc with queue := s.sadc.queue.map up } })
  else (false, ({ s with sadc := { s.sadc with queue := s.sadc.queue ++ [⟨0, hop, none⟩] } } : State).sadcServe)

/-- The output latch of GPIO pin j. -/
def gpioBit (j : Nat) : Field := ⟨Reg.GPIO_OUTSET (j / 32), j % 32, 1⟩

/-- The function that a configuration gives pin j: a FUNC that the pin does not have behaves as 0 (R404, R405, R412, Table 18-4). -/
def funcOf (w : Word) (j : Nat) : Nat :=
  let f := bitsOf w 0 3
  if f = 1 && ((4 ≤ j && j ≤ 7) || (16 ≤ j && j ≤ 31) || j = 39) then 1
  else if f = 2 && 8 ≤ j && j ≤ 15 then 2
  else if f = 3 && j < 4 then 3
  else 0

/-- The function of pin j. -/
def State.padFunc (s : State) (j : Nat) : Nat := funcOf (s.reg (Reg.GPIO_CFG j)) j

/-- Toggle task of GPIO j: it inverts the output of a GPIO configured as output (Table 13-3). -/
def State.gpioToggle (s : State) (j : Nat) : State :=
  if s.padFunc j = 0 ∧ s.flag (Reg.GPIO_CFG_OE j) then s.put (gpioBit j) (1 - s.get (gpioBit j)) else s

/-- A core in WFI resumes (R335); debug halt holds it. Leaving quiescence allows automatic sleep attempts again (R341). -/
def State.resumeCore (s : State) (c : CoreId) : State :=
  let x := s.core c
  if x.run = .wfi && !x.halted then
    let s := s.setCore c { x with run := .running }
    { s with pwr := { s.pwr with autoBlocked := false } }
  else s

/-- ARM WAKE or a wake task names cores (R347): awake, a named core in WFI resumes; in a sleep mode or during an entry it is a
wake request of source TASK (Table 14-4: ARM WAKE in HOVER, tasks in HOVER and STANDBY). -/
def State.wakeTask (s : State) (cores : Nat) : State :=
  if s.awake && s.pwr.hs.isNone then
    let s := if cores.testBit 0 then s.resumeCore .c0 else s
    if cores.testBit 1 then s.resumeCore .c1 else s
  else { s with pwr := { s.pwr with wakeReq := s.pwr.wakeReq ||| 0x100, wakeCores := s.pwr.wakeCores ||| cores } }

/-! ### Publication -/

/-- A reserved SUB value behaves as 0 (R310, Table 13-3). -/
def subOk (sub : Nat) : Bool :=
  (1 ≤ sub && sub ≤ 132) || (144 ≤ sub && sub ≤ 160) || (168 ≤ sub && sub ≤ 209)

/-- One more merge at the subscriber of a line (R314). -/
def State.coalesce (s : State) (l : Nat) : State := s.count (Reg.EVL_COAL_COUNT l)

/-- The event of line l, hop count `hop`, reaches task input `sub` (R312 to R314). -/
def State.input (s : State) (l sub hop : Nat) : State :=
  if 1 ≤ sub ∧ sub ≤ 132 then
    let e := (sub - 1) / 8
    let c := (sub - 1) % 8
    let x := s.ctx e c
    if !(s.eng e).run then s
    else if bitOf x.lat 22 then
      (s.setCtx e c { x with evtHop := max hop x.evtHop }).coalesce l
    else s.setCtx e c { x.latch 22 with evtHop := hop }
  else if 144 ≤ sub ∧ sub ≤ 151 then (if s.periphGo then s.tmrStartTask (sub - 144) hop else s)
  else if 152 ≤ sub ∧ sub ≤ 159 then (if s.periphOn then s.tmrStopTask (sub - 152) else s)
  else if sub = 160 then
    (if s.periphGo && s.flag Reg.SADC_CTL_EN then
      let (m, s) := s.sadcRequest (some hop)
      if m then s.coalesce l else s
    else s)
  else if 168 ≤ sub ∧ sub ≤ 207 then (if s.periphOn then s.gpioToggle (sub - 168) else s)
  else if sub = 208 ∨ sub = 209 then s.wakeTask (2 ^ (sub - 208))
  else s

/-- Hop limit of a line: 0 behaves as 4 (Table 13-12). -/
def State.hopLim (s : State) (l : Nat) : Nat :=
  let h := s.get (Reg.EVL_LINECFG_HOPLIM l)
  if h = 0 then 4 else h

/-- The watch flag of a line as a field. -/
def watchBit (l : Nat) : Field := ⟨Reg.EVL_WATCH (l / 32), l % 32, 1⟩

/-- An event is published on line l with a hop count (R313, R315, R316); no line above 95 exists (R311). -/
def State.publish (s : State) (l hop : Nat) : State :=
  if 96 ≤ l then s
  else if s.hopLim l < hop then
    let s := s.put Reg.EVL_STATUS_LOOP 1
    let s := ((s.put Reg.EVL_LOOP_LINE l).put Reg.EVL_LOOP_HOP hop).count Reg.EVL_LOOP_COUNT
    s.postBoth 147 (BitVec.ofNat 32 (l + 256 * hop)) 2
  else
    let s :=
      if s.flag (watchBit l) then s
      else
        let s := s.put (watchBit l) 1
        if bitOf (s.reg (Reg.EVL_WATCHEN (l / 32))) (l % 32) then s.postBoth 147 (BitVec.ofNat 32 l) 1 else s
    s.input l (s.get (Reg.EVL_LINECFG_SUB l)) hop

/-- A task input takes an event of a line: its unit runs and its domain is powered (R313). -/
def State.inputOpen (s : State) (sub : Nat) : Bool :=
  if 1 ≤ sub ∧ sub ≤ 132 then (s.eng ((sub - 1) / 8)).run
  else if sub = 160 then s.periphGo && s.flag Reg.SADC_CTL_EN
  else if 144 ≤ sub ∧ sub ≤ 151 then s.periphGo
  else if 152 ≤ sub ∧ sub ≤ 159 ∨ 168 ≤ sub ∧ sub ≤ 207 then s.periphOn
  else sub = 208 || sub = 209

/-- The event that a task input has taken takes a further one's hop count if that is higher (R314). -/
def State.raiseHop (s : State) (sub hop : Nat) : State :=
  if 1 ≤ sub ∧ sub ≤ 132 then
    let e := (sub - 1) / 8
    let c := (sub - 1) % 8
    let x := s.ctx e c
    if bitOf x.lat 22 then s.setCtx e c { x with evtHop := max hop x.evtHop } else s
  else if 144 ≤ sub ∧ sub ≤ 151 then
    let x := s.tmr (sub - 144)
    s.setTmr (sub - 144) { x with hop := x.hop.map (max hop) }
  else if sub = 160 then
    if s.sadc.queue.any (fun r => r.ctx.isNone) then (s.sadcRequest (some hop)).2
    else { s with sadc := { s.sadc with cur := s.sadc.cur.map fun r => if r.ctx.isSome then r else { r with hop := r.hop.map (max hop) } } }
  else s

/-- A hardware output's event has already reached the task input of line l at this instant (R314). -/
def State.heardNow (s : State) (l : Nat) : Bool := s.evl.time = s.now && s.evl.lines.contains l

/-- A hardware output publishes on line l (R313 to R315). Two such events on one line at the same instant start one task, with the higher hop
count, and count one merge (R314). Events of firmware and of engines carry no time and each stand for an instant of their own (DESIGN
CHOICE, log entry 116). -/
def State.publishHw (s : State) (l hop : Nat) : State :=
  let sub := s.get (Reg.EVL_LINECFG_SUB l)
  if 96 ≤ l || s.hopLim l < hop || !s.inputOpen sub then s.publish l hop
  else if s.heardNow l then (s.raiseHop sub hop).coalesce l
  else { s.publish l hop with evl := ⟨s.now, l :: if s.evl.time = s.now then s.evl.lines else []⟩ }

/-- Line of event output p (R311). -/
def State.outLine (s : State) (p : Nat) : Nat := s.get (Reg.EVL_PUBCFG_LINE p)

/-- Event output p fires (Table 13-2). -/
def State.output (s : State) (p hop : Nat) : State := s.publishHw (s.outLine p) hop

end Sys2Proof.Machine
end

