-- ==== Sys2Proof/Machine/Collector.lean ====
section
/-! DEFINITION. The interrupt collectors (chapter 13): the ring, a post becoming a record or a pending bit, TAKE and EOI,
moderation and MEIP; and what every command ends with: waits that have come true, moderation, WFI, the mode. -/

namespace Sys2Proof.Machine

/-! ### Set and clear window (Table 13-7) -/

/-- Word w of the enable bits of collector c, kept at its set address. -/
def enWord (c : CoreId) (w : Nat) : Nat := 0x4F000000 + 0x10000 * coreNum c + 4 * w

/-- Word w of the pending bits of collector c, kept at its set address. -/
def pendWord (c : CoreId) (w : Nat) : Nat := 0x4F000100 + 0x10000 * coreNum c + 4 * w

/-- Enable and pending bit of a source. -/
def enBit (c : CoreId) (src : Nat) : Field := ⟨enWord c (src / 32), src % 32, 1⟩

def pendBit (c : CoreId) (src : Nat) : Field := ⟨pendWord c (src / 32), src % 32, 1⟩

/-- Merged count of a source. -/
def Icol.mergedOf (i : Icol) (src : Nat) : Nat := sget (fun _ => 0) i.merged src

/-- The posts that a pending bit stands for are forgotten (R321). -/
def Icol.forget (i : Icol) (src : Nat) : Icol :=
  { i with merged := sput (fun _ => 0) i.merged src 0, lastPri := sput (fun _ => 0) i.lastPri src 0 }

/-! ### Ring (R319) -/

/-- Records per level: 0 behaves as 1, values above 64 as 64 (Table 13-20). -/
def State.icolDepth (s : State) (c : CoreId) : Nat := clampN 1 64 (s.get (Reg.ICOL_RCFG_DEPTH (coreNum c)))

/-- Ring slot number of index i of level p. -/
def State.icolSlot (s : State) (c : CoreId) (p i : Nat) : Nat := s.icolDepth c * p + i

/-- Address of a ring slot. -/
def State.icolAddr (s : State) (c : CoreId) (slot : Nat) : Nat :=
  16 * s.get (Reg.ICOL_RBASE_ADDR (coreNum c)) + 16 * slot

def Icol.levelCount (i : Icol) (p : Nat) : Nat := (i.recs.filter fun r => r.pri = p).length

/-- Index that the next record of level p takes: the level is a FIFO round its DEPTH slots. -/
def State.icolNext (s : State) (c : CoreId) (p : Nat) : Nat :=
  sget (fun _ => 0) (s.icol c).heads p % s.icolDepth c

/-- The level takes another record: a slot is free, lies in SRAM, and its bank accepts the write (R319, R267). -/
def State.icolRoom (s : State) (c : CoreId) (p : Nat) : Bool :=
  let a := s.icolAddr c (s.icolSlot c p (s.icolNext c p))
  (s.icol c).levelCount p < s.icolDepth c && region a = .sram && !s.bankRefuses a

/-- Word 0 of a record (Table 13-4). -/
def recWord (merged : Nat) (sw frompend : Bool) (pri src : Nat) : Word :=
  BitVec.ofNat 32 (merged * 2 ^ 24 + b2n sw * 2 ^ 14 + b2n frompend * 2 ^ 13 + pri * 2 ^ 10 + src)

/-- The collector writes a record of level p and counts it (R319). -/
def State.icolWrite (s : State) (c : CoreId) (p src : Nat) (w0 : Word) (time : Nat) (lo hi : Word) : State :=
  let i := s.icolNext c p
  let a := s.icolAddr c (s.icolSlot c p i)
  let s := s.devWrite a (leBytes 4 w0.toNat ++ leBytes 4 time ++ leBytes 4 lo.toNat ++ leBytes 4 hi.toNat)
  let x := s.icol c
  s.setIcol c { x with recs := x.recs ++ [⟨p, i, src, false⟩], heads := sput (fun _ => 0) x.heads p (i + 1) }

/-- The collector comes to a post (R320): it becomes a record, or a pending bit that counts it. -/
def State.icolHandle (s : State) (c : CoreId) (p : IPost) : State :=
  let on := s.flag (Reg.ICOL_CTL_EN (coreNum c)) && s.flag (enBit c p.src)
  if on && s.icolRoom c p.pri then
    let s := s.icolWrite c p.pri p.src (recWord 0 p.sw false p.pri p.src) p.time p.lo p.hi
    let x := s.icol c
    if x.mergedOf p.src = 0 then s
    else s.setIcol c { x with lastPri := sput (fun _ => 0) x.lastPri p.src p.pri }
  else
    let s := s.put (pendBit c p.src) 1
    let x := s.icol c
    let s := s.setIcol c { x with
      merged := sput (fun _ => 0) x.merged p.src (satInc 255 (x.mergedOf p.src))
      lastPri := sput (fun _ => 0) x.lastPri p.src p.pri }
    if on then
      (s.put (Reg.ICOL_STATUS_OVF (coreNum c)) 1).count (Reg.ICOL_OVFCNT_COUNT (coreNum c))
    else s

/-- Priority of a FROMPEND record (R323). -/
def State.pendPri (s : State) (c : CoreId) (src : Nat) : Nat :=
  if (s.icol c).mergedOf src = 0 then s.icolPri c src else sget (fun _ => 0) (s.icol c).lastPri src

/-- The sources that qualify for a FROMPEND record (R321). -/
def State.frompendReady (s : State) (c : CoreId) : List Nat :=
  if s.flag (Reg.ICOL_CTL_EN (coreNum c)) then
    (List.range 32).flatMap fun w =>
      let m := s.reg (enWord c w) &&& s.reg (pendWord c w)
      if m = 0 then []
      else (List.range 32).filterMap fun j =>
        if bitOf m j && s.icolRoom c (s.pendPri c (32 * w + j)) then some (32 * w + j) else none
  else []

/-- The lowest source that qualifies becomes a FROMPEND record (R321). -/
def State.icolFrompend (s : State) (c : CoreId) : State :=
  match s.frompendReady c with
  | [] => s
  | src :: _ =>
    let p := s.pendPri c src
    let s := s.icolWrite c p src (recWord ((s.icol c).mergedOf src) false true p src) s.us 0 0
    (s.put (pendBit c src) 0).setIcol c ((s.icol c).forget src)

/-! ### Running priority (R325 to R328) -/

/-- The eligible records, oldest first (R325); none while the collector is stopped (R333). -/
def State.eligible (s : State) (c : CoreId) : List IRec :=
  let i := s.icol c
  if s.flag (Reg.ICOL_CTL_EN (coreNum c)) then
    i.recs.filter fun r => !r.taken && (i.run = 8 || i.run < r.pri) && s.get (Reg.ICOL_CTL_THR (coreNum c)) ≤ r.pri
  else []

/-- The record that a TAKE takes: the head of the highest level with an eligible record (R326). -/
def State.takeHead (s : State) (c : CoreId) : Option IRec :=
  (s.eligible c).foldl (fun o r => match o with
    | none => some r
    | some b => if b.pri < r.pri then some r else some b) none

/-- A read of `ICOL_TAKE` (R326): value and state after. -/
def State.icolTakeRead (s : State) (c : CoreId) : Word × State :=
  match s.takeHead c with
  | none => (0, s)
  | some r =>
    let i := s.icol c
    let t := { r with taken := true }
    let i := { i with stack := (i.run, t) :: i.stack, run := r.pri, recs := i.recs.map fun x => if x = r then t else x }
    (BitVec.ofNat 32 (2 ^ 31 + r.pri * 2 ^ 28 + r.src * 2 ^ 16 + s.icolSlot c r.pri r.idx), s.setIcol c i)

/-- A write of `ICOL_EOI` (R327). -/
def State.icolEoiWrite (s : State) (c : CoreId) : State :=
  let i := s.icol c
  match i.stack with
  | [] => s.put (Reg.ICOL_STATUS_EOIERR (coreNum c)) 1
  | (run, r) :: st => s.setIcol c { i with run := run, stack := st, recs := i.recs.filter fun x => x != r }

/-! ### Moderation and MEIP (R328, R329) -/

/-- A hold ends: enough records, its time, a priority that bypasses, or a quiescent core (R329). -/
def State.modEnds (s : State) (c : CoreId) (start : Nat) : Bool :=
  let n := coreNum c
  let e := s.eligible c
  s.get (Reg.ICOL_MOD_N n) ≤ e.length || start + 40 * max 1 (s.get (Reg.ICOL_MOD_T n)) ≤ s.now ||
    e.any (fun r => s.get (Reg.ICOL_MOD_BYP n) ≤ r.pri) || (s.core c).quiescent

/-- Moderation follows the eligible records (R329). While it is off MEIP follows the records that are eligible, and those do not begin a
hold when it is switched on: a hold begins when a record becomes eligible while no other is. -/
def State.modStep (s : State) (c : CoreId) : State :=
  let i := s.icol c
  let m : IMod :=
    if (s.eligible c).isEmpty then .idle
    else if s.get (Reg.ICOL_MOD_N (coreNum c)) = 0 then .released
    else match i.mod with
      | .released => .released
      | .idle => if s.modEnds c s.now then .released else .hold s.now
      | .hold st => if s.modEnds c st then .released else .hold st
  s.setIcol c { i with mod := m }

/-- MEIP of a core (R328). -/
def State.meip (s : State) (c : CoreId) : Bool :=
  !(s.eligible c).isEmpty && (s.get (Reg.ICOL_MOD_N (coreNum c)) = 0 || (s.icol c).mod = .released)

/-- WFI completes when MEIP is asserted and the device is awake (R22, R335); during a sleep entry the wake is latched instead
(R345). -/
def State.wfiStep (s : State) (c : CoreId) : State :=
  if s.awake && s.pwr.hs.isNone && s.meip c then s.resumeCore c else s

/-! ### Mode (R334) -/

/-- Both cores are quiescent (R335). -/
def State.quiet (s : State) : Bool := s.core0.quiescent && s.core1.quiescent

/-- The mode code (R30, R334); a forced mode, such as a sleep mode until core 0 runs again, reads before all others. -/
def State.modeNow (s : State) : Nat :=
  match s.pwr.forced with
  | some m => m
  | none =>
    if s.rfe.st = .txStart ∨ s.rfe.st = .tx ∨ s.rfe.st = .txTail then 7
    else if s.env.st = .survey then 9
    else if s.env.st ≠ .off then 8
    else if s.flag Reg.RFE_SPCTL_EN && (s.rfe.st = .locking || s.rfe.st = .spRx) then 6
    else if s.quiet then 4
    else 5

/-- `SYS_MODE` follows; PREV holds the mode left at the last change (R334). -/
def State.modeStep (s : State) : State :=
  let m := s.modeNow
  if m = s.pwr.mode then s else { s with pwr := { s.pwr with mode := m, prev := s.pwr.mode } }

/-! ### Waits that have come true (R146, R147) -/

/-- A WAITING context whose mask has a true condition becomes READY, urgent as R147 gives. -/
def State.wakeCtx (s : State) (e c : Nat) : State :=
  let x := s.ctx e c
  match x.st, x.wait with
  | .waiting, .ev m =>
    if s.anyCond e c m then
      s.setCtx e c { x with st := .ready, urg := s.urgentCond e c m, woke := s.now, wait := .none, resume := true }
    else s
  | _, _ => s

def State.wakeEng (s : State) (e : Nat) : State :=
  if (s.eng e).run then forN (nctx e) (fun s c => s.wakeCtx e c) s else s

/-- What every command ends with. -/
def State.settle (s : State) : State :=
  let s := (s.engs.map Prod.fst).foldl State.wakeEng s
  let s := (s.modStep .c0).modStep .c1
  ((s.wfiStep .c0).wfiStep .c1).modeStep

/-- The outcome of a command: the next state, settled. -/
def done (s : State) : Host.Outcome State Fault Refusal := .next s.settle

/-! ### UART transmitters (R402) -/

/-- RTS/CTS is used by UART n (Table 17-6, R412). -/
def State.uartFlow (s : State) (n : Nat) : Bool := bitOf (s.reg (Reg.UART_CTL n)) 7

/-- UART n may send: without RTS/CTS always, with it while CTS is asserted, which is low (PRESUMED, log entry 93). A CTS that FUNC 1 does not
connect (Table 18-4) holds nothing up. -/
def State.uartClear (s : State) (n : Nat) : Bool :=
  !s.uartFlow n || s.padFunc (7 + 12 * n) != 1 || !(s.pins.vio && s.pins.level.getLsbD (7 + 12 * n))

/-- A UART is sending a character (Table 2-1, unit 30). -/
def State.uartSending (s : State) (n : Nat) : Bool :=
  !(if n = 0 then s.uart0 else s.uart1).tx.isEmpty && bitOf (s.reg (Reg.UART_CTL n)) 0 && s.uartClear n

/-- A UART's clock runs: the FIO, or the crystal if CLK selects it. -/
def State.uartClock (s : State) (n : Nat) : Bool := !s.flag (Reg.UART_CTL_CLK n) || (s.tb.xtalOn && s.tb.ready)

/-- Time of one character of UART n in 1/128 ticks: a start bit, 8 data bits, parity, 1 or 2 stop bits, at 16·f/DIV baud (R402). The
code of [5:4] that Table 17-6 does not list sends no parity bit (DESIGN CHOICE, log entry 118). -/
def State.uartChar (s : State) (n : Nat) : Nat :=
  let p := bitsOf (s.reg (Reg.UART_CTL n)) 4 2
  (10 + b2n (p = 1 || p = 2) + b2n (bitOf (s.reg (Reg.UART_CTL n)) 6)) * max 256 (s.get (Reg.UART_BAUD_DIV n)) *
    (if s.flag (Reg.UART_CTL_CLK n) then 8 else 5)

/-- The characters that `dt` ticks of sending take out of the transmit FIFO; the last leaves at UART_TX_IDLE. -/
def Uart.sent (x : Uart) (char dt : Nat) : Uart :=
  let w := x.part + 128 * dt
  let k := min (w / char) (x.tx.length - 1)
  { x with tx := x.tx.drop k, part := w - k * char }

/-- UART n in `dt` ticks: it sends while its transmitter is on and its clock runs (R402). -/
def State.uartRun (s : State) (n dt : Nat) (x : Uart) : Uart :=
  if s.periphOn && s.uartSending n && s.uartClock n then x.sent (s.uartChar n) dt else x

/-- Time reaches `t`, and the octets that have arrived by then enter their buffers. -/
def State.at_ (s : State) (t : Nat) : State :=
  ({ s.advance t with uart0 := s.uartRun 0 (t - s.now) s.uart0, uart1 := s.uartRun 1 (t - s.now) s.uart1 } : State).depositAll

end Sys2Proof.Machine
end

