-- ==== Sys2Proof/Machine/Epoch.lean ====
section
/-! DEFINITION. Field classes and epoch units (chapter 2): which unit a register belongs to, when a unit is at its safe boundary,
where a write goes by class, the epoch check, the Bridle digest. What applying a unit's values sets off is in
Machine/Apply.lean. -/

namespace Sys2Proof.Machine

/-- The epoch unit of the register at `a` (R43, Tables 1-10, 1-11, 2-1). 32 stands for the REEL registers of unit 16, which
count as stopped while engine 16 is stopped (chapter 6, REEL registers). -/
def unitOf (a : Nat) : Nat :=
  if a < 0x40001000 then 29
  else if a < 0x40002000 then 27
  else if a < 0x40003000 then 31
  else if a < 0x40004000 then 28
  else if a < 0x40005000 then 20
  else if a < 0x40006000 then 21
  else if a < 0x40007000 then 22
  else if a < 0x40008000 then 23
  else if a < 0x40009000 then 24
  else if a < 0x4000A000 then 25
  else if a < 0x4000B000 then 26
  else if a < 0x4000C000 then 16
  else if a < 0x4000D000 then
    (if 0x4000C100 ≤ a ∧ a < 0x4000C1C0 then (a - 0x4000C100) / 4 % 16 else 17)
  else if a < 0x4000E000 then
    (if 0x4000D040 ≤ a ∧ a < 0x4000D080 then (a - 0x4000D040) / 4 else 32)
  else if a < 0x4000F000 then 18
  else if a < 0x40010000 then 19
  else if a < 0x4F000000 then 30
  else if a < 0x4F010000 then 22
  else 23

/-- Registers whose writable class L fields act when the write completes although their unit has a later boundary: each
unit's own map says so (PWR, RTC, FLC, LINK, CIPH, REEL, peripherals). -/
def immediateReg (a : Nat) : Bool :=
  [Reg.PWR_WAKEAT_LO, Reg.PWR_WAKEAT_HI, Reg.RTC_SETSEC_LO, Reg.RTC_SETSEC_HI, Reg.RTC_SETFRAC, Reg.RTC_CALDATE,
    Reg.RTC_CALTIME, Reg.REEL_E16CTL, Reg.REEL_LDSRC].contains a ||
  (Reg.FLC_PBUF 0 ≤ a && a ≤ Reg.FLC_PBUF 63) || (Reg.HOSTIF_TXBUF 0 ≤ a && a ≤ Reg.HOSTIF_TXBUF 255) ||
  a = Reg.LINK_RTAKE 0 || a = Reg.LINK_RTAKE 1 || a = Reg.CIPH_QPUT 0 || a = Reg.CIPH_QPUT 1

/-! ### Safe boundaries (Table 2-1) -/

/-- The group's lanes are idle and hold no buffer, and its engine's contexts wait (Table 2-1, R118). -/
def State.groupQuiet (s : State) (g : Nat) : Bool :=
  s.allWait g && (List.range 8).all fun i =>
    let l := s.lane (8 * g + i)
    l.st != .preamble && l.st != .frame && l.frames.isEmpty

/-- `RFE_SPSTAT.INFRAME`: the single path is inside an attempt (R84, Table 3-12). -/
def State.spInFrame (s : State) : Bool := (s.lane 128).st = .preamble || (s.lane 128).st = .frame

/-- The RFE is not settling, nothing is on air, and the single path is not inside a frame (Table 2-1, unit 16). Table 2-1 does not
name STARTING nor a background calibration step: the first counts as settling, the second does not (DESIGN CHOICE, log entry 77). -/
def State.rfeQuiet (s : State) : Bool :=
  (match s.rfe.st with
    | .starting | .locking | .txStart | .tx | .txTail => false
    | .cal => (match s.rfe.calib with | some (_, bg) => bg | none => true)
    | _ => true) && !s.spInFrame

/-- COEX_REQ is asserted: by a transmit, to 6 µs after its last chip (Table 3-4), or by RXREQ while the single path is inside an
attempt (R84). -/
def State.coexReq (s : State) : Bool :=
  s.rfe.req || s.now < s.rfe.reqTo || (s.flag Reg.COEX_CTL_EN && s.flag Reg.COEX_CTL_RXREQ && s.spInFrame)

/-- COEX_PRI is asserted (R84): with the priority of the transmit that holds COEX_REQ. -/
def State.coexPri (s : State) : Bool := if s.rfe.req then s.rfe.pri else s.now < s.rfe.reqTo && s.rfe.priTail

/-- An I2C bus is free: no transfer, and none that ended without STOP (Table 2-1, unit 30). -/
def Serial.free (x : Serial) : Bool := !x.busy && !x.own

/-- Every peripheral but the UARTs is at its own boundary (Table 2-1, unit 30). -/
def State.serialQuiet (s : State) : Bool :=
  !s.spic0.busy && !s.spic1.busy && s.i2c0.free && s.i2c1.free && s.sadc.cur.isNone

/-- Every peripheral is at its own boundary (Table 2-1, unit 30). -/
def State.periphQuiet (s : State) : Bool := s.serialQuiet && !s.uartSending 0 && !s.uartSending 1

/-- The RFE is stopped (R29): off, with its control register off or its domain unpowered. -/
def State.rfeStopped (s : State) : Bool := s.rfe.st = .off && (!s.flag Reg.RFE_CTL_EN || !s.awake)

/-- Unit u is at its safe boundary now, or stopped (R43, R44). Units 17, 18 and 28 reach theirs only at their own events; ENV
is stopped while the Envelope is off (R108), a unit whose domain is off is stopped (R29): LINK in every sleep mode (Table 14-1). -/
def State.atBoundary (s : State) (u : Nat) : Bool :=
  if u < 16 then !(s.eng u).run || s.groupQuiet u
  else match u with
    | 16 => s.rfeStopped || (s.rfeQuiet && s.allWait 16)
    | 17 => s.env.st = .off
    | 18 => !s.awake
    | 19 => !s.coexReq
    | 24 => s.flc.op.isNone
    | 25 => s.memc.trans.isEmpty && s.memc.test.isNone
    | 26 => s.ciph.cur.isNone
    | 27 => s.pwr.hs.isNone
    | 28 => false
    | 30 => !s.periphOn || s.periphQuiet
    | 32 => !(s.eng 16).run || (s.rfeQuiet && s.allWait 16)
    | _ => true

/-! ### Class K and WRITE_IGNORED (R46) -/

/-- A write of `v` to the class K register at `a` finds its unit stopped (R46, R108, R118, R182, R333, R434; each unit's own
control register halts it, R29). -/
def State.kOpen (s : State) (a : Nat) (v : Word) : Bool :=
  let u := unitOf a
  if a = Reg.REEL_TXQBASE then
    !(s.eng 16).run && s.txq.isEmpty && region (v.toNat / 4096 * 4096) = .radio
  else if a = Reg.REEL_TID 16 then !(s.eng 16).run
  else if u < 16 then !(s.eng u).run
  else match u with
    | 16 => s.rfeStopped
    | 17 => s.env.st = .off
    | 22 => !s.flag (Reg.ICOL_CTL_EN 0)
    | 23 => !s.flag (Reg.ICOL_CTL_EN 1)
    | 26 => !s.awake || (!s.flag Reg.CIPH_CTL_EN && s.ciph.cur.isNone)
    | _ => true

/-- The unit's WRITE_IGNORED flag: a status register of its own, or `REEL_WIGN` for step memory, `REEL_TID` and
`REEL_TXQBASE` (R46, R184, Table 6-21). -/
def wignField (a : Nat) : Field :=
  let u := unitOf a
  if 0x4000D000 ≤ a ∧ a < 0x4000E000 then ⟨Reg.REEL_WIGN, if a = Reg.REEL_TXQBASE then 16 else (a - Reg.REEL_TID 0) / 4, 1⟩
  else if u < 16 then Reg.ENV_GSTAT_WRITE_IGNORED u
  else match u with
    | 16 => Reg.RFE_STATUS_WRITE_IGNORED
    | 17 => Reg.ENV_STATUS_WRITE_IGNORED
    | 22 => Reg.ICOL_STATUS_WRITE_IGNORED 0
    | 23 => Reg.ICOL_STATUS_WRITE_IGNORED 1
    | _ => Reg.CIPH_STATUS_WRITE_IGNORED

/-- `CFG_WIGN` as read: each unit's flag, and the bits of `REEL_WIGN` (R46, R184). -/
def State.wign (s : State) : Word :=
  let own := fun u : Nat =>
    if u < 16 then s.flag (Reg.ENV_GSTAT_WRITE_IGNORED u)
    else match u with
      | 16 => s.flag Reg.RFE_STATUS_WRITE_IGNORED
      | 17 => s.flag Reg.ENV_STATUS_WRITE_IGNORED
      | 22 => s.flag (Reg.ICOL_STATUS_WRITE_IGNORED 0)
      | 23 => s.flag (Reg.ICOL_STATUS_WRITE_IGNORED 1)
      | 26 => s.flag Reg.CIPH_STATUS_WRITE_IGNORED
      | _ => false
  (List.range 32).foldl (fun w u => if own u then w ||| ((1 : Word) <<< u) else w) 0 |||
    BitVec.ofNat 32 (s.get Reg.REEL_WIGN_ENG)

/-- A write of 1s to `CFG_WIGN` clears the units' flags and the bits of `REEL_WIGN` (R184). -/
def State.wignClear (s : State) (v : Word) : State :=
  let s := forN 16 (fun s g => if bitOf v g then s.put (Reg.ENV_GSTAT_WRITE_IGNORED g) 0 else s) s
  let s := if bitOf v 16 then s.put Reg.RFE_STATUS_WRITE_IGNORED 0 else s
  let s := if bitOf v 17 then s.put Reg.ENV_STATUS_WRITE_IGNORED 0 else s
  let s := if bitOf v 22 then s.put (Reg.ICOL_STATUS_WRITE_IGNORED 0) 0 else s
  let s := if bitOf v 23 then s.put (Reg.ICOL_STATUS_WRITE_IGNORED 1) 0 else s
  let s := if bitOf v 26 then s.put Reg.CIPH_STATUS_WRITE_IGNORED 0 else s
  s.setReg Reg.REEL_WIGN (s.reg Reg.REEL_WIGN &&& ~~~(v &&& 0x1FFFF))

/-- Digests no longer current (R59). -/
def State.digDirty (s : State) : State := { s with cfg := { s.cfg with digBusy := true } }

/-- A write to a register that holds a class K field (R46). -/
def State.writeK (s : State) (a : Nat) (v : Word) : State :=
  if s.kOpen a v then
    let w := mergeBits (s.reg a) (kMask a) v
    if w = s.reg a then s else (s.setReg a w).digDirty
  else s.put (wignField a) 1

/-- A write to class S fields goes to the shadow (R47). -/
def State.writeS (s : State) (a : Nat) (v : Word) : State :=
  let w := mergeBits (s.shadowOf a) (sMask a) v
  if w = s.shadowOf a then s else ({ s with shadow := sput regReset s.shadow a w } : State).digDirty

/-! ### Waiting L writes (R45) -/

/-- The fields of two bits that a write of 0b11 leaves unchanged (R65, R266, R350). -/
def threeKeeps (a : Nat) : List Field :=
  if a = Reg.RFE_SPCTL then [Reg.RFE_SPCTL_DIV]
  else if a = Reg.PWR_DVFS then [Reg.PWR_DVFS_VSEL, Reg.PWR_DVFS_PACE]
  else if a = Reg.MEMC_BANKCTL then (List.range 16).map fun i => ⟨a, 2 * i, 2⟩
  else if a = Reg.MEMC_RBANKCTL then (List.range 4).map fun i => ⟨a, 2 * i, 2⟩
  else []

/-- The bits that a write of `v` to the register at `a` leaves unchanged for that. -/
def threeMask (a : Nat) (v : Word) : Word :=
  (threeKeeps a).foldl (fun m f => if fget v f = 3 then m ||| fmask f else m) 0

/-- A write to class L fields waits; a later write to the same field replaces an earlier one. -/
def State.addWait (s : State) (a : Nat) (m v : Word) : State :=
  let (m0, v0) := s.waitOf a
  { s with waits := (s.waits.filter fun x => x.addr != a) ++ [⟨a, m0 ||| m, mergeBits v0 m v⟩] }

/-- The writes that wait for unit u. -/
def State.waitsFor (s : State) (u : Nat) : List WaitW := s.waits.filter fun x => unitOf x.addr = u

/-- The registers of unit u take their waiting writes. -/
def State.mergeWaits (s : State) (u : Nat) : State :=
  let ws := s.waitsFor u
  let s := { s with waits := s.waits.filter fun x => unitOf x.addr != u }
  ws.foldl (fun s x => s.setReg x.addr (mergeBits (s.reg x.addr) x.mask x.val)) s

/-! ### Armed sets (R48, R49) -/

/-- The S fields of one register: address and mask. -/
def sRegs : List (Nat × Word) :=
  regRows.flatMap fun r => if r.rwS = 0 then [] else (List.range r.count).map fun i => (r.base + r.stride * i, r.rwS)

/-- The registers whose shadow differs from the value applied. -/
def State.shadowDiff (s : State) : List (Nat × Word) :=
  sRegs.filterMap fun p => if (s.shadowOf p.1 ^^^ s.reg p.1) &&& p.2 = 0 then none else some (p.1, s.shadowOf p.1)

/-- `CFG_PEND` (R48). -/
def State.pend (s : State) : Word := s.reg Reg.CFG_PEND

/-- Unit u applies its armed set (R49), which leaves `CFG_PEND` and reports its lag (R50). -/
def State.mergeArmed (s : State) (u : Nat) : State :=
  if bitOf s.pend u then
    let mine := s.armed.filter fun p => unitOf p.1 = u
    let s := { s with armed := s.armed.filter fun p => unitOf p.1 != u }
    let s := mine.foldl (fun s p => s.setReg p.1 (mergeBits (s.reg p.1) (sMask p.1) p.2)) s
    let s := s.setReg Reg.CFG_PEND (s.pend &&& ~~~((1 : Word) <<< u))
    ({ s with cfg := { s.cfg with lag := sput (fun _ => 0) s.cfg.lag u (s.now - s.cfg.switchT) } } : State).digDirty
  else s

/-- `CFG_LAGVAL` of unit u in µs, saturating (R50). -/
def State.lagOf (s : State) (u : Nat) : Nat :=
  let d := if bitOf s.pend u then s.now - s.cfg.switchT else sget (fun _ => 0) s.cfg.lag u
  min 0xFFFFFFFF (d / 40)

/-! ### The acceptance window and the epoch check (R54) -/

/-- The result of the epoch check: 0 CURRENT, 1 PREVIOUS, 2 NEXT, 3 STALE (Table 2-2). -/
def State.epochCheck (s : State) (tag : Nat) : Nat :=
  let e := s.get Reg.CFG_EPOCH_CUR
  let t := tag % 65536
  let win := s.get Reg.CFG_WIN_WINDOW
  if t = e then 0
  else if t = (e + 65535) % 65536 ∧ 0 < s.cfg.window then 1
  else match s.cfg.sched with
    | some v => if t = (e + 1) % 65536 ∧ s.link.evc < v ∧ v ≤ s.link.evc + win then 2 else 3
    | none => 3

/-! ### Bridle digest (R55 to R59, R431) -/

/-- Insert a register in ascending address order. -/
def insAddr (p : Nat × Word) : List (Nat × Word) → List (Nat × Word)
  | [] => [p]
  | q :: r => if p.1 ≤ q.1 then p :: q :: r else q :: insAddr p r

/-- The registers of unit u that hold an S or K field, in ascending address order, with the mask of those fields (R56). -/
def digestRegs (u : Nat) : List (Nat × Word) :=
  (regRows.flatMap fun r =>
    if r.rwS ||| r.rwK = 0 then []
    else (List.range r.count).filterMap fun i =>
      let a := r.base + r.stride * i
      if unitOf a = u ∨ (u = 16 ∧ unitOf a = 32) then some (a, r.rwS ||| r.rwK) else none).foldr insAddr []

/-- A node's own bytes (R56); with `sh`, S fields taken from the shadow (R59). -/
def State.ownBytes (s : State) (sh : Bool) (u : Nat) : List Byte :=
  (digestRegs u).flatMap fun p =>
    let w := if sh then mergeBits (s.reg p.1) (sMask p.1) (s.shadowOf p.1) else s.reg p.1
    leBytes 4 (w &&& p.2).toNat

def State.leafDig (s : State) (sh : Bool) (u : Nat) : Word := crc32c (s.ownBytes sh u)

/-- The digest of a node from its own bytes and its children's digests (R57). -/
def nodeDig (own : List Byte) (kids : List Word) : Word := crc32c (own ++ kids.flatMap fun w => leBytes 4 w.toNat)

def State.groupDig (s : State) (sh : Bool) (g : Nat) : Word := nodeDig (s.ownBytes sh g) (List.replicate 8 0)

/-- The peripheral cluster's children hold no S or K register (R431). -/
def periphDig : Word := nodeDig [] (List.replicate 13 0)

/-- The device digest over Table 1-19. -/
def State.deviceDig (s : State) (sh : Bool) : Word :=
  let lf := s.leafDig sh
  let always := nodeDig [] [lf 27, lf 20, lf 28, 0, lf 21, lf 22, lf 23, 0, 0, lf 29, lf 31]
  let envelope := nodeDig [] ([lf 17, 0, 0, 0] ++ (List.range 16).map (s.groupDig sh))
  let radio := nodeDig [] [lf 16, lf 19, lf 18, envelope]
  let core := nodeDig [] [lf 26, 0, 0]
  let memory := nodeDig [] ([lf 25, lf 24, 0] ++ List.replicate 20 0)
  nodeDig [] [always, radio, core, memory, periphDig]

/-- The digest of a unit's subtree (Table 2-11). -/
def State.unitDig (s : State) (u : Nat) : Word :=
  if u < 16 then s.groupDig false u else if u = 30 then periphDig else s.leafDig false u

/-- The digests are recomputed (R59). -/
def State.recompute (s : State) : State :=
  { s with cfg := { s.cfg with
      digest := s.deviceDig false
      sdigest := s.deviceDig true
      udig := (List.range 32).map fun u => (u, s.unitDig u)
      digBusy := false } }

end Sys2Proof.Machine
end

