-- ==== Sys2Proof/Machine/Rfe.lean ====
section
/-! DEFINITION. The radio front end (chapter 3): calibration table, the synthesizer and who it serves, the one transmitter (R72 to
R80), dwell accounting (R220 to R222), completion of a transmit (R88, R167), blanking (R81), the single path's enable. -/

namespace Sys2Proof.Machine

/-! ### Channels, ports, calibration -/

/-- The narrow channel that the synthesizer tunes to (R60, R135): in S-mode CHAN[3:0] = m names channel 8m + 5. -/
def tuneOf (fmt chan : Nat) : Nat := if fmt = 1 then 8 * (chan % 16) + 5 else chan % 128

/-- The narrow channels that a transmission covers (R221). -/
def dwellChans (fmt chan : Nat) : List Nat :=
  if fmt = 1 then (List.range 5).map fun i => 8 * (chan % 16) + 3 + i else [chan % 128]

/-- Airtime in µs (R132, R136). -/
def airtime (fmt len : Nat) : Nat := if fmt = 1 then 192 + 32 * len else 896 + 128 * len

/-- Port p is fitted; PORTS = 0b00 behaves as 0b01 (R61, Table 3-13). -/
def State.fitted (s : State) (p : Nat) : Bool :=
  let w := s.get Reg.RFE_ANTCFG_PORTS
  if w = 0 then p = 0 else w.testBit p

/-- The port used when port p is named (R61). -/
def State.portFor (s : State) (p : Nat) : Nat := if s.fitted p then p else 1 - p

/-- Die temperature, °C, as the sensor last read it, at a lock (R66) or for the monitor (R407): a start does not change it. -/
def State.dieTemp (s : State) : Int := s.die

/-- The temperature sensor is read for a lock (R66): what it reads no command carries, so that it is free. -/
def State.readDie (s : State) : State := { s with die := Config.sensor s.free, free := s.free + 1 }

/-- VALID = 1 and the temperature test of R66 fails. -/
def State.calStale (s : State) (k : Nat) : Bool :=
  s.flag (Reg.RFE_CALTAB_VALID k) && !((s.dieTemp - toSigned 8 (s.get (Reg.RFE_CALTAB_TEMP k))).natAbs < 20)

/-- The entry of channel k is usable (R66). -/
def State.usable (s : State) (k : Nat) : Bool := s.flag (Reg.RFE_CALTAB_VALID k) && !s.calStale k

/-- The lowest channel whose entry is not usable, if any. -/
def State.unusable? (s : State) : Option Nat := (List.range 128).find? fun k => !s.usable k

/-- A calibration step of channel k updates its entry (R66, R67): BAND and FINE are device-dependent codes. TEMP of every step is what the
sensor last read; a step at a start or in the background makes no reading of its own (DESIGN CHOICE, log entry 104). -/
def State.calEntry (s : State) (k : Nat) : State :=
  let w := BitVec.ofNat 32 (2 ^ 31 + ofSigned 8 s.dieTemp * 2 ^ 16 + (Config.calBand s.free k).toNat * 2 ^ 8 +
    (Config.calFine s.free k).toNat)
  (s.setReg (Reg.RFE_CALTAB k) w).fresh

/-! ### Dwell (R220 to R222) -/

/-- Length of a bucket in µs (R220); W outside 1 to 60 behaves as the nearer limit (Table 8-16). -/
def State.bucketUs (s : State) : Nat := 62500 * clampN 1 60 (s.get Reg.LINK_DWCFG_W)

/-- Number of the bucket that is open. -/
def State.bucketNow (s : State) : Nat := s.us / s.bucketUs

/-- The accumulator of a channel: its charges in the sixteen youngest buckets (R220). -/
def State.dwellSum (s : State) (ch : Nat) : Nat :=
  ((s.link.dwell.filter fun c => c.chan = ch && s.bucketNow < c.bucket + 16).map Charge.us).sum

/-- Every checked channel has room for `air` µs (R221). -/
def State.dwellRoom (s : State) (fmt chan air : Nat) : Bool :=
  !s.flag Reg.LINK_DWCFG_EN ||
  (dwellChans fmt chan).all fun c => s.dwellSum c + air ≤ 1000 * max 1 (s.get Reg.LINK_DWCFG_LIMIT)

/-- The charge of a transmit: nothing while EN = 0 (R223). -/
def State.chargeOf (s : State) (fmt chan : Nat) : List (Nat × Nat) :=
  if s.flag Reg.LINK_DWCFG_EN then (dwellChans fmt chan).map fun c => (c, s.bucketNow) else []

def State.charge (s : State) (cs : List (Nat × Nat)) (air : Nat) : State :=
  { s with link := { s.link with dwell := s.link.dwell ++ cs.map fun p => ⟨p.1, p.2, air⟩ } }

/-- Take one charge out of a list. -/
def unchargeOne (x : Charge) : List Charge → List Charge
  | [] => []
  | c :: r => if c = x then r else c :: unchargeOne x r

/-- A transmit cancelled before its first chip gets its charge back (R222). -/
def State.refund (s : State) (tx : Tx) : State :=
  { s with link := { s.link with
      dwell := tx.charge.foldl (fun d p => unchargeOne ⟨p.1, p.2, tx.air⟩ d) s.link.dwell } }

/-! ### Completion (R88, R167) -/

/-- Address of a queue slot (R165, Table 6-22). -/
def State.slotAddr (s : State) (q slot : Nat) : Nat := 4096 * s.get Reg.REEL_TXQBASE_ADDR + 1024 * q + 32 * slot

/-- The STAT word of an entry (Table 6-10). -/
def statWord (eng ctx port code : Nat) : Word :=
  BitVec.ofNat 32 (ctx * 2 ^ 21 + eng * 2 ^ 16 + port * 2 ^ 9 + 2 ^ 8 + code)

/-- A completion enters the originating context's FIFO, or is lost (R167). -/
def State.notify (s : State) (e : TxEntry) (stat : Word) : State :=
  let x := s.ctx e.eng e.ctx
  if !bitOf (e.words.getD 2 0) 26 || x.life != e.life || !(s.eng e.eng).run || x.st = .faulted || x.st = .halted then s
  else if 4 ≤ x.fifo.length then s.setCtx e.eng e.ctx { x with clost := true }
  else s.setCtx e.eng e.ctx ({ x with fifo := x.fifo ++ [(e.words.getD 5 0, stat)] }.latch 19)

/-- `RFE_TXSTAT` of a transmit that ends with a code (R88). -/
def State.txstat (s : State) (port code late : Nat) : State :=
  s.setReg Reg.RFE_TXSTAT (BitVec.ofNat 32 (late * 2 ^ 16 + port * 2 ^ 8 + code))

/-- An acknowledgement of lane k ends: its frame, if still held, reads the code, and ACKDONE is set (R170). -/
def State.ackEnds (s : State) (k : Nat) (a : Ack) : State :=
  let l := s.lane k
  let s := s.setLane k { l with frames := l.frames.map fun f =>
    if f.ack = .committed then { f with ack := a, ackDone := true } else f }
  s.latch (engOf k) (ctxOf k) 18

/-- A transmit completes with a code of Table 3-6 (R88, R167, R170): `RFE_TXSTAT`, the queue slot with its completion, the
context that issued TXGO, or the acknowledged frame. S − T is reported in whole µs, rounded down (R75 states no rounding: DESIGN CHOICE,
log entry 80). -/
def State.complete (s : State) (tx : Tx) (code : Nat) : State :=
  let late := match code, tx.start with
    | 0, some st => (st - tx.due) / 40
    | _, _ => 0
  let s := s.txstat tx.port code late
  let s := if (code = 1 || code = 2 || code = 3 || code = 6) && !(tx.start.isSome && s.rfe.air.isSome) then s.refund tx else s
  match tx.src with
  | .ack k life =>
    if (s.ctx (engOf k) (ctxOf k)).life = life then s.ackEnds k (.done code) else s
  | .queue e taker life =>
    let stat := statWord e.eng e.ctx tx.port code
    let a := s.slotAddr e.q e.slot
    let s := s.devWrite (a + 0x18) (leBytes 4 stat.toNat ++ leBytes 4 late)
    let s := { s with txq := s.txq.filter fun x => !(x.q = e.q && x.slot = e.slot) }
    let x := s.ctx 16 taker
    let s := if x.life = life && x.act = .txgo then
        s.setCtx 16 taker ({ x with act := .none, txgoStat := stat }.latch 31)
      else s
    s.notify e stat

/-! ### The synthesizer -/

def State.rf (s : State) (f : Rfe → Rfe) : State := { s with rfe := f s.rfe }

/-- The aerial switch while hunting: fixed when `DIV` or the fitted ports leave one port (R63, R65). -/
def State.huntDiv (s : State) : Nat :=
  if s.get Reg.RFE_SPCTL_DIV = 0 && s.fitted 0 && s.fitted 1 then 0 else 3

/-- The single path may receive: enabled, the Envelope off, the timebase on the crystal (R62, R71). -/
def State.spMay (s : State) : Bool := s.flag Reg.RFE_SPCTL_EN && s.env.st = .off && s.tb.src = .xtal

/-- The synthesizer goes to channel k: the sensor is read (R66), an in-place step comes first if the entry is not usable (R69), then
the lock. -/
def State.tuneTo (s : State) (k : Nat) (tx : Bool) : State :=
  let s := s.readDie
  if s.usable k then
    s.rf fun r => { r with st := .locking, tune := some k, locked := false, calib := none, forTx := tx }
  else
    s.rf fun r => { r with st := .cal, tune := some k, locked := false, calib := some (k, false), forTx := tx }

/-- The idle synthesizer takes its next background step, if one is due (R68). The manual states no order of the steps: channel 0 comes first,
of the entries that are not usable the lowest (DESIGN CHOICE, log entry 113). -/
def State.bgNext (s : State) : State :=
  let step := fun (s : State) k b =>
    s.rf fun r => { r with st := .cal, calib := some (k, true), forTx := false, locked := false, tune := none, bg := b }
  match s.rfe.bg with
  | .none => s
  | .all n => if n < 128 then step s n (.all (n + 1)) else s.rf fun r => { r with bg := .none }
  | .stale =>
    match s.unusable? with
    | some k => step s k .stale
    | none => s.rf fun r => { r with bg := .none }

/-- The synthesizer serves no transmit: the single path locks if it may receive, else background steps go on. -/
def State.spOrIdle (s : State) : State :=
  if s.spMay then s.tuneTo (tuneOf (s.get Reg.RFE_SPCTL_FMT) (s.get Reg.RFE_SPCTL_CHAN)) false
  else (s.rf fun r => { r with st := .idle, locked := false, tune := none, calib := none, forTx := false }).bgNext

/-- The transmit is an acknowledgement. -/
def Tx.isAck (tx : Tx) : Bool :=
  match tx.src with
  | .ack _ _ => true
  | .queue _ _ _ => false

/-- COEX_REQ and COEX_PRI of a transmit (R84): with `COEX_CTL.EN`, from LEAD µs before its first chip (Table 3-4), those of an
acknowledgement from its commit point (Table 3-5). -/
def State.reqFor (s : State) (tx : Tx) : State :=
  if s.flag Reg.COEX_CTL_EN && (tx.isAck || tx.due ≤ s.now + 40 * max 8 (s.get Reg.COEX_CTL_LEAD)) then
    s.rf fun r => { r with req := true, pri := tx.pri }
  else s

/-- Latest time at which a timed transmit may still lock (R74). -/
def Tx.deadline (tx : Tx) : Nat := tx.due + 40 * tx.tol - 320

/-- The transmitter and the COEX wires are released (R74, R79, R85): nothing is on air. -/
def State.txRelease (s : State) : State := s.rf fun r => { r with holder := none, req := false, pri := false, air := none }

/-- The wires of a transmit that has begun fall at a time after it has ended (Table 3-4, R86). FEM_TX that has not risen by then, in the
first 2 µs of TX_START, still rises at its time (DESIGN CHOICE, log entry 103). -/
def State.wiresTo (s : State) (t : Nat) : State :=
  s.rf fun r => { r with reqTo := if r.req then t else 0, priTail := r.pri, femTo := if r.femFrom.isSome then some t else none }

/-- FEM_TX is asserted (R87, Table 3-4). -/
def State.femTx (s : State) : Bool :=
  s.now < s.rfe.femPrev ||
  (match s.rfe.femFrom, s.rfe.femTo with
    | some a, some b => a ≤ s.now && s.now < b
    | some a, none => a ≤ s.now
    | none, _ => false)

/-- The window around a transmit in which FEM_RX is not asserted: from 1 µs before FEM_TX rises to 1 µs after it falls (R87). -/
def State.femWindow (s : State) : Bool :=
  s.now < s.rfe.femPrev + 40 && s.rfe.femPrev != 0 ||
  (match s.rfe.femFrom, s.rfe.femTo with
    | some a, some b => a ≤ s.now + 40 && s.now < b + 40
    | some a, none => a ≤ s.now + 40
    | none, _ => false)

/-- R83: a power value outside −20 to +12 dBm is clamped when the synthesizer is claimed. -/
def State.clampPwr (s : State) (tx : Tx) : State × Tx :=
  let p := clampI (-20) 12 tx.pwr
  (if p = tx.pwr then s else s.put Reg.RFE_STATUS_PWR_CLAMP 1, { tx with pwr := p })

/-- The RFE is powered and past STARTING. -/
def State.rfeUp (s : State) : Bool := s.flag Reg.RFE_CTL_EN && s.rfe.st != .off && s.rfe.st != .starting

/-- A write of 0 to `RFE_CTL.EN` has waited for the RFE's boundary, which is now: it applies before anything more is begun (R45, R71). -/
def State.rfeStopping (s : State) : Bool := s.flag Reg.RFE_CTL_EN && s.lastGet Reg.RFE_CTL_EN = 0 && s.atBoundary 16

/-- A transmit claims the transmitter, which is free (R72, R79): RADIO_OFF if the RFE is not up; TX_LATE if its time has passed, or if the
timebase is not on the crystal at the commit point of an acknowledgement, which cannot wait (R71, R76: DESIGN CHOICE, log entry 81);
otherwise the single path stops listening (R82) and the synthesizer turns to it. A claim that ends at once has clamped its power all the
same (R83 does not say: DESIGN CHOICE, log entry 81). -/
def State.claimNow (s : State) (tx : Tx) : State :=
  let (s, tx) := s.clampPwr { tx with claim := s.now, due := if tx.asap then s.now + 1280 else tx.due }
  if !s.rfeUp then s.complete tx 6
  else if s.tb.src != .xtal || (!tx.asap && tx.deadline ≤ s.now) then s.complete tx 1
  else
    let s := s.reqFor tx
    let busy := s.rfe.st = .cal || s.rfe.st = .locking
    let k := tuneOf tx.fmt tx.chan
    let s := s.rf fun r => { r with holder := some tx }
    if busy then s.rf fun r => { r with forTx := false }
    else ((s.tuneTo k true).abortLane 128 1 true).laneRest 128

/-- The waiting transmit that claims next (R79): due by its claim time, earliest T, then order of hand-over. One as soon as possible has
its time of hand-over for T here, since R79 orders timed ones alone (DESIGN CHOICE, log entry 82). -/
def State.nextTx (s : State) : Option Tx :=
  (s.rfe.waiting.filter fun x => x.asap || x.due ≤ s.now + 1280).foldl
    (fun o x => match o with
      | none => some x
      | some b => if x.due < b.due || (x.due = b.due && x.order < b.order) then some x else some b) none

/-- Waiting transmits claim the transmitter when it is free and the timebase on the crystal (R71, R79). Each claim that ends at
once frees it for the next. -/
def State.claimLoop (s : State) : Nat → State
  | 0 => s
  | n + 1 =>
    if s.rfe.holder.isSome || s.tb.src != .xtal || s.rfeStopping || s.quiesced 1 then s
    else match s.nextTx with
      | none => s
      | some x =>
        let s := s.rf fun r => { r with waiting := r.waiting.filter fun y => y.order != x.order }
        (s.claimNow x).claimLoop n

def State.claimWaiting (s : State) : State := s.claimLoop s.rfe.waiting.length

/-- The synthesizer has nothing in progress: waiting transmits, then the single path, then background steps. -/
def State.synthFree (s : State) : State :=
  let s := (s.rf fun r => { r with st := .idle, locked := false, tune := none, calib := none, forTx := false }).claimWaiting
  if s.rfe.holder.isSome || s.rfeStopping then s else s.spOrIdle

/-- A step or lock in progress has ended: the holder of the transmitter comes first (R73). -/
def State.synthNext (s : State) : State :=
  match s.rfe.holder with
  | some tx => s.tuneTo (tuneOf tx.fmt tx.chan) true
  | none => s.synthFree

/-- The transmit that holds the transmitter ends with a code before its first chip (R74, R85, R88): what the synthesizer does
for others goes on; a lock or an in-place step that served it alone is abandoned, the entry left as it was (the manual does not say:
DESIGN CHOICE, log entry 83). -/
def State.cancelHolder (s : State) (tx : Tx) (code : Nat) : State :=
  let s := (s.complete tx code).txRelease
  if s.rfe.forTx || s.rfe.st = .txWait then s.synthFree else s.claimWaiting

/-- A transmit is handed to the RFE (R72, R79): it claims now if its time has come and the transmitter is free, else it waits. -/
def State.handOver (s : State) (tx : Tx) : State :=
  let s := s.rf fun r => { r with waiting := r.waiting ++ [{ tx with order := r.order }], order := r.order + 1 }
  s.claimWaiting

/-! ### Blanking (R81) -/

/-- The blank begins: every lane inside a frame or an attempt aborts, hunting lanes go to BLANK, the AGCs are held at EXP = 15
(R92). -/
def State.blankStart (s : State) : State :=
  let s := s.rf fun r => { r with blank := true, blankEnd := none }
  let s := { s with env := { s.env with
      agcHeld := true
      expA := 15
      expB := 15
      blankFrom := if s.env.blankFrom.isNone then some s.now else s.env.blankFrom } }
  (s.lanes.map Prod.fst).foldl (fun s k =>
    if k = 128 then s
    else
      let s := s.abortLane k 1 true
      let l := s.lane k
      if l.st = .hunt then s.setLane k (s.restLane k) else s) s

/-- The AGCs are released (R92). -/
def State.agcFree (s : State) : State := { s with env := { s.env with agcHeld := false } }

/-- The holder's transmit is cut short in TX_START or TX with a code, and its PA is off at a time, when TX_TAIL ends and the transmitter is
released (R79, R86): the wires fall 2 µs after that, the blank ends 20 µs after it, the AGCs are released at once (R92). -/
def State.txCut (s : State) (tx : Tx) (code off : Nat) : State :=
  let s := ((s.complete tx code).wiresTo (off + 80)).agcFree
  s.rf fun r => { r with st := .txTail, req := false, pri := false, air := none, blankEnd := some (off + 800) }

/-- The PA of a transmit that was cut short is off. -/
def State.cutOff (s : State) : Bool := s.rfe.air.isNone && s.rfe.blankEnd.all (· ≤ s.now + 800)

/-- No air traffic goes on without the sample PLL (R42): a transmit in TX_START or TX ends at once. Which code of Table 3-6 it ends with the
manual does not say: one of those that end a transmit before its first chip, or any, free (DESIGN CHOICE, log entry 87). -/
def State.txStop (s : State) : State :=
  let n := Config.freeNat s.free
  match s.rfe.st, s.rfe.holder with
  | .txStart, some tx => (s.txCut tx ([1, 2, 3, 6].getD (n % 4) 6) s.now).fresh
  | .tx, some tx => (s.txCut tx (n % 7) s.now).fresh
  | _, _ => s

/-- The blank ends: lanes resume detection from scratch. -/
def State.blankStop (s : State) : State :=
  let m := match s.env.blankFrom with
    | some b => s.env.blankMask ||| subMask s.env.interval b s.now
    | none => s.env.blankMask
  let s := s.rf fun r => { r with blank := false }
  let s := { s with env := { s.env with blankFrom := none, blankMask := m } }
  (s.lanes.map Prod.fst).foldl (fun s k =>
    let l := s.lane k
    if l.st = .blank then s.setLane k (s.restLane k) else s) s

/-! ### Power of the RFE and the single path -/

/-- OFF to STARTING: enabled, sample PLL locked, start calibration over (R71, R375), the radio cluster not held quiesced (R342). -/
def State.rfeTryStart (s : State) : State :=
  if s.rfe.st = .off && s.flag Reg.RFE_CTL_EN && s.tb.pll && !s.start.rcalT && !s.quiesced 1 then
    s.rf fun r => { r with st := .starting }
  else s

/-- `RFE_CTL.EN` = 0 has applied (R71): a claimed transmit that has not reached TX_START ends with RADIO_OFF, and so do those that
waited for the transmitter and claim it now (R79). -/
def State.rfeStop (s : State) : State :=
  let s := match s.rfe.holder with
    | some tx => (s.complete tx 6).txRelease
    | none => s
  let s := s.rf fun r => { r with
    st := .off, tune := none, locked := false, calib := none, forTx := false, bg := .none, divst := 0 }
  let s := s.abortLane 128 1 true
  (s.updLane 128 { s.lane 128 with st := .off }).claimWaiting

/-- The single path stops receiving. -/
def State.spStop (s : State) : State :=
  if s.rfe.st = .spRx || ((s.rfe.st = .locking || s.rfe.st = .cal) && !s.rfe.forTx && s.rfe.holder.isNone &&
      s.rfe.tune.isSome) then
    let s := (s.rf fun r => { r with st := .idle, divst := 0 }).abortLane 128 1 true
    (s.updLane 128 { s.lane 128 with st := .off }).synthFree
  else s

/-- `RFE_SPCTL` has applied (R62, R65, R71): `old` is the word it replaced. -/
def State.spApply (s : State) (old : Word) : State :=
  if !s.flag Reg.RFE_SPCTL_EN then s.spStop
  else if s.env.st != .off then (s.put Reg.RFE_SPCTL_EN 0).put Reg.RFE_STATUS_SP_BLOCKED 1
  else if s.rfe.st = .idle then s.synthFree
  else if s.rfe.st = .spRx &&
      s.rfe.tune != some (tuneOf (s.get Reg.RFE_SPCTL_FMT) (s.get Reg.RFE_SPCTL_CHAN)) ||
      s.rfe.st = .spRx && fget old Reg.RFE_SPCTL_FMT != s.get Reg.RFE_SPCTL_FMT then
    let s := s.updLane 128 { s.lane 128 with st := .off }
    s.tuneTo (tuneOf (s.get Reg.RFE_SPCTL_FMT) (s.get Reg.RFE_SPCTL_CHAN)) false
  else if s.rfe.st = .spRx then s.rf fun r => { r with divst := s.huntDiv }
  else s

/-- The Envelope is on: the single path stops at its next safe boundary, EN clears and SP_BLOCKED is set (R62). -/
def State.spBlock (s : State) : State :=
  if s.env.st != .off && s.flag Reg.RFE_SPCTL_EN && s.atBoundary 16 then
    ((s.put Reg.RFE_SPCTL_EN 0).put Reg.RFE_STATUS_SP_BLOCKED 1).spStop
  else s

end Sys2Proof.Machine
end

