-- ==== Sys2Proof/Machine/Air.lean ====
section
/-! DEFINITION. What goes on air (chapter 5): the octets of a transmitted frame, their symbols and chips, and the offset-QPSK signal they
drive (R122 to R126, R131, R133 to R136). -/

namespace Sys2Proof.Machine

/-! ### Chip sequences -/

/-- Table 5-2, the Hex column: c0 is the most significant bit. -/
def nSeqs : List Word :=
  [0xD3A27961, 0x86F72C34, 0xE0914A52, 0xB5C41F07, 0xDCAD766E, 0x89F8233B, 0xEF9E455D, 0xBACB1008] ++
  [0xD35D799E, 0x86082CCB, 0xE06E4AAD, 0xB53B1FF8, 0xDC527691, 0x890723C4, 0xEF6145A2, 0xBA3410F7]

/-- The sequence of S-mode symbol 0, c0 first. R133 takes the S-mode sequences from the standard (PRESUMED, log entry 88). -/
def sSeq0 : Word := 0xD9C3522E

/-- The S-mode sequence of symbol n (R133): symbols 1 to 7 are symbol 0 delayed by 4 chips each, symbols 8 to 15 are symbols 0 to 7 with the
odd-numbered chips inverted. -/
def sSeq (n : Nat) : Word :=
  let w := sSeq0.rotateRight (4 * (n % 8))
  if n % 16 < 8 then w else w ^^^ 0x55555555

/-- Chip i of symbol n in a format (Table 5-1). -/
def chipOf (fmt n i : Nat) : Bool :=
  let w := if fmt = 1 then sSeq n else nSeqs.getD (n % 16) 0
  w.getLsbD (31 - i % 32)

/-- Chip i of symbol n by the construction of chapter 5: the cover s_0 and a Walsh row of length 16 (R122). -/
def walshChip (n i : Nat) : Bool :=
  let x := n &&& (i % 16)
  chipOf 0 0 i != ((x.testBit 0 != x.testBit 1) != (x.testBit 2 != x.testBit 3))

/-! ### Octets and symbols -/

/-- The symbols of octets in the order they are sent: bits [3:0] first (R123). -/
def symbolsOf (os : List Byte) : List Nat := os.flatMap fun b => [b.toNat % 16, b.toNat / 16]

/-- Preamble and SFD of a format (Table 5-3, R133). -/
def syncOctets (fmt : Nat) : List Byte := [0, 0, 0, 0, if fmt = 1 then 0xA7 else 0x5C]

/-- The PHR that the modulator sends, reserved bits 0 (Table 5-4, R128, R134). -/
def phrOctets (fmt : Nat) (crct : Bool) (len : Nat) : List Byte :=
  if fmt = 1 then leBytes 1 (len % 128) else leBytes 2 (len % 256 + 256 * b2n crct)

/-- The frame of a transmit: preamble, SFD and PHR from the modulator, then the PSDU with its FCS (R126, R131, R133). -/
def Tx.frame (tx : Tx) : List Byte := syncOctets tx.fmt ++ phrOctets tx.fmt tx.crct tx.octets.length ++ tx.octets

/-- What the holder of the transmitter puts on air from its first chip on. -/
def Tx.emission (tx : Tx) (start : Nat) : Emission := ⟨start, tx.fmt, tuneOf tx.fmt tx.chan, tx.port, tx.pwr, tx.frame⟩

/-! ### Chips and the signal (R124) -/

/-- Chip period in ticks (Table 5-1). -/
def chipTicks (fmt : Nat) : Nat := if fmt = 1 then 20 else 80

/-- The symbols of a frame on air. -/
def Emission.symbols (e : Emission) : List Nat := symbolsOf e.octets

/-- Number of chips of a frame. -/
def Emission.count (e : Emission) : Nat := 32 * e.symbols.length

/-- Chip number i, counted from the first chip of preamble symbol 0, 32 to a symbol. -/
def Emission.chip (e : Emission) (i : Nat) : Bool := chipOf e.fmt (e.symbols.getD (i / 32) 0) i

/-- End of the last chip (R125, R136). -/
def Emission.lastChip (e : Emission) : Nat := e.start + chipTicks e.fmt * e.count

/-- Centre of narrow channel k in Hz; S-mode channel 11 + m has that of channel 8m + 5 (R93, R135). -/
def chanHz (k : Nat) : Nat := 2401875000 + 625000 * k

/-- A component of the baseband signal at one moment: none, or a half-sine pulse, positive for chip value 1, at `part` of `whole` ticks of
its length, where it stands at ± sin(π · part / whole). -/
structure Pulse where
  positive : Bool
  part : Nat
  whole : Nat
  deriving DecidableEq, Repr

/-- The pulse of the chips i with i % 2 = `odd` that is on at time t: even-numbered chips drive I, odd-numbered ones Q; chip i lasts from
i · Tc to (i + 2) · Tc. -/
def Emission.pulse (e : Emission) (odd t : Nat) : Option Pulse :=
  let tc := chipTicks e.fmt
  let d := t - e.start
  let i := (d - odd * tc) / (2 * tc) * 2 + odd
  if e.start + odd * tc ≤ t && i < e.count then some ⟨e.chip i, d - i * tc, 2 * tc⟩ else none

/-- The in-phase and the quadrature component at time t. -/
def Emission.signal (e : Emission) (t : Nat) : Option Pulse × Option Pulse := (e.pulse 0 t, e.pulse 1 t)

end Sys2Proof.Machine
end

