-- ==== Sys2Proof/Machine/Engine.lean ====
section
/-! DEFINITION. Reel engines starting and stopping (R144, R145, R182), context faults (R177 to R181), lane groups and the Envelope
starting and stopping (R110 to R119), the replay write-through (R236). -/

namespace Sys2Proof.Machine

/-! ### Contexts -/

/-- Identity of a context (R144). -/
def ident (e c : Nat) : Nat := if e = 16 then 128 + c else 8 * e + c

/-- The state in which a context starts (R144). -/
def Ctx.fresh (x : Ctx) (e c : Nat) : Ctx :=
  { Ctx.reset with
    st := .ready
    v := [BitVec.ofNat 32 (ident e c), 0, 0, 0, 0, 0, 0, 0]
    life := x.life + 1 }

/-- An engine starts: every context at step 0; the start waits during the replay mirror load (R144, R376), and while the radio cluster is held
quiesced for a sleep entry (R342). -/
def State.engStart (s : State) (e : Nat) : State :=
  if s.start.rxbusy || s.quiesced 1 then s.setEng e { s.eng e with wantStart := true }
  else
    let s := s.setEng e ⟨true, false, false, nctx e - 1⟩
    forN (nctx e) (fun s c => s.setCtx e c ((s.ctx e c).fresh e c)) s

/-- An engine stops: a context that was FAULTED keeps CAUSE, FATAL and PC, one that was HALTED its PC (R145). -/
def State.engStop (s : State) (e : Nat) : State :=
  let s := s.setEng e { s.eng e with run := false, stopping := false, wantStart := false }
  forN (nctx e) (fun s c =>
    let x := s.ctx e c
    if x.st = .faulted || x.st = .halted then s
    else s.setCtx e c { x with st := .stopped, timer := none, wait := .none, act := .none, urg := false }) s

/-- The lane of a context goes OFF: frames and attempt end, held acknowledgements are withdrawn, and so is a committed one whose
TX_START has not begun, which frees the transmitter (R177 step 4, R233). -/
def State.muteLane (s : State) (e c : Nat) : State :=
  match s.laneOf e c with
  | none => s
  | some k =>
    let s := match s.rfe.holder with
      | some tx =>
        (match tx.src with
          | .ack k' _ =>
            if k' = k && !(s.rfe.st == RfeSt.txStart || s.rfe.st == RfeSt.tx || s.rfe.st == RfeSt.txTail) then
              let fr := s.rfe.forTx || s.rfe.st == RfeSt.txWait
              let s := (s.refund tx).txRelease
              if fr then s.synthFree else s.claimWaiting
            else s
          | .queue _ _ _ => s)
      | none => s
    s.silence k

/-- The Ballast words of RXNEXT that a context's own ST has not yet carried through (R236). -/
def State.thruPending (s : State) (e c : Nat) : Bool := s.link.thru.any fun p => p.2.1 = e && p.2.2 = c

/-- PEERFLT reaches every other context of the engine (R177 step 5). -/
def State.peerFault (s : State) (e c : Nat) : State :=
  forN (nctx e) (fun s d => if d = c then s else s.latch e d 30) s

/-- A context fault with cause `cause` (R177, R179): `REEL_LASTF`, PEERFLT, the record, and a Ripcord cause if it is fatal. -/
def State.faultCtx (s : State) (e c cause : Nat) : State :=
  let fatal := s.get Reg.REEL_FATALE_ENG |>.testBit e
  let fatal := fatal && bitOf (s.reg Reg.REEL_FATALC) cause
  let x := s.ctx e c
  let s := s.setCtx e c { x with
    st := .faulted, cause := cause, fatal := fatal, timer := none, act := .none, wait := .none, urg := false, resume := false }
  let s := (s.muteLane e c).peerFault e c
  let w := BitVec.ofNat 32 (cause * 2 ^ 28 + e * 2 ^ 20 + c * 2 ^ 16 + b2n fatal * 2 ^ 15 + x.pc)
  let s := (s.setReg Reg.REEL_LASTF w).postTo .c0 136 w 0
  if fatal then { s with start := { s.start with req := s.start.req ||| 0x400 } } else s

/-- A context is restarted alone (R180). -/
def State.restartCtx (s : State) (e c : Nat) : State :=
  let x := s.ctx e c
  let s := if x.st = .faulted || x.st = .halted then s else s.muteLane e c
  let s := s.setCtx e c ((s.ctx e c).fresh e c)
  match s.laneOf e c with
  | some k => s.laneRest k
  | none => s

/-- HALT (R181): the lane goes OFF as for a fault. R177 step 3 cancels the timer and the outstanding ARM action of a context that faults;
R181 does not say whether HALT does, and here it does (DESIGN CHOICE, log entry 108). -/
def State.haltCtx (s : State) (e c : Nat) : State :=
  let s := s.muteLane e c
  s.setCtx e c { s.ctx e c with st := .halted, urg := false, wait := .none, timer := none, act := .none, steps := 0 }

/-! ### Lane groups -/

/-- Lanes 8g to 8g + 7 take the state that their group leaves them (R110, R118, R119). -/
def State.groupRest (s : State) (g : Nat) : State :=
  forN 8 (fun s i =>
    let l := s.lane (8 * g + i)
    if l.st = .preamble || l.st = .frame then s else s.updLane (8 * g + i) (s.restLane (8 * g + i))) s

/-- A group starts: its engine, then its lanes in HUNT (R110, R119). -/
def State.groupStart (s : State) (g : Nat) : State := (s.engStart g).groupRest g

/-- A group has stopped (R118): engine halted, lanes OFF. -/
def State.groupStop (s : State) (g : Nat) : State := (s.engStop g).groupRest g

/-- Start every group within the span whose HOLD is 0 (R110). -/
def State.groupsStart (s : State) : State :=
  forN 16 (fun s g => if s.inSpan g && !s.held g && !(s.eng g).run then s.groupStart g else s) s

/-- The group has nothing in progress (R118 step 3). -/
def State.groupDone (s : State) (g : Nat) : Bool := (s.eng g).run && s.groupQuiet g

/-- Release of one group (R119). -/
def State.groupFree (s : State) (g : Nat) : State :=
  if (s.env.st = .run || s.env.st = .survey) && s.inSpan g then
    (if (s.eng g).run then s.groupRest g else s.groupStart g)
  else s

/-- Set HOLD of the groups in a mask (R118): hunting lanes go OFF at once. -/
def State.holdGroups (s : State) (m : Nat) : State :=
  let s := s.setReg Reg.ENV_GHOLD_SET (s.reg Reg.ENV_GHOLD_SET ||| BitVec.ofNat 32 (m % 65536))
  forN 16 (fun s g => if m.testBit g then s.groupRest g else s) s

/-- Clear HOLD of the groups in a mask (R119). -/
def State.freeGroups (s : State) (m : Nat) : State :=
  let old := s.get Reg.ENV_GHOLD_SET_HOLD
  let s := s.setReg Reg.ENV_GHOLD_SET (s.reg Reg.ENV_GHOLD_SET &&& ~~~BitVec.ofNat 32 (m % 65536))
  forN 16 (fun s g => if m.testBit g && old.testBit g then s.groupFree g else s) s

/-- The loader is in COPY or CHECK of engine e (R190). -/
def State.loading (s : State) (e : Nat) : Bool := (s.ldr.phase = .copy || s.ldr.phase = .check) && s.ldr.eng = e

/-- A write to `ENV_GHOLD_CLR` (R119): the group under COPY or CHECK is left alone, and CLRIGN reports it (R190). -/
def State.releaseGroups (s : State) (m : Nat) : State :=
  let e := s.ldr.eng
  if s.loading e && e < 16 && m.testBit e then (s.put Reg.REEL_LDSTAT_CLRIGN 1).freeGroups (m - 2 ^ e)
  else s.freeGroups m

/-! ### The Envelope -/

/-- The effective chains (R107): CHAINS with the fitted ports; if none, chain A when RFA is fitted and chain B otherwise. -/
def State.chains (s : State) : Nat :=
  let m := s.get Reg.ENV_CFG_CHAINS &&& (b2n (s.fitted 0) + 2 * b2n (s.fitted 1))
  if m = 0 then (if s.fitted 0 then 1 else 2) else m

/-- Sample tap of the setting (R109, Table 4-7), coded as `PWR_DVFSSTAT.STAP`. -/
def State.tapOf (s : State) : Nat :=
  match s.get Reg.ENV_CFG_BW with
  | 1 => 1
  | 2 => 2
  | _ => 0

/-- The Envelope is switched on (R110): STARTING, or XWAIT while the timebase is on the FIO or the sample PLL unlocked. In XWAIT no chain
is in use yet and `ENV_STATUS.ACTIVE` reads 0: the manual does not say what it reads there (DESIGN CHOICE, log entry 86). A blank in progress
holds the AGCs from the start on (R92); otherwise they begin at EXP = 0, for which the manual gives no value (DESIGN CHOICE, log entry
105). -/
def State.envOn (s : State) : State :=
  if s.airClock then
    let e := if s.env.agcHeld then 15 else 0
    let s := { s with env := { s.env with st := .starting, active := s.chains, expA := e, expB := e } }
    { s with pwr := { s.pwr with stap := s.tapOf } }
  else { s with env := { s.env with st := .xwait, active := 0 } }

/-- STATE becomes OFF (R111, R112): the tap falls, lane states and VALID of every channel are lost. A blank goes on (R81, R92). -/
def State.envOff (s : State) : State :=
  let s := { s with env := { s.env with
      st := .off, active := 0, survWait := false, clips := 0, busy := [], blankMask := 0, expA := 0, expB := 0 } }
  let s := { s with pwr := { s.pwr with stap := 3 } }
  let s := forN 128 (fun s k => s.put (Reg.ENV_NF_VALID k) 0) s
  forN 16 State.groupRest s

/-- `ENV_CTL` has applied (R110, R111, R114): `old` is the word it replaced. During start calibration a 1 in EN waits for its
end (R375), and for that of a sleep entry for which the radio cluster is held quiesced (R342). -/
def State.envApply (s : State) (old : Word) : State :=
  let s :=
    if s.flag Reg.ENV_CTL_EN then
      (if s.env.st = .off then
        (if s.start.rcalT then { s with start := { s.start with deferEnv := true } } else if s.quiesced 1 then s else s.envOn)
      else s)
    else
      let s := { s with start := { s.start with deferEnv := false } }
      if s.env.st = .off then s
      else forN 16 State.groupRest { s with env := { s.env with st := .stopping, survWait := false } }
  if s.flag Reg.ENV_CTL_SURVEY then
    (if s.env.st = .run then forN 16 State.groupRest { s with env := { s.env with survWait := true } } else s)
  else if bitOf old 1 && (s.env.st = .run || s.env.st = .survey) then
    forN 16 State.groupRest { s with env := { s.env with st := .run, survWait := false } }
  else s

/-- Engine starts that waited proceed (R342, R376). -/
def State.waitedStarts (s : State) : State :=
  forN 17 (fun s e =>
    if (s.eng e).wantStart then
      let s := s.setEng e { s.eng e with wantStart := false }
      if e = 16 then (if s.flag Reg.REEL_E16CTL_RUN then s.engStart 16 else s)
      else if (s.env.st = .run || s.env.st = .survey) && s.inSpan e && !s.held e then s.groupStart e else s
    else s) s

/-! ### Replay write-through (R236) -/

/-- Index of the neighbour entry whose RXNEXT word holds address `a`. -/
def rxnextOf (a : Nat) : Option Nat :=
  if 0x21020000 ≤ a ∧ a < 0x21030000 ∧ (a - 0x21020000) % 64 / 4 = 4 then some ((a - 0x21020000) / 64) else none

/-- The Ballast word of an entry. -/
def rxWord (n : Nat) : Nat := 0x2207E000 + 4 * n

/-- RXNEXT of entry n goes to its Ballast word. -/
def State.carryThru (s : State) (n : Nat) : State :=
  { s.setWord (rxWord n) (s.word (0x21020000 + 64 * n + 0x10)) with
    memc := { s.memc with bad := s.memc.bad.filter (fun a => a != rxWord n) } }

end Sys2Proof.Machine
end

