-- ==== Sys2Proof/Machine/Banks.lean ====
section
/-! DEFINITION. Bank power and test (R266 to R274) and core voltage and pace (R349 to R351), as far as a register applying, a start
or a sleep mode sets them off. -/

namespace Sys2Proof.Machine

/-- Some Reel engine runs. -/
def State.anyEngine (s : State) : Bool := (List.range 17).any fun e => (s.eng e).run

/-- A bank's size (R264). -/
def bankSize : Nat := 0x10000

/-- The request field of bank b (Table 11-9). -/
def bankReq (b : Nat) : Field :=
  if b < 16 then ⟨Reg.MEMC_BANKCTL, 2 * b, 2⟩ else ⟨Reg.MEMC_RBANKCTL, 2 * (b - 16), 2⟩

/-- Code of a bank state (Table 11-10). -/
def BankSt.code : BankSt → Nat
  | .on => 0
  | .ret => 1
  | .off => 2
  | .test => 3

def bankOfCode (n : Nat) : BankSt :=
  match n with
  | 0 => .on
  | 1 => .ret
  | _ => .off

/-- A bank reaches a state: entering OFF loses its contents (R266), and both cores' caches hold no line of it (R269). -/
def State.bankReach (s : State) (b : Nat) (v : BankSt) : State :=
  let s := s.setBank b v
  if v = .off then (s.lose (bankBase b) bankSize).invalidateBoth (bankBase b) bankSize else s

/-- A bank begins to move to the state requested, or stays where it is. One marked bad is held OFF, one under test is left alone
(R271, R272). -/
def State.bankMove (s : State) (b : Nat) (v : BankSt) : State :=
  if s.bankBad b || s.bank b = .test then s
  else
    { s with memc := { s.memc with
        trans := (s.memc.trans.filter fun p => p.1 != b) ++ (if s.bank b = v then [] else [(b, v)]) } }

/-- The bits of a register that waiting writes change. -/
def waitMask (ws : List WaitW) (a : Nat) : Word := (ws.filter fun w => w.addr = a).foldl (fun m w => m ||| w.mask) 0

/-- A bank is asked for a state; a memory cluster held quiesced for a sleep entry holds the request back (R342). -/
def State.bankAsk (s : State) (b : Nat) (v : BankSt) : State :=
  if s.quiesced 4 then { s with memc := { s.memc with asked := (s.memc.asked.filter fun p => p.1 != b) ++ [(b, v)] } }
  else s.bankMove b v

/-- `MEMC_BANKCTL` or `MEMC_RBANKCTL` has applied to banks `lo` to `lo + n - 1`, in the fields that `m` says were written (R266, R268): a
request acts although the field held it before, and a radio-memory bank does not change to RET or OFF while an engine runs. -/
def State.bankApply (s : State) (old m : Word) (lo n : Nat) : State :=
  forN n (fun s i =>
    let b := lo + i
    let now := s.get (bankReq b)
    if bitsOf m (2 * i) 2 = 0 then s
    else if 16 ≤ b && now != 0 && bankOfCode now != s.bank b && s.anyEngine then (s.put (bankReq b) (bitsOf old (2 * i) 2)).put Reg.MEMC_STATUS_RDENY 1
    else s.bankAsk b (bankOfCode now)) s

/-- Every bank at once takes the state of a sleep entry or a wake (R270). -/
def State.banksTo (s : State) (f : Nat → BankSt) : State :=
  let s := { s with memc := { s.memc with trans := [], asked := [] } }
  forN 20 (fun s b => if s.bankBad b || s.bank b = f b then s else s.bankReach b (f b)) s

/-- Retained on entry to STANDBY and HOVER (R270, Table 11-12). -/
def State.retained (s : State) (b : Nat) : Bool := bitOf (s.reg Reg.MEMC_RETSEL) b

/-- A bank that passed a test or was repaired: ON, every word 0 (R271, R273). -/
def State.bankZero (s : State) (b : Nat) : State := (s.clearRange (bankBase b) bankSize).setBank b .on

/-- Spare columns of a bank that no repair has taken, of its four (R271): those that fuses took count, though a start resets what
`MEMC_REPAIR` shows of them. -/
def State.spares (s : State) (b : Nat) : Nat :=
  4 - (sget (fun _ => 0) s.memc.fused b + s.get (Reg.MEMC_REPAIR_SOFT b))

/-- A bank whose test failed is marked and held OFF (R271, R273). -/
def State.bankFail (s : State) (b : Nat) : State :=
  ((s.setReg Reg.MEMC_BAD (s.reg Reg.MEMC_BAD ||| ((1 : Word) <<< b))).setBank b .off).lose (bankBase b) bankSize

/-! ### Ballast words that are not whole (R276) -/

/-- A Ballast word known to be uncorrectable. -/
def State.nvBad (s : State) (a : Nat) : Bool := s.memc.bad.contains a

/-- A Ballast read finds word `a` uncorrectable (R276). -/
def State.ballastUe (s : State) (a : Nat) : State :=
  let s := ((s.count Reg.MEMC_BCNT_UE).put Reg.MEMC_STATUS_BUE 1).setReg Reg.MEMC_BERR (BitVec.ofNat 32 a)
  { s.postTo .c0 146 (BitVec.ofNat 32 a) 2 with memc := { s.memc with bad := if s.nvBad a then s.memc.bad else s.memc.bad ++ [a] } }

/-- The device itself reads `n` bytes of Ballast: each word known to be uncorrectable is reported (R276). -/
def State.nvSee (s : State) (a n : Nat) : State :=
  (s.memc.bad.filter fun x => a ≤ x && x < a + n).foldl State.ballastUe s

/-! ### Core voltage and pace (R349 to R351): level and pace codes rise as voltage and pace fall -/

/-- The level VCORE is at or moving to. -/
def Pwr.vgoal (p : Pwr) : Nat := p.vto.getD p.vcur

/-- The pace in force or about to be. -/
def Pwr.pgoal (p : Pwr) : Nat := p.pnext.getD p.pcur

/-- Set the goals in the safe order: the pace falls at once, before the voltage; it rises only once VCORE has settled. A level from which
VCORE is moving away is one that it has to reach again (R349, R351). -/
def Pwr.goTo (p : Pwr) (v pace : Nat) : Pwr :=
  let p := { p with vto := if v = p.vcur && p.vto.isNone then none else some v, vset := v, pset := pace }
  if p.pcur ≤ pace || (p.vto.isNone && p.vcur ≤ pace) then { p with pcur := pace, pnext := none }
  else { p with pnext := some pace }

/-- Level and pace are asked for (R350): a request that would break R349 is held. -/
def Pwr.ask (w : Pwr) (v p : Nat) : Pwr :=
  let w := { w with vheld := none, pheld := none }
  if v ≤ p then w.goTo v p
  else if w.vgoal ≤ p then { w.goTo w.vgoal p with vheld := some v }
  else if v ≤ w.pgoal then { w.goTo v w.pgoal with pheld := some p }
  else { w with vheld := some v, pheld := some p }

/-- On a wake VCORE rises to VSEL, then PACE is set (R351); a request that is held stays held (R350). -/
def Pwr.woken (p : Pwr) : Pwr := { p with vcur := p.vset, vto := none, pcur := p.pset, pnext := none }

/-- `PWR_DVFS` has applied (R350). In a sleep mode VCORE stays where the mode has it, and what is asked for is carried out on the wake
(R351). -/
def State.dvfsApply (s : State) : State :=
  let v := s.get Reg.PWR_DVFS_VSEL
  let p := s.get Reg.PWR_DVFS_PACE
  let w := if s.awake then s.pwr.ask v p
    else
      let r := s.pwr.woken.ask v p
      { s.pwr with vset := r.vset, pset := r.pset, vheld := r.vheld, pheld := r.pheld }
  { s with pwr := w }

/-- VCORE has settled at the level it was moving to; the pace that waited for it follows (R351). -/
def Pwr.settled (p : Pwr) : Pwr :=
  let p := { p with vcur := p.vgoal, vto := none }
  match p.pnext with
  | some n => if p.vcur ≤ n then { p with pcur := n, pnext := none } else p
  | none => p

end Sys2Proof.Machine
end

