-- ==== Sys2Proof/Machine/Calendar.lean ====
section
/-! DEFINITION. The RTC (chapter 15): the calendar view of the count (R360 to R362), trim (R369, R370), adjustments and alarms
(R363 to R368), the Ballast snapshot record (R372). -/

namespace Sys2Proof.Machine

/-! ### Calendar -/

/-- Leap years (R360). -/
def leap (y : Nat) : Bool := (y % 4 = 0 && y % 100 != 0) || y % 400 = 0

/-- Days of a month (R360). -/
def monthDays (y m : Nat) : Nat :=
  if m = 2 then (if leap y then 29 else 28) else if m = 4 ∨ m = 6 ∨ m = 9 ∨ m = 11 then 30 else 31

/-- Days from 2000-01-01 to the first day of year 2000 + n. -/
def daysToYear (n : Nat) : Nat := 365 * n + (n + 3) / 4 - (n + 99) / 100 + (n + 399) / 400

/-- Days of year y before month m. -/
def daysToMonth (y m : Nat) : Nat := ((List.range (m - 1)).map fun i => monthDays y (i + 1)).sum

/-- A date and time of day. -/
structure Cal where
  year : Nat
  month : Nat
  day : Nat
  hour : Nat
  min : Nat
  sec : Nat
  deriving DecidableEq, Repr

/-- A calendar value is valid (R360). -/
def Cal.valid (c : Cal) : Bool :=
  2000 ≤ c.year && c.year ≤ 2399 && 1 ≤ c.month && c.month ≤ 12 && 1 ≤ c.day && c.day ≤ monthDays c.year c.month &&
  c.hour ≤ 23 && c.min ≤ 59 && c.sec ≤ 59

/-- The count of a valid calendar value (R356). -/
def Cal.count (c : Cal) : Nat :=
  (daysToYear (c.year - 2000) + daysToMonth c.year c.month + (c.day - 1)) * 86400 + c.hour * 3600 + c.min * 60 + c.sec

/-- Last count with a calendar form. -/
def calMax : Nat := 12622780799

/-- The calendar form of a count up to `calMax` (R362). -/
def Cal.ofCount (n : Nat) : Cal :=
  let d := n / 86400
  let y := ((List.range 400).filter fun i => daysToYear i ≤ d).length - 1
  let r := d - daysToYear y
  let m := ((List.range 12).filter fun i => daysToMonth (2000 + y) (i + 1) ≤ r).length
  ⟨2000 + y, m, r - daysToMonth (2000 + y) m + 1, n / 3600 % 24, n / 60 % 60, n % 60⟩

/-- Weekday of a count: 0 Monday to 6 Sunday; day 0 is a Saturday (R360). -/
def wday (n : Nat) : Nat := (n / 86400 + 5) % 7

/-- Date and time words of a calendar value (Tables 15-5, 15-6). -/
def Cal.words (c : Cal) (wd : Nat) : Word × Word :=
  (BitVec.ofNat 32 (wd * 2 ^ 28 + c.year * 2 ^ 16 + c.month * 2 ^ 8 + c.day),
   BitVec.ofNat 32 (c.hour * 2 ^ 16 + c.min * 2 ^ 8 + c.sec))

/-- The value in `RTC_CALDATE` and `RTC_CALTIME`. -/
def State.calIn (s : State) : Cal :=
  ⟨s.get Reg.RTC_CALDATE_YEAR, s.get Reg.RTC_CALDATE_MONTH, s.get Reg.RTC_CALDATE_DAY,
   s.get Reg.RTC_CALTIME_HOUR, s.get Reg.RTC_CALTIME_MIN, s.get Reg.RTC_CALTIME_SEC⟩

/-- The value in `RTC_SETSEC_HI` and `RTC_SETSEC_LO`. -/
def State.setSec (s : State) : Nat := s.get Reg.RTC_SETSEC_HI_VAL * 2 ^ 32 + (s.reg Reg.RTC_SETSEC_LO).toNat

/-! ### Alarms (R365 to R367) -/

def State.almTime (s : State) (n : Nat) : Nat :=
  s.get (Reg.RTC_ALM_HI_VAL n) * 2 ^ 32 + (s.reg (Reg.RTC_ALM_LO n)).toNat

def State.setAlm (s : State) (n v : Nat) : State :=
  (s.setReg (Reg.RTC_ALM_LO n) (BitVec.ofNat 32 v)).put (Reg.RTC_ALM_HI_VAL n) (v / 2 ^ 32)

/-- The alarm's next time (R365, R366): with the count at c after firing, the smallest ALM + k·PER above c. -/
def alarmNext (alm per c : Nat) : Nat := if c < alm then alm else alm + ((c - alm) / per + 1) * per

/-- Alarm n fires with the count at `c` (R365, R366). The event outputs of both alarms are published together by the caller. The high payload
word repeats bits [15:0] of the time, as R365 words it (DEDUCED, log entry 101). -/
def State.almFire (s : State) (n c : Nat) (adj : Bool) : State :=
  let t := s.almTime n
  let per := (s.reg (Reg.RTC_ALMPER n)).toNat
  let s := (s.put (Reg.RTC_ALMCTL_FIRED n) 1).put (Reg.RTC_ALMCTL_ALARM_BY_ADJUST n) (b2n adj)
  let s := if per = 0 then s.put (Reg.RTC_ALMCTL_ARM n) 0 else s.setAlm n (alarmNext t per c % 2 ^ 48)
  let s := { s with pwr := { s.pwr with wakeReq := s.pwr.wakeReq ||| (4 <<< n) } }
  if s.pwr.forced = some 0 then s
  else s.postBoth (150 + n) (BitVec.ofNat 32 t) (BitVec.ofNat 32 (t % 2 ^ 16 + b2n adj * 2 ^ 31))

/-- No event of a hardware output has come at this instant: firmware's adjustment of the time, which carries none, is one of its own. -/
def State.evlFresh (s : State) (adj : Bool) : State := if adj then { s with evl := ⟨s.now, []⟩ } else s

/-- The alarms that fire fire, and their event outputs 4 and 5 with them (R365, Table 13-2). -/
def State.almFireAll (s : State) (hits : List Nat) (c : Nat) (adj : Bool) : State :=
  let s := hits.foldl (fun s n => s.almFire n c adj) s
  if s.pwr.forced = some 0 then s else (hits.foldl (fun s n => s.output (4 + n) 0) (s.evlFresh adj)).evlFresh adj

/-- The trim in force. -/
def State.trim (s : State) : Int := toSigned 16 (s.get Reg.RTC_TRIM_TRIM)

/-- How often the accumulator has passed its limit after n cycles: up for a positive trim, down for a negative one (R369). -/
def trimCarries (acc trim : Int) (n : Nat) : Int :=
  if 0 ≤ trim then max 0 ((acc + n * trim) / 20000000) else -max 0 ((-acc + n * -trim) / 20000000)

/-- Cycles of the 32.768 kHz crystal since the fraction stood as it is held: each is INC/65536 ticks long, as the carry counts them and
LFCAL measures them (R195, R196; log entry 92). -/
def State.rtcCycles (s : State) : Nat := if s.rtc.running then 65536 * (s.now - s.rtc.since) / s.inc else 0

/-- The fraction now (R356, R369): it stands at 0xFFFF until the second boundary has come. -/
def State.rtcFrac (s : State) : Nat :=
  let n := s.rtcCycles
  min 65535 ((s.rtc.frac : Int) + 2 * n + 2 * trimCarries s.rtc.acc s.trim n).toNat

/-- Fraction and accumulator as they stand now, before something changes how they run (R369). -/
def State.rtcSync (s : State) : State :=
  let n := s.rtcCycles
  { s with rtc := { s.rtc with
      frac := s.rtcFrac
      acc := s.rtc.acc + n * s.trim - 20000000 * trimCarries s.rtc.acc s.trim n
      since := if s.rtc.running then s.rtc.since + n * s.inc / 65536 else s.now } }

/-- A change of the count other than by 1 (R366, R367). -/
def State.rtcAdjust (s : State) (c' : Nat) : State :=
  let c := s.rtc.sec
  let s := { s with rtc := { s.rtc with sec := c' } }
  let hits := [0, 1].filter fun n => s.flag (Reg.RTC_ALMCTL_ARM n) && c < s.almTime n && s.almTime n ≤ c'
  s.almFireAll hits c' true

/-- SET and CALSET (R363). -/
def State.rtcSetTo (s : State) (c frac : Nat) : State :=
  let s := s.rtcAdjust c
  let s := s.put Reg.RTC_STATUS_TIME_SUSPECT 0
  { s with rtc := { s.rtc with frac := frac, acc := 0, hour := none, snap := true, since := s.now } }

/-! ### Trim (R369, R370) -/

/-- Load a trim value, clamped (R369). -/
def State.trimLoad (s : State) (v : Int) : State :=
  let c := clampI (-10000) 10000 v
  let s := s.put Reg.RTC_TRIM_TRIM (ofSigned 16 c)
  if c = v then s else s.put Reg.RTC_STATUS_TRIMCLAMP 1

/-- Cycles until the fraction next wraps: each adds 2, and each carry of the accumulator 2 more or less (R369). -/
def cyclesToWrap (frac : Nat) (acc trim : Int) : Nat :=
  let base := (65536 - frac) / 2
  (((List.range 42).map fun i => base - 20 + i).find? fun n =>
    decide ((65536 : Int) ≤ frac + 2 * n + 2 * trimCarries acc trim n)).getD (base + 1)

/-- Fraction and accumulator at the wrap. -/
def Rtc.wrap (r : Rtc) (trim : Int) : Rtc :=
  let n := cyclesToWrap r.frac r.acc trim
  let k := trimCarries r.acc trim n
  { r with frac := ((r.frac : Int) + 2 * n + 2 * k - 65536).toNat, acc := r.acc + n * trim - 20000000 * k }

/-! ### The Ballast snapshot (R372, R373) -/

def snapAddr (seq : Nat) : Nat := 0x2207D100 + 32 * (seq % 2)

/-- A snapshot record in Ballast, as eight words, if its CRC is right (R372). -/
def State.snapRead (s : State) (i : Nat) : Option (List Word) :=
  let a := 0x2207D100 + 32 * i
  let ws := (List.range 8).map fun k => s.word (a + 4 * k)
  let bad := (List.range 8).any fun k => s.memc.bad.contains (a + 4 * k)
  if !bad && crc32c (s.bytes a 28) = ws.getD 7 0 then some ws else none

/-- The newest valid record (R372, R373). -/
def State.snapNewest (s : State) : Option (List Word) :=
  match s.snapRead 0, s.snapRead 1 with
  | none, r => r
  | r, none => r
  | some a, some b => if (a.getD 0 0).toNat < (b.getD 0 0).toNat then some b else some a

/-- Words 0 to 6 of the record that carries the present count (R372). -/
def State.snapWords (s : State) (seq : Nat) : List Word :=
  let tr := BitVec.ofNat 31 (ofSigned 31 s.trim)
  [BitVec.ofNat 32 seq, BitVec.ofNat 32 s.rtc.sec, BitVec.ofNat 32 (s.rtc.sec / 2 ^ 32 % 65536 + s.rtcFrac * 65536),
   BitVec.ofNat 32 (tr.toNat + s.get Reg.RTC_TRIM_AUTO * 2 ^ 31), 0, 0, 0]

/-- The snapshot that is due is written. -/
def State.snapWrite (s : State) : State :=
  let seq := match s.snapNewest with | some r => ((r.getD 0 0).toNat + 1) % 2 ^ 32 | none => 0
  let ws := s.snapWords seq
  let a := snapAddr seq
  let ws := ws ++ [crc32c (ws.flatMap fun w => leBytes 4 w.toNat)]
  let s := (s.nvSee 0x2207D100 64).setWords a ws
  { s with
    rtc := { s.rtc with snap := false }
    memc := { s.memc with bad := s.memc.bad.filter fun x => !(a ≤ x && x < a + 32) } }

/-- Count, fraction, trim and AUTO from the newest valid record (R373). -/
def State.snapRestore (s : State) : State :=
  let s := (s.nvSee 0x2207D100 64).put Reg.RTC_STATUS_TIME_SUSPECT 1
  match s.snapNewest with
  | none => s
  | some r =>
    let w2 := r.getD 2 0
    let w3 := r.getD 3 0
    let s := { s with rtc := { s.rtc with sec := (r.getD 1 0).toNat + bitsOf w2 0 16 * 2 ^ 32, frac := bitsOf w2 16 16, since := s.now } }
    let s := (s.put Reg.RTC_TRIM_TRIM (bitsOf w3 0 16)).put Reg.RTC_TRIM_AUTO (bitsOf w3 31 1)
    s.put Reg.RTC_STATUS_RESTORED 1

end Sys2Proof.Machine
end

