-- ==== Sys2Proof/Machine/Apply.lean ====
section
/-! DEFINITION. What applying a unit's values sets off, the epoch switch (R48 to R53), and where a register write goes by the class
of its fields (R45 to R47). -/

namespace Sys2Proof.Machine

/-! ### Cores held and started (R37, R39) -/

/-- A core starts at an address, its CSRs and caches in their reset state. -/
def State.coreStart (s : State) (c : CoreId) (addr : Word) : State :=
  let x := { Core.reset with
    run := .running, start := addr, hart := { Hart.reset with pc := addr }, resp := (s.core c).resp }
  let s := (s.setCore c x).resetSeen c
  { s with pwr := { s.pwr with autoBlocked := false }, start := { s.start with dump := if c = .c0 then none else s.start.dump } }

/-- A core is held in reset. -/
def State.coreHold (s : State) (c : CoreId) : State :=
  (s.setCore c { Core.reset with resp := (s.core c).resp }).resetSeen c

/-- Restart address of a core (Table 1-15). -/
def State.coreVec (s : State) : CoreId → Word
  | .c0 => s.reg Reg.SYS_C0VEC
  | .c1 => s.reg Reg.SYS_C1VEC

/-- A core-scope reset (R39): of core 1 only while `SYS_C1CTL.RUN` is 1. The manual does not say what the write does while the device
holds the cores, in a start (R38), a sleep mode or an entry whose core cluster has granted: here nothing (DESIGN CHOICE, log
entry 75). -/
def State.coreReset (s : State) (c : CoreId) : State :=
  if s.start.busy || !s.awake || s.quiesced 2 || (c = .c1 && !s.flag Reg.SYS_C1CTL_RUN) then s else s.coreStart c (s.coreVec c)

/-! ### The timebase reference (R197, R198) -/

/-- `TBASE_STATUS` (Table 8-4). -/
def State.tbStatus (s : State) : Word :=
  (s.reg Reg.TBASE_STATUS &&& 4) ||| flagAt s.tb.lfcalok 4 ||| flagAt s.tb.lfok 3 ||| flagAt s.tb.ready 1 |||
  flagAt (s.tb.src = .xtal) 0

/-- What TBASE posts on a change from `old` (R324). -/
def State.tbNotify (s old : State) : State :=
  let a := old.tbStatus
  let b := s.tbStatus
  if b &&& ~~~a &&& 0x16 != 0 || bitOf a 0 != bitOf b 0 then s.postBoth 148 b 0 else s

/-- A write of 1 to `TBASE_CTL.REF`. -/
def State.tbRefOn (s : State) : State :=
  if s.tb.ready then
    if s.tb.src = .xtal then s else { s with tb := { s.tb with move := true } }
  else (s.put Reg.TBASE_STATUS_REFUSED 1).tbNotify s

/-- The 40 MHz crystal stops: the timebase moves to the carry at once, the sample PLL stops (R198), the single path stops receiving (R82),
and nothing carries air traffic (R42): an attempt or frame in progress ends as under a blank, for which the manual names no outcome
(DESIGN CHOICE, log entry 87), a transmit that has begun ends, and one that has not waits. -/
def State.xtalStop (s : State) : State :=
  let s := s.txStop
  let t := if s.tb.src = .carry then s else if s.tb.lfok then s.carryOn else { s with tb := { s.tb with src := .fio, fio := true } }
  let t := ({ t with tb := { t.tb with xtalOn := false, ready := false, move := false, pll := false } } : State).spStop
  let t := (t.lanes.map Prod.fst).foldl (fun t k => t.abortLane k 1 true) t
  t.tbNotify s

/-- A write of 0 to `TBASE_CTL.REF`. -/
def State.tbRefOff (s : State) : State :=
  if s.tb.src != .xtal then s
  else if s.flag Reg.TBASE_CTL_AUTO then (s.put Reg.TBASE_STATUS_REFUSED 1).tbNotify s
  else s.xtalStop

/-- A write of `TBASE_CTL.AUTO`: a 1 starts a stopped crystal, and is a standing request to move (R197, R198). -/
def State.tbAuto (s : State) (on : Bool) : State :=
  let s := s.put Reg.TBASE_CTL_AUTO (b2n on)
  if on then
    { s with tb := { s.tb with xtalOn := true, move := s.tb.move || (s.tb.ready && s.tb.src != .xtal) } }
  else s

/-- A write of `TBASE_CTL`: AUTO first, then REF under it. -/
def State.tbCtl (s : State) (v : Word) : State :=
  let s := s.tbAuto (bitOf v 1)
  if bitOf v 0 then s.tbRefOn else s.tbRefOff

/-! ### Hooks -/

/-- The ring of core c is emptied when its base or size has changed (R241). -/
def State.ringApply (s old : State) (c : Nat) : State :=
  if s.reg (Reg.LINK_RBASE c) = old.reg (Reg.LINK_RBASE c) && s.get (Reg.LINK_RCFG_SIZE c) = old.get (Reg.LINK_RCFG_SIZE c) then s
  else (s.put (Reg.LINK_RPUT_PUT c) 0).put (Reg.LINK_RTAKE_TAKE c) 0

/-- `WDT_CTL` of watchdog n has applied: enabling it loads TO (R409). -/
def State.wdtApply (s old : State) (n : Nat) : State :=
  if s.flag (Reg.WDT_CTL_EN n) && !old.flag (Reg.WDT_CTL_EN n) then
    (if n = 0 then { s with wdt0 := ⟨0, false, none⟩ } else { s with wdt1 := ⟨0, false, none⟩ })
  else s

/-- `TRNG_CTL.EN` has applied (R262): output stops, and starts again only once the start-up tests pass. -/
def State.trngApply (s old : State) : State :=
  if s.flag Reg.TRNG_CTL_EN = old.flag Reg.TRNG_CTL_EN then s
  else { s with ciph := { s.ciph with trngArm := s.flag Reg.TRNG_CTL_EN, trngUp := false, trngWord := none } }

/-- `RTC_TRIM` has applied: with AUTO = 1 a write to TRIM is ignored, otherwise it is clamped (R369, R370). -/
def State.trimApply (s old : State) : State :=
  if s.flag Reg.RTC_TRIM_AUTO then s.put Reg.RTC_TRIM_TRIM (old.get Reg.RTC_TRIM_TRIM)
  else s.trimLoad s.trim

/-- `SYS_C1CTL.RUN` has applied (Table 1-16): a core cluster that has granted a sleep entry is held as it is (R342), so that core 1 starts
when the entry ends without being made, or at the wake. -/
def State.c1Apply (s old : State) : State :=
  match old.flag Reg.SYS_C1CTL_RUN, s.flag Reg.SYS_C1CTL_RUN with
  | false, true => if s.quiesced 2 then s else s.coreStart .c1 (s.coreVec .c1)
  | true, false => s.coreHold .c1
  | _, _ => s

/-- What the registers of unit u set off when they have taken new values: `old` is the state before. -/
def State.onApply (s old : State) (u : Nat) : State :=
  let ch := fun a => s.reg a != old.reg a
  if u < 16 then (if ch (Reg.ENV_GCFG u) then s.groupRest u else s)
  else match u with
    | 16 =>
      let t :=
        if ch Reg.RFE_CTL then
          (if s.flag Reg.RFE_CTL_EN then s.rfeTryStart else if s.rfe.st = .off then s else s.rfeStop)
        else s
      if ch Reg.RFE_SPCTL then t.spApply (old.reg Reg.RFE_SPCTL) else t
    | 17 =>
      let t := if ch Reg.ENV_CTL then s.envApply (old.reg Reg.ENV_CTL) else s
      if ch Reg.ENV_SVBASE then t.txqOverlap else t
    | 18 =>
      let t := (s.ringApply old 0).ringApply old 1
      if s.get Reg.LINK_DWCFG_W = old.get Reg.LINK_DWCFG_W then t
      else { t with link := { t.link with dwell := [] } }
    | 25 =>
      let t := s.bankApply (old.reg Reg.MEMC_BANKCTL) (waitMask old.waits Reg.MEMC_BANKCTL) 0 16
      t.bankApply (old.reg Reg.MEMC_RBANKCTL) (waitMask old.waits Reg.MEMC_RBANKCTL) 16 4
    | 27 => if ch Reg.PWR_DVFS then s.dvfsApply else s
    | 28 => if ch Reg.RTC_TRIM then s.trimApply old else s
    | 29 => if ch Reg.SYS_C1CTL then s.c1Apply old else s
    | 30 => ((s.wdtApply old 0).wdtApply old 1).trngApply old
    | _ => s

/-! ### Units apply, switches fire -/

/-- Unit u applies its waiting writes and its armed set in one step (R45, R49). -/
def State.applyUnit (s : State) (u : Nat) : State := ((s.mergeWaits u).mergeArmed u).onApply s u

/-- Unit u has something to apply. -/
def State.hasWork (s : State) (u : Nat) : Bool := !(s.waitsFor u).isEmpty || bitOf s.pend u

/-- The units that registers armed at a switch belong to, as `CFG_PEND` (R48). -/
def unitMask (ps : List (Nat × Word)) : Word := ps.foldl (fun w p => w ||| ((1 : Word) <<< unitOf p.1)) 0

/-- The switch instant (R48, R49): the epoch advances, the shadows that differ are armed, EPOCH is latched, units at their
boundary apply (`here` names one that has its boundary at this very instant), and the acceptance window opens (R54). Where the switch
itself changes `CFG_WIN.WINDOW`, the window takes the new length (DESIGN CHOICE, log entry 76). -/
def State.epochSwitch (s : State) (here : Option Nat) : State :=
  let s := s.put Reg.CFG_EPOCH_CUR ((s.get Reg.CFG_EPOCH_CUR + 1) % 65536)
  let armed := s.shadowDiff
  let s := ({ s with armed := armed, cfg := { s.cfg with switchT := s.now, lag := [] } } : State).setReg
    Reg.CFG_PEND (unitMask armed)
  let s := s.latchAll 28
  let s := forN 32 (fun s u => if bitOf s.pend u && (s.atBoundary u || here == some u) then s.applyUnit u else s) s
  { s with cfg := { s.cfg with
      window := s.get Reg.CFG_WIN_WINDOW
      stuckDone := false
      mixedAt := if s.pend = 0 then s.cfg.mixedAt else s.now } }

/-- A switch comes due (R52): held while MIXED is 1. -/
def State.switchDue (s : State) (sched : Bool) (here : Option Nat) : State :=
  if s.pend = 0 then s.epochSwitch here
  else { s with cfg := { s.cfg with held := some (s.cfg.held.getD false || sched) } }

/-- The held switch fires at the moment MIXED clears (R52), which may be the boundary of a unit. -/
def State.afterPend (s : State) (here : Option Nat) : State :=
  match s.cfg.held with
  | some late =>
    if s.pend = 0 then
      let s := ({ s with cfg := { s.cfg with held := none } } : State).epochSwitch here
      if late then s.put Reg.CFG_STATUS_LATE 1 else s
    else s
  | none => s

/-- MIXED has lasted longer than a number of ms (R53). -/
def State.lagOver (s : State) (ms : Nat) : Bool := s.pend != 0 && s.cfg.mixedAt + 40000 * ms < s.now

/-- STUCK is set and posted, once while MIXED stays 1 (R53, Table 13-6). -/
def State.stick (s : State) : State :=
  let t := { s with cfg := { s.cfg with stuckDone := true } }
  (t.put Reg.CFG_STATUS_STUCK 1).postTo .c0 139 s.pend (s.reg Reg.CFG_EPOCH)

/-- The units that have a boundary other than an event of their own, or that may be stopped. -/
def boundaryUnits : List Nat := List.range 19 ++ [19, 24, 25, 26, 27, 30, 32]

/-- Every unit that is at its boundary, or stopped, applies what waits for it (R44, R45, R49); the single path gives way to
the Envelope (R62). -/
def State.boundaries (s : State) : State :=
  (boundaryUnits.foldl (fun s u => if s.hasWork u && s.atBoundary u then s.applyUnit u else s) s).spBlock.afterPend none

/-- The outcome of a command that may bring units to their boundaries. -/
def doneB (s : State) : Host.Outcome State Fault Refusal := done s.boundaries

/-! ### A register write by class (R45 to R47) -/

/-- A write to the class L fields of a register. -/
def State.writeL (s : State) (a : Nat) (m v : Word) : State :=
  let u := unitOf a
  let m := m &&& ~~~threeMask a v
  if immediateReg a then s.setReg a (mergeBits (s.reg a) m v)
  else
    let t := s.addWait a m v
    if t.atBoundary u then (t.applyUnit u).afterPend (some u) else t

/-- A write to a register without effects of its own: each field by its class; unassigned registers and read-only fields
ignore it (R6). -/
def State.writeReg (s : State) (a : Nat) (v : Word) : State :=
  match regRow? a with
  | none => s
  | some r =>
    let s := if r.rwK = 0 then s else s.writeK a v
    let s := if r.w1c ||| r.w1s = 0 then s else s.setReg a ((s.reg a &&& ~~~(v &&& r.w1c)) ||| (v &&& r.w1s))
    let s := if r.rwS = 0 then s else s.writeS a v
    if r.rwL = 0 then s else s.writeL a r.rwL v

end Sys2Proof.Machine
end

