-- ==== Sys2Proof/Machine/Hop.lean ====
section
/-! DEFINITION. The slot grid and its shifts (R201 to R206), channel lists (R207 to R209), the link timing block (R210 to R214),
supervision (R218), the neighbour table's search (R228, R229). -/

namespace Sys2Proof.Machine

/-! ### The slot grid -/

/-- Slot length in µs (Table 8-8). -/
def State.slotLen (s : State) : Nat := clampN 1000 65000 (s.get Reg.LINK_SLOTCFG_SLOTLEN)

def State.slotTicks (s : State) : Nat := 40 * s.slotLen

/-- A sum of shifts held to ±SLOTLEN/4, in ticks (R206); what is cut away sets PHCLAMP. -/
def State.shiftClamp (s : State) (x : Int) : State × Int :=
  let m : Int := 10 * s.slotLen
  let c := clampI (-m) m x
  (if c = x then s else s.put Reg.LINK_STATUS_PHCLAMP 1, c)

/-- A shift moves the next slot start: it joins the sum of those that apply to it already (R206). -/
def State.shiftNext (s : State) (x : Int) : State :=
  let (s, c) := s.shiftClamp (s.link.nextSum + x)
  { s with link := { s.link with
      nextT := ((s.link.nextT : Int) + (c - s.link.nextShift)).toNat
      nextShift := c
      nextSum := s.link.nextSum + x } }

/-- A parent shift moves the first slot start at least |shift| + 50 µs away (R212). -/
def State.shiftSlot (s : State) (x : Int) : State :=
  if x = 0 then s
  else if s.now + x.natAbs + 2000 ≤ s.link.nextT then s.shiftNext x
  else { s with link := { s.link with after := s.link.after + x } }

/-- The next slot begins (R201, R204): the counter advances or takes the value of a waiting SETEVC. -/
def State.slotCount (s : State) : State :=
  let l := s.link
  let evc := match l.setPend with
    | some v => v
    | none => (l.evc + 1) % 2 ^ 40
  { s with link := { l with evc := evc, setPend := none, slotT := l.nextT, past := l.slotT :: l.past } }

/-- The slot start after it is laid out with the length now in force and the shifts that wait for it (R202, R205, R206, R212). -/
def State.slotLay (s : State) : State :=
  let sum := s.link.after + s.link.adj.getD 0
  let (s, c) := s.shiftClamp sum
  { s with link := { s.link with
      nextT := ((s.link.slotT : Int) + s.slotTicks + c).toNat
      nextShift := c
      nextSum := sum
      after := 0
      adj := none } }

/-- The slot start nearest to a time x before slot start `hi`, among the earlier ones, latest first, and `hi`. -/
def nearPast (x : Int) : Int → List Nat → Int
  | hi, [] => hi
  | hi, p :: r => if (p : Int) ≤ x then (if x - p ≤ hi - x then p else hi) else nearPast x p r

/-- The slot start nearest to a time, the earlier of two equally near (R211). -/
def State.nearSlot (s : State) (x : Int) : Int :=
  let t0 : Int := s.link.slotT
  let t1 : Int := s.link.nextT
  if t0 ≤ x then (if x - t0 ≤ t1 - x then t0 else t1) else nearPast x t0 s.link.past

/-! ### Channel lists -/

/-- The channels that a map names, in ascending order, in HOP's encoding (R207, R208). -/
def State.mapChans (s : State) (m : Nat) : List Nat :=
  if s.flag (Reg.LINK_MAPCTL_KIND m) then
    (List.range 16).filter fun j => bitOf (s.reg (Reg.LINK_MAP (4 * m))) j
  else
    (List.range 128).filter fun k => bitOf (s.reg (Reg.LINK_MAP (4 * m + k / 32))) (k % 32)

/-- The stride of a map, and whether it shares a factor with the length (R207). -/
def State.mapStride (s : State) (m : Nat) : Nat × Bool :=
  let st := max 1 (s.get (Reg.LINK_MAPCTL_STRIDE m))
  let l := (s.mapChans m).length
  if 0 < l ∧ Nat.gcd st l ≠ 1 then (1, true) else (st, false)

/-- Entry i of the list of a map (R207). -/
def State.mapEntry (s : State) (m i : Nat) : Option Nat :=
  let cs := s.mapChans m
  if cs.isEmpty then none else cs[i * (s.mapStride m).1 % cs.length]?

/-- The channel of the hopping formula for event E (R208); 0xFFFF_FFFF for an empty map. -/
def State.hopChan (s : State) (m off ev : Nat) : Word :=
  let l := (s.mapChans m).length
  if l = 0 then 0xFFFFFFFF
  else match s.mapEntry m ((ev + off) % 2 ^ 40 % l) with
    | some c => BitVec.ofNat 32 c
    | none => 0xFFFFFFFF

/-! ### Neighbour entries -/

/-- Address of neighbour entry n. -/
def nbrAddr (n : Nat) : Nat := 0x21020000 + 64 * (n % 1024)

/-- Word of a neighbour entry at an offset. -/
def State.nbr (s : State) (n off : Nat) : Word := s.word (nbrAddr n + off)

/-- The device changes a word of a neighbour entry. -/
def State.setNbr (s : State) (n off : Nat) (w : Word) : State := s.devWrite (nbrAddr n + off) (leBytes 4 w.toNat)

/-- Change a field of a word. -/
def wput (w : Word) (lo width v : Nat) : Word := fset w ⟨0, lo, width⟩ v

/-- The lowest valid entry that matches a short key (R228). -/
def State.findShort (s : State) (pan short : Nat) : Option Nat :=
  if short = 0xFFFE ∨ short = 0xFFFF then none
  else (List.range 1024).find? fun n =>
    bitOf (s.nbr n 12) 31 && bitsOf (s.nbr n 8) 0 16 = short && bitsOf (s.nbr n 8) 16 16 = pan

/-- The lowest valid entry that matches an extended key (R228). -/
def State.findExt (s : State) (lo hi : Word) : Option Nat :=
  (List.range 1024).find? fun n => bitOf (s.nbr n 12) 31 && s.nbr n 0 = lo && s.nbr n 4 = hi

/-! ### Link timing (R211 to R214) -/

/-- The anchor of an entry in ticks (Table 8-2). -/
def State.anchor (s : State) (n : Nat) : Nat :=
  let w := s.nbr n 0x28
  40 * ((s.nbr n 0x24).toNat + bitsOf w 0 16 * 2 ^ 32) + bitsOf w 16 6

/-- Time from an anchor of 48 bits of µs to a time, in ticks: that of the two times, before and after, which is the nearer (log entry
100). -/
def sinceAnchor (t anchor : Nat) : Int :=
  let d : Int := ((t : Int) - anchor) % (40 * 2 ^ 48)
  if d < 20 * 2 ^ 48 then d else d - 40 * 2 ^ 48

/-- Window limit of an entry in µs (Table 8-2). -/
def State.maxWin (s : State) (n : Nat) : Nat :=
  let m := bitsOf (s.nbr n 0x34) 10 4
  if m = 0 then 2000 else (m + 1) * 500

/-- What ARM GUARD finds in entry n (R213, R214). -/
def State.guardRead (s : State) (n : Nat) : Word × State :=
  let w4 := s.nbr n 0x34
  if !bitOf w4 30 then (BitVec.ofNat 32 (20 * s.maxWin n), s)
  else
    let dt := sinceAnchor s.net (s.anchor n)
    let sum := s.get Reg.LINK_PPM_PPMSELF + bitsOf w4 14 7
    let w : Int := 40 * bitsOf w4 0 10 + -(-(2 * sum * dt) / 1000000)
    if 40 * s.maxWin n < 2 * w then
      let s' := s.setNbr n 0x34 (wput w4 27 1 1)
      let s' := if bitOf w4 27 then s'
        else (s'.put Reg.LINK_STATUS_DRIFT 1).postTo .c0 138 (BitVec.ofNat 32 (n % 1024)) 1
      (BitVec.ofNat 32 (20 * s.maxWin n), s')
    else (BitVec.ofInt 32 w, s)

/-- ARM GUARD on entry n (R213, R214): its bank wakes (R267). -/
def State.guardLink (s : State) (n : Nat) : Word × State := (s.wakeRange (nbrAddr n) 64).guardRead n

/-- The correction that a RESYNC of entry n asks of the slot grid (R212), in ticks. -/
def State.parentShift (s : State) (n : Nat) (ph : Int) : State × Int :=
  if s.flag Reg.LINK_PARENT_EN && s.get Reg.LINK_PARENT_NBR = n % 1024 then
    let m : Int := (min (40 * s.get Reg.LINK_PARENT_ADJMAX) (10 * s.slotLen) : Nat)
    let c := clampI (-m) m ph
    (if c = ph then s else s.put Reg.LINK_STATUS_PHCLAMP 1, c)
  else (s, 0)

/-- A phase difference wrapped into half a slot either way (R211). -/
def wrapPhase (slot d : Int) : Int :=
  let h := slot / 2
  if -h ≤ d ∧ d ≤ h then d else (d + h) % slot - h

/-- ARM RESYNC on entry n with the SFD end at t ticks (R211). -/
def State.resyncLink (s : State) (n t : Nat) : State :=
  let w3 := s.nbr n 0x30
  let w4 := s.nbr n 0x34
  let x : Int := (t : Int) - 40 * bitsOf w3 16 16
  let ph := x - s.nearSlot x
  let drift :=
    if bitOf w4 30 then
      let dt := sinceAnchor t (s.anchor n)
      let dph := wrapPhase s.slotTicks (ph - toSigned 24 (bitsOf (s.nbr n 0x2C) 0 24))
      let d := toSigned 16 (bitsOf w3 0 16)
      if 10000000 ≤ dt then
        let r := (dph * 16000000).tdiv dt
        clampI (-8000) 8000 (d + (r - d).tdiv 4)
      else d
    else toSigned 16 (bitsOf w3 0 16)
  let (s, shift) := s.parentShift n ph
  let us := t / 40
  let s := s.setNbr n 0x24 (BitVec.ofNat 32 us)
  let s := s.setNbr n 0x28 (wput (wput (s.nbr n 0x28) 0 16 (us / 2 ^ 32)) 16 6 (t % 40))
  let s := s.setNbr n 0x2C (wput (s.nbr n 0x2C) 0 24 (ofSigned 24 (ph - shift)))
  let s := s.setNbr n 0x30 (wput w3 0 16 (ofSigned 16 drift))
  let s := s.setNbr n 0x34 (wput (wput (wput w4 30 1 1) 27 1 0) 21 3 0)
  let s := if bitOf w4 28 then
      s.setNbr n 0x3C (BitVec.ofNat 32 ((us + 10000 * max 1 (bitsOf (s.nbr n 0x38) 16 16)) / 1024))
    else s
  s.shiftSlot shift

/-- Whether the supervision deadline of entry n has passed (R218). -/
def State.supExpired (s : State) (n : Nat) : Bool :=
  let w4 := s.nbr n 0x34
  bitOf w4 28 && !bitOf w4 29 && !(BitVec.ofNat 32 (s.us / 1024) - s.nbr n 0x3C).getLsbD 31

/-! ### Holding a neighbour's transmits -/

/-- An entry with HOLD set or cleared. -/
def TxEntry.setHold (e : TxEntry) (on : Bool) : TxEntry :=
  { e with hold := on, words := e.words.set 2 (wput (e.words.getD 2 0) 27 1 (b2n on)) }

/-- Set or clear HOLD in the entries of neighbour n not yet taken by TXGO, and mirror it into their slots (R163, R165). -/
def State.holdNbr (s : State) (n : Nat) (on : Bool) : State :=
  let mine := fun (e : TxEntry) => !e.taken && bitOf (e.words.getD 3 0) 26 && bitsOf (e.words.getD 3 0) 16 10 = n % 1024
  let hits := s.txq.filter mine
  let s := { s with
    txq := s.txq.map fun e => if mine e then e.setHold on else e }
  hits.foldl (fun s e =>
    let a := s.slotAddr e.q e.slot + 8
    s.devWrite a (leBytes 4 (wput (s.word a) 27 1 (b2n on)).toNat)) s

/-- Supervision of entry n expires (R218). -/
def State.supExpire (s : State) (n : Nat) : State :=
  let w4 := s.nbr n 0x34
  let s := s.setNbr n 0x34 (wput (wput w4 29 1 1) 27 1 1)
  let s := s.holdNbr n true
  (s.put Reg.LINK_STATUS_SUPVX 1).postTo .c0 138 (BitVec.ofNat 32 (n % 1024)) 2

end Sys2Proof.Machine
end

