-- ==== Sys2Proof/Machine/Peek.lean ====
section
/-! DEFINITION. What a read of each register returns, before any effect of the read (R9, R32): stored fields, and the fields that
the device forms from its state. -/

namespace Sys2Proof.Machine

/-- Ticks until a time, in µs rounded up. -/
def State.usUntil (s : State) (due : Nat) : Nat := (due - s.now + 39) / 40

/-! ### Codes of states -/

def RfeSt.code : RfeSt → Nat
  | .off => 0 | .starting => 1 | .idle => 2 | .cal => 3 | .locking => 4 | .spRx => 5 | .txWait => 6 | .txStart => 7 | .tx => 8
  | .txTail => 9

def LaneSt.code : LaneSt → Nat
  | .off => 0 | .hunt => 1 | .preamble => 2 | .frame => 3 | .blank => 4

def EnvSt.code : EnvSt → Nat
  | .off => 0 | .xwait => 1 | .starting => 2 | .run => 3 | .survey => 4 | .stopping => 5

def LdPhase.code : LdPhase → Nat
  | .idle => 0 | .verify => 1 | .stopping => 2 | .copy => 3 | .check => 4 | .restart => 5

def UpPhase.code : UpPhase → Nat
  | .idle => 0 | .verify => 1 | .writeset => 2 | .quiesce => 3 | .pause => 4 | .load => 5

def CtxSt.code : CtxSt → Nat
  | .stopped => 0 | .ready => 1 | .running => 2 | .waiting => 3 | .halted => 4 | .faulted => 5

/-! ### Words of one unit -/

/-- `PWR_STATUS` (Table 14-5). -/
def State.pwrStatus (s : State) : Word :=
  (s.reg Reg.PWR_STATUS &&& 0x40) ||| numAt s.pwr.target 8 ||| flagAt s.pwr.wakePend 5 |||
  flagAt (match s.pwr.hs with | some h => h.delay.isSome | none => false) 4 ||| flagAt s.pwr.hs.isSome 3 |||
  flagAt s.pwr.cmd.isSome 2 ||| flagAt s.core1.quiescent 1 ||| flagAt s.core0.quiescent 0

/-- `PWR_DVFSSTAT` (Table 14-13). -/
def State.dvfsStat (s : State) : Word :=
  numAt s.pwr.stap 10 ||| flagAt s.pwr.pheld.isSome 9 ||| flagAt s.pwr.vheld.isSome 8 ||| flagAt s.pwr.vto.isSome 7 |||
  numAt s.pwr.pcur 4 ||| numAt s.pwr.vcur 0

/-- `CFG_STATUS` (Table 2-3). -/
def State.cfgStatus (s : State) : Word :=
  (s.reg Reg.CFG_STATUS &&& 0x38) ||| flagAt s.cfg.digBusy 6 ||| flagAt s.cfg.held.isSome 2 ||| flagAt s.cfg.sched.isSome 1 |||
  flagAt (s.pend != 0) 0

/-- `RFE_STATUS` (Table 3-8). -/
def State.rfeStatus (s : State) : Word :=
  (s.reg Reg.RFE_STATUS &&& 0xE00) ||| flagAt s.unusable?.isSome 8 ||| flagAt s.rfe.calib.isSome 7 ||| flagAt s.rfe.locked 6 |||
  numAt s.rfe.st.code 0

/-- `ENV_STATUS`. -/
def State.envStatus (s : State) : Word :=
  (s.reg Reg.ENV_STATUS &&& 0xB00) ||| numAt s.env.active 4 ||| numAt s.env.st.code 0

/-- `ENV_GRUN`: groups running, and groups in standard mode. -/
def State.grun (s : State) : Word :=
  (List.range 16).foldl (fun w g => w ||| flagAt (s.eng g).run g ||| flagAt (s.flag (Reg.ENV_GMODE_MODE g)) (16 + g)) 0

/-- `ENV_GSTAT` of group g (Table 4-21). INSPAN shows what its Meaning says at every moment, so 1 at reset, where the Reset column has 0
(DESIGN CHOICE, log entry 112). -/
def State.gstat (s : State) (g : Nat) : Word :=
  (s.reg (Reg.ENV_GSTAT g) &&& 8) ||| flagAt (s.inSpan g) 2 ||| flagAt (s.held g && (s.eng g).run) 1 |||
  flagAt (!(s.eng g).run) 0

/-- `ENV_LSTAT` of lane k (Table 4-22). -/
def State.lstat (s : State) (k : Nat) : Word :=
  let l := s.lane k
  numAt (ofSigned 8 l.rssi) 24 ||| numAt l.cq 16 ||| numAt l.lastChain 8 ||| numAt l.bufs 4 ||| numAt l.st.code 0

/-- `REEL_STATUS` (Table 6-14). -/
def State.reelStatus (s : State) : Word :=
  (List.range 17).foldl (fun w e => w ||| flagAt (s.eng e).run e) (flagAt (s.eng 16).stopping 24)

/-- `REEL_FLTMAP` (Table 6-16). -/
def State.fltmap (s : State) : Word :=
  (List.range 17).foldl (fun w e =>
    w ||| flagAt ((List.range (nctx e)).any fun c => (s.ctx e c).st = .faulted) e) 0

/-- `REEL_CSW` of a context (Table 6-26). -/
def State.csw (s : State) (e c : Nat) : Word :=
  if nctx e ≤ c then 0
  else
    let x := s.ctx e c
    numAt (if (s.eng e).run then x.st.code else 0) 28 ||| numAt x.cause 24 ||| flagAt x.fatal 23 ||| numAt x.stack.length 20 |||
    numAt x.epr 18 ||| flagAt x.acc 17 ||| flagAt x.hit 16 ||| flagAt x.slt 15 ||| flagAt x.lt 14 ||| flagAt x.z 13 |||
    flagAt x.clost 12 ||| flagAt x.urg 11 ||| numAt x.pc 0

/-- `REEL_TXQSTAT` (Table 6-23). -/
def State.txqStat (s : State) : Word :=
  (List.range 4).foldl (fun w q => w ||| numAt (s.txq.filter fun e => e.q = q).length (8 * q)) 0

/-- A byte of a context's scratch (R144). -/
def Ctx.sbyte (x : Ctx) (a : Nat) : Byte := sget (fun _ => 0) x.scratch a

/-- A 32-bit word of a context's scratch. -/
def Ctx.sword (x : Ctx) (a : Nat) : Word := BitVec.ofNat 32 (leNat ((List.range 4).map fun i => x.sbyte (a + i)))

/-- The item of a context that `REEL_DSEL` names (Table 6-24). -/
def State.ditem (s : State) (e c i : Nat) : Word :=
  if nctx e ≤ c then 0
  else
    let x := s.ctx e c
    if i < 8 then x.v.getD i 0
    else if i < 12 then BitVec.ofNat 32 (x.stack.getD (i - 8) 0)
    else if i = 12 then (match x.timer with | some d => BitVec.ofNat 32 (s.usUntil d) | none => 0)
    else if 64 ≤ i ∧ i < 96 then x.sword (4 * (i - 64))
    else 0

/-- `REEL_LDSTAT` (Table 7-13). -/
def State.ldstat (s : State) : Word := (s.reg Reg.REEL_LDSTAT &&& 0xFFFF0FFF) ||| numAt s.ldr.phase.code 12

/-- `FLC_STATUS`. -/
def State.flcStatus (s : State) : Word :=
  (s.reg Reg.FLC_STATUS &&& 0x3C0) |||
  match s.flc.op with
  | some o => numAt o.op 2 ||| flagAt o.suspended 1 ||| 1
  | none => 0

/-- Two bits for each of n banks from `lo` on (Table 11-10). -/
def State.bankStat (s : State) (lo n : Nat) : Word :=
  (List.range n).foldl (fun w i => w ||| numAt (s.bank (lo + i)).code (2 * i)) 0

/-- `CIPH_STATUS` (Table 10-9). -/
def State.ciphStatus (s : State) : Word :=
  (s.reg Reg.CIPH_STATUS &&& 0x30) ||| flagAt s.ciph.dkReady 3 ||| flagAt s.ciph.almact 2 ||| flagAt s.ciph.halted 1 |||
  flagAt s.ciph.cur.isSome 0

/-- A key slot. -/
def State.key (s : State) (k : Nat) : Option Key := (s.ciph.keys.find? fun p => p.1 = k).map Prod.snd

/-- `CIPH_KINFO` of slot k (Table 10-17). -/
def State.kinfo (s : State) (k : Nat) : Word :=
  match s.key k with
  | some x => flagAt true 31 ||| flagAt x.big 30 ||| numAt x.usage 26 ||| numAt x.origin 24
  | none => 0

/-- `ICOL_STATUS` of collector c. -/
def State.icolStatus (s : State) (c : CoreId) : Word :=
  (s.reg (Reg.ICOL_STATUS (coreNum c)) &&& 0x1C) |||
  flagAt (match (s.icol c).mod with | .hold _ => true | _ => false) 1 ||| flagAt (s.meip c) 0

/-- `ICOL_RUN` of collector c (Table 13-16). -/
def State.icolRun (s : State) (c : CoreId) : Word := numAt (s.icol c).stack.length 16 ||| numAt (s.icol c).run 0

/-- `ICOL_QCNT` k of collector c. -/
def State.qcnt (s : State) (c : CoreId) (k : Nat) : Word :=
  (List.range 4).foldl (fun w i => w ||| numAt ((s.icol c).levelCount (4 * k + i)) (8 * i)) 0

/-! ### Pins (R404, R414, R418) -/

/-- What pin j drives in its FUNC 1 (R399, R412, Table 18-4): UART TX and RTS, SPI SCK, MOSI and CS, I2C open drain, HOST_IRQ. Idle levels
are the usual ones (PRESUMED, log entry 93); the level of a signal that is moving data is free. -/
def State.padSignal (s : State) (j : Nat) : Option Bool :=
  let wave := bitOf (Config.freeWord s.free) (j % 32)
  let uart := fun (n : Nat) => if n = 0 then s.uart0 else s.uart1
  let spic := fun (n : Nat) => if n = 0 then s.spic0 else s.spic1
  let i2c := fun (n : Nat) => if n = 0 then s.i2c0 else s.i2c1
  if j = 4 || j = 16 then some (!s.uartSending (j / 16) || wave)
  else if j = 6 || j = 18 then (if s.uartFlow (j / 16) then some (16 ≤ (uart (j / 16)).rx.length) else none)
  else if j = 20 || j = 24 then
    some (if (spic (j / 24)).busy then wave else bitOf (s.reg (Reg.SPIC_CTL (j / 24))) 5)
  else if j = 21 || j = 25 then some wave
  else if j = 23 || j = 27 then some (!(spic (j / 24)).busy)
  else if 28 ≤ j && j ≤ 31 then (if !(i2c (j / 30)).free && !wave then some false else none)
  else if j = 39 then (if s.flag Reg.HOSTIF_CTL_IRQPIN then some (!s.host.txRdy) else none)
  else none

/-- What the registers make pin j drive: as GPIO its output with OE, in FUNC 1 its signal; with open drain no 1 (R404, R412). -/
def State.padReg (s : State) (j : Nat) : Option Bool :=
  let w := s.reg (Reg.GPIO_CFG j)
  let v := match funcOf w j with
    | 0 => if bitOf w 3 then some (s.flag (gpioBit j)) else none
    | 1 => s.padSignal j
    | _ => none
  if v = some true && bitOf w 5 then none else v

/-- Open drain, drive strength and pull in force at pin j, where `GPIO_CFG` has them: those of pins 4 to 39 as held since a sleep entry
(R414). -/
def State.padWord (s : State) (j : Nat) : Word :=
  if 4 ≤ j && s.pins.held.isSome then s.pins.pads.getD (j - 4) 0 else s.reg (Reg.GPIO_CFG j) &&& 0xF0

/-- The level that the device drives at pin j, if it drives one: pins 4 to 39 as held since a sleep entry (R414); nothing without VIO, and
nothing at pins 0 to 3 in OFF (R415, R418). -/
def State.padDrive (s : State) (j : Nat) : Option Bool :=
  if !s.pins.vio || (j < 4 && s.pwr.forced = some 0) then none
  else match s.pins.held with
    | some l => if 4 ≤ j then l.getD (j - 4) none else s.padReg j
    | none => s.padReg j

/-- COEX_GNT as the input reads it: 0 without VIO, which is asserted where it is active low (R418, Table 3-17). -/
def State.gntIn (s : State) : Bool := if s.pins.vio then s.rfe.gnt else s.flag Reg.COEX_CTL_GNTPOL

/-- In EXTEST the boundary cells drive the balls (R424). -/
def State.extest (s : State) (i : Nat) : Option Bool := if s.tap.ir = 3 && s.pins.vio then s.tap.bsr[i]? else none

/-- The level that `GPIO_IN` reads at pin j: what drives the pad, else the level outside; 0 without VIO, but for the backup pins
(R415, R418). -/
def State.pinIn (s : State) (j : Nat) : Bool :=
  if 4 ≤ j && !s.pins.vio then false
  else ((s.extest j).or (s.padDrive j)).getD (s.pins.level.getLsbD j)

/-- `GPIO_IN` word w. -/
def State.gpioIn (s : State) (w : Nat) : Word :=
  (List.range (if w = 0 then 32 else 8)).foldl (fun x j => x ||| flagAt (s.pinIn (32 * w + j)) j) 0

/-- Status bits of a FIFO unit: BUSY, TXFULL, RXNE. -/
def Serial.stat (x : Serial) : Word := flagAt x.busy 2 ||| flagAt (16 ≤ x.tx.length) 1 ||| flagAt (!x.rx.isEmpty) 0

def Uart.stat (x : Uart) : Word := flagAt x.tx.isEmpty 2 ||| flagAt (16 ≤ x.tx.length) 1 ||| flagAt (!x.rx.isEmpty) 0

def State.uart (s : State) (n : Nat) : Uart := if n = 0 then s.uart0 else s.uart1

def State.setUart (s : State) (n : Nat) (x : Uart) : State := if n = 0 then { s with uart0 := x } else { s with uart1 := x }

def State.spic (s : State) (n : Nat) : Serial := if n = 0 then s.spic0 else s.spic1

def State.setSpic (s : State) (n : Nat) (x : Serial) : State := if n = 0 then { s with spic0 := x } else { s with spic1 := x }

def State.i2c (s : State) (n : Nat) : Serial := if n = 0 then s.i2c0 else s.i2c1

def State.setI2c (s : State) (n : Nat) (x : Serial) : State := if n = 0 then { s with i2c0 := x } else { s with i2c1 := x }

def State.wdt (s : State) (n : Nat) : Wdt := if n = 0 then s.wdt0 else s.wdt1

def State.setWdt (s : State) (n : Nat) (x : Wdt) : State := if n = 0 then { s with wdt0 := x } else { s with wdt1 := x }

/-- Timeout of watchdog n in ms: 0 behaves as 1 (Table 17-8). -/
def State.wdtTo (s : State) (n : Nat) : Nat := max 1 (s.get (Reg.WDT_CTL_TO n))

/-- `WDT_CNT` of watchdog n; 0 while it is off, as after every start (R409, Table 17-8). -/
def State.wdtCnt (s : State) (n : Nat) : Nat :=
  if s.flag (Reg.WDT_CTL_EN n) then s.wdtTo n - Config.slowRcMs (s.wdt n).ticks else 0

/-! ### A read, unit by unit -/

/-- Index of a register in a row of equally spaced ones. -/
def idxIn (a base stride n : Nat) : Option Nat :=
  if base ≤ a ∧ (a - base) % stride = 0 ∧ (a - base) / stride < n then some ((a - base) / stride) else none

def State.peekSys (s : State) (a : Nat) : Word :=
  if 0x40000C00 ≤ a then s.snap.getD ((a - 0x40000C00) / 4) 0
  else if a = Reg.SYS_MODE then numAt s.pwr.prev 8 ||| numAt s.pwr.mode 0
  else if a = Reg.SYS_BOOTSTAT then s.reg a ||| flagAt s.start.recovery 10
  else if a = Reg.SYS_STARTSTAT then s.reg a ||| flagAt s.start.rxbusy 2 ||| flagAt s.start.rcalT 1
  else if a = Reg.SYS_UPDSTAT then (s.reg a &&& 0xFFFF0FFF) ||| numAt s.upd.phase.code 12
  else if a = Reg.SYS_KEYSTAT then s.reg a ||| BitVec.setWidth 32 Config.keyFuses
  else if a = Reg.SYS_PADCTL then flagAt s.pins.held.isSome 1
  else s.last a

def State.peekPwr (s : State) (a : Nat) : Word :=
  if a = Reg.PWR_STATUS then s.pwrStatus
  else if a = Reg.PWR_DVFSSTAT then s.dvfsStat
  else if a = Reg.PWR_HOVSTAT then
    (s.reg a &&& 0xFFFF0000) |||
    numAt (if s.pwr.forced = some 3 then (if s.pwr.hovActive then (if s.tb.xtalOn then 3 else 2) else 1) else 0) 0
  else if a = Reg.PWR_HOVTIME then BitVec.ofNat 32 (min 0xFFFFFFFF (s.pwr.hovTicks / 40))
  else s.last a

def State.peekCfg (s : State) (a : Nat) : Word :=
  if a = Reg.CFG_STATUS then s.cfgStatus
  else if a = Reg.CFG_WIGN then s.wign
  else if a = Reg.CFG_LAGVAL then BitVec.ofNat 32 (s.lagOf (s.get Reg.CFG_USEL_UNIT))
  else if a = Reg.CFG_UDIG then ((s.cfg.udig.find? fun p => p.1 = s.get Reg.CFG_USEL_UNIT).map Prod.snd).getD 0
  else if a = Reg.CFG_DIGEST then s.cfg.digest
  else if a = Reg.CFG_SDIGEST then s.cfg.sdigest
  else s.last a

/-- The calendar form of the count, as `RTC_NOWDATE` and `RTC_NOWTIME` (R362). -/
def State.nowCal (s : State) : Word × Word :=
  if calMax < s.rtc.sec then (0x80000000, 0) else (Cal.ofCount s.rtc.sec).words (wday s.rtc.sec)

def State.peekRtc (s : State) (a : Nat) : Word :=
  if a = Reg.RTC_STATUS then
    (s.reg a &&& 0xF5) ||| flagAt (!s.rtc.running) 2 ||| flagAt s.rtc.conv 9 ||| flagAt s.rtc.hour.isSome 8 ||| flagAt s.rtc.vbkpLow 3
  else if a = Reg.RTC_SEC_LO then BitVec.ofNat 32 s.rtc.sec
  else if a = Reg.RTC_NOWDATE then s.nowCal.1
  else s.last a

def State.peekTbase (s : State) (a : Nat) : Word :=
  if a = Reg.TBASE_CTL then (s.reg a &&& 2) ||| flagAt (s.tb.src = .xtal) 0
  else if a = Reg.TBASE_STATUS then s.tbStatus
  else if a = Reg.TBASE_NOW_LO then BitVec.ofNat 32 s.us
  else s.last a

def State.peekIcol (s : State) (c : CoreId) (a : Nat) : Word :=
  let n := coreNum c
  if a = Reg.ICOL_TAKE n then (s.icolTakeRead c).1
  else if a = Reg.ICOL_RUN n then s.icolRun c
  else if a = Reg.ICOL_STATUS n then s.icolStatus c
  else if a = Reg.ICOL_QCNT0 n then s.qcnt c 0
  else if a = Reg.ICOL_QCNT1 n then s.qcnt c 1
  else s.last a

/-- The set and clear window (Table 13-7): both words of a pair read the bits. -/
def State.peekWindow (s : State) (c : CoreId) (off : Nat) : Word :=
  if off < 0x80 then s.reg (enWord c (off / 4))
  else if off < 0x100 then s.reg (enWord c ((off - 0x80) / 4))
  else if off < 0x180 then s.reg (pendWord c ((off - 0x100) / 4))
  else if off < 0x200 then s.reg (pendWord c ((off - 0x180) / 4))
  else if off = 0xF000 then s.reg (pendWord c 31)
  else 0

def State.peekMemc (s : State) (a : Nat) : Word :=
  if a = Reg.MEMC_STATUS then (s.reg a &&& 0xF8) ||| flagAt s.memc.test.isSome 2
  else if a = Reg.MEMC_BANKSTAT then s.bankStat 0 16
  else if a = Reg.MEMC_RBANKSTAT then s.bankStat 16 4
  else s.last a

def State.peekCiph (s : State) (a : Nat) : Word :=
  if a = Reg.CIPH_STATUS then s.ciphStatus
  else match idxIn a (Reg.CIPH_KINFO 0) 4 256 with
    | some k => s.kinfo k
    | none => s.last a

def State.peekRfe (s : State) (a : Nat) : Word :=
  if a = Reg.RFE_STATUS then s.rfeStatus
  else if a = Reg.RFE_SPSTAT then
    flagAt s.spInFrame 8 ||| numAt (s.lane 128).lastChain 4 ||| numAt s.rfe.divst 0
  else match idxIn a (Reg.RFE_CALTAB 0) 4 128 with
    | some k => s.reg a ||| flagAt (s.calStale k) 30
    | none => s.last a

def State.peekEnv (s : State) (a : Nat) : Word :=
  if a = Reg.ENV_STATUS then s.envStatus
  else if a = Reg.ENV_GHOLD_CLR then s.reg Reg.ENV_GHOLD_SET
  else if a = Reg.ENV_GRUN then s.grun
  else match idxIn a (Reg.ENV_GSTAT 0) 4 16, idxIn a (Reg.ENV_LSTAT 0) 4 128 with
    | some g, _ => s.gstat g
    | none, some k => s.lstat k
    | none, none => s.last a

def State.peekReel (s : State) (a : Nat) : Word :=
  if a = Reg.REEL_STATUS then s.reelStatus
  else if a = Reg.REEL_FLTMAP then s.fltmap
  else if a = Reg.REEL_TXQSTAT then s.txqStat
  else if a = Reg.REEL_DVAL then s.ditem (s.get Reg.REEL_DSEL_ENG) (s.get Reg.REEL_DSEL_CTX) (s.get Reg.REEL_DSEL_ITEM)
  else if a = Reg.REEL_LDSTAT then s.ldstat
  else match idxIn a (Reg.REEL_CSW 0) 4 136 with
    | some i => s.csw (i / 8) (i % 8)
    | none => s.last a

/-- A read of LINK (chapter 8). `LINK_LVAL` shows what its text says at every moment, so 0xFFFFFFFF at reset, where L is 0 and the Reset
column has 0 (DESIGN CHOICE, log entry 112). -/
def State.peekLink (s : State) (a : Nat) : Word :=
  if a = Reg.LINK_STATUS then
    (s.reg a &&& 0x34) ||| flagAt s.link.adj.isSome 1 ||| flagAt s.link.setPend.isSome 0
  else if a = Reg.LINK_EVC_LO then BitVec.ofNat 32 s.link.evc
  else if a = Reg.LINK_SSTART_LO then BitVec.ofNat 32 (s.link.slotT / 40)
  else if a = Reg.LINK_DWVAL then BitVec.ofNat 32 (s.dwellSum (s.get Reg.LINK_DWSEL_CHAN))
  else if a = Reg.LINK_LVAL then
    (match s.mapEntry (s.get Reg.LINK_LSEL_MAP) (s.get Reg.LINK_LSEL_INDEX) with
      | some c =>
        if s.get Reg.LINK_LSEL_INDEX < (s.mapChans (s.get Reg.LINK_LSEL_MAP)).length then BitVec.ofNat 32 c else 0xFFFFFFFF
      | none => 0xFFFFFFFF)
  else match idxIn a (Reg.LINK_MAPCTL 0) 4 32 with
    | some m => (s.last a &&& 0x7F01) ||| numAt (s.mapChans m).length 16 ||| flagAt (s.mapStride m).2 31
    | none => s.last a

def State.peekPeriph (s : State) (a : Nat) : Word :=
  let n := (a / 0x1000 - 1) % 2
  if a < 0x40011000 then
    (match idxIn a (Reg.GPIO_IN 0) 4 2, idxIn a (Reg.GPIO_OUTCLR 0) 4 2 with
      | some w, _ => s.gpioIn w
      | none, some w => s.reg (Reg.GPIO_OUTSET w)
      | none, none => s.last a)
  else if a < 0x40013000 then
    (if a % 0x1000 = 8 then (s.reg a &&& 0x18) ||| (s.spic n).stat
     else if a % 0x1000 = 12 then BitVec.setWidth 32 ((s.spic n).rx.headD 0)
     else s.last a)
  else if a < 0x40015000 then
    (if a % 0x1000 = 8 then (s.reg a &&& 0x78) ||| (s.uart n).stat
     else if a % 0x1000 = 12 then BitVec.setWidth 32 ((s.uart n).rx.headD 0)
     else s.last a)
  else if a < 0x40017000 then
    (if a % 0x1000 = 8 then (s.reg a &&& 0x18) ||| (s.i2c n).stat
     else if a % 0x1000 = 12 then BitVec.setWidth 32 ((s.i2c n).rx.headD 0)
     else s.last a)
  else if a < 0x40018000 then s.last a
  else if a < 0x40019000 then
    (match idxIn a (Reg.TMR_CTL 0) 16 8, idxIn a (Reg.TMR_CNT 0) 16 8 with
      | some k, _ => s.last a ||| flagAt (s.tmr k).due.isSome 31
      | none, some k => (match (s.tmr k).due with | some d => BitVec.ofNat 32 (s.usUntil d) | none => 0)
      | none, none => s.last a)
  else if a < 0x4001A000 then
    (if a = Reg.TRNG_STATUS then (s.reg a &&& 2) ||| flagAt s.ciph.trngWord.isSome 0
     else if a = Reg.TRNG_DATA then s.ciph.trngWord.getD 0
     else s.last a)
  else if a < 0x4001C000 then
    (match idxIn a (Reg.WDT_CNT 0) 0x1000 2 with
      | some k => BitVec.ofNat 32 (s.wdtCnt k)
      | none => s.last a)
  else if a = Reg.HOSTIF_STATUS then flagAt s.host.txRdy 1 ||| flagAt s.host.rxFull 0
  else s.last a

/-- What a read of the register at `a` returns; unassigned offsets read 0 (R6). -/
def State.peek (s : State) (a : Nat) : Word :=
  if a < 0x40001000 then s.peekSys a
  else if a < 0x40002000 then s.peekPwr a
  else if a < 0x40003000 then s.peekCfg a
  else if a < 0x40004000 then s.peekRtc a
  else if a < 0x40005000 then s.peekTbase a
  else if a < 0x40006000 then s.last a
  else if a < 0x40007000 then s.peekIcol .c0 a
  else if a < 0x40008000 then s.peekIcol .c1 a
  else if a < 0x40009000 then (if a = Reg.FLC_STATUS then s.flcStatus else s.last a)
  else if a < 0x4000A000 then s.peekMemc a
  else if a < 0x4000B000 then s.peekCiph a
  else if a < 0x4000C000 then s.peekRfe a
  else if a < 0x4000D000 then s.peekEnv a
  else if a < 0x4000E000 then s.peekReel a
  else if a < 0x4000F000 then s.peekLink a
  else if a < 0x40010000 then
    (if a = Reg.COEX_STATUS then flagAt s.gntIn 3 ||| flagAt s.coexPri 2 ||| flagAt s.coexReq 1 else s.last a)
  else if a < 0x4F000000 then s.peekPeriph a
  else if a < 0x4F010000 then s.peekWindow .c0 (a - 0x4F000000)
  else s.peekWindow .c1 (a - 0x4F010000)

end Sys2Proof.Machine
end

