-- ==== Sys2Proof/Machine/Journal.lean ====
section
/-! DEFINITION. What the Ballast store keeps for a start: the boot selector (R304 to R306), the boot-attempt word (R377, R378), the
configuration journal (R381 to R384). -/

namespace Sys2Proof.Machine

/-- The device writes a Ballast word, which is whole again afterwards (R34, R276). -/
def State.nvPut (s : State) (a : Nat) (w : Word) : State :=
  { s.setWord a w with memc := { s.memc with bad := s.memc.bad.filter fun x => x != a } }

/-- Some word of a range is uncorrectable. -/
def State.nvBadIn (s : State) (a n : Nat) : Bool := s.memc.bad.any fun x => a ≤ x && x < a + n

/-! ### Boot selector -/

def selAddr : Nat := 0x2207D000

/-- The exclusive or of the two bytes of a count, a bit and a constant (R304, R381). -/
def checkOf (count bit k : Nat) : Nat := (count % 256) ^^^ (count / 256 % 256) ^^^ bit ^^^ k

/-- A selector word is valid (R304). -/
def selValid (w : Word) : Bool := bitsOf w 1 7 = 0 && bitsOf w 8 8 = checkOf (bitsOf w 16 16) (bitsOf w 0 1) 0x5A

/-- The stored selector, if valid and readable. -/
def State.selector (s : State) : Option Word :=
  let w := s.word selAddr
  if !s.nvBad selAddr && selValid w then some w else none

/-- The selector's region; an invalid one stands for region A (R305). -/
def State.selRegion (s : State) : Nat := match s.selector with | some w => bitsOf w 0 1 | none => 0

/-- Write the selector as BSEL does (R306); none when its count is exhausted. -/
def State.selWrite (s : State) (region : Nat) : Option State :=
  let put := fun c => some ((s.nvSee selAddr 4).nvPut selAddr (BitVec.ofNat 32 (c * 2 ^ 16 + checkOf c region 0x5A * 2 ^ 8 + region)))
  match s.selector with
  | none => put 1
  | some w => if bitsOf w 16 16 = 0xFFFF then none else put (bitsOf w 16 16 + 1)

/-! ### Boot-attempt word (Table 16-2) -/

def attAddr : Nat := 0x2207D004

/-- The device reads the word: one that is uncorrectable is reported (R276), and stands for 0 as it does at a start (R377). -/
def State.attRead (s : State) : Word × State := (if s.nvBad attAddr then 0 else s.word attAddr, s.nvSee attAddr 4)

/-- `SYS_BOOTSTAT` mirrors the word. -/
def State.attMirror (s : State) : State :=
  let w := s.word attAddr
  let s := (s.put Reg.SYS_BOOTSTAT_SWAPS (bitsOf w 16 16)).put Reg.SYS_BOOTSTAT_ATTEMPTS (bitsOf w 0 8)
  (s.put Reg.SYS_BOOTSTAT_PROB (bitsOf w 12 1)).put Reg.SYS_BOOTSTAT_FIRST_START (bitsOf w 12 1)

/-- One atomic write of the word. -/
def State.attPut (s : State) (swaps prob attempts : Nat) : State :=
  (s.nvPut attAddr (BitVec.ofNat 32 (swaps * 2 ^ 16 + prob * 2 ^ 12 + attempts))).attMirror

/-! ### Journal -/

def commitAddr : Nat := 0x22078000

def finishedAddr : Nat := 0x22078004

def copyAddr (k : Nat) : Nat := 0x22079000 + 0x1000 * k

/-- A set copy (Table 16-4): each entry is its twelve words. -/
structure SetCopy where
  seq : Nat
  release : Nat
  bootreg : Nat
  ents : List (List Word)
  deriving DecidableEq, Repr

/-- KIND and TARGET of an entry. -/
def entKind (e : List Word) : Nat := bitsOf (e.getD 0 0) 0 8

def entTarget (e : List Word) : Nat := bitsOf (e.getD 0 0) 8 8

/-- Entry of a kind and target. -/
def SetCopy.find (c : SetCopy) (kind target : Nat) : Option (List Word) :=
  c.ents.find? fun e => entKind e = kind && entTarget e = target

/-- VERSION of the CONFIG entry, or 0. -/
def SetCopy.cfgver (c : SetCopy) : Word := match c.find 5 0 with | some e => e.getD 3 0 | none => 0

/-- Words from an address. -/
def State.words (s : State) (a n : Nat) : List Word := (List.range n).map fun i => s.word (a + 4 * i)

/-- Copy k of the journal, if its magic, count and CRC are right (R381). -/
def State.copy (s : State) (k : Nat) : Option SetCopy :=
  let a := copyAddr k
  let n := (s.word (a + 12)).toNat
  if s.word a != 0x53584C4E || 24 < n || s.nvBadIn a 0x18 || s.nvBadIn (a + 0x20) (48 * n) then none
  else if crc32c (s.bytes a 20 ++ s.bytes (a + 0x20) (48 * n)) = s.word (a + 20) then
    some ⟨(s.word (a + 4)).toNat, (s.word (a + 8)).toNat, bitsOf (s.word (a + 16)) 0 1,
      (List.range n).map fun i => s.words (a + 0x20 + 48 * i) 12⟩
  else none

/-- Write a set copy. -/
def State.copyPut (s : State) (k : Nat) (c : SetCopy) : State :=
  let hdr : List Word := [0x53584C4E, BitVec.ofNat 32 c.seq, BitVec.ofNat 32 c.release, BitVec.ofNat 32 c.ents.length,
    BitVec.ofNat 32 c.bootreg]
  let body := c.ents.flatMap id
  let crc := crc32c ((hdr ++ body).flatMap fun w => leBytes 4 w.toNat)
  let ws := hdr ++ [crc, 0, 0] ++ body
  (List.range ws.length).foldl (fun s i => s.nvPut (copyAddr k + 4 * i) (ws.getD i 0)) s

/-- The commit word is valid (R381). -/
def commitValid (w : Word) : Bool := bitsOf w 8 8 = checkOf (bitsOf w 16 16) (bitsOf w 0 1) 0xC3

/-- Write the commit word. -/
def State.commitPut (s : State) (count set : Nat) : State :=
  let c := count % 65536
  s.nvPut commitAddr (BitVec.ofNat 32 (c * 2 ^ 16 + checkOf c set 0xC3 * 2 ^ 8 + set))

def State.commitCount (s : State) : Nat := bitsOf (s.word commitAddr) 16 16

/-- The copy that the commit word names live. -/
def State.liveSet (s : State) : Nat := bitsOf (s.word commitAddr) 0 1

/-- The live set; an unreadable copy stands for an empty one. -/
def State.live (s : State) : SetCopy := (s.copy s.liveSet).getD ⟨0, 0, 0, []⟩

/-- The previous set, if valid (R381). -/
def State.prevSet (s : State) : Option SetCopy :=
  match s.copy (1 - s.liveSet) with
  | some c => if c.seq < s.live.seq then some c else none
  | none => none

/-- The device reads copy k (R276): its header and its entries. -/
def State.copySee (s : State) (k : Nat) : State :=
  (s.nvSee (copyAddr k) 0x18).nvSee (copyAddr k + 0x20) (48 * min 24 (s.word (copyAddr k + 12)).toNat)

/-- The device reads the commit word and both copies. -/
def State.setsSee (s : State) : State := ((s.nvSee commitAddr 4).copySee 0).copySee 1

/-- `SYS_RELEASE` and the CONFIG versions follow the journal (R387). -/
def State.setMirror (s : State) : State :=
  let s := s.setsSee
  let s := s.setReg Reg.SYS_RELEASE (BitVec.ofNat 32 s.live.release)
  let s := s.setReg Reg.SYS_CFGVER_CUR s.live.cfgver
  s.setReg Reg.SYS_CFGVER_PREV (match s.prevSet with | some c => c.cfgver | none => 0)

/-- R382: an invalid commit word is made to name the valid copy with the higher SEQ, or an empty set. -/
def State.journalFix (s : State) : State :=
  let s := s.nvSee commitAddr 4
  if !s.nvBad commitAddr && commitValid (s.word commitAddr) then s
  else
    let s := (s.put Reg.SYS_STARTSTAT_JRNFIX 1).nvSee (copyAddr 0) 0x2000
    match s.copy 0, s.copy 1 with
    | none, none => (s.copyPut 0 ⟨0, 0, 0, []⟩).commitPut 0 0
    | some a, none => s.commitPut a.seq 0
    | none, some b => s.commitPut b.seq 1
    | some a, some b => if a.seq < b.seq then s.commitPut b.seq 1 else s.commitPut a.seq 0

/-- R383: the selector follows the live BOOTREG, then FINISHED takes the live COUNT. -/
def State.rollForward (s : State) : State :=
  let s := s.nvSee finishedAddr 4
  if s.nvBad finishedAddr || s.word finishedAddr != BitVec.ofNat 32 s.commitCount then
    let s := (s.copySee s.liveSet).nvSee selAddr 4
    let s :=
      if s.live.bootreg = s.selRegion then s
      else match s.selWrite s.live.bootreg with
        | some t => t
        | none => s.put Reg.SYS_BOOTSTAT_BSELEXH 1
    s.nvPut finishedAddr (BitVec.ofNat 32 s.commitCount)
  else s

/-- Engine e holds HALT in every step and no table (R183, R384, R391): a K value that changes with it makes the digests stale (R59). -/
def State.haltFill (s : State) (e : Nat) : State :=
  let t := (s.clearRange (0x30000000 + 0x2000 * e) 0x2000).setReg (Reg.REEL_TID e) 0
  if s.reg (Reg.REEL_TID e) = 0 then t else t.digDirty

/-- The engines whose REEL entry differs between two sets. -/
def reelDiff (a b : SetCopy) : List Nat := (List.range 17).filter fun e => a.find 3 e != b.find 3 e

/-- R384: the previous set is live again. -/
def State.rollBack (s : State) : State :=
  let es := match s.prevSet with | some p => reelDiff s.live p | none => []
  let s := s.commitPut (s.commitCount + 1) (1 - s.liveSet)
  let s := es.foldl State.haltFill s
  s.rollForward.put Reg.SYS_BOOTSTAT_ROLLEDBACK 1

/-- R377: start count and fallback decision. The answer says whether the recovery loader is entered. -/
def State.startCount (s : State) (ripcord : Bool) : Bool × State :=
  let bad := s.nvBad attAddr
  let w := s.word attAddr
  let f := if bad then 0 else bitsOf w 0 8
  let prob := if bad then 0 else bitsOf w 12 1
  let swaps := if bad then 0 else bitsOf w 16 16
  let s := if bad then (s.nvSee attAddr 4).put Reg.SYS_BOOTSTAT_BADWORD 1 else s
  let s := if f = 3 && prob = 1 then (s.copySee s.liveSet).copySee (1 - s.liveSet) else s
  let next := min (f + 1) 255
  if 6 ≤ f && !ripcord then (true, s.attPut swaps prob next)
  else if f = 3 then
    if prob = 1 && s.prevSet.isSome then (false, s.rollBack.attPut (satInc 0xFFFF swaps) 0 next)
    else
      let t := match s.selWrite (1 - s.selRegion) with
        | some t => t.put Reg.SYS_BOOTSTAT_SWAPPED 1
        | none => s.put Reg.SYS_BOOTSTAT_BSELEXH 1
      (false, t.attPut (satInc 0xFFFF swaps) prob next)
  else (false, s.attPut swaps prob next)

/-- R305: the selector's region goes to the boot window. -/
def State.bootRead (s : State) : State :=
  let s := (s.nvSee selAddr 4).put Reg.FLC_BOOT_LIVE s.selRegion
  s.put Reg.FLC_BOOT_BSELBAD (b2n s.selector.isNone)

/-- R380: the entry address that the header at the boot window gives, if it is valid and all of it can be read. -/
def State.bootEntry (s : State) : Option Word :=
  let a := s.unalias 0x18000000
  let entry := s.word (a + 4)
  let len := s.word (a + 8)
  if s.word a = 0x42584C4E && crc32c (s.bytes a 12) = s.word (a + 12) && entry.ult len && len.toNat ≤ 0x40000 then
    some (0x18000000 + entry)
  else none

end Sys2Proof.Machine
end

