-- ==== Sys2Proof/Machine/Array.lean ====
section
/-! DEFINITION. The flash array beneath the flash commands (chapter 12): planes, blocks, the boot window's alias, what programming,
erasing and abandoning leave in it. -/

namespace Sys2Proof.Machine

/-- Plane of an array address: four planes of 16 MiB. -/
def planeOf (a : Nat) : Nat := (a - 0x10000000) / 0x1000000

/-- Block of an array address: 1024 blocks of 64 KiB. -/
def blockOf (a : Nat) : Nat := (a - 0x10000000) / 0x10000

/-- First address of a block. -/
def blockBase (b : Nat) : Nat := 0x10000000 + 0x10000 * b

/-- A range lies wholly in the flash array. -/
def inFlash (a n : Nat) : Bool := 0x10000000 ≤ a && a + n ≤ 0x14000000

/-- First address of boot region A or B (R36). -/
def bootBase (r : Nat) : Nat := if r = 0 then 0x10000000 else 0x11000000

/-- Both cores' caches lose an array range and its alias in the boot window (R18, R291). -/
def State.flashInval (s : State) (a n : Nat) : State :=
  let live := bootBase (s.get Reg.FLC_BOOT_LIVE)
  let t := s.invalidateBoth a n
  if overlaps a n live 0x40000 then t.invalidateBoth (a + 0x18000000 - live) n else t

/-- Page of an array address: 256 bytes. -/
def pageOf (a : Nat) : Nat := (a - 0x10000000) / 256

/-- Change the record of the pages whose parity bits are not all 1. -/
def State.mark (s : State) (f : List Nat → List Nat) : State := { s with flc := { s.flc with marked := f s.flc.marked } }

/-- The page that a program writes holds its latch, data and parity together (R293). -/
def State.pagePut (s : State) (o : FlcOp) : State :=
  ((s.setBytes o.addr o.latch).flashInval o.addr 256).mark fun m => pageOf o.addr :: m.filter (fun p => p != pageOf o.addr)

/-- The pages of a block hold all ones again. -/
def State.unmark (s : State) (b : Nat) : State := s.mark fun m => m.filter fun p => p / 256 != b

/-- Every bit of a block is 1 (R294). -/
def State.blockErase (s : State) (b : Nat) : State :=
  ((s.clearRange (blockBase b) 0x10000).flashInval (blockBase b) 0x10000).unmark b

/-- A page is blank (R293): every data and parity bit is 1, and `weak` says that some of them are not at the MARGIN1 threshold. -/
def State.blank (s : State) (a : Nat) (weak : Bool) : Bool :=
  !weak && !s.flc.marked.contains (pageOf a) && (s.bytes a 256).all (fun b => b = 0xFF)

/-- The block whose erase is running or suspended. -/
def State.erasing (s : State) : Option Nat :=
  match s.flc.op with
  | some o => if o.op = 2 then some (blockOf o.addr) else none
  | none => none

/-- A byte as the cipher engine, the step loader or another device agent reads it: ones in a block whose erase is running or
suspended (R297); the boot window shows the live region (R36). -/
def State.rbyte (s : State) (a : Nat) : Byte :=
  let x := s.unalias a
  if region x = .flash && s.erasing = some (blockOf x) then 0xFF else s.byte x

/-- `n` such bytes. -/
def State.rbytes (s : State) (a n : Nat) : List Byte := (List.range n).map fun i => s.rbyte (a + i)

/-- A word so read. -/
def State.rword (s : State) (a : Nat) : Word := BitVec.ofNat 32 (leNat (s.rbytes a 4))

/-- What a read of a range by a device agent does: its banks wake (R267), and the flash controller sees it (R296, R297): on the
plane of a running erase it asks for a suspend, and in the block being erased it sets READ_ERASING. -/
def State.rtouch (s : State) (a n : Nat) : State :=
  if n = 0 then s
  else
    let s := s.wakeRange a n
    let x := s.unalias a
    match s.flc.op with
    | some o =>
      if region x != .flash || o.op != 2 || !overlaps x n (0x10000000 + 0x1000000 * planeOf o.addr) 0x1000000 then s
      else
        let s := { s with flc := { s.flc with op := some { o with suspReq := !o.suspended, lastAcc := s.now } } }
        if o.suspended && overlaps x n (blockBase (blockOf o.addr)) 0x10000 then s.put Reg.FLC_STATUS_READ_ERASING 1 else s
    | none => s

/-- A read of a range by a device agent has to wait for the controller: behind a program on its plane, or for the suspend of an erase
(R295, R296). -/
def State.rwaits (s : State) (a n : Nat) : Bool :=
  let x := s.unalias a
  match s.flc.op with
  | some o =>
    n != 0 && region x = .flash && overlaps x n (0x10000000 + 0x1000000 * planeOf o.addr) 0x1000000 &&
    (o.op = 1 || (o.op = 2 && !o.suspended))
  | none => false

/-! ### Codewords (R284 to R287) -/

/-- The codeword that contains a flash address. -/
def codeword (x : Nat) : Nat := x / 64 * 64

/-- A codeword counts as erased: all its data bits are 1, and its page has not been programmed (R285). -/
def State.cwErased (s : State) (x : Nat) : Bool :=
  !s.flc.marked.contains (pageOf x) && (s.bytes (codeword x) 64).all (fun b => b = 0xFF)

/-- What ECC finds in a codeword (R285 to R287): the controller's record of it. An erased one is never counted as corrected. -/
def State.flashEcc (s : State) (x : Nat) (e : Ecc) : State :=
  let cw := BitVec.ofNat 32 (codeword x)
  match e with
  | .clean => s
  | .corrected => if s.cwErased x then s else (s.count Reg.FLC_ECNT_CE).put Reg.FLC_STATUS_CE 1
  | .retried k =>
    ((((s.put Reg.FLC_STATUS_RETRIED 1).put Reg.FLC_RRSTAT_LASTSTEP (k % 8)).setReg Reg.FLC_RRADDR cw)).count Reg.FLC_RRSTAT_COUNT
  | .uncorrectable =>
    (((s.setReg Reg.FLC_UEADDR cw).count Reg.FLC_ECNT_UE).put Reg.FLC_STATUS_UE 1).postTo .c0 145 cw 1

/-- One codeword is read by the cipher engine or the step loader: what ECC finds is free, and an uncorrectable one is noted. In a block being
erased there is no decode (R297). -/
def State.rcode (p : State × List Nat) (x : Nat) : State × List Nat :=
  let s := p.1
  if s.erasing = some (blockOf x) then p
  else
    let e := s.anyEcc
    let t := ({ s with free := s.free + 2 } : State).flashEcc x e
    (t, if e = .uncorrectable then p.2 ++ [x] else p.2)

/-- Such a read of a range: the codewords found uncorrectable. -/
def State.rscan (s : State) (a n : Nat) : State × List Nat :=
  let x := s.unalias a
  if n = 0 || region x != .flash then (s, [])
  else ((List.range ((x % 64 + n + 63) / 64)).map fun i => codeword x + 64 * i).foldl State.rcode (s, [])

/-- Reads of several ranges, in order. -/
def State.rscans (s : State) (rs : List (Nat × Nat)) : State × List Nat :=
  rs.foldl (fun p r =>
    let q := (p.1.rtouch r.1 r.2).rscan r.1 r.2
    (q.1, p.2 ++ q.2)) (s, [])

/-- The bytes that such a read returns: of an uncorrectable codeword the raw data bits, which are free (R287). -/
def State.rgot (s : State) (bad : List Nat) (a n : Nat) : List Byte :=
  (List.range n).map fun i =>
    let x := s.unalias (a + i)
    if bad.contains (codeword x) then Config.lostByte s.free x else s.rbyte (a + i)

/-- Some byte of a range lies in a codeword found uncorrectable. -/
def State.spoilt (s : State) (bad : List Nat) (a n : Nat) : Bool := bad.any fun x => overlaps (s.unalias a) n x 64

/-- An operation that a start abandons (R307): with `keep` a page program is first completed, which leaves a page that is not blank as it is (R293; whether
bits of a blank one are weak is free), and an erase recorded; otherwise the page or block is left undefined and nothing is recorded. -/
def State.flcAbandon (s : State) (keep : Bool) : State :=
  let t := match s.flc.op with
    | none => s
    | some o =>
      if o.op = 1 then
        (if !keep then s.lose o.addr 256
         else if s.blank o.addr (Config.freeNat s.free % 2 = 1) then s.fresh.pagePut o
         else s.fresh)
      else if o.op = 2 then
        let b := blockOf o.addr
        let t := (s.lose (blockBase b) 0x10000).unmark b
        if keep then (t.put Reg.FLC_ABORT_BLOCK b).put Reg.FLC_ABORT_VALID 1 else t
      else s
  { t with flc := { t.flc with op := none, held := [] } }

end Sys2Proof.Machine
end

