-- ==== Sys2Proof/Machine/Image.lean ====
section
/-! DEFINITION. Step-table images (R185, R186): reading and checking one, and copying it into an engine (Table 7-2). -/

namespace Sys2Proof.Machine

/-- The eight words of an image header (Table 7-1), from its bytes. -/
def hdrOf (bs : List Byte) : List Word := (List.range 8).map fun i => BitVec.ofNat 32 (leNat ((bs.drop (4 * i)).take 4))

/-- The header of the image at `a`. -/
def State.imgHdr (s : State) (a : Nat) : List Word := hdrOf (s.rbytes a 32)

def imgFirst (h : List Word) : Nat := bitsOf (h.getD 2 0) 0 16

def imgCount (h : List Word) : Nat := bitsOf (h.getD 2 0) 16 16

def imgKeep (h : List Word) : Bool := bitOf (h.getD 1 0) 18

/-- Length of the image in bytes. -/
def imgLen (h : List Word) : Nat := 32 + 8 * imgCount h

/-- A range lies wholly in one region that the loader reads, in memory that answers (R187, R267). Whether core 0's rights in R187 take in its
PMP, and what a denial would then give, the manual does not say: it is not asked (DESIGN CHOICE, log entry 110). -/
def State.srcOk (s : State) (a n : Nat) : Bool :=
  let r := region a
  (r == Region.sram || r == Region.flash || r == Region.window) && region (a + n - 1) = r && a % 8 = 0 &&
  (r != Region.sram || (List.range 16).all fun b => !overlaps a n (bankBase b) bankSize || !s.bankRefuses (bankBase b))

/-- What is wrong with a header for engine e (R186, Table 7-4): BADHDR, BADTARGET or RANGE. -/
def hdrFault (h : List Word) (e : Nat) : Option Nat :=
  let w := h.getD 1 0
  if h.getD 0 0 != 0x4254584A || bitsOf w 0 16 != 1 || bitsOf w 19 13 != 0 || h.getD 5 0 != 0 ||
      crc32c ((h.take 7).flatMap fun x => leBytes 4 x.toNat) != h.getD 7 0 then some 1
  else if !bitOf w (if e = 16 then 17 else 16) then some 2
  else if imgCount h = 0 || 1024 < imgFirst h + imgCount h || (!imgKeep h && imgFirst h != 0) then some 3
  else none

/-- The result of VERIFY: a code of Table 7-4 if the image at `a`, whose bytes read as `rd` gives, is not valid for engine e (R186,
R187). A CRC over a codeword of `bad`, which are uncorrectable, fails (R287). -/
def State.imgFault (s : State) (rd : Nat → Nat → List Byte) (bad : List Nat) (a e : Nat) : Option Nat :=
  if !s.srcOk a 32 then some 4
  else if s.spoilt bad a 32 then some 1
  else
    let h := hdrOf (rd a 32)
    match hdrFault h e with
    | some k => some k
    | none =>
      if !s.srcOk a (imgLen h) then some 4
      else if s.spoilt bad (a + 32) (8 * imgCount h) || crc32c (rd (a + 32) (8 * imgCount h)) != h.getD 6 0 then some 5
      else none

/-- How much of the image at `a` VERIFY reads: the header, and the body of an image whose header is right. -/
def State.imgSpan (s : State) (a e : Nat) : Nat :=
  let h := s.imgHdr a
  if !s.srcOk a 32 then 0 else if (hdrFault h e).isSome || !s.srcOk a (imgLen h) then 32 else imgLen h

/-- Address of a step word. -/
def stepAddr (e i : Nat) : Nat := 0x30000000 + 0x2000 * e + 8 * i

/-- COPY and CHECK of an image with header `h` and the body read now into engine e (Table 7-2, R190): whether CHECK passed, which it cannot
unless the body was read whole (R287). A failed CHECK leaves HALT in every step and TID 0. -/
def State.imgCopy (s : State) (e : Nat) (h : List Word) (body : List Byte) (whole : Bool) : Bool × State :=
  let t := if imgKeep h then s else s.haltFill e
  let t := (t.setBytes (stepAddr e (imgFirst h)) body).setReg (Reg.REEL_TID e) (h.getD 3 0)
  let ok := whole && crc32c (t.bytes (stepAddr e (imgFirst h)) (8 * imgCount h)) = h.getD 6 0
  (ok, (if ok then t else t.haltFill e).digDirty)

/-- Engine e is loaded with the image that its REEL entry in a set names, or with HALT where the set has none (R389, R391); flash returns what
R285 to R287 give. An image whose header is no longer valid fails as under CHECK (DESIGN CHOICE, log entry 114). -/
def State.loadEntry (s : State) (e : Nat) (c : SetCopy) : Bool × State :=
  match c.find 3 e with
  | some en =>
    let a := (en.getD 1 0).toNat
    let n := s.imgSpan a e
    let (t, bad) := s.rscans [(a, n)]
    let h := hdrOf (s.rgot bad a 32)
    if n ≤ 32 || s.spoilt bad a 32 then (false, (t.haltFill e).digDirty)
    else t.imgCopy e h (s.rgot bad (a + 32) (n - 32)) (!s.spoilt bad a n)
  | none => (true, (s.haltFill e).digDirty)

end Sys2Proof.Machine
end

