-- ==== Sys2Proof/Machine/Start.lean ====
section
/-! DEFINITION. Starts (chapters 1, 16): what a start does to registers that wait or are kept (R8, R430), the Ripcord freeze (R392), the
beginning of a start (R37, R38) and the release of core 0 (R374). -/

namespace Sys2Proof.Machine

/-! ### Registers across a start -/

/-- The waiting writes of the RTC apply; an alarm that they leave armed at or below the count sets PAST (R359, R368). -/
def State.rtcMerge (s : State) : State :=
  let ws := s.waitsFor 28
  let t := (s.mergeWaits 28).onApply s 28
  let hits := [0, 1].filter fun n =>
    ws.any (fun x => Reg.RTC_ALM_LO n ≤ x.addr && x.addr ≤ Reg.RTC_ALMCTL n) && t.flag (Reg.RTC_ALMCTL_ARM n) &&
    t.almTime n ≤ t.rtc.sec
  hits.foldl (fun t n => t.put (Reg.RTC_ALMCTL_PAST n) 1) t

/-- Registers that no start changes: the RTC (R357), the configuration of the pins in the backup domain, the key fuses. -/
def keepAlways (a : Nat) : Bool :=
  (0x40003000 ≤ a && a < 0x40004000) || (Reg.GPIO_CFG 0 ≤ a && a ≤ Reg.GPIO_CFG 3) || a = Reg.SYS_KEYSTAT

/-- The bits of a register that a warm start keeps (R8, R333). -/
def warmKeep (a : Nat) : Word :=
  if keepAlways a || (0x4F000000 ≤ a && a < 0x4F000080) || (0x4F010000 ≤ a && a < 0x4F010080) then 0xFFFFFFFF
  else match regRow? a with
    | some r => r.keep
    | none => 0

/-- Registers hold their Reset words but for the bits kept. -/
def keepBits (m : Nat → Word) (rs : List (Nat × Word)) : List (Nat × Word) :=
  rs.filterMap fun p =>
    let w := mergeBits (regReset p.1) (m p.1) p.2
    if w = regReset p.1 then none else some (p.1, w)

/-- Waiting writes and armed sets of kept fields apply at a warm start, with what they set off in LINK and PWR, and a held switch
fires (R430). LATE, which no warm start keeps, then reads its Reset value (DESIGN CHOICE, log entry 78). -/
def State.warmWrites (s : State) : State :=
  let t := (if s.waits.any (fun x => x.addr = Reg.RTC_TRIM) then s.rtcSync else s).rtcMerge
  let old := t
  let t := t.waits.foldl (fun t x => t.setReg x.addr (mergeBits (t.reg x.addr) (x.mask &&& warmKeep x.addr) x.val)) t
  let t := (t.onApply old 18).onApply old 27
  let arm := fun (t : State) (ps : List (Nat × Word)) =>
    ps.foldl (fun t p => t.setReg p.1 (mergeBits (t.reg p.1) (sMask p.1 &&& warmKeep p.1) p.2)) t
  let t := arm t t.armed
  if t.cfg.held.isSome then
    let t := t.put Reg.CFG_EPOCH_CUR ((t.get Reg.CFG_EPOCH_CUR + 1) % 65536)
    let t := arm t t.shadowDiff
    { t with cfg := { t.cfg with window := t.get Reg.CFG_WIN_WINDOW, switchT := t.now } }
  else t

/-- Registers at a warm start (R8, R430). -/
def State.warmRegs (s : State) : State :=
  let t := s.warmWrites
  let t := { t with
    regs := keepBits warmKeep t.regs
    shadow := keepBits warmKeep t.shadow
    waits := []
    armed := [] }
  t.setReg Reg.CFG_PEND 0

/-- Registers at a cold start (R8, R430): those outside every start stay; whatever waits is discarded. -/
def State.coldRegs (s : State) : State :=
  { s with
    regs := keepBits (fun a => if keepAlways a then 0xFFFFFFFF else 0) s.regs
    shadow := []
    waits := []
    armed := [] }

/-! ### The Ripcord freeze (R392) -/

/-- `ncache` of a core as read (Table 1-5). -/
def Core.ncache (c : Core) : Word := flagAt c.dcen 1 ||| flagAt c.icen 0

/-- What the program of a core that runs has made of its private registers: no command carries it, so that these values are free. PMP and
privilege stay as the commands have left them (log entry 74). -/
def Hart.observed (h : Hart) (n : Nat) : Hart :=
  let w := fun i => Config.freeWord (n + i)
  { h with
    x := (List.range 31).map w
    pc := w 31 &&& 0xFFFFFFFE
    mstatus := w 32
    mtvec := w 33
    mie := w 34
    mscratch := w 35
    mepc := w 36
    mcause := w 37
    mtval := w 38
    minstret := (w 39).toNat + 2 ^ 32 * (w 40).toNat }

/-- The sixteen words of a core; what the program of a core that is not held has made of its private registers is free. -/
def State.snapCore (s : State) (c : CoreId) (cause : Bool) : List Word :=
  let x := s.core c
  let h := if x.run = .held || x.halted then x.hart else x.hart.observed (s.free + 64 * coreNum c)
  [if x.halted then h.dpc else h.pc, h.mcause, h.mepc, h.mtval, h.mstatus, h.mtvec, h.mie, flagAt (s.meip c) 11, h.x.getD 0 0, h.x.getD 1 0,
    (if h.user then 0 else 3) ||| flagAt (x.run = .wfi) 2 ||| flagAt (x.run = .held) 3 ||| flagAt x.halted 4 ||| flagAt cause 5,
    BitVec.ofNat 32 h.minstret, BitVec.ofNat 32 x.mcycle, h.mscratch, x.ncache, s.icolRun c]

/-- The 24 register words of Table 16-9, as read. -/
def State.snapRegs (s : State) : List Word :=
  [s.peek Reg.SYS_MODE, s.peek Reg.PWR_STATUS, s.peek Reg.PWR_DVFSSTAT, s.peek Reg.PWR_HSRES, s.peek Reg.CFG_EPOCH,
    s.peek Reg.CFG_STATUS, s.peek Reg.CFG_PEND, s.peek Reg.REEL_LASTF, s.peek Reg.REEL_STATUS, s.peek Reg.REEL_FLTMAP,
    s.peek Reg.ENV_STATUS, s.peek Reg.ENV_GRUN, s.peek Reg.RFE_STATUS, s.peek Reg.RFE_TXSTAT, s.peek Reg.FLC_STATUS,
    s.peek Reg.LINK_EVC_LO, BitVec.ofNat 32 (s.link.evc / 2 ^ 32), s.peek Reg.TBASE_STATUS, s.peek Reg.MEMC_STATUS,
    s.peek Reg.CIPH_STATUS, s.word attAddr, s.word commitAddr, 0, 0]

/-- The 256 words that a freeze copies, but for the causes. -/
def State.freezeShot (s : State) : List Word :=
  [0x50414E53, BitVec.ofNat 32 (s.start.freezes + 1), 0, BitVec.ofNat 32 s.us, BitVec.ofNat 32 (s.us / 2 ^ 32),
    BitVec.ofNat 32 (s.net % 40), 0, 0] ++ s.snapCore .c0 false ++ s.snapCore .c1 false ++ s.snapRegs ++
    ((List.range 136).map fun i => s.csw (i / 8) (i % 8)) ++ List.replicate 56 0

/-- The same with causes in `SYS_RSTCAUSE` bit positions: the cores that caused it, and the CRC over bytes 0x020 on. -/
def shotCauses (w : List Word) (causes : Word) : List Word :=
  let w := w.set 2 causes
  let w := w.set 18 (w.getD 18 0 ||| flagAt (causes &&& 0x140 != 0) 5)
  let w := w.set 34 (w.getD 34 0 ||| flagAt (causes &&& 0x280 != 0) 5)
  w.set 7 (crc32c ((w.drop 8).flatMap fun w => leBytes 4 w.toNat))

/-- The freeze for causes in `SYS_RSTCAUSE` bit positions. -/
def State.freeze (s : State) (causes : Word) : State :=
  { s with snap := shotCauses s.freezeShot causes, start := { s.start with freezes := s.start.freezes + 1 }, free := s.free + 128 }

/-- A Ripcord cause joins a start at its own instant: both share one freeze (R392). -/
def State.freezeJoin (s : State) (causes : Word) : State :=
  if s.start.shot.isEmpty then s
  else
    { s with
      snap := shotCauses s.start.shot (s.start.causes &&& 0x7C0 ||| causes)
      start := { s.start with freezes := ((s.start.shot.getD 1 0).toNat), toSafe := true } }

/-! ### The beginning of a start -/

/-- The pads stay held through a start, but not through one that follows a loss of power or OFF (R414). -/
def Pins.atStart (p : Pins) (causes : Word) : Pins := if causes &&& 0xF = 0 then p else { p with held := none, pads := [] }

/-- A sleep mode reads until core 0 runs (R334); other forced modes end with the start. -/
def Pwr.asleep (p : Pwr) : Option Nat :=
  match p.forced with
  | some m => if m ≤ 3 then some m else none
  | none => none

/-- The power controller at a warm start: voltage and pace, with what is held, stay (R350). From STANDBY it has raised VCORE to VSEL and
then set PACE (R351). -/
def State.pwrWarm (s : State) : Pwr :=
  let w := { Pwr.reset with
    forced := s.pwr.asleep, mode := s.pwr.mode, prev := s.pwr.prev, vcur := s.pwr.vcur, vto := s.pwr.vto, pcur := s.pwr.pcur,
    pnext := s.pwr.pnext, vset := s.pwr.vset, pset := s.pwr.pset, vheld := s.pwr.vheld, pheld := s.pwr.pheld }
  if s.pwr.vcur = 3 then w.woken else w

/-- The power controller at a cold start: both cores are held, which is DOZE (R334), or a sleep mode still reads. -/
def State.pwrCold (s : State) : Pwr :=
  match s.pwr.asleep with
  | some m => { Pwr.reset with forced := some m, mode := m }
  | none => { Pwr.reset with mode := 4 }

/-- The timebase returns to the FIO and the crystal starts (R42). -/
def Tbase.atStart (tb : Tbase) : Tbase :=
  { tb with src := .fio, xtalOn := true, ready := false, move := false, pll := false, fio := true }

/-- A start takes their current frames from the contexts, whose parse records then read 0 (R224). -/
def State.lanesGone (s : State) : State :=
  (s.lanes.filter fun p => p.2.cur.isSome).foldl (fun s p => s.updLane p.1 Lane.reset) s

/-- The units that every start resets alike. -/
def State.resetUnits (s : State) : State :=
  { s with
    core0 := Core.reset
    core1 := Core.reset
    dbg := (s.dbg.sawReset 0).sawReset 1
    icol0 := Icol.reset
    icol1 := Icol.reset
    ctxs := []
    engs := []
    txq := []
    txOrder := 0
    rfe := Rfe.reset
    lanes := []
    env := Env.reset
    ldr := Loader.reset
    tb := s.tb.atStart
    upd := Upd.reset
    host := { Hostif.reset with cs := s.host.cs, asleep := s.host.asleep }
    uart0 := ⟨[], [], 0⟩
    uart1 := ⟨[], [], 0⟩
    spic0 := Serial.reset
    spic1 := Serial.reset
    i2c0 := Serial.reset
    i2c1 := Serial.reset
    sadc := ⟨none, []⟩
    tmrs := []
    wdt0 := ⟨0, false, none⟩
    wdt1 := ⟨0, false, none⟩
    evl := ⟨s.now, []⟩ }

/-- A bank test that a warm start abandons (R274): how many of the spares that were free it had assigned and already retested is free; the
manual gives no register of it. -/
def State.testAbort (s old : State) : State :=
  match s.memc.test with
  | some b =>
    let n := Config.freeNat s.free % (old.spares b + 1)
    let t := (s.put (Reg.MEMC_REPAIR_SOFT b) (old.get (Reg.MEMC_REPAIR_SOFT b) + n)).fresh
    ((t.bankZero b).put Reg.MEMC_TSTAT_BANK b).put Reg.MEMC_TSTAT_CODE 4
  | none => s

/-- HALT with COND NEVER, as the eight bytes of a step word (R183). -/
def haltBytes : List Byte := [0, 0, 0, 0, 0, 0, 0, 0xFC]

/-- A load that a start interrupts in COPY: the steps that it had not written keep their contents (R183). Which those are is free, since
the manual states no order of copying (log entry 27). -/
def State.partCopy (s : State) (e a : Nat) (h : List Word) : State :=
  let took := fun i => Config.freeNat (s.free + i) % 2 = 1
  let mine := fun i => imgFirst h ≤ i && i < imgFirst h + imgCount h
  let t := forN 1024 (fun t i =>
    if !took i then t
    else if mine i then t.setBytes (stepAddr e i) (s.rbytes (a + 32 + 8 * (i - imgFirst h)) 8)
    else if imgKeep h then t
    else t.setBytes (stepAddr e i) haltBytes) s
  let t := if took 1024 then t.setReg (Reg.REEL_TID e) (h.getD 3 0) else t
  { t with free := s.free + 1025 }

/-- An engine whose load had begun and not completed when a pause or LOAD was interrupted holds HALT (R391); how many loads of a pause
were complete is free. One that the loader was copying on its own account keeps the steps not yet written. -/
def State.loadAbandon (s old : State) : State :=
  if old.upd.phase = .pause then
    let es := old.upd.engines
    let k := Config.freeNat old.free % (es.length + 1)
    let t := (es.take k).foldl (fun t e => (t.loadEntry e old.live).2) s
    (match es[k]? with
      | some e => t.haltFill e
      | none => t).fresh
  else match old.upd.doing with
    | some e => s.haltFill e
    | none => if old.loading old.ldr.eng then s.partCopy old.ldr.eng old.ldr.src old.ldr.hdr else s

/-- Watchdog c runs and has counted `n`/10 of its timeout on a slow RC that is 10% fast (R409). An expiry wins over a kick of the same
instant: it goes by the count that the kick took away. -/
def State.wdtReached (s : State) (c n : Nat) : Bool :=
  let w := s.wdt c
  let ticks := match w.kick with
    | some (t, k) => if n = 10 && t = s.now then max k w.ticks else w.ticks
    | none => w.ticks
  s.flag (Reg.WDT_CTL_EN c) && 3600 * n * s.wdtTo c ≤ ticks

/-- A core runs and debug does not hold it. -/
def Core.active (c : Core) : Bool := c.run = .running && !c.halted

/-- The Ripcord causes of cores and watchdogs that may come now: those that stand open, and at the instant of a start those that stood
open as it began (R38, R392). -/
def State.couldRip (s : State) : Word :=
  flagAt (s.wdtReached 0 10) 6 ||| flagAt (s.wdtReached 1 10) 7 ||| flagAt s.core0.active 8 ||| flagAt s.core1.active 9 |||
  (if s.start.busy && s.now = s.start.began then s.start.could else 0)

def State.ripCould (s : State) (cause : Word) : Bool := s.couldRip &&& cause != 0

/-- The dwell buckets that a warm start keeps: a reset that changes W clears them (R223). -/
def State.dwellKept (s old : State) : List Charge :=
  if s.get Reg.LINK_DWCFG_W = old.get Reg.LINK_DWCFG_W then s.link.dwell else []

/-- A warm start begins (R37, R40, R430): causes in `SYS_RSTCAUSE` bit positions; the freeze, if any, has been taken. -/
def State.warmBegin (s : State) (causes : Word) (toSafe : Bool) : State :=
  let wake := causes &&& 0x20 != 0
  let t := (s.link.thru.foldl (fun t p => t.carryThru p.1) (s.flcAbandon true)).warmRegs
  let t := ((t.testAbort s).loadAbandon s).lanesGone.resetUnits
  let t := { t with
    cfg := { Cfg.reset with sched := s.cfg.sched, window := t.cfg.window, switchT := t.cfg.switchT }
    link := { t.link with setPend := none, adj := none, deliv := [], thru := [], dwell := t.dwellKept s }
    ciph := { Ciph.reset with
      keys := if wake then s.ciph.keys else []
      dkReady := false }
    memc := { t.memc with banks := t.memc.banks.filter (fun p => t.bankBad p.1), trans := [], test := none, asked := [] }
    pwr := t.pwrWarm
    pins := t.pins.atStart causes
    start := { t.start with
      busy := true, cold := false, toSafe := toSafe, began := s.now, safe := false, recovery := false, rxbusy := false,
      rcal := true, rcalT := false, deferEnv := false, req := 0, dump := none
      nbrKept := s.bank 18 == BankSt.on || s.bank 18 == BankSt.ret
      causes := causes, could := s.couldRip
      shot := if toSafe then s.snap else if s.start.safe then [] else s.freezeShot }
    free := t.free + 128 }
  let t := { t with start := { t.start with rcal := t.unusable?.isSome } }
  t.setReg Reg.SYS_RSTCAUSE (t.reg Reg.SYS_RSTCAUSE ||| causes)

/-- A cold start begins (R37, R40, R183, R194, R201, R430). -/
def State.coldBegin (s : State) (causes : Word) : State :=
  let t := (s.rtcSync.flcAbandon false).coldRegs.resetUnits
  let t := t.clearRange 0x30000000 0x22000
  let t := { t with
    now := 0
    cfg := Cfg.reset
    dbg := Debug.reset
    tap := if bitOf causes 0 then Tap.reset else t.tap
    link := Link.reset
    tb := { t.tb with lfcalok := false, edge := 0, rem := 0 }
    rtc := { t.rtc with since := 0 }
    ciph := { Ciph.reset with dkReady := false }
    memc := ⟨[], [], none, s.memc.bad, [], []⟩
    pwr := s.pwrCold
    pins := t.pins.atStart causes
    snap := []
    start := { Start.reset with
      busy := true, cold := true, rxbusy := false, backupLost := s.start.backupLost, causes := causes, could := s.couldRip } }
  t.setReg Reg.SYS_RSTCAUSE causes

/-- A start cause arrives (R37, R38, R392, R393): `rip` for Ripcord causes, which freeze and lead to SAFE unless the device is in SAFE
or a start is in progress. Causes that arrive at the instant at which a start began came together with it: each sets its bit, the
start is cold if one of them is, and Ripcord causes among them share one freeze. -/
def State.startBegin (s : State) (cold : Bool) (causes : Word) (rip : Bool) : State :=
  let together := s.start.busy && s.now = s.start.began
  if cold then s.coldBegin (causes ||| (if together then s.start.causes else 0))
  else if s.start.busy then
    let t := s.setReg Reg.SYS_RSTCAUSE (s.reg Reg.SYS_RSTCAUSE ||| causes)
    if together then
      let t := if rip then t.freezeJoin causes else t
      { t with start := { t.start with causes := t.start.causes ||| causes } }
    else t
  else if rip && !s.start.safe then (s.freeze causes).warmBegin causes true
  else s.warmBegin causes false

/-! ### The release of core 0 (R374) -/

/-- Used and free spares of a bank in `MEMC_REPAIR` (Table 11-17), of the four of each bank. -/
def State.repairSet (s : State) (b fused soft : Nat) : State :=
  s.setReg (Reg.MEMC_REPAIR b) (numAt (4 - (fused + soft)) 8 ||| numAt soft 4 ||| numAt fused 0)

/-- What the held steps of a cold start leave in MEMC (R271, R279). -/
def State.coldMem (s : State) (f : ColdFindings) : State :=
  let s := forN 20 (fun s b => s.bankZero b) s
  let s := forN 20 (fun s b => if f.badBanks.getLsbD b then s.bankFail b else s) s
  let of := fun (ps : List (Nat × Nat)) b => ((ps.find? fun p => p.1 = b).map Prod.snd).getD 0
  let s := forN 20 (fun s b => s.repairSet b (of f.fused b) (of f.soft b)) s
  let s := { s with memc := { s.memc with bad := f.uncorrectable, fused := f.fused } }
  let s := f.corrected.foldl (fun s _ => (s.count Reg.MEMC_BCNT_CE).put Reg.MEMC_STATUS_BCE 1) s
  let s := f.uncorrectable.foldl (fun s a =>
    ((s.count Reg.MEMC_BCNT_UE).put Reg.MEMC_STATUS_BUE 1).setReg Reg.MEMC_BERR (BitVec.ofNat 32 a)) s
  s.put Reg.MEMC_STATUS_SCANDONE 1

/-- Steps 3 to 8 of Table 16-1 as far as they are held: memories, device keys, RTC restore. -/
def State.coldSteps (s : State) (f : ColdFindings) : State :=
  let s := s.coldMem f
  let s := { s with ciph := { s.ciph with dkReady := !s.ciph.halted } }
  if s.start.backupLost then ({ s with start := { s.start with backupLost := false } } : State).snapRestore else s

/-- Ballast words that the device reads at every start, RXNEXT of the replay mirror among them (R237, R304, R377, R381). -/
def startReads (a : Nat) : Bool :=
  a = commitAddr || a = finishedAddr || (copyAddr 0 ≤ a && a < copyAddr 2) || a = selAddr || a = attAddr ||
  (rxWord 0 ≤ a && a < rxWord 1024)

/-- The errors that the reads of a warm start meet (R276): the command's findings name them too (DESIGN CHOICE, log entry 115). Those of a cold
start the scan has met. -/
def State.warmErrors (s : State) (f : ColdFindings) : State :=
  let new := (f.uncorrectable.filter fun a => startReads a && !s.nvBad a)
  let s := { s with memc := { s.memc with bad := s.memc.bad ++ new } }
  (f.corrected.filter startReads).foldl (fun s _ => (s.count Reg.MEMC_BCNT_CE).put Reg.MEMC_STATUS_BCE 1) s

/-- Steps 9 to 11: journal, start count, boot selector. The answer says whether the recovery loader is entered. -/
def State.bootSteps (s : State) : Bool × State :=
  let s := s.journalFix.rollForward
  let (rec_, s) := s.startCount s.start.toSafe
  (rec_, s.bootRead.setMirror)

/-- The recovery loader enables the mailbox with its memory frames, and UART0 (R401). -/
def State.recoveryOn (s : State) : State :=
  let s := (s.put (Reg.GPIO_CFG_FUNC 4) 1).put (Reg.GPIO_CFG_FUNC 5) 1
  ((s.put Reg.HOSTIF_CTL_EN 1).put Reg.HOSTIF_CTL_MEMEN 1).put (Reg.UART_CTL_EN 0) 3

/-- Step 12: core 0 runs at boot ROM, or in SAFE at `SYS_RIPVEC`; the replay mirror load begins (R376). -/
def State.coreRelease (s : State) (rec_ : Bool) : State :=
  let st := s.start
  let dur := min 0xFFFF ((s.now - st.began) / 40)
  let s := s.setReg Reg.SYS_STARTSTAT ((s.reg Reg.SYS_STARTSTAT &&& 0x10) ||| numAt dur 16 |||
    flagAt (!st.cold && !st.rcal) 3 ||| flagAt st.cold 0)
  let s := { s with
    start := { st with
      busy := false, causes := 0, could := 0, shot := [], safe := st.toSafe, recovery := rec_, rxbusy := true, dump := none }
    pwr := { s.pwr with
      forced := if st.toSafe then some 11 else none
      mode := if st.cold && s.pwr.forced.isNone then 5 else s.pwr.mode } }
  let s := if rec_ then s.recoveryOn else s
  s.coreStart .c0 (if st.toSafe then s.reg Reg.SYS_RIPVEC else 0)

/-- Boot ROM reads the header (R284 to R287, R380): the entry address that a valid one gives. -/
def State.bootHead (s : State) : Option Word × State :=
  let (t, bad) := s.rscan 0x18000000 16
  (if bad.isEmpty then s.bootEntry else none, t)

/-- Boot ROM's check of the header (R380): it jumps to the entry, or asks for a device warm start. -/
def State.bootCheck (s : State) : State :=
  if s.start.safe || s.start.recovery then s
  else
    let (e, s) := s.bootHead
    match e with
    | some a => { s with core0 := { s.core0 with start := a } }
    | none => s.startBegin false 0x800 false

/-- The held steps are complete (R374). -/
def State.releaseCore0 (s : State) (f : ColdFindings) : State :=
  if !s.start.busy then s
  else
    let s := if s.start.cold then s.coldSteps f else s.warmErrors f
    let (rec_, s) := s.bootSteps
    (s.coreRelease rec_).settle.bootCheck

end Sys2Proof.Machine
end

