-- ==== Sys2Proof/Machine/Sleep.lean ====
section
/-! DEFINITION. Sleep (chapter 14): the choice of a mode (R340), the entry handshake (R342 to R345), wakes (R346, R347), HOVER (R352 to
R355); and what every command ends with when wakes or Ripcord causes may have arisen. -/

namespace Sys2Proof.Machine

/-! ### Known events (R339) -/

/-- Time of `PWR_WAKEAT` in µs: the first at or after the write whose bits [47:0] match. -/
def State.wakeatUs (s : State) : Option Nat :=
  if s.flag Reg.PWR_WAKEAT_HI_EN then
    let v := s.get Reg.PWR_WAKEAT_HI_HI * 2 ^ 32 + (s.reg Reg.PWR_WAKEAT_LO).toNat
    let b := s.pwr.wakeatT
    some (b + (v + 2 ^ 48 - b % 2 ^ 48) % 2 ^ 48)
  else none

/-- µs until a time, 0 when it has passed. -/
def State.usTo (s : State) (us : Nat) : Nat := us - s.us

/-- µs until the next slot start while it is a known event. -/
def State.slotKnown (s : State) : Option Nat :=
  if s.flag Reg.PWR_SLEEPCFG_SLOTEV then some ((s.link.nextT - s.now) / 40) else none

/-- µs until alarm n next fires, if it is armed and enabled as a wake source. -/
def State.alarmKnown (s : State) (n : Nat) : Option Nat :=
  if s.flag (Reg.RTC_ALMCTL_ARM n) && bitOf (s.reg Reg.PWR_WAKEEN) (2 + n) && s.rtc.sec < s.almTime n then
    some ((s.almTime n - s.rtc.sec) * 1000000 - s.rtcFrac * 1000000 / 65536)
  else none

/-- The smallest of the numbers that are known. -/
def least (l : List (Option Nat)) : Option Nat :=
  l.foldl (fun a b => match a, b with
    | none, b => b
    | a, none => a
    | some x, some y => some (min x y)) none

/-- µs until the earliest known event. -/
def State.tNext (s : State) : Option Nat :=
  least [s.wakeatUs.map s.usTo, s.slotKnown, s.alarmKnown 0, s.alarmKnown 1]

/-- The controller's choice (R340): a target mode, or none to remain in DOZE. -/
def State.autoChoice (s : State) : Option Nat :=
  let r := if (s.eng 16).run then 3 else 2
  let cap := s.get Reg.PWR_SLEEPCFG_CAP
  let timed := s.wakeatUs.isSome || s.slotKnown.isSome
  let fits := fun rtt => match s.tNext with
    | none => true
    | some t => rtt + s.get Reg.PWR_SLEEPCFG_MARGIN ≤ t
  if cap = 3 && !timed && fits 50000 then some 0
  else if 2 ≤ cap && !timed && fits 50000 then some 1
  else if 1 ≤ cap && fits 1060 then some r
  else none

/-! ### The handshake (R342 to R344) -/

/-- A domain's answer: reasons are codes of Table 14-3, with the epoch unit that gives them. -/
inductive Answer where
  | grant
  | delay (code unit : Nat)
  | refuse (code unit : Nat)
  deriving DecidableEq, Repr

/-- A range of memory touches only retained banks (R352). -/
def State.rangeRetained (s : State) (a n : Nat) : Bool :=
  (List.range 20).all fun b => !overlaps a n (bankBase b) bankSize || s.retained b

/-- Records in delivery ring c (Table 9-10). -/
def State.ringSize (s : State) (c : Nat) : Nat := min 256 (s.get (Reg.LINK_RCFG_SIZE c))

/-- `MEMC_RETSEL` retains all that R352 requires. -/
def State.retOk (s : State) : Bool :=
  s.retained 17 && s.retained 19 &&
  ([0, 1].all fun c => s.ringSize c = 0 || s.rangeRetained (64 * s.get (Reg.LINK_RBASE_ADDR c)) (320 * s.ringSize c)) &&
  ([CoreId.c0, CoreId.c1].all fun c => !s.flag (Reg.ICOL_CTL_EN (coreNum c)) ||
    s.rangeRetained (16 * s.get (Reg.ICOL_RBASE_ADDR (coreNum c))) (128 * s.icolDepth c))

/-- Answer of domain d to an entry into `target`, each unit in the canonical order of R28. No epoch unit stands for the debug
module, so the unit that a DEBUG refusal names is free. -/
def State.answer (s : State) (d target : Nat) : Answer :=
  match d with
  | 1 =>
    if s.flag Reg.RFE_CTL_EN && target != 3 then .refuse 2 16
    else if (s.eng 16).run && target != 3 then .refuse 3 16
    else if target = 3 && !(s.eng 16).run then .refuse 4 16
    else if s.rfe.holder.isSome then .delay 5 16
    else if s.env.st != .off then .refuse 1 17
    else .grant
  | 2 =>
    if s.ciph.cur.isSome then .delay 7 26
    else if s.dbg.dmactive then .refuse 6 (Config.freeNat s.free % 32)
    else .grant
  | 3 =>
    if !s.periphQuiet then .delay 9 30
    else if s.tmrs.any (fun p => p.2.due.isSome) then .refuse 8 30
    else .grant
  | _ =>
    if target = 3 && !s.retOk then .refuse 10 25
    else if !(s.memc.trans.isEmpty && s.memc.test.isNone) then .delay 12 25
    else if s.flc.op.isSome then .delay 11 24
    else .grant

/-- The result of a handshake (Table 14-10). -/
def hsWord (code unit domain target : Nat) : Word := numAt target 24 ||| numAt domain 16 ||| numAt unit 8 ||| numAt code 0

/-- A refusal or timeout is recorded and posted (R344): `high` is 1 for a refusal and 2 for a timeout. -/
def State.hsReport (s : State) (code unit domain target high : Nat) : State :=
  let w := hsWord code unit domain target
  ((s.setReg Reg.PWR_HSRES w).put Reg.PWR_STATUS_REFUSED 1).postBoth 149 w (BitVec.ofNat 32 high)

/-- What the radio cluster has held back while it was quiesced goes on (R342, R344): the RFE starts, transmits claim, engines start, engine 16
stops. -/
def State.radioGo (s : State) : State :=
  let s := s.rfeTryStart.claimWaiting
  let s := if s.start.rxbusy then s else s.waitedStarts
  let g := s.eng 16
  if g.run && !s.flag Reg.REEL_E16CTL_RUN then s.setEng 16 { g with stopping := true } else s

/-- The Envelope starts if it is enabled and off, which a sleep entry alone leaves so. -/
def State.envGo (s : State) : State :=
  if s.flag Reg.ENV_CTL_EN && s.env.st = .off && !s.start.rcalT then s.envOn else s

/-- What every domain has held back goes on (R342, R344). -/
def State.heldGo (s : State) : State :=
  let s := s.radioGo.envGo
  let t := { s with memc := { s.memc with asked := [] } }
  s.memc.asked.foldl (fun t p => t.bankMove p.1 p.2) t

/-- An entry ends without being made (R341, R344): the domains that granted return to their prior state, core 1 starts if that was asked
meanwhile, and a wake task latched during the entry resumes the cores that it names (R347). -/
def State.hsEnd (s : State) (code unit domain target high : Nat) (auto : Bool) : State :=
  let task := bitOf (s.pwr.wakeReq ||| s.pwr.wakeGot) 8
  let cores := s.pwr.wakeCores
  let s := { s with pwr := { s.pwr with
    hs := none
    wakePend := false
    wakeReq := 0
    wakeCores := 0
    wakeGot := 0
    autoBlocked := s.pwr.autoBlocked || auto } }
  let s := (s.hsReport code unit domain target high).heldGo
  let s := if s.flag Reg.SYS_C1CTL_RUN && s.core1.run = .held then s.coreStart .c1 (s.coreVec .c1) else s
  if task then s.wakeTask cores else s

/-- A suspended erase resumes for the handshake (R308, R343). -/
def State.flcResume (s : State) : State :=
  match s.flc.op with
  | some o =>
    if o.suspended then { s with flc := { s.flc with op := some { o with suspended := false, suspReq := false } } } else s
  | none => s

/-- Ask the domains from the one that `h` names on, until one delays or refuses or all have granted. -/
def State.hsAsk (s : State) (h : Hs) : Nat → State
  | 0 => { s with pwr := { s.pwr with hs := some { h with domain := 4, delay := none, granted := true } } }
  | n + 1 =>
    match s.answer h.domain h.target with
    | .grant => s.hsAsk { h with domain := h.domain + 1, delay := none } n
    | .delay code unit =>
      let s := if code = 11 then s.flcResume else s
      { s with pwr := { s.pwr with hs := some { h with delay := some (code, unit), delayFrom := s.now } } }
    | .refuse code unit => s.hsEnd code unit h.domain h.target 1 h.auto

/-- The handshake begins (R342). -/
def State.hsBegin (s : State) (target : Nat) (auto : Bool) : State :=
  let s := { s with pwr := { s.pwr with cmd := none, target := target, wakePend := false, wakeReq := 0, wakeCores := 0, wakeGot := 0 } }
  s.hsAsk ⟨target, auto, 1, none, 0, s.now, false⟩ 4

/-- Both cores have become quiescent (R338, R340): an explicit request is carried out, otherwise the controller may choose. -/
def State.sleepTry (s : State) : State :=
  if s.quiet && s.pwr.forced.isNone && s.pwr.hs.isNone && !s.start.busy then
    match s.pwr.cmd with
    | some m => s.hsBegin m false
    | none =>
      if s.flag Reg.PWR_SLEEPCFG_EN && !s.pwr.autoBlocked && !s.dbg.dmactive then
        match s.autoChoice with
        | some m => s.hsBegin m true
        | none => s
      else s
  else s

/-- An explicit request that came during an entry now ended is carried out if both cores are still quiescent (R338). -/
def State.cmdTry (s : State) : State := if s.pwr.hs.isNone && s.pwr.cmd.isSome then s.sleepTry else s

/-- The delay of the entry so far, in ticks. -/
def State.hsDelay (s : State) (h : Hs) : Nat := h.delayT + (if h.delay.isSome then s.now - h.delayFrom else 0)

/-- A domain that answered DELAY is asked again (R343). -/
def State.hsAgain (s : State) : State :=
  match s.pwr.hs with
  | some h => if h.delay.isSome then (s.hsAsk { h with delayT := s.hsDelay h } (5 - h.domain)).cmdTry else s
  | none => s

/-- The delays have exceeded DLYMAX (R343). -/
def State.hsExpired (s : State) (h : Hs) : Bool :=
  h.delay.isSome && 40000 * max 1 (s.get Reg.PWR_HSCFG_DLYMAX) < s.hsDelay h

def State.hsTimeout (s : State) : State :=
  match s.pwr.hs with
  | some h => if s.hsExpired h then (s.hsEnd 13 ((h.delay.map Prod.snd).getD 0) h.domain h.target 2 h.auto).cmdTry else s
  | none => s

/-- While `dmcontrol.dmactive` is 1 the device enters no mode deeper than DOZE (R25): the core cluster refuses an entry in progress, and then
an explicit request that came meanwhile (R338). -/
def State.hsDebug (s : State) : State :=
  match s.pwr.hs with
  | some h => (s.hsEnd 6 (Config.freeNat s.free % 32) 2 h.target 1 h.auto).fresh.cmdTry
  | none => s

/-! ### HOVER (R353 to R355) -/

/-- Engine 16 is idle in the sense of R353. -/
def State.hoverIdle (s : State) : Bool :=
  s.allWait 16 && !s.flag Reg.RFE_SPCTL_EN && s.rfe.holder.isNone && s.sadc.cur.isNone

/-- The earliest WAITT target or context timer of an engine. -/
def State.engCompare (s : State) (e : Nat) : Option Nat :=
  least ((List.range (nctx e)).flatMap fun c =>
    let x := s.ctx e c
    [x.timer, match x.st, x.wait with
      | .waiting, .time t => some t
      | _, _ => none])

/-- The crystal is wanted whatever the next compare (R354). -/
def State.hoverWants (s : State) : Bool :=
  ((List.range 4).any fun c =>
    let x := s.ctx 16 c
    match x.st, x.wait with
    | .waiting, .ev m => bitOf m 24
    | _, _ => false) ||
  s.flag Reg.RFE_SPCTL_EN || s.txq.any (fun e => !e.released) || s.rfe.holder.isSome || !s.rfe.waiting.isEmpty

/-- The next compare lies within a number of µs. -/
def State.hoverNear (s : State) (us : Nat) : Bool :=
  match s.engCompare 16 with
  | some t => t ≤ s.now + 40 * us
  | none => false

/-- The crystal starts in HOVER. -/
def State.hoverXtalOn (s : State) : State :=
  if s.hoverWants || s.hoverNear (s.get Reg.PWR_HOVCFG_XLEAD) then { s with tb := { s.tb with xtalOn := true } } else s

/-- The RFE is off while the crystal is stopped in HOVER (R354). -/
def State.hoverXtalOff (s : State) : State :=
  let s := if s.rfe.st = .off then s else s.rfeStop
  s.xtalStop

/-- In HOVER the crystal stops when nothing wants it (R354), but not while the 32.768 kHz crystal gives no edges (R199). -/
def State.hoverStep (s : State) : State :=
  if s.pwr.forced = some 3 && s.tb.xtalOn && s.tb.lfok && !s.hoverWants && !s.hoverNear (s.get Reg.PWR_HOVCFG_XLEAD + 1000) then
    s.hoverXtalOff
  else s

/-- The sub-state follows engine 16 (R353): VCORE at 0.60 V active, at the retention level idle. -/
def State.hoverSub (s : State) : State :=
  let act := !s.hoverIdle
  if act && !s.pwr.hovActive then
    let s := s.count Reg.PWR_HOVSTAT_ACTIVE
    { s with pwr := { s.pwr with hovActive := true, vcur := 2, vto := none } }
  else if !act && s.pwr.hovActive then { s with pwr := { s.pwr with hovActive := false, vcur := 3, vto := none } }
  else s

/-- The earliest timed compare that wakes the FIO: a slot start, or a WAITT target or a context timer of an engine that runs (R198). -/
def State.nextCompare (s : State) : Nat :=
  match least ((List.range 17).map fun e => if (s.eng e).run then s.engCompare e else none) with
  | some t => min t s.link.nextT
  | none => s.link.nextT

/-- A burst of the FIO ends once no compare falls due within 122 µs (R198). -/
def State.fioStep (s : State) : State :=
  if !s.awake && !s.tb.xtalOn && s.tb.lfok && s.tb.src = .fio && s.now + 4880 < s.nextCompare then
    let s := s.carryOn
    { s with tb := { s.tb with fio := false } }
  else s

/-! ### A mode is reached (R336, R345) -/

/-- The pads of GPIO4 to GPIO39 are held as they are; an earlier hold stays (R414). -/
def State.padHold (s : State) : State :=
  if s.pins.held.isSome then s
  else { s with pins := { s.pins with
    held := some ((List.range 36).map fun j => s.padReg (4 + j))
    pads := (List.range 36).map fun j => s.reg (Reg.GPIO_CFG (4 + j)) &&& 0xF0 } }

/-- The power changes of a sleep mode (Table 14-1), and the mode is reached. The 40 MHz crystal stays on while the 32.768 kHz crystal
gives no edges (R199). -/
def State.sleepReach (s : State) (m : Nat) : State :=
  let s := s.setReg Reg.PWR_HSRES (hsWord 0 0 0 m)
  let s := s.banksTo fun b => if 2 ≤ m && s.retained b then .ret else .off
  let s := if m = 0 then s else s.padHold
  let s := if m = 3 || !s.tb.lfok then s else s.hoverXtalOff
  let s := if m ≤ 1 then { s with ciph := { s.ciph with keys := [], dkReady := false } } else s
  let s := { s with pwr := { s.pwr with
    forced := some m, hs := none, vcur := 3, vto := none, pcur := 2, pnext := none,
    hovActive := false } }
  let s := if s.tb.xtalOn then s else { s with tb := { s.tb with fio := false } }
  if m = 3 then s.radioGo.hoverSub else s

/-! ### Wakes (R346, R347) -/

/-- The sources that Table 14-4 lists for a mode. -/
def wakeListed (m : Nat) : Word :=
  match m with
  | 0 => 0x0FC
  | 1 => 0x4FC
  | _ => 0x7FF

/-- A wake from HOVER (R346): `named` the cores that R347 names, if nothing else woke the device. -/
def State.hoverWake (s : State) (named : Option Nat) : State :=
  let s := s.banksTo fun _ => .on
  let s := { s with pwr := { s.pwr.woken with forced := none, hovActive := false } }
  let s := if s.tb.xtalOn then s
    else { s with tb := { s.tb with src := .fio, xtalOn := true, ready := false, move := false, pll := false, fio := true } }
  let starts := fun (c : CoreId) => match named with
    | some m => m.testBit (coreNum c)
    | none => true
  let s := if starts .c0 then s.coreStart .c0 (s.coreVec .c0) else s
  let s := if starts .c1 && s.flag Reg.SYS_C1CTL_RUN then s.coreStart .c1 (s.coreVec .c1) else s
  s.envGo.postBoth 149 (s.reg Reg.PWR_WAKESRC) 3

/-- `PWR_WAKESRC` records sources. -/
def State.wakeNote (s : State) (hit : Word) : State := s.setReg Reg.PWR_WAKESRC (s.reg Reg.PWR_WAKESRC ||| hit)

/-- The device wakes from mode m. -/
def State.wake (s : State) (m : Nat) (hit : Word) (cores : Nat) : State :=
  match m with
  | 3 => (s.wakeNote hit).hoverWake (if hit = 0x100 then some cores else none)
  | 2 => (s.startBegin false 0x20 false).wakeNote hit
  | 1 => (s.startBegin true 0x10 false).wakeNote hit
  | _ => (s.startBegin true 8 false).wakeNote hit

/-- The wake sources met: those of the command, and eligible records. -/
def State.wakeMet (s : State) : Word :=
  s.pwr.wakeReq ||| (if (s.eligible .c0).isEmpty && (s.eligible .c1).isEmpty then 0 else 0x200)

/-- Wake sources take effect (R345 to R347): asleep they wake the device, and so do those latched in the entry, whatever `PWR_WAKEEN` now says;
during an entry they are latched, awake they are nothing. -/
def State.wakeStep (s : State) : State :=
  let req := s.wakeMet
  let cores := s.pwr.wakeCores
  let off := { s with pwr := { s.pwr with wakeReq := 0, wakeCores := 0, wakeGot := 0 } }
  match s.pwr.asleep, s.pwr.hs with
  | some m, _ =>
    let hit := s.pwr.wakeGot ||| (req &&& s.reg Reg.PWR_WAKEEN &&& wakeListed m)
    if hit = 0 || s.start.busy then off else { off with pwr := { off.pwr with wakePend := false } }.wake m hit cores
  | none, some h =>
    let hit := s.pwr.wakeGot ||| (req &&& s.reg Reg.PWR_WAKEEN &&& wakeListed h.target)
    if hit = 0 then off
    else { s.wakeNote hit with pwr := { s.pwr with wakeReq := 0, wakeGot := hit, wakePend := true } }
  | none, none => off

/-- A Ripcord cause met within the command (R179, R392). -/
def State.ripStep (s : State) : State :=
  if s.start.req = 0 then s
  else
    let c := s.start.req
    ({ s with start := { s.start with req := 0 } } : State).startBegin false c true

/-- The outcome of a command that may bring units to their boundaries, wake the device or raise a Ripcord cause. -/
def doneW (s : State) : Host.Outcome State Fault Refusal := done s.boundaries.settle.hoverStep.fioStep.wakeStep.ripStep

end Sys2Proof.Machine
end

