-- ==== Sys2Proof/Machine/Reset.lean ====
section
/-! DEFINITION. Meanings of the start commands (chapters 1, 16) and of the watchdogs (R409). -/

namespace Sys2Proof.Machine

/-- POWER_ON_RESET (R37, R38): a cold start with cause POR. -/
def execPowerOnReset (s : State) : Host.Outcome State Fault Refusal :=
  done (s.startBegin true 1 false)

/-- NRST_LOW (R37, R38): a cold start with cause NRST. -/
def execNrstLow (s : State) : Host.Outcome State Fault Refusal :=
  done (s.startBegin true 2 false)

/-- BROWNOUT (R37, R38): a cold start with cause BOR. -/
def execBrownout (s : State) : Host.Outcome State Fault Refusal :=
  done (s.startBegin true 4 false)

/-- The backup domain is reset (R357): the RTC, the configuration of pins 0 to 3, the 32.768 kHz crystal's start. -/
def State.backupReset (s : State) : State :=
  { s with
    regs := s.regs.filter fun p => !(keepAlways p.1 && p.1 != Reg.SYS_KEYSTAT)
    waits := s.waits.filter fun x => !(keepAlways x.addr)
    rtc := { Rtc.reset with vbkpLow := true }
    tb := { s.tb with lfok := false, src := if s.tb.src = .carry then .fio else s.tb.src, fio := s.tb.fio || s.tb.src == .carry }
    start := { s.start with backupLost := true } }

/-- BACKUP_DOMAIN_RESET (R357). -/
def execBackupDomainReset (s : State) : Host.Outcome State Fault Refusal := done s.backupReset

/-- A write of `SYS_SWRST` (Table 1-14): a warm start with cause SWRST, or the restart of one core (R39). -/
def State.swrst (s : State) (key : BitVec 16) (scope : Nat) : State :=
  if key != 0x5AFE then s
  else match scope with
    | 0 => s.startBegin false 0x800 false
    | 1 => s.coreReset .c0
    | 2 => s.coreReset .c1
    | _ => s

/-- SOFTWARE_RESET_DEVICE (R37). -/
def execSoftwareResetDevice (key : BitVec 16) (s : State) : Host.Outcome State Fault Refusal := done (s.swrst key 0)

/-- CORE0_RESET (R39). -/
def execCore0Reset (key : BitVec 16) (s : State) : Host.Outcome State Fault Refusal := done (s.swrst key 1)

/-- CORE1_RESET (R39): nothing happens while `SYS_C1CTL.RUN` is 0. -/
def execCore1Reset (key : BitVec 16) (s : State) : Host.Outcome State Fault Refusal := done (s.swrst key 2)

/-- DEBUG_NDMRESET (R25, R37): a warm start with cause DBGRST. -/
def execDebugNdmreset (s : State) : Host.Outcome State Fault Refusal :=
  done (s.startBegin false 0x2000 false)

/-- DOUBLE_FAULT (R37, R392): on a core that runs, or ran at the instant of the start in progress, a Ripcord start with cause DFAULT0 or
DFAULT1. -/
def execDoubleFault (c : CoreId) (t : Nat) (s : State) : Host.Outcome State Fault Refusal :=
  let s := s.at_ t
  let cause : Word := 0x100 <<< coreNum c
  done (if s.ripCould cause then s.startBegin false cause true else s)

/-- WATCHDOG_EXPIRY (R409, R37, R392): a Ripcord start with cause WDT0 or WDT1. -/
def execWatchdogExpiry (c : CoreId) (t : Nat) (s : State) : Host.Outcome State Fault Refusal :=
  let s := s.at_ t
  let cause : Word := 0x40 <<< coreNum c
  done (if s.ripCould cause then s.startBegin false cause true else s)

/-- WDT_HALF_TIMEOUT (R409, R403): a record from source 217 + n. The unit has no STATUS register, so its payload is free. -/
def execWdtHalfTimeout (c : CoreId) (t : Nat) (s : State) : Host.Outcome State Fault Refusal :=
  let s := s.at_ t
  let n := coreNum c
  doneW (if s.wdtReached n 5 && !(s.wdt n).half then
    ((s.setWdt n { s.wdt n with half := true }).postBoth (217 + n) (Config.freeWord s.free) 0).fresh else s)

/-- The count that kicks of this instant have taken away from watchdog n: an expiry of the instant wins over each of them (R409). -/
def State.wdtHad (s : State) (n : Nat) : Nat :=
  match (s.wdt n).kick with
  | some (t, k) => if t = s.now then max k (s.wdt n).ticks else (s.wdt n).ticks
  | none => (s.wdt n).ticks

/-- A write of `WDT_KICK` of watchdog n: the key reloads TO. -/
def State.wdtKick (s : State) (n : Nat) (key : BitVec 16) : State :=
  if key = 0xC0DE && s.periphOn then s.setWdt n ⟨0, false, some (s.now, s.wdtHad n)⟩ else s

/-- WDT_KICK (R409). -/
def execWdtKick (c : CoreId) (key : BitVec 16) (s : State) : Host.Outcome State Fault Refusal := done (s.wdtKick (coreNum c) key)

/-- RXNEXT of every entry from its Ballast word (R237, R280); a bank 2 that did not keep its contents is cleared first. -/
def State.mirrorLoad (s : State) : State :=
  let base := bankBase 18
  let s := if s.start.nbrKept then s else s.clearRange base bankSize
  forN 1024 (fun s n =>
    let a := nbrAddr n + 0x10
    if s.nvBad (rxWord n) then ((s.setWord a 0xFFFFFFFF).put Reg.MEMC_STATUS_RXUE 1).ballastUe (rxWord n)
    else s.setWord a (s.word (rxWord n))) s

/-- REPLAY_MIRROR_LOAD_DONE (R237, R280, R376). -/
def execReplayMirrorLoadDone (s : State) : Host.Outcome State Fault Refusal :=
  doneW (if s.start.rxbusy then
    ({ s.mirrorLoad with start := { s.start with rxbusy := false } } : State).waitedStarts else s)

/-- START_CALIBRATION_DONE (R375, R67): every entry calibrated; enables that waited take effect. -/
def execStartCalibrationDone (t : Nat) (s : State) : Host.Outcome State Fault Refusal :=
  let s := s.at_ t
  doneB (if s.start.rcalT then
    let env := s.start.deferEnv
    let s := forN 128 State.calEntry { s with start := { s.start with rcal := false, rcalT := false, deferEnv := false } }
    let s := s.rfeTryStart
    if env && s.env.st = .off && s.flag Reg.ENV_CTL_EN then s.envOn else s
  else s)

/-- A write of `SYS_SAFECTL` (R394): in SAFE the key makes a warm start with cause SAFEEXIT. -/
def State.safeExit (s : State) (key : BitVec 16) : State :=
  if key = 0xEA5E && s.start.safe && !s.start.busy then s.startBegin false 0x1000 false else s

/-- SAFE_EXIT (R394). -/
def execSafeExit (key : BitVec 16) (s : State) : Host.Outcome State Fault Refusal := done (s.safeExit key)

/-- A write of `SYS_C1CTL` (Table 1-16): holding a running core 1 may make it the second core to become quiescent (R338). -/
def State.c1ctl (s : State) (v : Word) : State :=
  let t := s.writeReg Reg.SYS_C1CTL v
  if !s.core1.quiescent && t.core1.quiescent then t.sleepTry else t

/-- C1CTL_RUN_WRITE (R37, Table 1-16): core 1 starts at `SYS_C1VEC` on a change to 1, and is held at 0. -/
def execC1ctlRunWrite (run : Bool) (s : State) : Host.Outcome State Fault Refusal := doneW (s.c1ctl (if run then 1 else 0))

/-- A write of `SYS_BOOTGOOD` (R378): ATTEMPTS and PROB are cleared in one write, but not in SAFE. -/
def State.bootGood (s : State) (key : BitVec 16) : State :=
  if key = 0x600D && !s.start.safe then
    let (w, s) := s.attRead
    s.attPut (bitsOf w 16 16) 0 0
  else s

/-- BOOT_GOOD (R378). -/
def execBootGood (key : BitVec 16) (s : State) : Host.Outcome State Fault Refusal := done (s.bootGood key)

end Sys2Proof.Machine
end

