-- ==== Sys2Proof/Machine/Switch.lean ====
section
/-! DEFINITION. Meanings of the configuration commands (chapter 2). -/

namespace Sys2Proof.Machine

/-- UNIT_SAFE_BOUNDARY (R43 to R45, R49): unit u, if it is at its boundary, applies its waiting writes and its armed set in one
step; the REEL registers of engine 16 go with unit 16. A UART with characters still queued is at its boundary between two of them. -/
def execUnitSafeBoundary (u : Nat) (t : Nat) (s : State) : Host.Outcome State Fault Refusal :=
  let s := s.at_ t
  let s := if s.atBoundary u || (u = 30 && s.serialQuiet) then (s.applyUnit u).afterPend (some u) else s
  doneW (if u = 16 && s.atBoundary 32 then s.applyUnit 32 else s)

/-- EPOCH_NOW (R48, R51, R52). -/
def execEpochNow (s : State) : Host.Outcome State Fault Refusal := doneW (s.switchDue false none)

/-- The value in `CFG_AT_HI` and `CFG_AT_LO`. -/
def State.atValue (s : State) : Nat := s.get Reg.CFG_AT_HI_VAL * 2 ^ 32 + (s.reg Reg.CFG_AT_LO).toNat

/-- A request AT (R51): a value not greater than the counter is refused. -/
def State.schedAt (s : State) : State :=
  if s.link.evc < s.atValue then { s with cfg := { s.cfg with sched := some s.atValue } }
  else s.put Reg.CFG_STATUS_REFUSED 1

/-- EPOCH_AT (R51). -/
def execEpochAt (s : State) : Host.Outcome State Fault Refusal := done s.schedAt

/-- A request CANCEL (R51). -/
def State.schedCancel (s : State) : State := { s with cfg := { s.cfg with sched := none } }

/-- EPOCH_CANCEL (R51). -/
def execEpochCancel (s : State) : Host.Outcome State Fault Refusal := done s.schedCancel

/-- STUCK is set at the first moment at which MIXED has outlasted the limit (R53), not again while MIXED stays 1; MS = 0 behaves as 1
(Table 2-8). -/
def State.stuckCheck (s : State) : State :=
  if !s.cfg.stuckDone && s.lagOver (max 1 (s.get Reg.CFG_LAGLIM_MS)) then s.stick else s

/-- LAG_LIMIT_EXPIRY (R53). -/
def execLagLimitExpiry (t : Nat) (s : State) : Host.Outcome State Fault Refusal := doneW (s.at_ t).stuckCheck

/-- DIGEST_RECOMPUTE_DONE (R59). -/
def execDigestRecomputeDone (s : State) : Host.Outcome State Fault Refusal := done s.recompute

end Sys2Proof.Machine
end

