-- ==== Sys2Proof/Machine/Radio.lean ====
section
/-! DEFINITION. Meanings of the commands of the radio front end and of coexistence (chapter 3), and of the acknowledgement's commit
(R76, R231, R232). -/

namespace Sys2Proof.Machine

/-- RFE_STARTUP_DONE (R71): STARTING ends in IDLE; waiting transmits, the single path or background steps follow. In HOVER the
power controller now asks for the crystal (R354). -/
def execRfeStartupDone (t : Nat) (s : State) : Host.Outcome State Fault Refusal :=
  let s := s.at_ t
  doneB (if s.rfe.st = .starting then
    let s := s.synthFree
    if s.pwr.forced = some 3 && s.tb.ready && s.tb.src != .xtal then { s with tb := { s.tb with move := true } } else s
  else s)

/-- Background recalibration is asked for (R68): it begins at once if the synthesizer is idle. -/
def State.bgStart (s : State) (b : BgCal) : State :=
  let s := s.rf fun r => { r with bg := b }
  if s.rfe.st = .idle then s.bgNext else s

/-- RECAL_ALL (R68). -/
def execRecalAll (s : State) : Host.Outcome State Fault Refusal := doneB (s.bgStart (.all 0))

/-- RECAL_STALE (R68). -/
def execRecalStale (s : State) : Host.Outcome State Fault Refusal := doneB (s.bgStart .stale)

/-- STOP_CAL (R68): the current step still ends. -/
def State.bgStop (s : State) : State := s.rf fun r => { r with bg := .none }

def execStopCal (s : State) : Host.Outcome State Fault Refusal := done s.bgStop

/-- AUTO_RECAL (R68): the synthesizer is idle and an entry is not usable. -/
def execAutoRecal (t : Nat) (s : State) : Host.Outcome State Fault Refusal :=
  let s := s.at_ t
  doneB (if s.flag Reg.RFE_CALCTL_AUTO && s.rfe.st = .idle && s.rfe.bg = .none && s.unusable?.isSome then
    s.bgStart .stale else s)

/-- The lock begins on the channel just calibrated in place (R69). -/
def State.lockAfterCal (s : State) : State := s.rf fun r => { r with st := .locking, calib := none, locked := false }

/-- CAL_STEP_DONE (R67 to R69, R73): the entry is updated; a claim that waits comes first, then what the step served. -/
def execCalStepDone (t : Nat) (s : State) : Host.Outcome State Fault Refusal :=
  let s := s.at_ t
  doneB (match s.rfe.st, s.rfe.calib with
    | .cal, some (k, bg) =>
      let s := s.calEntry k
      if bg || (s.rfe.holder.isSome && !s.rfe.forTx) then s.synthNext else s.lockAfterCal
    | _, _ => s)

/-- The lock has come too late for the transmit: the code with which it ends (R74). -/
def State.lockLate (s : State) (tx : Tx) : Option Nat :=
  if tx.asap then (if tx.claim + 4000 < s.now then some 2 else none)
  else if tx.deadline < s.now then some 1 else none

/-- The single path starts to receive (R63, R71). `RFE_SPSTAT.DIVSTATE` follows the switch from here on; what it reads while the path does
not receive the manual does not say (0, or as it was: DESIGN CHOICE, log entry 84). -/
def State.spStart (s : State) : State :=
  let s := s.rf fun r => { r with st := .spRx, locked := true, divst := s.huntDiv }
  s.laneRest 128

/-- SYNTH_LOCK_DONE (R71, R73, R74): a lock at the last possible instant is in time. -/
def execSynthLockDone (t : Nat) (s : State) : Host.Outcome State Fault Refusal :=
  let s := s.at_ t
  doneB (if s.rfe.st = .locking then
    match s.rfe.holder with
    | some tx =>
      if !s.rfe.forTx then s.synthNext
      else match s.lockLate tx with
        | some code => s.cancelHolder tx code
        | none => s.rf fun r => { r with st := .txWait, locked := true, holder := some { tx with lockT := some s.now } }
    | none => if s.spMay then s.spStart else s.synthFree
  else s)

/-- TX_CLAIM (R72, R79): the waiting transmit whose time has come claims the free transmitter. -/
def execTxClaim (t : Nat) (s : State) : Host.Outcome State Fault Refusal := doneW (s.at_ t).claimWaiting

/-- COEX_REQ_ASSERT (R84, Table 3-4). -/
def execCoexReqAssert (t : Nat) (s : State) : Host.Outcome State Fault Refusal :=
  let s := s.at_ t
  done (match s.rfe.holder with
    | some tx => s.reqFor tx
    | none => s)

/-- Moment of the first chip of a locked transmit (R73): not before its start sequence can have run. -/
def Tx.first (tx : Tx) (now : Nat) : Nat := max (max tx.due (tx.lockT.getD now + 320)) (now + 320)

/-- The level outside of COEX_GNT (R85). -/
def State.setGnt (s : State) (gnt : Bool) : State := s.rf fun r => { r with gnt := gnt }

/-- The start sequence begins with GNT asserted or ignored (R73, R81, R84, R87). -/
def State.txBegin (s : State) (tx : Tx) : State :=
  let s := s.rf fun r => { r with
    st := .txStart
    holder := some { tx with start := some (tx.first s.now) }
    req := r.req || s.flag Reg.COEX_CTL_EN
    pri := if s.flag Reg.COEX_CTL_EN then tx.pri else r.pri
    femPrev := r.femTo.getD 0
    femFrom := if s.flag Reg.RFE_ANTCFG_FEM then some (tx.first s.now - 240) else none
    femTo := none }
  s.blankStart

/-- TX_START (R73, R81, R85): GNT is sampled; without it the transmit ends with COEX_DENIED. -/
def execTxStart (gnt : Bool) (t : Nat) (s : State) : Host.Outcome State Fault Refusal :=
  let s := (s.at_ t).setGnt gnt
  doneW (match s.rfe.st, s.rfe.holder with
    | .txWait, some tx =>
      if s.now + 320 < tx.due || s.tb.src != .xtal then s
      else if s.flag Reg.COEX_CTL_EN && !s.gntIn then (s.count Reg.COEX_CNT_DENIED).cancelHolder tx 3
      else s.txBegin tx
    | _, _ => s)

/-- Time at which the holder's first chip goes on air. -/
def State.txS (s : State) : Nat := ((s.rfe.holder.bind fun tx => tx.start).getD s.now)

/-- TX_FIRST_CHIP (R75, R131): the modulator forms the whole frame, whose first chip starts at S. -/
def execTxFirstChip (t : Nat) (s : State) : Host.Outcome State Fault Refusal :=
  let s := s.at_ t
  done (if s.rfe.st = .txStart && s.txS ≤ s.now then
    s.rf fun r => { r with st := .tx, air := r.holder.map fun tx => tx.emission s.txS } else s)

/-- TX_LAST_CHIP (R71): after the frame's airtime. -/
def execTxLastChip (t : Nat) (s : State) : Host.Outcome State Fault Refusal :=
  let s := s.at_ t
  done (match s.rfe.st, s.rfe.holder with
    | .tx, some tx => if s.txS + 40 * tx.air ≤ s.now then s.rf fun r => { r with st := .txTail } else s
    | _, _ => s)

/-- The transmit in TX_TAIL ends: completion, release of the transmitter and the synthesizer, the wires 6 µs and the end of the blank
20 µs after the last chip (R79, R81, R84, R87, R88, R92). -/
def State.tailEnd (s : State) (tx : Tx) : State :=
  let s := (((s.complete tx 0).wiresTo (s.now + 80)).txRelease).agcFree
  let s := s.rf fun r => { r with blankEnd := some (s.now + 640) }
  s.synthFree

/-- TX_TAIL_END (R71, R79, R88): PA off, 4 µs after the last chip; of a transmit that was cut short, when its PA is off. -/
def execTxTailEnd (t : Nat) (s : State) : Host.Outcome State Fault Refusal :=
  let s := s.at_ t
  doneW (match s.rfe.st, s.rfe.holder with
    | .txTail, some tx =>
      if s.rfe.air.isNone then (if s.cutOff then s.txRelease.synthFree else s)
      else if s.txS + 40 * tx.air + 160 ≤ s.now then s.tailEnd tx
      else s
    | _, _ => s)

/-- BLANK_END (R81). -/
def execBlankEnd (t : Nat) (s : State) : Host.Outcome State Fault Refusal :=
  let s := s.at_ t
  doneB (if s.rfe.blank && (match s.rfe.blankEnd with | some e => e ≤ s.now | none => false) then s.blankStop else s)

/-- The holder is claimed and not yet locked. -/
def State.locking (s : State) : Bool := s.rfe.st = .cal || s.rfe.st = .locking

/-- Waiting transmits that can no longer lock in time end with TX_LATE (R74, R79). -/
def State.lateWaiting (s : State) : State :=
  let late := s.rfe.waiting.filter fun x => !x.asap && x.deadline ≤ s.now
  let s := s.rf fun r => { r with waiting := r.waiting.filter fun x => x.asap || s.now < x.deadline }
  late.foldl (fun s x => s.complete x 1) s

/-- TX_LATE_CANCEL (R74, R88). -/
def execTxLateCancel (t : Nat) (s : State) : Host.Outcome State Fault Refusal :=
  let s := s.at_ t
  let s := match s.rfe.holder with
    | some tx => if s.locking && !tx.asap && tx.deadline ≤ s.now then s.cancelHolder tx 1 else s
    | none => s
  doneW s.lateWaiting

/-- SYNTH_TIMEOUT (R74, R88). -/
def execSynthTimeout (t : Nat) (s : State) : Host.Outcome State Fault Refusal :=
  let s := s.at_ t
  doneW (match s.rfe.holder with
    | some tx => if s.locking && tx.asap && tx.claim + 4000 ≤ s.now then s.cancelHolder tx 2 else s
    | none => s)

/-- A transmit is aborted (R86): its completion comes at once, the PA is off within 2 µs, here after 2 µs (DEDUCED, log entry 51). -/
def State.coexAbort (s : State) (tx : Tx) : State := (s.count Reg.COEX_CNT_ABORTED).txCut tx 4 (s.now + 80)

/-- COEX_GNT ceases to be asserted where the device sees it (R86). -/
def State.gntLost (s : State) : State :=
  match s.rfe.holder with
  | some tx =>
    if (s.rfe.st = .txStart || s.rfe.st = .tx) && s.flag Reg.COEX_CTL_EN && s.flag Reg.COEX_CTL_ABORT then s.coexAbort tx else s
  | none => s

/-- COEX_GNT_REVOKE (R86); without VIO the device does not see it (R418). -/
def execCoexGntRevoke (t : Nat) (s : State) : Host.Outcome State Fault Refusal :=
  let s := (s.at_ t).setGnt false
  doneW (if s.pins.vio then s.gntLost else s)

/-! ### The acknowledgement's commit -/

/-- Octets of the acknowledgement of a frame on air (R231, R138): SEQ is 0 where the frame control has SEQSUP = 1, whatever its version. -/
def ackOctets (f : Frame) : List Byte :=
  let fp := f.ackFp || f.latchFp
  let h := readHeader f.got f.len f.fcs
  let pl : List Byte := [if fp then 0x12 else 0x02, 0x00, BitVec.ofNat 8 (if Hdr.seqsup h.fc then 0 else h.seq)]
  let n := 3 + f.fcs
  pl ++ fcsOf f.fmt f.crct (n + 256 * b2n f.crct) pl

/-- The acknowledgement as a timed transmit (R76, R78). -/
def State.ackTx (s : State) (k : Nat) (f : Frame) : Tx :=
  let o := ackOctets f
  ⟨.ack k (s.ctx (engOf k) (ctxOf k)).life, f.tend + 1600, 0, false,
    s.portFor (if s.flag Reg.RFE_TXCFG_ACKFOLLOW then f.chain else s.get Reg.RFE_TXCFG_PORT),
    toSigned 6 (s.get Reg.RFE_TXCFG_ACKPWR), s.flag Reg.COEX_CTL_ACKPRI, f.fmt, f.chan, f.crct, o, 0, s.now, none, none, [],
    airtime f.fmt o.length⟩

/-- Change the frame of lane k that holds buffer `b`. -/
def State.updFrame (s : State) (k b : Nat) (g : Frame → Frame) : State :=
  let l := s.lane k
  s.setLane k { l with frames := l.frames.map fun f => if f.buf = b then g f else f }

/-- The acknowledgement of a frame of lane k changes; that of a frame already released leaves the lane. -/
def State.setAck (s : State) (k : Nat) (f : Frame) (a : Ack) (isDone : Bool) : State :=
  let l := s.lane k
  if l.acks.contains f then s.setLane k { l with acks := l.acks.filter fun g => g != f }
  else s.updFrame k f.buf fun g => { g with ack := a, ackDone := isDone }

/-- A requested acknowledgement reaches its commit point (R76, R221, R231, R232). -/
def State.commitAck (s : State) (k : Nat) (f : Frame) : State :=
  let finish := fun (s : State) (a : Ack) => (s.setAck k f a true).latch (engOf k) (ctxOf k) 18
  if s.rfe.holder.isSome then finish s .turnLost
  else
    let tx := s.ackTx k f
    if !s.dwellRoom tx.fmt tx.chan tx.air then
      finish ((s.txstat tx.port 5 0).count Reg.LINK_DWSTAT_REFUSED) (.done 5)
    else
      let cs := s.chargeOf tx.fmt tx.chan
      let s := (s.charge cs tx.air).setAck k f .committed false
      s.claimNow { tx with charge := cs, order := s.rfe.order }

/-- A frame whose acknowledgement is still requested is at its commit point, exactly 8 µs after its last chip (R232). -/
def Frame.commits (f : Frame) (now : Nat) : Bool := f.fend && f.ack = .requested && f.tend + 320 = now

/-- The frame of lane k at its commit point. -/
def State.commitOf (s : State) (k : Nat) : Option Frame := ((s.lane k).frames ++ (s.lane k).acks).find? fun f => f.commits s.now

/-- ACK_COMMIT (R76, R232): of commit points that fall at the same instant, the lowest lane's comes first. -/
def execAckCommit (lane : Nat) (t : Nat) (s : State) : Host.Outcome State Fault Refusal :=
  let s := s.at_ t
  let first := s.lanes.all fun p => lane ≤ p.1 || (s.commitOf p.1).isNone
  doneW (match s.commitOf lane with
    | some f => if first then s.commitAck lane f else s
    | none => s)

end Sys2Proof.Machine
end

