-- ==== Sys2Proof/Machine/Envelope.lean ====
section
/-! DEFINITION. Meanings of the commands of the Envelope and of the lanes (chapters 4, 5), the single path's reception included (R63,
R64, R433). -/

namespace Sys2Proof.Machine

/-! ### Starting and stopping -/

/-- ENVELOPE_START (R44, R110): a write of `ENV_CTL`, which the stopped unit takes at once. -/
def execEnvelopeStart (data : Word) (s : State) : Host.Outcome State Fault Refusal := doneW (s.writeReg Reg.ENV_CTL data)

/-- ENVELOPE_XWAIT_END (R110): the timebase runs on the crystal and the sample PLL has locked. -/
def execEnvelopeXwaitEnd (t : Nat) (s : State) : Host.Outcome State Fault Refusal :=
  let s := s.at_ t
  doneW (if s.env.st = .xwait && s.airClock then s.envOn else s)

/-- STATE becomes RUN: groups start, and the 1 ms interval in progress counts from now on only (R110, R113). -/
def State.envRun (s : State) : State :=
  let i := s.now / 40000 * 40000
  let s := { s with env := { s.env with
      st := .run, interval := i, busy := [], blankMask := if s.now = i then 0 else subMask i i s.now } }
  s.groupsStart

/-- ENVELOPE_RUN (R110, Table 4-9). -/
def execEnvelopeRun (t : Nat) (s : State) : Host.Outcome State Fault Refusal :=
  let s := s.at_ t
  doneW (if s.env.st = .starting then s.envRun else s)

/-- ENVELOPE_STOPPED (R111, R112): the last group has stopped. A 1 that `ENV_CTL.EN` has taken meanwhile starts it again. -/
def execEnvelopeStopped (t : Nat) (s : State) : Host.Outcome State Fault Refusal :=
  let s := s.at_ t
  doneW (if s.env.st = .stopping && (List.range 16).all (fun g => !(s.eng g).run) then
    let s := s.envOff
    if s.flag Reg.ENV_CTL_EN then s.envOn else s
  else s)

/-! ### Noise floor and SURVEY (R113 to R117) -/

/-- The lane that covers channel k (R113). -/
def State.coverLane (s : State) (k : Nat) : Option Nat :=
  if s.std (k / 8) then (if 3 ≤ k % 8 then some (8 * (k / 8) + 5) else none) else some k

/-- Sub-windows of the current interval that a blank touches. -/
def State.blankSubs (s : State) : Nat :=
  match s.env.blankFrom with
  | some b => s.env.blankMask ||| subMask s.env.interval b s.now
  | none => s.env.blankMask

/-- Sub-windows in which a lane is in PREAMBLE or FRAME. -/
def State.busySubs (s : State) (k : Nat) : Nat :=
  let l := s.lane k
  let m := sget (fun _ => 0) s.env.busy k
  if l.st = .preamble || l.st = .frame then m ||| subMask s.env.interval l.since s.now else m

/-- The powers of the sub-windows that a mask does not exclude. -/
def counted (mask : Nat) (ps : List Int) : List Int :=
  (ps.zipIdx.filter fun p => !mask.testBit p.2).map Prod.fst

/-- The lowest of some powers. -/
def lowest (ps : List Int) : Option Int :=
  ps.foldl (fun o p => match o with
    | none => some p
    | some q => some (min p q)) none

/-- The highest of some powers. -/
def highest (ps : List Int) : Option Int :=
  ps.foldl (fun o p => match o with
    | none => some p
    | some q => some (max p q)) none

/-- What the active chains measured on one channel. -/
def State.chainPows (s : State) (p : ChanPow) : List (List Int) :=
  (if s.env.active.testBit 0 then [p.chainA] else []) ++ (if s.env.active.testBit 1 then [p.chainB] else [])

/-- The noise floor of channel k at the end of an interval (R113). -/
def State.floorUpd (s : State) (k : Nat) (pow : List ChanPow) : State :=
  let ex := s.blankSubs ||| (match s.coverLane k with | some j => s.busySubs j | none => 0)
  let ps := match pow.find? (fun p => p.chan = k) with
    | some p => (s.chainPows p).flatMap (counted ex)
    | none => []
  match lowest ps with
  | none => s.put (Reg.ENV_NF_AGE k) (satInc 255 (s.get (Reg.ENV_NF_AGE k)))
  | some x =>
    let f := toSigned 16 (s.get (Reg.ENV_NF_FLOOR k))
    let v := if s.flag Reg.ENV_NFCFG_AVG && s.flag (Reg.ENV_NF_VALID k) then f + (x - f).tdiv 8 else x
    ((s.put (Reg.ENV_NF_FLOOR k) (ofSigned 16 v)).put (Reg.ENV_NF_AGE k) 0).put (Reg.ENV_NF_VALID k) 1

/-- Every channel: outside the span, and while the Envelope starts or stops, no sub-window counts and AGE goes on. -/
def State.floorsUpd (s : State) (pow : List ChanPow) : State :=
  let runs := s.env.st = .run || s.env.st = .survey
  forN 128 (fun s k => s.floorUpd k (if runs && s.inSpan (k / 8) then pow else [])) s

/-- 10^(j/40), the ratio of powers j quarters of a dB apart, for j = 0 to 39, times 10^18. -/
def ratios : List Nat :=
  [1000000000000000000, 1059253725177288878, 1122018454301963435, 1188502227437018437, 1258925411794167210] ++
  [1333521432163324025, 1412537544622754302, 1496235656094433411, 1584893192461113485, 1678804018122560313] ++
  [1778279410038922801, 1883649089489800535, 1995262314968879601, 2113489039836646795, 2238721138568339611] ++
  [2371373705661655261, 2511886431509580111, 2660725059798809634, 2818382931264453819, 2985382618917959617] ++
  [3162277660168379331, 3349654391578276595, 3548133892335754584, 3758374042884441673, 3981071705534972507] ++
  [4216965034285822485, 4466835921509631185, 4731512589614804789, 5011872336272722850, 5308844442309883522] ++
  [5623413251903490803, 5956621435290104605, 6309573444801932494, 6683439175686146083, 7079457843841379108] ++
  [7498942093324558273, 7943282347242815020, 8413951416451950911, 8912509381337455299, 9440608762859233803]

/-- The same for any number of quarters. -/
def ratio (j : Nat) : Nat := ratios.getD (j % 40) 0 * 10 ^ (j / 40)

/-- The mean of some powers in 0.25 dBm, rounded down, from the highest of them, `hi`: the highest f whose power the mean power reaches. It lies
within 40 quarters of `hi` for every decimal digit of their number. -/
def meanFloor (ps : List Int) (hi : Int) : Int :=
  let reach := 40 * (Nat.toDigits 10 ps.length).length
  let lo := (lowest ps).getD 0 - reach
  let sum := (ps.map fun p => ratio (p - lo).toNat).sum
  let k := ((List.range reach).find? fun k => ps.length * ratio (hi - k - lo).toNat ≤ sum).getD reach
  hi - k

/-- The mean of some powers (R115), a mean of powers and not of their logarithms. The manual does not say whether it is rounded up or down to
a quarter of a dB: which is free (DESIGN CHOICE, log entry 12). -/
def meanOf (ps : List Int) : Int :=
  let hi := (highest ps).getD 0
  if ps.all (· = hi) then hi else meanFloor ps hi + (if Config.meanUp ps then 1 else 0)

/-- The two halves of a channel in a snapshot (R116). -/
def State.survHalves (s : State) (k : Nat) (pow : List ChanPow) : List Byte :=
  let cs : List (List Int) := match pow.find? (fun p => p.chan = k) with
    | some p => ((s.chainPows p).map (counted s.blankSubs)).filter fun c => c != []
    | none => []
  match highest (cs.map meanOf), highest cs.flatten with
  | some m, some h => if s.inSpan (k / 8) then leBytes 2 (ofSigned 16 m) ++ leBytes 2 (ofSigned 16 h) else [0, 0x80, 0, 0x80]
  | _, _ => [0, 0x80, 0, 0x80]

/-- The snapshot of the interval that ends (Table 4-10). -/
def State.survBytes (s : State) (pow : List ChanPow) : List Byte :=
  leBytes 8 (s.env.interval / 40) ++ leBytes 4 (s.reg Reg.ENV_SVSTAT).toNat ++
  [BitVec.ofNat 8 (b2n (s.blankSubs != 0) + 2 * (s.env.clips % 4)), BitVec.ofNat 8 (s.tapOf + 4 * s.env.active), 0, 0] ++
  (List.range 128).flatMap fun k => s.survHalves k pow

/-- A snapshot is written to its buffer, wherever `ENV_SVBASE` points; the sequence advances, SURVEY_DONE is published (R115, R117). The
manual does not say what becomes of bytes that no memory, or a bank in OFF, in TEST or bad, can take: they are dropped (DESIGN CHOICE, log
entry 98). -/
def State.survWrite (s : State) (pow : List ChanPow) : State :=
  let a := 16 * s.get Reg.ENV_SVBASE_ADDR + 0x210 * ((s.reg Reg.ENV_SVSTAT).toNat % 2)
  let s := s.devWrite a (s.survBytes pow)
  (s.setReg Reg.ENV_SVSTAT (s.reg Reg.ENV_SVSTAT + 1)).output 1 0

/-- The interval ends and the next begins (R113, R115). -/
def State.msTurn (s : State) (pow : List ChanPow) : State :=
  let s := if s.env.st = .off then s else s.floorsUpd pow
  let s := if s.env.st = .survey && s.env.interval + 40000 ≤ s.now then s.survWrite pow else s
  { s with env := { s.env with interval := s.now, busy := [], blankMask := 0, clips := 0 } }

/-- MS_BOUNDARY (R113 to R116, Table 2-1): the interval ends, then epoch unit 17 applies what waits for it. A SURVEY that was 1 before the
Envelope came to RUN, of which R114 does not speak, turns the lanes off at the next boundary (DESIGN CHOICE, log entry 106). -/
def execMsBoundary (pow : List ChanPow) (t : Nat) (s : State) : Host.Outcome State Fault Refusal :=
  let s := (((s.at_ t).msTurn pow).applyUnit 17).afterPend (some 17)
  doneW (if s.flag Reg.ENV_CTL_SURVEY && s.env.st = .run && !s.env.survWait then
    forN 16 State.groupRest { s with env := { s.env with survWait := true } } else s)

/-- No lane is in an attempt or a frame. -/
def State.lanesOff (s : State) : Bool :=
  s.lanes.all fun p => p.1 = 128 || (p.2.st != .preamble && p.2.st != .frame)

/-- SURVEY_BEGIN (R114): snapshots begin with the 1 ms interval that starts now. -/
def execSurveyBegin (t : Nat) (s : State) : Host.Outcome State Fault Refusal :=
  let s := s.at_ t
  doneW (if s.env.survWait && s.env.st = .run && s.lanesOff && s.env.interval = s.now then
    { s with env := { s.env with st := .survey, survWait := false } } else s)

/-! ### AGC (R90 to R92) -/

/-- The AGC exponent of a chain. -/
def Env.exp (e : Env) (chain : Nat) : Nat := if chain = 0 then e.expA else e.expB

def Env.setExp (e : Env) (chain v : Nat) : Env := if chain = 0 then { e with expA := v } else { e with expB := v }

/-- The sample clock runs. -/
def State.sampling (s : State) : Bool := s.env.st != .off && s.env.st != .xwait

/-- A full-scale sample at EXP = 15 (R91). -/
def State.clipSet (s : State) (chain : Nat) : State :=
  let s := { s with env := { s.env with clips := s.env.clips ||| 2 ^ (chain % 2) } }
  s.put (if chain = 0 then Reg.ENV_STATUS_CLIPA else Reg.ENV_STATUS_CLIPB) 1

/-- AGC_GAIN_DOWN (R90 to R92): the exponent rises to `exp`, at most 15; a blank holds it at 15. -/
def execAgcGainDown (chain exp : Nat) (clip : Bool) (t : Nat) (s : State) : Host.Outcome State Fault Refusal :=
  let s := s.at_ t
  done (if s.sampling && s.env.active.testBit (chain % 2) then
    let s := if s.env.agcHeld then s
      else { s with env := s.env.setExp (chain % 2) (max (s.env.exp (chain % 2)) (min 15 exp)) }
    if clip && s.env.exp (chain % 2) = 15 then s.clipSet (chain % 2) else s
  else s)

/-- AGC_GAIN_UP (R90): one step. -/
def execAgcGainUp (chain : Nat) (t : Nat) (s : State) : Host.Outcome State Fault Refusal :=
  let s := s.at_ t
  done (if s.sampling && s.env.active.testBit (chain % 2) && !s.env.agcHeld then
    { s with env := s.env.setExp (chain % 2) (s.env.exp (chain % 2) - 1) } else s)

/-! ### Attempts (R95 to R99) -/

/-- Format and channel that lane k receives, in the form of READF and CHAN fields (R103, R135). -/
def State.laneFmt (s : State) (k : Nat) : Nat × Nat :=
  if k = 128 then (s.get Reg.RFE_SPCTL_FMT, s.get Reg.RFE_SPCTL_CHAN)
  else if s.std (k / 8) then (1, k / 8) else (0, k)

/-- One symbol of a format in ticks (Table 5-1). -/
def symTicks (fmt : Nat) : Nat := if fmt = 1 then 640 else 2560

/-- The only chain or port that a lane can use, if there is one (R65, R97, R107). -/
def State.onlyChain (s : State) (k : Nat) : Option Nat :=
  if k = 128 then
    (if s.huntDiv = 0 then none
     else if s.get Reg.RFE_SPCTL_DIV = 2 then some (s.portFor 1) else some (s.portFor 0))
  else if s.env.active = 3 then none else some (s.env.active / 2)

/-- The switch of the single path reports a phase (R63, Table 3-12); fixed while it never toggles. -/
def State.spPhase (s : State) (k d : Nat) : State :=
  if k = 128 && s.rfe.divst != 3 then s.rf fun r => { r with divst := d } else s

/-- The buffer that lane k takes next. -/
def Lane.freeBuf (l : Lane) : Nat := if l.frames.any (fun f => f.buf = 0) then 1 else 0

/-- Lane k has no buffer to take: both are held, or the memory refuses access (R99, R267). -/
def State.noBuf (s : State) (k : Nat) : Bool :=
  let l := s.lane k
  let a := bufAddr k l.freeBuf
  2 ≤ l.bufs || s.bankRefuses a || s.bankRefuses (a + 319)

/-- A preamble is detected on lane k (R95, R99, R101); without a buffer the lane returns to HUNT. -/
def State.detect (s : State) (k : Nat) : State :=
  let l := s.lane k
  if s.noBuf k then (if k = 128 then s else s.count (Reg.ENV_LERR_NOBUF k)).setLane k { l with since := s.now }
  else
    let (fmt, chan) := s.laneFmt k
    let nf := toSigned 16 (s.get (Reg.ENV_NF_FLOOR (tuneOf fmt chan)))
    (s.setLane k { l with
      st := .preamble, since := s.now, fmt := fmt, chan := chan, chain := s.onlyChain k, nfpre := nf, lastAbort := 0, fp := false }).spPhase k 1

/-- Lane k can detect a preamble: the air is heard, and two whole symbols have passed since it came to HUNT (R42, R95, R433). -/
def State.mayDetect (s : State) (k : Nat) : Bool :=
  s.airClock && (s.lane k).st = .hunt && (s.lane k).since + 2 * symTicks (s.laneFmt k).1 ≤ s.now

/-- PREAMBLE_DETECT (R95): both symbols reach the threshold on an active chain. -/
def execPreambleDetect (lane : Nat) (chain corr0 corr1 : Nat) (t : Nat) (s : State) : Host.Outcome State Fault Refusal :=
  let s := s.at_ t
  let thr := s.get (Reg.ENV_GCFG_PTHR (lane / 8))
  doneW (if lane < 128 && s.mayDetect lane && s.env.active.testBit (chain % 2) && thr ≤ corr0 && thr ≤ corr1 then
    s.detect lane else s)

/-- SP_PREAMBLE_DETECT (R433): both symbols reach 96/256 on their own ports. -/
def execSpPreambleDetect (corr0 corr1 : Nat) (t : Nat) (s : State) : Host.Outcome State Fault Refusal :=
  let s := s.at_ t
  doneW (if s.mayDetect 128 && 96 ≤ corr0 && 96 ≤ corr1 then s.detect 128 else s)

/-- CHAIN_CHOICE (R63, R64, R97): the higher energy over the symbols seen, at most four, a tie selecting chain A or RFA; with only one
port seen, that of symbol 0, the single path stays on it. -/
def execChainChoice (lane : Nat) (symbols energyA energyB : Nat) (t : Nat) (s : State) : Host.Outcome State Fault Refusal :=
  let s := s.at_ t
  let l := s.lane lane
  let c := if lane = 128 && symbols ≤ 1 then 0 else if energyA < energyB then 1 else 0
  done (if l.st = .preamble && l.chain.isNone then (s.setLane lane { l with chain := some c }).spPhase lane 2 else s)

/-- The own identities as they stand (R227). -/
def State.filterNow (s : State) : Filter :=
  ⟨s.get Reg.LINK_FFCFG_VERMASK, (List.range 4).map fun i =>
    ((s.reg (Reg.LINK_IDEXTHI i)).toNat * 2 ^ 32 + (s.reg (Reg.LINK_IDEXTLO i)).toNat, s.reg (Reg.LINK_IDSPAN i),
      s.reg (Reg.LINK_IDCTL i))⟩

/-- A frame at its SFD (R94, R160, R227): `tsfd` is referred to the port. -/
def State.newFrame (s : State) (k buf : Nat) (rssi : Int) : Frame :=
  let l := s.lane k
  ⟨buf, l.fmt, l.chan, l.chain.getD 0, l.nfpre, clampI (-128) 20 rssi, s.now - rxDelay k l.fmt, none, 0, [], 0, false, 0, false,
    0, false, 0, 0, s.filterNow, .none, false, l.fp, false, false⟩

/-- The SFD is recognised (R96, R99, R160): a free buffer is taken and its first 256 octets cleared. -/
def State.sfd (s : State) (k : Nat) (rssi : Int) : State :=
  let l := s.lane k
  if s.noBuf k then (if k = 128 then s else s.count (Reg.ENV_LERR_NOBUF k)).laneRest k
  else
    let buf := l.freeBuf
    let s := ((s.wakeRange (bufAddr k buf) 320).wakeRange (parseAddr k) 16).setBytes (bufAddr k buf) (List.replicate 256 0)
    let s := s.muddy (bufAddr k buf) 256
    s.updLane k { l with st := .frame, frames := l.frames ++ [s.newFrame k buf rssi] }

/-- SFD limit of a lane in symbols (R96, R433, Table 4-19). -/
def State.sfdLimit (s : State) (k : Nat) : Nat :=
  if k = 128 then 10 else max 4 (s.get (Reg.ENV_GCFG_SFDTO (k / 8)))

/-- An attempt is abandoned (R96). -/
def State.abandon (s : State) (k : Nat) : State :=
  let s := if k = 128 then s else s.count (Reg.ENV_LERR_ABANDON k)
  s.abortLane k 3 false

/-- SFD_RECOGNISED (R96, R433): within the SFD limit of detection; later the attempt has been abandoned. -/
def execSfdRecognised (lane : Nat) (rssi : Int) (t : Nat) (s : State) : Host.Outcome State Fault Refusal :=
  let s := s.at_ t
  let l := s.lane lane
  doneW (if l.st = .preamble then
    (if s.now ≤ l.since + s.sfdLimit lane * symTicks l.fmt then s.sfd lane rssi else s.abandon lane) else s)

/-- SFD_TIMEOUT (R96, R433). -/
def execSfdTimeout (lane : Nat) (t : Nat) (s : State) : Host.Outcome State Fault Refusal :=
  let s := s.at_ t
  let l := s.lane lane
  doneW (if l.st = .preamble && l.since + s.sfdLimit lane * symTicks l.fmt ≤ s.now then s.abandon lane else s)

/-! ### Frames -/

/-- The PHR as reported: S-mode has one octet (R128, R134). -/
def phrSeen (fmt : Nat) (phr : BitVec 16) : BitVec 16 := if fmt = 1 then phr &&& 0xFF else phr

/-- PSDU length that a PHR gives (Table 5-4, R133). -/
def phrLen (fmt : Nat) (phr : BitVec 16) : Nat := if fmt = 1 then phr.toNat % 128 else phr.toNat % 256

/-- A PHR is valid (R127, R134). -/
def phrValid (fmt : Nat) (phr : BitVec 16) : Bool :=
  if fmt = 1 then 5 ≤ phrLen 1 phr else if phr.getLsbD 8 then 3 ≤ phrLen 0 phr else 5 ≤ phrLen 0 phr

/-- PHR_RECEIVED (R127, R128, R134): `psdu` is what the frame carries after the PHR. -/
def execPhrReceived (lane : Nat) (phr : BitVec 16) (psdu : List Byte) (t : Nat) (s : State) : Host.Outcome State Fault Refusal :=
  let s := s.at_ t
  doneW (match (s.lane lane).frames.find? Frame.open_ with
    | some f =>
      if f.phr.isSome then s
      else if phrValid f.fmt phr then
        let n := phrLen f.fmt phr
        (s.updFrame lane f.buf fun g => { g with
          phr := some (phrSeen f.fmt phr), len := n, psdu := (psdu ++ List.replicate n 0).take n }).present lane
      else s.abandon lane
    | none => s)

/-- ADDR_REACHED (R225, R226, R432): the addressing fields are in the buffer; a PSDU that ends before them raises ADDR at FEND. -/
def execAddrReached (lane : Nat) (t : Nat) (s : State) : Host.Outcome State Fault Refusal :=
  let s := s.at_ t
  doneW (match (s.lane lane).frames.find? Frame.open_ with
    | some f =>
      if f.phr.isSome && !f.addr && 2 ≤ f.rxoct && addrPoint f.got f.len f.fcs ≤ f.rxoct then
        (s.updFrame lane f.buf fun g => { g with addr := true, addrOct := g.rxoct }).present lane
      else s
    | none => s)

/-- End of the last chip of a frame, referred to the port (R94, R125, R136). -/
def Frame.lastChip (f : Frame) : Nat := f.tsfd + f.phrTicks + f.len * f.octTicks

/-- The FCS of a frame that has arrived in full passes (R129, R130, R134). -/
def Frame.fcsPass (f : Frame) : Bool :=
  let n := f.len - f.fcs
  f.psdu.drop n = fcsOf f.fmt f.crct (f.phr.getD 0).toNat (f.psdu.take n)

/-- The frame of lane k ends (R100, R102, R169): report, counts, the lane back to HUNT. -/
def State.endFrame (s : State) (k : Nat) (f : Frame) (cq : Nat) : State :=
  let ok := f.fcsPass
  let g := { f with rxoct := f.len, addr := true, addrOct := if f.addr then f.addrOct else f.len, fend := true, tend := f.lastChip, fcsok := ok, cq := min 255 cq }
  let s := s.updFrame k f.buf fun _ => g
  let s := if ok then s
    else
      let (s, g) := s.ackWithdraw k g
      let s := s.updFrame k f.buf fun _ => g
      if k = 128 then s else s.count (Reg.ENV_LERR_CRCERR k)
  let s := s.markBusy k
  let l := s.lane k
  (s.setLane k { l with st := .off, rssi := f.rssi, cq := min 255 cq, lastChain := f.chain }).laneRest k

/-- FRAME_END (R100, R433): at the earliest when the last chip has passed the lane's filter. -/
def execFrameEnd (lane : Nat) (cq : Nat) (t : Nat) (s : State) : Host.Outcome State Fault Refusal :=
  let s := s.at_ t
  doneW (match (s.lane lane).frames.find? Frame.open_ with
    | some f =>
      if f.phr.isSome && f.lastChip + rxDelay lane f.fmt ≤ s.now then s.endFrame lane f cq else s
    | none => s)

/-! ### Holding groups (R118, R119) -/

/-- GROUP_HOLD (R118): a write to `ENV_GHOLD_SET`. -/
def execGroupHold (mask : BitVec 16) (s : State) : Host.Outcome State Fault Refusal := doneW (s.holdGroups mask.toNat)

/-- GROUP_RELEASE (R119, R190): a write to `ENV_GHOLD_CLR`. -/
def execGroupRelease (mask : BitVec 16) (s : State) : Host.Outcome State Fault Refusal := doneW (s.releaseGroups mask.toNat)

end Sys2Proof.Machine
end

