-- ==== Sys2Proof/Machine/Reel.lean ====
section
/-! DEFINITION. The step word (R151, R152), how a step runs and where it goes next (R149, R153), the choice of a context (R147, R148);
meanings of the arithmetic and flow steps, the waits and the engine commands (chapter 6). -/

namespace Sys2Proof.Machine

/-! ### Step words -/

/-- The fields of a step word (Table 6-4). -/
structure StepWord where
  op : Nat
  cond : Nat
  tgt : Nat
  dst : Nat
  src : Nat
  mod : Nat
  imm : Word
  deriving DecidableEq, Repr

/-- The step word whose low and high halves are given (R35, R151). -/
def readStep (lo hi : Word) : StepWord :=
  ⟨bitsOf hi 26 6, bitsOf hi 21 5, bitsOf hi 11 10, bitsOf hi 8 3, bitsOf hi 5 3, bitsOf hi 0 5, lo⟩

/-- Step `pc` of engine e (R141). -/
def State.fetchStep (s : State) (e pc : Nat) : StepWord :=
  let a := 0x30000000 + 0x2000 * e + 8 * pc
  readStep (s.word a) (s.word (a + 4))

/-- The OP codes of Table 6-6. -/
def stepOps : List Nat :=
  [0x00, 0x01, 0x02, 0x03, 0x04, 0x05, 0x06, 0x07, 0x08, 0x09, 0x10, 0x11, 0x18, 0x19, 0x1A, 0x20, 0x21, 0x28, 0x29, 0x2A, 0x2B,
    0x30, 0x31, 0x38, 0x39, 0x3A, 0x3C, 0x3D, 0x3E, 0x3F]

/-- Table 6-6 lists the OP, and for ARM Table 6-9 lists the action (R152, R163). -/
def StepWord.listed (w : StepWord) : Bool := stepOps.contains w.op && (w.op != 0x18 || (1 ≤ w.mod && w.mod ≤ 11))

/-- A modifier bit. -/
def StepWord.m (w : StepWord) (i : Nat) : Bool := w.mod.testBit i

/-- Register v[i] of a context. -/
def Ctx.getV (x : Ctx) (i : Nat) : Word := x.v.getD i 0

/-- v[i] takes a value. -/
def Ctx.setV (x : Ctx) (i : Nat) (w : Word) : Ctx := { x with v := x.v.set i w }

/-- v[DST] of a step takes a value. -/
def State.setDst (s : State) (e c : Nat) (w : StepWord) (v : Word) : State := s.setCtx e c ((s.ctx e c).setV w.dst v)

/-- v[SRC] of a step. -/
def State.srcV (s : State) (e c : Nat) (w : StepWord) : Word := (s.ctx e c).getV w.src

/-! ### How a step runs -/

/-- The context goes to the next step: COND is evaluated on the state after the effect (R153), and the step counts (R149). -/
def State.stepNext (s : State) (e c : Nat) (w : StepWord) : State :=
  let (b, s) := s.takeCond e c w.cond
  let x := s.ctx e c
  s.setCtx e c { x with pc := if b then w.tgt else (x.pc + 1) % 1024, steps := x.steps + 1 }

/-- Run the next step of a RUNNING context if it is one that `is` accepts: RUNAWAY and an unlisted OP come before its own faults
(R149, R152, R435). `body` gives the state after the step or the fault's cause; `fin` ends the command. -/
def State.runStep (s : State) (e c : Nat) (is : StepWord → Bool) (body : State → StepWord → Except Nat State)
    (fin : State → Host.Outcome State Fault Refusal) : Host.Outcome State Fault Refusal :=
  let x := s.ctx e c
  let w := s.fetchStep e x.pc
  if !((s.eng e).run && x.st = .running) then done s
  else if 64 ≤ x.steps then doneW (s.faultCtx e c 1)
  else if !w.listed then doneW (s.faultCtx e c 2)
  else if !is w then done s
  else match body s w with
    | .error k => doneW (s.faultCtx e c k)
    | .ok t => fin t

/-- A step of one OP that cannot fault by itself and goes on to the next. -/
def State.plainStep (s : State) (e c op : Nat) (eff : State → StepWord → State) : Host.Outcome State Fault Refusal :=
  s.runStep e c (fun w => w.op = op) (fun s w => .ok ((eff s w).stepNext e c w)) done

/-- A step of one OP that may fault, publish or post, and goes on to the next. -/
def State.dataStep (s : State) (e c op : Nat) (eff : State → StepWord → Except Nat State) : Host.Outcome State Fault Refusal :=
  s.runStep e c (fun w => w.op = op) (fun s w => match eff s w with
    | .ok t => .ok (t.stepNext e c w)
    | .error k => .error k) doneW

/-- The first fault of a list of conditions with their causes, in the order of R435. -/
def firstFault : List (Bool × Nat) → Option Nat
  | [] => none
  | (b, k) :: r => if b then some k else firstFault r

/-! ### Arithmetic (R157, R158) -/

/-- Operand B. -/
def Ctx.opB (x : Ctx) (w : StepWord) : Word := if w.m 0 then w.imm else x.getV w.src

/-- An operation on v[DST] and B that sets Z. -/
def State.alu (s : State) (e c : Nat) (f : Word → Word → Word) (w : StepWord) : State :=
  let x := s.ctx e c
  let r := f (x.getV w.dst) (x.opB w)
  s.setCtx e c ((x.setV w.dst r).setZ r)

/-- NOP (R157). -/
def execNop (e c : Nat) (s : State) : Host.Outcome State Fault Refusal := s.plainStep e c 0x00 fun s _ => s

/-- MOVI (R157): flags unchanged. -/
def execMovi (e c : Nat) (s : State) : Host.Outcome State Fault Refusal :=
  s.plainStep e c 0x01 fun s w => s.setDst e c w (if w.m 0 then s.srcV e c w + w.imm else w.imm)

/-- ADD (R158). -/
def execAddOp (e c : Nat) (s : State) : Host.Outcome State Fault Refusal := s.plainStep e c 0x02 fun s w => s.alu e c (· + ·) w

/-- SUB (R158): LT and SLT from the operands. -/
def execSubOp (e c : Nat) (s : State) : Host.Outcome State Fault Refusal :=
  s.plainStep e c 0x03 fun s w =>
    let x := s.ctx e c
    let a := x.getV w.dst
    let b := x.opB w
    s.setCtx e c ((x.setV w.dst (a - b)).setCmp a b)

/-- AND (R158). -/
def execAndOp (e c : Nat) (s : State) : Host.Outcome State Fault Refusal := s.plainStep e c 0x04 fun s w => s.alu e c (· &&& ·) w

/-- OR (R158). -/
def execOrOp (e c : Nat) (s : State) : Host.Outcome State Fault Refusal := s.plainStep e c 0x05 fun s w => s.alu e c (· ||| ·) w

/-- XOR (R158). -/
def execXorOp (e c : Nat) (s : State) : Host.Outcome State Fault Refusal := s.plainStep e c 0x06 fun s w => s.alu e c (· ^^^ ·) w

/-- SHL (R158): by B[4:0]. -/
def execShl (e c : Nat) (s : State) : Host.Outcome State Fault Refusal :=
  s.plainStep e c 0x07 fun s w => s.alu e c (fun a b => a <<< (b.toNat % 32)) w

/-- SHR (R158): logical, or arithmetic with MOD[1] = 1, by B[4:0]. -/
def execShr (e c : Nat) (s : State) : Host.Outcome State Fault Refusal :=
  s.plainStep e c 0x08 fun s w =>
    s.alu e c (fun a b => if w.m 1 then a.sshiftRight (b.toNat % 32) else a >>> (b.toNat % 32)) w

/-- CMP (R158): no register changes. -/
def execCmp (e c : Nat) (s : State) : Host.Outcome State Fault Refusal :=
  s.plainStep e c 0x09 fun s w =>
    let x := s.ctx e c
    s.setCtx e c (x.setCmp (x.getV w.dst) (x.opB w))

/-! ### Epochs and timers (R174) -/

/-- SYNC (R54, R174). -/
def execSyncEpoch (e c : Nat) (s : State) : Host.Outcome State Fault Refusal :=
  s.plainStep e c 0x30 fun s w =>
    let x := { s.ctx e c with epr := s.epochCheck (bitsOf (s.srcV e c w) 0 16) }
    s.setCtx e c (x.setV w.dst (BitVec.ofNat 32 (s.get Reg.CFG_EPOCH_CUR)))

/-- The context timer is started: 0 µs expires at once. -/
def Ctx.timerStart (x : Ctx) (now us : Nat) : Ctx :=
  if us = 0 then { x with timer := none }.latch 21 else { x with timer := some (now + 40 * us) }

/-- TIMER (R174). -/
def execTimer (e c : Nat) (s : State) : Host.Outcome State Fault Refusal :=
  s.dataStep e c 0x31 fun s w =>
    let x := s.ctx e c
    match w.mod % 4 with
    | 0 => .ok (s.setCtx e c (x.timerStart s.now w.imm.toNat))
    | 1 => .ok (s.setCtx e c (x.timerStart s.now (s.srcV e c w).toNat))
    | 2 => .ok (s.setCtx e c { x with timer := none })
    | _ => .error 2

/-! ### Flow (Table 6-15) -/

/-- Where JMP and CALL go. -/
def Ctx.flowTarget (x : Ctx) (w : StepWord) : Nat := if w.m 0 then (x.getV w.src + w.imm).toNat % 1024 else w.tgt

/-- A flow step is performed if COND is true, and otherwise goes to the next step. -/
def State.flowStep (s : State) (e c : Nat) (w : StepWord) (act : Ctx → Except Nat Ctx) : Except Nat State :=
  let (b, t) := s.takeCond e c w.cond
  let x := t.ctx e c
  if b then
    match act x with
    | .ok y => .ok (t.setCtx e c { y with steps := x.steps + 1 })
    | .error k => .error k
  else .ok (t.setCtx e c { x with pc := (x.pc + 1) % 1024, steps := x.steps + 1 })

/-- JMP (R153). -/
def execJmp (e c : Nat) (s : State) : Host.Outcome State Fault Refusal :=
  s.runStep e c (fun w => w.op = 0x3C) (fun s w => s.flowStep e c w fun x => .ok { x with pc := x.flowTarget w }) done

/-- CALL (R153): a push onto four entries raises STACK. -/
def execCall (e c : Nat) (s : State) : Host.Outcome State Fault Refusal :=
  s.runStep e c (fun w => w.op = 0x3D) (fun s w => s.flowStep e c w fun x =>
    if 4 ≤ x.stack.length then .error 4
    else .ok { x with stack := x.stack ++ [(x.pc + 1) % 1024], pc := x.flowTarget w }) done

/-- RET (R153): a pop from an empty stack raises STACK. -/
def execRet (e c : Nat) (s : State) : Host.Outcome State Fault Refusal :=
  s.runStep e c (fun w => w.op = 0x3E) (fun s w => s.flowStep e c w fun x =>
    match x.stack.getLast? with
    | none => .error 4
    | some p => .ok { x with stack := x.stack.dropLast, pc := p }) done

/-! ### Waits (R146, R175, R181) -/

/-- The turn ends at a wait step. -/
def Ctx.turnEnd (x : Ctx) (st : CtxSt) (wait : Wait) (now : Nat) : Ctx :=
  { x with st := st, wait := wait, urg := false, steps := 0, turnHop := none, woke := now, resume := st = .ready }

/-- WAITEV (R175): a wait that is already satisfied ends at once, as for every command (R146). -/
def execWaitev (e c : Nat) (s : State) : Host.Outcome State Fault Refusal :=
  s.runStep e c (fun w => w.op = 0x38) (fun s w =>
    if w.imm &&& 0xFFFFFFFE = 0 then .error 2
    else .ok (s.setCtx e c ((s.ctx e c).turnEnd .waiting (.ev w.imm) s.now))) doneW

/-- Target of WAITT, or none if the wait ends at once (R175). -/
def State.waittTarget (s : State) (e c : Nat) (w : StepWord) : Option Nat :=
  if w.m 0 then (if w.imm = 0 then none else some (s.now + 40 * w.imm.toNat))
  else
    let d := (s.srcV e c w + w.imm - BitVec.ofNat 32 s.us).toNat
    if d = 0 ∨ 2 ^ 31 ≤ d then none else some (40 * (s.us + d))

/-- WAITT (R175). -/
def execWaitt (e c : Nat) (s : State) : Host.Outcome State Fault Refusal :=
  s.runStep e c (fun w => w.op = 0x39) (fun s w =>
    let x := s.ctx e c
    .ok (s.setCtx e c (match s.waittTarget e c w with
      | some t => x.turnEnd .waiting (.time t) s.now
      | none => x.turnEnd .ready .none s.now))) doneW

/-- YIELD (R146). -/
def execYield (e c : Nat) (s : State) : Host.Outcome State Fault Refusal :=
  s.runStep e c (fun w => w.op = 0x3A) (fun s _ => .ok (s.setCtx e c ((s.ctx e c).turnEnd .ready .none s.now))) doneW

/-- HALT (R181). -/
def execHalt (e c : Nat) (s : State) : Host.Outcome State Fault Refusal :=
  s.runStep e c (fun w => w.op = 0x3F) (fun s _ => .ok (s.haltCtx e c)) doneW

/-- CONTEXT_TIMER_EXPIRY (R174). -/
def execContextTimerExpiry (e c : Nat) (t : Nat) (s : State) : Host.Outcome State Fault Refusal :=
  let s := s.at_ t
  let x := s.ctx e c
  doneW (match x.timer with
    | some d => if d ≤ s.now && (s.eng e).run then s.setCtx e c ({ x with timer := none }.latch 21) else s
    | none => s)

/-- WAITT_WAKE (R26, R175): the target is reached. -/
def execWaittWake (e c : Nat) (t : Nat) (s : State) : Host.Outcome State Fault Refusal :=
  let s := s.at_ t
  let x := s.ctx e c
  doneW (match x.st, x.wait with
    | .waiting, .time d =>
      if d ≤ s.now && (s.eng e).run then
        s.setCtx e c { x with st := .ready, wait := .none, woke := s.now, urg := false, resume := true }
      else s
    | _, _ => s)

/-! ### Turns (R146 to R149) -/

/-- The urgent READY context whose wait ended first; of waits that ended together, that of the lower number (R148). -/
def State.nextUrgent (s : State) (e : Nat) : Option Nat :=
  ((List.range (nctx e)).filter fun c => (s.ctx e c).st = .ready && (s.ctx e c).urg).foldl
    (fun o c => match o with
      | none => some c
      | some b => if (s.ctx e c).woke < (s.ctx e b).woke then some c else some b) none

/-- The next READY context in round-robin order after the one that ran last (R148). -/
def State.nextPlain (s : State) (e : Nat) : Option Nat :=
  ((List.range (nctx e)).map fun i => ((s.eng e).last + 1 + i) % nctx e).find? fun c =>
    (s.ctx e c).st = .ready && !(s.ctx e c).urg

/-- A context's turn begins; one that resumes from a wait first evaluates the COND of its wait step (R153). -/
def State.dispatch (s : State) (e c : Nat) : State :=
  let x := s.ctx e c
  let s := s.setEng e { s.eng e with last := c }
  let s := s.setCtx e c { x with st := .running, turnHop := none, resume := false }
  if x.resume then
    let w := s.fetchStep e x.pc
    let (b, s) := s.takeCond e c w.cond
    let y := s.ctx e c
    s.setCtx e c { y with pc := if b then w.tgt else (y.pc + 1) % 1024, steps := 0 }
  else s

/-- Faults that the fetch of a RUNNING context's next step meets (R149, R152, R178, R435). -/
def State.fetchCheck (s : State) (e c : Nat) (parity : Bool) : State :=
  let x := s.ctx e c
  if 64 ≤ x.steps then s.faultCtx e c 1
  else if parity then s.faultCtx e c 9
  else if !(s.fetchStep e x.pc).listed then s.faultCtx e c 2
  else s

/-- The context of engine e that is RUNNING. -/
def State.runningCtx (s : State) (e : Nat) : Option Nat := (List.range (nctx e)).find? fun c => (s.ctx e c).st = .running

/-- A context is chosen, and the fetch of its next step checked; an urgent one takes the engine from one that is not (R147). -/
def State.turn (s : State) (e : Nat) (parity : Bool) : State :=
  match s.runningCtx e with
  | some r =>
    (match s.nextUrgent e with
      | some u =>
        if (s.ctx e r).urg then s.fetchCheck e r parity
        else ((s.setCtx e r { s.ctx e r with st := .ready, turnHop := none }).dispatch e u).fetchCheck e u parity
      | none => s.fetchCheck e r parity)
  | none =>
    match (s.nextUrgent e).or (s.nextPlain e) with
    | some c => (s.dispatch e c).fetchCheck e c parity
    | none => s

/-- CONTEXT_DISPATCH (R146 to R149, R178): `parity` says that the step word fetched has a parity error. -/
def execContextDispatch (e : Nat) (parity : Bool) (t : Nat) (s : State) : Host.Outcome State Fault Refusal :=
  let s := s.at_ t
  doneW (if (s.eng e).run then s.turn e parity else s)

/-! ### Engines (R180, R182, R434) -/

/-- A write of `REEL_CRST` (R180). -/
def State.crst (s : State) (v : Word) : State :=
  let e := bitsOf v 16 5
  let c := bitsOf v 0 3
  if (s.eng e).run && c < nctx e then s.restartCtx e c else s

/-- CONTEXT_RESTART (R180). -/
def execContextRestart (data : Word) (s : State) : Host.Outcome State Fault Refusal := doneW (s.crst data)

/-- The radio cluster is powered (Table 14-1). -/
def State.radioOn (s : State) : Bool := s.awake || s.pwr.forced = some 3

/-- A write of `REEL_E16CTL.RUN` (R182): while the radio cluster is held quiesced for a sleep entry, engine 16 stays as it is (R342). -/
def State.e16Write (s : State) (run : Bool) : State :=
  let old := s.flag Reg.REEL_E16CTL_RUN
  let s := s.put Reg.REEL_E16CTL_RUN (b2n run)
  let g := s.eng 16
  if run then (if !old && !g.run && s.radioOn && !s.loading 16 && s.upd.phase != .pause then s.engStart 16 else s)
  else if g.run then (if s.quiesced 1 then s else s.setEng 16 { g with stopping := true }) else s.setEng 16 { g with wantStart := false }

/-- ENGINE16_RUN (R182). -/
def execEngine16Run (s : State) : Host.Outcome State Fault Refusal := doneW (s.e16Write true)

/-- ENGINE16_STOP (R182). -/
def execEngine16Stop (s : State) : Host.Outcome State Fault Refusal := doneW (s.e16Write false)

/-- A write of `REEL_TXQBASE` (R434): accepted in place of the value held, it makes the contents of overlapping areas undefined. -/
def State.txqBase (s : State) (v : Word) : State :=
  let t := s.writeReg Reg.REEL_TXQBASE v
  if t.reg Reg.REEL_TXQBASE = s.reg Reg.REEL_TXQBASE then t else t.txqOverlap

/-- TXQBASE_WRITE (R434). -/
def execTxqbaseWrite (data : Word) (s : State) : Host.Outcome State Fault Refusal := done (s.txqBase data)

end Sys2Proof.Machine
end

