-- ==== Sys2Proof/Machine/Datapath.lean ====
section
/-! DEFINITION. Meanings of the steps that touch memory, frames, queues and the datapath (chapter 6), and of delivery (R239, R240). -/

namespace Sys2Proof.Machine

/-! ### LD and ST (R159, R236, R267) -/

/-- A place that LD or ST reaches: the scratch of the context, or memory. -/
inductive Place where
  | scratch (off : Nat)
  | mem (addr : Nat)
  deriving DecidableEq, Repr

/-- The device's own area of parse records (R224). -/
def parseArea (a : Nat) : Bool := 0x2103F000 ≤ a && a < 0x2103F810

/-- Width in bytes of an LD or ST; 0b11 is no width (R159). -/
def accWidth (w : StepWord) : Option Nat := match w.mod / 4 % 4 with | 0 => some 1 | 1 => some 2 | 2 => some 4 | _ => none

/-- Range and alignment of an access of n bytes at an offset (R159). -/
def offOk (off n size : Nat) (aligned : Bool) : Bool := off + n ≤ size && (!aligned || off % n = 0)

/-- Where an LD or ST of n bytes goes, or its fault (R159, R267, R435). -/
def State.place (s : State) (e c : Nat) (w : StepWord) (n : Nat) : Except Nat Place :=
  let b := s.srcV e c w
  let off := (b + w.imm).toNat
  let mem := fun a => if s.rangeRefused a n then .error 3 else .ok (Place.mem a)
  match w.mod % 4 with
  | 0 =>
    if !offOk off n 320 false then .error 3
    else match s.curFrame e c with
      | some (k, f) => mem (bufAddr k f.buf + off)
      | none => .error 5
  | 1 => if b.toNat < 1024 && offOk w.imm.toNat n 64 true then mem (nbrAddr b.toNat + w.imm.toNat) else .error 3
  | 2 => if offOk off n 128 true then .ok (.scratch off) else .error 3
  | _ => if 0x21000000 ≤ off && offOk (off - 0x21000000) n 0x40000 true then mem off else .error 3

/-- The bytes at a place. -/
def State.placeBytes (s : State) (e c n : Nat) : Place → List Byte
  | .scratch o => (List.range n).map fun i => (s.ctx e c).sbyte (o + i)
  | .mem a => s.bytes a n

/-- Store bytes into a context's scratch. -/
def Ctx.setScratch (x : Ctx) (a : Nat) : List Byte → Ctx
  | [] => x
  | b :: r => { x with scratch := sput (fun _ => 0) x.scratch a b }.setScratch (a + 1) r

/-- A value of n bytes, zero-extended or sign-extended (R159). -/
def extend (signed : Bool) (n v : Nat) : Word := if signed then BitVec.ofInt 32 (toSigned (8 * n) v) else BitVec.ofNat 32 v

/-- A bank in RET that the place lies in wakes (R267). -/
def State.placeWake (s : State) (n : Nat) : Place → State
  | .scratch _ => s
  | .mem a => s.wakeRange a n

/-- The effect of LD. -/
def State.ldEff (s : State) (e c : Nat) (w : StepWord) : Except Nat State :=
  match accWidth w with
  | none => .error 2
  | some n =>
    match s.place e c w n with
    | .error k => .error k
    | .ok p => .ok ((s.placeWake n p).setDst e c w (extend (w.m 4) n (leNat (s.placeBytes e c n p))))

/-- LD (R159). -/
def execLd (e c : Nat) (s : State) : Host.Outcome State Fault Refusal := s.dataStep e c 0x10 fun s w => s.ldEff e c w

/-- A store of ST to memory: stores to parse records are discarded, and one to RXNEXT is written through (R224, R236). -/
def State.stMem (s : State) (e c a : Nat) (bs : List Byte) : State :=
  if parseArea a then s
  else
    let s := s.devWrite a bs
    match rxnextOf a with
    | some n => { s with link := { s.link with thru := (s.link.thru.filter fun p => p.1 != n) ++ [(n, e, c)] } }
    | none => s

/-- The effect of ST. -/
def State.stEff (s : State) (e c : Nat) (w : StepWord) : Except Nat State :=
  match accWidth w with
  | none => .error 2
  | some n =>
    let bs := leBytes n ((s.ctx e c).getV w.dst).toNat
    match s.place e c w n with
    | .error k => .error k
    | .ok (.scratch o) => .ok (s.setCtx e c ((s.ctx e c).setScratch o bs))
    | .ok (.mem a) => .ok (s.stMem e c a bs)

/-- ST (R159). -/
def execSt (e c : Nat) (s : State) : Host.Outcome State Fault Refusal := s.dataStep e c 0x11 fun s w => s.stEff e c w

/-- The write-through of entry n completes (R236). -/
def State.thruDone (s : State) (n : Nat) : State :=
  if s.link.thru.any (fun p => p.1 = n) then
    let s := s.carryThru n
    { s with link := { s.link with thru := s.link.thru.filter fun p => p.1 != n } }
  else s

/-- BALLAST_WRITE_THROUGH (R236). -/
def execBallastWriteThrough (n : Nat) (t : Nat) (s : State) : Host.Outcome State Fault Refusal := done ((s.at_ t).thruDone n)

/-- A DELIV or DROP takes effect only once the write-throughs of its context have completed (R236). -/
def State.thruFlush (s : State) (e c : Nat) : State :=
  ((s.link.thru.filter fun p => p.2.1 = e && p.2.2 = c).map Prod.fst).foldl State.thruDone s

/-! ### LOOKUP (R162, R228) -/

/-- The entry that a LOOKUP finds. -/
def State.lookupKey (s : State) (e c : Nat) (w : StepWord) : Option Nat :=
  let x := s.ctx e c
  let a := x.getV w.src
  match w.mod % 4 with
  | 0 => s.findShort (bitsOf a 16 16) (bitsOf a 0 16)
  | 1 => s.findExt a (x.getV ((w.src + 1) % 8))
  | _ =>
    match s.curFrame e c with
    | some (_, f) =>
      let h := readHeader f.got f.len f.fcs
      if !f.addr || !h.known || f.got.length < h.addrEnd then none
      else if Hdr.sam h.fc = 3 then s.findExt (BitVec.ofNat 32 h.src) (BitVec.ofNat 32 (h.src / 2 ^ 32))
      else if Hdr.sam h.fc = 2 then s.findShort h.srcPan h.src
      else none
    | none => none

/-- The frame-pending bit for the acknowledgement of the current frame, which may be an attempt before its SFD (R156, R162). -/
def State.latchPend (s : State) (e c : Nat) (fp : Bool) : State :=
  match s.curFrame e c, s.laneOf e c with
  | some (k, f), _ => if f.ack = .none || f.ack = .requested then s.updFrame k f.buf fun g => { g with latchFp := fp } else s
  | none, some k => if (s.lane k).st = .preamble then s.setLane k { s.lane k with fp := fp } else s
  | none, none => s

/-- The effect of LOOKUP. -/
def State.lookupEff (s : State) (e c : Nat) (w : StepWord) : Except Nat State :=
  if w.mod % 4 = 3 then .error 2
  else
    let r := s.lookupKey e c w
    let x := s.ctx e c
    let fp := match r with | some n => bitOf (s.nbr n 12) 30 | none => false
    let s := match r with
      | some n => s.setCtx e c { x.setV w.dst (BitVec.ofNat 32 n) with hit := true, pend := fp }
      | none => s.setCtx e c { x.setV w.dst 0xFFFFFFFF with hit := false }
    .ok (if w.m 2 then s.latchPend e c fp else s)

/-- LOOKUP (R162, R228, R230). -/
def execLookup (e c : Nat) (s : State) : Host.Outcome State Fault Refusal := s.dataStep e c 0x19 fun s w => (s.wakeRange (nbrAddr 0) 0x10000).lookupEff e c w

/-! ### READF (R161, Table 6-8) -/

/-- The two words of a time. -/
def timeLo (t : Nat) : Word := BitVec.ofNat 32 (t / 40)

def timeHi (t : Nat) : Word := BitVec.ofNat 32 (t / 40 / 2 ^ 32 % 65536 + t % 40 * 65536)

/-- ACKRES (Table 6-11); an acknowledgement whose outcome is open shows no bit. -/
def Ack.res : Ack → Nat
  | .none => 0x400
  | .requested => 0
  | .committed => 0
  | .withdrawn => 0x200
  | .turnLost => 0x100
  | .done code => code

/-- A signed value as a word. -/
def signedW (v : Int) : Word := BitVec.ofInt 32 v

/-- Fields 0x01 to 0x0F of a frame that holds a buffer of lane k (R161). -/
def Frame.field (f : Frame) (k n : Nat) : Word :=
  match n with
  | 0x01 => (f.phr.getD 0).setWidth 32
  | 0x02 => BitVec.ofNat 32 (if f.phr.isSome then f.len else 0)
  | 0x03 => BitVec.ofNat 32 f.fmt
  | 0x04 => BitVec.ofNat 32 f.rxoct
  | 0x05 => timeLo f.tsfd
  | 0x06 => timeHi f.tsfd
  | 0x07 => if f.fend then timeLo f.tend else 0
  | 0x08 => if f.fend then timeHi f.tend else 0
  | 0x09 => BitVec.ofNat 32 f.chain
  | 0x0A => signedW f.rssi
  | 0x0B => BitVec.ofNat 32 (if f.fend then f.cq else 0)
  | 0x0C => signedW f.nfpre
  | 0x0D => BitVec.ofNat 32 f.abort
  | 0x0E => BitVec.ofNat 32 f.ack.res
  | 0x0F => BitVec.ofNat 32 (bufAddr k f.buf)
  | _ => 0

/-- Fields 0x01 to 0x0F of an attempt that holds no buffer (R161). -/
def Lane.attemptField (l : Lane) (n : Nat) : Word :=
  match n with
  | 0x03 => BitVec.ofNat 32 l.fmt
  | 0x09 => BitVec.ofNat 32 (l.chain.getD 0)
  | 0x0C => signedW l.nfpre
  | 0x0E => 0x400
  | _ => 0

/-- Fields 0x01 to 0x0F as a context reads them. -/
def State.frameField (s : State) (e c n : Nat) : Word :=
  match s.curFrame e c with
  | some (k, f) => f.field k n
  | none =>
    match s.laneOf e c with
    | some k =>
      let l := s.lane k
      if l.st = .preamble then l.attemptField n
      else if n = 0x0D then BitVec.ofNat 32 l.lastAbort else 0
    | none => 0

/-- The other fields: value, and the context after the read. -/
def State.readField (s : State) (e c n : Nat) : Option (Word × Ctx) :=
  let x := s.ctx e c
  let only16 := fun (v : Word) => some (if e = 16 then v else 0, x)
  if n = 0x00 then some (BitVec.ofNat 32 (ident e c), x)
  else if n = 0x10 then some (BitVec.ofNat 32 s.us, { x with nowHi := BitVec.ofNat 32 (s.us / 2 ^ 32), nowF := s.net % 40 })
  else if n = 0x11 then some (x.nowHi, x)
  else if n = 0x12 then some (BitVec.ofNat 32 x.nowF, x)
  else if n = 0x13 then some (BitVec.ofNat 32 s.link.evc, { x with evcHi := s.link.evc / 2 ^ 32 })
  else if n = 0x14 then some (BitVec.ofNat 32 x.evcHi, x)
  else if n = 0x15 then some (BitVec.ofNat 32 ((s.net - s.link.slotT) / 40), x)
  else if n = 0x16 then some (BitVec.ofNat 32 (s.get Reg.CFG_EPOCH_CUR), x)
  else if n = 0x17 then some (s.cfg.digest, x)
  else if n = 0x18 then some ((x.fifo.headD (0, 0)).1, x)
  else if n = 0x19 then some ((x.fifo.headD (0, 0)).2, { x with fifo := x.fifo.drop 1 })
  else if n = 0x1A then only16 x.txgoStat
  else if n = 0x1B then only16 (match s.offered with | some q => BitVec.ofNat 32 (s.slotAddr q.q q.slot) | none => 0)
  else if n = 0x1C then some (signedW x.ed, x)
  else if n = 0x1D then some (BitVec.ofNat 32 x.sadc, x)
  else if n = 0x1E then some (signedW s.dieTemp, x)
  else if n = 0x1F then some (BitVec.ofNat 32 x.evHop, x)
  else if 1 ≤ n ∧ n ≤ 0x0F then some (s.frameField e c n, x) else none

/-- READF (R161): a field not listed raises BADOP. -/
def execReadf (e c : Nat) (s : State) : Host.Outcome State Fault Refusal :=
  s.dataStep e c 0x1A fun s w => match s.readField e c (bitsOf w.imm 0 8) with
    | some (v, x) => .ok (s.setCtx e c (x.setV w.dst v))
    | none => .error 2

/-! ### TXQ (R165, R166) -/

/-- The radio steps fault while the timebase does not run on the crystal (R176). -/
def State.noXtal (s : State) : Bool := s.tb.src != .xtal

/-- Octets of payload that an entry of LEN octets takes from memory (R165). -/
def payLen (fmt len : Nat) (crct : Bool) : Nat := len - fcsLen fmt crct

/-- Fields of an entry's words (Table 6-10). -/
def eFmt (ws : List Word) : Nat := bitsOf (ws.getD 2 0) 7 1

def eLen (ws : List Word) : Nat := bitsOf (ws.getD 3 0) 0 8

def eCrct (ws : List Word) : Bool := bitOf (ws.getD 2 0) 18

/-- A descriptor that TXQ accepts (R165). -/
def txOk (ws : List Word) : Bool :=
  let n := payLen (eFmt ws) (eLen ws) (eCrct ws)
  let a := (ws.getD 4 0).toNat
  (if eFmt ws = 1 then 5 ≤ eLen ws && eLen ws ≤ 127 else if eCrct ws then 3 ≤ eLen ws else 5 ≤ eLen ws) &&
  bitsOf (ws.getD 1 0) 16 6 ≤ 39 && 0x21000000 ≤ a && a + n ≤ 0x21040000

/-- Due time in ticks: the first at or after now whose µs bits [47:0] and fraction match (Table 6-10). -/
def dueTime (now : Nat) (ws : List Word) : Nat :=
  let v := (ws.getD 0 0).toNat + bitsOf (ws.getD 1 0) 0 16 * 2 ^ 32
  let us := now / 40
  let t := 40 * (us + (v + 2 ^ 48 - us % 2 ^ 48) % 2 ^ 48) + bitsOf (ws.getD 1 0) 16 6
  if t < now then t + 40 * 2 ^ 48 else t

/-- The words that TXQ copies: ORIG filled, CODE, DONE, PORTUSED and LATE cleared (R165). -/
def txWords (e c : Nat) (ws : List Word) : List Word :=
  (ws.set 6 ((ws.getD 6 0 &&& 0xFF00FC00) ||| numAt c 21 ||| numAt e 16)).set 7 (ws.getD 7 0 &&& 0xFFFF0000)

/-- The lowest free slot of a queue. -/
def State.freeSlot (s : State) (q : Nat) : Option Nat :=
  (List.range 32).find? fun i => !s.txq.any fun e => e.q = q && e.slot = i

/-- The effect of TXQ on a valid descriptor. -/
def State.txqPut (s : State) (e c q : Nat) (w : StepWord) (ws : List Word) : State :=
  let x := s.ctx e c
  match s.freeSlot q with
  | none => s.setCtx e c { x.setV w.dst 0xFFFFFFFF with acc := false }
  | some i =>
    let ws := txWords e c ws
    let asap := bitOf (ws.getD 2 0) 17
    let due := if asap then s.now else dueTime s.now ws
    let s := s.devWrite (s.slotAddr q i) (ws.flatMap fun v => leBytes 4 v.toNat)
    let en : TxEntry := ⟨q, i, ws, due, s.txOrder, e, c, x.life, bitOf (ws.getD 2 0) 27, asap || due ≤ s.now + 1920, false⟩
    let s := { s with
      txq := s.txq ++ [en]
      txOrder := s.txOrder + 1 }
    s.setCtx e c { x.setV w.dst (BitVec.ofNat 32 (32 * q + i)) with acc := true }

/-- The effect of TXQ (R165, R176, R435). -/
def State.txqEff (s : State) (e c : Nat) (w : StepWord) : Except Nat State :=
  let o := (s.srcV e c w).toNat
  let ws := (List.range 8).map fun i => (s.ctx e c).sword (o + 4 * i)
  match firstFault [(!(o % 4 = 0 && o ≤ 96), 3), (!txOk ws, 7), (s.noXtal, 6)] with
  | some k => .error k
  | none => .ok (s.txqPut e c (w.mod % 4) w ws)

/-- TXQ (R165). -/
def execTxq (e c : Nat) (s : State) : Host.Outcome State Fault Refusal := s.dataStep e c 0x20 fun s w => s.txqEff e c w

/-- TXQ_RELEASE (R166): the entries whose release time has come. -/
def execTxqRelease (t : Nat) (s : State) : Host.Outcome State Fault Refusal :=
  let s := s.at_ t
  doneW { s with txq := s.txq.map fun e => if e.due ≤ s.now + 1920 then { e with released := true } else e }

/-! ### TXACK (R169, R77) -/

/-- A first TXACK for the current frame of lane k. -/
def State.ackRequest (s : State) (e c k : Nat) (f : Frame) (fp : Bool) : State :=
  let s := s.updFrame k f.buf fun g => { g with ackFp := fp }
  let finish := fun (s : State) (a : Ack) => (s.updFrame k f.buf fun g => { g with ack := a, ackDone := true }).latch e c 18
  if f.abort != 0 || (f.fend && !f.fcsok) then finish s .withdrawn
  else if f.fend && f.tend + 320 < s.now then finish (s.txstat (s.ackTx k f).port 1 0) (.done 1)
  else s.updFrame k f.buf fun g => { g with ack := .requested }

/-- The effect of TXACK. -/
def State.txackEff (s : State) (e c : Nat) (w : StepWord) : Except Nat State :=
  match s.curFrame e c with
  | none => .error 5
  | some (k, f) =>
    if f.phr.isNone then .error 5
    else if s.noXtal then .error 6
    else .ok (if f.ack = .none then s.ackRequest e c k f (w.m 0) else s)

/-- TXACK (R169). -/
def execTxack (e c : Nat) (s : State) : Host.Outcome State Fault Refusal := s.dataStep e c 0x21 fun s w => s.txackEff e c w

/-! ### DELIV and DROP (R171, R239, R241) -/

/-- Sequence number that the next DELIV to ring r takes: deliveries in progress have theirs. -/
def State.nextSeq (s : State) (r : Nat) : Nat :=
  (s.get (Reg.LINK_RPUT_PUT r) + (s.link.deliv.filter fun d => d.ring = r).length) % 65536

/-- Address of record `seq` of ring r (R239). -/
def State.recAddr (s : State) (r seq : Nat) : Nat := 64 * s.get (Reg.LINK_RBASE_ADDR r) + 320 * (seq % s.ringSize r)

/-- Record `seq` of ring r lies in SRAM that accepts it (R241, R267). -/
def State.recOk (s : State) (r seq : Nat) : Bool :=
  let a := s.recAddr r seq
  region a = .sram && region (a + 319) = .sram && !s.bankRefuses a && !s.bankRefuses (a + 319)

/-- The ring takes another record (R239, R241). -/
def State.ringRoom (s : State) (r : Nat) : Bool :=
  let seq := s.nextSeq r
  (seq + 65536 - s.get (Reg.LINK_RTAKE_TAKE r)) % 65536 < s.ringSize r && s.recOk r seq

/-- The words of a record before the PSDU (Table 9-4), without DSEQ. -/
def State.recHead (s : State) (e c k : Nat) (f : Frame) (status : Nat) (attach : Word) : List Word :=
  let fld := f.field k
  [numAt (status % 256) 24 ||| numAt (if f.phr.isSome then f.len else 0) 16 ||| numAt (ident e c) 8 ||| numAt f.rxoct 0,
   numAt (f.phr.getD 0).toNat 16 ||| numAt (s.get Reg.CFG_EPOCH_CUR) 0,
   fld 5, fld 6, fld 7, fld 8,
   numAt (ofSigned 8 f.rssi) 24 ||| numAt (fld 0x0B).toNat 16 ||| numAt (ofSigned 16 f.nfpre) 0,
   numAt f.fmt 15 ||| numAt f.chain 14 ||| flagAt f.fcsok 13 ||| flagAt f.ackDone 12 ||| numAt f.ack.res 0,
   attach] ++ f.parse ++ [0, 0, 0]

/-- A frame leaves: it stops being current, and its buffer goes when the copy completes (R171). -/
def State.deliver (s : State) (e c k r : Nat) (f : Frame) (status : Nat) (attach : Word) : State :=
  let d : Delivery := ⟨r, k, f.buf, if f.phr.isSome then f.len else 0, s.recHead e c k f status attach⟩
  let s := { s with link := { s.link with deliv := s.link.deliv ++ [d] } }
  let s := (s.updFrame k f.buf fun g => { g with leaving := true }).present k
  s.setCtx e c { s.ctx e c with acc := true }

/-- The effect of DELIV. -/
def State.delivEff (s : State) (e c : Nat) (w : StepWord) : Except Nat State :=
  match s.curFrame e c with
  | none => .error 5
  | some (k, f) =>
    if !f.fend && f.abort != 2 then .error 5
    else
      let s := s.thruFlush e c
      let r := w.mod % 2
      .ok (if s.ringRoom r then s.deliver e c k r f (bitsOf w.imm 0 8) (s.srcV e c w)
        else (s.count (Reg.LINK_RPUT_FULL r)).setCtx e c { s.ctx e c with acc := false })

/-- DELIV (R171). -/
def execDeliv (e c : Nat) (s : State) : Host.Outcome State Fault Refusal := s.dataStep e c 0x28 fun s w => s.delivEff e c w

/-- The attempt in progress on lane k is given up: the lane returns to HUNT (R171). -/
def State.dropAttempt (s : State) (k : Nat) : State :=
  let s := s.markBusy k
  (s.setLane k { s.lane k with st := .off }).laneRest k

/-- The effect of DROP: before FEND it also ends the reception, of an attempt before its SFD too (R156). -/
def State.dropEff (s : State) (e c : Nat) : Except Nat State :=
  match s.curFrame e c with
  | none =>
    (match s.laneOf e c with
      | some k => if (s.lane k).st = .preamble then .ok ((s.thruFlush e c).dropAttempt k) else .error 5
      | none => .error 5)
  | some (k, f) =>
    let s := s.thruFlush e c
    let (s, f) := s.ackWithdraw k f
    let s := s.markBusy k
    let rest := f.open_
    let s := s.release k f
    .ok (if rest then (s.setLane k { s.lane k with st := .off }).laneRest k else s)

/-- DROP (R171). -/
def execDropFrame (e c : Nat) (s : State) : Host.Outcome State Fault Refusal := s.dataStep e c 0x29 fun s _ => s.dropEff e c

/-- The record of a delivery is written, PUT advances, the record is posted, the buffer released (R239, R171). A ring that can no longer take it
where it would lie counts as full (R267), and the record is lost (DESIGN CHOICE, log entry 98). -/
def State.delivWrite (s : State) (d : Delivery) : State :=
  let put := s.get (Reg.LINK_RPUT_PUT d.ring)
  let ws := d.head.set 7 (d.head.getD 7 0 ||| numAt put 16)
  let a := s.recAddr d.ring put
  let s := { s with link := { s.link with deliv := s.link.deliv.erase d } }
  let s :=
    if s.ringSize d.ring = 0 || !s.recOk d.ring put then s.count (Reg.LINK_RPUT_FULL d.ring)
    else
      let s := s.devWrite a ((ws.flatMap fun v => leBytes 4 v.toNat) ++ s.bytes (bufAddr d.lane d.buf) d.len)
      let s := s.put (Reg.LINK_RPUT_PUT d.ring) ((put + 1) % 65536)
      if s.flag (Reg.LINK_RCFG_NOTIFY d.ring) then
        s.postTo (if d.ring = 0 then .c0 else .c1) (140 + d.ring) ((ws.getD 0 0 &&& 0xFF000000) ||| numAt put 0) (ws.getD 8 0)
      else s
  let l := s.lane d.lane
  let mine := fun (f : Frame) => f.leaving && f.buf = d.buf
  s.setLane d.lane { l with
    frames := l.frames.filter fun f => !mine f
    acks := l.acks ++ l.frames.filter fun f => mine f && f.ack = .requested }

/-- DELIVERY_WRITE (R239): the oldest delivery of the ring. -/
def execDeliveryWrite (r : CoreId) (t : Nat) (s : State) : Host.Outcome State Fault Refusal :=
  let s := s.at_ t
  doneW (match s.link.deliv.find? fun d => d.ring = coreNum r with
    | some d => s.delivWrite d
    | none => s)

/-- A write of `LINK_RTAKE.TAKE` (R240): accepted unless it raises the occupancy. -/
def State.rtake (s : State) (r take : Nat) : State :=
  let put := s.get (Reg.LINK_RPUT_PUT r)
  let occ := fun t => (put + 65536 - t % 65536) % 65536
  if occ take ≤ occ (s.get (Reg.LINK_RTAKE_TAKE r)) then s.put (Reg.LINK_RTAKE_TAKE r) take else s

/-- RTAKE_WRITE (R240). -/
def execRtakeWrite (r : CoreId) (take : BitVec 16) (s : State) : Host.Outcome State Fault Refusal :=
  done (s.rtake (coreNum r) take.toNat)

/-! ### Events and interrupts (R172, R173) -/

/-- POST (R172): a line above 95 raises BADOP. -/
def execPostEvent (e c : Nat) (s : State) : Host.Outcome State Fault Refusal :=
  s.dataStep e c 0x2A fun s w =>
    let l := bitsOf w.imm 0 7
    if 96 ≤ l then .error 2
    else .ok (s.publish l (match (s.ctx e c).turnHop with | some h => h + 1 | none => 0))

/-- IRQ (R173). -/
def execIrq (e c : Nat) (s : State) : Host.Outcome State Fault Refusal :=
  s.dataStep e c 0x2B fun s w =>
    .ok (s.postRaw (if w.m 0 then .c1 else .c0) (ident e c) (w.mod / 2 % 8) false w.imm (s.srcV e c w))

/-! ### ARM (R163, R164, R176) -/

/-- An ARM step of one action; those that Table 6-9 gives engine 16 only raise BADOP elsewhere. -/
def State.armStep (s : State) (e c code : Nat) (only16 : Bool) (eff : State → StepWord → Except Nat State) :
    Host.Outcome State Fault Refusal :=
  s.runStep e c (fun w => w.op = 0x18 && w.mod = code) (fun s w =>
    if only16 && e != 16 then .error 2
    else match eff s w with
      | .ok t => .ok (t.stepNext e c w)
      | .error k => .error k) doneW

/-- The context has an action outstanding. -/
def Ctx.busyAct (x : Ctx) : Bool := x.act != .none

/-- The transmit that an entry makes when TXGO takes it (R72, R78, R131, R165). -/
def State.entryTx (s : State) (en : TxEntry) (taker : Nat) : Tx :=
  let w2 := en.words.getD 2 0
  let fmt := eFmt en.words
  let crct := eCrct en.words
  let len := eLen en.words
  let pl := s.bytes (en.words.getD 4 0).toNat (payLen fmt len crct)
  let dfl := bitOf w2 15
  let o := pl ++ fcsOf fmt crct (len + 256 * b2n crct) pl
  ⟨.queue en taker (s.ctx 16 taker).life, en.due, if bitOf w2 19 then bitsOf w2 20 6 else s.get Reg.RFE_TXCFG_TOL, bitOf w2 17,
    s.portFor (if dfl then s.get Reg.RFE_TXCFG_PORT else bitsOf w2 14 1),
    toSigned 6 (if dfl then s.get Reg.RFE_TXCFG_PWR else bitsOf w2 8 6), bitOf w2 16, fmt, bitsOf w2 0 7, crct, o, 0, 0, none, none, [],
    airtime fmt len⟩

/-- TXGO takes the offered entry: dwell check, then the hand-over (R167, R221). -/
def State.take (s : State) (c : Nat) (en : TxEntry) : State :=
  let tx := s.entryTx en c
  let s := { s with txq := s.txq.map fun x => if x = en then { x with taken := true } else x }
  let s := s.setCtx 16 c { s.ctx 16 c with acc := true, act := .txgo }
  if !s.dwellRoom tx.fmt tx.chan tx.air then (s.count Reg.LINK_DWSTAT_REFUSED).complete tx 5
  else
    let cs := s.chargeOf tx.fmt tx.chan
    (s.charge cs tx.air).handOver { tx with charge := cs }

/-- The bank of an entry's payload wakes (R267). -/
def State.wakePay (s : State) (en : TxEntry) : State :=
  s.wakeRange (en.words.getD 4 0).toNat (payLen (eFmt en.words) (eLen en.words) (eCrct en.words))

/-- TXGO (R163, R167). Issued while an action is outstanding it raises BUSY before it looks for an offered transmit: R163 and Table 6-9 do not
say which comes first (DESIGN CHOICE, log entry 107). -/
def execTxgo (e c : Nat) (s : State) : Host.Outcome State Fault Refusal :=
  s.armStep e c 1 true fun s _ =>
    match firstFault [((s.ctx e c).busyAct, 8), (s.noXtal, 6)] with
    | some k => .error k
    | none => .ok (match s.offered with
      | some en => (s.wakePay en).take c en
      | none => s.setCtx e c { s.ctx e c with acc := false })

/-- TXHOLD (R163). -/
def execTxhold (e c : Nat) (s : State) : Host.Outcome State Fault Refusal :=
  s.armStep e c 2 false fun s w => .ok (s.holdNbr (bitsOf (s.srcV e c w) 0 10) true)

/-- TXREL (R163). -/
def execTxrel (e c : Nat) (s : State) : Host.Outcome State Fault Refusal :=
  s.armStep e c 3 false fun s w => .ok (s.holdNbr (bitsOf (s.srcV e c w) 0 10) false)

/-- HOP (R163, R208). -/
def execHop (e c : Nat) (s : State) : Host.Outcome State Fault Refusal :=
  s.armStep e c 4 false fun s w =>
    let v := s.srcV e c w
    let ev := (((s.link.evc : Int) + w.imm.toInt) % (2 ^ 40 : Nat)).toNat
    .ok (s.setDst e c w (s.hopChan (bitsOf v 0 5) (bitsOf v 8 7) ev))

/-- GUARD (R163, R213, R214). -/
def execGuard (e c : Nat) (s : State) : Host.Outcome State Fault Refusal :=
  s.armStep e c 5 false fun s w =>
    let (v, t) := s.guardLink (bitsOf (s.srcV e c w) 0 10)
    .ok (t.setDst e c w v)

/-- RESYNC (R163, R211): from the current frame's SFD time. -/
def execResync (e c : Nat) (s : State) : Host.Outcome State Fault Refusal :=
  s.armStep e c 6 false fun s w =>
    match s.curFrame e c with
    | some (_, f) => .ok (s.resyncLink (bitsOf (s.srcV e c w) 0 10) f.tsfd)
    | none => .error 5

/-- SPRX (R164): a write of `RFE_SPCTL`. -/
def execSprx (e c : Nat) (s : State) : Host.Outcome State Fault Refusal :=
  s.armStep e c 7 true fun s w =>
    let v := s.srcV e c w
    if s.noXtal then .error 6
    else .ok (s.writeReg Reg.RFE_SPCTL
      (numAt 1 16 ||| numAt (bitsOf v 8 1) 12 ||| numAt (bitsOf v 9 2) 8 ||| numAt (bitsOf v 0 7) 0))

/-- SPOFF (R164): a write of 0 to `RFE_SPCTL.EN`. -/
def execSpoff (e c : Nat) (s : State) : Host.Outcome State Fault Refusal :=
  s.armStep e c 8 true fun s _ => .ok (s.writeL Reg.RFE_SPCTL (fmask Reg.RFE_SPCTL_EN) 0)

/-- SPED (R163): over 16 to 4096 µs. -/
def execSped (e c : Nat) (s : State) : Host.Outcome State Fault Refusal :=
  s.armStep e c 9 true fun s w =>
    match firstFault [((s.ctx e c).busyAct, 8), (s.noXtal, 6)] with
    | some k => .error k
    | none => .ok (s.setCtx e c { s.ctx e c with act := .sped (s.now + 40 * clampN 16 4096 w.imm.toNat) })

/-- SPED_DONE (R163). -/
def execSpedDone (c : Nat) (ed : Int) (t : Nat) (s : State) : Host.Outcome State Fault Refusal :=
  let s := s.at_ t
  let x := s.ctx 16 c
  doneW (match x.act with
    | .sped u => if u ≤ s.now && (s.eng 16).run then s.setCtx 16 c ({ x with act := .none, ed := ed }.latch 31) else s
    | _ => s)

/-- ARM SADC (R163, R406): the request joins the queue. -/
def execArmSadc (e c : Nat) (s : State) : Host.Outcome State Fault Refusal :=
  s.armStep e c 10 true fun s w =>
    let x := s.ctx e c
    if x.busyAct then .error 8
    else
      let s := s.setCtx e c { x with act := .sadc }
      .ok ({ s with sadc := { s.sadc with queue := s.sadc.queue ++ [⟨bitsOf (s.srcV e c w) 0 3, none, some c⟩] } } : State).sadcServe

/-- ARM WAKE (R163, R347). -/
def execArmWake (e c : Nat) (s : State) : Host.Outcome State Fault Refusal :=
  s.armStep e c 11 true fun s w => .ok (s.wakeTask (bitsOf (s.srcV e c w) 0 2))

end Sys2Proof.Machine
end

