-- ==== Sys2Proof/Machine/Loader.lean ====
section
/-! DEFINITION. Groups and engine 16 coming to a stop, and the step loader (R118, R182, R187 to R193); the live activation's use of it
(R390, R391). -/

namespace Sys2Proof.Machine

/-! ### The loader's phases -/

/-- Change the loader. -/
def State.ld (s : State) (f : Loader → Loader) : State := { s with ldr := f s.ldr }

/-- A load begins (R188). -/
def State.ldrBegin (s : State) (e src soft : Nat) (norestart forUpd : Bool) : State :=
  let l := Loader.reset
  (s.put Reg.REEL_LDSTAT_ENG e).ld fun _ => { l with
    phase := .verify, eng := e, src := src, soft := soft, norestart := norestart, heldBefore := e < 16 && s.held e, forUpd := forUpd }

/-- A write of LOAD (R188). -/
def State.ldrLoad (s : State) (v : Word) : State :=
  let e := bitsOf v 16 5
  if s.ldr.phase != .idle || 16 < e then s.put Reg.REEL_LDSTAT_REJECT 1
  else s.ldrBegin e (8 * s.get Reg.REEL_LDSRC_ADDR) (bitsOf v 8 8) (bitOf v 4) false

/-- The set before the one that is live becomes live again (R391). -/
def State.commitBack (s : State) : State := (s.commitPut (s.commitCount + 1) (1 - s.liveSet)).setMirror

/-- The activation ends with a code (Table 16-8). -/
def State.updEnd (s : State) (code : Nat) : State :=
  { s.put Reg.SYS_UPDSTAT_CODE code with upd := Upd.reset }

/-- The next load of a live activation, or its end (R390, R391). -/
def State.updNext (s : State) : State :=
  let u := s.upd
  if u.phase != .load || u.doing.isSome || s.ldr.phase != .idle then s
  else match u.engines with
    | e :: es =>
      let s := { s with upd := { u with engines := es, doing := some e } }
      (match s.live.find 3 e with
        | some en => s.ldrBegin e (en.getD 1 0).toNat u.soft false true
        | none => { s.haltFill e with upd := { s.upd with doing := none, changed := s.upd.changed ++ [e] } })
    | [] => (if u.core1 then s.coreReset .c1 else s).updEnd (if u.failed then 12 else 0)

/-- A load that the update controller began has ended (R391). -/
def State.updLoaded (s : State) (code : Nat) : State :=
  let u := s.upd
  match u.doing with
  | none => s
  | some e =>
    let ch := u.changed ++ [e]
    if code = 0 || u.failed then { s with upd := { u with doing := none, changed := ch } }
    else { s.commitBack with upd := { u with doing := none, changed := [], failed := true, engines := ch } }

/-- Engines without an entry are passed over at once. -/
def State.updGo (s : State) : State := forN (s.upd.engines.length + 1) (fun s _ => s.updNext) s

/-- The load ends with a code of Table 7-4 and its dark time, and posts its record (R191). -/
def State.ldrEnd (s : State) (code dark : Nat) : State :=
  let upd := s.ldr.forUpd
  let s := ((s.ld fun _ => Loader.reset).put Reg.REEL_LDSTAT_CODE code).setReg Reg.REEL_LDDARK (BitVec.ofNat 32 dark)
  let s := s.postTo .c0 137 s.ldstat 0
  (if upd then s.updLoaded code else s).updGo

/-- The engine has stopped, or was stopped: COPY begins with the group held (R189, R190). -/
def State.ldrCopy (s : State) (stopT : Option Nat) : State :=
  let e := s.ldr.eng
  let was := e < 16 && s.held e
  let s := if e < 16 then s.holdGroups (2 ^ e) else s
  let s := s.setEng e { s.eng e with wantStart := false }
  s.ld fun l => { l with phase := .copy, stopT := stopT, weHold := l.weHold || !was }

/-- A load in STOPPING goes on once its engine is stopped. -/
def State.ldrFollow (s : State) (e : Nat) : State :=
  if s.ldr.phase = .stopping && s.ldr.eng = e && !(s.eng e).run then s.ldrCopy (some s.now) else s

/-- The loader holds its group as R118 gives (R189). -/
def State.ldrHold (s : State) : State :=
  let was := s.held s.ldr.eng
  (s.holdGroups (2 ^ s.ldr.eng)).ld fun l => { l with hard := true, weHold := l.weHold || !was }

/-- VERIFY has passed (R189). -/
def State.ldrStop (s : State) (h : List Word) : State :=
  let e := s.ldr.eng
  let s := s.ld fun l => { l with phase := .stopping, began := s.now, hdr := h }
  if !(s.eng e).run then s.ldrCopy none
  else if e = 16 then s.setEng 16 { s.eng 16 with stopping := true }
  else if s.ldr.soft = 0 then s.ldrHold
  else s

/-- A write of ABORT (R192). -/
def State.ldrAbort (s : State) : State :=
  match s.ldr.phase with
  | .verify => s.ldrEnd 7 0
  | .stopping => (if s.ldr.weHold then s.freeGroups (2 ^ s.ldr.eng) else s).ldrEnd 7 0
  | _ => s

/-- RESTART (R191). -/
def State.ldrRestart (s : State) : State :=
  let l := s.ldr
  let s := s.ld fun l => { l with phase := .restart }
  if l.norestart || l.heldBefore then s
  else if l.eng < 16 then s.freeGroups (2 ^ l.eng)
  else if s.flag Reg.REEL_E16CTL_RUN && s.radioOn then s.engStart 16
  else s

/-- Dark time in µs, 0 unless the load stopped the engine and restarted it (Table 7-14). -/
def State.ldrDark (s : State) : Nat :=
  match s.ldr.stopT with
  | some t => if (s.eng s.ldr.eng).run then (s.now - t) / 40 else 0
  | none => 0

/-- VERIFY has read its source (R186, R187, R189): flash returns what R285 to R287 give. -/
def State.ldrVerify (s : State) : State :=
  let a := s.ldr.src
  let (t, bad) := s.rscans [(a, s.imgSpan a s.ldr.eng)]
  let rd := s.rgot bad
  match s.imgFault rd bad a s.ldr.eng with
  | some code => t.ldrEnd code 0
  | none => t.ldrStop (hdrOf (rd a 32))

/-- COPY, CHECK and RESTART (R190, R191). A source bank that has come to refuse since VERIFY is read on as it stands: neither R190 nor Table 7-4
names an end for it (DESIGN CHOICE, log entry 111). -/
def State.ldrDo (s : State) : State :=
  let l := s.ldr
  let n := 8 * imgCount l.hdr
  let (t, bad) := s.rscans [(l.src + 32, n)]
  let (ok, s) := t.imgCopy l.eng l.hdr (s.rgot bad (l.src + 32) n) bad.isEmpty
  if ok then
    let s := s.ldrRestart
    s.ldrEnd 0 s.ldrDark
  else s.ldrEnd 6 0

/-! ### Commands -/

/-- LOAD (R188). -/
def execLoadTable (data : Word) (s : State) : Host.Outcome State Fault Refusal := doneW (s.ldrLoad data)

/-- LOAD_ABORT (R192). -/
def execLoadAbort (s : State) : Host.Outcome State Fault Refusal := doneW s.ldrAbort

/-- LOAD_VERIFY_DONE (R186, R187, R189): not before the flash controller has served the source (R295, R296). -/
def execLoadVerifyDone (t : Nat) (s : State) : Host.Outcome State Fault Refusal :=
  let s := s.at_ t
  let n := s.imgSpan s.ldr.src s.ldr.eng
  doneW (if s.ldr.phase = .verify then (if s.rwaits s.ldr.src n then s.rtouch s.ldr.src n else s.ldrVerify) else s)

/-- Every lane of a group is in HUNT or OFF (R189). -/
def State.huntOrOff (s : State) (g : Nat) : Bool :=
  (List.range 8).all fun i => (s.lane (8 * g + i)).st = .hunt || (s.lane (8 * g + i)).st = .off

/-- The group stops at its own quiet instant (R189). -/
def State.quietStop (s : State) : State :=
  let e := s.ldr.eng
  let was := s.held e
  let s := (s.holdGroups (2 ^ e)).groupStop e
  (s.ld fun l => { l with weHold := l.weHold || !was }).ldrFollow e

/-- LOAD_QUIET_STOP (R189). -/
def execLoadQuietStop (t : Nat) (s : State) : Host.Outcome State Fault Refusal :=
  let s := s.at_ t
  let e := s.ldr.eng
  doneW (if s.ldr.phase = .stopping && !s.ldr.hard && e < 16 && s.groupDone e && s.huntOrOff e then s.quietStop else s)

/-- LOAD_SOFT_WAIT_EXPIRY (R189). -/
def execLoadSoftWaitExpiry (t : Nat) (s : State) : Host.Outcome State Fault Refusal :=
  let s := s.at_ t
  doneW (if s.ldr.phase = .stopping && !s.ldr.hard && s.ldr.eng < 16 && s.ldr.began + 40000 * s.ldr.soft ≤ s.now then
    s.ldrHold else s)

/-- LOAD_COMPLETE (R190, R191, R193). -/
def execLoadComplete (t : Nat) (s : State) : Host.Outcome State Fault Refusal :=
  let s := s.at_ t
  let n := imgLen s.ldr.hdr
  doneW (if s.ldr.phase = .copy then (if s.rwaits s.ldr.src n then s.rtouch s.ldr.src n else s.ldrDo) else s)

/-- A group's stop is under way: it is held, or the Envelope stops (R111, R118). -/
def State.groupLeaving (s : State) (g : Nat) : Bool := s.held g || s.env.st = .stopping

/-- GROUP_STOPPED (R118, R145, R189): nothing of the group is in progress. -/
def execGroupStopped (g : Nat) (t : Nat) (s : State) : Host.Outcome State Fault Refusal :=
  let s := s.at_ t
  doneW (if g < 16 && s.groupLeaving g && s.groupDone g then (s.groupStop g).ldrFollow g else s)

/-- Engine 16 has come to its stop (R182): it starts again at once if RUN reads 1, unless a load or a pause holds it. The single path's lane,
OFF since context 0 halted or faulted, does not hunt again for that before the RFE next enters SP_RX: R182 does not say (DESIGN CHOICE, log
entry 109). -/
def State.e16Stopped (s : State) : State :=
  let s := (s.engStop 16).ldrFollow 16
  if s.flag Reg.REEL_E16CTL_RUN && s.radioOn && !s.loading 16 && !s.upd.stop16 then s.engStart 16 else s

/-- ENGINE16_STOPPED (R182). -/
def execEngine16Stopped (t : Nat) (s : State) : Host.Outcome State Fault Refusal :=
  let s := s.at_ t
  doneW (if (s.eng 16).run && (s.eng 16).stopping && s.allWait 16 then s.e16Stopped else s)

end Sys2Proof.Machine
end

