-- ==== Sys2Proof/Machine/Timebase.lean ====
section
/-! DEFINITION. Meanings of the commands of the network timebase (R42, R194 to R199) and of the 32.768 kHz crystal (R371). -/

namespace Sys2Proof.Machine

/-- Start calibration begins at XTAL_READY (R375). -/
def State.rcalBegin (s : State) : State := { s with start := { s.start with rcalT := s.start.rcalT || s.start.rcal } }

/-- The crystal is ready (R197): a standing request of firmware moves the timebase, or in HOVER that of the power controller once the
RFE need not be waited for (R354); event output 3 publishes (Table 13-2). -/
def State.xtalUp (s : State) : State :=
  let hover := s.pwr.forced = some 3
  let move := if hover then !s.flag Reg.RFE_CTL_EN else s.flag Reg.TBASE_CTL_AUTO
  (({ s with tb := { s.tb with ready := true, move := s.tb.move || move } } : State).rcalBegin.tbNotify s).output 3 0

/-- XTAL_READY (R42, R197, R199, R375). -/
def execXtalReady (t : Nat) (s : State) : Host.Outcome State Fault Refusal :=
  let s := s.at_ t
  doneW (if s.tb.xtalOn && !s.tb.ready then s.xtalUp else s)

/-- TBASE_REF_ON (R197): a write of 1 to REF. -/
def execTbaseRefOn (s : State) : Host.Outcome State Fault Refusal := doneW s.tbRefOn

/-- TBASE_REF_OFF (R198): a write of 0 to REF. -/
def execTbaseRefOff (s : State) : Host.Outcome State Fault Refusal := doneW s.tbRefOff

/-- TBASE_AUTO_ON (R198): a write of 1 to AUTO. -/
def execTbaseAutoOn (s : State) : Host.Outcome State Fault Refusal := doneW (s.tbAuto true)

/-- The timebase runs on the crystal (R197): XTAL is true, and transmits and the single path may go ahead (R42, R71). -/
def State.tbMove (s : State) : State :=
  let t := ({ s with tb := { s.tb with src := .xtal, move := false } } : State).tbNotify s
  if t.rfe.st = .idle && t.rfe.holder.isNone then t.synthFree else t.claimWaiting

/-- TIMEBASE_SWITCH (R195, R197). -/
def execTimebaseSwitch (t : Nat) (s : State) : Host.Outcome State Fault Refusal :=
  let s := s.at_ t
  doneW (if s.tb.move && s.tb.ready && s.tb.src != .xtal then s.tbMove else s)

/-- SAMPLE_PLL_LOCK (R42, R71): an RFE held in OFF by EN = 1 may begin STARTING. -/
def execSamplePllLock (t : Nat) (s : State) : Host.Outcome State Fault Refusal :=
  let s := s.at_ t
  doneW (if s.tb.ready && s.tb.xtalOn then ({ s with tb := { s.tb with pll := true } } : State).rfeTryStart else s)

/-- (INC − nominal)/4 rounded to the nearest integer (R370); the manual does not say which of two equally near ones. -/
def State.autoTrim (s : State) (inc : Word) : Int :=
  let d : Int := (inc.toNat : Int) - 0x04C4B400
  let q := d / 4
  let r := d % 4
  if r < 2 then q else if r = 2 then q + (Config.freeNat s.free % 2 : Nat) else q + 1

/-- A measurement of the 32.768 kHz crystal is loaded (R196), and with AUTO the trim with it (R370). -/
def State.lfcal (s : State) (inc : Word) : State :=
  let t := s.rtcSync.setReg Reg.TBASE_LFCAL inc
  let t := ({ t with tb := { t.tb with lfcalok := true } } : State).tbNotify s
  if t.flag Reg.RTC_TRIM_AUTO then (t.trimLoad (t.autoTrim inc)).fresh else t

/-- LFCAL_MEASURE (R196, R370): both crystals run. -/
def execLfcalMeasure (inc : Word) (t : Nat) (s : State) : Host.Outcome State Fault Refusal :=
  let s := s.at_ t
  doneW (if s.tb.xtalOn && s.tb.ready && s.tb.lfok then s.lfcal inc else s)

/-- The 32.768 kHz crystal gives its first edge: the count of the RTC resumes (R371), and the carry takes up the timebase's where it stands
(R199). -/
def State.lfStart (s : State) : State :=
  if s.tb.lfok then s
  else { s with
    tb := { s.tb with lfok := true, edge := s.now, rem := 0 }
    rtc := { s.rtc with running := true, since := s.now } }

/-- LF_CRYSTAL_START (R199, R371). -/
def execLfCrystalStart (t : Nat) (s : State) : Host.Outcome State Fault Refusal := doneW (s.at_ t).lfStart

/-- The 32.768 kHz crystal gives no edges (R199, R371): a timebase on the carry goes on on the FIO. -/
def State.lfStop (s : State) : State :=
  let s := (s.rtcSync.put Reg.RTC_STATUS_OSCSTOP 1).put Reg.RTC_STATUS_TIME_SUSPECT 1
  let src := if s.tb.src = .carry then TbSrc.fio else s.tb.src
  { s with tb := { s.tb with lfok := false, src := src, fio := s.tb.fio || src == TbSrc.fio }, rtc := { s.rtc with running := false } }

/-- LF_CRYSTAL_STOP (R371). -/
def execLfCrystalStop (t : Nat) (s : State) : Host.Outcome State Fault Refusal := doneW (s.at_ t).lfStop

/-- VBKP_LOW (R371): VBKPLOW shows the comparison; below 1.55 V while VBKP feeds the backup domain, the count is not trusted. -/
def execVbkpLow (low feeds : Bool) (t : Nat) (s : State) : Host.Outcome State Fault Refusal :=
  let s := s.at_ t
  let s := { s with rtc := { s.rtc with vbkpLow := low } }
  done (if low && feeds then s.put Reg.RTC_STATUS_TIME_SUSPECT 1 else s)

/-- FIO_BURST_START (R198): 61.0 µs before the earliest compare. -/
def execFioBurstStart (t : Nat) (s : State) : Host.Outcome State Fault Refusal :=
  let s := s.at_ t
  doneW (if !s.tb.xtalOn && s.tb.src = .carry && s.nextCompare ≤ s.now + 2440 then
    { s with tb := { s.tb with src := .fio, fio := true } } else s)

end Sys2Proof.Machine
end

