-- ==== Sys2Proof/Machine/Link.lean ====
section
/-! DEFINITION. Meanings of the commands of LINK: slots, the counter, supervision, dwell (R201 to R206, R218, R220). -/

namespace Sys2Proof.Machine

/-- A SETEVC that passed over a scheduled value (R204). -/
def passedOver (was now v : Nat) : Bool := was < v && v < now

/-- A scheduled switch at a slot start whose counter went from `was` to its present value (R51, R204). -/
def State.slotSwitch (s : State) (was : Nat) : State :=
  match s.cfg.sched with
  | none => s
  | some v =>
    let past := passedOver was s.link.evc v
    if s.link.evc = v || past then
      let s := ({ s with cfg := { s.cfg with sched := none } } : State).switchDue true (some 18)
      if past then s.put Reg.CFG_STATUS_LATE 1 else s
    else s

/-- A slot start (R202): the counter, the acceptance window (R54), a switch that is due, unit 18, SLOT, the slot-start event and its
wake request. -/
def State.slotStart (s : State) : State :=
  let was := s.link.evc
  let s := s.slotCount
  let s := { s with cfg := { s.cfg with window := s.cfg.window - 1 } }
  let s := (((s.slotSwitch was).applyUnit 18).afterPend (some 18)).slotLay
  let s := (s.latchAll 23).output 0 0
  { s with pwr := { s.pwr with wakeReq := s.pwr.wakeReq ||| 2 } }

/-- The slot grid runs in every mode but OFF and HIBERNATE (R201). -/
def State.gridOn (s : State) : Bool := s.pwr.forced != some 0 && s.pwr.forced != some 1

/-- SLOT_START (R201 to R206). -/
def execSlotStart (t : Nat) (s : State) : Host.Outcome State Fault Refusal :=
  let s := s.at_ t
  doneW (if s.gridOn && s.link.nextT ≤ s.now then s.slotStart else s)

/-- A write of SETEVC (R204): the value that `LINK_EVCSET_HI` and `LINK_EVCSET_LO` were last given. -/
def State.evcSet (s : State) : State :=
  let v := s.lastGet Reg.LINK_EVCSET_HI_VAL * 2 ^ 32 + (s.last Reg.LINK_EVCSET_LO).toNat
  { s with link := { s.link with setPend := some v } }

/-- SETEVC (R204). -/
def execSetevc (s : State) : Host.Outcome State Fault Refusal := done s.evcSet

/-- A write of CANCELSET (R204). -/
def State.evcCancel (s : State) : State := { s with link := { s.link with setPend := none } }

/-- CANCELSET (R204). -/
def execCancelset (s : State) : Host.Outcome State Fault Refusal := done s.evcCancel

/-- A write of `LINK_ADJ` (R205): a second write before it applies replaces the first. -/
def State.adjWrite (s : State) (v : Word) : State :=
  { s with link := { s.link with adj := some (40 * toSigned 16 (bitsOf v 0 16)) } }

/-- LINK_ADJ_WRITE (R205). -/
def execLinkAdjWrite (data : Word) (s : State) : Host.Outcome State Fault Refusal := done (s.adjWrite data)

/-- SUPERVISION_EXPIRY (R218): LINK examines entry n. -/
def execSupervisionExpiry (n : Nat) (t : Nat) (s : State) : Host.Outcome State Fault Refusal :=
  let s := s.at_ t
  doneW (if n < 1024 && s.supExpired n then s.supExpire n else s)

/-- The charges that have left the sum are forgotten (R220). -/
def State.bucketRoll (s : State) : State :=
  { s with link := { s.link with
      bucket := s.bucketNow
      dwell := s.link.dwell.filter fun c => s.bucketNow < c.bucket + 16 } }

/-- DWELL_BUCKET_ROLL (R220). -/
def execDwellBucketRoll (t : Nat) (s : State) : Host.Outcome State Fault Refusal := done (s.at_ t).bucketRoll

end Sys2Proof.Machine
end

