-- ==== Sys2Proof/Machine/Clock.lean ====
section
/-! DEFINITION. Meanings of the commands of the RTC (chapter 15). -/

namespace Sys2Proof.Machine

/-! ### The second boundary (R359) -/

/-- Last count (R356). -/
def secMax : Nat := 2 ^ 48 - 1

/-- The armed alarms whose time the count has just reached (R365). -/
def State.almDue (s : State) : List Nat :=
  [0, 1].filter fun n => s.flag (Reg.RTC_ALMCTL_ARM n) && s.almTime n = s.rtc.sec

/-- A waiting HOUR± applies (R364, R366). -/
def State.hourApply (s : State) : State :=
  let t := { s with rtc := { s.rtc with hour := none } }
  match s.rtc.hour with
  | none => s
  | some true => ({ t with rtc := { t.rtc with snap := true } } : State).rtcAdjust (min secMax (t.rtc.sec + 3600))
  | some false =>
    if t.rtc.sec < 3600 then t.put Reg.RTC_STATUS_ADJ_ERR 1
    else ({ t with rtc := { t.rtc with snap := true } } : State).rtcAdjust (t.rtc.sec - 3600)

/-- A second boundary (R359): the fraction has wrapped under the trim in force until now; then waiting writes, the advance, HOUR±, the
compare of the alarms, a snapshot on the hour. A count that has reached its end does not advance, so that no alarm falls due (R356, R365). -/
def State.second (s : State) : State :=
  let s := { s with rtc := { s.rtc.wrap s.trim with since := s.now } }
  let s := s.rtcMerge
  let c := min secMax (s.rtc.sec + 1)
  let on := s.rtc.sec < secMax
  let s := { s with rtc := { s.rtc with sec := c, snap := s.rtc.snap || (on && c % 3600 = 0) } }
  let hits := if on then s.almDue else []
  let s := s.hourApply
  s.almFireAll hits (max c s.rtc.sec) false

/-- SECOND_BOUNDARY (R359): the 32.768 kHz crystal runs. -/
def execSecondBoundary (t : Nat) (s : State) : Host.Outcome State Fault Refusal :=
  let s := s.at_ t
  doneW (if s.rtc.running then s.second else s)

/-! ### Commands (R361 to R364) -/

/-- The key of `RTC_CMD` (Table 15-2). -/
def rtcKey : BitVec 16 := 0xC10C

/-- SET (R363). -/
def State.rtcSet (s : State) : State := s.rtcSetTo s.setSec (s.get Reg.RTC_SETFRAC_FRAC)

/-- A conversion is rejected (R361). -/
def State.calErr (s : State) : State := s.put Reg.RTC_STATUS_CAL_ERR 1

/-- CALSET (R361, R363). -/
def State.rtcCalset (s : State) : State := if s.calIn.valid then s.rtcSetTo s.calIn.count 0 else s.calErr

/-- CAL2CNT (R361). -/
def State.cal2cnt (s : State) : State :=
  if s.calIn.valid then
    (s.setReg Reg.RTC_SETSEC_LO (BitVec.ofNat 32 s.calIn.count)).put Reg.RTC_SETSEC_HI_VAL (s.calIn.count / 2 ^ 32)
  else s.calErr

/-- CNT2CAL (R361). -/
def State.cnt2cal (s : State) : State :=
  if calMax < s.setSec then s.calErr
  else
    let w := (Cal.ofCount s.setSec).words (wday s.setSec)
    (s.setReg Reg.RTC_CALDATE w.1).setReg Reg.RTC_CALTIME w.2

/-- A conversion runs until RTC_CONVERSION_DONE (R361). -/
def State.convBegin (s : State) : State := { s with rtc := { s.rtc with conv := true } }

/-- A waiting HOUR± is set or withdrawn (R364). -/
def State.hourSet (s : State) (h : Option Bool) : State := { s with rtc := { s.rtc with hour := h } }

/-- The effect of each OP of `RTC_CMD` (Table 15-2). -/
def State.rtcOp (s : State) (op : Nat) : State :=
  if s.rtc.conv then s
  else match op with
    | 1 => s.rtcSet
    | 2 => s.rtcCalset.convBegin
    | 3 => s.hourSet (some true)
    | 4 => s.hourSet (some false)
    | 5 => s.hourSet none
    | 6 => s.cal2cnt.convBegin
    | 7 => s.cnt2cal.convBegin
    | _ => s

/-- A write of `RTC_CMD`: without the key it is ignored. -/
def State.rtcCmd (s : State) (key : BitVec 16) (op : Nat) : State := if key = rtcKey then s.rtcOp op else s

/-- SET (R363). -/
def execRtcSet (key : BitVec 16) (s : State) : Host.Outcome State Fault Refusal := doneW (s.rtcCmd key 1)

/-- CALSET (R361, R363). -/
def execCalset (key : BitVec 16) (s : State) : Host.Outcome State Fault Refusal := doneW (s.rtcCmd key 2)

/-- HOURPLUS (R364). -/
def execHourplus (key : BitVec 16) (s : State) : Host.Outcome State Fault Refusal := doneW (s.rtcCmd key 3)

/-- HOURMINUS (R364). -/
def execHourminus (key : BitVec 16) (s : State) : Host.Outcome State Fault Refusal := doneW (s.rtcCmd key 4)

/-- HOURCANCEL (R364). -/
def execHourcancel (key : BitVec 16) (s : State) : Host.Outcome State Fault Refusal := doneW (s.rtcCmd key 5)

/-- CAL2CNT (R361). -/
def execCal2cnt (key : BitVec 16) (s : State) : Host.Outcome State Fault Refusal := doneW (s.rtcCmd key 6)

/-- CNT2CAL (R361). -/
def execCnt2cal (key : BitVec 16) (s : State) : Host.Outcome State Fault Refusal := doneW (s.rtcCmd key 7)

/-- RTC_CONVERSION_DONE (R361): CVBUSY clears. -/
def execRtcConversionDone (t : Nat) (s : State) : Host.Outcome State Fault Refusal :=
  let s := s.at_ t
  done { s with rtc := { s.rtc with conv := false } }

/-- RTC_SNAPSHOT_WRITE (R372): a snapshot that is due is written while the memory cluster is powered. -/
def execRtcSnapshotWrite (t : Nat) (s : State) : Host.Outcome State Fault Refusal :=
  let s := s.at_ t
  done (if s.rtc.snap && s.awake && !s.start.busy then s.snapWrite else s)

end Sys2Proof.Machine
end

