-- ==== Sys2Proof/Machine/Aes.lean ====
section
/-! DEFINITION. AES (FIPS 197) and the modes of Table 10-1: CCM*, GCM, CTR, CMAC and key wrap KW. Blocks and keys are octets in memory
order (R243). -/

namespace Sys2Proof.Machine

/-! ### AES (FIPS 197) -/

/-- Multiplication by x in GF(2^8) modulo x^8 + x^4 + x^3 + x + 1. -/
def xtime (a : Byte) : Byte := (a <<< 1) ^^^ (if a.msb then 0x1B else 0)

/-- The product in GF(2^8), over the low `n` bits of the second factor. -/
def gmulN : Nat → Byte → Byte → Byte
  | 0, _, _ => 0
  | n + 1, a, b => (if b.getLsbD 0 then a else 0) ^^^ gmulN n (xtime a) (b >>> 1)

def gmul (a b : Byte) : Byte := gmulN 8 a b

/-- The inverse in GF(2^8), 0 for 0: the power 254. -/
def ginv (a : Byte) : Byte :=
  let a2 := gmul a a
  let a4 := gmul a2 a2
  let a8 := gmul a4 a4
  let a16 := gmul a8 a8
  let a32 := gmul a16 a16
  let a64 := gmul a32 a32
  gmul (gmul (gmul (gmul a2 a4) (gmul a8 a16)) (gmul a32 a64)) (gmul a64 a64)

/-- The S-box: the inverse, then the affine map. -/
def sbox (a : Byte) : Byte :=
  let b := ginv a
  b ^^^ b.rotateLeft 1 ^^^ b.rotateLeft 2 ^^^ b.rotateLeft 3 ^^^ b.rotateLeft 4 ^^^ 0x63

/-- The inverse S-box. -/
def sboxInv (a : Byte) : Byte := ginv (a.rotateLeft 1 ^^^ a.rotateLeft 3 ^^^ a.rotateLeft 6 ^^^ 0x05)

/-- Octets of equal length, added bit by bit; the shorter length wins. -/
def xorBytes (a b : List Byte) : List Byte := List.zipWith (· ^^^ ·) a b

/-- The key schedule: `n` more words after the `nk` words of the key, latest first. -/
def keyWords (nk : Nat) : Nat → Nat → Byte → List (List Byte) → List (List Byte)
  | 0, _, _, ws => ws
  | n + 1, i, rc, ws =>
    let prev := ws.headD []
    let rot := prev.drop 1 ++ prev.take 1
    let t :=
      if i % nk = 0 then xorBytes (rot.map sbox) [rc, 0, 0, 0]
      else if nk = 8 ∧ i % nk = 4 then prev.map sbox
      else prev
    let rc := if i % nk = 0 then xtime rc else rc
    keyWords nk n (i + 1) rc (xorBytes (ws.getD (nk - 1) []) t :: ws)

/-- Octets cut into pieces of `n`. -/
def chunksN (n : Nat) : Nat → List Byte → List (List Byte)
  | 0, _ => []
  | k + 1, l => if l.isEmpty then [] else l.take n :: chunksN n k (l.drop n)

def chunks (n : Nat) (l : List Byte) : List (List Byte) := chunksN n l.length l

/-- Number of rounds: 10 for a 128-bit key, 14 for a 256-bit key. -/
def aesRounds (key : List Byte) : Nat := key.length / 4 + 6

/-- The round keys, first to last. -/
def roundKeys (key : List Byte) : List (List Byte) :=
  let nk := key.length / 4
  let n := 4 * (aesRounds key + 1)
  chunks 16 (keyWords nk (n - nk) nk 1 (chunks 4 key).reverse).reverse.flatten

/-- Row r of the state moves left by r columns, or right for the inverse. -/
def shiftRows (inv : Bool) (b : List Byte) : List Byte :=
  (List.range 16).map fun i =>
    let r := i % 4
    let c := i / 4
    b.getD (r + 4 * ((if inv then c + 4 - r else c + r) % 4)) 0

/-- Each column is multiplied by the matrix whose first row is `m`. -/
def mixColumns (m : List Byte) (b : List Byte) : List Byte :=
  (List.range 16).map fun i =>
    (List.range 4).foldl (fun x j => x ^^^ gmul (m.getD ((j + 4 - i % 4) % 4) 0) (b.getD (4 * (i / 4) + j) 0)) 0

/-- One block enciphered. -/
def aesEnc (key b : List Byte) : List Byte :=
  let ks := roundKeys key
  let n := aesRounds key
  let k := fun i => ks.getD i []
  let b := (List.range (n - 1)).foldl
    (fun b i => xorBytes (mixColumns [2, 3, 1, 1] (shiftRows false (b.map sbox))) (k (i + 1))) (xorBytes b (k 0))
  xorBytes (shiftRows false (b.map sbox)) (k n)

/-- One block deciphered. -/
def aesDec (key b : List Byte) : List Byte :=
  let ks := roundKeys key
  let n := aesRounds key
  let k := fun i => ks.getD i []
  let b := (List.range (n - 1)).foldl
    (fun b i => mixColumns [14, 11, 13, 9] (xorBytes ((shiftRows true b).map sboxInv) (k (n - 1 - i)))) (xorBytes b (k n))
  xorBytes ((shiftRows true b).map sboxInv) (k 0)

/-! ### Octet strings -/

/-- Big-endian value. -/
def beNat (l : List Byte) : Nat := l.foldl (fun n b => 256 * n + b.toNat) 0

/-- The `n` big-endian octets of a number. -/
def beBytes (n v : Nat) : List Byte := (leBytes n v).reverse

def zeros (n : Nat) : List Byte := List.replicate n 0

/-- Padded with zeros to whole blocks. -/
def padBlock (l : List Byte) : List Byte := l ++ zeros ((16 - l.length % 16) % 16)

/-! ### CTR (SP 800-38A): the rightmost 32 bits count, big-endian, modulo 2^32 -/

/-- The counter block `i` steps on. -/
def ctrBlock (c : List Byte) (i : Nat) : List Byte := c.take 12 ++ beBytes 4 (beNat (c.drop 12) + i)

/-- Text enciphered or deciphered from an initial counter block. -/
def ctrCrypt (key c text : List Byte) : List Byte :=
  ((chunks 16 text).zipIdx).flatMap fun p => xorBytes p.1 (aesEnc key (ctrBlock c p.2))

/-! ### CBC-MAC and CCM* (SP 800-38C, IEEE 802.15.4-2020): nonce of 13 octets, L = 2 -/

/-- The chain value over whole blocks. -/
def cbcMac (key msg : List Byte) : List Byte := (chunks 16 msg).foldl (fun x b => aesEnc key (xorBytes x b)) (zeros 16)

/-- The associated data with its length in front, padded. -/
def ccmAad (a : List Byte) : List Byte :=
  if a.isEmpty then []
  else padBlock ((if a.length < 0xFF00 then beBytes 2 a.length else [0xFF, 0xFE] ++ beBytes 4 a.length) ++ a)

/-- The tag of `m` octets before it is enciphered. -/
def ccmMac (key nonce aad text : List Byte) (m : Nat) : List Byte :=
  let flags := (if aad.isEmpty then 0 else 64) + 8 * ((m - 2) / 2) + 1
  (cbcMac key ([BitVec.ofNat 8 flags] ++ nonce ++ beBytes 2 text.length ++ ccmAad aad ++ padBlock text)).take m

/-- Counter block A0. -/
def ccmA0 (nonce : List Byte) : List Byte := [1] ++ nonce ++ [0, 0]

/-- Text enciphered or deciphered from counter block A1 on. -/
def ccmCrypt (key nonce text : List Byte) : List Byte := ctrCrypt key (ctrBlock (ccmA0 nonce) 1) text

/-- The tag as sent: none for `m` = 0. -/
def ccmTag (key nonce aad plain : List Byte) (m : Nat) : List Byte :=
  if m = 0 then [] else xorBytes (ccmMac key nonce aad plain m) (aesEnc key (ccmA0 nonce))

/-! ### GCM (SP 800-38D): IV of 12 octets -/

/-- The product in GF(2^128), bit 0 the most significant, over the `n` bits of `x` still to come. -/
def gfMulN : Nat → BitVec 128 → BitVec 128 → BitVec 128 → BitVec 128
  | 0, _, _, z => z
  | n + 1, x, v, z =>
    gfMulN n (x <<< 1) ((v >>> 1) ^^^ (if v.getLsbD 0 then 0xE1#128 <<< 120 else 0)) (if x.msb then z ^^^ v else z)

def gfMul (x y : BitVec 128) : BitVec 128 := gfMulN 128 x y 0

/-- GHASH of whole blocks under hash key `h`. -/
def ghash (h : BitVec 128) (l : List Byte) : BitVec 128 :=
  (chunks 16 l).foldl (fun y b => gfMul (y ^^^ BitVec.ofNat 128 (beNat b)) h) 0

/-- The pre-counter block J0. -/
def gcmJ0 (iv : List Byte) : List Byte := iv ++ [0, 0, 0, 1]

/-- Text enciphered or deciphered. -/
def gcmCrypt (key iv text : List Byte) : List Byte := ctrCrypt key (ctrBlock (gcmJ0 iv) 1) text

/-- The tag of `m` octets over the associated data and the ciphertext. -/
def gcmTag (key iv aad cipher : List Byte) (m : Nat) : List Byte :=
  let h := BitVec.ofNat 128 (beNat (aesEnc key (zeros 16)))
  let g := ghash h (padBlock aad ++ padBlock cipher ++ beBytes 8 (8 * aad.length) ++ beBytes 8 (8 * cipher.length))
  (xorBytes (beBytes 16 g.toNat) (aesEnc key (gcmJ0 iv))).take m

/-! ### CMAC (SP 800-38B) -/

/-- Doubling in GF(2^128). -/
def cmacDbl (l : BitVec 128) : BitVec 128 := (l <<< 1) ^^^ (if l.msb then 0x87 else 0)

/-- The MAC of `m` octets. -/
def cmac (key msg : List Byte) (m : Nat) : List Byte :=
  let k1 := cmacDbl (BitVec.ofNat 128 (beNat (aesEnc key (zeros 16))))
  let n := (msg.length - 1) / 16 * 16
  let head := msg.take n
  let last := msg.drop n
  let last :=
    if last.length = 16 then xorBytes last (beBytes 16 k1.toNat)
    else xorBytes (padBlock (last ++ [0x80])) (beBytes 16 (cmacDbl k1).toNat)
  (cbcMac key (head ++ last)).take m

/-! ### Key wrap KW (SP 800-38F) -/

/-- Step `t` of wrapping: A and the semiblocks, the one to be taken first. -/
def kwStep (key : List Byte) (x : List Byte × List (List Byte)) (t : Nat) : List Byte × List (List Byte) :=
  match x.2 with
  | [] => x
  | r :: rs =>
    let b := aesEnc key (x.1 ++ r)
    (xorBytes (b.take 8) (beBytes 8 t), rs ++ [b.drop 8])

/-- The wrapped form of 16 or 32 octets. -/
def kwWrap (key p : List Byte) : List Byte :=
  let n := p.length / 8
  let x := (List.range (6 * n)).foldl (fun x i => kwStep key x (i + 1)) (List.replicate 8 0xA6, chunks 8 p)
  x.1 ++ x.2.flatten

/-- Step `t` undone: the semiblocks with the one written last at the end. -/
def kwBack (key : List Byte) (x : List Byte × List (List Byte)) (t : Nat) : List Byte × List (List Byte) :=
  match x.2.getLast? with
  | none => x
  | some r =>
    let b := aesDec key (xorBytes x.1 (beBytes 8 t) ++ r)
    (b.take 8, b.drop 8 :: x.2.dropLast)

/-- The key in a blob, if its integrity check passes. -/
def kwUnwrap (key c : List Byte) : Option (List Byte) :=
  let n := c.length / 8 - 1
  let x := (List.range (6 * n)).foldl (fun x i => kwBack key x (6 * n - i)) (c.take 8, chunks 8 (c.drop 8))
  if x.1 = List.replicate 8 0xA6 then some x.2.flatten else none

end Sys2Proof.Machine
end

