-- ==== Sys2Proof/Machine/Sha.lean ====
section
/-! DEFINITION. SHA-256 (FIPS 180-4, Table 10-1). Its constants are computed as the standard defines them: the first 32 bits of the fractional
parts of square roots and cube roots of the first primes. -/

namespace Sys2Proof.Machine

/-- Primes below 312, in order: there are 64. -/
def shaPrimes : List Nat := (List.range 312).filter fun p => 2 ≤ p && (List.range p).all fun d => d < 2 || p % d != 0

/-- The largest r below 2^n more than `r` whose k-th power does not exceed v, bit by bit from the highest. -/
def rootBits (k v : Nat) : Nat → Nat → Nat
  | 0, r => r
  | n + 1, r => rootBits k v n (if (r + 2 ^ n) ^ k ≤ v then r + 2 ^ n else r)

/-- The first 32 bits of the fractional part of the k-th root of p. -/
def rootFrac (k p : Nat) : Word := BitVec.ofNat 32 (rootBits k (p * 2 ^ (32 * k)) 40 0)

/-- The 64 round constants, from cube roots. -/
def shaK : List Word := shaPrimes.map (rootFrac 3)

/-- The initial hash value, from square roots. -/
def shaH0 : List Word := (shaPrimes.take 8).map (rootFrac 2)

/-- The sum modulo 2 of a word rotated right by each of some amounts. -/
def rotSum (x : Word) (ns : List Nat) : Word := ns.foldl (fun w n => w ^^^ x.rotateRight n) 0

/-- The message schedule: `n` more words, latest first. -/
def shaWords : Nat → List Word → List Word
  | 0, ws => ws
  | n + 1, ws =>
    let back := fun i => ws.getD (i - 1) 0
    let near := rotSum (back 2) [17, 19] ^^^ (back 2 >>> 10)
    let far := rotSum (back 15) [7, 18] ^^^ (back 15 >>> 3)
    shaWords n ((near + back 7 + far + back 16) :: ws)

/-- Bits of the second word where the first has ones, of the third elsewhere. -/
def pick (x y z : Word) : Word := mergeBits z x y

/-- The majority of three words, bit by bit. -/
def most (x y z : Word) : Word := pick (x ^^^ y) z x

/-- One round on the eight working variables, a first: `kw` is its constant plus its schedule word. -/
def shaRound (h : List Word) (kw : Word) : List Word :=
  let v := fun i => h.getD i 0
  let t := v 7 + rotSum (v 4) [6, 11, 25] + pick (v 4) (v 5) (v 6) + kw
  let u := rotSum (v 0) [2, 13, 22] + most (v 0) (v 1) (v 2)
  (t + u) :: h.take 3 ++ (v 3 + t) :: (h.drop 4).take 3

/-- One block of 64 octets. -/
def shaBlock (h : List Word) (b : List Byte) : List Word :=
  let w := (shaWords 48 ((chunks 4 b).map fun x => BitVec.ofNat 32 (beNat x)).reverse).reverse
  List.zipWith (· + ·) h ((List.zipWith (· + ·) shaK w).foldl shaRound h)

/-- The message with its padding. -/
def shaPad (m : List Byte) : List Byte := m ++ [0x80] ++ zeros ((119 - m.length % 64) % 64) ++ beBytes 8 (8 * m.length)

/-- The hash of a message. -/
def sha256 (m : List Byte) : List Byte :=
  ((chunks 64 (shaPad m)).foldl shaBlock shaH0).flatMap fun w => beBytes 4 w.toNat

end Sys2Proof.Machine
end

