-- ==== Sys2Proof/Machine/P256.lean ====
section
/-! DEFINITION. ECDSA verification on curve P-256 (FIPS 186, Table 10-1): integers are big-endian (R243). -/

namespace Sys2Proof.Machine

/-- The field prime. -/
def ecP : Nat := 2 ^ 256 - 2 ^ 224 + 2 ^ 192 + 2 ^ 96 - 1

/-- The order of the base point. -/
def ecN : Nat := 0xffffffff00000000ffffffffffffffffbce6faada7179e84f3b9cac2fc632551

/-- Coefficient b; coefficient a is p - 3. -/
def ecB : Nat := 0x5ac635d8aa3a93e7b3ebbd55769886bc651d06b0cc53b0f63bce3c3e27d2604b

/-- The base point. -/
def ecG : Nat × Nat :=
  (0x6b17d1f2e12c4247f8bce6e563a440f277037d812deb33a0f4a13945d898c296,
   0x4fe342e2fe1a7f9b8ee7eb4a7c0f9e162bce33576b315ececbb6406837bf51f5)

/-- `b ^ e mod m` over the low `n` bits of the exponent. -/
def powMod (m : Nat) : Nat → Nat → Nat → Nat → Nat
  | 0, _, _, r => r
  | n + 1, b, e, r => powMod m n (b * b % m) (e / 2) (if e % 2 = 1 then r * b % m else r)

/-- The inverse modulo a prime below 2^256. -/
def invMod (m a : Nat) : Nat := powMod m 256 (a % m) (m - 2) 1

/-- The difference modulo m. -/
def subMod (m a b : Nat) : Nat := (a % m + m - b % m) % m

/-- A point of the curve; `none` is the point at infinity. -/
abbrev EcPoint := Option (Nat × Nat)

/-- The third point of a line of slope `l` through (x1, y1) with another root x2. -/
def ecThird (l x1 y1 x2 : Nat) : EcPoint :=
  let x := subMod ecP (l * l) (x1 + x2)
  some (x, subMod ecP (l * subMod ecP x1 x) y1)

/-- The sum of two points. -/
def ecAdd : EcPoint → EcPoint → EcPoint
  | none, q => q
  | p, none => p
  | some (x1, y1), some (x2, y2) =>
    if x1 = x2 then
      if (y1 + y2) % ecP = 0 then none
      else ecThird ((3 * x1 * x1 + ecP - 3) % ecP * invMod ecP (2 * y1) % ecP) x1 y1 x2
    else ecThird (subMod ecP y2 y1 * invMod ecP (subMod ecP x2 x1) % ecP) x1 y1 x2

/-- The multiple of a point by the low `n` bits of a number. -/
def ecMul : Nat → Nat → EcPoint → EcPoint → EcPoint
  | 0, _, _, r => r
  | n + 1, k, p, r => ecMul n (k / 2) (ecAdd p p) (if k % 2 = 1 then ecAdd r p else r)

/-- A pair of coordinates is a point of the curve. -/
def ecOn (x y : Nat) : Bool := x < ecP && y < ecP && y * y % ecP = (x * x % ecP * x + (ecP - 3) * x + ecB) % ecP

/-- r and s lie in 1 to n - 1, and the signature verifies for a hash under a key on the curve. -/
def ecVerify (e x y r s : Nat) : Bool :=
  if 1 ≤ r && r < ecN && 1 ≤ s && s < ecN then
    let w := invMod ecN s
    match ecAdd (ecMul 256 (e * w % ecN) (some ecG) none) (ecMul 256 (r * w % ecN) (some (x, y)) none) with
    | none => false
    | some (vx, _) => vx % ecN = r
  else false

/-- Verification of a 32-octet hash, key Qx then Qy, signature r then s: none where the key is no point of P-256. -/
def ecdsa (hash key sig : List Byte) : Option Bool :=
  let x := beNat (key.take 32)
  let y := beNat (key.drop 32)
  if ecOn x y then some (ecVerify (beNat hash) x y (beNat (sig.take 32)) (beNat (sig.drop 32))) else none

/-- A signature whose r or s is outside its range, whatever the key. -/
def sigRange (sig : List Byte) : Bool :=
  let r := beNat (sig.take 32)
  let s := beNat (sig.drop 32)
  1 ≤ r && r < ecN && 1 ≤ s && s < ecN

end Sys2Proof.Machine
end

