-- ==== Sys2Proof/Machine/Cipher.lean ====
section
/-! DEFINITION. The cipher engine (chapter 10): descriptors, the checks of R248, what each operation writes, completion, flush, the key
port, alarms and the random number generator. A request's inputs are read and its outputs computed when it starts; they reach
memory at CIPHER_COMPLETE. -/

namespace Sys2Proof.Machine

/-! ### Descriptors (Table 10-3) -/

/-- The words of a descriptor, named. -/
structure Desc where
  op : Nat
  key : Nat
  tlen : Nat
  notify : Bool
  fixed : Bool          -- the fixed bits of word 0 are 0
  src : Nat
  dst : Nat
  len : Nat
  alen : Nat
  lenAll : Nat
  aad : Nat
  nonce : Nat
  tag : Nat
  stat : Word
  deriving DecidableEq, Repr

def Desc.ofWords (ws : List Word) : Desc :=
  let w := fun i => ws.getD i 0
  { op := bitsOf (w 0) 0 8, key := bitsOf (w 0) 8 9, tlen := bitsOf (w 0) 20 5, notify := bitOf (w 0) 30
    fixed := w 0 &&& 0xBE0E0000 = 0
    src := (w 1).toNat, dst := (w 2).toNat, len := bitsOf (w 3) 0 16, alen := bitsOf (w 3) 16 16, lenAll := (w 3).toNat
    aad := (w 4).toNat, nonce := (w 5).toNat, tag := (w 6).toNat, stat := w 7 }

/-- Operations that use KEY. -/
def Desc.usesKey (d : Desc) : Bool := (1 ≤ d.op && d.op ≤ 7) || d.op = 10 || d.op = 11

/-- TLEN is one that the operation allows (Table 10-2). -/
def Desc.tlenOk (d : Desc) : Bool :=
  if d.op = 1 || d.op = 2 then [0, 4, 8, 16].contains d.tlen
  else if d.op = 3 || d.op = 4 then d.tlen = 4 || d.tlen = 8 || (12 ≤ d.tlen && d.tlen ≤ 16)
  else if d.op = 6 || d.op = 7 then 4 ≤ d.tlen && d.tlen ≤ 16
  else true

/-- The descriptor passes the first check of R248. -/
def Desc.ok (d : Desc) : Bool :=
  d.fixed && 1 ≤ d.op && d.op ≤ 12 && (!d.usesKey || d.key ≤ 263) && d.tlenOk &&
  (d.op != 10 || ((d.len = 24 || d.len = 40) && d.dst % 512 < 256 && d.dst / 16384 = 0 && d.dst / 512 % 2 = 0)) &&
  (d.op != 11 || d.src < 256) && (d.op != 12 || 1 ≤ d.len)

/-- The areas read (Table 10-2): address and length, the text first. -/
def Desc.ins (d : Desc) : List (Nat × Nat) :=
  match d.op with
  | 1 => [(d.src, d.len), (d.aad, d.alen), (d.nonce, 13)]
  | 2 => [(d.src, d.len), (d.aad, d.alen), (d.nonce, 13), (d.tag, d.tlen)]
  | 3 => [(d.src, d.len), (d.aad, d.alen), (d.nonce, 12)]
  | 4 => [(d.src, d.len), (d.aad, d.alen), (d.nonce, 12), (d.tag, d.tlen)]
  | 5 => [(d.src, d.len), (d.nonce, 16)]
  | 6 => [(d.src, d.len)]
  | 7 => [(d.src, d.len), (d.tag, d.tlen)]
  | 8 => [(d.src, d.lenAll)]
  | 9 => [(d.src, 32), (d.aad, 64), (d.tag, 64)]
  | 10 => [(d.src, d.len)]
  | _ => []

/-- Length of what WRAP writes: by the size of the source slot's key, of an empty slot as its `CIPH_KINFO` reads (R256). -/
def State.wrapLen (s : State) (d : Desc) : Nat :=
  match s.key d.src with
  | some k => if k.big then 40 else 24
  | none => 24

/-- The areas written (Table 10-2), the text first. -/
def State.descOuts (s : State) (d : Desc) : List (Nat × Nat) :=
  match d.op with
  | 1 => [(d.dst, d.len), (d.tag, d.tlen)]
  | 2 => [(d.dst, d.len)]
  | 3 => [(d.dst, d.len), (d.tag, d.tlen)]
  | 4 => [(d.dst, d.len)]
  | 5 => [(d.dst, d.len)]
  | 6 => [(d.tag, d.tlen)]
  | 8 => [(d.dst, 32)]
  | 11 => [(d.dst, s.wrapLen d)]
  | 12 => [(d.dst, d.len)]
  | _ => []

/-! ### Checks (R244, R248, R250) -/

/-- A range lies in one memory of the list, and its banks serve it (R244, R267). -/
def State.reaches (s : State) (rs : List Region) (a n : Nat) : Bool :=
  n = 0 || (rs.contains (region a) && region (a + n - 1) = region a && !s.rangeRefused a n)

def readRegions : List Region := [.rom, .flash, .window, .sram, .radio]

def writeRegions : List Region := [.sram, .radio]

/-- An output area overlaps an input area otherwise than DST equal to SRC (R250), the first of the one kind and the first of the other; a
CMAC_GEN has no DST. -/
def Desc.overlap (d : Desc) (outs : List (Nat × Nat)) : Bool :=
  outs.zipIdx.any fun o => d.ins.zipIdx.any fun i =>
    overlaps o.1.1 o.1.2 i.1.1 i.1.2 && !(o.1 = i.1 && o.2 = 0 && i.2 = 0 && d.op != 6)

/-- The usage bits, one of which the operation needs (R252). -/
def opUsage (op : Nat) : List Nat :=
  match op with
  | 1 => [0]
  | 3 => [0]
  | 6 => [0]
  | 2 => [1]
  | 4 => [1]
  | 7 => [1]
  | 5 => [0, 1]
  | 10 => [2]
  | 11 => [2]
  | _ => []

/-- The key that KEY names (R243, R255). -/
def State.cipKey (s : State) (k : Nat) : Option Key :=
  if k < 256 then s.key k
  else if s.ciph.dkReady then some ⟨(List.range 32).map fun i => Config.deviceKey (k - 256) i, true, 4, 0⟩
  else none

/-- KEY_EMPTY and KEY_USAGE (R248, R255, R256): the code, or 0. -/
def State.keyCheck (s : State) (d : Desc) : Nat :=
  if !d.usesKey then 0
  else match s.cipKey d.key with
    | none => 4
    | some k =>
      if d.op = 11 && (s.key d.src).isNone then 4
      else if !(opUsage d.op).any (fun u => k.usage.testBit u) then 5
      else if d.op = 11 && !((s.key d.src).map fun x => x.usage.testBit 3).getD false then 5
      else 0

/-- The first check that fails decides (R248): the code, or 0. -/
def State.cipCheck (s : State) (d : Desc) : Nat :=
  let outs := s.descOuts d
  if !d.ok then 6
  else if !(d.ins.all fun i => s.reaches readRegions i.1 i.2) || !(outs.all fun o => s.reaches writeRegions o.1 o.2) then 7
  else if d.overlap outs then 8
  else s.keyCheck d

/-! ### What an operation gives (Table 10-2, R249, R256) -/

/-- Outputs, code, key to load. -/
structure CipOut where
  outs : List (Nat × List Byte)
  code : Nat
  load : Option (Nat × Key)
  deriving DecidableEq, Repr

/-- Text out if the check passes, zeros and AUTH_FAIL otherwise (R249). -/
def authOut (ok : Bool) (dst : Nat) (text : List Byte) : CipOut :=
  if ok then ⟨[(dst, text)], 0, none⟩ else ⟨[(dst, zeros text.length)], 1, none⟩

/-- ECDSA_VER: with a key off the curve and r or s outside its range, which code is given is left open (Table 10-4). -/
def State.ecdsaOut (s : State) (hash key sig : List Byte) : CipOut :=
  let code :=
    match ecdsa hash key sig with
    | some true => 0
    | some false => 2
    | none => if !sigRange sig && Config.freeNat s.free % 2 = 1 then 2 else 9
  ⟨[], code, none⟩

/-- The result of a request that passes its checks; `rd` is what reads return, `rnd` the octets that an RNG request would
write. -/
def State.cipRun (s : State) (d : Desc) (rd : Nat → Nat → List Byte) (rnd : List Byte) : CipOut :=
  let key := ((s.cipKey d.key).map Key.octets).getD []
  let text := rd d.src d.len
  let aad := rd d.aad d.alen
  match d.op with
  | 1 =>
    let n := rd d.nonce 13
    ⟨[(d.dst, ccmCrypt key n text), (d.tag, ccmTag key n aad text d.tlen)], 0, none⟩
  | 2 =>
    let n := rd d.nonce 13
    let p := ccmCrypt key n text
    authOut (ccmTag key n aad p d.tlen = rd d.tag d.tlen) d.dst p
  | 3 =>
    let n := rd d.nonce 12
    let c := gcmCrypt key n text
    ⟨[(d.dst, c), (d.tag, gcmTag key n aad c d.tlen)], 0, none⟩
  | 4 =>
    let n := rd d.nonce 12
    authOut (gcmTag key n aad text d.tlen = rd d.tag d.tlen) d.dst (gcmCrypt key n text)
  | 5 => ⟨[(d.dst, ctrCrypt key (rd d.nonce 16) text)], 0, none⟩
  | 6 => ⟨[(d.tag, cmac key text d.tlen)], 0, none⟩
  | 7 => ⟨[], if cmac key text d.tlen = rd d.tag d.tlen then 0 else 1, none⟩
  | 8 => ⟨[(d.dst, sha256 (rd d.src d.lenAll))], 0, none⟩
  | 9 => s.ecdsaOut (rd d.src 32) (rd d.aad 64) (rd d.tag 64)
  | 10 =>
    (match kwUnwrap key text with
      | some k => ⟨[], 0, some (d.dst % 512, ⟨k, d.len = 40, d.dst / 1024 % 16, 1⟩)⟩
      | none => ⟨[], 3, none⟩)
  | 11 => ⟨[(d.dst, kwWrap key (((s.key d.src).map Key.octets).getD []))], 0, none⟩
  | _ => ⟨[(d.dst, (rnd ++ zeros d.len).take d.len)], 0, none⟩

/-- The slots that a request uses (R254). -/
def Desc.slots (d : Desc) : List Nat :=
  (if d.usesKey && d.key < 256 then [d.key] else []) ++ (if d.op = 10 then [d.dst % 512] else []) ++
  (if d.op = 11 then [d.src] else [])

/-! ### Queues (R246, R247) -/

/-- Requests of queue q not yet complete. -/
def State.qcount (s : State) (q : Nat) : Nat :=
  (s.get (Reg.CIPH_QPUT_VAL q) + 65536 - s.get (Reg.CIPH_QDONE_VAL q)) % 65536

/-- Address of descriptor n of queue q. -/
def State.descAddr (s : State) (q n : Nat) : Nat := 32 * s.get (Reg.CIPH_QBASE_ADDR q) + 32 * (n % 32)

/-- The engine reaches a descriptor: it lies in SRAM and its bank serves it. -/
def State.descReach (s : State) (q n : Nat) : Bool :=
  region (s.descAddr q n) = .sram && !s.bankRefuses (s.descAddr q n)

/-- The eight words of a descriptor. -/
def State.descWords (s : State) (q n : Nat) : List Word := (List.range 8).map fun i => s.word (s.descAddr q n + 4 * i)

/-- Steps 2 to 4 of completion (R247): STAT, DONE, record. A descriptor out of the engine's reach takes no STAT word and asks for no
record. -/
def State.cipFinish (s : State) (q seq code : Nat) (ws : List Word) : State :=
  let d := Desc.ofWords ws
  let up := d.stat &&& 0xFFFF0000
  let t := if s.descReach q seq then s.devWrite (s.descAddr q seq + 28) (leBytes 4 (up ||| 0x100 ||| numAt code 0).toNat) else s
  let t := t.put (Reg.CIPH_QDONE_VAL q) ((seq + 1) % 65536)
  if s.descReach q seq && d.notify then
    t.postTo (if q = 0 then .c0 else .c1) (142 + q) (numAt code 24 ||| numAt seq 0) (up >>> 16)
  else t

/-- Every request of queue q that has not started completes with a code, in order (R251, R259). -/
def State.cipDrop (s : State) (q code : Nat) : State :=
  forN (s.qcount q) (fun s _ =>
    let n := s.get (Reg.CIPH_QDONE_VAL q)
    (s.wakeRange (s.descAddr q n) 32).cipFinish q n code (s.descWords q n)) s

/-- Output areas of one request that overlap each other hold undefined octets where they do: the manual gives no order of writing. -/
def State.outLose (s : State) (outs : List (Nat × List Byte)) : State :=
  match outs with
  | [(a, x), (b, y)] =>
    if overlaps a x.length b y.length then s.lose (max a b) (min (a + x.length) (b + y.length) - max a b) else s
  | _ => s

/-- Every output area is written. -/
def State.cipStore (s : State) (outs : List (Nat × List Byte)) : State :=
  outs.foldl (fun s o => if o.2.isEmpty then s else s.devWrite o.1 o.2) s

/-- Step 1 of completion: the outputs are written. -/
def State.cipWrite (s : State) (outs : List (Nat × List Byte)) : State := (s.cipStore outs).outLose outs

/-- A change of the key store. -/
def State.keyPut (s : State) (slot : Nat) (k : Key) : State :=
  { s with ciph := { s.ciph with keys := (s.ciph.keys.filter fun p => p.1 != slot) ++ [(slot, k)] } }

def State.keyDel (s : State) (slot : Nat) : State :=
  { s with ciph := { s.ciph with keys := s.ciph.keys.filter fun p => p.1 != slot } }

def State.keyDo (s : State) (o : KeyOp) : State :=
  match o with
  | .put k x => s.keyPut k x
  | .erase k => s.keyDel k

/-- The request in progress completes with a code; deferred key changes and a waiting flush follow (R247, R251, R254). -/
def State.cipEnd (s : State) (r : CipReq) (code : Nat) : State :=
  let s := s.cipFinish r.q r.seq code r.desc
  let s := match r.load with
    | some (k, x) => if code = 0 then s.keyPut k x else s
    | none => s
  let ds := s.ciph.deferred
  let fl := s.ciph.flushing
  let s := ds.foldl State.keyDo { s with ciph := { s.ciph with cur := none, deferred := [], flushing := false } }
  if fl then s.cipDrop r.q 12 else s

/-- The request in progress ends with a code and its output areas zeroed (R249). -/
def State.cipAbandon (s : State) (r : CipReq) (code : Nat) : State :=
  (s.cipStore (r.outs.map fun o => (o.1, zeros o.2.length))).cipEnd r code

/-- The queue whose request is next (R247): the queues alternate while both hold requests. -/
def State.cipTurn (s : State) : Option Nat :=
  match s.qcount 0 != 0, s.qcount 1 != 0 with
  | true, true => some (1 - s.ciph.lastQ)
  | true, false => some 0
  | false, true => some 1
  | false, false => none

/-- The code of the checks of the request at the head of queue q, or 0. -/
def State.headCode (s : State) (q : Nat) (d : Desc) : Nat := if s.descReach q (s.get (Reg.CIPH_QDONE_VAL q)) then s.cipCheck d else 7

/-- The request at the head of queue q starts with these words; flash returns what R285 to R287 give. -/
def State.cipBegin (s : State) (q : Nat) (ws : List Word) (rnd : List Byte) : State :=
  let n := s.get (Reg.CIPH_QDONE_VAL q)
  let d := Desc.ofWords ws
  let code := s.headCode q d
  let (t, bad) := (s.wakeRange (s.descAddr q n) 32).rscans (if code = 0 then d.ins else [])
  let out := if code = 0 then s.cipRun d (s.rgot bad) rnd else ⟨[], code, none⟩
  let r : CipReq := ⟨q, n, ws, out.outs, out.code, out.load, if code = 0 then d.slots else []⟩
  { t with free := t.free + 1, ciph := { t.ciph with cur := some r, lastQ := q } }

/-- Some area that the request reads has to wait for the flash controller (R295, R296). -/
def State.cipWaits (s : State) (q : Nat) (d : Desc) : Bool := s.headCode q d = 0 && d.ins.any fun i => s.rwaits i.1 i.2

/-- The engine takes a request of operation `op` from queue q if it is its turn (R246 to R248) and the core cluster is powered (R257); an OP that Table 10-2 does not
list starts under any row, to end with BADDESC. While the flash controller cannot serve an area that it reads, it only asks for it. -/
def State.cipStart (s : State) (c : CoreId) (op : Nat) (rnd : List Byte) : State :=
  let q := coreNum c
  let n := s.get (Reg.CIPH_QDONE_VAL q)
  let ws := s.descWords q n
  let o := (Desc.ofWords ws).op
  if s.flag Reg.CIPH_CTL_EN && s.awake && !s.ciph.halted && !s.quiesced 2 && s.ciph.cur.isNone && s.cipTurn = some q &&
      (o = op || o = 0 || 12 < o || !s.descReach q n) then
    (if s.cipWaits q (Desc.ofWords ws) then (Desc.ofWords ws).ins.foldl (fun t i => t.rtouch i.1 i.2) s else s.cipBegin q ws rnd)
  else s

/-- CCM_ENC (R243). -/
def execCcmEnc (q : CoreId) (s : State) : Host.Outcome State Fault Refusal := doneW (s.cipStart q 1 [])

/-- CCM_DEC (R243, R249). -/
def execCcmDec (q : CoreId) (s : State) : Host.Outcome State Fault Refusal := doneW (s.cipStart q 2 [])

/-- GCM_ENC (R243). -/
def execGcmEnc (q : CoreId) (s : State) : Host.Outcome State Fault Refusal := doneW (s.cipStart q 3 [])

/-- GCM_DEC (R243, R249). -/
def execGcmDec (q : CoreId) (s : State) : Host.Outcome State Fault Refusal := doneW (s.cipStart q 4 [])

/-- CTR (R243). -/
def execCtr (q : CoreId) (s : State) : Host.Outcome State Fault Refusal := doneW (s.cipStart q 5 [])

/-- CMAC_GEN (R243). -/
def execCmacGen (q : CoreId) (s : State) : Host.Outcome State Fault Refusal := doneW (s.cipStart q 6 [])

/-- CMAC_VER (R243, R249). -/
def execCmacVer (q : CoreId) (s : State) : Host.Outcome State Fault Refusal := doneW (s.cipStart q 7 [])

/-- SHA256 (R243). -/
def execSha256 (q : CoreId) (s : State) : Host.Outcome State Fault Refusal := doneW (s.cipStart q 8 [])

/-- ECDSA_VER (R243). -/
def execEcdsaVer (q : CoreId) (s : State) : Host.Outcome State Fault Refusal := doneW (s.cipStart q 9 [])

/-- UNWRAP (R256). -/
def execUnwrap (q : CoreId) (s : State) : Host.Outcome State Fault Refusal := doneW (s.cipStart q 10 [])

/-- WRAP (R256). -/
def execWrap (q : CoreId) (s : State) : Host.Outcome State Fault Refusal := doneW (s.cipStart q 11 [])

/-- RNG (R243): the octets that the TRNG will give, as many as LEN asks for. -/
def execRng (q : CoreId) (octets : List Byte) (s : State) : Host.Outcome State Fault Refusal := doneW (s.cipStart q 12 octets)

/-- An RNG request runs and its TRNG gives no output yet (R262). -/
def State.rngWaits (s : State) (r : CipReq) : Bool := (Desc.ofWords r.desc).op = 12 && r.code = 0 && !s.ciph.trngUp

/-- An output area lies in a bank that refuses by the time the outputs are ready (R267). -/
def State.outRefused (s : State) (outs : List (Nat × List Byte)) : Bool :=
  outs.any fun o => !o.2.isEmpty && !(s.takes o.1 && s.takes (o.1 + o.2.length - 1))

/-- The request in progress completes (R247), an RNG request once the TRNG runs. One whose output a bank refuses ends with BADADDR (R267) and
writes none (DESIGN CHOICE, log entry 98). -/
def State.cipDone (s : State) : State :=
  match s.ciph.cur with
  | some r =>
    if s.rngWaits r then s
    else if s.outRefused r.outs then s.cipEnd r 7
    else (s.cipWrite r.outs).cipEnd r r.code
  | none => s

/-- CIPHER_COMPLETE (R247). -/
def execCipherComplete (t : Nat) (s : State) : Host.Outcome State Fault Refusal := doneW (s.at_ t).cipDone

/-- A write of `CIPH_QPUT` of queue q (R246, R251, R259). -/
def State.cipSubmit (s : State) (q put : Nat) : State :=
  let flush := s.ciph.flushing && s.ciph.cur.any (fun r => r.q = q)
  if flush || 32 < (put + 65536 - s.get (Reg.CIPH_QDONE_VAL q)) % 65536 then s.put (Reg.CIPH_QCTL_QERR q) 1
  else
    let s := s.put (Reg.CIPH_QPUT_VAL q) put
    if s.ciph.halted then s.cipDrop q 11 else s

/-- CIPHER_SUBMIT (R246). -/
def execCipherSubmit (q : CoreId) (put : BitVec 16) (s : State) : Host.Outcome State Fault Refusal :=
  doneW (s.cipSubmit (coreNum q) put.toNat)

/-- A flush (R251): behind a request in progress of the same queue it waits for its completion, because a queue completes in order. -/
def State.cipFlush (s : State) (q : Nat) : State :=
  if s.ciph.cur.any (fun r => r.q = q) then { s with ciph := { s.ciph with flushing := true } } else s.cipDrop q 12

/-- QUEUE_FLUSH (R251). -/
def execQueueFlush (q : CoreId) (s : State) : Host.Outcome State Fault Refusal := doneW (s.cipFlush (coreNum q))

/-! ### The key port (R253, R254) -/

/-- The key port takes no writes during an alarm (R254). -/
def State.portShut (s : State) : Bool := s.ciph.halted || s.ciph.almact

/-- The staging words are cleared (R253). -/
def State.stageClear (s : State) : State :=
  { s with ciph := { s.ciph with stage := [0, 0, 0, 0, 0, 0, 0, 0], staged := 0 } }

/-- A write of `CIPH_KSEL`: its fields, of class L in epoch unit 26, apply only while no request runs (R10, R45), and COMMIT and ERASE go by
the fields applied. The staging words are cleared by the write itself (DEDUCED, log entry 90). -/
def State.kselWrite (s : State) (v : Word) : State :=
  if s.portShut then s else (s.writeReg Reg.CIPH_KSEL v).stageClear

/-- A write of `CIPH_KDATA` number j. -/
def State.kdataWrite (s : State) (j : Nat) (v : Word) : State :=
  if s.portShut then s
  else { s with ciph := { s.ciph with stage := s.ciph.stage.set j v, staged := s.ciph.staged ||| 2 ^ j } }

/-- The slot is used by the request in progress (R254). -/
def State.slotBusy (s : State) (k : Nat) : Bool := s.ciph.cur.any fun r => r.slots.contains k

/-- A change of a slot takes effect, or waits for the request in progress (R254). -/
def State.keyChange (s : State) (k : Nat) (o : KeyOp) : State :=
  if s.slotBusy k then { s with ciph := { s.ciph with deferred := s.ciph.deferred ++ [o] } } else s.keyDo o

/-- The key in the staging words (R253), `n` words. -/
def State.staging (s : State) (n : Nat) : List Byte := (s.ciph.stage.take n).flatMap fun w => leBytes 4 w.toNat

/-- COMMIT (R253). -/
def State.keyCommit (s : State) : State :=
  if s.portShut then s
  else
    let big := s.get Reg.CIPH_KSEL_KSIZE = 1
    let n := if big then 8 else 4
    let k := s.get Reg.CIPH_KSEL_SLOT
    let t := if s.ciph.staged % 2 ^ n = 2 ^ n - 1 then
        s.keyChange k (.put k ⟨s.staging n, big, s.get Reg.CIPH_KSEL_USAGE, 0⟩)
      else s.put Reg.CIPH_STATUS_KPERR 1
    t.stageClear

/-- ERASE (R254). -/
def State.keyErase (s : State) : State :=
  if s.portShut then s else s.keyChange (s.get Reg.CIPH_KSEL_SLOT) (.erase (s.get Reg.CIPH_KSEL_SLOT))

/-- ERASEALL (R254): slots in use are erased when the request in progress completes. -/
def State.keyEraseAll (s : State) : State :=
  if s.portShut then s
  else
    let used := match s.ciph.cur with | some r => r.slots | none => []
    { s with ciph := { s.ciph with
      keys := s.ciph.keys.filter fun p => used.contains p.1
      deferred := s.ciph.deferred ++ used.map KeyOp.erase } }

/-- KSEL_WRITE (R253). -/
def execKselWrite (data : Word) (s : State) : Host.Outcome State Fault Refusal := doneW (s.kselWrite data)

/-- COMMIT (R253). -/
def execKeyCommit (s : State) : Host.Outcome State Fault Refusal := doneW s.keyCommit

/-- KEY_ERASE (R254). -/
def execKeyErase (s : State) : Host.Outcome State Fault Refusal := doneW s.keyErase

/-- ERASEALL (R254). -/
def execEraseall (s : State) : Host.Outcome State Fault Refusal := doneW s.keyEraseAll

/-! ### Alarms (R258 to R261) -/

/-- The detectors that may trip: GLITCH and TIMING always, TEMP and SHIELD as enabled (R258). -/
def State.alarmMask (s : State) : Nat :=
  5 + (if s.flag Reg.CIPH_ALMEN_TEMP then 2 else 0) + (if s.flag Reg.CIPH_ALMEN_SHIELD then 8 else 0)

/-- The core cluster or the key store is powered (R258): in a start too, that of a wake included. -/
def State.alarmPower (s : State) : Bool :=
  s.start.busy || match s.pwr.forced with | some m => 2 ≤ m | none => true

/-- First address of the alarm history and the word that holds the last sequence number (R282). -/
def almHist : Nat := 0x2207C000

def almSeq : Nat := 0x2207D008

/-- The alarm record is appended to the history, its sequence number last (R261, R282); after an
uncorrectable sequence word the number is free. -/
def State.alarmRecord (s : State) (causes : Nat) : State :=
  let n := (if s.nvBad almSeq then Config.freeWord s.free else s.word almSeq).toNat + 1
  let s := s.nvSee almSeq 4
  let a := almHist + 16 * (n % 256)
  let s := s.fresh
  let us := s.us
  let s := (s.nvPut a (BitVec.ofNat 32 us)).nvPut (a + 4) (BitVec.ofNat 32 (us / 2 ^ 32))
  let s := s.nvPut (a + 8) (numAt causes 0 ||| numAt (s.get Reg.CFG_EPOCH_CUR) 16)
  (s.nvPut (a + 12) (BitVec.ofNat 32 n)).nvPut almSeq (BitVec.ofNat 32 n)

/-- The request in progress ends with ALARM, its outputs zeroed, and every queued request with it (R249, R259). -/
def State.alarmDrain (s : State) : State :=
  let s := match s.ciph.cur with
    | some r => s.cipAbandon r 11
    | none => s
  (s.cipDrop 0 11).cipDrop 1 11

/-- An alarm (R259): `causes` the detectors that tripped. It ends the verification of an activation (Table 16-8). -/
def State.alarm (s : State) (causes : Nat) : State :=
  let s := { s with ciph := { s.ciph with
    halted := true, almact := true, almT := s.now, keys := [], dkReady := false, deferred := [], flushing := false,
    trngArm := false, trngUp := false, trngWord := none } }
  let s := s.output 2 0
  let s := (s.setReg Reg.CIPH_ALMCAUSE (s.reg Reg.CIPH_ALMCAUSE ||| BitVec.ofNat 32 causes)).count Reg.CIPH_ALMCAUSE_COUNT
  let s := s.postBoth 144 (s.reg Reg.CIPH_ALMCAUSE) 0
  let s := (s.alarmRecord causes).alarmDrain
  if s.upd.phase = .verify then s.updEnd 14 else s

/-- ALARM_TRIP (R258, R259). -/
def execAlarmTrip (causes : BitVec 4) (t : Nat) (s : State) : Host.Outcome State Fault Refusal :=
  let s := s.at_ t
  let c := causes.toNat &&& s.alarmMask
  doneW (if c = 0 || !s.alarmPower then s else s.alarm c)

/-- ALMACT_CLEAR (R260): 1 ms with no detector tripped. -/
def execAlmactClear (t : Nat) (s : State) : Host.Outcome State Fault Refusal :=
  let s := s.at_ t
  doneW (if s.ciph.almT + 40000 ≤ s.now then { s with ciph := { s.ciph with almact := false } } else s)

/-- A write of 1 to `CIPH_CTL.ALMCLR` (R260). -/
def State.almClear (s : State) : State :=
  if s.ciph.almact then s else { s with ciph := { s.ciph with halted := false } }

/-- ALMCLR (R260). -/
def execAlmclr (s : State) : Host.Outcome State Fault Refusal := doneW s.almClear

/-- DEVICE_KEY_LOAD_DONE (R255): in a start too, that of a wake included. -/
def execDeviceKeyLoadDone (s : State) : Host.Outcome State Fault Refusal :=
  doneW (if s.ciph.halted || !(s.awake || s.start.busy) then s else { s with ciph := { s.ciph with dkReady := true } })

/-! ### Random numbers (R262) -/

/-- The start-up tests have passed: output begins, and AVAIL becoming 1 posts (R324). -/
def State.trngStart (s : State) (w : Word) : State :=
  let t := { s with ciph := { s.ciph with trngArm := false, trngUp := true, trngWord := some w } }
  t.postBoth 216 (t.peek Reg.TRNG_STATUS) 0

/-- TRNG_STARTUP_DONE (R262). -/
def execTrngStartupDone (word : Word) (t : Nat) (s : State) : Host.Outcome State Fault Refusal :=
  let s := s.at_ t
  doneW (if s.ciph.trngArm && s.flag Reg.TRNG_CTL_EN && !s.ciph.halted && s.periphOn then
    s.trngStart word
  else s)

/-- A failed health test (R262): output stops, and a running RNG request ends with RNG_FAIL, its output zeroed (R249). -/
def State.trngFail (s : State) : State :=
  let s := { s with ciph := { s.ciph with trngArm := false, trngUp := false, trngWord := none } }
  let old := s
  let s := s.put Reg.TRNG_STATUS_HFAIL 1
  let s := if old.flag Reg.TRNG_STATUS_HFAIL then s else s.postBoth 216 (s.peek Reg.TRNG_STATUS) 0
  match s.ciph.cur with
  | some r =>
    if (Desc.ofWords r.desc).op = 12 && r.code = 0 then
      s.cipAbandon r 10
    else s
  | none => s

/-- TRNG_HEALTH_FAIL (R262): while the noise source is sampled. -/
def execTrngHealthFail (s : State) : Host.Outcome State Fault Refusal :=
  doneW (if s.flag Reg.TRNG_CTL_EN && (s.ciph.trngUp || s.ciph.trngArm) then s.trngFail else s)

/-- A read of `TRNG_DATA` (Table 10-20): the word clears, and the next conditioned word enters. -/
def State.trngTake (s : State) (next : Option Word) : Word × State :=
  let w := s.ciph.trngWord.getD 0
  (w, { s with ciph := { s.ciph with trngWord := if s.ciph.trngUp then next else none } })

/-- TRNG_DATA_READ (R262). -/
def execTrngDataRead (a : Agent) (nextWord : Option Word) (s : State) : Host.Outcome State Fault Refusal :=
  let (w, s) := s.trngTake nextWord
  doneW (s.respond a (.data w))

end Sys2Proof.Machine
end

