-- ==== Sys2Proof/Machine/Memc.lean ====
section
/-! DEFINITION. Meanings of the commands of the memory controller (chapter 11): bank power and bank tests. -/

namespace Sys2Proof.Machine

/-- BANK_POWER_REQUEST (R266, R268): a write of `MEMC_BANKCTL` or `MEMC_RBANKCTL`. -/
def execBankPowerRequest (radio : Bool) (data : Word) (s : State) : Host.Outcome State Fault Refusal :=
  doneW (s.writeReg (if radio then Reg.MEMC_RBANKCTL else Reg.MEMC_BANKCTL) data)

/-- A bank completes its change of state. -/
def State.bankArrive (s : State) (b : Nat) : State :=
  match s.memc.trans.find? fun p => p.1 = b with
  | some p => ({ s with memc := { s.memc with trans := s.memc.trans.filter fun q => q.1 != b } } : State).bankReach b p.2
  | none => s

/-- BANK_TRANSITION_DONE (R266). -/
def execBankTransitionDone (b : Nat) (t : Nat) (s : State) : Host.Outcome State Fault Refusal :=
  doneW ((s.at_ t).bankArrive b)

/-- A test of a bank is refused (R272); a bank that is leaving ON counts as not ON. -/
def State.testRefused (s : State) (b : Nat) : Bool :=
  19 < b || s.memc.test.isSome || s.bank b != .on || s.bankBad b || s.memc.trans.any (fun p => p.1 = b) || (16 ≤ b && s.anyEngine)

/-- A bank enters TEST (R269, R272), and its contents go. -/
def State.testBegin (s : State) (b : Nat) : State :=
  let s := ((s.invalidateBoth (bankBase b) bankSize).setBank b .test).lose (bankBase b) bankSize
  ({ s with memc := { s.memc with test := some b } } : State).put Reg.MEMC_TSTAT_BANK b

/-- A write of `MEMC_TCMD` (R272); a memory cluster held quiesced for a sleep entry takes none (R342). -/
def State.tcmdWrite (s : State) (v : Word) : State :=
  let b := bitsOf v 16 5
  if bitsOf v 0 2 != 1 || s.quiesced 4 then s
  else if s.testRefused b then s.put Reg.MEMC_TSTAT_CODE 3
  else s.testBegin b

/-- BANK_TEST_START (R272). -/
def execBankTestStart (data : Word) (s : State) : Host.Outcome State Fault Refusal := doneW (s.tcmdWrite data)

/-- Code of a result, and the spare columns it takes from the bank: a repair that needs more than are free is beyond repair (R271). -/
def State.testCode (s : State) (b : Nat) (r : TestResult) : Nat × Nat :=
  match r with
  | .pass => (0, 0)
  | .repaired n => if n = 0 then (0, 0) else if s.spares b < n then (2, 0) else (1, n)
  | .fail => (2, 0)

/-- A test ends (R273). -/
def State.testEnd (s : State) (b : Nat) (r : TestResult) : State :=
  let (code, n) := s.testCode b r
  let s := s.repairSet b (sget (fun _ => 0) s.memc.fused b) (s.get (Reg.MEMC_REPAIR_SOFT b) + n)
  let s := { s with memc := { s.memc with test := none } }
  let s := if code = 2 then s.bankFail b else s.bankZero b
  let s := (s.put Reg.MEMC_TSTAT_CODE code).put Reg.MEMC_TSTAT_FREE (bitsOf (s.reg (Reg.MEMC_REPAIR b)) 8 4)
  s.postTo .c0 146 (numAt code 0) 1

/-- BANK_TEST_END (R273). -/
def execBankTestEnd (r : TestResult) (t : Nat) (s : State) : Host.Outcome State Fault Refusal :=
  let s := s.at_ t
  doneW (match s.memc.test with
    | some b => s.testEnd b r
    | none => s)

end Sys2Proof.Machine
end

