-- ==== Sys2Proof/Machine/Mailbox.lean ====
section
/-! DEFINITION. The host mailbox's buffers and frames (R396 to R400), and the replies of the recovery loader (R401), beneath the
commands that use them. -/

namespace Sys2Proof.Machine

/-! ### Frames (R397) -/

/-- A frame without its CRC. -/
def frameOf (cmd seq : Nat) (payload : List Byte) : List Byte :=
  [BitVec.ofNat 8 cmd, BitVec.ofNat 8 seq] ++ leBytes 2 payload.length ++ payload

/-- The four octets of the CRC-32C, least significant first. -/
def frameCrc (octets : List Byte) : List Byte := leBytes 4 (crc32c octets).toNat

/-- CMD, SEQ and LEN of a frame. -/
def frameCmd (f : List Byte) : Nat := (f.getD 0 0).toNat

def frameSeq (f : List Byte) : Nat := (f.getD 1 0).toNat

def frameLen (f : List Byte) : Nat := leNat ((f.drop 2).take 2)

/-- The payload. -/
def framePay (f : List Byte) : List Byte := (f.drop 4).take (frameLen f)

/-! ### Buffers -/

/-- Octets stored into buffer words from a register address on; the rest of the last word is 0. -/
def State.bufPut (s : State) (base : Nat) (octets : List Byte) : State :=
  forN ((octets.length + 3) / 4) (fun s i => s.setReg (base + 4 * i) (BitVec.ofNat 32 (leNat ((octets.drop (4 * i)).take 4)))) s

/-- The `n` octets from a buffer's start. -/
def State.bufOctets (s : State) (base n : Nat) : List Byte :=
  ((List.range ((n + 3) / 4)).flatMap fun i => leBytes 4 (s.reg (base + 4 * i)).toNat).take n

/-- The frame in the receive buffer, without its CRC. -/
def State.rxFrame (s : State) : List Byte := s.bufOctets (Reg.HOSTIF_RXBUF 0) s.host.rxLen

/-- HOSTIF posts with its STATUS (R324, R403). -/
def State.hostPost (s : State) : State := s.postBoth 219 (s.peek Reg.HOSTIF_STATUS) 0

/-- A bit of `HOSTIF_ERR` is set; a change from 0 posts (R324). -/
def State.hostErr (s : State) (bit : Nat) : State :=
  if bitOf (s.reg Reg.HOSTIF_ERR) bit then s
  else (s.setReg Reg.HOSTIF_ERR (s.reg Reg.HOSTIF_ERR ||| ((1 : Word) <<< bit))).hostPost

/-- A frame becomes pending for GET (R400). -/
def State.txPend (s : State) (octets : List Byte) : State :=
  { s with host := { s.host with txRdy := true, txOctets := octets ++ frameCrc octets } }

/-- A response is placed in the transmit buffer. -/
def State.txPlace (s : State) (octets : List Byte) : State := (s.bufPut (Reg.HOSTIF_TXBUF 0) octets).txPend octets

/-- The receive buffer is freed. -/
def State.rxFree (s : State) : State := { s with host := { s.host with rxFull := false, rxHw := false } }

/-- A response goes where its request came from (R401). -/
def State.replyTo (s : State) (r : Reply) (payload : List Byte) : State :=
  let f := frameOf (r.cmd + 0x80) r.seq payload
  if r.uart then { s with uart0 := { s.uart0 with tx := s.uart0.tx ++ f ++ frameCrc f } } else s.txPlace f

/-- A REBOOT of the recovery loader restarts the device once its reply has gone out (R401). -/
def State.rebootStep (s : State) : State :=
  if s.host.reboot && !s.host.txRdy && s.uart0.tx.isEmpty then s.startBegin false 0x800 false else s

end Sys2Proof.Machine
end

