-- ==== Sys2Proof/Machine/Flash.lean ====
section
/-! DEFINITION. Flash commands and operations (R289 to R308): the checks of an `FLC_CMD`, what each operation does at its end, the suspend
of an erase, and the accesses that wait behind it. -/

namespace Sys2Proof.Machine

/-- An `FLC_CMD` as the controller takes it: OP, address, pages, region, the two cores' `mtvec` (R298), a reply to send. -/
structure FlcReq where
  op : Nat
  addr : Nat
  pages : Nat
  region : Nat
  vecs : List Word
  reply : Option Reply
  deriving DecidableEq, Repr

/-! ### Checks (R289) -/

/-- The limits of Table 12-2. -/
def FlcReq.addrOk (r : FlcReq) : Bool :=
  match r.op with
  | 1 => inFlash r.addr 256 && r.addr % 256 = 0
  | 2 => inFlash r.addr 1
  | 5 => true
  | _ =>
    inFlash r.addr 1 && r.addr % 256 = 0 && 1 ≤ r.pages && r.pages ≤ 256 && blockOf r.addr = blockOf (r.addr + 256 * r.pages - 1)

/-- The range that a PROG or ERASE changes. -/
def FlcReq.target (r : FlcReq) : Nat × Nat :=
  if r.op = 1 then (r.addr, 256) else (blockBase (blockOf r.addr), 0x10000)

/-- Size of a boot region, and the dump area (Tables 1-9 and 12-5). -/
def bootSize : Nat := 0x40000

def dumpBase : Nat := 0x13F80000

def dumpSize : Nat := 0x80000

/-- The target is protected: by `FLC_PROT` (R302, R303), or because its block holds the manifest or a staged image of a running
activation (R387). -/
def State.flcProtected (s : State) (r : FlcReq) : Bool :=
  (r.op = 1 || r.op = 2) &&
  (let (a, n) := r.target
   let live := s.get Reg.FLC_BOOT_LIVE
   (s.flag Reg.FLC_PROT_LIVE && overlaps a n (bootBase live) bootSize) ||
   (s.flag Reg.FLC_PROT_TWIN && overlaps a n (bootBase (1 - live)) bootSize) ||
   (s.flag Reg.FLC_PROT_DUMP && s.pwr.mode != 11 && overlaps a n dumpBase dumpSize) ||
   s.upd.guard.any fun g => overlaps (blockBase (blockOf a)) 0x10000 g.1 g.2)

/-- Plane that a vector base names, with the boot window standing for the live region (R298). -/
def State.vecPlane (s : State) (v : Word) : Option Nat :=
  let a := s.unalias (v.toNat / 4 * 4)
  if region a = .flash then some (planeOf a) else none

/-- The target plane holds the interrupt vectors of a core that is not held in reset (R298). -/
def State.flcGuarded (s : State) (r : FlcReq) : Bool :=
  s.flag Reg.FLC_CTL_GUARD && (r.op = 1 || r.op = 2) &&
  [CoreId.c0, CoreId.c1].any fun c =>
    (s.core c).run != .held && s.vecPlane (r.vecs.getD (coreNum c) 0) = some (planeOf r.addr)

/-- The code of the first check that fails, or 0. -/
def State.flcCheck (s : State) (r : FlcReq) : Nat :=
  if s.flc.op.isSome then 1
  else if !r.addrOk then 2
  else if s.flcProtected r then 3
  else if s.flcGuarded r then 4
  else if r.op = 5 && (s.selWrite r.region).isNone then 8
  else 0

/-! ### Ends (R291) -/

/-- Page index of an address, 0 outside the array. -/
def pageIndex (a : Nat) : Nat := if inFlash a 1 then (a - 0x10000000) / 256 else 0

/-- A command ends: result, event output 15, record, and the recovery loader's reply. -/
def State.flcEnd (s : State) (op code addr dur : Nat) (reply : Option Reply) : State :=
  let s := s.setReg Reg.FLC_RESULT (numAt (min 0xFFFF dur) 16 ||| numAt op 8 ||| numAt code 0)
  let s := s.output 15 0
  let s := if s.flag Reg.FLC_CTL_NOTIFY then
      s.postTo .c0 145 (numAt code 24 ||| numAt op 20 ||| numAt (pageIndex addr) 0) 2
    else s
  match reply with
  | some r => s.replyTo r [5, BitVec.ofNat 8 code]
  | none => s

/-- The page buffer's 256 octets (R292). -/
def State.pageBuf (s : State) : List Byte := s.bufOctets (Reg.FLC_PBUF 0) 256

/-- An accepted program, erase or margin read begins (R290, R292). -/
def State.flcBegin (s : State) (r : FlcReq) : State :=
  let s := if r.op = 2 then s.put Reg.FLC_ESCNT_COUNT 0 else s
  { s with flc := { s.flc with
      op := some ⟨r.op, r.addr, r.pages, s.now, if r.op = 1 then s.pageBuf else [], false, false, s.now, r.reply⟩ } }

/-- A command is refused, or accepted; a BSEL ends at once (R289, R306). -/
def State.flcDo (s : State) (r : FlcReq) : State :=
  let code := s.flcCheck r
  if code != 0 then s.flcEnd r.op code r.addr 0 r.reply
  else if r.op = 5 then ((s.selWrite r.region).getD s).flcEnd 5 0 r.addr 0 r.reply
  else s.flcBegin r

/-- The request that the registers describe. -/
def State.flcReq (s : State) (op : Nat) (vecs : List Word) : FlcReq :=
  ⟨op, (s.reg Reg.FLC_ADDR).toNat, s.get Reg.FLC_ARG_PAGES, s.get Reg.FLC_ARG_REGION, vecs, none⟩

/-- A keyed write of `FLC_CMD` with an OP of Table 12-2; none is taken once the memory cluster has granted a sleep entry (R342, log entry 91). -/
def State.flcCmd (s : State) (op : Nat) (vecs : List Word) : State := if s.quiesced 4 then s else s.flcDo (s.flcReq op vecs)

/-- The cores' `mtvec` as a command finds them: the programs have set them. -/
def State.mtvecs (s : State) (v0 v1 : Word) : State :=
  { s with
    core0 := { s.core0 with hart := { s.core0.hart with mtvec := v0 } }
    core1 := { s.core1 with hart := { s.core1.hart with mtvec := v1 } } }

/-- PROG (R293): `vec0` and `vec1` are the cores' `mtvec`. -/
def execFlashProg (vec0 vec1 : Word) (s : State) : Host.Outcome State Fault Refusal :=
  doneW ((s.mtvecs vec0 vec1).flcCmd 1 [vec0, vec1])

/-- ERASE (R294). -/
def execFlashErase (vec0 vec1 : Word) (s : State) : Host.Outcome State Fault Refusal :=
  doneW ((s.mtvecs vec0 vec1).flcCmd 2 [vec0, vec1])

/-- MARGIN0 (R299). -/
def execMargin0 (s : State) : Host.Outcome State Fault Refusal := doneW (s.flcCmd 3 [])

/-- MARGIN1 (R299). -/
def execMargin1 (s : State) : Host.Outcome State Fault Refusal := doneW (s.flcCmd 4 [])

/-- BSEL (R306). -/
def execFlashBsel (s : State) : Host.Outcome State Fault Refusal := doneW (s.flcCmd 5 [])

/-! ### Suspend (R296) -/

/-- The erase stops at a safe point. -/
def State.flcSuspend (s : State) (o : FlcOp) : State :=
  let s := { s with flc := { s.flc with op := some { o with suspended := true, suspReq := false, lastAcc := s.now } } }
  s.count Reg.FLC_ESCNT_COUNT

/-- The erase resumes after 50 µs without an access to its plane. -/
def State.flcQuiet (s : State) : State :=
  match s.flc.op with
  | some o => if o.suspended && o.lastAcc + 2000 ≤ s.now then s.flcResume else s
  | none => s

/-- ERASE_RESUME (R296). -/
def execEraseResume (t : Nat) (s : State) : Host.Outcome State Fault Refusal := doneW (s.at_ t).flcQuiet

/-! ### Margin reads (R299, R300) -/

/-- The differing bits of codeword i: all 576 of an uncorrectable one (R299, R300). -/
def cwDiffer (counts : List (Nat × Nat)) (bad : List Nat) (i : Nat) : Nat :=
  if bad.contains i then 576 else min 576 (((counts.find? fun d => d.1 = i).map Prod.snd).getD 0)

/-- The codewords of a margin read's range with a differing bit, four to a page: index and count of such bits. -/
def FlcOp.differing (o : FlcOp) (counts : List (Nat × Nat)) (bad : List Nat) : List (Nat × Nat) :=
  (((counts.map Prod.fst ++ bad).eraseDups.filter (· < 4 * o.pages)).map fun i => (i, cwDiffer counts bad i)).filter
    fun (d : Nat × Nat) => d.2 != 0

/-- A margin read ends: the bits that differ are counted, and the first codeword with one is named. -/
def State.marginEnd (s : State) (o : FlcOp) (ds : List (Nat × Nat)) : State :=
  let bits := (ds.map Prod.snd).foldl (fun a b => a + b) 0
  let first := ds.foldl (fun m d => min m d.1) (4 * o.pages)
  let s := s.setReg Reg.FLC_MSTAT (numAt (min 0xFFFF bits) 16 ||| numAt (o.op - 3) 0)
  let s := if bits = 0 then s else s.setReg Reg.FLC_MADDR (BitVec.ofNat 32 (o.addr + 64 * first))
  let s := { s with flc := { s.flc with op := none } }
  s.flcEnd o.op (if bits = 0 then 0 else 7) o.addr ((s.now - o.began) / 40) o.reply

/-! ### Programs and erases (R293, R294) -/

/-- A program ends (R293): a page that is not blank, or blank only weakly, is left alone; without the level reached the code is
VERIFY_FAIL and what the page holds is undefined. -/
def State.progEnd (s : State) (o : FlcOp) (weak good : Bool) : State :=
  let blank := s.blank o.addr weak
  let code := if !blank then 5 else if good then 0 else 6
  let s := if !blank then s else if good then s.pagePut o else (s.lose o.addr 256).flashInval o.addr 256
  let s := { s with flc := { s.flc with op := none } }
  s.flcEnd 1 code o.addr ((s.now - o.began) / 40) o.reply

/-- An erase ends (R294). -/
def State.eraseEnd (s : State) (o : FlcOp) (good : Bool) : State :=
  let b := blockOf o.addr
  let s := if good then s.blockErase b else ((s.lose (blockBase b) 0x10000).flashInval (blockBase b) 0x10000).unmark b
  let s := { s with flc := { s.flc with op := none } }
  s.flcEnd 2 (if good then 0 else 6) o.addr ((s.now - o.began) / 40) o.reply

end Sys2Proof.Machine
end

