-- ==== Sys2Proof/Machine/Dump.lean ====
section
/-! DEFINITION. Dump records (R395) and the default handler of boot ROM at 0x80 that writes one in SAFE (R394). The handler's instructions are
not modelled: it acts at the release of core 0 and at the end of each flash operation that it started (log entry 95). -/

namespace Sys2Proof.Machine

/-! ### Records (Tables 16-10, 16-11) -/

/-- MAGIC, "RIPC". -/
def dumpMagic : Nat := 0x43504952

/-- A section: TYPE and data. -/
structure DumpSect where
  type : Nat
  data : List Byte
  deriving DecidableEq, Repr

/-- The table entry of a section whose data lie at an offset from the record's start. -/
def DumpSect.entry (x : DumpSect) (off : Nat) : List Byte :=
  leBytes 2 x.type ++ leBytes 2 0 ++ leBytes 4 off ++ leBytes 4 x.data.length ++ leBytes 4 (crc32c x.data).toNat

/-- The section table, the sections' data one after another from an offset on. -/
def dumpTable : List DumpSect → Nat → List Byte
  | [], _ => []
  | x :: r, off => x.entry off ++ dumpTable r (off + x.data.length)

/-- Header, section table and data of a record, without what fills up its last page. -/
def dumpOctets (sects : List DumpSect) (seq total rtcLo rtcHi : Nat) : List Byte :=
  let head := leBytes 4 dumpMagic ++ leBytes 2 1 ++ leBytes 2 sects.length ++ leBytes 4 seq ++ leBytes 4 total ++ leBytes 4 rtcLo ++
    leBytes 4 rtcHi ++ leBytes 4 0
  let table := dumpTable sects (0x20 + 16 * sects.length)
  head ++ leBytes 4 (crc32c (head ++ table)).toNat ++ table ++ sects.flatMap DumpSect.data

/-- Whole pages that hold n bytes. -/
def pagesFor (n : Nat) : Nat := (n + 255) / 256

/-- A record in memory is valid (R395): MAGIC, FMTVER and HCRC match, and the CRC of every section. -/
def State.dumpValid (s : State) (a : Nat) : Bool :=
  let n := s.half (a + 6)
  leNat (s.bytes a 4) = dumpMagic && s.half (a + 4) = 1 &&
  crc32c (s.bytes a 0x1C ++ s.bytes (a + 0x20) (16 * n)) = s.word (a + 0x1C) &&
  (List.range n).all fun k =>
    let e := a + 0x20 + 16 * k
    crc32c (s.bytes (a + (s.word (e + 4)).toNat) (s.word (e + 8)).toNat) = s.word (e + 12)

/-! ### The dump area -/

/-- End of the dump area. -/
def dumpEnd : Nat := dumpBase + dumpSize

/-- The length of the record at a page, if the page begins with MAGIC and holds a TOTAL that fits. -/
def State.dumpAt (s : State) (a : Nat) : Option Nat :=
  let n := (s.word (a + 12)).toNat
  if a < dumpEnd && leNat (s.bytes a 4) = dumpMagic && n != 0 && n % 256 = 0 && a + n ≤ dumpEnd then some n else none

/-- A reader's scan from a page on: the first page that does not begin a record that can be read, and SEQ of the last record passed over.
Each header passes ECC (R284 to R287). -/
def State.dumpScan (s : State) : Nat → Nat → Option Nat → Nat × Option Nat × State
  | 0, a, q => (a, q, s)
  | fuel + 1, a, q =>
    let (t, bad) := s.rscan a 16
    match if bad.isEmpty then s.dumpAt a else none with
    | some n => t.dumpScan fuel (a + n) (some (s.word (a + 8)).toNat)
    | none => (a, q, t)

/-- Every byte from an address to the end of the area can be read and is 0xFF. -/
def State.dumpFree (s : State) (a : Nat) : Bool × State :=
  let (t, bad) := s.rscan a (dumpEnd - a)
  (bad.isEmpty && (List.range (dumpEnd - a)).all fun i => s.byte (a + i) = 0xFF, t)

/-! ### The default handler (R394) -/

/-- The handler's record: the snapshot alone. What fills up its last page is free. -/
def State.dumpRecord (s : State) (seq : Nat) : List Byte :=
  let snap := (List.range 256).flatMap fun i => leBytes 4 (s.snap.getD i 0).toNat
  let o := dumpOctets [⟨1, snap⟩] seq 1280 (s.rtc.sec % 2 ^ 32)
    (s.rtc.sec / 2 ^ 32 % 65536 + 65536 * s.get Reg.RTC_STATUS_TIME_SUSPECT)
  o ++ (List.range (1280 - o.length)).map fun i => Config.lostByte s.free i

/-- The handler scans the area, and erases it where the first page that begins no record is not free or too near the end. -/
def State.dumpBegin (s : State) : State :=
  if s.start.safe && s.core0.start = 0x80 then
    let (a, q, s) := s.dumpScan (dumpSize / 256) dumpBase none
    let seq := match q with | some q => (q + 1) % 2 ^ 32 | none => 1
    let (blank, s) := s.dumpFree a
    let fits := a + 1280 ≤ dumpEnd && blank
    { s with
      start := { s.start with dump := some ⟨if fits then none else some 0, if fits then a else dumpBase, s.dumpRecord seq⟩ }
      free := s.free + 1 }
  else s

/-- The handler's next action, once no flash operation runs: it erases a block, programs a page, or has finished and leaves SAFE. -/
def State.dumpAct (s : State) (d : Dump) : State :=
  let cmd := fun (s : State) (op a : Nat) =>
    (s.setReg Reg.FLC_ADDR (BitVec.ofNat 32 a)).flcDo ⟨op, a, 0, 0, [s.core0.hart.mtvec, s.core1.hart.mtvec], none⟩
  let on := fun (d : Dump) => ({ s with start := { s.start with dump := some d } } : State)
  match d.erase with
  | some b =>
    cmd (on { d with erase := if (b + 1) * 0x10000 < dumpSize then some (b + 1) else none }) 2 (dumpBase + 0x10000 * b)
  | none =>
    if d.left.isEmpty then ({ s with start := { s.start with dump := none } } : State).startBegin false 0x1000 false
    else
      cmd ((on { d with page := d.page + 256, left := d.left.drop 256 }).bufPut (Reg.FLC_PBUF 0) (d.left.take 256)) 1 d.page

/-- The handler goes on while core 0 runs and the flash controller is free; a command that is refused is passed over. -/
def State.dumpSteps (s : State) : Nat → State
  | 0 => s
  | fuel + 1 =>
    match s.start.dump, s.flc.op with
    | some d, none => if s.core0.active then (s.dumpAct d).dumpSteps fuel else s
    | _, _ => s

def State.dumpStep (s : State) : State := s.dumpSteps 16

/-- CORE0_RELEASE (R374 to R380, R393): in SAFE at 0x80 the default handler begins. -/
def execCore0Release (found : ColdFindings) (t : Nat) (s : State) : Host.Outcome State Fault Refusal :=
  let s := s.at_ t
  done (if s.start.busy then (s.releaseCore0 found).dumpBegin.dumpStep else s)

/-- MARGIN_COMPLETE (R299, R300): of the codewords of the range by index, `counts` says how many bits of which differ, `bad` which are
uncorrectable. -/
def execMarginComplete (counts : List (Nat × Nat)) (bad : List Nat) (t : Nat) (s : State) : Host.Outcome State Fault Refusal :=
  let s := s.at_ t
  doneW (match s.flc.op with
    | some o => if o.op = 3 || o.op = 4 then (s.marginEnd o (o.differing counts bad)).dumpStep else s
    | none => s)

end Sys2Proof.Machine
end

