-- ==== Sys2Proof/Machine/Signal.lean ====
section
/-! DEFINITION. Meanings of the commands of the event lines and of the interrupt collectors (chapter 13). -/

namespace Sys2Proof.Machine

/-! ### Event lines -/

/-- A write of `EVL_PUBSW` (R311, R315). -/
def State.pubsw (s : State) (v : Word) : State := s.publish (bitsOf v 0 7) (bitsOf v 8 3)

/-- EVL_PUBSW (R311). -/
def execEvlPubsw (data : Word) (s : State) : Host.Outcome State Fault Refusal := doneW (s.pubsw data)

/-- Another line than l already names the input (R310). -/
def State.subTaken (s : State) (l sub : Nat) : Bool :=
  subOk sub && (List.range 96).any fun k => k != l && s.get (Reg.EVL_LINECFG_SUB k) = sub

/-- A write of `EVL_LINECFG` of line l (R310). -/
def State.linecfg (s : State) (l : Nat) (v : Word) : State :=
  if 96 ≤ l then s
  else if s.subTaken l (bitsOf v 0 9) then s.put Reg.EVL_STATUS_SUBCONF 1
  else { s.setReg (Reg.EVL_LINECFG l) (v &&& 0x000701FF) with evl := { s.evl with lines := s.evl.lines.filter (· != l) } }

/-- LINECFG_WRITE (R310). -/
def execLinecfgWrite (l : Nat) (data : Word) (s : State) : Host.Outcome State Fault Refusal := doneW (s.linecfg l data)

/-! ### Records (R320, R321) -/

/-- The oldest post in the input buffer is handled. -/
def State.icolNextPost (s : State) (c : CoreId) : State :=
  match (s.icol c).buf with
  | [] => s
  | p :: r => (s.setIcol c { s.icol c with buf := r }).icolHandle c p

/-- ICOL_RECORD_WRITE (R320). -/
def execIcolRecordWrite (c : CoreId) (t : Nat) (s : State) : Host.Outcome State Fault Refusal :=
  doneW ((s.at_ t).icolNextPost c)

/-- FROMPEND_WRITE (R321). -/
def execFrompendWrite (c : CoreId) (t : Nat) (s : State) : Host.Outcome State Fault Refusal :=
  doneW ((s.at_ t).icolFrompend c)

/-- ICOL_EOI (R327). -/
def execIcolEoi (c : CoreId) (s : State) : Host.Outcome State Fault Refusal := doneW (s.icolEoiWrite c)

/-- A write of `ICOL_SWPOST` (R330). -/
def State.swpost (s : State) (c : CoreId) (v : Word) : State :=
  let n := coreNum c
  if bitsOf v 0 10 < 992 then s
  else s.postRaw c (bitsOf v 0 10) (bitsOf v 12 3) true (s.reg (Reg.ICOL_SWPLO n)) (s.reg (Reg.ICOL_SWPHI n))

/-- ICOL_SWPOST (R330). -/
def execIcolSwpost (c : CoreId) (data : Word) (s : State) : Host.Outcome State Fault Refusal := doneW (s.swpost c data)

/-! ### Set and clear window (R331, R332): words 0 to 31 -/

def State.enSet (s : State) (c : CoreId) (w : Nat) (b : Word) : State :=
  if w < 32 then s.setReg (enWord c w) (s.reg (enWord c w) ||| b) else s

def State.enClr (s : State) (c : CoreId) (w : Nat) (b : Word) : State :=
  if w < 32 then s.setReg (enWord c w) (s.reg (enWord c w) &&& ~~~b) else s

def State.pendSet (s : State) (c : CoreId) (w : Nat) (b : Word) : State :=
  if w < 32 then s.setReg (pendWord c w) (s.reg (pendWord c w) ||| b) else s

/-- Clearing pending bits forgets the posts they stood for (R321). -/
def State.pendClr (s : State) (c : CoreId) (w : Nat) (b : Word) : State :=
  if w < 32 then
    let i := (List.range 32).foldl (fun i j => if bitOf b j then Icol.forget i (32 * w + j) else i) (s.icol c)
    (s.setReg (pendWord c w) (s.reg (pendWord c w) &&& ~~~b)).setIcol c i
  else s

/-- A write to the window of collector c at an offset (Table 13-7). -/
def State.windowWrite (s : State) (c : CoreId) (off : Nat) (v : Word) : State :=
  if off < 0x80 then s.enSet c (off / 4) v
  else if off < 0x100 then s.enClr c ((off - 0x80) / 4) v
  else if off < 0x180 then s.pendSet c ((off - 0x100) / 4) v
  else if off < 0x200 then s.pendClr c ((off - 0x180) / 4) v
  else if off = 0xF000 then s.pendSet c 31 v
  else s

/-- ICOL_ENSET (R331). -/
def execIcolEnset (c : CoreId) (w : Nat) (bits : Word) (s : State) : Host.Outcome State Fault Refusal :=
  doneW (s.enSet c w bits)

/-- ICOL_ENCLR (R331). -/
def execIcolEnclr (c : CoreId) (w : Nat) (bits : Word) (s : State) : Host.Outcome State Fault Refusal :=
  doneW (s.enClr c w bits)

/-- ICOL_PSET (R321, R331). -/
def execIcolPset (c : CoreId) (w : Nat) (bits : Word) (s : State) : Host.Outcome State Fault Refusal :=
  doneW (s.pendSet c w bits)

/-- ICOL_PCLR (R321, R331). -/
def execIcolPclr (c : CoreId) (w : Nat) (bits : Word) (s : State) : Host.Outcome State Fault Refusal :=
  doneW (s.pendClr c w bits)

/-- ICOL_NLX5PSET (R332). -/
def execIcolNlx5pset (c : CoreId) (bits : Word) (s : State) : Host.Outcome State Fault Refusal :=
  doneW (s.pendSet c 31 bits)

/-- MODERATION_EXPIRY (R329): what every command ends with ends a hold whose time has passed. -/
def execModerationExpiry (c : CoreId) (t : Nat) (s : State) : Host.Outcome State Fault Refusal :=
  doneW ((s.at_ t).modStep c)

end Sys2Proof.Machine
end

