-- ==== Sys2Proof/Machine/Power.lean ====
section
/-! DEFINITION. Meanings of the commands of the power controller (chapter 14), of the pads' release (R414), and of WFI (R335). -/

namespace Sys2Proof.Machine

/-! ### Requests for sleep (R338) -/

/-- The key of `PWR_CMD` (Table 14-6). -/
def pwrKey : BitVec 16 := 0x5EE9

/-- ENTER (R338): refused at once in ACTIVATE, in SAFE and for no sleep mode; otherwise it waits for quiescent cores. -/
def State.pwrEnter (s : State) (target : Nat) : State :=
  if 3 < target || s.pwr.forced.isSome then s.hsReport 14 27 0 target 1
  else ({ s with pwr := { s.pwr with cmd := some target } } : State).sleepTry

/-- CANCEL (R338). -/
def State.pwrCancel (s : State) : State := { s with pwr := { s.pwr with cmd := none } }

/-- A write of `PWR_CMD`: without the key it is ignored. -/
def State.pwrCmd (s : State) (key : BitVec 16) (op target : Nat) : State :=
  if key != pwrKey || !s.awake then s
  else if op = 1 then s.pwrEnter target
  else if op = 2 then s.pwrCancel
  else s

/-- PWR_ENTER (R338). -/
def execPwrEnter (key : BitVec 16) (target : BitVec 4) (s : State) : Host.Outcome State Fault Refusal :=
  doneW (s.pwrCmd key 1 target.toNat)

/-- PWR_CANCEL (R338). -/
def execPwrCancel (key : BitVec 16) (s : State) : Host.Outcome State Fault Refusal := doneW (s.pwrCmd key 2 0)

/-- A core executes WFI (R335): it becomes quiescent unless its WFI completes at once (R22, R329). -/
def State.wfiExec (s : State) (c : CoreId) : State :=
  let x := s.core c
  if x.run = .running && !x.halted then (s.setCore c { x with run := .wfi }).settle.sleepTry else s

/-- WFI (R335). -/
def execWfi (c : CoreId) (t : Nat) (s : State) : Host.Outcome State Fault Refusal := doneW ((s.at_ t).wfiExec c)

/-! ### The handshake (R342 to R345) -/

/-- HANDSHAKE_DELAY_CLEAR (R343). -/
def execHandshakeDelayClear (t : Nat) (s : State) : Host.Outcome State Fault Refusal := doneW (s.at_ t).hsAgain

/-- HANDSHAKE_TIMEOUT (R343). -/
def execHandshakeTimeout (t : Nat) (s : State) : Host.Outcome State Fault Refusal := doneW (s.at_ t).hsTimeout

/-- The entry completes once the memory cluster has granted (R345), never while `dmcontrol.dmactive` is 1 (R25). -/
def State.entryDone (s : State) : State :=
  match s.pwr.hs with
  | some h => if s.dbg.dmactive then s.hsDebug else if h.granted then s.sleepReach h.target else s
  | none => s

/-- SLEEP_ENTRY_DONE (R345). -/
def execSleepEntryDone (t : Nat) (s : State) : Host.Outcome State Fault Refusal := doneW (s.at_ t).entryDone

/-! ### Wakes (R340, R405) -/

/-- The pre-wake of an event at a time in µs has come, and the event has not passed (R340). -/
def State.preDue (s : State) (ev : Option Nat) : Bool :=
  match ev with
  | some e => e ≤ s.us + 1000 + s.get Reg.PWR_SLEEPCFG_MARGIN && s.us ≤ e
  | none => false

/-- The wake sources that the controller raises ahead of the known events (R339, R340): it does not wake ahead of an RTC alarm. -/
def State.preSources (s : State) : Word :=
  flagAt (s.preDue s.wakeatUs) 0 |||
  flagAt (s.preDue (if s.flag Reg.PWR_SLEEPCFG_SLOTEV then some (s.link.nextT / 40) else none)) 1

/-- PREWAKE (R340): in HOVER and STANDBY, or on the way there. -/
def execPrewake (t : Nat) (s : State) : Host.Outcome State Fault Refusal :=
  let s := s.at_ t
  let on := s.pwr.forced = some 2 || s.pwr.forced = some 3 || s.pwr.hs.any (fun h => 2 ≤ h.target)
  doneW (if on then { s with pwr := { s.pwr with wakeReq := s.pwr.wakeReq ||| s.preSources } } else s)

/-- The level of a pin changes. -/
def State.pinSet (s : State) (j : Nat) (v : Bool) : State :=
  { s with pins := { s.pins with level := (s.pins.level &&& ~~~((1 : BitVec 40) <<< j)) ||| (if v then (1 : BitVec 40) <<< j else 0) } }

/-- An edge matches `GPIO_CFG.EDGE` of pin j (Table 17-5). -/
def State.edgeOn (s : State) (j : Nat) (rising : Bool) : Bool :=
  bitOf (s.reg (Reg.GPIO_CFG j)) (if rising then 9 else 10)

/-- An edge on a wake pin (R405): pins 0 to 3 in their wake function, on the edge selected. -/
def State.wakePin (s : State) (j : Nat) (rising : Bool) : State :=
  let s := s.pinSet j rising
  if j < 4 && s.padFunc j = 3 && s.edgeOn j rising then
    { s with pwr := { s.pwr with wakeReq := s.pwr.wakeReq ||| ((1 : Word) <<< (4 + j)) } }
  else s

/-- WAKE_PIN_EDGE (R405). -/
def execWakePinEdge (j : Nat) (rising : Bool) (t : Nat) (s : State) : Host.Outcome State Fault Refusal :=
  doneW ((s.at_ t).wakePin j rising)

/-! ### Core voltage, HOVER, pads -/

/-- VCORE_SETTLED (R351). -/
def execVcoreSettled (t : Nat) (s : State) : Host.Outcome State Fault Refusal :=
  let s := s.at_ t
  doneW { s with pwr := s.pwr.settled }

/-- HOVER_CRYSTAL_START (R354). -/
def execHoverCrystalStart (t : Nat) (s : State) : Host.Outcome State Fault Refusal :=
  let s := s.at_ t
  doneW (if s.pwr.forced = some 3 && !s.tb.xtalOn then s.hoverXtalOn else s)

/-- HOVER_SUBSTATE_CHANGE (R353). -/
def execHoverSubstateChange (t : Nat) (s : State) : Host.Outcome State Fault Refusal :=
  let s := s.at_ t
  doneW (if s.pwr.forced = some 3 then s.hoverSub else s)

/-- The pads take their register state (R414). -/
def State.padRelease (s : State) : State := { s with pins := { s.pins with held := none, pads := [] } }

/-- PAD_RELEASE (R414). -/
def execPadRelease (s : State) : Host.Outcome State Fault Refusal := doneW s.padRelease

end Sys2Proof.Machine
end

