-- ==== Sys2Proof/Machine/Update.lean ====
section
/-! DEFINITION. Field update (R385 to R391): the manifest and its checks, and the phases of an activation. -/

namespace Sys2Proof.Machine

/-! ### The manifest (Tables 16-5 and 16-6) -/

/-- A manifest entry: KIND, TARGET, OFFSET, LENGTH, VERSION, SHA-256, and whether its reserved bytes are 0. -/
structure MEntry where
  kind : Nat
  target : Nat
  offset : Nat
  length : Nat
  version : Word
  hash : List Byte
  clean : Bool
  deriving DecidableEq, Repr

/-- Number of entries, as the header gives it. -/
def State.manCount (s : State) (a : Nat) : Nat := leNat (s.rbytes (a + 6) 2)

/-- Length of a manifest of n entries. -/
def manLen (n : Nat) : Nat := 0x90 + 64 * n

/-- Entry i. -/
def State.manEntry (s : State) (a i : Nat) : MEntry :=
  let e := a + 0x50 + 64 * i
  ⟨(s.rbyte e).toNat, (s.rbyte (e + 1)).toNat, (s.rword (e + 4)).toNat, (s.rword (e + 8)).toNat, s.rword (e + 12),
    s.rbytes (e + 16) 32, s.rbytes (e + 2) 2 = zeros 2 && s.rbytes (e + 48) 16 = zeros 16⟩

def State.manEntries (s : State) (a : Nat) : List MEntry := (List.range (s.manCount a)).map fun i => s.manEntry a i

/-- A range lies wholly in SRAM, in banks that serve it, or wholly in the flash array (R385). -/
def State.manAt (s : State) (a n : Nat) : Bool :=
  (region a = .sram && region (a + n - 1) = .sram && !s.rangeRefused a n) || inFlash a n

/-- Address of a staged image. -/
def MEntry.addr (e : MEntry) : Nat := 0x10000000 + e.offset

/-- The engines that a REEL entry names. -/
def MEntry.engines (e : MEntry) : List Nat :=
  if e.kind = 3 then (if e.target = 0xFF then List.range 16 else [e.target]) else []

/-- Two entries name the same part. -/
def MEntry.clash (e f : MEntry) : Bool :=
  e.kind = f.kind && (e.kind != 3 || e.engines.any fun x => f.engines.contains x)

/-- KIND and TARGET are among those of Table 16-6, and allowed by ACTIVATE_LIVE if `live` (R390). -/
def MEntry.named (e : MEntry) (live : Bool) : Bool :=
  (if e.kind = 3 then e.target ≤ 16 || e.target = 0xFF else 1 ≤ e.kind && e.kind ≤ 6 && e.target = 0) &&
  (!live || [2, 3, 4, 5].contains e.kind)

/-! ### Checks (R386) -/

/-- Header and reserved content are right. -/
def State.manHdr (s : State) (a : Nat) : Bool :=
  s.rword a = 0x4D584C4E && leNat (s.rbytes (a + 4) 2) = 1 && s.rword (a + 12) &&& 0xFFFFFFFE = 0 &&
  (s.manEntries a).all fun e => e.clean

/-- Key i is fused and not revoked (Table 16-18). -/
def State.keyIntact (s : State) (i : Nat) : Bool := bitOf (s.peek Reg.SYS_KEYSTAT) i && !bitOf (s.peek Reg.SYS_KEYSTAT) (2 + i)

/-- The intact signer key that PUBKEY matches. -/
def State.manKey (s : State) (a : Nat) : Option Nat :=
  let h := sha256 (s.rbytes (a + 16) 64)
  [0, 1].find? fun i => s.keyIntact i && h = (List.range 32).map fun j => Config.signerHash i j

/-- SIG verifies over the bytes before it. -/
def State.manSig (s : State) (a : Nat) : Bool :=
  let n := 0x50 + 64 * s.manCount a
  ecdsa (sha256 (s.rbytes a n)) (s.rbytes (a + 16) 64) (s.rbytes (a + n) 64) = some true

/-- Some other entry of the list names the same part as entry i. -/
def clashAt (es : List MEntry) (i : Nat) (e : MEntry) : Bool :=
  (List.range es.length).any fun j => j != i && ((es[j]?).map fun f => e.clash f).getD false

/-- The twin region's base. -/
def State.twinBase (s : State) : Nat := bootBase (1 - s.get Reg.FLC_BOOT_LIVE)

/-- A BOOT entry lies at the base of the twin region and fits it. -/
def State.bootPlaced (s : State) (e : MEntry) : Bool := e.kind != 6 || (e.addr = s.twinBase && e.length ≤ bootSize)

/-- The image lies in the flash array, outside the live boot region and the dump area. -/
def State.imgPlaced (s : State) (e : MEntry) : Bool :=
  1 ≤ e.length && inFlash e.addr e.length && !overlaps e.addr e.length (bootBase (s.get Reg.FLC_BOOT_LIVE)) bootSize &&
  !overlaps e.addr e.length dumpBase dumpSize

/-- A REEL image is valid for every engine that its entry names (R186). -/
def State.reelOk (s : State) (e : MEntry) : Bool :=
  e.kind != 3 || (e.length = imgLen (s.imgHdr e.addr) && e.engines.all fun x => (s.imgFault s.rbytes [] e.addr x).isNone)

/-- The checks that entry i fails, as codes of Table 16-8 with its number. What lies outside the array is not read. -/
def State.entryFails (s : State) (es : List MEntry) (live : Bool) (i : Nat) : List (Nat × Nat) :=
  match es[i]? with
  | none => []
  | some e =>
    (if !e.named live || clashAt es i e || !s.bootPlaced e then [(7, i)] else []) ++
    (if !s.imgPlaced e then [(8, i)]
     else
      (if sha256 (s.rbytes e.addr e.length) = e.hash then [] else [(9, i)]) ++ (if s.reelOk e then [] else [(10, i)]))

/-- The checks on the whole manifest that fail; the RELEASE test is left out for BOOTSEL (R401). -/
def State.manFails (s : State) (a : Nat) (live release : Bool) : List (Nat × Nat) :=
  let es := s.manEntries a
  (if (s.manKey a).isNone then [(4, 0)] else []) ++ (if s.manSig a then [] else [(5, 0)]) ++
  (if release && (s.rword (a + 8)).toNat ≤ s.live.release then [(6, 0)] else []) ++
  (List.range es.length).flatMap fun i => s.entryFails es live i

/-- The result of verification: code and entry, or none if the manifest is accepted. The manual states no order among the checks once
the header has been read, so where several fail the one reported is free. -/
def State.manCheck (s : State) (a : Nat) (live release : Bool) : Option (Nat × Nat) :=
  if !s.manAt a 0x50 then some (2, 0)
  else
    let n := s.manCount a
    if n = 0 || 24 < n then some (3, 0)
    else if !s.manAt a (manLen n) then some (2, 0)
    else if !s.manHdr a then some (3, 0)
    else
      let fs := s.manFails a live release
      fs[Config.freeNat s.free % max 1 fs.length]?

/-- What verification reads: the manifest and the staged images, as far as they lie where they may. -/
def State.manReads (s : State) (a : Nat) : List (Nat × Nat) :=
  if !s.manAt a 0x50 then []
  else
    let n := s.manCount a
    if n = 0 || 24 < n || !s.manAt a (manLen n) then [(a, 0x50)]
    else (a, manLen n) :: ((s.manEntries a).filter s.imgPlaced).map fun e => (e.addr, e.length)

/-- Verification has made its reads: the state after them, and the memory as they saw it, with the raw bits of an uncorrectable codeword,
which are free (R285 to R287). -/
def State.manScan (s : State) (a : Nat) : State × State :=
  let (t, bad) := s.rscans (s.manReads a)
  (t.fresh, bad.foldl (fun v x => v.lose x 64) t)

/-! ### The new set (R386) -/

/-- Journal entries that a manifest entry makes. -/
def MEntry.sets (e : MEntry) : List (List Word) :=
  let body : List Word := [BitVec.ofNat 32 e.addr, BitVec.ofNat 32 e.length, e.version] ++
    (chunks 4 e.hash).map fun b => BitVec.ofNat 32 (leNat b)
  (if e.kind = 3 then e.engines else [0]).map fun t => (numAt t 8 ||| numAt e.kind 0) :: body

/-- A named part replaces its entry, or is added. -/
def entPut (es : List (List Word)) (n : List Word) : List (List Word) :=
  if es.any (fun e => entKind e = entKind n && entTarget e = entTarget n) then
    es.map fun e => if entKind e = entKind n && entTarget e = entTarget n then n else e
  else es ++ [n]

/-- The live set with each named part replaced or added. -/
def State.newSet (s : State) (a : Nat) : SetCopy :=
  let es := s.manEntries a
  let boot := es.any fun e => e.kind = 6
  ⟨(s.commitCount + 1) % 65536, (s.rword (a + 8)).toNat,
    if boot then 1 - s.get Reg.FLC_BOOT_LIVE else s.live.bootreg, (es.flatMap MEntry.sets).foldl entPut s.live.ents⟩

/-! ### Beginning and ending (R387, R391) -/

/-- The ranges whose blocks FLC protects while an activation runs (R387). -/
def State.manGuard (s : State) (a : Nat) : List (Nat × Nat) :=
  let n := s.manCount a
  if s.manAt a 0x50 && 1 ≤ n && n ≤ 24 && s.manAt a (manLen n) then
    (a, manLen n) :: (s.manEntries a).map fun e => (e.addr, e.length)
  else []

/-- VERIFY begins. -/
def State.updBegin (s : State) (live : Bool) (soft : Nat) : State :=
  let a := 4 * s.get Reg.SYS_UPDSRC_ADDR
  let u := Upd.reset
  { s with upd := { u with phase := .verify, live := live, src := a, soft := soft, guard := s.manGuard a } }

/-- ACTIVATE or ACTIVATE_LIVE (R387, R390). -/
def State.updStart (s : State) (live : Bool) (soft : Nat) : State :=
  if s.upd.phase != .idle then s.put Reg.SYS_UPDSTAT_CODE 1
  else if s.start.safe || s.start.recovery || s.dbg.dmactive then s.put Reg.SYS_UPDSTAT_CODE 16
  else s.updBegin live soft

/-- The groups that the controller held are released, and engine 16 runs again as RUN says (R388, R391). -/
def State.updFree (s : State) : State :=
  let was := s.upd.stop16
  let s := { s.freeGroups s.upd.holds with upd := { s.upd with stop16 := false } }
  if !was then s
  else if (s.eng 16).run then s.setEng 16 { s.eng 16 with stopping := !s.flag Reg.REEL_E16CTL_RUN }
  else if s.flag Reg.REEL_E16CTL_RUN && s.radioOn then s.engStart 16
  else s

/-- ABORT (R391): ignored in the later phases. -/
def State.updAbort (s : State) : State :=
  match s.upd.phase with
  | .verify => s.updEnd 13
  | .writeset => s.updEnd 13
  | .quiesce => s.updFree.updEnd 13
  | _ => s

/-- The key of `SYS_UPDCMD` (Table 16-16). -/
def updKey : Nat := 0xAC7E

/-- A write of `SYS_UPDCMD`; `op` as the write gives it. -/
def State.updCmd (s : State) (v : Word) (op : Nat) : State :=
  if bitsOf v 16 16 != updKey then s
  else match op with
    | 1 => s.updStart false (bitsOf v 8 8)
    | 2 => s.updStart true (bitsOf v 8 8)
    | 3 => s.updAbort
    | _ => s

/-- ACTIVATE (R387): a write of `SYS_UPDCMD` with OP ACTIVATE. -/
def execActivate (data : Word) (s : State) : Host.Outcome State Fault Refusal := doneW (s.updCmd data 1)

/-- ACTIVATE_LIVE (R390). -/
def execActivateLive (data : Word) (s : State) : Host.Outcome State Fault Refusal := doneW (s.updCmd data 2)

/-- UPDATE_ABORT (R391). -/
def execUpdateAbort (data : Word) (s : State) : Host.Outcome State Fault Refusal := doneW (s.updCmd data 3)

/-! ### Stopping (R388) -/

/-- The groups whose engines run, as a mask. -/
def State.runMask (s : State) : Nat := (List.range 16).foldl (fun m g => if (s.eng g).run then m + 2 ^ g else m) 0

/-- Every running group is held, and engine 16 begins to stop (R118, R182). -/
def State.updHold (s : State) : State :=
  let m := (List.range 16).foldl (fun m g => if (s.eng g).run && !s.held g then m + 2 ^ g else m) 0
  let e16 := (s.eng 16).run
  let s := s.holdGroups s.runMask
  let s := if e16 then s.setEng 16 { s.eng 16 with stopping := true } else s
  { s with upd := { s.upd with holds := m, stop16 := true, hard := true } }

/-- Verification has passed: WRITESET, then the commit of a live activation with its loads, or QUIESCE (R386, R388, R390). -/
def State.updWrite (s : State) : State :=
  let u := s.upd
  let a := u.src
  let s := (s.nvSee commitAddr 4).copySee s.liveSet
  if (s.copy s.liveSet).isNone then s.updEnd 15
  else
    let es := s.manEntries a
    let old := s.live
    let new := s.newSet a
    let s := s.copyPut (1 - s.liveSet) new
    let u := { u with
      revoke := bitOf (s.rword (a + 12)) 0 && s.manKey a = some 1
      boot := es.any (fun e => e.kind = 6)
      core1 := es.any (fun e => e.kind = 2)
      engines := reelDiff old new
      began := s.now }
    if u.live then
      let s := s.commitPut new.seq (1 - s.liveSet)
      let (w, s) := s.attRead
      let s := (s.attPut (bitsOf w 16 16) 0 (bitsOf w 0 8)).setMirror
      ({ s with upd := { u with phase := .load } } : State).updGo
    else
      let s := { s with upd := { u with phase := .quiesce } }
      if u.soft = 0 then s.updHold else s

/-- Verification ends (R386), once the flash controller has served what it reads (R295, R296). -/
def State.updVerify (s : State) : State :=
  let a := s.upd.src
  let rs := s.manReads a
  if s.ciph.halted then s.updEnd 14
  else if rs.any fun r => s.rwaits r.1 r.2 then rs.foldl (fun t r => t.rtouch r.1 r.2) s
  else
    let (t, v) := s.manScan a
    match v.manCheck a s.upd.live true with
    | some (code, i) => (t.put Reg.SYS_UPDSTAT_ENTRY i).updEnd code
    | none => t.updWrite

/-- UPDATE_VERIFY_DONE (R386 to R388, R390). -/
def execUpdateVerifyDone (t : Nat) (s : State) : Host.Outcome State Fault Refusal :=
  let s := s.at_ t
  doneW (if s.upd.phase = .verify then s.updVerify else s)

/-- A quiet instant (R388). -/
def State.quietNow (s : State) : Bool :=
  ((List.range 16).all fun g => !(s.eng g).run || (s.groupDone g && s.huntOrOff g)) && s.allWait 16 &&
  s.rfe.holder.isNone && s.flc.op.isNone && s.ciph.cur.isNone

/-- The stop is complete: no engine runs, and the FLC and the cipher engine are at rest (R388). -/
def State.stopNow (s : State) : Bool := !s.anyEngine && s.flc.op.isNone && s.ciph.cur.isNone

/-- Steps 1 and 2 of the pause (R389). -/
def State.pauseBegin (s : State) : State :=
  let s := { s with
    upd := { s.upd with phase := .pause, pauseT := s.now }
    pwr := { s.pwr with forced := some 10 } }
  let s := ((s.coreHold .c0).coreHold .c1).cipDrop 0 12
  let s := s.cipDrop 1 12
  let s := s.commitPut (s.commitCount + 1) (1 - s.liveSet)
  let (w, s) := s.attRead
  (s.attPut (bitsOf w 16 16) 1 (bitsOf w 0 8)).setMirror

/-- Every engine is stopped at once, at a quiet instant. -/
def State.stopAll (s : State) : State :=
  let s := s.updHold
  forN 17 (fun s e => if (s.eng e).run then (if e = 16 then s.engStop 16 else s.groupStop e) else s) s

/-- The pause begins when it may (R388). -/
def State.updQuiet (s : State) : State :=
  if s.upd.phase != .quiesce then s
  else if s.upd.hard then (if s.stopNow then s.pauseBegin else s)
  else if s.quietNow then s.stopAll.pauseBegin
  else s

/-- QUIET_INSTANT (R388). -/
def execQuietInstant (t : Nat) (s : State) : Host.Outcome State Fault Refusal := doneW (s.at_ t).updQuiet

/-- QUIESCE_SOFT_EXPIRY (R388). -/
def execQuiesceSoftExpiry (t : Nat) (s : State) : Host.Outcome State Fault Refusal :=
  let s := s.at_ t
  doneW (if s.upd.phase = .quiesce && !s.upd.hard && s.upd.began + 40000 * s.upd.soft ≤ s.now then s.updHold else s)

/-- 100 ms after QUIESCE began: a stop that is complete by then begins the pause, any other ends the activation (R388). -/
def State.updLate (s : State) : State :=
  let t := s.updQuiet
  if t.upd.phase = .quiesce then t.updFree.updEnd 11 else t

/-- QUIESCE_TIMEOUT (R388). -/
def execQuiesceTimeout (t : Nat) (s : State) : Host.Outcome State Fault Refusal :=
  let s := s.at_ t
  doneW (if s.upd.phase = .quiesce && s.upd.began + 4000000 ≤ s.now then s.updLate else s)

/-! ### The pause (R389, R391) -/

/-- Engines loaded one after another, up to the first that fails: those loaded or attempted, and whether all went well. -/
def State.loadAll (s : State) (c : SetCopy) : List Nat → List Nat × Bool × State
  | [] => ([], true, s)
  | e :: es =>
    let (ok, t) := s.loadEntry e c
    if ok then
      let (done, good, u) := t.loadAll c es
      (e :: done, good, u)
    else ([e], false, t)

/-- Step 3: the loads, and after one that fails the previous set again, in every engine that had changed (R391). -/
def State.pauseLoads (s : State) : State :=
  let (done, good, t) := s.loadAll s.live s.upd.engines
  if good then t
  else
    let t := t.commitBack
    let t := done.foldl (fun u e => (u.loadEntry e t.live).2) t
    { t with upd := { t.upd with failed := true } }

/-- Step 4: the revoke fuse of key 0 (R386). -/
def State.pauseRevoke (s : State) : State := if s.upd.revoke then s.put Reg.SYS_KEYSTAT_REV0 1 else s

/-- The cores and watchdogs are as a start leaves them, and core 0 runs boot ROM (R37, R389). -/
def State.pauseCores (s : State) : State :=
  let s := ((s.setReg (Reg.WDT_CTL 0) (regReset (Reg.WDT_CTL 0))).setReg (Reg.WDT_CTL 1) (regReset (Reg.WDT_CTL 1))).put
    Reg.SYS_C1CTL_RUN 0
  (({ s with wdt0 := ⟨0, false, none⟩, wdt1 := ⟨0, false, none⟩ } : State).coreHold .c1).coreStart .c0 0

/-- Steps 5 and 6. -/
def State.pauseFinish (s : State) : State :=
  let u := s.upd
  let s := s.setReg Reg.SYS_PAUSE (BitVec.ofNat 32 ((s.now - u.pauseT) / 40))
  if u.boot then ({ s.updEnd (if u.failed then 12 else 0) with pwr := { s.pwr with forced := none } } : State).startBegin false 0x800 false
  else
    let s := s.nvPut finishedAddr (BitVec.ofNat 32 s.commitCount)
    let (w, s) := s.attRead
    let s := s.attPut (bitsOf w 16 16) (bitsOf w 12 1) (min 255 (bitsOf w 0 8 + 1))
    let s := ({ s with pwr := { s.pwr with forced := none } } : State).updFree
    (s.pauseCores.updEnd (if u.failed then 12 else 0)).settle.bootCheck

/-- PAUSE_END (R389, R391). -/
def execPauseEnd (t : Nat) (s : State) : Host.Outcome State Fault Refusal :=
  let s := s.at_ t
  doneW (if s.upd.phase = .pause then s.pauseLoads.pauseRevoke.pauseFinish else s)

end Sys2Proof.Machine
end

