-- ==== Sys2Proof/Machine/Pins.lean ====
section
/-! DEFINITION. Meanings of the commands at the balls: the test access port (R424), VIO (R418), GPIO edges (R404). -/

namespace Sys2Proof.Machine

/-! ### The TAP controller (IEEE 1149.1, R424) -/

/-- The state after a rising edge of TCK. -/
def TapState.next (t : TapState) (tms : Bool) : TapState :=
  match t with
  | .testLogicReset => if tms then .testLogicReset else .runTestIdle
  | .runTestIdle => if tms then .selectDr else .runTestIdle
  | .selectDr => if tms then .selectIr else .captureDr
  | .captureDr => if tms then .exit1Dr else .shiftDr
  | .shiftDr => if tms then .exit1Dr else .shiftDr
  | .exit1Dr => if tms then .updateDr else .pauseDr
  | .pauseDr => if tms then .exit2Dr else .pauseDr
  | .exit2Dr => if tms then .updateDr else .shiftDr
  | .updateDr => if tms then .selectDr else .runTestIdle
  | .selectIr => if tms then .testLogicReset else .captureIr
  | .captureIr => if tms then .exit1Ir else .shiftIr
  | .shiftIr => if tms then .exit1Ir else .shiftIr
  | .exit1Ir => if tms then .updateIr else .pauseIr
  | .pauseIr => if tms then .exit2Ir else .pauseIr
  | .exit2Ir => if tms then .updateIr else .shiftIr
  | .updateIr => if tms then .selectDr else .runTestIdle

/-- The `n` low bits of a number, the first shifted first. -/
def bitList (n v : Nat) : List Bool := (List.range n).map fun i => v.testBit i

/-- The number that bits spell, the first the lowest. -/
def bitsNat (l : List Bool) : Nat := l.foldr (fun b n => b2n b + 2 * n) 0

/-- FEM_RX (R87): a receive path is enabled, the radio cluster is powered (R413: in HOVER the RFE in its crystal windows), and no transmit
is near. -/
def State.femRx (s : State) : Bool :=
  s.flag Reg.RFE_ANTCFG_FEM && (s.awake || (s.pwr.forced = some 3 && s.rfe.st != .off)) &&
  (s.env.st != .off || s.flag Reg.RFE_SPCTL_EN) && !s.femWindow

/-- The levels that boundary scan captures, cell 0 first: GPIO0 to GPIO39, HOST_CS, HOST_SCK, HOST_MOSI, HOST_MISO, NRST, COEX_REQ,
COEX_PRI, FEM_TX, FEM_RX, COEX_GNT. PRESUMED (log entry 65): one cell a ball and this order; R424 gives the balls alone. The levels of
clock and data balls are outside the state and free, as is NRST while a start runs; NRST is high otherwise. In EXTEST an output's cell
captures what it drives, and the cells of the balls that are inputs alone the levels at them. -/
def State.bscan (s : State) : List Bool :=
  let w := Config.freeWord s.free
  let wire := fun (v : Bool) (pol : Field) => v != s.flag pol
  let outs := [!s.host.cs, bitOf w 0, bitOf w 1, bitOf w 2, !s.start.busy || bitOf w 3, wire s.coexReq Reg.COEX_CTL_REQPOL,
    wire s.coexPri Reg.COEX_CTL_PRIPOL, wire s.femTx Reg.COEX_FEM_TXPOL, wire s.femRx Reg.COEX_FEM_RXPOL,
    wire s.rfe.gnt Reg.COEX_CTL_GNTPOL]
  (List.range 40).map s.pinIn ++ (List.range 10).map fun i =>
    (if [0, 1, 2, 4, 9].contains i then none else s.extest (40 + i)).getD (outs.getD i false)

/-- What Capture-DR loads under the instruction in force (Table 18-16). `dtmcs` and `dmi` are of the debug transport of R24: 32 and
41 bits (PRESUMED: 7 address bits); `dmi` answers the last operation, and the idle cycles that `dtmcs` asks for are free. -/
def State.captureDr (s : State) : List Bool :=
  if s.tap.ir = 1 then bitList 32 0x271282F7
  else if s.tap.ir = 2 || s.tap.ir = 3 then s.bscan
  else if s.tap.ir = 0x10 then bitList 32 (0x71 + 4096 * ((Config.freeWord s.free).toNat % 8))
  else if s.tap.ir = 0x11 then bitList 41 (4 * s.dbg.dmiAns + 2 ^ 34 * (bitsNat s.tap.dmi / 2 ^ 34))
  else [false]

/-- What a rising edge does in a state: capture or shift. -/
def State.tapShift (s : State) (tdi : Bool) : List Bool :=
  match s.tap.st with
  | .captureDr => s.captureDr
  | .captureIr => [true, false] ++ bitList 3 (Config.freeWord s.free).toNat
  | .shiftDr => s.tap.sr.tail ++ [tdi]
  | .shiftIr => s.tap.sr.tail ++ [tdi]
  | _ => s.tap.sr

/-- What a register takes on entering a state: the instruction, the boundary cells, a request to the debug module. -/
def Tap.update (t : Tap) : Tap :=
  match t.st with
  | .testLogicReset => { t with ir := 1 }
  | .updateIr => { t with ir := bitsNat t.sr }
  | .updateDr => if t.ir = 2 || t.ir = 3 then { t with bsr := t.sr } else if t.ir = 0x11 then { t with dmi := t.sr } else t
  | _ => t

/-- TDO is driven in the Shift states alone (Table 18-5). -/
def Tap.drive (t : Tap) : Tap :=
  { t with tdo := match t.st with
      | .shiftDr => t.sr.head?
      | .shiftIr => t.sr.head?
      | _ => none }

/-- A cycle of TCK; without VIO the TAP ignores its balls (R418). -/
def State.tapClock (s : State) (tms tdi : Bool) : State :=
  if s.pins.vio then
    { s with
      tap := ({ s.tap with sr := s.tapShift tdi, st := s.tap.st.next tms } : Tap).update.drive
      free := s.free + 2 }
  else s

/-! ### VIO (R418) -/

/-- VIO crosses its valid level: without it the SPI target ignores its balls and a transfer is cut, and COEX_GNT reads 0, which may be the
end of a grant (R86). -/
def State.vioSet (s : State) (valid : Bool) : State :=
  let old := s.gntIn
  let s := { s with pins := { s.pins with vio := valid } }
  let s := if old && !s.gntIn then s.gntLost else s
  if valid then s else { s with host := { s.host with cs := false, out := [], get := .none }, tap := { s.tap with tdo := none } }

/-- VIO_VALID_CHANGE (R418). -/
def execVioValidChange (valid : Bool) (t : Nat) (s : State) : Host.Outcome State Fault Refusal :=
  doneW ((s.at_ t).vioSet valid)

/-! ### GPIO edges (R404) -/

/-- A new level has been seen at the ball of pin j: what the device drives there, or a level from outside, 0 without VIO. -/
def State.padSees (s : State) (j : Nat) (v : Bool) : Bool :=
  j < 40 && v != s.pins.level.getLsbD j &&
  (match (s.extest j).or (s.padDrive j) with
    | some x => x = v
    | none => j < 4 || s.pins.vio || !v)

/-- An edge on pin j: its event output and, with IRQ, its record. -/
def State.gpioEdge (s : State) (j : Nat) (v : Bool) : State :=
  let s := s.pinSet j v
  if s.periphOn && s.edgeOn j v then
    let s := s.output (16 + j) 0
    if s.flag (Reg.GPIO_CFG_IRQ j) then s.postBoth (160 + j) (s.gpioIn 0) (if v then 1 else 2) else s
  else s

/-- GPIO_EDGE (R404). -/
def execGpioEdge (j : Nat) (level : Bool) (t : Nat) (s : State) : Host.Outcome State Fault Refusal :=
  let s := s.at_ t
  doneW (if s.padSees j level then s.gpioEdge j level else s)

end Sys2Proof.Machine
end

