-- ==== Sys2Proof/Machine/Periph.lean ====
section
/-! DEFINITION. Meanings of the commands of the peripherals (chapter 17): UARTs, SPI and I2C controllers, SADC, monitors, timers.
A UART's queued characters leave at its baud rate, the last of them at UART_TX_IDLE. The command that ends a transfer may come several times:
each brings the bytes that have moved since, and the one that brings the last ends it (log entry 61). -/

namespace Sys2Proof.Machine

/-- Depth of a FIFO (R402). -/
def fifoDepth : Nat := 16

/-- A byte enters a FIFO that has room. -/
def fifoPut (q : List Byte) (b : Byte) : List Byte := if q.length < fifoDepth then q ++ [b] else q

/-! ### UARTs (R402, R403) -/

/-- The receiver of UART n is on and its RX pin connected (R412, Table 18-4). -/
def State.uartRxOn (s : State) (n : Nat) : Bool :=
  n < 2 && s.periphOn && bitOf (s.reg (Reg.UART_CTL n)) 1 && s.uartClock n && s.padFunc (5 + 12 * n) = 1 && s.pins.vio

/-- UART n posts its STATUS (R403). -/
def State.uartPost (s : State) (n : Nat) : State := s.postBoth (200 + n) (s.peek (Reg.UART_STATUS n)) 0

/-- A character is received: a full FIFO loses it. A post follows where RXNE or an error bit changes from 0 to 1. -/
def State.uartRx (s : State) (n : Nat) (b : Byte) (par frm brk : Bool) : State :=
  let u := s.uart n
  let full := fifoDepth ≤ u.rx.length
  let e := flagAt full 3 ||| flagAt par 4 ||| flagAt frm 5 ||| flagAt brk 6
  let old := s.reg (Reg.UART_STATUS n)
  let s := (s.setUart n { u with rx := fifoPut u.rx b }).setReg (Reg.UART_STATUS n) (old ||| e)
  if u.rx.isEmpty || e &&& ~~~old != 0 then s.uartPost n else s

/-- UART_RX_BYTE (R402). -/
def execUartRxByte (n : Nat) (b : Byte) (parityErr framingErr brk : Bool) (t : Nat) (s : State) :
    Host.Outcome State Fault Refusal :=
  let s := s.at_ t
  doneW (if s.uartRxOn n then s.uartRx n b parityErr framingErr brk else s)

/-- A write of `UART_DATA`. -/
def State.uartPut (s : State) (n : Nat) (b : Byte) : State :=
  if s.periphGo then s.setUart n { s.uart n with
    tx := fifoPut (s.uart n).tx b
    part := if (s.uart n).tx.isEmpty then 0 else (s.uart n).part } else s

/-- UART_DATA_WRITE (R402). -/
def execUartDataWrite (n : Nat) (b : Byte) (s : State) : Host.Outcome State Fault Refusal :=
  doneW (if n < 2 && s.periphOn then s.uartPut n b else s)

/-- The oldest received byte leaves its FIFO. -/
def State.uartPop (s : State) (n : Nat) : State := s.setUart n { s.uart n with rx := (s.uart n).rx.tail }

/-- UART n has sent what was queued. -/
def State.uartIdle (s : State) (n : Nat) : State := (s.setUart n { s.uart n with tx := [], part := 0 }).uartPost n

/-- UART_TX_IDLE (R403): the transmitter is on, its clock runs, and bytes were queued. -/
def execUartTxIdle (n : Nat) (t : Nat) (s : State) : Host.Outcome State Fault Refusal :=
  let s := s.at_ t
  doneW (if n < 2 && s.periphOn && s.uartSending n && s.uartClock n then (s.uartIdle n).rebootStep else s)

/-! ### SPI controllers (R402, R403) -/

/-- A write of `SPIC_CMD`: a transfer in progress, or a disabled controller, ignores it. -/
def State.spicStart (s : State) (n : Nat) (v : Word) : State :=
  if s.flag (Reg.SPIC_CTL_EN n) && !(s.spic n).busy && s.periphGo then s.setSpic n { s.spic n with busy := true, cmd := v } else s

/-- SPIC_TRANSFER_START (R402). -/
def execSpicTransferStart (n : Nat) (data : Word) (s : State) : Host.Outcome State Fault Refusal :=
  doneW (if n < 2 && s.periphOn then s.spicStart n data else s)

/-- Bytes come in through a pin: zeros without VIO (R418), free ones where FUNC 1 does not connect it (R412). -/
def State.pinBytes (s : State) (j : Nat) (bs : List Byte) : List Byte :=
  if s.padFunc j = 1 then (if s.pins.vio then bs else List.replicate bs.length 0) else (List.range bs.length).map fun i => Config.lostByte s.free i

/-- Bytes have moved each way, at most as many as LEN still asks for; what the receive FIFO cannot hold is lost and sets the overrun bit.
The last ends the transfer, and the controller posts. -/
def State.spicMove (s : State) (n : Nat) (rx : List Byte) : State :=
  let x := s.spic n
  let len := bitsOf x.cmd 0 16
  let got := (s.pinBytes (22 + 4 * n) rx).take len
  let q := x.rx ++ got
  let left := len - got.length
  let s := s.setSpic n { x with busy := left != 0, cmd := BitVec.ofNat 32 left, tx := x.tx.drop got.length, rx := q.take fifoDepth }
  let s := if fifoDepth < q.length then s.setReg (Reg.SPIC_STATUS n) (s.reg (Reg.SPIC_STATUS n) ||| 0x10) else s
  if left = 0 then (s.postBoth (202 + n) (s.peek (Reg.SPIC_STATUS n)) 0).fresh else s.fresh

/-- SPIC_TRANSFER_END (R402, R403). -/
def execSpicTransferEnd (n : Nat) (rx : List Byte) (t : Nat) (s : State) : Host.Outcome State Fault Refusal :=
  let s := s.at_ t
  doneW (if n < 2 && s.periphOn && (s.spic n).busy then s.spicMove n rx else s)

/-! ### I2C units (R402, R403) -/

/-- A write of `I2C_CMD`: a transfer in progress ignores it. -/
def State.i2cStart (s : State) (n : Nat) (v : Word) : State :=
  if (s.i2c n).busy || !s.periphGo then s else s.setI2c n { s.i2c n with busy := true, cmd := v }

/-- I2C_TRANSFER_START (R402). -/
def execI2cTransferStart (n : Nat) (data : Word) (s : State) : Host.Outcome State Fault Refusal :=
  doneW (if n < 2 && s.periphOn then s.i2cStart n data else s)

/-- Bytes have moved, in a read those received, in a write those of the transmit FIFO, at most as many as LEN still asks for. The last, a NACK
or a lost arbitration ends the transfer, and the unit posts; the bus stays held unless STOP was asked for or arbitration lost. -/
def State.i2cMove (s : State) (n : Nat) (rx : List Byte) (nack lost : Bool) : State :=
  let x := s.i2c n
  let len := bitsOf x.cmd 16 8
  let got := (s.pinBytes (29 + 2 * n) rx).take len
  let left := len - got.length
  let over_ := left = 0 || nack || lost
  let y := { x with
    busy := !over_
    own := over_ && !bitOf x.cmd 15 && !lost
    cmd := fset x.cmd ⟨0, 16, 8⟩ left }
  let y := if bitOf x.cmd 14 then { y with rx := (x.rx ++ got).take fifoDepth } else { y with tx := x.tx.drop got.length }
  let s := (s.setI2c n y).setReg (Reg.I2C_STATUS n) (s.reg (Reg.I2C_STATUS n) ||| flagAt nack 4 ||| flagAt lost 3)
  if over_ then (s.postBoth (204 + n) (s.peek (Reg.I2C_STATUS n)) 0).fresh else s.fresh

/-- I2C_TRANSFER_END (R402, R403). -/
def execI2cTransferEnd (n : Nat) (rx : List Byte) (nack lost : Bool) (t : Nat) (s : State) : Host.Outcome State Fault Refusal :=
  let s := s.at_ t
  doneW (if n < 2 && s.periphOn && (s.i2c n).busy then s.i2cMove n rx nack lost else s)

/-! ### The sensor ADC (R406) -/

/-- A write of 1 to `SADC_CMD.START`. -/
def State.sadcStart (s : State) : State := if s.flag Reg.SADC_CTL_EN && s.periphGo then (s.sadcRequest none).2 else s

/-- SADC_START (R406). -/
def execSadcStart (s : State) : Host.Outcome State Fault Refusal := doneW (if s.periphOn then s.sadcStart else s)

/-- Where a result lands: `SADC_RESULT`, or the context whose ARM SADC asked last (R163). -/
def State.sadcLand (s : State) (r : SadcReq) (val : BitVec 12) : State :=
  match r.ctx with
  | none => s.setReg Reg.SADC_RESULT (0x80000000 ||| BitVec.setWidth 32 val)
  | some c =>
    let x := s.ctx 16 c
    if x.act = .sadc && (s.eng 16).run && s.sadc.queue.all (fun q => q.ctx != some c) then
      s.setCtx 16 c ({ x with act := .none, sadc := val.toNat }.latch 31)
    else s

/-- A conversion ends: its result, event output 14, a record with a free payload (the SADC has no STATUS register), the next request. -/
def State.sadcEnd (s : State) (r : SadcReq) (val : BitVec 12) : State :=
  let s := { s with sadc := { s.sadc with cur := none } }
  let s := (s.sadcLand r val).output 14 (match r.hop with | some h => h + 1 | none => 0)
  (s.postBoth 206 (Config.freeWord s.free) 0).fresh.sadcServe

/-- SADC_CONVERSION_DONE (R406). -/
def execSadcConversionDone (val : BitVec 12) (t : Nat) (s : State) : Host.Outcome State Fault Refusal :=
  let s := s.at_ t
  doneW (match s.sadc.cur with
    | some r => s.sadcEnd r val
    | none => s)

/-! ### Temperature and supplies (R407) -/

/-- The monitor conditions of a temperature in °C and a VIN in mV, as bits of `SADC_MONSTAT`; VIN 0 stands for no sample yet. -/
def State.monBits (s : State) (temp : Int) (vin : Nat) : Word :=
  let c := s.reg Reg.SADC_MONCFG
  flagAt (toSigned 8 (bitsOf c 24 8) < temp) 2 ||| flagAt (temp < toSigned 8 (bitsOf c 16 8)) 1 |||
  flagAt (vin != 0 && vin < bitsOf c 0 16) 0

/-- A sample: conditions that were not met at the sample before are crossings. -/
def State.monitor (s : State) (temp : Int) (vbkp vin : Nat) : State :=
  let old := s.monBits (toSigned 16 (bitsOf (s.reg Reg.SADC_TEMP) 0 16)) (bitsOf (s.reg Reg.SADC_VMON) 0 16)
  let new := s.monBits temp vin
  let s := { s with die := temp }
  let s := (s.setReg Reg.SADC_TEMP (BitVec.ofNat 32 (ofSigned 16 temp))).setReg Reg.SADC_VMON (numAt (vbkp % 65536) 16 ||| numAt (vin % 65536) 0)
  if new &&& ~~~old = 0 then s
  else
    let s := s.setReg Reg.SADC_MONSTAT (s.reg Reg.SADC_MONSTAT ||| (new &&& ~~~old))
    s.postBoth 152 (s.reg Reg.SADC_MONSTAT) 0

/-- MONITOR_UPDATE (R407). -/
def execMonitorUpdate (temp : Int) (vbkp vin : Nat) (t : Nat) (s : State) : Host.Outcome State Fault Refusal :=
  let s := s.at_ t
  doneW (if s.periphOn then s.monitor temp vbkp vin else s)

/-! ### Timers (R408) -/

/-- TMR_START (R408). -/
def execTmrStart (n : Nat) (s : State) : Host.Outcome State Fault Refusal :=
  doneW (if n < 8 && s.periphGo then s.tmrStartAt n else s)

/-- TMR_STOP (R408). -/
def execTmrStop (n : Nat) (s : State) : Host.Outcome State Fault Refusal :=
  doneW (if n < 8 && s.periphOn then s.tmrStopAt n else s)

/-- Timer n expires at time d: with PERIOD it runs on, otherwise it stops; its event, and with IRQ its record (R403: the unit has no
STATUS register, so the payload is free). -/
def State.tmrExpire (s : State) (n d : Nat) : State :=
  let hop := (s.tmr n).hop
  let s := s.setTmr n (if bitOf (s.reg (Reg.TMR_CTL n)) 1 then ⟨some (d + s.tmrTicks n), hop, none, none⟩ else ⟨none, none, none, none⟩)
  let s := s.output (6 + n) (match hop with | some h => h + 1 | none => 0)
  if bitOf (s.reg (Reg.TMR_CTL n)) 0 then (s.postBoth (208 + n) (Config.freeWord s.free) 0).fresh else s

/-- TMR_EXPIRY (R408). -/
def execTmrExpiry (n : Nat) (t : Nat) (s : State) : Host.Outcome State Fault Refusal :=
  let s := s.at_ t
  doneW (match (s.tmr n).due with
    | some d => if n < 8 && d ≤ s.now then s.tmrExpire n d else s
    | none => s)

end Sys2Proof.Machine
end

