-- ==== Sys2Proof/Machine/Cpu.lean ====
section
/-! DEFINITION. Meanings of the commands of the cores and of debug, as far as spec/ describes them: caches (R16, R18), CSRs (R20, R23),
halt and resume (R24, R25). -/

namespace Sys2Proof.Machine

/-! ### Caches -/

/-- FENCE_I (R18): what the instruction cache held is forgotten. -/
def execFenceI (c : CoreId) (s : State) : Host.Outcome State Fault Refusal :=
  done (s.setCore c { s.core c with icache := [] })

/-- A write of `ncache` (Table 1-5). -/
def Core.ncacheWrite (x : Core) (v : BitVec 4) : Core :=
  { x with
    icen := v.getLsbD 0
    dcen := v.getLsbD 1
    icache := if v.getLsbD 2 then [] else x.icache
    dcache := if v.getLsbD 3 then [] else x.dcache }

/-- DCINV (R16, Table 1-5). -/
def execDcinv (c : CoreId) (data : BitVec 4) (s : State) : Host.Outcome State Fault Refusal :=
  done (s.setCore c ((s.core c).ncacheWrite data))

/-- ICINV (R18, Table 1-5). -/
def execIcinv (c : CoreId) (data : BitVec 4) (s : State) : Host.Outcome State Fault Refusal :=
  done (s.setCore c ((s.core c).ncacheWrite data))

/-! ### CSRs -/

/-- The numbers that the RISC-V privileged specification sets aside for custom CSRs (PRESUMED: the manual does not list them). -/
def customCsr (n : Nat) : Bool :=
  (0x800 ≤ n && n < 0x900) || (0x500 ≤ n && n / 64 % 4 = 3)

/-- The custom CSRs of Table 1-4. -/
def listedCsr (n : Nat) : Bool := n = 0x7C0 || n = 0xFC0 || n = 0xFC1

/-- A hart enters the handler of an exception in machine mode, as the RISC-V privileged specification lays down (R15). -/
def Hart.enterTrap (h : Hart) (cause : Nat) (tval : Word) : Hart :=
  { h with
    mepc := h.pc
    mcause := BitVec.ofNat 32 cause
    mtval := tval
    mstatus := (h.mstatus &&& 0xFFFFE777) ||| (if bitOf h.mstatus 3 then 0x80 else 0) ||| (if h.user then 0 else 0x1800)
    user := false
    pc := h.mtvec &&& 0xFFFFFFFC }

/-- A running core takes an exception (R15): what its program has made of its private registers before that no command carries, so that
the pc, the vector and the status that the entry goes by are free (log entry 74). -/
def State.trap (s : State) (c : CoreId) (cause : Nat) (tval : Word) : State :=
  let x := s.core c
  if x.active then
    ({ s with free := s.free + 64 } : State).setCore c { x with hart := (x.hart.observed s.free).enterTrap cause tval }
  else s

/-- An illegal-instruction exception: `mtval` is free, since the RISC-V specification leaves its value open. -/
def State.illegal (s : State) (c : CoreId) : State :=
  (s.fresh.setCore c { s.core c with resp := .illegal }).trap c 2 (Config.freeWord s.free)

/-- ILLEGAL_CSR (R23): an illegal-instruction exception. -/
def execIllegalCsr (c : CoreId) (num : BitVec 12) (s : State) : Host.Outcome State Fault Refusal :=
  done (if customCsr num.toNat && !listedCsr num.toNat then s.illegal c else s)

/-- A read of `time` (R20): its high word and its fraction are latched. -/
def State.timeRead (s : State) (c : CoreId) : State :=
  s.setCore c { s.core c with
    resp := .data (BitVec.ofNat 32 s.us)
    timeh := s.us / 2 ^ 32 % 2 ^ 32
    ntimef := s.net % 40 }

/-- TIME_CSR_READ (R20). -/
def execTimeCsrRead (c : CoreId) (t : Nat) (s : State) : Host.Outcome State Fault Refusal := doneW ((s.at_ t).timeRead c)

/-- The four PMP configuration bytes of `pmpcfg` n as a word. -/
def Hart.pmpcfgWord (h : Hart) (n : Nat) : Word := BitVec.ofNat 32 (leNat ((h.pmpcfg.drop (4 * n)).take 4))

/-- The address trigger that `tselect` names. -/
def Hart.trigSel (h : Hart) : Word × Word := h.trig.getD h.tsel (0x20000000, 0)

/-- The CSRs that a hart reads (R15, R20 to R23; numbers and layout of the RISC-V specifications, PRESUMED); none for a number that does
not exist. `mcounteren`, `mcountinhibit` and the event selectors are fixed at 0. -/
def State.csr (s : State) (c : CoreId) (n : Nat) : Option Word :=
  let x := s.core c
  let h := x.hart
  if 0x3A0 ≤ n ∧ n < 0x3A4 then some (h.pmpcfgWord (n - 0x3A0))
  else if 0x3B0 ≤ n ∧ n < 0x3C0 then some (h.pmpaddr.getD (n - 0x3B0) 0)
  else if (0xB03 ≤ n ∧ n < 0xB20) ∨ (0xB83 ≤ n ∧ n < 0xBA0) ∨ (0xC03 ≤ n ∧ n < 0xC20) ∨ (0xC83 ≤ n ∧ n < 0xCA0) ∨
      (0x323 ≤ n ∧ n < 0x340) then some 0
  else match n with
    | 0x300 => some h.mstatus
    | 0x301 => some 0x40101105
    | 0x304 => some h.mie
    | 0x305 => some h.mtvec
    | 0x306 => some 0
    | 0x320 => some 0
    | 0x340 => some h.mscratch
    | 0x341 => some h.mepc
    | 0x342 => some h.mcause
    | 0x343 => some h.mtval
    | 0x344 => some (flagAt (s.meip c) 11)
    | 0x7A0 => some (BitVec.ofNat 32 h.tsel)
    | 0x7A1 => some h.trigSel.1
    | 0x7A2 => some h.trigSel.2
    | 0x7B0 => some h.dcsr
    | 0x7B1 => some h.dpc
    | 0x7C0 => some x.ncache
    | 0xB00 => some (BitVec.ofNat 32 x.mcycle)
    | 0xB80 => some (BitVec.ofNat 32 (x.mcycle / 2 ^ 32))
    | 0xB02 => some (BitVec.ofNat 32 h.minstret)
    | 0xB82 => some (BitVec.ofNat 32 (h.minstret / 2 ^ 32))
    | 0xC00 => some (BitVec.ofNat 32 x.mcycle)
    | 0xC80 => some (BitVec.ofNat 32 (x.mcycle / 2 ^ 32))
    | 0xC01 => some (BitVec.ofNat 32 s.us)
    | 0xC81 => some (BitVec.ofNat 32 x.timeh)
    | 0xC02 => some (BitVec.ofNat 32 h.minstret)
    | 0xC82 => some (BitVec.ofNat 32 (h.minstret / 2 ^ 32))
    | 0xF11 => some 0
    | 0xF12 => some 0
    | 0xF13 => some (BitVec.ofNat 32 (s.get Reg.SYS_ID_REV))
    | 0xF14 => some (BitVec.ofNat 32 (coreNum c))
    | 0xFC0 => some (BitVec.ofNat 32 x.ntimef)
    | 0xFC1 => some (BitVec.ofNat 32 (s.get Reg.CFG_EPOCH_CUR))
    | _ => none

/-- A PMP entry is locked, or is the lower end of a locked top-of-range region. -/
def Hart.pmpLocked (h : Hart) (i : Nat) : Bool :=
  (h.pmpcfg.getD i 0).getLsbD 7 ||
  ((h.pmpcfg.getD (i + 1) 0).getLsbD 7 && (h.pmpcfg.getD (i + 1) 0).toNat / 8 % 4 = 1)

/-- A write of `pmpcfg` n: a locked entry stays, and the reserved bits read 0. -/
def Hart.pmpcfgPut (h : Hart) (n : Nat) (v : Word) : Hart :=
  { h with pmpcfg := (List.range 16).map fun i =>
      let old := h.pmpcfg.getD i 0
      if i / 4 = n && !old.getLsbD 7 then BitVec.ofNat 8 (bitsOf v (8 * (i % 4)) 8) &&& 0x9F else old }

/-- A write of the trigger selected: address match before the access, action 0 or 1 (type 2, R24). -/
def Hart.trigPut (h : Hart) (first : Bool) (v : Word) : Hart :=
  let p := h.trigSel
  { h with trig := h.trig.set h.tsel (if first then (0x20000000 ||| (v &&& 0x0810104F), p.2) else (p.1, v)) }

/-- What a write of a CSR leaves of a hart; none for a number that is read-only or does not exist. `ncache` is not among them. -/
def Hart.csrPut (h : Hart) (n : Nat) (v : Word) : Option Hart :=
  if 0x3A0 ≤ n ∧ n < 0x3A4 then some (h.pmpcfgPut (n - 0x3A0) v)
  else if 0x3B0 ≤ n ∧ n < 0x3C0 then
    some (if h.pmpLocked (n - 0x3B0) then h else { h with pmpaddr := h.pmpaddr.set (n - 0x3B0) v })
  else if (0xB03 ≤ n ∧ n < 0xB20) ∨ (0xB83 ≤ n ∧ n < 0xBA0) ∨ (0x323 ≤ n ∧ n < 0x340) then some h
  else match n with
    | 0x300 =>
      let mpp := bitsOf v 11 2
      let m : Word := if mpp = 0 || mpp = 3 then 0x00221888 else 0x00220088
      some { h with mstatus := mergeBits h.mstatus m v }
    | 0x301 => some h
    | 0x304 => some { h with mie := v &&& 0x888 }
    | 0x305 => some { h with mtvec := v &&& 0xFFFFFFFD }
    | 0x306 => some h
    | 0x320 => some h
    | 0x340 => some { h with mscratch := v }
    | 0x341 => some { h with mepc := v &&& 0xFFFFFFFE }
    | 0x342 => some { h with mcause := v }
    | 0x343 => some { h with mtval := v }
    | 0x344 => some h
    | 0x7A0 => some (if v.toNat < 4 then { h with tsel := v.toNat } else h)
    | 0x7A1 => some (h.trigPut true v)
    | 0x7A2 => some (h.trigPut false v)
    | 0x7B0 =>
      let prv := bitsOf v 0 2
      let m : Word := if prv = 0 || prv = 3 then 0x00009007 else 0x00009004
      some { h with dcsr := mergeBits h.dcsr m v }
    | 0x7B1 => some { h with dpc := v &&& 0xFFFFFFFE }
    | 0xB02 => some { h with minstret := h.minstret / 2 ^ 32 * 2 ^ 32 + v.toNat }
    | 0xB82 => some { h with minstret := h.minstret % 2 ^ 32 + v.toNat * 2 ^ 32 }
    | _ => none

/-- A write of a CSR of a core (R15, R21, R23, Table 1-5). -/
def State.csrWrite (s : State) (c : CoreId) (n : Nat) (v : Word) : Option State :=
  let x := s.core c
  match n with
  | 0x7C0 => some (s.setCore c (x.ncacheWrite (BitVec.ofNat 4 v.toNat)))
  | 0xB00 => some (s.setCore c { x with mcycle := x.mcycle / 2 ^ 32 * 2 ^ 32 + v.toNat })
  | 0xB80 => some (s.setCore c { x with mcycle := x.mcycle % 2 ^ 32 + v.toNat * 2 ^ 32 })
  | _ => (x.hart.csrPut n v).map fun h => s.setCore c { x with hart := h }

/-- A read of a CSR: that of `time` latches the rest (R20). -/
def State.csrRead (s : State) (c : CoreId) (n : Nat) : Option (Word × State) :=
  (s.csr c n).map fun w => (w, if n = 0xC01 then s.timeRead c else s)

/-! ### Physical memory protection and address triggers (R15, R24) -/

/-- The range of bytes that PMP entry i matches. -/
def Hart.pmpRange (h : Hart) (i : Nat) : Option (Nat × Nat) :=
  let a := (h.pmpaddr.getD i 0).toNat
  match (h.pmpcfg.getD i 0).toNat / 8 % 4 with
  | 1 =>
    let lo := if i = 0 then 0 else (h.pmpaddr.getD (i - 1) 0).toNat
    if lo < a then some (4 * lo, 4 * (a - lo)) else none
  | 2 => some (4 * a, 4)
  | 3 =>
    let k := (a ^^^ (a + 1)) + 1
    some (4 * (a / k * k), 4 * k)
  | _ => none

/-- PMP lets an access of `n` bytes at `a` through: the lowest entry that matches a byte decides, and must match all of them. -/
def Hart.pmpOk (h : Hart) (k : AccKind) (a n : Nat) : Bool :=
  let mprv := bitOf h.mstatus 17 && k != .fetch
  let user := if mprv then bitsOf h.mstatus 11 2 = 0 else h.user
  match (List.range 16).find? (fun i => (h.pmpRange i).any fun r => overlaps r.1 r.2 a n) with
  | none => !user
  | some i =>
    (h.pmpRange i).any (fun r => r.1 ≤ a && a + n ≤ r.1 + r.2) &&
    ((!user && !(h.pmpcfg.getD i 0).getLsbD 7) ||
      (h.pmpcfg.getD i 0).getLsbD (match k with | .load => 0 | .store => 1 | .fetch => 2))

/-- A hart in debug mode accesses memory with the rights of machine mode, whatever `mstatus.MPRV` holds (`dcsr.mprven` is 0). -/
def Hart.inDebug (h : Hart) : Hart := { h with user := false, mstatus := h.mstatus &&& 0xFFFDFFFF }

/-- The first address trigger that matches an access (type 2: its kind, its address, the privilege). -/
def Hart.trigHit (h : Hart) (k : AccKind) (a : Nat) : Option Nat :=
  (List.range 4).find? fun i =>
    let t := h.trig.getD i (0x20000000, 0)
    t.2.toNat = a && bitOf t.1 (match k with | .load => 0 | .store => 1 | .fetch => 2) && bitOf t.1 (if h.user then 3 else 6)

/-- Address trigger i of a hart. -/
def Hart.trigAt (h : Hart) (i : Nat) : Word × Word := h.trig.getD i (0x20000000, 0)

/-- An address trigger has fired: its `hit` bit. -/
def State.trigMark (s : State) (c : CoreId) (i : Nat) : State :=
  let x := s.core c
  let t := x.hart.trigAt i
  s.setCore c { x with hart := { x.hart with trig := x.hart.trig.set i (t.1 ||| 0x00100000, t.2) } }

/-- A trigger whose `tdata1` this is halts the hart; any other raises a breakpoint exception. -/
def trigHalts (w : Word) : Bool := bitOf w 12 && bitOf w 27

/-! ### Debug -/

/-- A hart enters debug mode with a cause: `dpc` takes the pc, `dcsr` the cause and the privilege. -/
def Hart.enterDebug (h : Hart) (cause : Nat) : Hart :=
  { h with dpc := h.pc, dcsr := (h.dcsr &&& 0xFFFFFE3C) ||| numAt cause 6 ||| (if h.user then 0 else 3) }

/-- A hart leaves debug mode for `dpc`, in the privilege of `dcsr`. -/
def Hart.leaveDebug (h : Hart) : Hart := { h with pc := h.dpc, user := bitsOf h.dcsr 0 2 = 0 }

/-- A core stops in debug mode: what its program has made of its private registers is free. -/
def State.coreHalt (s : State) (c : CoreId) (cause : Nat) : State :=
  let x := s.core c
  ({ s with free := s.free + 64 } : State).setCore c { x with halted := true, hart := (x.hart.observed s.free).enterDebug cause }

/-- A debug halt request: a quiescent core wakes (R25), which ends an entry into sleep; a core held in reset cannot halt. -/
def State.debugHalt (s : State) (c : CoreId) : State :=
  if (s.core c).run = .held || (s.core c).halted then s
  else ((s.hsDebug.resumeCore c).coreHalt c 3)

/-- The debug module serves requests: it is active, and not off with the core cluster (DESIGN CHOICE, log entry 97). -/
def State.dmOn (s : State) : Bool := s.dbg.dmactive && s.awake

/-- DEBUG_HALT_REQUEST (R25): the debug module is active. -/
def execDebugHaltRequest (c : CoreId) (s : State) : Host.Outcome State Fault Refusal :=
  doneW (if s.dmOn then s.debugHalt c else s)

/-- A write of `dmcontrol.dmactive` (R25): while it is 0 the module holds its reset state; while it is 1 no entry into sleep goes on. -/
def State.dmactive (s : State) (on : Bool) : State :=
  if !s.awake then s
  else if on then { s with dbg := { s.dbg with dmactive := true } }.hsDebug
  else { s with dbg := { Debug.reset with resp := s.dbg.resp } }

/-- DMCONTROL_DMACTIVE (R25). -/
def execDmcontrolDmactive (on : Bool) (s : State) : Host.Outcome State Fault Refusal := doneW (s.dmactive on)

end Sys2Proof.Machine
end

