-- ==== Sys2Proof/Machine/Bus.lean ====
section
/-! DEFINITION. The bus (R31 to R36): what a load, store or fetch of a core, of debug or of the mailbox does in each region, register
reads with their effects (R9), register writes with the commands that they carry (R10, R45). -/

namespace Sys2Proof.Machine

/-! ### Registers: reads -/

/-- The RC fields of a register clear when it is read (R9). -/
def State.rcClear (s : State) (a : Nat) : State :=
  match regRow? a with
  | some r => if r.rc = 0 then s else s.setReg a (s.reg a &&& ~~~r.rc)
  | none => s

/-- A read of a register whose fields the registers hold: its value goes to the agent, RC fields clear. -/
def State.readOut (s : State) (a : Agent) (addr : Nat) : State := (s.respond a (.data (s.peek addr))).rcClear addr

/-- The high word of a 48-bit time in µs. -/
def usHi (t : Nat) : Nat := t / 40 / 2 ^ 32 % 65536

/-- A read of `TBASE_NOW_LO` latches the rest (R200). -/
def State.nowLatch (s : State) : State :=
  (s.setReg Reg.TBASE_NOW_HI (BitVec.ofNat 32 (s.us / 2 ^ 32))).setReg Reg.TBASE_NOW_F (numAt (s.net % 40) 0)

/-- A read of `LINK_EVC_LO` latches the rest of the counter (R203). -/
def State.evcLatch (s : State) : State := s.setReg Reg.LINK_EVC_HI (numAt (s.link.evc / 2 ^ 32 % 256) 0)

/-- A read of `LINK_SSTART_LO` latches the rest of the slot start. -/
def State.sstartLatch (s : State) : State := s.setReg Reg.LINK_SSTART_HI (numAt (usHi s.link.slotT) 0 ||| numAt (s.link.slotT % 40) 16)

/-- A read of `RTC_SEC_LO` latches the high word and the fraction (R358). -/
def State.secLatch (s : State) : State :=
  (s.setReg Reg.RTC_SEC_HI (numAt (s.rtc.sec / 2 ^ 32 % 65536) 0)).setReg Reg.RTC_FRAC (numAt s.rtcFrac 0)

/-- A read of `RTC_NOWDATE` latches the calendar form of the count (R362). -/
def State.nowdateLatch (s : State) : State := (s.setReg Reg.RTC_NOWDATE s.nowCal.1).setReg Reg.RTC_NOWTIME s.nowCal.2

/-- The oldest received byte of a serial unit leaves its FIFO. -/
def Serial.pop (x : Serial) : Serial := { x with rx := x.rx.tail }

/-- What a read of the register at `a` does beside returning `peek` (R9): the next random word is free here, an operand of its own row. -/
def State.readEffect (s : State) (a : Nat) : State :=
  if a = Reg.TBASE_NOW_LO then s.nowLatch
  else if a = Reg.LINK_EVC_LO then s.evcLatch
  else if a = Reg.LINK_SSTART_LO then s.sstartLatch
  else if a = Reg.RTC_SEC_LO then s.secLatch
  else if a = Reg.RTC_NOWDATE then s.nowdateLatch
  else if a = Reg.ICOL_TAKE 0 then (s.icolTakeRead .c0).2
  else if a = Reg.ICOL_TAKE 1 then (s.icolTakeRead .c1).2
  else if a = Reg.PWR_HOVTIME then { s with pwr := { s.pwr with hovTicks := 0 } }
  else if a = Reg.UART_DATA 0 then s.uartPop 0
  else if a = Reg.UART_DATA 1 then s.uartPop 1
  else if a = Reg.SPIC_DATA 0 then { s with spic0 := s.spic0.pop }
  else if a = Reg.SPIC_DATA 1 then { s with spic1 := s.spic1.pop }
  else if a = Reg.I2C_DATA 0 then { s with i2c0 := s.i2c0.pop }
  else if a = Reg.I2C_DATA 1 then { s with i2c1 := s.i2c1.pop }
  else if a = Reg.TRNG_DATA then (s.trngTake (some (Config.freeWord s.free))).2.fresh
  else s.rcClear a

/-! ### Registers: writes -/

/-- Key and OP of a command register whose key is its upper half. -/
def keyOf (v : Word) : BitVec 16 := BitVec.ofNat 16 (bitsOf v 16 16)

/-- A write of `CFG_CMD` (Table 2-5). -/
def State.cfgCmd (s : State) (op : Nat) : State :=
  match op with
  | 1 => s.switchDue false none
  | 2 => s.schedAt
  | 3 => s.schedCancel
  | _ => s

/-- A write of `RFE_CMD` (R68). -/
def State.rfeCmd (s : State) (op : Nat) : State :=
  match op with
  | 1 => s.bgStart (.all 0)
  | 2 => s.bgStart .stale
  | 3 => s.bgStop
  | _ => s

/-- A write of `LINK_CMD` (R204). -/
def State.linkCmd (s : State) (op : Nat) : State :=
  match op with
  | 1 => s.evcSet
  | 2 => s.evcCancel
  | _ => s

/-- A write of `REEL_LDCMD` (R188, R192). -/
def State.ldCmd (s : State) (v : Word) : State :=
  match bitsOf v 0 2 with
  | 1 => s.ldrLoad v
  | 2 => s.ldrAbort
  | _ => s

/-- A write of `CIPH_KCMD` (R253). -/
def State.keyCmd (s : State) (op : Nat) : State :=
  match op with
  | 1 => s.keyCommit
  | 2 => s.keyErase
  | 3 => s.keyEraseAll
  | _ => s

/-- A write of `CIPH_CTL`: ALMCLR acts at once, EN by its class. -/
def State.ciphCtl (s : State) (v : Word) : State :=
  let s := if bitOf v 1 then s.almClear else s
  s.writeReg Reg.CIPH_CTL v

/-- A write of `CIPH_ALMEN`: LOCK fixes the other bits until the next cold start (R258). -/
def State.almenWrite (s : State) (v : Word) : State := if s.flag Reg.CIPH_ALMEN_LOCK then s else s.writeReg Reg.CIPH_ALMEN v

/-- A write of `CIPH_QCTL` of queue q: FLUSH acts at once (R251), QERR clears. -/
def State.qctlWrite (s : State) (q : Nat) (v : Word) : State :=
  let s := s.writeReg (Reg.CIPH_QCTL q) v
  if bitOf v 0 then s.cipFlush q else s

/-- A write of `FLC_CMD` (R289), under the `mtvec` that each core holds (R298). -/
def State.flcWrite (s : State) (v : Word) : State :=
  let op := bitsOf v 0 4
  if keyOf v = 0xB10C && 1 ≤ op && op ≤ 5 then
    s.flcCmd op [s.core0.hart.mtvec, s.core1.hart.mtvec]
  else s

/-- A write of `PWR_WAKEAT_LO` or `PWR_WAKEAT_HI`: the time is absolute from the moment it is written (R339). -/
def State.wakeatWrite (s : State) (a : Nat) (v : Word) : State :=
  let s := s.writeReg a v
  { s with pwr := { s.pwr with wakeatT := s.us } }

/-- A write of `SYS_PADCTL` (R414). -/
def State.padctl (s : State) (v : Word) : State := if bitOf v 0 then s.padRelease else s

/-- A write of `GPIO_OUTCLR` word w (R404). -/
def State.gpioClr (s : State) (w : Nat) (v : Word) : State := s.setReg (Reg.GPIO_OUTSET w) (s.reg (Reg.GPIO_OUTSET w) &&& ~~~v)

/-- A write of `TMR_CMD` of timer n (R408). -/
def State.tmrCmd (s : State) (n op : Nat) : State :=
  match op with
  | 1 => if s.periphGo then s.tmrStartAt n else s
  | 2 => s.tmrStopAt n
  | _ => s

/-- A write of `WDT_CTL` of watchdog n: LOCK holds EN and TO until the next start (R409). -/
def State.wdtCtl (s : State) (n : Nat) (v : Word) : State :=
  if s.flag (Reg.WDT_CTL_LOCK n) then s else s.writeReg (Reg.WDT_CTL n) v

/-- A byte queued in a serial unit. -/
def Serial.put (x : Serial) (b : Byte) : Serial := { x with tx := fifoPut x.tx b }

/-- Frame that `HOSTIF_TXBUF` holds: header and payload (R400); octets beyond the buffer are free. -/
def State.txFrame (s : State) : List Byte :=
  let n := 4 + bitsOf (s.reg (Reg.HOSTIF_TXBUF 0)) 16 16
  s.bufOctets (Reg.HOSTIF_TXBUF 0) (min n 1024) ++ (List.range (n - 1024)).map fun i => Config.lostByte s.free i

/-- TXGO (R400): the frame of the transmit buffer becomes pending, unless one is. -/
def State.txGo (s : State) : State := if s.host.txRdy then s else (s.txPend s.txFrame).fresh

/-- RXDONE (R400): the receive buffer is released; a frame that hardware serves is none of firmware's. -/
def State.rxDone (s : State) : State := if s.host.rxHw then s else s.rxFree

/-- The pending frame is pending no more. -/
def State.txDrop (s : State) : State := { s with host := { s.host with txRdy := false, txOctets := [] } }

/-- TXCANCEL (R400): a GET that is clocking the frame out reads 0xFF from here on. -/
def State.txCancel (s : State) : State :=
  let g := match s.host.get with
    | .sending _ => GetSt.ones
    | g => g
  { s.txDrop with host := { s.txDrop.host with get := g } }

/-- A write of `HOSTIF_CMD` (Table 17-4). -/
def State.hostCmd (s : State) (op : Nat) : State :=
  match op with
  | 1 => s.rxDone
  | 2 => s.txGo
  | 3 => s.txCancel
  | _ => s

/-- A write of `HOSTIF_TXBUF`: ignored while a frame is pending, which sets TXBUSY (R400). -/
def State.txbufWrite (s : State) (a : Nat) (v : Word) : State := if s.host.txRdy then s.hostErr 4 else s.setReg a v

/-- Writes to the system units whose effect is not that of their fields' class alone: none for an address without one. -/
def State.sysWrite (s : State) (a : Nat) (v : Word) : Option State :=
  if a = Reg.SYS_SWRST then some (s.swrst (keyOf v) (bitsOf v 0 2))
  else if a = Reg.SYS_C1CTL then some (s.c1ctl v)
  else if a = Reg.SYS_BOOTGOOD then some (s.bootGood (keyOf v))
  else if a = Reg.SYS_UPDCMD then some (s.updCmd v (bitsOf v 0 2))
  else if a = Reg.SYS_SAFECTL then some (s.safeExit (keyOf v))
  else if a = Reg.SYS_PADCTL then some (s.padctl v)
  else if a = Reg.PWR_CMD then some (s.pwrCmd (keyOf v) (bitsOf v 0 2) (bitsOf v 4 4))
  else if a = Reg.PWR_WAKEAT_LO || a = Reg.PWR_WAKEAT_HI then some (s.wakeatWrite a v)
  else if a = Reg.CFG_CMD then some (s.cfgCmd (bitsOf v 0 2))
  else if a = Reg.CFG_WIGN then some (s.wignClear v)
  else if a = Reg.CFG_LAGLIM then some (s.writeReg a v).stuckCheck
  else if a = Reg.RTC_CMD then some (s.rtcCmd (keyOf v) (bitsOf v 0 3))
  else if a = Reg.TBASE_CTL then some (s.tbCtl v)
  else if a = Reg.EVL_PUBSW then some (s.pubsw v)
  else (idxIn a (Reg.EVL_LINECFG 0) 4 96).map fun l => s.linecfg l v

/-- Writes to the collectors, FLC, MEMC, CIPH with effects of their own. -/
def State.coreUnitWrite (s : State) (a : Nat) (v : Word) : Option State :=
  if a = Reg.ICOL_EOI 0 then some (s.icolEoiWrite .c0)
  else if a = Reg.ICOL_EOI 1 then some (s.icolEoiWrite .c1)
  else if a = Reg.ICOL_SWPOST 0 then some (s.swpost .c0 v)
  else if a = Reg.ICOL_SWPOST 1 then some (s.swpost .c1 v)
  else if a = Reg.FLC_CMD then some (s.flcWrite v)
  else if a = Reg.MEMC_TCMD then some (s.tcmdWrite v)
  else if a = Reg.CIPH_CTL then some (s.ciphCtl v)
  else if a = Reg.CIPH_ALMEN then some (s.almenWrite v)
  else if a = Reg.CIPH_KSEL then some (s.kselWrite v)
  else if a = Reg.CIPH_KCMD then some (s.keyCmd (bitsOf v 0 2))
  else if a = Reg.CIPH_QPUT 0 then some (s.cipSubmit 0 (bitsOf v 0 16))
  else if a = Reg.CIPH_QPUT 1 then some (s.cipSubmit 1 (bitsOf v 0 16))
  else if a = Reg.CIPH_QCTL 0 then some (s.qctlWrite 0 v)
  else if a = Reg.CIPH_QCTL 1 then some (s.qctlWrite 1 v)
  else (idxIn a (Reg.CIPH_KDATA 0) 4 8).map fun j => s.kdataWrite j v

/-- Writes to the radio units with effects of their own. -/
def State.radioWrite (s : State) (a : Nat) (v : Word) : Option State :=
  if a = Reg.RFE_CMD then some (s.rfeCmd (bitsOf v 0 2))
  else if a = Reg.ENV_GHOLD_SET then some (s.holdGroups (bitsOf v 0 16))
  else if a = Reg.ENV_GHOLD_CLR then some (s.releaseGroups (bitsOf v 0 16))
  else if a = Reg.REEL_E16CTL then some (s.e16Write (bitOf v 0))
  else if a = Reg.REEL_CRST then some (s.crst v)
  else if a = Reg.REEL_LDCMD then some (s.ldCmd v)
  else if a = Reg.REEL_TXQBASE then some (s.txqBase v)
  else if a = Reg.LINK_CMD then some (s.linkCmd (bitsOf v 0 2))
  else if a = Reg.LINK_ADJ then some (s.adjWrite v)
  else if a = Reg.LINK_RTAKE 0 then some (s.rtake 0 (bitsOf v 0 16))
  else if a = Reg.LINK_RTAKE 1 then some (s.rtake 1 (bitsOf v 0 16))
  else none

/-- Writes to the peripherals with effects of their own. -/
def State.periphWrite (s : State) (a : Nat) (v : Word) : Option State :=
  let b := BitVec.ofNat 8 (bitsOf v 0 8)
  if a = Reg.GPIO_OUTSET 1 then some (s.setReg a (s.reg a ||| (v &&& 0xFF)))
  else if a = Reg.GPIO_OUTCLR 0 then some (s.gpioClr 0 v)
  else if a = Reg.GPIO_OUTCLR 1 then some (s.gpioClr 1 v)
  else if a = Reg.SPIC_CMD 0 then some (s.spicStart 0 v)
  else if a = Reg.SPIC_CMD 1 then some (s.spicStart 1 v)
  else if a = Reg.SPIC_DATA 0 then some { s with spic0 := s.spic0.put b }
  else if a = Reg.SPIC_DATA 1 then some { s with spic1 := s.spic1.put b }
  else if a = Reg.UART_DATA 0 then some (s.uartPut 0 b)
  else if a = Reg.UART_DATA 1 then some (s.uartPut 1 b)
  else if a = Reg.I2C_CMD 0 then some (s.i2cStart 0 v)
  else if a = Reg.I2C_CMD 1 then some (s.i2cStart 1 v)
  else if a = Reg.I2C_DATA 0 then some { s with i2c0 := s.i2c0.put b }
  else if a = Reg.I2C_DATA 1 then some { s with i2c1 := s.i2c1.put b }
  else if a = Reg.SADC_CMD then some (if bitOf v 0 then s.sadcStart else s)
  else if a = Reg.WDT_CTL 0 then some (s.wdtCtl 0 v)
  else if a = Reg.WDT_CTL 1 then some (s.wdtCtl 1 v)
  else if a = Reg.WDT_KICK 0 then some (s.wdtKick 0 (keyOf v))
  else if a = Reg.WDT_KICK 1 then some (s.wdtKick 1 (keyOf v))
  else if a = Reg.HOSTIF_CMD then some (s.hostCmd (bitsOf v 0 3))
  else match idxIn a (Reg.TMR_CMD 0) 16 8, idxIn a (Reg.HOSTIF_TXBUF 0) 4 256 with
    | some n, _ => some (s.tmrCmd n (bitsOf v 0 2))
    | none, some _ => some (s.txbufWrite a v)
    | none, none => none

/-- A write of the register at `a` (R45 to R47, R6): a command register does what its write commands; any other register takes its
fields by class. -/
def State.regWrite (s : State) (a : Nat) (v : Word) : State :=
  if 0x4F010000 ≤ a then s.windowWrite .c1 (a - 0x4F010000) v
  else if 0x4F000000 ≤ a then s.windowWrite .c0 (a - 0x4F000000) v
  else
    (if a < 0x40006000 then s.sysWrite a v
     else if a < 0x4000B000 then s.coreUnitWrite a v
     else if a < 0x40010000 then s.radioWrite a v
     else s.periphWrite a v).getD (s.writeReg a v)

/-! ### Answers -/

/-- How an access that is not served ends for its agent (R32). -/
def failOf (a : Agent) (k : AccKind) : Response :=
  match a with
  | .debug => .error
  | .host => .error
  | _ => match k with
    | .load => .loadFault
    | .store => .storeFault
    | .fetch => .fetchFault

/-- Bytes of an access. -/
def widthBytes : Width → Nat
  | .w8 => 1
  | .w16 => 2
  | .w32 => 4

/-- The access is an instruction fetch. -/
def isFetch : AccKind → Bool
  | .fetch => true
  | _ => false

/-- The core of an agent. -/
def agentCore : Agent → Option CoreId
  | .core0 => some .c0
  | .core1 => some .c1
  | _ => none

/-- The exception code of an access fault (R32; numbers of the RISC-V privileged specification). -/
def faultCause : AccKind → Nat
  | .fetch => 1
  | .load => 5
  | .store => 7

/-- An access at `a` is not served (R32): an error response, or an access fault that the core takes. -/
def State.refuse (s : State) (ag : Agent) (k : AccKind) (a : Nat) : State :=
  let s := s.respond ag (failOf ag k)
  match agentCore ag with
  | some c => s.trap c (faultCause k) (BitVec.ofNat 32 a)
  | none => s

/-- The value of bytes, as the agent receives it. -/
def dataOf (bs : List Byte) : Response := .data (BitVec.ofNat 32 (leNat bs))

/-- What the agent makes at all: the debug module's system bus access is of 32 bits (R24), and only a core fetches. -/
def agentMakes (ag : Agent) (k : AccKind) (w : Width) : Bool :=
  match ag with
  | .debug => w = .w32 && k != .fetch
  | .host => k != .fetch
  | _ => true

/-- The region, width, alignment and kind go together (Table 1-6, R32, R33): a fetch comes in aligned 16-bit parcels. -/
def accessOk (k : AccKind) (w : Width) (a : Nat) : Bool :=
  let r := region a
  let n := (widthBytes w)
  let mem := r = .rom || r = .flash || r = .window || r = .sram
  match k with
  | .fetch => mem && w != .w8 && a % 2 = 0 && region (a + n - 1) = r
  | .load => r != .hole && a % n = 0 && (mem || r = .radio || r = .ballast || w = .w32)
  | .store => (r = .sram || r = .radio || r = .ballast || ((r = .step || r = .periph || r = .window0 || r = .window1) && w = .w32)) && a % n = 0

/-! ### Caches (R16 to R18) -/

/-- The bytes that a core's cache holds of a range, if it is on, holds all of them and has not replaced them. -/
def Core.hit (x : Core) (fetch keeps : Bool) (a n : Nat) : Option (List Byte) :=
  let c := if fetch then x.icache else x.dcache
  if keeps && (if fetch then x.icen else x.dcen) then
    (List.range n).mapM fun i => (c.find? fun p => p.1 = a + i).map Prod.snd
  else none

/-- A cache takes bytes that its core has read. -/
def Core.fill (x : Core) (fetch : Bool) (a : Nat) (bs : List Byte) : Core :=
  let new := (List.range bs.length).map fun i => (a + i, bs.getD i 0)
  let upd := fun (c : List (Nat × Byte)) => c.filter (fun p => !(a ≤ p.1 && p.1 < a + bs.length)) ++ new
  if fetch then (if x.icen then { x with icache := upd x.icache } else x)
  else if x.dcen then { x with dcache := upd x.dcache } else x

/-- What the agent's own cache holds of a range (R16). -/
def State.cached (s : State) (ag : Agent) (k : AccKind) (a n : Nat) : Option (List Byte) :=
  (agentCore ag).bind fun c => (s.core c).hit (isFetch k) (Config.cacheHolds s.free) a n

/-- An access is served with bytes, which the agent's cache takes. -/
def State.serve (s : State) (ag : Agent) (k : AccKind) (a : Nat) (bs : List Byte) : State :=
  let s := match agentCore ag with
    | some c => s.setCore c ((s.core c).fill (isFetch k) a bs)
    | none => s
  s.respond ag (dataOf bs)

/-- A store of a core goes through its own data cache, which keeps the bytes it holds, and invalidates the other's (R16, R17). -/
def Core.through (x : Core) (a : Nat) (bs : List Byte) : Core :=
  { x with dcache := x.dcache.map fun p => if a ≤ p.1 && p.1 < a + bs.length then (p.1, bs.getD (p.1 - a) 0) else p }

def State.storeCaches (s : State) (ag : Agent) (a : Nat) (bs : List Byte) : State :=
  let f := fun (c : CoreId) (x : Core) => if agentCore ag = some c then x.through a bs else x.snoop a bs.length
  { s with core0 := f .c0 s.core0, core1 := f .c1 s.core1 }

/-! ### SRAM and radio memory -/

/-- A load or fetch from SRAM or radio memory (R267). -/
def State.ramRead (s : State) (ag : Agent) (k : AccKind) (a n : Nat) : State :=
  if s.rangeRefused a n then s.refuse ag k a
  else
    let s := s.wakeRange a n
    if region a = .sram then s.serve ag k a (s.bytes a n) else s.respond ag (dataOf (s.bytes a n))

/-- A store to SRAM or radio memory: parse records are the device's own (R224); a core's store to RXNEXT is carried through (R236). -/
def State.ramStore (s : State) (ag : Agent) (a : Nat) (bs : List Byte) : State :=
  if s.rangeRefused a bs.length then s.refuse ag .store a
  else if parseArea a then s.respond ag .done
  else
    let s := (((s.wakeRange a bs.length).setBytes a bs).storeCaches ag a bs).muddy a bs.length
    let s := match agentCore ag, rxnextOf a with
      | some _, some n => s.carryThru n
      | _, _ => s
    s.respond ag .done

/-! ### Ballast store (R34, R276, R281) -/

/-- The areas that firmware writes, and the reserved ranges (Table 11-7). -/
def ballastFree (a : Nat) : Bool := a < 0x22078000 || (0x2207F000 ≤ a && a < 0x2207F400)

def ballastReserved (a : Nat) : Bool :=
  (0x2207D00C ≤ a && a < 0x2207D100) || (0x2207D200 ≤ a && a < 0x2207E000) || 0x2207F400 ≤ a

/-- The word that an access reads, as ECC finds it: a word known to be bad stays so. -/
def State.ballastEcc (s : State) (a : Nat) (e : Ecc) : Ecc := if s.nvBad (a / 4 * 4) then .uncorrectable else e

/-- A single-bit error is corrected and written back (R276). -/
def State.ballastCe (s : State) : State := (s.count Reg.MEMC_BCNT_CE).put Reg.MEMC_STATUS_BCE 1

/-- A load from the Ballast store. -/
def State.ballastRead (s : State) (ag : Agent) (a n : Nat) (e : Ecc) : State :=
  if ballastReserved a then s.respond ag (.data 0)
  else match s.ballastEcc a e with
    | .uncorrectable => (s.ballastUe (a / 4 * 4)).refuse ag .load a
    | .corrected => s.ballastCe.respond ag (dataOf (s.bytes a n))
    | _ => s.respond ag (dataOf (s.bytes a n))

/-- A store to the Ballast store: a narrow one reads the word first (R34). -/
def State.ballastStore (s : State) (ag : Agent) (a : Nat) (bs : List Byte) (e : Ecc) : State :=
  if !ballastFree a then s.refuse ag .store a
  else if bs.length = 4 then (s.nvPut a (BitVec.ofNat 32 (leNat bs))).respond ag .done
  else match s.ballastEcc a e with
    | .uncorrectable => (s.ballastUe (a / 4 * 4)).refuse ag .store a
    | .corrected => (s.ballastCe.setBytes a bs).respond ag .done
    | _ => (s.setBytes a bs).respond ag .done

/-! ### Flash (R284 to R288, R295 to R297) -/

/-- An array read of `n` bytes reads the codeword that holds the first one, and where it crosses into the next one that too (R284): no
operand carries what ECC finds in the second. The answer says whether both could be read. -/
def State.flashLoad (s : State) (x n : Nat) (e : Ecc) : State × Bool :=
  let s := s.flashEcc x e
  if codeword x = codeword (x + n - 1) || e = .uncorrectable then (s, e != .uncorrectable)
  else
    let e' := s.anyEcc
    (({ s with free := s.free + 2 } : State).flashEcc (x + n - 1) e', e' != .uncorrectable)

/-- An array read at flash address `x` is served, for an access at `a` (its own or the boot window's). -/
def State.flashServe (s : State) (ag : Agent) (k : AccKind) (a x n : Nat) (e : Ecc) : State :=
  if s.erasing = some (blockOf x) || s.erasing = some (blockOf (x + n - 1)) then
    (if isFetch k then s.refuse ag k a
     else (s.put Reg.FLC_STATUS_READ_ERASING 1).respond ag (dataOf (List.replicate n 0xFF)))
  else
    let (t, good) := s.flashLoad x n e
    if good then t.serve ag k a (t.bytes x n) else t.refuse ag k a

/-- The access waits for the flash controller. -/
def State.flashHold (s : State) (ag : Agent) (k : AccKind) (w : Width) (a : Word) (e : Ecc) : State :=
  ({ s with flc := { s.flc with held := s.flc.held ++ [⟨ag, k, w, a, e⟩] } } : State).respond ag .held

/-- An access that reaches the array (R295, R296): it waits behind a program of its plane, it asks for the suspend of an erase. -/
def State.flashRead (s : State) (ag : Agent) (k : AccKind) (w : Width) (addr : Word) (e : Ecc) : State :=
  let a := addr.toNat
  let x := s.unalias a
  match s.flc.op with
  | none => s.flashServe ag k a x (widthBytes w) e
  | some o =>
    if planeOf o.addr != planeOf x && planeOf o.addr != planeOf (x + widthBytes w - 1) then s.flashServe ag k a x (widthBytes w) e
    else if o.op = 1 then s.flashHold ag k w addr e
    else if o.op = 2 then
      let t := { s with flc := { s.flc with op := some { o with lastAcc := s.now, suspReq := !o.suspended } } }
      if o.suspended then t.flashServe ag k a x (widthBytes w) e else t.flashHold ag k w addr e
    else s.flashServe ag k a x (widthBytes w) e

/-! ### Step memory (R35) -/

/-- Engine of a step memory address. -/
def stepEng (a : Nat) : Nat := (a - 0x30000000) / 0x2000

/-- A store to step memory: only while the engine is stopped, and not under the loader's hands. -/
def State.stepStore (s : State) (ag : Agent) (a : Nat) (v : Word) : State :=
  let e := stepEng a
  let s := if (s.eng e).run || s.loading e then s.put ⟨Reg.REEL_WIGN, e, 1⟩ 1 else s.setWord a v
  s.respond ag .done

/-! ### Accesses -/

/-- A load or fetch that Table 1-6 allows; one that a cache serves reaches nothing else. -/
def State.readAt (s : State) (ag : Agent) (k : AccKind) (w : Width) (addr : Word) (e : Ecc) : State :=
  let a := addr.toNat
  match region a with
  | .rom =>
    (match s.cached ag k a (widthBytes w) with
     | some bs => s.fresh.respond ag (dataOf bs)
     | none => s.fresh.serve ag k a (s.bytes a (widthBytes w)))
  | .sram =>
    (match s.cached ag k a (widthBytes w) with
     | some bs => s.fresh.respond ag (dataOf bs)
     | none => s.fresh.ramRead ag k a (widthBytes w))
  | .radio => s.ramRead ag k a (widthBytes w)
  | .ballast => s.ballastRead ag a (widthBytes w) e
  | .step => s.respond ag (dataOf (s.bytes a 4))
  | .hole => s.refuse ag k a
  | .flash =>
    (match s.cached ag k a (widthBytes w) with
     | some bs => s.fresh.respond ag (dataOf bs)
     | none => s.fresh.flashRead ag k w addr e)
  | .window =>
    (match s.cached ag k a (widthBytes w) with
     | some bs => s.fresh.respond ag (dataOf bs)
     | none => s.fresh.flashRead ag k w addr e)
  | .periph => (s.respond ag (.data (s.peek a))).readEffect a
  | .window0 => s.respond ag (.data (s.peek a))
  | .window1 => s.respond ag (.data (s.peek a))

/-- A store that Table 1-6 allows. -/
def State.storeAt (s : State) (ag : Agent) (w : Width) (addr data : Word) (e : Ecc) : State :=
  let a := addr.toNat
  let bs := leBytes (widthBytes w) data.toNat
  match region a with
  | .sram => s.ramStore ag a bs
  | .radio => s.ramStore ag a bs
  | .ballast => s.ballastStore ag a bs e
  | .step => s.stepStore ag a data
  | .periph => (s.regWrite a data).respond ag .done
  | .window0 => (s.regWrite a data).respond ag .done
  | .window1 => (s.regWrite a data).respond ag .done
  | _ => s.refuse ag .store a

/-- An address trigger of a core stops its access before it is made (R24): it halts the core, or raises a breakpoint exception. -/
def State.trigStop (s : State) (ag : Agent) (c : CoreId) (i a : Nat) : State :=
  let t := (s.core c).hart.trigAt i
  let s := s.trigMark c i
  if trigHalts t.1 then (s.coreHalt c 2).respond ag .none
  else (s.respond ag .breakpoint).trap c 3 (BitVec.ofNat 32 a)

/-- The address trigger of the agent's core that an access meets, if any (R24). -/
def State.agentTrig (s : State) (ag : Agent) (k : AccKind) (a : Nat) : Option (CoreId × Nat) :=
  (agentCore ag).bind fun c => if (s.core c).halted then none else ((s.core c).hart.trigHit k a).map fun i => (c, i)

/-- The PMP regions of the agent's core let the access through (R15): in debug mode it accesses memory as in machine mode. -/
def State.agentPmp (s : State) (ag : Agent) (k : AccKind) (a n : Nat) : Bool :=
  match agentCore ag with
  | some c => (if (s.core c).halted then (s.core c).hart.inDebug else (s.core c).hart).pmpOk k a n
  | none => true

/-- A load, store or fetch (R31 to R36). -/
def State.access (s : State) (ag : Agent) (k : AccKind) (w : Width) (addr data : Word) (e : Ecc) : State :=
  match s.agentTrig ag k addr.toNat with
  | some (c, i) => s.trigStop ag c i addr.toNat
  | none =>
  if !agentMakes ag k w || !accessOk k w addr.toNat || !s.agentPmp ag k addr.toNat (widthBytes w) then s.refuse ag k addr.toNat
  else match k with
    | .store => s.storeAt ag w addr data e
    | _ => s.readAt ag k w addr e

/-- MEMORY_ACCESS (R32). -/
def execMemoryAccess (a : Agent) (k : AccKind) (w : Width) (addr data : Word) (ecc : Ecc) (t : Nat) (s : State) :
    Host.Outcome State Fault Refusal :=
  doneW ((s.at_ t).access a k w addr data ecc)

/-- STEP_MEMORY_STORE (R35). -/
def execStepMemoryStore (a : Agent) (addr data : Word) (s : State) : Host.Outcome State Fault Refusal :=
  doneW (if region addr.toNat = .step then s.access a .store .w32 addr data .clean else s)

/-- REGISTER_WRITE (R45). -/
def execRegisterWrite (a : Agent) (addr data : Word) (s : State) : Host.Outcome State Fault Refusal :=
  doneW (if 0x40000000 ≤ addr.toNat then s.access a .store .w32 addr data .clean else s)

/-! ### Accesses that waited (R295, R296) -/

/-- The accesses that waited for the flash controller are served in the order in which they came. -/
def State.flashRelease (s : State) : State :=
  let hs := s.flc.held
  hs.foldl (fun s h => s.flashRead h.agent h.kind h.width h.addr h.ecc) { s with flc := { s.flc with held := [] } }

/-! ### Reads with a row of their own -/

/-- COEX_CNT_READ (R85). -/
def execCoexCntRead (a : Agent) (s : State) : Host.Outcome State Fault Refusal := doneW (s.readOut a Reg.COEX_CNT)

/-- ENV_LERR_READ (R100). -/
def execEnvLerrRead (a : Agent) (k : Nat) (s : State) : Host.Outcome State Fault Refusal := doneW (s.readOut a (Reg.ENV_LERR k))

/-- TBASE_NOW_READ (R200). -/
def execTbaseNowRead (a : Agent) (s : State) : Host.Outcome State Fault Refusal :=
  doneW (s.readOut a Reg.TBASE_NOW_LO).nowLatch

/-- LINK_EVC_READ (R203). -/
def execLinkEvcRead (a : Agent) (s : State) : Host.Outcome State Fault Refusal := doneW (s.readOut a Reg.LINK_EVC_LO).evcLatch

/-- LINK_SSTART_READ. -/
def execLinkSstartRead (a : Agent) (s : State) : Host.Outcome State Fault Refusal := doneW (s.readOut a Reg.LINK_SSTART_LO).sstartLatch

/-- LINK_DWSTAT_READ (R222). -/
def execLinkDwstatRead (a : Agent) (s : State) : Host.Outcome State Fault Refusal := doneW (s.readOut a Reg.LINK_DWSTAT)

/-- LINK_RPUT_READ. -/
def execLinkRputRead (a : Agent) (r : CoreId) (s : State) : Host.Outcome State Fault Refusal :=
  doneW (s.readOut a (Reg.LINK_RPUT (coreNum r)))

/-- MEMC_BCNT_READ (R276). -/
def execMemcBcntRead (a : Agent) (s : State) : Host.Outcome State Fault Refusal := doneW (s.readOut a Reg.MEMC_BCNT)

/-- FLC_ECNT_READ (R285). -/
def execFlcEcntRead (a : Agent) (s : State) : Host.Outcome State Fault Refusal := doneW (s.readOut a Reg.FLC_ECNT)

/-- FLC_RRSTAT_READ (R286). -/
def execFlcRrstatRead (a : Agent) (s : State) : Host.Outcome State Fault Refusal := doneW (s.readOut a Reg.FLC_RRSTAT)

/-- EVL_LOOP_READ (R315). -/
def execEvlLoopRead (a : Agent) (s : State) : Host.Outcome State Fault Refusal := doneW (s.readOut a Reg.EVL_LOOP)

/-- EVL_COAL_READ (R314). -/
def execEvlCoalRead (a : Agent) (l : Nat) (s : State) : Host.Outcome State Fault Refusal := doneW (s.readOut a (Reg.EVL_COAL l))

/-- ICOL_TAKE (R326). -/
def execIcolTake (a : Agent) (c : CoreId) (s : State) : Host.Outcome State Fault Refusal :=
  let (w, s) := s.icolTakeRead c
  doneW (s.respond a (.data w))

/-- ICOL_OVFCNT_READ (R320). -/
def execIcolOvfcntRead (a : Agent) (c : CoreId) (s : State) : Host.Outcome State Fault Refusal :=
  doneW (s.readOut a (Reg.ICOL_OVFCNT (coreNum c)))

/-- PWR_HOVSTAT_READ (R355). -/
def execPwrHovstatRead (a : Agent) (s : State) : Host.Outcome State Fault Refusal := doneW (s.readOut a Reg.PWR_HOVSTAT)

/-- PWR_HOVTIME_READ (R355). -/
def execPwrHovtimeRead (a : Agent) (s : State) : Host.Outcome State Fault Refusal :=
  let t := s.readOut a Reg.PWR_HOVTIME
  doneW { t with pwr := { t.pwr with hovTicks := 0 } }

/-- RTC_SEC_READ (R358). -/
def execRtcSecRead (a : Agent) (t : Nat) (s : State) : Host.Outcome State Fault Refusal :=
  doneW ((s.at_ t).readOut a Reg.RTC_SEC_LO).secLatch

/-- RTC_NOWDATE_READ (R362). -/
def execRtcNowdateRead (a : Agent) (s : State) : Host.Outcome State Fault Refusal := doneW (s.readOut a Reg.RTC_NOWDATE).nowdateLatch

/-- UART_DATA_READ (R402). -/
def execUartDataRead (a : Agent) (n : Nat) (s : State) : Host.Outcome State Fault Refusal :=
  doneW ((s.respond a (.data (s.peek (Reg.UART_DATA n)))).uartPop n)

/-- SADC_RESULT_READ (R406). -/
def execSadcResultRead (a : Agent) (s : State) : Host.Outcome State Fault Refusal := doneW (s.readOut a Reg.SADC_RESULT)

end Sys2Proof.Machine
end

