-- ==== Sys2Proof/Machine/Insn.lean ====
section
/-! DEFINITION. The instructions of R15 as a halted hart executes them: those of the program buffer and that of a single step (R24). What a
running core's program executes no command carries but for its accesses. Encodings, exception codes and the rules of debug mode are those
of the RISC-V specifications that R15 and R24 name (PRESUMED, log entry 79). -/

namespace Sys2Proof.Machine

/-! ### Registers and arithmetic -/

/-- A general register of a hart; x0 reads 0. -/
def Hart.gpr (h : Hart) (i : Nat) : Word := if i = 0 then 0 else h.x.getD (i - 1) 0

def Hart.gprPut (h : Hart) (i : Nat) (w : Word) : Hart := if i = 0 then h else { h with x := h.x.set (i - 1) w }

def State.gprPut (s : State) (c : CoreId) (i : Nat) (w : Word) : State :=
  let x := s.core c
  s.setCore c { x with hart := x.hart.gprPut i w }

/-- A number read as `n` bits of two's complement, as a word. -/
def sext (n v : Nat) : Word := BitVec.ofInt 32 (toSigned n v)

/-- The agent that a core's loads and stores come from. -/
def coreAgent : CoreId → Agent
  | .c0 => .core0
  | .c1 => .core1

/-- The arithmetic of OP and OP-IMM by funct3; `alt` is bit 30 of the instruction. -/
def aluOp (f3 : Nat) (alt : Bool) (a b : Word) : Word :=
  match f3 with
  | 0 => if alt then a - b else a + b
  | 1 => a <<< (b.toNat % 32)
  | 2 => if a.toInt < b.toInt then 1 else 0
  | 3 => if a.toNat < b.toNat then 1 else 0
  | 4 => a ^^^ b
  | 5 => if alt then a.sshiftRight (b.toNat % 32) else a >>> (b.toNat % 32)
  | 6 => a ||| b
  | _ => a &&& b

/-- The M extension by funct3: a quotient by 0 is all ones and its remainder the dividend; the most negative number divided by −1 is
itself, with remainder 0. -/
def mulOp (f3 : Nat) (a b : Word) : Word :=
  match f3 with
  | 0 => a * b
  | 1 => BitVec.ofInt 32 (a.toInt * b.toInt / 2 ^ 32)
  | 2 => BitVec.ofInt 32 (a.toInt * b.toNat / 2 ^ 32)
  | 3 => BitVec.ofNat 32 (a.toNat * b.toNat / 2 ^ 32)
  | 4 => if b = 0 then 0xFFFFFFFF else BitVec.ofInt 32 (a.toInt.tdiv b.toInt)
  | 5 => if b = 0 then 0xFFFFFFFF else BitVec.ofNat 32 (a.toNat / b.toNat)
  | 6 => if b = 0 then a else BitVec.ofInt 32 (a.toInt.tmod b.toInt)
  | _ => if b = 0 then a else BitVec.ofNat 32 (a.toNat % b.toNat)

/-- The A extension's read-modify-write operations by funct5; none for a code that is no such operation. -/
def amoOp (f5 : Nat) (a b : Word) : Option Word :=
  match f5 with
  | 0 => some (a + b)
  | 1 => some b
  | 4 => some (a ^^^ b)
  | 8 => some (a ||| b)
  | 12 => some (a &&& b)
  | 16 => some (if a.toInt < b.toInt then a else b)
  | 20 => some (if a.toInt < b.toInt then b else a)
  | 24 => some (if a.toNat < b.toNat then a else b)
  | 28 => some (if a.toNat < b.toNat then b else a)
  | _ => none

/-- A branch by funct3 is taken; none for a code that is no branch. -/
def branchTaken (f3 : Nat) (a b : Word) : Option Bool :=
  match f3 with
  | 0 => some (a = b)
  | 1 => some (a != b)
  | 4 => some (a.toInt < b.toInt)
  | 5 => some (b.toInt ≤ a.toInt)
  | 6 => some (a.toNat < b.toNat)
  | 7 => some (b.toNat ≤ a.toNat)
  | _ => none

/-! ### Compressed instructions -/

/-- The immediate of a branch and of a jump, from its bits. -/
def immB (i : Word) : Word :=
  sext 13 (bitsOf i 31 1 * 4096 + bitsOf i 7 1 * 2048 + bitsOf i 25 6 * 32 + bitsOf i 8 4 * 2)

def immJ (i : Word) : Word :=
  sext 21 (bitsOf i 31 1 * 2 ^ 20 + bitsOf i 12 8 * 4096 + bitsOf i 20 1 * 2048 + bitsOf i 21 10 * 2)

/-- Words of the base formats: I, R, S, B, J, U. -/
def encI (imm rs1 f3 rd op : Nat) : Word := BitVec.ofNat 32 (imm % 4096 * 2 ^ 20 + rs1 * 2 ^ 15 + f3 * 2 ^ 12 + rd * 2 ^ 7 + op)

def encR (f7 rs2 rs1 f3 rd op : Nat) : Word := encI (f7 * 32 + rs2) rs1 f3 rd op

def encS (imm rs2 rs1 f3 : Nat) : Word := encI (imm / 32 * 32 + rs2) rs1 f3 (imm % 32) 0x23

def encB (imm rs1 f3 : Nat) : Word :=
  encI (imm / 4096 % 2 * 2048 + imm / 32 % 64 * 32) rs1 f3 (imm / 2 % 16 * 2 + imm / 2048 % 2) 0x63

def encJ (imm rd : Nat) : Word :=
  BitVec.ofNat 32 (imm / 2 ^ 20 % 2 * 2 ^ 31 + imm / 2 % 1024 * 2 ^ 21 + imm / 2048 % 2 * 2 ^ 20 + imm / 4096 % 256 * 2 ^ 12 + rd * 2 ^ 7 + 0x6F)

/-- A signed value of `n` bits as one of 32 bits. -/
def sx (n v : Nat) : Nat := (sext n v).toNat

/-- A number's bits taken apart and put together: from bit `lo`, `w` bits, to bit `to`. -/
def gather (h : Nat) (ps : List (Nat × Nat × Nat)) : Nat := ps.foldl (fun v p => v + h / 2 ^ p.1 % 2 ^ p.2.1 * 2 ^ p.2.2) 0

/-- Quadrant 0 of the C extension. -/
def expand0 (h : Nat) : Word :=
  let rd := 8 + h / 4 % 8
  let rs := 8 + h / 128 % 8
  let off := gather h [(10, 3, 3), (6, 1, 2), (5, 1, 6)]
  match h / 8192 with
  | 0 =>
    let imm := gather h [(11, 2, 4), (7, 4, 6), (6, 1, 2), (5, 1, 3)]
    if imm = 0 then 0 else encI imm 2 0 rd 0x13
  | 2 => encI off rs 2 rd 0x03
  | 6 => encS off rd rs 2
  | _ => 0

/-- Quadrant 1: the arithmetic on x8 to x15. -/
def expandAlu (h : Nat) : Word :=
  let rd := 8 + h / 128 % 8
  let imm := gather h [(2, 5, 0), (12, 1, 5)]
  match h / 1024 % 4 with
  | 0 => if imm < 32 then encR 0 imm rd 5 rd 0x13 else 0
  | 1 => if imm < 32 then encR 0x20 imm rd 5 rd 0x13 else 0
  | 2 => encI (sx 6 imm) rd 7 rd 0x13
  | _ =>
    if 32 ≤ imm then 0
    else
      let rs2 := 8 + h / 4 % 8
      match h / 32 % 4 with
      | 0 => encR 0x20 rs2 rd 0 rd 0x33
      | 1 => encR 0 rs2 rd 4 rd 0x33
      | 2 => encR 0 rs2 rd 6 rd 0x33
      | _ => encR 0 rs2 rd 7 rd 0x33

/-- Quadrant 1 of the C extension. -/
def expand1 (h : Nat) : Word :=
  let rd := h / 128 % 32
  let imm := gather h [(2, 5, 0), (12, 1, 5)]
  let j := sx 12 (gather h [(12, 1, 11), (11, 1, 4), (9, 2, 8), (8, 1, 10), (7, 1, 6), (6, 1, 7), (3, 3, 1), (2, 1, 5)])
  let b := sx 9 (gather h [(12, 1, 8), (10, 2, 3), (5, 2, 6), (3, 2, 1), (2, 1, 5)])
  match h / 8192 with
  | 0 => encI (sx 6 imm) rd 0 rd 0x13
  | 1 => encJ j 1
  | 2 => encI (sx 6 imm) 0 0 rd 0x13
  | 3 =>
    if imm = 0 then 0
    else if rd = 2 then encI (sx 10 (gather h [(12, 1, 9), (6, 1, 4), (5, 1, 6), (3, 2, 7), (2, 1, 5)])) 2 0 2 0x13
    else BitVec.ofNat 32 (sx 6 imm * 4096 + rd * 2 ^ 7 + 0x37)
  | 4 => expandAlu h
  | 5 => encJ j 0
  | 6 => encB b (8 + h / 128 % 8) 0
  | _ => encB b (8 + h / 128 % 8) 1

/-- Quadrant 2 of the C extension. -/
def expand2 (h : Nat) : Word :=
  let rd := h / 128 % 32
  let rs2 := h / 4 % 32
  match h / 8192 with
  | 0 => if h / 4096 % 2 = 0 then encR 0 rs2 rd 1 rd 0x13 else 0
  | 2 => if rd = 0 then 0 else encI (gather h [(12, 1, 5), (4, 3, 2), (2, 2, 6)]) 2 2 rd 0x03
  | 4 =>
    if h / 4096 % 2 = 0 then
      (if rs2 != 0 then encR 0 rs2 0 0 rd 0x33 else if rd = 0 then 0 else encI 0 rd 0 0 0x67)
    else if rs2 != 0 then encR 0 rs2 rd 0 rd 0x33
    else if rd = 0 then 0x00100073
    else encI 0 rd 0 1 0x67
  | 6 => encS (gather h [(9, 4, 2), (7, 2, 6)]) rs2 2 2
  | _ => 0

/-- The instruction that a 16-bit one stands for; 0, which is illegal, where it stands for none. -/
def expand (h : Nat) : Word :=
  match h % 4 with
  | 0 => expand0 h
  | 1 => expand1 h
  | _ => expand2 h

/-! ### One instruction of a halted hart -/

/-- How an instruction ends: retired; waiting for the flash controller to serve its load into a register; in an exception; in debug mode,
with a cause of `dcsr`. -/
inductive InsEnd where
  | retired
  | waits (rd f3 : Nat) (addr : Word)
  | raised (cause : Nat) (tval : Word)
  | debug (cause : Nat)
  deriving DecidableEq, Repr

/-- Its pc moves on and it counts in `minstret` (R21): `dcsr.stopcount` is 0. -/
def Hart.retire (h : Hart) (pc : Word) : Hart := { h with pc := pc, minstret := (h.minstret + 1) % 2 ^ 64 }

def State.hartMap (s : State) (c : CoreId) (f : Hart → Hart) : State := s.setCore c { s.core c with hart := f (s.core c).hart }

/-- The instruction retires with a pc. -/
def State.insDone (s : State) (c : CoreId) (pc : Word) : InsEnd × State := (.retired, s.hartMap c fun h => h.retire pc)

/-- An illegal instruction: what `mtval` holds is free. -/
def State.insBad (s : State) : InsEnd × State := (.raised 2 (Config.freeWord s.free), s.fresh)

/-- An access of the instruction; `buf` in the program buffer, which runs with the rights of machine mode; `trig` where it may meet an address
trigger. -/
def State.insMem (s : State) (c : CoreId) (buf trig : Bool) (k : AccKind) (w : Width) (addr data : Word) : InsEnd × State :=
  let h := (s.core c).hart
  match (if trig then h.trigHit k addr.toNat else none) with
  | some i => (if trigHalts (h.trigAt i).1 then .debug 2 else .raised 3 addr, s.trigMark c i)
  | none =>
    if !buf && !h.pmpOk k addr.toNat (widthBytes w) then (.raised (faultCause k) addr, s)
    else
      let t := ({ s with free := s.free + 2 } : State).access (coreAgent c) k w addr data s.anyEcc
      (match (t.core c).resp with
        | .data _ => .retired
        | .done => .retired
        | .held => .waits 0 0 addr
        | _ => .raised (faultCause k) addr, t)

/-- What the last access of a core returned. -/
def State.got (s : State) (c : CoreId) : Word :=
  match (s.core c).resp with
  | .data v => v
  | _ => 0

/-- A loaded value extended by funct3. -/
def loadExt (f3 : Nat) (v : Word) : Word := if f3 = 0 then sext 8 v.toNat else if f3 = 1 then sext 16 v.toNat else v

/-- The value of a load goes to its register. -/
def State.loadPut (s : State) (c : CoreId) (rd f3 : Nat) (pc : Word) : InsEnd × State := (s.gprPut c rd (loadExt f3 (s.got c))).insDone c pc

/-- A load. -/
def State.insLoad (s : State) (c : CoreId) (buf : Bool) (rd f3 : Nat) (addr pc : Word) : InsEnd × State :=
  let w : Width := if f3 % 4 = 0 then .w8 else if f3 % 4 = 1 then .w16 else .w32
  match s.insMem c buf (!buf) .load w addr 0 with
  | (.retired, t) => t.loadPut c rd f3 pc
  | (.waits _ _ _, t) => (.waits rd f3 addr, t)
  | r => r

/-- A store. -/
def State.insStore (s : State) (c : CoreId) (buf : Bool) (f3 : Nat) (addr data pc : Word) : InsEnd × State :=
  let w : Width := if f3 = 0 then .w8 else if f3 = 1 then .w16 else .w32
  match s.insMem c buf (!buf) .store w addr data with
  | (.retired, t) => t.insDone c pc
  | r => r

/-- An instruction of the A extension. No reservation is held in debug mode, so that SC.W fails there, as the extension lets it (DESIGN
CHOICE, log entry 102). -/
def State.insAmo (s : State) (c : CoreId) (buf : Bool) (i addr data pc : Word) : InsEnd × State :=
  let rd := bitsOf i 7 5
  match bitsOf i 27 5 with
  | 2 => if bitsOf i 20 5 = 0 then s.insLoad c buf rd 2 addr pc else s.insBad
  | 3 => (s.gprPut c rd 1).insDone c pc
  | f5 =>
    if (amoOp f5 0 0).isNone then s.insBad
    else if !accessOk .store .w32 addr.toNat then (.raised 7 addr, s)
    else match s.insMem c buf (!buf) .load .w32 addr 0 with
      | (.retired, t) =>
        let v := t.got c
        (match t.insMem c buf (!buf) .store .w32 addr ((amoOp f5 v data).getD 0) with
          | (.retired, u) => (u.gprPut c rd v).insDone c pc
          | r => r)
      | (.raised 5 a, t) => (.raised 7 a, t)
      | r => r

/-- The hart may reach a CSR: by privilege, user mode reads no counter (`mcounteren` is 0), and debug's own only in debug mode. -/
def Hart.csrOpen (h : Hart) (buf : Bool) (n : Nat) : Bool :=
  buf || (!(0x7B0 ≤ n && n < 0x7C0) && (!h.user || (n / 256 % 4 = 0 && !(0xC00 ≤ n && n < 0xCA0))))

/-- A CSR instruction: the old value goes to `rd`, the new one is written where there is one; a write of `minstret` is not counted on. -/
def State.insCsr (s : State) (c : CoreId) (buf : Bool) (i pc : Word) : InsEnd × State :=
  let h := (s.core c).hart
  let rd := bitsOf i 7 5
  let f3 := bitsOf i 12 3
  let rs := bitsOf i 15 5
  let n := bitsOf i 20 12
  let a := if 4 ≤ f3 then BitVec.ofNat 32 rs else h.gpr rs
  if !h.csrOpen buf n then s.insBad
  else match (if f3 % 4 = 1 && rd = 0 then (s.csr c n).map fun w => (w, s) else s.csrRead c n) with
    | none => s.insBad
    | some (old, t) =>
      let v := if f3 % 4 = 1 then some a else if rs = 0 then none else if f3 % 4 = 2 then some (old ||| a) else some (old &&& ~~~a)
      let u := (t.insDone c pc).2
      match v with
      | none => (.retired, u.gprPut c rd old)
      | some v =>
        match u.csrWrite c n v with
        | none => s.insBad
        | some u => (.retired, u.gprPut c rd old)

/-- MRET (R15): back to what `mstatus` and `mepc` hold. -/
def Hart.mret (h : Hart) : Hart :=
  let mpp := bitsOf h.mstatus 11 2
  { h with
    pc := h.mepc
    user := mpp = 0
    minstret := (h.minstret + 1) % 2 ^ 64
    mstatus := (h.mstatus &&& (if mpp = 3 then 0xFFFFE777 else 0xFFFDE777)) ||| (if bitOf h.mstatus 7 then 8 else 0) ||| 0x80 }

/-- ECALL, EBREAK, MRET and WFI. In debug mode the first and the third, whose effect there the debug specification leaves undefined, are
exceptions (DESIGN CHOICE, log entry 102); WFI acts as a NOP. -/
def State.insSys (s : State) (c : CoreId) (buf : Bool) (i pc : Word) : InsEnd × State :=
  let h := (s.core c).hart
  if i = 0x00000073 then (.raised (if h.user then 8 else 11) 0, s)
  else if i = 0x00100073 then
    (if bitOf h.dcsr (if h.user then 12 else 15) then .debug 1 else .raised 3 0, s)
  else if i = 0x30200073 && !buf && !h.user then (.retired, s.hartMap c Hart.mret)
  else if i = 0x10500073 && (buf || !h.user || !bitOf h.mstatus 21) then s.insDone c pc
  else s.insBad

/-- A shift by an immediate has a code of its own in the upper bits. -/
def immShiftOk (f3 : Nat) (i : Word) : Bool :=
  let f7 := bitsOf i 25 7
  if f3 = 1 then f7 = 0 else if f3 = 5 then f7 = 0 || f7 = 0x20 else true

/-- One instruction of `len` bytes at the hart's pc. In the program buffer those that depend on the pc act as illegal instructions, as the
debug specification lets them (DESIGN CHOICE, log entry 102). -/
def State.insn (s : State) (c : CoreId) (buf : Bool) (len : Nat) (i : Word) : InsEnd × State :=
  let h := (s.core c).hart
  let rd := bitsOf i 7 5
  let f3 := bitsOf i 12 3
  let f7 := bitsOf i 25 7
  let a := h.gpr (bitsOf i 15 5)
  let b := h.gpr (bitsOf i 20 5)
  let immI := sext 12 (bitsOf i 20 12)
  let pc := h.pc + BitVec.ofNat 32 len
  match bitsOf i 0 7 with
  | 0x37 => (s.gprPut c rd (i &&& 0xFFFFF000)).insDone c pc
  | 0x17 => if buf then s.insBad else (s.gprPut c rd (h.pc + (i &&& 0xFFFFF000))).insDone c pc
  | 0x6F => if buf then s.insBad else (s.gprPut c rd pc).insDone c (h.pc + immJ i)
  | 0x67 => if buf || f3 != 0 then s.insBad else (s.gprPut c rd pc).insDone c ((a + immI) &&& 0xFFFFFFFE)
  | 0x63 =>
    (match buf, branchTaken f3 a b with
      | false, some t => s.insDone c (if t then h.pc + immB i else pc)
      | _, _ => s.insBad)
  | 0x03 => if f3 = 3 || 6 ≤ f3 then s.insBad else s.insLoad c buf rd f3 (a + immI) pc
  | 0x23 => if 3 ≤ f3 then s.insBad else s.insStore c buf f3 (a + sext 12 (32 * f7 + rd)) b pc
  | 0x13 => if immShiftOk f3 i then (s.gprPut c rd (aluOp f3 (f3 = 5 && bitOf i 30) a immI)).insDone c pc else s.insBad
  | 0x33 =>
    if f7 = 0 || (f7 = 0x20 && (f3 = 0 || f3 = 5)) then (s.gprPut c rd (aluOp f3 (f7 = 0x20) a b)).insDone c pc
    else if f7 = 1 then (s.gprPut c rd (mulOp f3 a b)).insDone c pc
    else s.insBad
  | 0x2F => if f3 = 2 then s.insAmo c buf i a b pc else s.insBad
  | 0x0F =>
    if f3 = 0 then s.insDone c pc
    else if f3 = 1 then (s.setCore c { s.core c with icache := [] }).insDone c pc
    else s.insBad
  | 0x73 => if f3 = 0 then s.insSys c buf i pc else if f3 = 4 then s.insBad else s.insCsr c buf i pc
  | _ => s.insBad

/-- A 32-bit instruction, or the one that a 16-bit parcel stands for, from parcels: the instruction, its length, what is left. -/
def takeIns (ps : List Nat) : Word × Nat × List Nat :=
  match ps with
  | [] => (0, 2, [])
  | p :: r => if p % 4 = 3 then (BitVec.ofNat 32 (p + 65536 * r.headD 0), 4, r.tail) else (expand p, 2, r)

/-! ### A single step (R24) -/

/-- The hart comes back to debug mode. -/
def State.stepBack (s : State) (c : CoreId) (cause : Nat) : State := s.hartMap c fun h => h.enterDebug cause

/-- The instruction of a single step has ended, or waits. -/
def State.stepEnd (s : State) (c : CoreId) (len : Nat) (e : InsEnd) : State :=
  match e with
  | .retired => s.stepBack c 4
  | .waits rd f3 a => s.setCore c { s.core c with wait := some ⟨true, false, [], rd, f3, len, a⟩ }
  | .raised cause tval => (s.hartMap c fun h => h.enterTrap cause tval).stepBack c 4
  | .debug cause => s.stepBack c cause

/-- The instruction at the hart's pc is fetched, parcel by parcel, and executed. -/
def State.stepGo (s : State) (c : CoreId) : State :=
  let pc := (s.core c).hart.pc
  let held := fun (t : State) => t.setCore c { t.core c with wait := some ⟨true, true, [], 0, 0, 0, pc⟩ }
  let go := fun (t : State) (ps : List Nat) =>
    let (i, len, _) := takeIns ps
    let (e, u) := t.insn c false len i
    u.stepEnd c len e
  match s.insMem c false true .fetch .w16 pc 0 with
  | (.waits _ _ _, t) => held t
  | (.retired, t) =>
    let p := (t.got c).toNat
    if p % 4 != 3 then go t [p]
    else (match t.insMem c false false .fetch .w16 (pc + 2) 0 with
      | (.waits _ _ _, u) => held u
      | (.retired, u) => go u [p, (u.got c).toNat]
      | (e, u) => u.stepEnd c 0 e)
  | (e, t) => t.stepEnd c 0 e

/-! ### The program buffer (R24) -/

/-- An abstract command ends with an error, unless one already stands. -/
def State.cmdErr (s : State) (e : Nat) : State := { s with dbg := { s.dbg with cmderr := if s.dbg.cmderr = 0 then e else s.dbg.cmderr } }

/-- The parcels of the program buffer, with the implicit `ebreak` behind them. -/
def Debug.parcels (d : Debug) : List Nat :=
  d.progbuf.flatMap (fun w => [bitsOf w 0 16, bitsOf w 16 16]) ++ [0x0073, 0x0010]

/-- The program buffer runs on a halted hart until `ebreak`, an exception, or an access that waits. -/
def State.bufRun (s : State) (c : CoreId) : Nat → List Nat → State
  | 0, _ => s
  | n + 1, ps =>
    let (i, len, r) := takeIns ps
    if i = 0x00100073 then s
    else match s.insn c true len i with
      | (.retired, t) => t.bufRun c n r
      | (.waits rd f3 a, t) => t.setCore c { t.core c with wait := some ⟨false, false, r, rd, f3, len, a⟩ }
      | (_, t) => t.cmdErr 3

/-- The flash controller has answered what an instruction of hart c waited for: a single step still without its instruction fetches it
again, a load ends, and the program buffer goes on. -/
def State.insResume (s : State) (c : CoreId) : State :=
  let x := s.core c
  match x.wait with
  | none => s
  | some w =>
    if x.resp = .held then s
    else
      let s := s.setCore c { x with wait := none }
      if w.fetch then s.stepGo c
      else match x.resp with
        | .data _ =>
          let t := (s.loadPut c w.rd w.f3 (x.hart.pc + BitVec.ofNat 32 w.len)).2
          if w.step then t.stepEnd c w.len .retired else t.bufRun c 6 w.rest
        | _ =>
          if w.step then s.stepEnd c w.len (.raised 5 w.addr) else s.cmdErr 3

/-- The accesses that waited for the flash controller are served, and the instructions that waited for them go on. -/
def State.flashGo (s : State) : State := (s.flashRelease.insResume .c0).insResume .c1

/-! ### Ends of flash operations (R293 to R296) -/

/-- PROG_COMPLETE (R293, R295). -/
def execProgComplete (weak good : Bool) (t : Nat) (s : State) : Host.Outcome State Fault Refusal :=
  let s := s.at_ t
  doneW (match s.flc.op with
    | some o => if o.op = 1 then (s.progEnd o weak good).flashGo.dumpStep else s
    | none => s)

/-- ERASE_COMPLETE (R294). -/
def execEraseComplete (good : Bool) (t : Nat) (s : State) : Host.Outcome State Fault Refusal :=
  let s := s.at_ t
  doneW (match s.flc.op with
    | some o => if o.op = 2 && !o.suspended then (s.eraseEnd o good).flashGo.dumpStep else s
    | none => s)

/-- ERASE_SUSPENDED (R296): a suspend was asked for. -/
def execEraseSuspended (t : Nat) (s : State) : Host.Outcome State Fault Refusal :=
  let s := s.at_ t
  doneW (match s.flc.op with
    | some o => if o.op = 2 && o.suspReq && !o.suspended then (s.flcSuspend o).flashGo else s
    | none => s)

end Sys2Proof.Machine
end

