-- ==== Sys2Proof/Machine/Debug.lean ====
section
/-! DEFINITION. The debug module behind the TAP (R24): its registers on `dmi`, abstract access to a halted hart's registers, the program
buffer, 32-bit system bus access. Numbers and layouts are those of version 0.13.2 of the RISC-V debug specification, which R24 names
(PRESUMED, log entry 79). -/

namespace Sys2Proof.Machine

/-! ### Resuming (R24) -/

/-- A single step of a hart is in progress: to the debugger it runs. -/
def Core.stepping (x : Core) : Bool := x.wait.any fun w => w.step

/-- The hart is halted as the debugger sees it. -/
def Core.stopped (x : Core) : Bool := x.halted && !x.stepping

/-- A debug resume request: the hart goes on (R24). With `dcsr.step` it executes one instruction and comes back to debug mode. -/
def State.debugResume (s : State) (c : CoreId) : State :=
  let x := s.core c
  if x.stopped && x.wait.isNone then
    let s := { s with dbg := { s.dbg with resumed := s.dbg.resumed.set (coreNum c) true } }
    if bitOf x.hart.dcsr 2 then (s.hartMap c Hart.leaveDebug).stepGo c
    else (s.setCore c { x with halted := false, hart := x.hart.leaveDebug }).dumpStep
  else s

/-- DEBUG_RESUME_REQUEST (R24): the debug module is active. -/
def execDebugResumeRequest (c : CoreId) (s : State) : Host.Outcome State Fault Refusal :=
  doneW (if s.dmOn then s.debugResume c else s)

/-! ### Abstract commands -/

/-- An abstract command is in progress: its program buffer waits for the flash controller. -/
def State.cmdBusy (s : State) : Bool := [s.core0, s.core1].any fun x => x.wait.any fun w => !w.step

/-- A register of a halted hart as abstract access names it: CSRs from 0, general registers from 0x1000. -/
def State.regRead (s : State) (c : CoreId) (n : Nat) : Option (Word × State) :=
  if n < 0x1000 then s.csrRead c n
  else if n < 0x1020 then some ((s.core c).hart.gpr (n - 0x1000), s)
  else none

def State.regPut (s : State) (c : CoreId) (n : Nat) (v : Word) : Option State :=
  if n < 0x1000 then s.csrWrite c n v
  else if n < 0x1020 then some (s.gprPut c (n - 0x1000) v)
  else none

/-- The transfer of an access register command; none when the register does not exist. -/
def State.cmdTransfer (s : State) (c : CoreId) (v : Word) : Option State :=
  if !bitOf v 17 then some s
  else if bitOf v 16 then s.regPut c (bitsOf v 0 16) s.dbg.data0
  else (s.regRead c (bitsOf v 0 16)).map fun p => { p.2 with dbg := { p.2.dbg with data0 := p.1 } }

/-- A command on a halted hart: the transfer of 32 bits, then the program buffer if asked. -/
def State.cmdRun (s : State) (c : CoreId) (v : Word) : State :=
  if bitOf v 17 && bitsOf v 20 3 != 2 then s.cmdErr 2
  else match s.cmdTransfer c v with
    | none => s.cmdErr 3
    | some t =>
      if bitOf v 18 then t.bufRun c 6 t.dbg.parcels else t

/-- A write of `command`: access register alone is supported (R24), and the hart must be halted; none while another is in progress. -/
def State.dmCommand (s : State) (v : Word) : State :=
  let c : CoreId := if s.dbg.hartsel = 0 then .c0 else .c1
  if s.cmdBusy then s.cmdErr 1
  else if s.dbg.cmderr != 0 then s
  else
  let s := { s with dbg := { s.dbg with command := v } }
  if bitsOf v 24 8 != 0 then s.cmdErr 2
  else if 2 ≤ s.dbg.hartsel || !(s.core c).stopped then s.cmdErr 4
  else s.cmdRun c v

/-- An access of a data or program buffer word runs the last command again where `abstractauto` asks for it. -/
def State.autoExec (s : State) (bit : Nat) : State := if bitOf s.dbg.autoexec bit then s.dmCommand s.dbg.command else s

/-! ### System bus access -/

/-- What the bus answered an access of the debug module. -/
def State.sbResult (s : State) : State :=
  match s.dbg.resp with
  | .data w => { s with dbg := { s.dbg with sbdata := w } }
  | .error => { s with dbg := { s.dbg with sberr := 2 } }
  | _ => s

/-- The address after an access that did not fail, where `sbautoincrement` is set. -/
def State.sbNext (s : State) : State := if bitOf s.dbg.sbctl 16 && s.dbg.sberr = 0 then { s with dbg := { s.dbg with sbaddr := s.dbg.sbaddr + 4 } } else s

/-- A system bus access is in progress: it waits for the flash controller. -/
def State.sbBusy (s : State) : Bool := s.dbg.resp = .held

/-- `sbbusyerror`: the debugger has not waited for the access in progress. -/
def State.sbBusyErr (s : State) : State := { s with dbg := { s.dbg with sbctl := s.dbg.sbctl ||| 0x00400000 } }

/-- A system bus read or write at `sbaddress0`: of 32 bits and aligned, and none while an error stands. -/
def State.sbAccess (s : State) (k : AccKind) : State :=
  if s.dbg.sberr != 0 || bitOf s.dbg.sbctl 22 then s
  else if bitsOf s.dbg.sbctl 17 3 != 2 then { s with dbg := { s.dbg with sberr := 4 } }
  else if s.dbg.sbaddr.toNat % 4 != 0 then { s with dbg := { s.dbg with sberr := 3 } }
  else
    (({ s with free := s.free + 2 } : State).access .debug k .w32 s.dbg.sbaddr s.dbg.sbdata s.anyEcc).sbResult.sbNext

/-! ### The registers of the module -/

/-- `dmstatus`: version 0.13, authenticated, an implicit `ebreak` behind the program buffer (DESIGN CHOICE, log entry 120), and the
selected hart's state. -/
def State.dmstatus (s : State) : Word :=
  let n := s.dbg.hartsel
  let x := s.core (if n = 0 then .c0 else .c1)
  let two := fun (b : Bool) i => flagAt b i ||| flagAt b (i + 1)
  let here := n < 2
  numAt 2 0 ||| flagAt true 7 ||| flagAt true 22 ||| two (here && x.stopped) 8 |||
    two (here && !x.stopped && x.run != .held) 10 ||| two (here && x.run = .held) 12 ||| two (!here) 14 |||
    two (here && s.dbg.resumed.getD n false) 16 ||| two (here && s.dbg.wasReset.getD n false) 18

/-- The value of a module register; a module that is not active shows its reset values. Two data words are the model's (DESIGN CHOICE,
log entry 120). -/
def State.dmPeek (s : State) (a : Nat) : Word :=
  let d := s.dbg
  match a with
  | 0x04 => d.data0
  | 0x05 => d.data1
  | 0x10 => flagAt d.dmactive 0 ||| numAt d.hartsel 16
  | 0x11 => s.dmstatus
  | 0x16 => numAt 2 0 ||| numAt d.cmderr 8 ||| flagAt s.cmdBusy 12 ||| numAt 2 24
  | 0x18 => d.autoexec
  | 0x20 => d.progbuf.getD 0 0
  | 0x21 => d.progbuf.getD 1 0
  | 0x38 => numAt 1 29 ||| flagAt s.sbBusy 21 ||| d.sbctl ||| numAt d.sberr 12 ||| numAt 32 5 ||| flagAt true 2
  | 0x39 => d.sbaddr
  | 0x3C => d.sbdata
  | 0x40 => flagAt s.core0.stopped 0 ||| flagAt s.core1.stopped 1
  | _ => 0

/-- A read on `dmi`, with what it sets off. -/
def State.dmRead (s : State) (a : Nat) : State :=
  let s := s.sbResult
  let t := { s with dbg := { s.dbg with dmiAns := (s.dmPeek a).toNat } }
  if !s.dmOn then t
  else if s.cmdBusy && [0x04, 0x05, 0x20, 0x21].contains a then t.cmdErr 1
  else if s.sbBusy && a = 0x3C then t.sbBusyErr
  else match a with
    | 0x04 => t.autoExec 0
    | 0x05 => t.autoExec 1
    | 0x20 => t.autoExec 16
    | 0x21 => t.autoExec 17
    | 0x3C => if bitOf s.dbg.sbctl 15 then t.sbAccess .load else t
    | _ => t

/-- A write of `dmcontrol` of an active module: the hart selected, then its halt or resume, then `ndmreset` (R25). -/
def State.dmControl (s : State) (v : Word) : State :=
  let s := { s with dbg := { s.dbg with hartsel := bitsOf v 16 10 } }
  let n := s.dbg.hartsel
  let c : CoreId := if n = 0 then .c0 else .c1
  let s := if bitOf v 28 then { s with dbg := { s.dbg with wasReset := s.dbg.wasReset.set n false } } else s
  let s := if 2 ≤ n then s
    else if bitOf v 31 then s.debugHalt c
    else if bitOf v 30 then ({ s with dbg := { s.dbg with resumed := s.dbg.resumed.set n false } } : State).debugResume c
    else s
  if bitOf v 1 then s.startBegin false 0x2000 false else s

/-- A write on `dmi`. -/
def State.dmWrite (s : State) (a : Nat) (v : Word) : State :=
  if a = 0x10 && (!bitOf v 0 || !s.dbg.dmactive) then s.dmactive (bitOf v 0)
  else if !s.dmOn then s
  else if s.cmdBusy && [0x04, 0x05, 0x16, 0x18, 0x20, 0x21].contains a then s.cmdErr 1
  else if s.sbBusy && [0x39, 0x3C].contains a then s.sbBusyErr
  else
    let d := s.dbg
    match a with
    | 0x04 => ({ s with dbg := { d with data0 := v } } : State).autoExec 0
    | 0x05 => ({ s with dbg := { d with data1 := v } } : State).autoExec 1
    | 0x10 => s.dmControl v
    | 0x16 => { s with dbg := { d with cmderr := if bitsOf v 8 3 = 0 then d.cmderr else 0 } }
    | 0x17 => s.dmCommand v
    | 0x18 => { s with dbg := { d with autoexec := v &&& 0x00030003 } }
    | 0x20 => ({ s with dbg := { d with progbuf := d.progbuf.set 0 v } } : State).autoExec 16
    | 0x21 => ({ s with dbg := { d with progbuf := d.progbuf.set 1 v } } : State).autoExec 17
    | 0x38 => { s with dbg := { d with sbctl := (v &&& 0x001F8000) ||| (d.sbctl &&& ~~~v &&& 0x00400000), sberr := if bitsOf v 12 3 = 0 then d.sberr else 0 } }
    | 0x39 =>
      let t := { s with dbg := { d with sbaddr := v } }
      if bitOf d.sbctl 20 then t.sbAccess .load else t
    | 0x3C => ({ s with dbg := { d with sbdata := v } } : State).sbAccess .store
    | _ => s

/-! ### The TAP -/

/-- An update of `dmi` asks the module for a read (op 1) or a write (op 2). -/
def State.dmiUpdate (s : State) : State :=
  let v := bitsNat s.tap.dmi
  let a := v / 2 ^ 34
  let w := BitVec.ofNat 32 (v / 4)
  match v % 4 with
  | 1 => s.dmRead a
  | 2 => s.dmWrite a w
  | _ => s

/-- TCK_CYCLE (R424, R24). -/
def execTckCycle (tms tdi : Bool) (s : State) : Host.Outcome State Fault Refusal :=
  let t := s.tapClock tms tdi
  doneW (if s.pins.vio && t.tap.st = .updateDr && t.tap.ir = 0x11 then t.dmiUpdate else t)

end Sys2Proof.Machine
end

