-- ==== Sys2Proof/Machine/Host.lean ====
section
/-! DEFINITION. Meanings of the commands of the host mailbox (R396 to R400) and of the recovery loader (R401). A transfer begins with
HOST_CS_ASSERT; the command that says what the host sends stands for the rest of it and ends with HOST_CS deasserted. -/

namespace Sys2Proof.Machine

/-! ### SPI target transfers (R396) -/

/-- HOST_CS is asserted: without VIO the target ignores it (R418). A sleeping device is asked to wake, and does not answer. -/
def State.csAssert (s : State) : State :=
  if s.pins.vio then
    { s with
      host := { s.host with cs := true, out := [], asleep := !s.awake, get := .none }
      pwr := { s.pwr with wakeReq := s.pwr.wakeReq ||| 0x400 } }
  else s

/-- READY (Table 17-1). -/
def State.hostReady (s : State) : Bool := s.flag Reg.HOSTIF_CTL_EN && s.periphOn && !s.host.asleep

/-- The STATUS byte (Table 17-1). -/
def State.hostStatus (s : State) : Byte :=
  if s.hostReady then
    BitVec.ofNat 8 (0x80 + 4 * b2n (s.get Reg.HOSTIF_ERR_LINK != 0) + 2 * b2n s.host.txRdy + b2n (!s.host.rxFull))
  else 0

/-- A transfer ends: `out` is what the device returned. -/
def State.csEnd (s : State) (out : List Byte) : State :=
  { s with host := { s.host with cs := false, out := out, asleep := false, get := .none } }

/-- The device drives HOST_MISO: it is high-impedance while HOST_CS is deasserted (R396, R413), and without VIO (R418). -/
def State.misoDriven (s : State) : Bool := s.host.cs && s.pins.vio

/-- The transfer of an OP that R396 does not name, with `n` bytes clocked, the OP's included: STATUS and then zeros, and nothing comes of
it. -/
def State.otherOp (s : State) (n : Nat) : State := s.csEnd ((s.hostStatus :: List.replicate (n - 1) 0).take n)

/-- HOST_CS_ASSERT (R396, Table 14-4): the transfer of a STATUS, PUT or GET goes on with that command; that of any other OP is over. -/
def execHostCsAssert (x : CsOpen) (s : State) : Host.Outcome State Fault Refusal :=
  let s := (s.at_ x.t).csAssert
  doneW (if s.host.cs && x.op != 0x00 && x.op != 0x5A && x.op != 0xA5 then s.otherOp x.n else s)

/-- The host's read of the ERR byte clears it. -/
def State.errClear (s : State) : State := s.put Reg.HOSTIF_ERR_LINK 0

/-- OP STATUS with `n` bytes clocked, the OP's included: STATUS, ERR, then STATUS. -/
def State.statusOp (s : State) (n : Nat) : State :=
  let first := s.hostStatus
  let err := if s.hostReady then BitVec.ofNat 8 (s.get Reg.HOSTIF_ERR_LINK) else 0
  let t := if s.hostReady && 2 ≤ n then s.errClear else s
  t.csEnd (([first, err] ++ List.replicate (n - 2) t.hostStatus).take n)

/-- HOST_STATUS (R396). -/
def execHostStatus (n : Nat) (s : State) : Host.Outcome State Fault Refusal := doneW (if s.host.cs && s.host.get = .none then s.statusOp n else s)

/-! ### PUT and GET (R398, R399) -/

/-- The `HOSTIF_ERR` bit that a PUT of these octets sets, if it fails. -/
def State.putFault (s : State) (o : List Byte) : Option Nat :=
  if s.host.rxFull then some 3
  else if 4 ≤ o.length && 1020 < frameLen o then some 2
  else if o.length < 8 + frameLen o then some 1
  else if (o.drop (4 + frameLen o)).take 4 = frameCrc (o.take (4 + frameLen o)) then none
  else some 0

/-- A frame is taken into the receive buffer; hardware keeps MEMRD and MEMWR for itself with MEMEN (R400). -/
def State.putTake (s : State) (f : List Byte) : State :=
  let hw := s.flag Reg.HOSTIF_CTL_MEMEN && (frameCmd f = 0x70 || frameCmd f = 0x71)
  let s := s.bufPut (Reg.HOSTIF_RXBUF 0) f
  let s := { s with host := { s.host with rxFull := true, rxHw := hw, rxLen := f.length } }
  if hw then s else s.hostPost

/-- OP PUT: the octets that follow it. -/
def State.putOp (s : State) (o : List Byte) : State :=
  let out := s.hostStatus :: List.replicate o.length 0
  let t :=
    if !s.hostReady then s
    else match s.putFault o with
      | some b => s.hostErr b
      | none => s.putTake (o.take (4 + frameLen o))
  t.csEnd out

/-- PUT (R398). -/
def execHostPut (octets : List Byte) (s : State) : Host.Outcome State Fault Refusal :=
  doneW (if s.host.cs && s.host.get = .none then s.putOp octets else s)

/-- The OP byte of a GET: the pending frame is sent, or none is there. -/
def State.getBegin (s : State) : State :=
  { s with host := { s.host with
      out := [s.hostStatus]
      get := if s.hostReady && s.host.txRdy then .sending 0 else .ones } }

/-- `n` more bytes of a GET are clocked: the frame and then zeros. Its last byte clears TXRDY; a frame that is cut short stays pending. -/
def State.getClock (s : State) (n : Nat) : State :=
  match s.host.get with
  | .sending k =>
    let f := s.host.txOctets
    let s := { s with host := { s.host with out := s.host.out ++ (f.drop k ++ List.replicate n 0).take n } }
    if f.length ≤ k + n then
      let s := s.txDrop
      ({ s with host := { s.host with get := .sent } } : State).hostPost.rebootStep
    else { s with host := { s.host with get := .sending (k + n) } }
  | .sent => { s with host := { s.host with out := s.host.out ++ List.replicate n 0 } }
  | _ => { s with host := { s.host with out := s.host.out ++ List.replicate n 0xFF } }

/-- OP GET with `n` bytes clocked after the OP, or in a GET that goes on after what was clocked before; HOST_CS ends it unless more follow. -/
def State.getOp (s : State) (n : Nat) (more : Bool) : State :=
  let t := (if s.host.get = .none then s.getBegin else s).getClock n
  if more then t else t.csEnd t.host.out

/-- GET (R399, R400). -/
def execHostGet (x : GetSpan) (s : State) : Host.Outcome State Fault Refusal :=
  doneW (if s.host.cs then s.getOp x.n x.more else s)

/-! ### Firmware's side (R400) -/

/-- RXDONE (R400). -/
def execRxdone (s : State) : Host.Outcome State Fault Refusal := doneW s.rxDone

/-- TXGO (R400). -/
def execHostTxgo (s : State) : Host.Outcome State Fault Refusal := doneW s.txGo

/-- TXCANCEL (R400). -/
def execTxcancel (s : State) : Host.Outcome State Fault Refusal := doneW s.txCancel

/-! ### MEMRD and MEMWR (R400) -/

/-- How the words of a command ended: OK (0) or FAULT (3), or the flash controller holds one. -/
inductive MemEnd where
  | code (c : Nat)
  | waits
  deriving DecidableEq, Repr

/-- A word access of the mailbox, where ECC finds what it finds; none lies above the address space. -/
def State.hostWord (s : State) (k : AccKind) (a : Nat) (w : Word) : State :=
  if a < 2 ^ 32 then ({ s with free := s.free + 2 } : State).access .host k .w32 (BitVec.ofNat 32 a) w s.anyEcc
  else s.respond .host .error

/-- `n` words are read from an address on, until one faults. -/
def State.memRead (s : State) (a : Nat) : Nat → List Byte → State × List Byte × MemEnd
  | 0, got => (s, got, .code 0)
  | n + 1, got =>
    let t := s.hostWord .load a 0
    match t.host.resp with
    | .data w => t.memRead (a + 4) n (got ++ leBytes 4 w.toNat)
    | .held => (t, got, .waits)
    | _ => (t, got, .code 3)

/-- Words are written from an address on, until one faults. -/
def State.memWrite (s : State) (a : Nat) : List Word → State × MemEnd
  | [] => (s, .code 0)
  | w :: r =>
    let t := s.hostWord .store a w
    match t.host.resp with
    | .done => t.memWrite (a + 4) r
    | _ => (t, .code 3)

/-- A read that the flash controller holds is asked for again later: its request to suspend an erase stays. -/
def State.memWait (s t : State) : State := { s with flc := { s.flc with op := t.flc.op } }

/-- MEMRD of a frame: the state after, and the response's payload unless it waits. -/
def State.memrd (s : State) (f : List Byte) : State × Option (List Byte) :=
  let p := framePay f
  let a := leNat (p.take 4)
  let n := leNat ((p.drop 4).take 2)
  if p.length != 6 || a % 4 != 0 || n % 4 != 0 || 1016 < n then (s, some [2])
  else match s.memRead a (n / 4) [] with
    | (t, bs, .code c) => (t, some (BitVec.ofNat 8 c :: bs))
    | (t, _, .waits) => (s.memWait t, none)

/-- The words of data octets. -/
def wordsOf (bs : List Byte) : List Word := (List.range (bs.length / 4)).map fun i => BitVec.ofNat 32 (leNat ((bs.drop (4 * i)).take 4))

/-- MEMWR of a frame: under the recovery loader, into SRAM alone (R401). -/
def State.memwr (s : State) (f : List Byte) : State × List Byte :=
  let p := framePay f
  let a := leNat (p.take 4)
  let n := p.length - 4
  if p.length < 4 || a % 4 != 0 || n % 4 != 0 then (s, [2])
  else if s.start.recovery && !(0x20000000 ≤ a && a + n ≤ 0x20100000) then (s, [4])
  else match s.memWrite a (wordsOf (p.drop 4)) with
    | (t, .code c) => (t, [BitVec.ofNat 8 c])
    | (t, .waits) => (t, [3])

/-- The mailbox hardware has a frame of this CMD and room for its response. -/
def State.hwReady (s : State) (cmd : Nat) : Bool := s.host.rxFull && s.host.rxHw && !s.host.txRdy && frameCmd s.rxFrame = cmd

/-- A response of the mailbox hardware is placed, and the receive buffer freed. -/
def State.hwReply (s : State) (f payload : List Byte) : State :=
  (s.txPlace (frameOf (frameCmd f + 0x80) (frameSeq f) payload)).rxFree

/-- A MEMRD that came on UART0 is served, or waits for the flash controller (R401). -/
def State.memrdUart (s : State) (f : List Byte) : State :=
  match s.memrd f with
  | (t, some p) => ({ t with host := { t.host with uartWait := [] } } : State).replyTo ⟨true, 0x70, frameSeq f⟩ p
  | (t, none) => { t with host := { t.host with uartWait := f } }

/-- MEMRD (R400): the frame in the receive buffer, or one that came on UART0 and waits. -/
def execMemrd (s : State) : Host.Outcome State Fault Refusal :=
  doneW (if s.hwReady 0x70 then
    match s.memrd s.rxFrame with
    | (t, some p) => t.hwReply s.rxFrame p
    | (t, none) => t
  else if s.host.uartWait.isEmpty then s else s.memrdUart s.host.uartWait)

/-- MEMWR (R400, R401). -/
def execMemwr (s : State) : Host.Outcome State Fault Refusal :=
  doneW (if s.hwReady 0x71 then
    let (t, p) := s.memwr s.rxFrame
    t.hwReply s.rxFrame p
  else s)

/-! ### The recovery loader (R401) -/

/-- A frame that arrived on UART0 after the byte 0x5A, whole and with its CRC. -/
def uartFrame (octets : List Byte) : Option (List Byte) :=
  let o := octets.tail
  let n := 4 + frameLen o
  if octets.head? = some 0x5A && frameLen o ≤ 1020 && n + 4 ≤ o.length && (o.drop n).take 4 = frameCrc (o.take n) then
    some (o.take n)
  else none

/-- The frame of a loader command: the loader runs, waits for no flash command, and can reply. -/
def State.loaderFrame (s : State) (src : LoaderSrc) : Option (List Byte) :=
  if !s.start.recovery || s.start.busy || s.host.reboot || !s.host.uartWait.isEmpty || s.flc.op.any (fun o => o.reply.isSome) then none
  else match src with
    | .mailbox => if s.host.rxFull && !s.host.rxHw && !s.host.txRdy then some s.rxFrame else none
    | .uart o => if s.uartRxOn 0 then uartFrame o else none

/-- Where the reply to a frame goes. -/
def replyFor (src : LoaderSrc) (f : List Byte) : Reply :=
  ⟨match src with | .mailbox => false | .uart _ => true, frameCmd f, frameSeq f⟩

/-- The request has been read. -/
def State.loaderRead (s : State) (src : LoaderSrc) : State :=
  match src with
  | .mailbox => s.rxFree
  | .uart _ => s

/-- The CMD values of Table 17-2. -/
def loaderCmds : List Nat := [1, 2, 3, 4, 5, 6, 7, 0x70, 0x71]

/-- A loader command with CMD `want` and payload length `len`: `act` serves it. A CMD that Table 17-2 does not list is answered with
BADCMD; MEMRD and MEMWR on UART0, where no hardware serves them, are served here. A frame with the CMD of another row is that row's
command, and stays for it. -/
def State.loader (s : State) (src : LoaderSrc) (want len : Nat) (act : State → Reply → List Byte → State) : State :=
  match s.loaderFrame src with
  | none => s
  | some f =>
    let r := replyFor src f
    let t := s.loaderRead src
    if r.cmd = want then
      (if (framePay f).length = len then act t r (framePay f) else t.replyTo r [2])
    else if !loaderCmds.contains r.cmd then t.replyTo r [1]
    else if r.uart && r.cmd = 0x70 then t.memrdUart f
    else if r.uart && r.cmd = 0x71 then
      let (t, p) := t.memwr f
      t.replyTo r p
    else s

/-- PING (Table 17-2). -/
def execLoaderPing (src : LoaderSrc) (s : State) : Host.Outcome State Fault Refusal :=
  doneW (s.loader src 1 0 fun s r _ => s.replyTo r [0])

/-- The registers that INFO returns. -/
def State.infoBytes (s : State) : List Byte :=
  [Reg.SYS_ID, Reg.SYS_BOOTSTAT, Reg.SYS_RELEASE, Reg.FLC_BOOT, Reg.SYS_RSTCAUSE].flatMap fun a => leBytes 4 (s.peek a).toNat

/-- INFO. -/
def execLoaderInfo (src : LoaderSrc) (s : State) : Host.Outcome State Fault Refusal :=
  doneW (s.loader src 2 0 fun s r _ => s.replyTo r (0 :: s.infoBytes))

/-- The loader issues a flash command and replies when it ends; the cores' `mtvec` are free. -/
def State.loaderFlash (s : State) (op addr : Nat) (r : Reply) : State :=
  let s := s.writeReg Reg.FLC_ADDR (BitVec.ofNat 32 addr)
  (s.flcDo ⟨op, addr, 0, 0, [Config.freeWord s.free, Config.freeWord (s.free + 1)], some r⟩).fresh.fresh

/-- ERASE. -/
def execLoaderErase (src : LoaderSrc) (s : State) : Host.Outcome State Fault Refusal :=
  doneW (s.loader src 3 4 fun s r p => s.loaderFlash 2 (leNat p) r)

/-- PROG: the data go through the page buffer. -/
def execLoaderProg (src : LoaderSrc) (s : State) : Host.Outcome State Fault Refusal :=
  doneW (s.loader src 4 260 fun s r p => (s.bufPut (Reg.FLC_PBUF 0) (p.drop 4)).loaderFlash 1 (leNat (p.take 4)) r)

/-- The payload that answers BOOTSEL, and the state with the selector written: BADSRC where the manifest is not in SRAM, BADENTRY
where no BOOT entry is there, BSEL_EXHAUSTED of FLC where R306 gives it. A BOOT entry's image is the twin region (Table 16-6). -/
def State.bootsel (s : State) (a : Nat) : State × List Byte :=
  if region a != .sram || a % 4 != 0 then (s, [6, 2])
  else
    let (t, v) := s.manScan a
    match v.manCheck a false false with
    | some (code, _) => (t, [6, BitVec.ofNat 8 code])
    | none =>
      if (t.manEntries a).all (fun e => e.kind != 6) then (t, [6, 7])
      else match t.selWrite (1 - t.get Reg.FLC_BOOT_LIVE) with
        | some u => (u, [0])
        | none => (t, [5, 8])

/-- BOOTSEL. -/
def execBootsel (src : LoaderSrc) (s : State) : Host.Outcome State Fault Refusal :=
  doneW (s.loader src 5 4 fun s r p =>
    let (t, q) := s.bootsel (leNat p)
    t.replyTo r q)

/-- RESETCOUNT: ATTEMPTS becomes 0, PROB and SWAPS stay. -/
def execResetcount (src : LoaderSrc) (s : State) : Host.Outcome State Fault Refusal :=
  doneW (s.loader src 6 0 fun s r _ =>
    let (w, s) := s.attRead
    (s.attPut (bitsOf w 16 16) (bitsOf w 12 1) 0).replyTo r [0])

/-- REBOOT: a device warm start once the reply has gone. -/
def execReboot (src : LoaderSrc) (s : State) : Host.Outcome State Fault Refusal :=
  doneW (s.loader src 7 0 fun s r _ =>
    let t := s.replyTo r [0]
    { t with host := { t.host with reboot := true } })

end Sys2Proof.Machine
end

