-- ==== Sys2Proof/Machine/Dispatch.lean ====
section
/-! DEFINITION. One arm per command, each a direct call of its meaning. -/

namespace Sys2Proof.Machine

/-- The effect of a command on everything but the queue. -/
def exec (i : Instr) (s : State) : Host.Outcome State Fault Refusal :=
  match i with
  | .softwareResetDevice key => Sys2Proof.Machine.execSoftwareResetDevice key s
  | .core0Reset key => Sys2Proof.Machine.execCore0Reset key s
  | .core1Reset key => Sys2Proof.Machine.execCore1Reset key s
  | .doubleFault c t => Sys2Proof.Machine.execDoubleFault c t s
  | .watchdogExpiry c t => Sys2Proof.Machine.execWatchdogExpiry c t s
  | .wdtHalfTimeout c t => Sys2Proof.Machine.execWdtHalfTimeout c t s
  | .wdtKick c key => Sys2Proof.Machine.execWdtKick c key s
  | .core0Release found t => Sys2Proof.Machine.execCore0Release found t s
  | .startCalibrationDone t => Sys2Proof.Machine.execStartCalibrationDone t s
  | .safeExit key => Sys2Proof.Machine.execSafeExit key s
  | .c1ctlRunWrite run => Sys2Proof.Machine.execC1ctlRunWrite run s
  | .bootGood key => Sys2Proof.Machine.execBootGood key s
  | .memoryAccess a k w addr data ecc t => Sys2Proof.Machine.execMemoryAccess a k w addr data ecc t s
  | .stepMemoryStore a addr data => Sys2Proof.Machine.execStepMemoryStore a addr data s
  | .fenceI c => Sys2Proof.Machine.execFenceI c s
  | .wfi c t => Sys2Proof.Machine.execWfi c t s
  | .illegalCsr c num => Sys2Proof.Machine.execIllegalCsr c num s
  | .timeCsrRead c t => Sys2Proof.Machine.execTimeCsrRead c t s
  | .dcinv c data => Sys2Proof.Machine.execDcinv c data s
  | .icinv c data => Sys2Proof.Machine.execIcinv c data s
  | .debugHaltRequest c => Sys2Proof.Machine.execDebugHaltRequest c s
  | .registerWrite a addr data => Sys2Proof.Machine.execRegisterWrite a addr data s
  | .unitSafeBoundary u t => Sys2Proof.Machine.execUnitSafeBoundary u t s
  | .lagLimitExpiry t => Sys2Proof.Machine.execLagLimitExpiry t s
  | .rfeStartupDone t => Sys2Proof.Machine.execRfeStartupDone t s
  | .autoRecal t => Sys2Proof.Machine.execAutoRecal t s
  | .calStepDone t => Sys2Proof.Machine.execCalStepDone t s
  | .synthLockDone t => Sys2Proof.Machine.execSynthLockDone t s
  | .txClaim t => Sys2Proof.Machine.execTxClaim t s
  | .coexReqAssert t => Sys2Proof.Machine.execCoexReqAssert t s
  | .txStart gnt t => Sys2Proof.Machine.execTxStart gnt t s
  | .txFirstChip t => Sys2Proof.Machine.execTxFirstChip t s
  | .txLastChip t => Sys2Proof.Machine.execTxLastChip t s
  | .txTailEnd t => Sys2Proof.Machine.execTxTailEnd t s
  | .blankEnd t => Sys2Proof.Machine.execBlankEnd t s
  | .txLateCancel t => Sys2Proof.Machine.execTxLateCancel t s
  | .synthTimeout t => Sys2Proof.Machine.execSynthTimeout t s
  | .coexGntRevoke t => Sys2Proof.Machine.execCoexGntRevoke t s
  | .ackCommit lane t => Sys2Proof.Machine.execAckCommit lane t s
  | .coexCntRead a => Sys2Proof.Machine.execCoexCntRead a s
  | .envelopeStart data => Sys2Proof.Machine.execEnvelopeStart data s
  | .envelopeXwaitEnd t => Sys2Proof.Machine.execEnvelopeXwaitEnd t s
  | .envelopeRun t => Sys2Proof.Machine.execEnvelopeRun t s
  | .msBoundary pow t => Sys2Proof.Machine.execMsBoundary pow t s
  | .envelopeStopped t => Sys2Proof.Machine.execEnvelopeStopped t s
  | .surveyBegin t => Sys2Proof.Machine.execSurveyBegin t s
  | .agcGainDown chain exp clip t => Sys2Proof.Machine.execAgcGainDown chain exp clip t s
  | .agcGainUp chain t => Sys2Proof.Machine.execAgcGainUp chain t s
  | .preambleDetect lane chain corr0 corr1 t => Sys2Proof.Machine.execPreambleDetect lane chain corr0 corr1 t s
  | .spPreambleDetect corr0 corr1 t => Sys2Proof.Machine.execSpPreambleDetect corr0 corr1 t s
  | .chainChoice lane symbols energyA energyB t => Sys2Proof.Machine.execChainChoice lane symbols energyA energyB t s
  | .sfdRecognised lane rssi t => Sys2Proof.Machine.execSfdRecognised lane rssi t s
  | .sfdTimeout lane t => Sys2Proof.Machine.execSfdTimeout lane t s
  | .phrReceived lane phr psdu t => Sys2Proof.Machine.execPhrReceived lane phr psdu t s
  | .addrReached lane t => Sys2Proof.Machine.execAddrReached lane t s
  | .frameEnd lane cq t => Sys2Proof.Machine.execFrameEnd lane cq t s
  | .groupHold mask => Sys2Proof.Machine.execGroupHold mask s
  | .groupStopped g t => Sys2Proof.Machine.execGroupStopped g t s
  | .groupRelease mask => Sys2Proof.Machine.execGroupRelease mask s
  | .envLerrRead a k => Sys2Proof.Machine.execEnvLerrRead a k s
  | .nop e c => Sys2Proof.Machine.execNop e c s
  | .movi e c => Sys2Proof.Machine.execMovi e c s
  | .addOp e c => Sys2Proof.Machine.execAddOp e c s
  | .subOp e c => Sys2Proof.Machine.execSubOp e c s
  | .andOp e c => Sys2Proof.Machine.execAndOp e c s
  | .orOp e c => Sys2Proof.Machine.execOrOp e c s
  | .xorOp e c => Sys2Proof.Machine.execXorOp e c s
  | .shl e c => Sys2Proof.Machine.execShl e c s
  | .shr e c => Sys2Proof.Machine.execShr e c s
  | .cmp e c => Sys2Proof.Machine.execCmp e c s
  | .ld e c => Sys2Proof.Machine.execLd e c s
  | .st e c => Sys2Proof.Machine.execSt e c s
  | .lookup e c => Sys2Proof.Machine.execLookup e c s
  | .readf e c => Sys2Proof.Machine.execReadf e c s
  | .txq e c => Sys2Proof.Machine.execTxq e c s
  | .txack e c => Sys2Proof.Machine.execTxack e c s
  | .deliv e c => Sys2Proof.Machine.execDeliv e c s
  | .dropFrame e c => Sys2Proof.Machine.execDropFrame e c s
  | .postEvent e c => Sys2Proof.Machine.execPostEvent e c s
  | .irq e c => Sys2Proof.Machine.execIrq e c s
  | .syncEpoch e c => Sys2Proof.Machine.execSyncEpoch e c s
  | .timer e c => Sys2Proof.Machine.execTimer e c s
  | .waitev e c => Sys2Proof.Machine.execWaitev e c s
  | .waitt e c => Sys2Proof.Machine.execWaitt e c s
  | .yield e c => Sys2Proof.Machine.execYield e c s
  | .jmp e c => Sys2Proof.Machine.execJmp e c s
  | .call e c => Sys2Proof.Machine.execCall e c s
  | .ret e c => Sys2Proof.Machine.execRet e c s
  | .halt e c => Sys2Proof.Machine.execHalt e c s
  | .txgo e c => Sys2Proof.Machine.execTxgo e c s
  | .txhold e c => Sys2Proof.Machine.execTxhold e c s
  | .txrel e c => Sys2Proof.Machine.execTxrel e c s
  | .hop e c => Sys2Proof.Machine.execHop e c s
  | .guard e c => Sys2Proof.Machine.execGuard e c s
  | .resync e c => Sys2Proof.Machine.execResync e c s
  | .sprx e c => Sys2Proof.Machine.execSprx e c s
  | .spoff e c => Sys2Proof.Machine.execSpoff e c s
  | .sped e c => Sys2Proof.Machine.execSped e c s
  | .spedDone c ed t => Sys2Proof.Machine.execSpedDone c ed t s
  | .armSadc e c => Sys2Proof.Machine.execArmSadc e c s
  | .armWake e c => Sys2Proof.Machine.execArmWake e c s
  | .contextTimerExpiry e c t => Sys2Proof.Machine.execContextTimerExpiry e c t s
  | .waittWake e c t => Sys2Proof.Machine.execWaittWake e c t s
  | .contextDispatch e parity t => Sys2Proof.Machine.execContextDispatch e parity t s
  | .contextRestart data => Sys2Proof.Machine.execContextRestart data s
  | .engine16Stopped t => Sys2Proof.Machine.execEngine16Stopped t s
  | .txqRelease t => Sys2Proof.Machine.execTxqRelease t s
  | .txqbaseWrite data => Sys2Proof.Machine.execTxqbaseWrite data s
  | .loadTable data => Sys2Proof.Machine.execLoadTable data s
  | .loadVerifyDone t => Sys2Proof.Machine.execLoadVerifyDone t s
  | .loadQuietStop t => Sys2Proof.Machine.execLoadQuietStop t s
  | .loadSoftWaitExpiry t => Sys2Proof.Machine.execLoadSoftWaitExpiry t s
  | .loadComplete t => Sys2Proof.Machine.execLoadComplete t s
  | .xtalReady t => Sys2Proof.Machine.execXtalReady t s
  | .timebaseSwitch t => Sys2Proof.Machine.execTimebaseSwitch t s
  | .lfcalMeasure inc t => Sys2Proof.Machine.execLfcalMeasure inc t s
  | .lfCrystalStart t => Sys2Proof.Machine.execLfCrystalStart t s
  | .lfCrystalStop t => Sys2Proof.Machine.execLfCrystalStop t s
  | .vbkpLow low feeds t => Sys2Proof.Machine.execVbkpLow low feeds t s
  | .fioBurstStart t => Sys2Proof.Machine.execFioBurstStart t s
  | .tbaseNowRead a => Sys2Proof.Machine.execTbaseNowRead a s
  | .slotStart t => Sys2Proof.Machine.execSlotStart t s
  | .linkAdjWrite data => Sys2Proof.Machine.execLinkAdjWrite data s
  | .linkEvcRead a => Sys2Proof.Machine.execLinkEvcRead a s
  | .linkSstartRead a => Sys2Proof.Machine.execLinkSstartRead a s
  | .supervisionExpiry n t => Sys2Proof.Machine.execSupervisionExpiry n t s
  | .dwellBucketRoll t => Sys2Proof.Machine.execDwellBucketRoll t s
  | .linkDwstatRead a => Sys2Proof.Machine.execLinkDwstatRead a s
  | .ballastWriteThrough n t => Sys2Proof.Machine.execBallastWriteThrough n t s
  | .deliveryWrite r t => Sys2Proof.Machine.execDeliveryWrite r t s
  | .rtakeWrite r take => Sys2Proof.Machine.execRtakeWrite r take s
  | .linkRputRead a r => Sys2Proof.Machine.execLinkRputRead a r s
  | .cipherSubmit q put => Sys2Proof.Machine.execCipherSubmit q put s
  | .ccmEnc q => Sys2Proof.Machine.execCcmEnc q s
  | .ccmDec q => Sys2Proof.Machine.execCcmDec q s
  | .gcmEnc q => Sys2Proof.Machine.execGcmEnc q s
  | .gcmDec q => Sys2Proof.Machine.execGcmDec q s
  | .ctr q => Sys2Proof.Machine.execCtr q s
  | .cmacGen q => Sys2Proof.Machine.execCmacGen q s
  | .cmacVer q => Sys2Proof.Machine.execCmacVer q s
  | .sha256 q => Sys2Proof.Machine.execSha256 q s
  | .ecdsaVer q => Sys2Proof.Machine.execEcdsaVer q s
  | .unwrap q => Sys2Proof.Machine.execUnwrap q s
  | .wrap q => Sys2Proof.Machine.execWrap q s
  | .rng q octets => Sys2Proof.Machine.execRng q octets s
  | .cipherComplete t => Sys2Proof.Machine.execCipherComplete t s
  | .queueFlush q => Sys2Proof.Machine.execQueueFlush q s
  | .kselWrite data => Sys2Proof.Machine.execKselWrite data s
  | .alarmTrip causes t => Sys2Proof.Machine.execAlarmTrip causes t s
  | .almactClear t => Sys2Proof.Machine.execAlmactClear t s
  | .trngStartupDone word t => Sys2Proof.Machine.execTrngStartupDone word t s
  | .trngDataRead a nextWord => Sys2Proof.Machine.execTrngDataRead a nextWord s
  | .bankPowerRequest radio data => Sys2Proof.Machine.execBankPowerRequest radio data s
  | .bankTransitionDone b t => Sys2Proof.Machine.execBankTransitionDone b t s
  | .bankTestStart data => Sys2Proof.Machine.execBankTestStart data s
  | .bankTestEnd r t => Sys2Proof.Machine.execBankTestEnd r t s
  | .memcBcntRead a => Sys2Proof.Machine.execMemcBcntRead a s
  | .flashProg vec0 vec1 => Sys2Proof.Machine.execFlashProg vec0 vec1 s
  | .flashErase vec0 vec1 => Sys2Proof.Machine.execFlashErase vec0 vec1 s
  | .progComplete weak good t => Sys2Proof.Machine.execProgComplete weak good t s
  | .eraseComplete good t => Sys2Proof.Machine.execEraseComplete good t s
  | .marginComplete counts bad t => Sys2Proof.Machine.execMarginComplete counts bad t s
  | .eraseSuspended t => Sys2Proof.Machine.execEraseSuspended t s
  | .eraseResume t => Sys2Proof.Machine.execEraseResume t s
  | .flcEcntRead a => Sys2Proof.Machine.execFlcEcntRead a s
  | .flcRrstatRead a => Sys2Proof.Machine.execFlcRrstatRead a s
  | .evlPubsw data => Sys2Proof.Machine.execEvlPubsw data s
  | .linecfgWrite l data => Sys2Proof.Machine.execLinecfgWrite l data s
  | .evlLoopRead a => Sys2Proof.Machine.execEvlLoopRead a s
  | .evlCoalRead a l => Sys2Proof.Machine.execEvlCoalRead a l s
  | .icolRecordWrite c t => Sys2Proof.Machine.execIcolRecordWrite c t s
  | .frompendWrite c t => Sys2Proof.Machine.execFrompendWrite c t s
  | .icolTake a c => Sys2Proof.Machine.execIcolTake a c s
  | .icolEoi c => Sys2Proof.Machine.execIcolEoi c s
  | .icolSwpost c data => Sys2Proof.Machine.execIcolSwpost c data s
  | .icolEnset c w bits => Sys2Proof.Machine.execIcolEnset c w bits s
  | .icolEnclr c w bits => Sys2Proof.Machine.execIcolEnclr c w bits s
  | .icolPset c w bits => Sys2Proof.Machine.execIcolPset c w bits s
  | .icolPclr c w bits => Sys2Proof.Machine.execIcolPclr c w bits s
  | .icolNlx5pset c bits => Sys2Proof.Machine.execIcolNlx5pset c bits s
  | .moderationExpiry c t => Sys2Proof.Machine.execModerationExpiry c t s
  | .icolOvfcntRead a c => Sys2Proof.Machine.execIcolOvfcntRead a c s
  | .pwrEnter key target => Sys2Proof.Machine.execPwrEnter key target s
  | .pwrCancel key => Sys2Proof.Machine.execPwrCancel key s
  | .handshakeDelayClear t => Sys2Proof.Machine.execHandshakeDelayClear t s
  | .handshakeTimeout t => Sys2Proof.Machine.execHandshakeTimeout t s
  | .sleepEntryDone t => Sys2Proof.Machine.execSleepEntryDone t s
  | .prewake t => Sys2Proof.Machine.execPrewake t s
  | .wakePinEdge j rising t => Sys2Proof.Machine.execWakePinEdge j rising t s
  | .vcoreSettled t => Sys2Proof.Machine.execVcoreSettled t s
  | .hoverCrystalStart t => Sys2Proof.Machine.execHoverCrystalStart t s
  | .hoverSubstateChange t => Sys2Proof.Machine.execHoverSubstateChange t s
  | .pwrHovstatRead a => Sys2Proof.Machine.execPwrHovstatRead a s
  | .pwrHovtimeRead a => Sys2Proof.Machine.execPwrHovtimeRead a s
  | .secondBoundary t => Sys2Proof.Machine.execSecondBoundary t s
  | .rtcSet key => Sys2Proof.Machine.execRtcSet key s
  | .calset key => Sys2Proof.Machine.execCalset key s
  | .hourplus key => Sys2Proof.Machine.execHourplus key s
  | .hourminus key => Sys2Proof.Machine.execHourminus key s
  | .hourcancel key => Sys2Proof.Machine.execHourcancel key s
  | .cal2cnt key => Sys2Proof.Machine.execCal2cnt key s
  | .cnt2cal key => Sys2Proof.Machine.execCnt2cal key s
  | .rtcConversionDone t => Sys2Proof.Machine.execRtcConversionDone t s
  | .rtcSnapshotWrite t => Sys2Proof.Machine.execRtcSnapshotWrite t s
  | .rtcSecRead a t => Sys2Proof.Machine.execRtcSecRead a t s
  | .rtcNowdateRead a => Sys2Proof.Machine.execRtcNowdateRead a s
  | .activate data => Sys2Proof.Machine.execActivate data s
  | .activateLive data => Sys2Proof.Machine.execActivateLive data s
  | .updateAbort data => Sys2Proof.Machine.execUpdateAbort data s
  | .updateVerifyDone t => Sys2Proof.Machine.execUpdateVerifyDone t s
  | .quietInstant t => Sys2Proof.Machine.execQuietInstant t s
  | .quiesceSoftExpiry t => Sys2Proof.Machine.execQuiesceSoftExpiry t s
  | .quiesceTimeout t => Sys2Proof.Machine.execQuiesceTimeout t s
  | .pauseEnd t => Sys2Proof.Machine.execPauseEnd t s
  | .hostCsAssert x => Sys2Proof.Machine.execHostCsAssert x s
  | .hostStatus n => Sys2Proof.Machine.execHostStatus n s
  | .hostPut octets => Sys2Proof.Machine.execHostPut octets s
  | .hostGet x => Sys2Proof.Machine.execHostGet x s
  | .loaderPing src => Sys2Proof.Machine.execLoaderPing src s
  | .loaderInfo src => Sys2Proof.Machine.execLoaderInfo src s
  | .loaderErase src => Sys2Proof.Machine.execLoaderErase src s
  | .loaderProg src => Sys2Proof.Machine.execLoaderProg src s
  | .bootsel src => Sys2Proof.Machine.execBootsel src s
  | .resetcount src => Sys2Proof.Machine.execResetcount src s
  | .reboot src => Sys2Proof.Machine.execReboot src s
  | .uartRxByte n b parityErr framingErr brk t => Sys2Proof.Machine.execUartRxByte n b parityErr framingErr brk t s
  | .uartDataWrite n b => Sys2Proof.Machine.execUartDataWrite n b s
  | .uartDataRead a n => Sys2Proof.Machine.execUartDataRead a n s
  | .uartTxIdle n t => Sys2Proof.Machine.execUartTxIdle n t s
  | .spicTransferStart n data => Sys2Proof.Machine.execSpicTransferStart n data s
  | .spicTransferEnd n rx t => Sys2Proof.Machine.execSpicTransferEnd n rx t s
  | .i2cTransferStart n data => Sys2Proof.Machine.execI2cTransferStart n data s
  | .i2cTransferEnd n rx nack lost t => Sys2Proof.Machine.execI2cTransferEnd n rx nack lost t s
  | .gpioEdge j level t => Sys2Proof.Machine.execGpioEdge j level t s
  | .sadcConversionDone val t => Sys2Proof.Machine.execSadcConversionDone val t s
  | .sadcResultRead a => Sys2Proof.Machine.execSadcResultRead a s
  | .monitorUpdate temp vbkp vin t => Sys2Proof.Machine.execMonitorUpdate temp vbkp vin t s
  | .tmrStart n => Sys2Proof.Machine.execTmrStart n s
  | .tmrStop n => Sys2Proof.Machine.execTmrStop n s
  | .tmrExpiry n t => Sys2Proof.Machine.execTmrExpiry n t s
  | .samplePllLock t => Sys2Proof.Machine.execSamplePllLock t s
  | .vioValidChange valid t => Sys2Proof.Machine.execVioValidChange valid t s
  | .debugResumeRequest c => Sys2Proof.Machine.execDebugResumeRequest c s
  | .dmcontrolDmactive on => Sys2Proof.Machine.execDmcontrolDmactive on s
  | .tckCycle tms tdi => Sys2Proof.Machine.execTckCycle tms tdi s
  | .powerOnReset => Sys2Proof.Machine.execPowerOnReset s
  | .nrstLow => Sys2Proof.Machine.execNrstLow s
  | .brownout => Sys2Proof.Machine.execBrownout s
  | .backupDomainReset => Sys2Proof.Machine.execBackupDomainReset s
  | .debugNdmreset => Sys2Proof.Machine.execDebugNdmreset s
  | .replayMirrorLoadDone => Sys2Proof.Machine.execReplayMirrorLoadDone s
  | .epochNow => Sys2Proof.Machine.execEpochNow s
  | .epochAt => Sys2Proof.Machine.execEpochAt s
  | .epochCancel => Sys2Proof.Machine.execEpochCancel s
  | .digestRecomputeDone => Sys2Proof.Machine.execDigestRecomputeDone s
  | .recalAll => Sys2Proof.Machine.execRecalAll s
  | .recalStale => Sys2Proof.Machine.execRecalStale s
  | .stopCal => Sys2Proof.Machine.execStopCal s
  | .engine16Run => Sys2Proof.Machine.execEngine16Run s
  | .engine16Stop => Sys2Proof.Machine.execEngine16Stop s
  | .loadAbort => Sys2Proof.Machine.execLoadAbort s
  | .tbaseRefOn => Sys2Proof.Machine.execTbaseRefOn s
  | .tbaseRefOff => Sys2Proof.Machine.execTbaseRefOff s
  | .tbaseAutoOn => Sys2Proof.Machine.execTbaseAutoOn s
  | .setevc => Sys2Proof.Machine.execSetevc s
  | .cancelset => Sys2Proof.Machine.execCancelset s
  | .keyCommit => Sys2Proof.Machine.execKeyCommit s
  | .keyErase => Sys2Proof.Machine.execKeyErase s
  | .eraseall => Sys2Proof.Machine.execEraseall s
  | .almclr => Sys2Proof.Machine.execAlmclr s
  | .deviceKeyLoadDone => Sys2Proof.Machine.execDeviceKeyLoadDone s
  | .trngHealthFail => Sys2Proof.Machine.execTrngHealthFail s
  | .margin0 => Sys2Proof.Machine.execMargin0 s
  | .margin1 => Sys2Proof.Machine.execMargin1 s
  | .flashBsel => Sys2Proof.Machine.execFlashBsel s
  | .padRelease => Sys2Proof.Machine.execPadRelease s
  | .memrd => Sys2Proof.Machine.execMemrd s
  | .memwr => Sys2Proof.Machine.execMemwr s
  | .rxdone => Sys2Proof.Machine.execRxdone s
  | .hostTxgo => Sys2Proof.Machine.execHostTxgo s
  | .txcancel => Sys2Proof.Machine.execTxcancel s
  | .sadcStart => Sys2Proof.Machine.execSadcStart s

end Sys2Proof.Machine
end

