-- ==== Sys2Proof/Safety.lean ====
section
/-! DEFINITION. What counts as a safe run: every step answers a next state, and the state keeps the forms that its sparse maps
are held in and a mode that the manual knows. -/

namespace Sys2Proof.Machine

/-- The sparse maps of the state are in canonical form: keys strictly rising, no entry at its default. -/
structure State.canonical (s : State) : Prop where
  mem : Memory.wf s.lost s.mem
  regs : Swf regReset s.regs
  shadow : Swf regReset s.shadow
  ctxs : Swf (fun _ => Ctx.reset) s.ctxs
  engs : Swf (fun _ => Engine.reset) s.engs
  lanes : Swf (fun _ => Lane.reset) s.lanes
  tmrs : Swf (fun _ => (⟨none, none, none, none⟩ : Tmr)) s.tmrs
  banks : Swf (fun _ => BankSt.on) s.memc.banks

/-- The modes are codes of Table 1-8: `SYS_MODE.MODE` and `PREV`; a code that is forced (a sleep mode, ACTIVATE, SAFE); and the
targets of an explicit request and of an entry in progress are sleep modes. -/
structure State.legalMode (s : State) : Prop where
  mode : s.pwr.mode ≤ 11
  prev : s.pwr.prev ≤ 11
  forced : ∀ m ∈ s.pwr.forced, m ≤ 3 ∨ m = 10 ∨ m = 11
  cmd : ∀ m ∈ s.pwr.cmd, m ≤ 3
  hs : ∀ h ∈ s.pwr.hs, h.target ≤ 3

/-- A step answers a next state that keeps both. -/
def SafeStep (s : State) : Prop :=
  match step s with
  | .next t => t.canonical ∧ t.legalMode
  | .fault _ => False
  | .refused _ => False

/-! ### What a command's own effect is told from

Every command ends with what follows it at once: waits that have come true, moderation, WFI, the mode; and, for the commands that may
set them off, writes and switches that waited for a boundary, a wake, a start. The two definitions below say, for the statements about
commands, that nothing of the second kind is due, and what the first kind may change. -/

/-- Nothing waits for a boundary and nothing wakes, restarts or puts off the device, so that a command has its own effect alone. -/
structure State.Quiet (s : State) : Prop where
  waits : s.waits = []
  pend : s.pend = 0
  held : s.cfg.held = none
  single : s.env.st = .off ∨ s.flag Reg.RFE_SPCTL_EN = false
  awake : s.pwr.forced = none
  entry : s.pwr.hs = none
  wake : s.pwr.wakeReq = 0
  cores : s.pwr.wakeCores = 0
  got : s.pwr.wakeGot = 0
  req : s.start.req = 0

/-- Canonical and quiet, with no set of an epoch switch armed. -/
structure State.Calm (s : State) : Prop where
  canonical : s.canonical
  quiet : s.Quiet
  armed : s.armed = []

/-- `u` is `v` but for what every command ends with: WAITING contexts may have become READY, a core in WFI may run, the moderation of
the collectors and the mode may have followed. -/
structure Settles (v u : State) : Prop where
  rest : u = { v with
    ctxs := u.ctxs
    icol0 := { v.icol0 with mod := u.icol0.mod }
    icol1 := { v.icol1 with mod := u.icol1.mod }
    core0 := { v.core0 with run := u.core0.run }
    core1 := { v.core1 with run := u.core1.run }
    pwr := { v.pwr with mode := u.pwr.mode, prev := u.pwr.prev, autoBlocked := u.pwr.autoBlocked } }
  ctx : ∀ e c, u.ctx e c = v.ctx e c ∨ ((v.ctx e c).st = .waiting ∧
    ∃ g, u.ctx e c = { v.ctx e c with st := .ready, wait := .none, urg := g, woke := v.now, resume := true })
  run0 : v.core0.run ≠ .wfi → u.core0.run = v.core0.run
  run1 : v.core1.run ≠ .wfi → u.core1.run = v.core1.run

/-- Command `c` on `s` completes: the next state is `v` but for what every command ends with. -/
def Does (c : Instr) (s v : State) : Prop := ∃ u, exec c s = .next u ∧ Settles v u

/-- Context c of engine e is RUNNING, `w` is its next step, a listed one and within the 64 of a stretch. -/
structure State.At (s : State) (e c : Nat) (w : StepWord) : Prop where
  ctx : c < nctx e
  eng : (s.eng e).run = true
  st : (s.ctx e c).st = .running
  fetch : s.fetchStep e (s.ctx e c).pc = w
  steps : (s.ctx e c).steps < 64
  listed : w.listed = true

/-- The command ends in a context fault of context c of engine e with cause k, at the step where it was, its registers unchanged. -/
def Faults (i : Instr) (s : State) (e c k : Nat) : Prop :=
  ∃ u, exec i s = .next u ∧ (u.ctx e c).st = .faulted ∧ (u.ctx e c).cause = k ∧ (u.ctx e c).pc = (s.ctx e c).pc ∧
    (u.ctx e c).v = (s.ctx e c).v ∧ (u.ctx e c).fatal = false

/-- What the last access or read returned to its agent. -/
def State.heard (s : State) : Agent → Response
  | .core0 => s.core0.resp
  | .core1 => s.core1.resp
  | .debug => s.dbg.resp
  | .host => s.host.resp

/-- A hart has taken an exception of this cause (R15, RISC-V privileged specification): machine mode, interrupts off, at its handler. -/
structure Hart.Trapped (h : Hart) (cause : Nat) (tval : Word) : Prop where
  cause : h.mcause = BitVec.ofNat 32 cause
  tval : h.mtval = tval
  mode : h.user = false
  mie : bitOf h.mstatus 3 = false
  pc : h.pc = h.mtvec &&& 0xFFFFFFFC

/-- The command ends in an exception of core c, which runs: `v` but for what the entry saves and for the model's counter of free values. -/
def Traps (i : Instr) (s v : State) (c : CoreId) (cause : Nat) (tval : Word) : Prop :=
  ∃ h f, Does i s (({ v with free := f } : State).hartMap c fun _ => h) ∧ h.Trapped cause tval

/-- The same registers but for those at the addresses listed. -/
def State.regsBut (s u : State) (as : List Nat) : Prop := ∀ x, x ∉ as → u.reg x = s.reg x

/-- The same contents of every memory at every address. -/
def State.sameBytes (s u : State) : Prop := ∀ a, u.byte a = s.byte a

end Sys2Proof.Machine
end

