-- ==== Sys2Proof/Certificates/Slice0/Obligations.lean ====
section
/-! DEFINITION. The statements for the provers: what the block does, rule by rule of spec/. -/

section

open Sys2Proof Sys2Proof.Machine

/-- A step takes the front command and runs it on the state with the queue's rest. -/
def Obligations.StepRunsTheFrontCommand : Prop :=
  ∀ (c : Instr) (q : List Instr) (s : State), s.pending = c :: q → step s = exec c { s with pending := q }

/-- The queue of waiting commands is the model's (log entry 1): an empty queue idles, and no command changes the queue. -/
def Obligations.QueueRunsFirstInFirstOut : Prop :=
  (∀ s : State, s.pending = [] → step s = .next s) ∧
  (∀ (c : Instr) (s t : State), exec c s = .next t → t.pending = s.pending)

/-- Every command answers a next state; log entry 2. -/
def Obligations.EveryCommandAnswersANextState : Prop := ∀ (c : Instr) (s : State), ∃ t, exec c s = .next t

/-- The invariants hold at reset. -/
def Obligations.ResetIsCanonicalAndLegal : Prop :=
  State.reset.canonical ∧ State.reset.legalMode ∧ State.reset.pending = [] ∧ State.reset.waits = [] ∧ State.reset.armed = [] ∧
    State.reset.Quiet

/-- An inductive invariant: the canonical form of the sparse maps. -/
def Obligations.StepKeepsTheCanonicalForm : Prop :=
  ∀ s t : State, s.canonical → step s = .next t → t.canonical

/-- R30: an inductive invariant, and what a read of `SYS_MODE` shows of it. -/
def Obligations.EveryStepKeepsTheModeLegal : Prop :=
  ∀ s : State, s.legalMode →
    (fget (s.peek Reg.SYS_MODE) Reg.SYS_MODE_MODE = s.pwr.mode ∧ s.pwr.mode < 12) ∧
    ∀ t, step s = .next t → t.legalMode

/-- R37, R38, R40, R430: the three commands that begin a cold start. `memBase` is step memory filled with HALT (R183). -/
def Obligations.ColdCausesStartTheDeviceCold : Prop :=
  ∀ s : State, s.canonical → ∀ c cause, (c, cause) ∈ [(Instr.powerOnReset, (1 : Word)), (.nrstLow, 2), (.brownout, 4)] →
    ∃ u, exec c s = .next u ∧ u.start.busy = true ∧ u.start.cold = true ∧ u.now = 0 ∧
      u.core0.run = .held ∧ u.core1.run = .held ∧ (∀ e, (u.eng e).run = false) ∧
      u.reg Reg.SYS_RSTCAUSE = cause ||| (if s.start.busy = true ∧ s.now = s.start.began then s.start.causes else 0) ∧
      (∀ a, a ≠ Reg.SYS_RSTCAUSE → u.reg a = if keepAlways a then s.reg a else regReset a) ∧
      (∀ a, 0x30000000 ≤ a → a < 0x30022000 → u.byte a = memBase a) ∧
      u.snap = [] ∧ u.waits = [] ∧ u.shadow = [] ∧ u.armed = [] ∧ u.cfg.sched = none ∧ u.cfg.held = none ∧
      (s.flc.op = none → ∀ a, 0x22000000 ≤ a → a < 0x22080000 → u.byte a = s.byte a)

/-- R37, R38, R40, R394, R430: the commands that begin a warm start, and when they are absorbed or ignored. -/
def Obligations.WarmCausesStartTheDeviceWarm : Prop :=
  let warm := fun (s : State) (c : Instr) (cause : Word) => s.start.busy = false →
    ∃ u, exec c s = .next u ∧ u.start.busy = true ∧ u.start.cold = false ∧ u.start.toSafe = false ∧
      u.core0.run = .held ∧ u.core1.run = .held ∧ (∀ e, (u.eng e).run = false) ∧ u.ciph.keys = [] ∧ u.snap = s.snap ∧
      u.reg Reg.SYS_RSTCAUSE &&& cause = cause ∧
      (s.Calm → s.flc.op = none → s.memc.test = none → s.link.thru = [] → s.upd.phase = .idle → s.upd.doing = none →
        s.ldr.phase = .idle → (∀ k, (s.lane k).cur = none) →
        s.sameBytes u ∧ u.reg Reg.SYS_RSTCAUSE = (s.reg Reg.SYS_RSTCAUSE &&& 0x3FFF) ||| cause ∧
        ∀ a, a ≠ Reg.SYS_RSTCAUSE → a ≠ Reg.CFG_PEND → u.reg a = mergeBits (regReset a) (warmKeep a) (s.reg a))
  let absorbed := fun (s : State) (c : Instr) (cause : Word) => s.start.busy = true → s.now ≠ s.start.began →
    Does c s (s.setReg Reg.SYS_RSTCAUSE (s.reg Reg.SYS_RSTCAUSE ||| cause))
  (∀ (s : State) (key : BitVec 16), key = 0x5AFE →
    warm s (.softwareResetDevice key) 0x800 ∧ absorbed s (.softwareResetDevice key) 0x800) ∧
  (∀ s : State, warm s .debugNdmreset 0x2000 ∧ absorbed s .debugNdmreset 0x2000) ∧
  (∀ (s : State) (key : BitVec 16), key = 0xEA5E → s.start.safe = true → warm s (.safeExit key) 0x1000) ∧
  (∀ (s : State) (key : BitVec 16), (key ≠ 0x5AFE → Does (.softwareResetDevice key) s s) ∧
    (key ≠ 0xEA5E ∨ s.start.safe = false → Does (.safeExit key) s s))

/-- R392, R393: what a Ripcord cause freezes and starts. -/
def Obligations.RipcordCausesFreezeTheSnapshot : Prop :=
  ∀ (s : State) (c : CoreId) (t : Nat), let v := s.at_ t
    let starts := fun (i : Instr) (cause : Word) =>
      ∃ u, exec i s = .next u ∧ u.start.busy = true ∧ u.start.cold = false ∧ u.core0.run = .held ∧ u.core1.run = .held ∧
        u.reg Reg.SYS_RSTCAUSE &&& cause = cause ∧
        (v.start.safe = true → u.start.toSafe = false ∧ u.start.freezes = v.start.freezes ∧ u.snap = v.snap) ∧
        (v.start.safe = false → u.start.toSafe = true ∧ u.start.freezes = v.start.freezes + 1 ∧ u.snap.length = 256 ∧
          u.snap.take 6 = [0x50414E53, BitVec.ofNat 32 (v.start.freezes + 1), cause, BitVec.ofNat 32 v.us,
            BitVec.ofNat 32 (v.us / 2 ^ 32), BitVec.ofNat 32 (v.net % 40)] ∧
          (u.snap.drop 40).take 24 = v.snapRegs)
    v.start.busy = false →
    ((v.core c).run = .running → (v.core c).halted = false → starts (.doubleFault c t) (0x100 <<< coreNum c)) ∧
    (let w := v.wdt (coreNum c)
     v.flag (Reg.WDT_CTL_EN (coreNum c)) = true →
      (36000 * max 1 (v.get (Reg.WDT_CTL_TO (coreNum c))) ≤ w.ticks ∨
        ∃ k, w.kick = some (v.now, k) ∧ 36000 * max 1 (v.get (Reg.WDT_CTL_TO (coreNum c))) ≤ k) →
      starts (.watchdogExpiry c t) (0x40 <<< coreNum c)) ∧
    ((v.core c).run ≠ .running ∨ (v.core c).halted = true → Does (.doubleFault c t) s v)

/-- R39: the state that each core-scope reset leaves. Log entries 74 (reset values of CSRs), 75 (a reset while something holds the cores) and
95 (the dump handler ends) are the model's. -/
def Obligations.CoreResetsRestartOneCore : Prop :=
  (∀ (s : State) (key : BitVec 16), key = 0x5AFE → s.start.busy = false → s.awake = true → s.quiesced 2 = false →
    Does (.core0Reset key) s
      { s with
        core0 := { Core.reset with
          run := .running, start := s.reg Reg.SYS_C0VEC, hart := { Hart.reset with pc := s.reg Reg.SYS_C0VEC }, resp := s.core0.resp }
        dbg := s.dbg.sawReset 0
        start := { s.start with dump := none } } ∧
    (s.flag Reg.SYS_C1CTL_RUN = true → Does (.core1Reset key) s
      { s with core1 := { Core.reset with
        run := .running, start := s.reg Reg.SYS_C1VEC, hart := { Hart.reset with pc := s.reg Reg.SYS_C1VEC }, resp := s.core1.resp }, dbg := s.dbg.sawReset 1 })) ∧
  (∀ (s : State) (key : BitVec 16), s.flag Reg.SYS_C1CTL_RUN = false → Does (.core1Reset key) s s) ∧
  (∀ (s : State) (key : BitVec 16), key ≠ 0x5AFE → Does (.core0Reset key) s s ∧ Does (.core1Reset key) s s)

/-- R37, R374 to R377, R380, R237, R280: the release of core 0, and the steps of a start that end by their own events. `bootHead` is what the
header at the boot window gives, `State.bootEntry`, or nothing where it cannot be read. The steps end together by log entry 24. -/
def Obligations.StartStepsEnd : Prop :=
  (∀ (s : State) (found : ColdFindings) (t : Nat), let v := s.at_ t
    let boot := (if v.start.cold then v.coldSteps found else v.warmErrors found).bootSteps
    (∃ u, exec (.core0Release found t) s = .next u) ∧
    (v.start.busy = true → v.start.cold = false → v.start.toSafe = true → v.canonical →
      (v.reg Reg.SYS_RIPVEC = 0x80 → v.flag Reg.FLC_CTL_GUARD = false ∧ v.upd.guard = []) →
      ∃ u, exec (.core0Release found t) s = .next u ∧ u.start.busy = false ∧ u.start.safe = true ∧ u.start.rxbusy = true ∧
        u.core0.run = .running ∧ u.core0.start = v.reg Reg.SYS_RIPVEC ∧ u.pwr.mode = 11 ∧
        u.get Reg.SYS_STARTSTAT_DUR = min 0xFFFF ((v.now - v.start.began) / 40)) ∧
    (v.start.busy = true → v.start.toSafe = false → v.canonical →
      let w := (boot.2.coreRelease boot.1).settle
      let runs := fun (a : Word) => ∃ u, exec (.core0Release found t) s = .next u ∧ u.start.busy = false ∧ u.start.safe = false ∧
        u.start.rxbusy = true ∧ u.start.recovery = boot.1 ∧ u.core0.run = .running ∧ u.core0.start = a
      (boot.1 = true → runs 0) ∧
      (boot.1 = false → match w.bootHead.1 with
        | some a => w.bootEntry = some a ∧ runs a
        | none => ∃ u, exec (.core0Release found t) s = .next u ∧ u.start.busy = true ∧ u.start.cold = false ∧
            bitOf (u.reg Reg.SYS_RSTCAUSE) 11 = true)) ∧
    (v.start.busy = false → Does (.core0Release found t) s v)) ∧
  (∀ s : State, s.Quiet →
    (s.start.rxbusy = true →
      ∃ u, exec .replayMirrorLoadDone s = .next u ∧ u.start.rxbusy = false ∧
        (∀ n, n < 1024 → u.word (nbrAddr n + 0x10) = if s.nvBad (rxWord n) then 0xFFFFFFFF else s.word (rxWord n)) ∧
        (∀ a, (∀ n, n < 1024 → a < nbrAddr n + 0x10 ∨ nbrAddr n + 0x14 ≤ a) →
          u.byte a = if s.start.nbrKept = false ∧ 0x21020000 ≤ a ∧ a < 0x21030000 then 0 else s.byte a)) ∧
    (s.start.rxbusy = false → Does .replayMirrorLoadDone s s)) ∧
  (∀ (s : State) (t : Nat), let v := s.at_ t
    v.Quiet →
    (v.start.rcalT = true →
      ∃ u, exec (.startCalibrationDone t) s = .next u ∧ u.start.rcal = false ∧ u.start.rcalT = false ∧ u.start.deferEnv = false ∧
        (∀ k, k < 128 → bitOf (u.reg (Reg.RFE_CALTAB k)) 31 = true ∧
          toSigned 8 (bitsOf (u.reg (Reg.RFE_CALTAB k)) 16 8) = toSigned 8 (ofSigned 8 v.dieTemp))) ∧
    (v.start.rcalT = false → Does (.startCalibrationDone t) s v))

/-- R409: kicks and the half-timeout record. -/
def Obligations.WatchdogsReloadAndWarn : Prop :=
  (∀ (s : State) (c : CoreId) (key : BitVec 16),
    (key = 0xC0DE → s.awake = true →
      Does (.wdtKick c key) s (s.setWdt (coreNum c) ⟨0, false, some (s.now,
        match (s.wdt (coreNum c)).kick with
        | some (t, k) => if t = s.now then max k (s.wdt (coreNum c)).ticks else (s.wdt (coreNum c)).ticks
        | none => (s.wdt (coreNum c)).ticks)⟩)) ∧
    (key ≠ 0xC0DE → Does (.wdtKick c key) s s)) ∧
  (∀ (s : State) (c : CoreId) (t : Nat), let v := s.at_ t
    let n := coreNum c
    let due := v.flag (Reg.WDT_CTL_EN n) = true ∧ (v.wdt n).half = false ∧ 18000 * max 1 (v.get (Reg.WDT_CTL_TO n)) ≤ (v.wdt n).ticks
    v.Quiet →
    (due → ∃ u w, exec (.wdtHalfTimeout c t) s = .next u ∧ u.wdt n = { v.wdt n with half := true } ∧
      u.icol0.buf = v.icol0.buf ++ [⟨217 + n, v.icolPri .c0 (217 + n), false, w, 0, v.us⟩] ∧
      u.icol1.buf = v.icol1.buf ++ [⟨217 + n, v.icolPri .c1 (217 + n), false, w, 0, v.us⟩] ∧ u.regs = v.regs ∧ u.mem = v.mem) ∧
    (¬due → Does (.wdtHalfTimeout c t) s v))

/-- R378, Table 1-16, R357. -/
def Obligations.BootGoodCore1AndBackupReset : Prop :=
  (∀ (s : State) (key : BitVec 16), key = 0x600D → s.canonical → s.start.safe = false →
    ∃ u, exec (.bootGood key) s = .next u ∧ u.word 0x2207D004 = (s.word 0x2207D004 &&& 0xFFFF0000) ∧
      (∀ a, a < 0x2207D004 ∨ 0x2207D008 ≤ a → u.byte a = s.byte a)) ∧
  (∀ (s : State) (key : BitVec 16), key ≠ 0x600D ∨ s.start.safe = true → Does (.bootGood key) s s) ∧
  (∀ s : State, s.canonical → s.Quiet → s.core0.run = .running → s.flag Reg.SYS_C1CTL_RUN = false →
    ∃ u, exec (.c1ctlRunWrite true) s = .next u ∧ u.flag Reg.SYS_C1CTL_RUN = true ∧ u.core1.run = .running ∧
      u.core1.start = s.reg Reg.SYS_C1VEC ∧ (∀ a, a ≠ Reg.SYS_C1CTL → u.reg a = s.reg a)) ∧
  (∀ s : State, s.canonical → s.Quiet → s.core0.run = .running → s.flag Reg.SYS_C1CTL_RUN = true →
    ∃ u, exec (.c1ctlRunWrite false) s = .next u ∧ u.flag Reg.SYS_C1CTL_RUN = false ∧ u.core1.run = .held ∧
      (∀ a, a ≠ Reg.SYS_C1CTL → u.reg a = s.reg a)) ∧
  (∀ (s : State) (on : Bool), s.canonical → s.Quiet → s.flag Reg.SYS_C1CTL_RUN = on → Does (.c1ctlRunWrite on) s s) ∧
  (∀ s : State, s.canonical →
    ∃ u, exec .backupDomainReset s = .next u ∧ u.rtc.sec = 0 ∧ u.rtc.running = false ∧ u.tb.lfok = false ∧
      (∀ a, u.reg a = if keepAlways a && a != Reg.SYS_KEYSTAT then regReset a else s.reg a) ∧ u.mem = s.mem)

/-- R15, R16, R18, R20, R23: the commands of the cores' own caches and CSRs. Log entries 4 (custom CSR numbers) and 74 (private registers). -/
def Obligations.CoreCachesAndCsrs : Prop :=
  ∀ (s : State) (c : CoreId),
    Does (.fenceI c) s (s.setCore c { s.core c with icache := [] }) ∧
    (∀ d : BitVec 4,
      let v := s.setCore c { s.core c with
        icen := d.getLsbD 0
        dcen := d.getLsbD 1
        icache := if d.getLsbD 2 then [] else (s.core c).icache
        dcache := if d.getLsbD 3 then [] else (s.core c).dcache }
      Does (.icinv c d) s v ∧ Does (.dcinv c d) s v) ∧
    (∀ n : BitVec 12, let custom := (0x800 ≤ n.toNat ∧ n.toNat < 0x900) ∨ (0x500 ≤ n.toNat ∧ n.toNat / 64 % 4 = 3)
      let listed := n = 0x7C0 ∨ n = 0xFC0 ∨ n = 0xFC1
      let told := s.setCore c { s.core c with resp := .illegal }
      (custom → ¬listed → (s.core c).active = true → ∃ w, Traps (.illegalCsr c n) s told c 2 w) ∧
      (custom → ¬listed → (s.core c).active = false → ∃ f, Does (.illegalCsr c n) s { told with free := f }) ∧
      (¬custom ∨ listed → Does (.illegalCsr c n) s s)) ∧
    (∀ t : Nat, let v := s.at_ t
      v.Quiet → Does (.timeCsrRead c t) s (v.setCore c { v.core c with
        resp := .data (BitVec.ofNat 32 v.us)
        timeh := v.us / 2 ^ 32 % 2 ^ 32
        ntimef := v.net % 40 }))

/-- R22, R24, R25, R329, R335: debug requests and WFI. -/
def Obligations.DebugAndWfi : Prop :=
  (∀ (s : State) (c : CoreId), s.Quiet → s.dbg.dmactive = true →
    ((s.core c).run ≠ .held → (s.core c).halted = false →
      ∃ u, exec (.debugHaltRequest c) s = .next u ∧ (u.core c).halted = true ∧ (u.core c).run = .running ∧
        u.regs = s.regs ∧ u.mem = s.mem) ∧
    ((s.core c).run = .held ∨ (s.core c).halted = true → Does (.debugHaltRequest c) s s) ∧
    ((s.core c).halted = true → (s.core c).wait = none → bitOf (s.core c).hart.dcsr 2 = false → s.start.dump = none → Does (.debugResumeRequest c) s
      (({ s with dbg := { s.dbg with resumed := s.dbg.resumed.set (coreNum c) true } } : State).setCore c
        { s.core c with halted := false, hart := (s.core c).hart.leaveDebug })) ∧
    ((s.core c).halted = false → Does (.debugResumeRequest c) s s)) ∧
  (∀ (s : State) (c : CoreId), s.Quiet → s.dbg.dmactive = false →
    Does (.debugHaltRequest c) s s ∧ Does (.debugResumeRequest c) s s) ∧
  (∀ (s : State) (on : Bool), s.Quiet → Does (.dmcontrolDmactive on) s
    { s with dbg := if on then { s.dbg with dmactive := true } else { Debug.reset with resp := s.dbg.resp } }) ∧
  (∀ (s : State) (c : CoreId) (t : Nat), let v := s.at_ t
    let other := v.core (match c with | .c0 => .c1 | .c1 => .c0)
    v.Quiet →
    ((v.core c).run = .running → (v.core c).halted = false → v.eligible c = [] →
      (other.quiescent = false ∨ (v.pwr.cmd = none ∧ v.flag Reg.PWR_SLEEPCFG_EN = false)) →
      ∃ u, exec (.wfi c t) s = .next u ∧ (u.core c).run = .wfi ∧ u.regs = v.regs ∧ u.mem = v.mem) ∧
    ((v.core c).run = .running → (v.core c).halted = false → v.eligible c ≠ [] → v.get (Reg.ICOL_MOD_N (coreNum c)) = 0 →
      ∃ u, exec (.wfi c t) s = .next u ∧ (u.core c).run = .running ∧ u.regs = v.regs ∧ u.mem = v.mem) ∧
    ((v.core c).run ≠ .running ∨ (v.core c).halted = true → Does (.wfi c t) s v))

/-- R15, R24, R32, R33: what Table 1-6 and the protection of a core do not allow. -/
def Obligations.DisallowedAccessesFault : Prop :=
  ∀ (s : State) (ag : Agent) (k : AccKind) (w : Width) (addr data : Word) (ecc : Ecc) (t : Nat),
    let v := s.at_ t
    let r := region addr.toNat
    let small := r = .step ∨ r = .periph ∨ r = .window0 ∨ r = .window1
    let answer : Response := match ag with
      | .debug | .host => .error
      | _ => match k with
        | .load => .loadFault
        | .store => .storeFault
        | .fetch => .fetchFault
    v.Quiet → v.agentTrig ag k addr.toNat = none →
    r = .hole ∨ (k ≠ .fetch ∧ addr.toNat % widthBytes w ≠ 0) ∨ (k = .fetch ∧ (r = .radio ∨ r = .ballast ∨ small)) ∨
      (k = .store ∧ (r = .rom ∨ r = .flash ∨ r = .window)) ∨ (w ≠ .w32 ∧ small) ∨ (ag = .debug ∧ w ≠ .w32) ∨
      v.agentPmp ag k addr.toNat (widthBytes w) = false →
    match agentCore ag with
    | none => Does (.memoryAccess ag k w addr data ecc t) s (v.respond ag answer)
    | some c =>
      ((v.core c).active = false → Does (.memoryAccess ag k w addr data ecc t) s (v.respond ag answer)) ∧
      ((v.core c).active = true →
        Traps (.memoryAccess ag k w addr data ecc t) s (v.respond ag answer) c
          (match k with
            | .load => 5
            | .store => 7
            | .fetch => 1) addr)

/-- R32, R34: stores and loads that the address map allows. -/
def Obligations.MemoryStoresAndLoads : Prop :=
  ∀ (s : State) (ag : Agent) (w : Width) (addr data : Word) (t : Nat), let v := s.at_ t
    let a := addr.toNat
    let n := widthBytes w
    let allowed := fun k : AccKind => v.agentTrig ag k a = none ∧ v.agentPmp ag k a n = true ∧ (ag = .debug → w = .w32)
    let stored := ∃ u, exec (.memoryAccess ag .store w addr data .clean t) s = .next u ∧
        (∀ i, i < n → u.byte (a + i) = BitVec.ofNat 8 (data.toNat / 256 ^ i)) ∧
        (∀ x, x < a ∨ a + n ≤ x → u.byte x = v.byte x) ∧ u.regs = v.regs ∧ u.heard ag = .done
    v.canonical → v.Quiet → a % n = 0 →
    (allowed .store → (0x20000000 ≤ a ∧ a < 0x20100000) ∨ (0x21000000 ≤ a ∧ a < 0x21020000) → v.txqOver = false →
      (∀ b, bankOf a = some b → v.bank b = .on ∧ v.bankBad b = false) → stored) ∧
    (allowed .store → (0x22000000 ≤ a ∧ a < 0x22078000) ∨ (0x2207F000 ≤ a ∧ a < 0x2207F400) →
      w = .w32 ∨ v.nvBad (a / 4 * 4) = false → stored) ∧
    (allowed .load → v.cached ag .load a n = none →
      (((0x20000000 ≤ a ∧ a < 0x20100000) ∨ (0x21000000 ≤ a ∧ a < 0x21040000)) ∧
        (∀ b, bankOf a = some b → v.bank b = .on ∧ v.bankBad b = false)) ∨ a < 0x8000 →
      ∃ u, exec (.memoryAccess ag .load w addr data .clean t) s = .next u ∧
        u.heard ag = .data (BitVec.ofNat 32 (leNat (v.bytes a n))) ∧ v.sameBytes u ∧ u.regs = v.regs)

/-- R35: stores to step memory. -/
def Obligations.StepMemoryStoresNeedAStoppedEngine : Prop :=
  ∀ (s : State) (ag : Agent) (addr data : Word) (t : Nat),
    let a := addr.toNat
    let e := (a - 0x30000000) / 0x2000
    let store := fun (i : Instr) (v : State) =>
      v.canonical → v.Quiet → v.agentTrig ag .store a = none → v.agentPmp ag .store a 4 = true →
      ((v.eng e).run = false → v.loading e = false →
        ∃ u, exec i s = .next u ∧ u.word a = data ∧ (∀ x, x < a ∨ a + 4 ≤ x → u.byte x = v.byte x) ∧ u.regs = v.regs ∧
          u.heard ag = .done) ∧
      ((v.eng e).run = true ∨ v.loading e = true →
        ∃ u, exec i s = .next u ∧ v.sameBytes u ∧ v.regsBut u [Reg.REEL_WIGN] ∧
          u.reg Reg.REEL_WIGN = v.reg Reg.REEL_WIGN ||| (1 <<< e) ∧ u.heard ag = .done)
    0x30000000 ≤ a → a < 0x30022000 → a % 4 = 0 →
    store (.stepMemoryStore ag addr data) s ∧ store (.memoryAccess ag .store .w32 addr data .clean t) (s.at_ t)

/-- The classes of register writes, and the boundary of the unit at which a waiting write is applied. -/
def Obligations.RegisterWritesAndBoundaries : Prop :=
  (∀ (s : State) (ag : Agent) (data : Word), s.canonical → s.Quiet →
    let after := fun (a : Nat) (P : State → Prop) => s.agentTrig ag .store a = none → s.agentPmp ag .store a 4 = true →
      ∃ u, exec (.registerWrite ag (BitVec.ofNat 32 a) data) s = .next u ∧ u.heard ag = .done ∧ u.mem = s.mem ∧ u.lost = s.lost ∧ P u
    let shadows := fun (a : Nat) (m : Word) => after a fun u => u.regs = s.regs ∧ u.shadowOf a &&& m = data &&& m ∧ ∀ x, x ≠ a → u.shadowOf x = s.shadowOf x
    let kept := fun (a : Nat) (u : State) => ∀ x, x ≠ a → u.reg x = s.reg x
    (∀ p ∈ [(Reg.CFG_WIN, (0xFF : Word)), (Reg.ENV_NFCFG, 1), (Reg.LINK_SLOTCFG, 0xFFFF), (Reg.LINK_PPM, 0x7F), (Reg.LINK_DWCFG, 0xFFFF3F01),
      (Reg.LINK_FFCFG, 7)], shadows p.1 p.2) ∧
    (∀ i, (i < 128 → shadows (Reg.LINK_MAP i) 0xFFFFFFFF) ∧ (i < 32 → shadows (Reg.LINK_MAPCTL i) 0x7F01) ∧
      (i < 4 → shadows (Reg.LINK_IDEXTLO i) 0xFFFFFFFF ∧ shadows (Reg.LINK_IDEXTHI i) 0xFFFFFFFF ∧ shadows (Reg.LINK_IDSPAN i) 0xFFFFFFFF ∧
        shadows (Reg.LINK_IDCTL i) 3)) ∧
    (after Reg.RFE_ANTCFG fun u =>
      if s.rfe.st = .off ∧ s.flag Reg.RFE_CTL_EN = false then
        u.reg Reg.RFE_ANTCFG &&& 0x13 = data &&& 0x13 ∧ kept Reg.RFE_ANTCFG u
      else u.flag Reg.RFE_STATUS_WRITE_IGNORED = true ∧ kept Reg.RFE_STATUS u) ∧
    (∀ g, g < 16 → after (Reg.ENV_GMODE g) fun u =>
      if (s.eng g).run = false then u.reg (Reg.ENV_GMODE g) &&& 1 = data &&& 1 ∧ kept (Reg.ENV_GMODE g) u
      else u.flag (Reg.ENV_GSTAT_WRITE_IGNORED g) = true ∧ kept (Reg.ENV_GSTAT g) u) ∧
    (∀ q, q < 2 → after (Reg.CIPH_QBASE q) fun u =>
      if s.flag Reg.CIPH_CTL_EN = false ∧ s.ciph.cur = none then
        u.reg (Reg.CIPH_QBASE q) &&& 0xFFFFFFE0 = data &&& 0xFFFFFFE0 ∧ kept (Reg.CIPH_QBASE q) u
      else u.flag Reg.CIPH_STATUS_WRITE_IGNORED = true ∧ kept Reg.CIPH_STATUS u) ∧
    (after Reg.LINK_PARENT fun u => u.regs = s.regs ∧ u.last Reg.LINK_PARENT &&& 0x83FFFFFF = data &&& 0x83FFFFFF) ∧
    (after Reg.PWR_HSCFG fun u => u.reg Reg.PWR_HSCFG &&& 0xFF = data &&& 0xFF ∧ kept Reg.PWR_HSCFG u ∧ u.waits = []) ∧
    (∀ a ∈ [Reg.SYS_ID, Reg.SYS_BOOTSTAT, Reg.CFG_DIGEST, Reg.CFG_EPOCH, Reg.CFG_PEND, Reg.LINK_EVC_LO, Reg.PWR_HSRES], after a fun u =>
      u.regs = s.regs ∧ u.shadow = s.shadow ∧ u.waits = s.waits) ∧
    (∀ a, a % 4 = 0 → region a = .periph → regRow? a = none → after a fun u => u.regs = s.regs ∧ u.shadow = s.shadow ∧ u.waits = s.waits)) ∧
  (∀ (s : State) (t n : Nat), let v := s.at_ t
    let goes := fun a => (v.armed.filter fun p => p.1 = a).foldl (fun w p => mergeBits w (sMask a) p.2)
      ((v.waits.filter fun x => x.addr = a).foldl (fun w x => mergeBits w x.mask x.val) (v.reg a))
    let own := [Reg.RFE_CTL, Reg.RFE_SPCTL, Reg.ENV_CTL, Reg.PWR_DVFS, Reg.TRNG_CTL, Reg.WDT_CTL 0, Reg.WDT_CTL 1]
    let applied := fun u : State => u.waits = [] ∧ u.armed = [] ∧ u.pend = 0 ∧
      (∀ a, a ∈ v.waits.map (fun x => x.addr) ∨ a ∈ v.armed.map Prod.fst → u.reg a = goes a) ∧
      (v.armed ≠ [] → (∀ p ∈ v.cfg.lag, p.1 ≠ n) → u.lagOf n = min 0xFFFFFFFF ((v.now - v.cfg.switchT) / 40))
    v.canonical → (({ v with waits := [], armed := [] } : State).setReg Reg.CFG_PEND 0).Quiet →
    (∀ x ∈ v.waits, unitOf x.addr = n ∧ x.addr ∉ own ∧ ∃ r, regRow? x.addr = some r ∧ r.rwL ≠ 0) → (∀ p ∈ v.armed, unitOf p.1 = n ∧ p.1 ∉ own ∧ sMask p.1 ≠ 0) →
    v.pend = (if v.armed = [] then 0 else (1 : Word) <<< n) →
    (n < 18 ∨ n ∈ [19, 24, 26, 27, 30] → v.atBoundary n = true → ∃ u, exec (.unitSafeBoundary n t) s = .next u ∧ applied u ∧
      (∀ a, a ≠ Reg.CFG_PEND → u.reg a = goes a) ∧ (n = 16 ∨ 18 ≤ n → u.mem = v.mem) ∧
      ∀ i, i < 8 → n < 16 → let l := v.lane (8 * n + i)
        l.st ≠ .preamble → l.st ≠ .frame → goes (Reg.ENV_GCFG n) ≠ v.reg (Reg.ENV_GCFG n) → (u.lane (8 * n + i)).st = u.restState (8 * n + i)) ∧
    (n = 17 → v.env.st ≠ .survey ∨ v.get (Reg.EVL_LINECFG_SUB (v.outLine 1)) = 0 → ∀ pow, ∃ u, exec (.msBoundary pow t) s = .next u ∧ applied u) ∧
    (n = 18 ∨ n < 18 ∧ v.atBoundary n = false → ∃ u, exec (.unitSafeBoundary n t) s = .next u ∧ u.regs = v.regs ∧ u.waits = v.waits ∧ u.armed = v.armed))

/-- R48 to R54, R57, R59: arming, the switch and what schedules it, the lag events and the digests. -/
def Obligations.EpochSwitchesAndDigests : Prop :=
  ((∀ s : State, s.canonical → s.Quiet → (∀ p ∈ s.shadowDiff, unitOf p.1 = 18) →
    ∃ u, exec .epochNow s = .next u ∧ u.get Reg.CFG_EPOCH_CUR = (s.get Reg.CFG_EPOCH_CUR + 1) % 65536 ∧
      u.armed = s.shadowDiff ∧ u.reg Reg.CFG_PEND = (if s.shadowDiff = [] then 0 else 0x40000) ∧
      u.cfg.window = s.get Reg.CFG_WIN_WINDOW ∧ (∀ a, a ≠ Reg.CFG_EPOCH → a ≠ Reg.CFG_PEND → u.reg a = s.reg a) ∧ u.mem = s.mem) ∧
  (∀ s : State, s.reg Reg.CFG_PEND = 0x40000 → (s.setReg Reg.CFG_PEND 0).Quiet →
    ∃ u, exec .epochNow s = .next u ∧ u.regs = s.regs ∧ u.cfg.held = some false ∧ u.armed = s.armed ∧ u.mem = s.mem) ∧
  (∀ (s : State) (t n : Nat) (late : Bool), let v := s.at_ t
    v.canonical → v.waits = [] → v.cfg.held = some late → v.pend = (1 : Word) <<< n →
    (({ v with armed := [], cfg := { v.cfg with held := none } } : State).setReg Reg.CFG_PEND 0).Quiet →
    (∀ p, p ∈ v.armed ∨ p ∈ v.shadowDiff → unitOf p.1 = n ∧ sMask p.1 ≠ 0) → n < 18 → v.atBoundary n = true →
    ∃ u, exec (.unitSafeBoundary n t) s = .next u ∧ u.get Reg.CFG_EPOCH_CUR = (v.get Reg.CFG_EPOCH_CUR + 1) % 65536 ∧ u.cfg.held = none ∧
      u.pend = 0 ∧ u.armed = [] ∧ u.flag Reg.CFG_STATUS_LATE = (late || v.flag Reg.CFG_STATUS_LATE) ∧
      ∀ a, sMask a ≠ 0 → unitOf a = n → u.reg a = mergeBits (v.reg a) (sMask a) (v.shadowOf a))) ∧
  ((∀ s : State, let n := s.get Reg.CFG_AT_HI_VAL * 2 ^ 32 + (s.reg Reg.CFG_AT_LO).toNat
    Does .epochAt s (if s.link.evc < n then { s with cfg := { s.cfg with sched := some n } } else s.put Reg.CFG_STATUS_REFUSED 1) ∧
    Does .epochCancel s { s with cfg := { s.cfg with sched := none } }) ∧
  (∀ (s : State) (t : Nat), let v := s.at_ t
    v.reg Reg.CFG_PEND = 0x40000 → (v.setReg Reg.CFG_PEND 0).Quiet → v.canonical →
    (if v.flag Reg.CFG_STATUS_STUCK = false ∧ v.cfg.mixedAt + 40000 * max 1 (v.get Reg.CFG_LAGLIM_MS) < v.now then
      ∃ u, exec (.lagLimitExpiry t) s = .next u ∧ u.flag Reg.CFG_STATUS_STUCK = true ∧
        (∀ a, a ≠ Reg.CFG_STATUS → u.reg a = v.reg a) ∧
        u.icol0.buf = v.icol0.buf ++ [⟨139, v.icolPri .c0 139, false, 0x40000, v.reg Reg.CFG_EPOCH, v.us⟩] ∧ u.icol1.buf = v.icol1.buf
    else ∃ u, exec (.lagLimitExpiry t) s = .next u ∧ u.regs = v.regs ∧ u.icol0.buf = v.icol0.buf)) ∧
  (∀ s : State, Does .digestRecomputeDone s { s with cfg := { s.cfg with
      digest := s.deviceDig false
      sdigest := s.deviceDig true
      udig := (List.range 32).map fun n => (n, s.unitDig n)
      digBusy := false } }))

/-- R66 to R68, R71: start and background calibration of the RFE; log entries 52, 104 and 113 for the order of the steps, what is
remembered and the reading that gives TEMP. -/
def Obligations.RfeStartsAndCalibrates : Prop :=
  let calm := fun (v : State) => v.canonical ∧ v.Quiet ∧ v.flag Reg.RFE_SPCTL_EN = false ∧ v.rfe.holder = none ∧ v.rfe.waiting = []
  let step := fun (r : Rfe) (k : Nat) (b : BgCal) =>
    { r with st := .cal, calib := some (k, true), forTx := false, locked := false, tune := none, bg := b }
  (∀ (s : State) (t : Nat), let v := s.at_ t
    calm v →
    (v.rfe.st = .starting → v.rfe.bg = .none → Does (.rfeStartupDone t) s
      { v with rfe := { v.rfe with st := .idle, locked := false, tune := none, calib := none, forTx := false } }) ∧
    (v.rfe.st ≠ .starting → Does (.rfeStartupDone t) s v) ∧
    (v.flag Reg.RFE_CALCTL_AUTO = false → Does (.autoRecal t) s v) ∧
    (∀ k, v.flag Reg.RFE_CALCTL_AUTO = true → v.rfe.st = .idle → v.rfe.bg = .none → v.unusable? = some k →
      Does (.autoRecal t) s { v with rfe := step v.rfe k .stale }) ∧
    (∀ k n, k < 128 → v.rfe.st = .cal → v.rfe.calib = some (k, true) → v.rfe.bg = .none ∨ v.rfe.bg = .all n → n < 128 →
      ∃ u, exec (.calStepDone t) s = .next u ∧ bitOf (u.reg (Reg.RFE_CALTAB k)) 31 = true ∧
        bitsOf (u.reg (Reg.RFE_CALTAB k)) 16 8 = ofSigned 8 v.dieTemp ∧ (∀ a, a ≠ Reg.RFE_CALTAB k → u.reg a = v.reg a) ∧
        u.mem = v.mem ∧
        (v.rfe.bg = .none → u.rfe.st = .idle) ∧ (v.rfe.bg = .all n → u.rfe.calib = some (n, true) ∧ u.rfe.bg = .all (n + 1)))) ∧
  (∀ s : State, calm s →
    (s.rfe.st = .idle → Does .recalAll s { s with rfe := step s.rfe 0 (.all 1) }) ∧
    (s.rfe.st ≠ .idle → Does .recalAll s { s with rfe := { s.rfe with bg := .all 0 } }) ∧
    (s.rfe.st ≠ .idle → Does .recalStale s { s with rfe := { s.rfe with bg := .stale } }) ∧
    (∀ k, s.rfe.st = .idle → s.unusable? = some k → Does .recalStale s { s with rfe := step s.rfe k .stale }) ∧
    (s.rfe.st = .idle → s.unusable? = none → Does .recalStale s { s with rfe := { s.rfe with bg := .none } }) ∧
    Does .stopCal s { s with rfe := { s.rfe with bg := .none } })

/-- R72 to R74, R79, R83, R84: from the claim to the lock; log entry 83 for the lock of a cancelled transmit. -/
def Obligations.TransmitClaimsAndLocks : Prop :=
  ∀ (s : State) (t : Nat) (tx : Tx), let v := s.at_ t
    let k := tuneOf tx.fmt tx.chan
    v.canonical → v.Quiet → v.tb.src = .xtal → v.rfe.bg = .none →
    let ended := fun (c : Instr) (code : Nat) =>
      ∃ u, exec c s = .next u ∧ u.rfe.holder = none ∧ u.rfe.req = false ∧ u.rfe.st = .idle ∧
        u.reg Reg.RFE_TXSTAT = BitVec.ofNat 32 (tx.port * 2 ^ 8 + code)
    (v.rfe.waiting = [tx] → v.rfe.holder = none → v.rfe.st = .idle ∨ v.rfe.st = .spRx → v.flag Reg.RFE_CTL_EN = true →
      tx.asap = true ∨ (tx.due ≤ v.now + 1280 ∧ v.now < tx.due + 40 * tx.tol - 320) →
      ∃ u, exec (.txClaim t) s = .next u ∧ u.rfe.waiting = [] ∧ u.rfe.locked = false ∧ u.rfe.tune = some k ∧
        u.rfe.holder = some { tx with
          claim := v.now, due := if tx.asap then v.now + 1280 else tx.due, pwr := max (-20) (min 12 tx.pwr) } ∧
        (tx.pwr < -20 ∨ 12 < tx.pwr → u.flag Reg.RFE_STATUS_PWR_CLAMP = true) ∧
        (if v.readDie.usable k = true then u.rfe.st = .locking ∧ u.rfe.calib = none
         else u.rfe.st = .cal ∧ u.rfe.calib = some (k, false))) ∧
    (v.rfe.holder = some tx →
      Does (.coexReqAssert t) s
        (if v.flag Reg.COEX_CTL_EN = true ∧ (tx.isAck = true ∨ tx.due ≤ v.now + 40 * max 8 (v.get Reg.COEX_CTL_LEAD)) then
          { v with rfe := { v.rfe with req := true, pri := tx.pri } } else v)) ∧
    (v.rfe.holder = none → v.rfe.st = .locking → v.spMay = true →
      ∃ u, exec (.synthLockDone t) s = .next u ∧ u.rfe.st = .spRx ∧ u.rfe.locked = true ∧ u.regs = v.regs) ∧
    (v.rfe.holder = some tx → v.rfe.waiting = [] → v.rfe.st = .locking → v.rfe.forTx = true → v.flag Reg.RFE_SPCTL_EN = false →
      (tx.asap = false →
        (v.now ≤ tx.due + 40 * tx.tol - 320 → Does (.synthLockDone t) s
          { v with rfe := { v.rfe with st := .txWait, locked := true, holder := some { tx with lockT := some v.now } } }) ∧
        (tx.due + 40 * tx.tol - 320 < v.now → ended (.synthLockDone t) 1) ∧
        (tx.due + 40 * tx.tol - 320 ≤ v.now → ended (.txLateCancel t) 1) ∧
        (v.now < tx.due + 40 * tx.tol - 320 → Does (.txLateCancel t) s v) ∧ Does (.synthTimeout t) s v) ∧
      (tx.asap = true →
        (v.now ≤ tx.claim + 4000 → Does (.synthLockDone t) s
          { v with rfe := { v.rfe with st := .txWait, locked := true, holder := some { tx with lockT := some v.now } } }) ∧
        (tx.claim + 4000 < v.now → ended (.synthLockDone t) 2) ∧
        (tx.claim + 4000 ≤ v.now → ended (.synthTimeout t) 2) ∧
        (v.now < tx.claim + 4000 → Does (.synthTimeout t) s v) ∧ Does (.txLateCancel t) s v))

/-- R73, R75, R79, R81, R84, R85, R87, R88, R126, R131, R418; log entry 80 for the rounding of LATE. -/
def Obligations.TransmitGoesOnAir : Prop :=
  ∀ (s : State) (t : Nat) (tx : Tx), let v := s.at_ t
    v.canonical → v.Quiet → v.tb.src = .xtal → v.rfe.bg = .none → v.rfe.waiting = [] → v.flag Reg.RFE_SPCTL_EN = false →
    (∀ gnt : Bool, v.rfe.st = .txWait → v.rfe.holder = some tx → tx.due ≤ v.now + 320 →
      let S := max (max tx.due (tx.lockT.getD v.now + 320)) (v.now + 320)
      (v.flag Reg.COEX_CTL_EN = false ∨ (gnt = true ∧ v.pins.vio = true) →
        ∃ u, exec (.txStart gnt t) s = .next u ∧ u.rfe.st = .txStart ∧ u.rfe.holder = some { tx with start := some S } ∧
          (v.flag Reg.COEX_CTL_EN = true → u.rfe.req = true ∧ u.rfe.pri = tx.pri) ∧
          u.rfe.femFrom = (if v.flag Reg.RFE_ANTCFG_FEM = true then some (S - 240) else none) ∧
          u.rfe.blank = true ∧ u.rfe.blankEnd = none ∧ u.env.agcHeld = true ∧ u.env.expA = 15 ∧ u.env.expB = 15 ∧ u.regs = v.regs) ∧
      (v.flag Reg.COEX_CTL_EN = true → gnt = false ∨ v.pins.vio = false →
        ∃ u, exec (.txStart gnt t) s = .next u ∧ u.rfe.holder = none ∧ u.rfe.st = .idle ∧ u.rfe.req = false ∧
          u.rfe.blank = v.rfe.blank ∧ u.reg Reg.RFE_TXSTAT = BitVec.ofNat 32 (tx.port * 2 ^ 8 + 3) ∧
          u.get Reg.COEX_CNT_DENIED = min (2 ^ Reg.COEX_CNT_DENIED.width - 1) (v.get Reg.COEX_CNT_DENIED + 1))) ∧
    (∀ gnt : Bool, v.rfe.st = .txWait → v.rfe.holder = some tx → v.now + 320 < tx.due →
      Does (.txStart gnt t) s { v with rfe := { v.rfe with gnt := gnt } }) ∧
    (∀ S, v.rfe.holder = some tx → tx.start = some S →
      (v.rfe.st = .txStart → Does (.txFirstChip t) s (if S ≤ v.now then
        let sync : List Byte := [0, 0, 0, 0, if tx.fmt = 1 then 0xA7 else 0x5C]
        let n := tx.octets.length
        let phr := if tx.fmt = 1 then leBytes 1 (n % 128) else leBytes 2 (n % 256 + (if tx.crct then 256 else 0))
        { v with rfe := { v.rfe with st := .tx, air := some ⟨S, tx.fmt, tuneOf tx.fmt tx.chan, tx.port, tx.pwr, sync ++ phr ++ tx.octets⟩ } }
        else v)) ∧
      (v.rfe.st = .tx → Does (.txLastChip t) s (if S + 40 * tx.air ≤ v.now then { v with rfe := { v.rfe with st := .txTail } } else v)) ∧
      (v.rfe.st = .txTail → v.rfe.air ≠ none → v.now < S + 40 * tx.air + 160 → Does (.txTailEnd t) s v) ∧
      (v.rfe.st = .txTail → v.rfe.air ≠ none → S + 40 * tx.air + 160 ≤ v.now →
        ∃ u, exec (.txTailEnd t) s = .next u ∧ u.rfe.holder = none ∧ u.rfe.st = .idle ∧ u.rfe.req = false ∧ u.rfe.air = none ∧
          u.rfe.reqTo = (if v.rfe.req = true then v.now + 80 else 0) ∧ u.rfe.priTail = v.rfe.pri ∧
          u.rfe.femTo = (if v.rfe.femFrom = none then none else some (v.now + 80)) ∧
          u.rfe.blankEnd = some (v.now + 640) ∧ u.env.agcHeld = false ∧
          u.reg Reg.RFE_TXSTAT = BitVec.ofNat 32 ((S - tx.due) / 40 * 2 ^ 16 + tx.port * 2 ^ 8) ∧
          (∀ e k l, tx.src = .queue e k l → e.q < 4 → e.slot < 32 → v.txqOver = false →
            0x21000 ≤ v.get Reg.REEL_TXQBASE_ADDR → v.get Reg.REEL_TXQBASE_ADDR < 0x21040 → (∀ b, 16 ≤ b → b < 20 → v.bank b = .on ∧ v.bankBad b = false) →
            u.word (v.slotAddr e.q e.slot + 0x18) = BitVec.ofNat 32 (e.ctx * 2 ^ 21 + e.eng * 2 ^ 16 + tx.port * 2 ^ 9 + 2 ^ 8) ∧
            u.txq = v.txq.filter fun x => !(x.q = e.q && x.slot = e.slot)))) ∧
    (∀ e, v.rfe.blank = true → v.rfe.blankEnd = some e →
      (e ≤ v.now → ∃ u, exec (.blankEnd t) s = .next u ∧ u.rfe.blank = false ∧ u.env.blankFrom = none ∧ u.regs = v.regs) ∧
      (v.now < e → Does (.blankEnd t) s v))

/-- R76, R79, R80, R86, R221, R231, R232, R418; log entries 50 and 51 for the acknowledgement and the end of the PA. -/
def Obligations.CoexRevocationAndAckTurn : Prop :=
  ∀ (s : State) (t : Nat), let v := s.at_ t
    v.canonical → v.Quiet → v.tb.src = .xtal → v.rfe.waiting = [] → v.rfe.bg = .none → v.flag Reg.RFE_SPCTL_EN = false →
    (∀ tx, v.rfe.holder = some tx → v.rfe.st = .txStart ∨ v.rfe.st = .tx → v.flag Reg.COEX_CTL_EN = true → v.flag Reg.COEX_CTL_ABORT = true →
      v.pins.vio = true →
      ∃ u, exec (.coexGntRevoke t) s = .next u ∧ u.rfe.holder = some tx ∧ u.rfe.air = none ∧ u.rfe.gnt = false ∧ u.rfe.st = .txTail ∧ u.rfe.req = false ∧
        u.rfe.reqTo = (if v.rfe.req = true then v.now + 160 else 0) ∧
        u.rfe.femTo = (if v.rfe.femFrom = none then none else some (v.now + 160)) ∧
        u.rfe.blankEnd = some (v.now + 880) ∧ u.reg Reg.RFE_TXSTAT = BitVec.ofNat 32 (tx.port * 2 ^ 8 + 4) ∧
        u.get Reg.COEX_CNT_ABORTED = min (2 ^ Reg.COEX_CNT_ABORTED.width - 1) (v.get Reg.COEX_CNT_ABORTED + 1)) ∧
    (v.rfe.holder = none ∨ (v.rfe.st ≠ .txStart ∧ v.rfe.st ≠ .tx) ∨ v.flag Reg.COEX_CTL_EN = false ∨ v.flag Reg.COEX_CTL_ABORT = false ∨
        v.pins.vio = false →
      Does (.coexGntRevoke t) s { v with rfe := { v.rfe with gnt := false } }) ∧
    (∀ tx b, v.rfe.holder = some tx → v.rfe.st = .txTail → v.rfe.air = none → v.rfe.blankEnd = some b →
      (b ≤ v.now + 800 → ∃ u, exec (.txTailEnd t) s = .next u ∧ u.rfe.holder = none ∧ u.rfe.st = .idle ∧ u.rfe.blankEnd = some b ∧ u.regs = v.regs) ∧
      (v.now + 800 < b → Does (.txTailEnd t) s v)) ∧
    (∀ k f, k < 129 → (v.lane k).frames = [f] → (v.lane k).acks = [] → f.fend = true → f.ack = .requested →
      (f.tend + 320 = v.now → (∀ j, j < k → v.commitOf j = none) →
        (v.rfe.holder ≠ none →
          ∃ u, exec (.ackCommit k t) s = .next u ∧ (u.lane k).frames = [{ f with ack := .turnLost, ackDone := true }] ∧
            bitOf (u.ctx (engOf k) (ctxOf k)).lat 18 = true ∧ u.regs = v.regs ∧ u.rfe = v.rfe) ∧
        (v.rfe.holder = none → v.dwellRoom f.fmt f.chan (airtime f.fmt (3 + f.fcs)) = false →
          ∃ u, exec (.ackCommit k t) s = .next u ∧ (u.lane k).frames = [{ f with ack := .done 5, ackDone := true }] ∧
            bitOf (u.ctx (engOf k) (ctxOf k)).lat 18 = true ∧ u.rfe = v.rfe ∧ bitsOf (u.reg Reg.RFE_TXSTAT) 0 8 = 5 ∧
            u.get Reg.LINK_DWSTAT_REFUSED = min (2 ^ Reg.LINK_DWSTAT_REFUSED.width - 1) (v.get Reg.LINK_DWSTAT_REFUSED + 1)) ∧
        (v.rfe.holder = none → v.dwellRoom f.fmt f.chan (airtime f.fmt (3 + f.fcs)) = true → v.rfe.st = .idle → v.flag Reg.RFE_CTL_EN = true →
          ∃ u tx, exec (.ackCommit k t) s = .next u ∧ u.rfe.holder = some tx ∧ tx.due = f.tend + 1600 ∧ tx.tol = 0 ∧ tx.asap = false ∧
            tx.octets.length = 3 + f.fcs ∧ tx.octets.take 2 = [if f.ackFp = true ∨ f.latchFp = true then 0x12 else 0x02, 0x00] ∧
            u.rfe.tune = some (tuneOf f.fmt f.chan) ∧ (u.rfe.st = .locking ∨ u.rfe.st = .cal) ∧
            (k < 128 → (u.lane k).frames = [{ f with ack := .committed, ackDone := false }]))) ∧
      (f.tend + 320 ≠ v.now → Does (.ackCommit k t) s v))

/-- R9 on every register with RC fields that has a command of its own, and the latching reads of LINK and the calendar. -/
def Obligations.CountReadsClear : Prop :=
  ∀ (s : State) (ag : Agent), s.Calm →
    let reads := fun (c : Instr) (x : Word) (as : List Nat) (P : State → Prop) =>
      ∃ u, exec c s = .next u ∧ u.heard ag = .data x ∧ s.regsBut u as ∧ s.sameBytes u ∧ P u
    let clears := fun (c : Instr) (a : Nat) (m : Word) => reads c (s.reg a) [a] fun u => u.reg a = s.reg a &&& ~~~m
    clears (.coexCntRead ag) Reg.COEX_CNT 0xFFFFFFFF ∧
    (∀ k, k < 128 → clears (.envLerrRead ag k) (Reg.ENV_LERR k) 0xFFFFFFFF) ∧
    clears (.linkDwstatRead ag) Reg.LINK_DWSTAT 0x0000FFFF ∧
    (∀ r, clears (.linkRputRead ag r) (Reg.LINK_RPUT (coreNum r)) 0xFFFF0000) ∧
    clears (.memcBcntRead ag) Reg.MEMC_BCNT 0xFFFFFFFF ∧
    clears (.flcEcntRead ag) Reg.FLC_ECNT 0xFFFFFFFF ∧
    clears (.flcRrstatRead ag) Reg.FLC_RRSTAT 0xFFFF0000 ∧
    clears (.evlLoopRead ag) Reg.EVL_LOOP 0xFFFF0000 ∧
    (∀ l, l < 96 → clears (.evlCoalRead ag l) (Reg.EVL_COAL l) 0x0000FFFF) ∧
    (∀ c, clears (.icolOvfcntRead ag c) (Reg.ICOL_OVFCNT (coreNum c)) 0x0000FFFF) ∧
    clears (.sadcResultRead ag) Reg.SADC_RESULT 0x80000000 ∧
    reads (.pwrHovstatRead ag) (s.reg Reg.PWR_HOVSTAT &&& 0xFFFF0000) [Reg.PWR_HOVSTAT]
      (fun u => u.reg Reg.PWR_HOVSTAT = s.reg Reg.PWR_HOVSTAT &&& 0x0000FFFF) ∧
    reads (.pwrHovtimeRead ag) (BitVec.ofNat 32 (min 0xFFFFFFFF (s.pwr.hovTicks / 40))) [Reg.PWR_HOVTIME] (fun u => u.pwr.hovTicks = 0) ∧
    reads (.linkEvcRead ag) (BitVec.ofNat 32 s.link.evc) [Reg.LINK_EVC_HI]
      (fun u => u.reg Reg.LINK_EVC_HI = BitVec.ofNat 32 (s.link.evc / 2 ^ 32 % 2 ^ 8)) ∧
    reads (.linkSstartRead ag) (BitVec.ofNat 32 (s.link.slotT / 40)) [Reg.LINK_SSTART_HI]
      (fun u => u.reg Reg.LINK_SSTART_HI =
        BitVec.ofNat 32 (s.link.slotT / 40 / 2 ^ 32 % 2 ^ 16) ||| BitVec.ofNat 32 (s.link.slotT % 40) <<< 16) ∧
    (let w := if calMax < s.rtc.sec then ((0x80000000, 0) : Word × Word) else (Cal.ofCount s.rtc.sec).words (wday s.rtc.sec)
     reads (.rtcNowdateRead ag) w.1 [Reg.RTC_NOWDATE, Reg.RTC_NOWTIME]
       (fun u => u.reg Reg.RTC_NOWDATE = w.1 ∧ u.reg Reg.RTC_NOWTIME = w.2))

/-- R200 and R358. -/
def Obligations.TimeReadsLatchTheRest : Prop :=
  (∀ (s : State) (ag : Agent), s.Calm →
    ∃ u, exec (.tbaseNowRead ag) s = .next u ∧ u.heard ag = .data (BitVec.ofNat 32 s.us) ∧
      u.peek Reg.TBASE_NOW_HI = BitVec.ofNat 32 (s.us / 2 ^ 32) ∧ u.peek Reg.TBASE_NOW_F = BitVec.ofNat 32 (s.net % 40) ∧
      s.regsBut u [Reg.TBASE_NOW_HI, Reg.TBASE_NOW_F] ∧ s.sameBytes u) ∧
  (∀ (s : State) (ag : Agent) (t : Nat), let v := s.at_ t
    v.Calm →
    ∃ u, exec (.rtcSecRead ag t) s = .next u ∧ u.heard ag = .data (BitVec.ofNat 32 v.rtc.sec) ∧
      u.peek Reg.RTC_SEC_HI = BitVec.ofNat 32 (v.rtc.sec / 2 ^ 32 % 2 ^ 16) ∧ u.peek Reg.RTC_FRAC = BitVec.ofNat 32 v.rtcFrac ∧
      v.regsBut u [Reg.RTC_SEC_HI, Reg.RTC_FRAC] ∧ v.sameBytes u)

/-- R110 to R112, R114; log entries 86 and 105 for what is active in XWAIT and the exponents at the start. -/
def Obligations.EnvelopeStartsAndStops : Prop :=
  (∀ (s : State) (data : Word), s.Calm → s.flag Reg.RFE_SPCTL_EN = false → s.env.st = .off → s.flag Reg.ENV_CTL_EN = false →
    bitOf data 0 = true →
    ∃ u, exec (.envelopeStart data) s = .next u ∧ u.reg Reg.ENV_CTL &&& 3 = data &&& 3 ∧ s.regsBut u [Reg.ENV_CTL] ∧ u.mem = s.mem ∧
      (if s.start.rcalT then u.env.st = .off ∧ u.start.deferEnv = true
       else if s.tb.src = .xtal ∧ s.tb.pll = true then u.env.st = .starting ∧ u.env.active = s.chains ∧ u.pwr.stap = s.tapOf
       else u.env.st = .xwait ∧ u.env.active = 0)) ∧
  (∀ (s : State) (t : Nat), let v := s.at_ t
    v.Calm → v.flag Reg.RFE_SPCTL_EN = false →
    (v.env.st = .xwait → v.tb.src = .xtal → v.tb.pll = true →
      Does (.envelopeXwaitEnd t) s { v with
        env := { v.env with
          st := .starting, active := v.chains, expA := if v.env.agcHeld then 15 else 0, expB := if v.env.agcHeld then 15 else 0 }
        pwr := { v.pwr with stap := v.tapOf } }) ∧
    (v.env.st ≠ .xwait ∨ v.tb.src ≠ .xtal ∨ v.tb.pll = false → Does (.envelopeXwaitEnd t) s v) ∧
    (v.env.st = .starting → v.start.rxbusy = false → v.env.survWait = false →
      ∃ u, exec (.envelopeRun t) s = .next u ∧ u.env.st = .run ∧ u.regs = v.regs ∧
        ∀ g, g < 16 → v.inSpan g = true → v.held g = false → (v.eng g).run = false →
          (u.eng g).run = true ∧ (∀ c, c < 8 → (u.ctx g c).st = .ready ∧ (u.ctx g c).pc = 0) ∧
          ∀ i, i < 8 → (v.lane (8 * g + i)).st = .off →
            (u.lane (8 * g + i)).st = if v.laneEnabled (8 * g + i) = false then .off else if v.rfe.blank = true then .blank else .hunt) ∧
    (v.env.st ≠ .starting → Does (.envelopeRun t) s v) ∧
    (v.env.st = .run → v.env.survWait = true → v.lanesOff = true → v.env.interval = v.now →
      Does (.surveyBegin t) s { v with env := { v.env with st := .survey, survWait := false } }) ∧
    (v.env.survWait = false ∨ v.lanesOff = false ∨ v.env.interval ≠ v.now → Does (.surveyBegin t) s v) ∧
    (v.env.st = .stopping → (∀ g, g < 16 → (v.eng g).run = false) → v.flag Reg.ENV_CTL_EN = false →
      ∃ u, exec (.envelopeStopped t) s = .next u ∧ u.env.st = .off ∧ u.env.active = 0 ∧ u.pwr.stap = 3 ∧
        (∀ k, k < 128 → u.flag (Reg.ENV_NF_VALID k) = false) ∧ s.engs = u.engs) ∧
    ((∃ g, g < 16 ∧ (v.eng g).run = true) → Does (.envelopeStopped t) s v))

/-- R113, R115. -/
def Obligations.NoiseFloorsAndSnapshots : Prop :=
  ∀ (s : State) (t : Nat) (pow : List ChanPow), let v := s.at_ t
    v.Calm → v.flag Reg.RFE_SPCTL_EN = false →
    (v.env.st = .run → v.flag Reg.ENV_CTL_SURVEY = false → v.env.active = 1 → v.env.blankFrom = none → v.env.blankMask = 0 → v.env.busy = [] →
      (∀ k, (v.lane k).st ≠ .preamble ∧ (v.lane k).st ≠ .frame) →
      ∃ u, exec (.msBoundary pow t) s = .next u ∧ u.env.interval = v.now ∧ v.regsBut u ((List.range 128).map Reg.ENV_NF) ∧ u.mem = v.mem ∧
        ∀ k, k < 128 →
          (v.inSpan (k / 8) = false ∨ pow.find? (fun p => p.chan = k) = none →
            u.get (Reg.ENV_NF_AGE k) = min 255 (v.get (Reg.ENV_NF_AGE k) + 1) ∧ u.get (Reg.ENV_NF_FLOOR k) = v.get (Reg.ENV_NF_FLOOR k) ∧
              u.get (Reg.ENV_NF_VALID k) = v.get (Reg.ENV_NF_VALID k)) ∧
          (∀ p x, v.inSpan (k / 8) = true → pow.find? (fun p => p.chan = k) = some p → p.chainA.length = 16 → p.chainA.min? = some x →
            let f := toSigned 16 (v.get (Reg.ENV_NF_FLOOR k))
            u.get (Reg.ENV_NF_FLOOR k) =
                ofSigned 16 (if v.flag Reg.ENV_NFCFG_AVG = true ∧ v.flag (Reg.ENV_NF_VALID k) = true then f + (x - f).tdiv 8 else x) ∧
              u.get (Reg.ENV_NF_AGE k) = 0 ∧ u.flag (Reg.ENV_NF_VALID k) = true)) ∧
    (let a := 16 * v.get Reg.ENV_SVBASE_ADDR + 0x210 * ((v.reg Reg.ENV_SVSTAT).toNat % 2)
     v.env.st = .survey → v.flag Reg.ENV_CTL_SURVEY = true → v.env.interval + 40000 ≤ v.now → v.get (Reg.EVL_LINECFG_SUB (v.outLine 1)) = 0 →
      0x21000000 ≤ a → a + 528 ≤ 0x21040000 → v.txqOver = false → (∀ b, 16 ≤ b → b < 20 → v.bank b = .on ∧ v.bankBad b = false) →
      ∃ u, exec (.msBoundary pow t) s = .next u ∧ u.env.st = .survey ∧ u.env.interval = v.now ∧
        u.bytes a 12 = leBytes 8 (v.env.interval / 40) ++ leBytes 4 (v.reg Reg.ENV_SVSTAT).toNat ∧
        (∀ k, k < 128 → v.inSpan (k / 8) = false ∨ pow.find? (fun p => p.chan = k) = none →
          u.word (a + 16 + 4 * k) = 0x80008000) ∧
        u.reg Reg.ENV_SVSTAT = v.reg Reg.ENV_SVSTAT + 1 ∧ ∀ b, b < a ∨ a + 528 ≤ b → u.byte b = v.byte b)

/-- R90 to R99, R433. -/
def Obligations.LanesDetectAndChoose : Prop :=
  ∀ (s : State) (t : Nat), let v := s.at_ t
    v.Calm →
    (∀ ch, ch < 2 → v.env.active.testBit ch = true → v.env.st ≠ .off → v.env.st ≠ .xwait →
      let flag := if ch = 0 then Reg.ENV_STATUS_CLIPA else Reg.ENV_STATUS_CLIPB
      (∀ e clip, v.env.agcHeld = false → ∃ u, exec (.agcGainDown ch e clip t) s = .next u ∧ u.env.exp ch = max (v.env.exp ch) (min 15 e) ∧
        u.env.exp (1 - ch) = v.env.exp (1 - ch) ∧ u.lanes = v.lanes ∧ v.regsBut u [Reg.ENV_STATUS] ∧
        (clip = false → u.regs = v.regs) ∧ (clip = true → u.env.exp ch = 15 → u.flag flag = true)) ∧
      (∀ e, v.env.agcHeld = true → Does (.agcGainDown ch e false t) s v ∧ Does (.agcGainUp ch t) s v) ∧
      (v.env.agcHeld = false → ∃ u, exec (.agcGainUp ch t) s = .next u ∧ u.env.exp ch = v.env.exp ch - 1 ∧
        u.env.exp (1 - ch) = v.env.exp (1 - ch) ∧ u.regs = v.regs)) ∧
    (∀ k ch c0 c1, k < 128 → ch < 2 → (v.lane k).st = .hunt → v.env.active.testBit ch = true → v.tb.src = .xtal → v.tb.pll = true →
      let thr := v.get (Reg.ENV_GCFG_PTHR (k / 8))
      let l := v.lane k
      let fmt := if v.std (k / 8) then 1 else 0
      let chan := if v.std (k / 8) then k / 8 else k
      l.since + 2 * (if fmt = 1 then 640 else 2560) ≤ v.now →
      (thr ≤ c0 → thr ≤ c1 → v.noBuf k = false → Does (.preambleDetect k ch c0 c1 t) s (v.setLane k { l with
        st := .preamble, since := v.now, fmt := fmt, chan := chan, chain := if v.env.active = 3 then none else some (v.env.active / 2)
        nfpre := toSigned 16 (v.get (Reg.ENV_NF_FLOOR (tuneOf fmt chan))), lastAbort := 0, fp := false })) ∧
      (thr ≤ c0 → thr ≤ c1 → v.noBuf k = true → ∃ u, exec (.preambleDetect k ch c0 c1 t) s = .next u ∧
        u.lanes = (v.setLane k { l with since := v.now }).lanes ∧
        u.get (Reg.ENV_LERR_NOBUF k) = min 255 (v.get (Reg.ENV_LERR_NOBUF k) + 1)) ∧
      (c0 < thr ∨ c1 < thr → Does (.preambleDetect k ch c0 c1 t) s v)) ∧
    (∀ c0 c1, (v.lane 128).st = .hunt → v.tb.src = .xtal → v.tb.pll = true →
      (v.lane 128).since + 2 * (if v.get Reg.RFE_SPCTL_FMT = 1 then 640 else 2560) ≤ v.now →
      (96 ≤ c0 → 96 ≤ c1 → v.noBuf 128 = false → ∃ u, exec (.spPreambleDetect c0 c1 t) s = .next u ∧ (u.lane 128).st = .preamble ∧
        (u.lane 128).since = v.now ∧ (u.lane 128).fmt = v.get Reg.RFE_SPCTL_FMT ∧ (u.lane 128).chan = v.get Reg.RFE_SPCTL_CHAN ∧
        u.rfe.divst = (if v.rfe.divst = 3 then 3 else 1) ∧ u.regs = v.regs ∧ u.mem = v.mem) ∧
      (c0 < 96 ∨ c1 < 96 → Does (.spPreambleDetect c0 c1 t) s v)) ∧
    (∀ k n a b, k < 128 → (v.lane k).st = .preamble → (v.lane k).chain = none →
      Does (.chainChoice k n a b t) s (v.setLane k { v.lane k with chain := some (if a < b then 1 else 0) })) ∧
    (∀ k rssi, k < 128 → (v.lane k).st = .preamble →
      v.now ≤ (v.lane k).since + max 4 (v.get (Reg.ENV_GCFG_SFDTO (k / 8))) * (if (v.lane k).fmt = 1 then 640 else 2560) →
      (v.noBuf k = false → v.txqOver = false → ∃ u b f, exec (.sfdRecognised k rssi t) s = .next u ∧ b < 2 ∧
        (u.lane k).st = .frame ∧ (u.lane k).frames = (v.lane k).frames ++ [f] ∧ f.buf = b ∧
        f.tsfd = v.now - (if (v.lane k).fmt = 1 then 80 else 64) ∧ f.rssi = clampI (-128) 20 rssi ∧ f.chain = (v.lane k).chain.getD 0 ∧
        f.fend = false ∧ (∀ i, i < 256 → u.byte (bufAddr k b + i) = 0) ∧ v.regsBut u [Reg.MEMC_RBANKCTL]) ∧
      (v.noBuf k = true → ∃ u, exec (.sfdRecognised k rssi t) s = .next u ∧ (u.lane k).st = v.restState k ∧
        (u.lane k).frames = (v.lane k).frames ∧ u.get (Reg.ENV_LERR_NOBUF k) = min 255 (v.get (Reg.ENV_LERR_NOBUF k) + 1))) ∧
    (∀ k, k < 128 → (v.lane k).st = .preamble → (v.lane k).frames.find? Frame.open_ = none →
      let limit := (v.lane k).since + max 4 (v.get (Reg.ENV_GCFG_SFDTO (k / 8))) * (if (v.lane k).fmt = 1 then 640 else 2560)
      (limit ≤ v.now → ∃ u, exec (.sfdTimeout k t) s = .next u ∧ (u.lane k).st = v.restState k ∧ (u.lane k).lastAbort = 3 ∧
        u.get (Reg.ENV_LERR_ABANDON k) = min 255 (v.get (Reg.ENV_LERR_ABANDON k) + 1) ∧
        bitOf (u.ctx (k / 8) (k % 8)).lat 17 = true) ∧
      (v.now < limit → Does (.sfdTimeout k t) s v))

/-- R100, R127, R134, R225; log entry 89 for the security control octet at ADDR. -/
def Obligations.FramesArriveAndEnd : Prop :=
  ∀ (s : State) (t k : Nat) (f : Frame), let v := s.at_ t
    v.Calm → v.txqOver = false → k < 128 → (v.lane k).frames = [f] → f.fend = false → f.abort = 0 → f.leaving = false → (v.lane k).st = .frame →
    (∀ phr psdu, f.phr = none →
      (phrValid f.fmt phr = true →
        ∃ u, exec (.phrReceived k phr psdu t) s = .next u ∧ u.regs = v.regs ∧ (u.lane k).st = .frame ∧
          (u.lane k).frames = [{ f with
            phr := some (if f.fmt = 1 then phr &&& 0xFF else phr)
            len := phrLen f.fmt phr
            psdu := (psdu ++ List.replicate (phrLen f.fmt phr) 0).take (phrLen f.fmt phr) }]) ∧
      (phrValid f.fmt phr = false →
        ∃ u, exec (.phrReceived k phr psdu t) s = .next u ∧ (u.lane k).frames = [] ∧ (u.lane k).lastAbort = 3 ∧
          (u.lane k).st = v.restState k ∧ bitOf (u.ctx (k / 8) (k % 8)).lat 17 = true ∧
          u.get (Reg.ENV_LERR_ABANDON k) = min 255 (v.get (Reg.ENV_LERR_ABANDON k) + 1) ∧ v.regsBut u [Reg.ENV_LERR k])) ∧
    (f.phr.isSome = true → f.addr = false → 2 ≤ f.rxoct → addrPoint f.got f.len f.fcs ≤ f.rxoct →
      ∃ u, exec (.addrReached k t) s = .next u ∧ u.regs = v.regs ∧ (u.lane k).frames = [{ f with addr := true, addrOct := f.rxoct }] ∧
        ∀ i, i < 4 → u.word (parseAddr k + 4 * i) =
          (parseRecord f.got f.rxoct (f.psdu.getD (addrPoint f.psdu f.len f.fcs) 0) f.len f.fcs f.filter true false).getD i 0) ∧
    (∀ cq, f.phr.isSome = true → f.lastChip + (if f.fmt = 1 then 80 else 64) ≤ v.now →
      ∃ u g, exec (.frameEnd k cq t) s = .next u ∧ (u.lane k).frames = [g] ∧ g.fend = true ∧ g.addr = true ∧ g.tend = f.lastChip ∧
        g.rxoct = f.len ∧ g.psdu = f.psdu ∧ g.cq = min 255 cq ∧ g.fcsok = f.fcsPass ∧ (u.lane k).st = v.restState k ∧
        (f.fcsPass = true → g.ack = f.ack ∧ u.regs = v.regs) ∧
        (f.fcsPass = false → v.regsBut u [Reg.ENV_LERR k] ∧
          u.get (Reg.ENV_LERR_CRCERR k) = min 65535 (v.get (Reg.ENV_LERR_CRCERR k) + 1) ∧
          g.ack = if f.ack = .requested then .withdrawn else f.ack))

/-- R118, R119, R145. -/
def Obligations.GroupsHoldStopAndStart : Prop :=
  (∀ (s : State) (m : BitVec 16), s.Calm →
    ∃ u, exec (.groupHold m) s = .next u ∧ u.reg Reg.ENV_GHOLD_SET = s.reg Reg.ENV_GHOLD_SET ||| m.setWidth 32 ∧
      s.regsBut u [Reg.ENV_GHOLD_SET] ∧ u.engs = s.engs ∧
      ∀ k, k < 128 → if m.getLsbD (k / 8) = true ∧ (s.lane k).st ≠ .preamble ∧ (s.lane k).st ≠ .frame then u.lane k = { s.lane k with st := .off }
        else u.lane k = s.lane k) ∧
  (∀ (s : State) (t g : Nat), let v := s.at_ t
    v.Calm → g < 16 → v.ldr.phase = .idle → v.held g = true →
    (v.groupDone g = true →
      ∃ u, exec (.groupStopped g t) s = .next u ∧ (u.eng g).run = false ∧ u.regs = v.regs ∧
        (∀ c, c < 8 → (v.ctx g c).st ≠ .faulted → (v.ctx g c).st ≠ .halted → (u.ctx g c).st = .stopped) ∧
        (∀ c, c < 8 → (v.ctx g c).st = .faulted ∨ (v.ctx g c).st = .halted → u.ctx g c = v.ctx g c) ∧
        ∀ i, i < 8 → (u.lane (8 * g + i)).st = .off) ∧
    (v.groupDone g = false → Does (.groupStopped g t) s v)) ∧
  (∀ (s : State) (m : BitVec 16), s.Calm → s.ldr.phase = .idle → s.env.survWait = false → s.start.rxbusy = false →
    s.env.st = .run ∨ s.env.st = .off →
    ∃ u, exec (.groupRelease m) s = .next u ∧ u.reg Reg.ENV_GHOLD_SET = s.reg Reg.ENV_GHOLD_SET &&& ~~~m.setWidth 32 ∧
      s.regsBut u [Reg.ENV_GHOLD_SET] ∧
      (s.env.st = .off → u.engs = s.engs ∧ (∀ e c, u.ctx e c = s.ctx e c ∨ (s.ctx e c).st = .waiting) ∧
        ∀ k, k < 128 → (s.lane k).st = .off → (u.lane k).st = .off) ∧
      (s.env.st = .run → ∀ g, g < 16 → m.getLsbD g = true → s.held g = true → s.inSpan g = true →
        (u.eng g).run = true ∧ ((s.eng g).run = false → ∀ c, c < 8 → (u.ctx g c).st = .ready ∧ (u.ctx g c).pc = 0) ∧
        ((s.eng g).run = true → u.eng g = s.eng g ∧ (∀ c, c < 8 → (s.ctx g c).st ≠ .waiting → u.ctx g c = s.ctx g c) ∧
          ∀ i, i < 8 → (s.lane (8 * g + i)).st = .preamble ∨ (s.lane (8 * g + i)).st = .frame → u.lane (8 * g + i) = s.lane (8 * g + i)) ∧
        ∀ i, i < 8 → (s.lane (8 * g + i)).st = .off → s.laneEnabled (8 * g + i) = true →
          (u.lane (8 * g + i)).st =
            if (s.eng g).run = true ∧ s.laneMuted (8 * g + i) = true then .off else if s.rfe.blank = true then .blank else .hunt))

/-- R158. -/
def Obligations.ArithmeticStepsFollowR158 : Prop :=
  ∀ (s : State) (e c : Nat) (w : StepWord), s.At e c w →
    let x := s.ctx e c
    let a := x.v.getD w.dst 0
    let b := if w.mod.testBit 0 then w.imm else x.v.getD w.src 0
    let goes := fun (i : Instr) (y : Ctx) => Does i s ((s.setCtx e c y).stepNext e c w)
    let sets := fun (i : Instr) (r : Word) => goes i { x with v := x.v.set w.dst r, z := decide (r = 0) }
    let lt := decide (a.toNat < b.toNat)
    let slt := decide (a.toInt < b.toInt)
    (w.op = 0x02 → sets (.addOp e c) (a + b)) ∧
    (w.op = 0x03 → goes (.subOp e c) { x with v := x.v.set w.dst (a - b), z := decide (a - b = 0), lt := lt, slt := slt }) ∧
    (w.op = 0x04 → sets (.andOp e c) (a &&& b)) ∧
    (w.op = 0x05 → sets (.orOp e c) (a ||| b)) ∧
    (w.op = 0x06 → sets (.xorOp e c) (a ^^^ b)) ∧
    (w.op = 0x07 → sets (.shl e c) (a <<< (b.toNat % 32))) ∧
    (w.op = 0x08 → sets (.shr e c) (if w.mod.testBit 1 then a.sshiftRight (b.toNat % 32) else a >>> (b.toNat % 32))) ∧
    (w.op = 0x09 → goes (.cmp e c) { x with z := decide (a - b = 0), lt := lt, slt := slt })

/-- R153, R155, Table 6-15. -/
def Obligations.StepsGoOnByCond : Prop :=
  ∀ (s : State) (e c : Nat) (w : StepWord), s.Calm → s.rfe.holder = none → s.reg Reg.REEL_FATALC = 0 → s.At e c w →
    let x := s.ctx e c
    let b := s.cond e c w.cond
    let y := if b = true ∧ w.cond ∈ [17, 18, 19, 21, 22, 23, 28, 30, 31] then
        { x with
          lat := x.lat &&& ~~~((1 : Word) <<< w.cond)
          evHop := if w.cond = 22 then x.evtHop else x.evHop
          turnHop := if w.cond = 22 then some x.evtHop else x.turnHop
          evtHop := if w.cond = 22 then 0 else x.evtHop }
      else x
    let next := (x.pc + 1) % 1024
    let target := if w.mod.testBit 0 then (x.v.getD w.src 0 + w.imm).toNat % 1024 else w.tgt
    let goes := fun (i : Instr) (z : Ctx) => Does i s (s.setCtx e c { z with steps := x.steps + 1 })
    (w.op = 0x00 → goes (.nop e c) { y with pc := if b then w.tgt else next }) ∧
    (w.op = 0x01 → goes (.movi e c) { y with
      pc := if b then w.tgt else next
      v := x.v.set w.dst (if w.mod.testBit 0 then x.v.getD w.src 0 + w.imm else w.imm) }) ∧
    (w.op = 0x3C → goes (.jmp e c) { y with pc := if b then target else next }) ∧
    (w.op = 0x3D →
      (b = false → goes (.call e c) { y with pc := next }) ∧
      (b = true → x.stack.length < 4 → goes (.call e c) { y with pc := target, stack := x.stack ++ [next] }) ∧
      (b = true → 4 ≤ x.stack.length → Faults (.call e c) s e c 4)) ∧
    (w.op = 0x3E →
      (b = false → goes (.ret e c) { y with pc := next }) ∧
      (∀ k p, b = true → x.stack = k ++ [p] → goes (.ret e c) { y with pc := p, stack := k }) ∧
      (b = true → x.stack = [] → Faults (.ret e c) s e c 4))

/-- R159, R224, R236, R267, R435. -/
def Obligations.LdAndStReachTheirSpaces : Prop :=
  ∀ (s : State) (e c n : Nat) (w : StepWord), s.Calm → s.rfe.holder = none → s.reg Reg.REEL_FATALC = 0 → s.At e c w →
    let x := s.ctx e c
    let b := x.v.getD w.src 0
    let off := (b + w.imm).toNat
    let space := w.mod % 4
    let stored := leBytes n (x.v.getD w.dst 0).toNat
    let loads := fun (t : State) (bs : List Byte) =>
      let r := if w.mod.testBit 4 then BitVec.ofInt 32 (toSigned (8 * n) (leNat bs)) else BitVec.ofNat 32 (leNat bs)
      Does (.ld e c) s ((t.setCtx e c { x with v := x.v.set w.dst r }).stepNext e c w)
    let inRange :=
      (space = 0 ∧ off + n ≤ 320) ∨ (space = 1 ∧ b.toNat < 1024 ∧ w.imm.toNat + n ≤ 64 ∧ w.imm.toNat % n = 0) ∨
      (space = 2 ∧ off + n ≤ 128 ∧ off % n = 0) ∨ (space = 3 ∧ 0x21000000 ≤ off ∧ off + n ≤ 0x21040000 ∧ off % n = 0)
    let lies := fun (a : Nat) => inRange ∧
      ((space = 0 ∧ ∃ k f, s.curFrame e c = some (k, f) ∧ a = bufAddr k f.buf + off) ∨
       (space = 1 ∧ a = 0x21020000 + 64 * b.toNat + w.imm.toNat) ∨ (space = 3 ∧ a = off))
    let places := fun (a : Nat) => lies a ∧ s.rangeRefused a n = false
    (w.op = 0x10 ∨ w.op = 0x11) →
    (w.mod / 4 % 4 = 3 → (w.op = 0x10 → Faults (.ld e c) s e c 2) ∧ (w.op = 0x11 → Faults (.st e c) s e c 2)) ∧
    ((w.mod / 4 % 4, n) ∈ [(0, 1), (1, 2), (2, 4)] →
      (∀ a, places a →
        (w.op = 0x10 → loads (s.wakeRange a n) (s.bytes a n)) ∧
        (w.op = 0x11 → ¬(0x2103F000 ≤ a ∧ a < 0x2103F810) →
          (rxnextOf a = none → Does (.st e c) s ((s.devWrite a stored).stepNext e c w)) ∧
          (∀ m, rxnextOf a = some m →
            let u : State := { s.devWrite a stored with
              link := { s.link with thru := (s.link.thru.filter fun p => p.1 != m) ++ [(m, e, c)] } }
            Does (.st e c) s (u.stepNext e c w))) ∧
        (w.op = 0x11 → 0x2103F000 ≤ a → a < 0x2103F810 → Does (.st e c) s (s.stepNext e c w))) ∧
      (space = 2 → inRange →
        (w.op = 0x10 → loads s ((List.range n).map fun i => x.sbyte (off + i))) ∧
        (w.op = 0x11 → Does (.st e c) s ((s.setCtx e c (x.setScratch off stored)).stepNext e c w))) ∧
      (∀ a, lies a → s.rangeRefused a n = true → (w.op = 0x10 → Faults (.ld e c) s e c 3) ∧ (w.op = 0x11 → Faults (.st e c) s e c 3)) ∧
      (¬inRange → (w.op = 0x10 → Faults (.ld e c) s e c 3) ∧ (w.op = 0x11 → Faults (.st e c) s e c 3)) ∧
      (space = 0 → inRange → s.curFrame e c = none →
        (w.op = 0x10 → Faults (.ld e c) s e c 5) ∧ (w.op = 0x11 → Faults (.st e c) s e c 5)))

/-- R146, R147, R175, R181; log entry 108 for what HALT cancels. -/
def Obligations.WaitsEndTurns : Prop :=
  (∀ (s : State) (e c : Nat) (w : StepWord), s.Calm → s.rfe.holder = none → s.reg Reg.REEL_FATALC = 0 → s.At e c w →
    let x := s.ctx e c
    let ends := { x with urg := false, steps := 0, turnHop := none, woke := s.now }
    let ready := fun (i : Instr) => Does i s (s.setCtx e c { ends with st := .ready, wait := .none, resume := true })
    let until_ := fun (t : Nat) => Does (.waitt e c) s (s.setCtx e c { ends with st := .waiting, wait := .time t, resume := false })
    let d := (x.v.getD w.src 0 + w.imm - BitVec.ofNat 32 s.us).toNat
    (w.op = 0x38 → w.imm &&& 0xFFFFFFFE ≠ 0 →
      ∃ u, exec (.waitev e c) s = .next u ∧ u.regs = s.regs ∧ u.mem = s.mem ∧ (u.ctx e c).pc = x.pc ∧ (u.ctx e c).steps = 0 ∧ (u.ctx e c).lat = x.lat ∧
        (if (List.range 32).any fun i => bitOf w.imm i && s.cond e c i then
          (u.ctx e c).st = .ready ∧ (u.ctx e c).resume = true ∧
            (u.ctx e c).urg = [13, 14, 15, 16].any fun i => bitOf w.imm i && s.cond e c i
         else (u.ctx e c).st = .waiting ∧ (u.ctx e c).wait = .ev w.imm)) ∧
    (w.op = 0x38 → w.imm &&& 0xFFFFFFFE = 0 → Faults (.waitev e c) s e c 2) ∧
    (w.op = 0x39 → w.mod.testBit 0 = true → w.imm ≠ 0 → until_ (s.now + 40 * w.imm.toNat)) ∧
    (w.op = 0x39 → w.mod.testBit 0 = true → w.imm = 0 → ready (.waitt e c)) ∧
    (w.op = 0x39 → w.mod.testBit 0 = false → 0 < d → d < 2 ^ 31 → until_ (40 * (s.us + d))) ∧
    (w.op = 0x39 → w.mod.testBit 0 = false → d = 0 ∨ 2 ^ 31 ≤ d → ready (.waitt e c)) ∧
    (w.op = 0x3A → ready (.yield e c)) ∧
    (w.op = 0x3F →
      ∃ u, exec (.halt e c) s = .next u ∧ (u.ctx e c).st = .halted ∧ (u.ctx e c).pc = x.pc ∧ (u.ctx e c).v = x.v ∧
        (u.ctx e c).timer = none ∧ (u.ctx e c).act = .none ∧ u.regs = s.regs ∧
        ∀ k, s.laneOf e c = some k → (u.lane k).st = .off ∧ (u.lane k).acks = [] ∧
          (u.lane k).frames = ((s.lane k).frames.filter fun f => f.leaving).map fun f =>
            if f.ack = .requested then { f with ack := .withdrawn, ackDone := true } else f)) ∧
  (∀ (s : State) (t e c d : Nat), let v := s.at_ t
    v.Calm → c < nctx e → (v.eng e).run = true →
    ((v.ctx e c).st = .waiting → (v.ctx e c).wait = .time d →
      (d ≤ v.now → Does (.waittWake e c t) s
        (v.setCtx e c { v.ctx e c with st := .ready, wait := .none, woke := v.now, urg := false, resume := true })) ∧
      (v.now < d → Does (.waittWake e c t) s v)) ∧
    ((v.ctx e c).timer = some d →
      (d ≤ v.now → Does (.contextTimerExpiry e c t) s (v.setCtx e c { v.ctx e c with timer := none, lat := (v.ctx e c).lat ||| 0x200000 })) ∧
      (v.now < d → Does (.contextTimerExpiry e c t) s v)))

/-- R147, R148. -/
def Obligations.TheEngineChoosesItsContext : Prop :=
  (∀ (s : State) (t e c : Nat), let v := s.at_ t
    let x := v.ctx e c
    let n := nctx e
    let ready := fun d => d < n ∧ (v.ctx e d).st = .ready
    let place := fun d => (d + n - ((v.eng e).last + 1) % n) % n
    let w := v.fetchStep e x.pc
    let pc := if x.resume then (if v.cond e c w.cond then w.tgt else (x.pc + 1) % 1024) else x.pc
    v.Calm → (v.eng e).run = true → ready c → (v.fetchStep e pc).listed = true → (x.resume = true ∨ x.steps < 64) →
    let first := ∀ d, ready d → (v.ctx e d).urg = true → d ≠ c → x.woke < (v.ctx e d).woke ∨ (x.woke = (v.ctx e d).woke ∧ c < d)
    let runs := fun u : State => (u.ctx e c).st = .running ∧ (u.ctx e c).pc = pc ∧ (u.eng e).last = c ∧ (u.ctx e c).v = x.v ∧ u.regs = v.regs ∧ u.mem = v.mem
    ((∀ d, d < n → (v.ctx e d).st ≠ .running) →
      (if x.urg then first else (∀ d, ready d → (v.ctx e d).urg = false) ∧ ∀ d, ready d → d ≠ c → place c < place d) →
      ∃ u, exec (.contextDispatch e false t) s = .next u ∧ runs u) ∧
    (∀ r, r < n → (v.ctx e r).st = .running → (v.ctx e r).urg = false → (∀ d, d < n → d ≠ r → (v.ctx e d).st ≠ .running) → x.urg = true → first →
      ∃ u, exec (.contextDispatch e false t) s = .next u ∧ runs u ∧ u.ctx e r = { v.ctx e r with st := .ready, turnHop := none })) ∧
  (∀ (s : State) (t e r : Nat), let v := s.at_ t
    v.Calm → (v.eng e).run = true → r < nctx e → (v.ctx e r).st = .running → (v.ctx e r).urg = true →
    (∀ d, d < nctx e → d ≠ r → (v.ctx e d).st ≠ .running) → (v.fetchStep e (v.ctx e r).pc).listed = true → (v.ctx e r).steps < 64 →
    Does (.contextDispatch e false t) s v)

/-- R161, R162, R165, R169, R171 to R174, R176, R239; log entry 47 for the corners of TXACK, ACKRES and NO_XTAL. -/
def Obligations.FrameAndEventSteps : Prop :=
  (∀ (s : State) (e c : Nat) (w : StepWord), s.Calm → s.rfe.holder = none → s.reg Reg.REEL_FATALC = 0 → s.tb.src ≠ .xtal → s.At e c w →
    let a := (s.ctx e c).v.getD w.src 0
    (w.op = 0x20 → a.toNat % 4 = 0 → a.toNat ≤ 96 → txOk ((List.range 8).map fun i => (s.ctx e c).sword (a.toNat + 4 * i)) = true →
      Faults (.txq e c) s e c 6) ∧
    (∀ k f, w.op = 0x21 → s.curFrame e c = some (k, f) → f.phr.isSome = true → Faults (.txack e c) s e c 6)) ∧
  ∀ (s : State) (e c : Nat) (w : StepWord), s.Calm → s.rfe.holder = none → s.reg Reg.REEL_FATALC = 0 → s.tb.src = .xtal → s.link.thru = [] →
    s.At e c w →
    let x := s.ctx e c
    let a := x.v.getD w.src 0
    let goes := fun (i : Instr) (t : State) => Does i s (t.stepNext e c w)
    let after := fun (i : Instr) (P : State → Ctx → Prop) => ∃ u, exec i s = .next u ∧ P u (u.ctx e c)
    let on := fun (q : Nat) => s.txqOver = false ∧ 0x21000 ≤ s.get Reg.REEL_TXQBASE_ADDR ∧ s.get Reg.REEL_TXQBASE_ADDR < 0x21040 ∧
      bankOf q ≠ none ∧ s.bankRefuses q = false
    let key := fun (m : Nat) => bitOf (s.nbr m 12) 31 = true ∧
      if w.mod % 4 = 0 then a.toNat % 65536 ≠ 0xFFFE ∧ a.toNat % 65536 ≠ 0xFFFF ∧ s.nbr m 8 = a
      else s.nbr m 0 = a ∧ s.nbr m 4 = x.v.getD ((w.src + 1) % 8) 0
    (w.op = 0x19 → w.mod % 4 ≠ 3 →
      (∀ n, s.lookupKey e c w = some n → after (.lookup e c) fun u y => y.v = x.v.set w.dst (BitVec.ofNat 32 n) ∧ y.hit = true ∧
        y.pend = bitOf (s.nbr n 12) 30 ∧ y.z = x.z ∧ u.mem = s.mem ∧ s.regsBut u [Reg.MEMC_RBANKCTL] ∧
        ∀ k f, w.mod.testBit 2 = true → s.curFrame e c = some (k, f) → f.ack = .none ∨ f.ack = .requested →
          (u.lane k).frames = (s.lane k).frames.map fun g => if g.buf = f.buf then { g with latchFp := bitOf (s.nbr n 12) 30 } else g) ∧
      (s.lookupKey e c w = none → after (.lookup e c) fun u y => y.v = x.v.set w.dst 0xFFFFFFFF ∧ y.hit = false ∧ y.pend = x.pend ∧ u.mem = s.mem)) ∧
    (w.op = 0x19 → w.mod % 4 = 3 → Faults (.lookup e c) s e c 2) ∧
    (∀ n, w.mod % 4 < 2 → (s.lookupKey e c w = some n ↔ n < 1024 ∧ key n ∧ ∀ m, m < n → ¬key m)) ∧
    (w.op = 0x1A → w.imm.toNat % 256 = 0x00 →
      goes (.readf e c) (s.setCtx e c { x with v := x.v.set w.dst (BitVec.ofNat 32 (if e = 16 then 128 + c else 8 * e + c)) })) ∧
    (w.op = 0x1A → w.imm.toNat % 256 = 0x10 → goes (.readf e c) (s.setCtx e c { x with
      v := x.v.set w.dst (BitVec.ofNat 32 s.us), nowHi := BitVec.ofNat 32 (s.us / 2 ^ 32), nowF := s.net % 40 })) ∧
    (w.op = 0x1A →
      let n := w.imm.toNat % 256
      let gives := fun (y : Ctx) (r : Word) => goes (.readf e c) (s.setCtx e c { y with v := x.v.set w.dst r })
      let head := x.fifo.headD (0, 0)
      (1 ≤ n → n ≤ 15 →
        (∀ k f, s.curFrame e c = some (k, f) → gives x (f.field k n)) ∧
        (s.curFrame e c = none → s.laneOf e c = none → gives x 0) ∧
        (∀ k, s.curFrame e c = none → s.laneOf e c = some k → let l := s.lane k
          gives x (if l.st = .preamble then
              (if n = 0x03 then BitVec.ofNat 32 l.fmt else if n = 0x09 then BitVec.ofNat 32 (l.chain.getD 0)
               else if n = 0x0C then BitVec.ofInt 32 l.nfpre else if n = 0x0E then 0x400 else 0)
            else if n = 0x0D then BitVec.ofNat 32 l.lastAbort else 0))) ∧
      (n = 0x11 → gives x x.nowHi) ∧
      (n = 0x12 → gives x (BitVec.ofNat 32 x.nowF)) ∧
      (n = 0x13 → gives { x with evcHi := s.link.evc / 2 ^ 32 } (BitVec.ofNat 32 s.link.evc)) ∧
      (n = 0x14 → gives x (BitVec.ofNat 32 x.evcHi)) ∧
      (n = 0x15 → gives x (BitVec.ofNat 32 ((s.net - s.link.slotT) / 40))) ∧
      (n = 0x16 → gives x (BitVec.ofNat 32 (s.get Reg.CFG_EPOCH_CUR))) ∧
      (n = 0x17 → gives x s.cfg.digest) ∧
      (n = 0x18 → gives x head.1) ∧
      (n = 0x19 → gives { x with fifo := x.fifo.drop 1 } head.2) ∧
      (n = 0x1A → gives x (if e = 16 then x.txgoStat else 0)) ∧
      (n = 0x1B → (e ≠ 16 → gives x 0) ∧ (e = 16 → s.offered = none → gives x 0) ∧
        ∀ en, e = 16 → s.offered = some en → gives x (BitVec.ofNat 32 (s.slotAddr en.q en.slot))) ∧
      (n = 0x1C → gives x (BitVec.ofInt 32 x.ed)) ∧
      (n = 0x1D → gives x (BitVec.ofNat 32 x.sadc)) ∧
      (n = 0x1E → gives x (BitVec.ofInt 32 s.dieTemp)) ∧
      (n = 0x1F → gives x (BitVec.ofNat 32 x.evHop))) ∧
    (w.op = 0x1A → 0x20 ≤ w.imm.toNat % 256 → Faults (.readf e c) s e c 2) ∧
    (let ws := (List.range 8).map fun i => x.sword (a.toNat + 4 * i)
     let q := w.mod % 4
     w.op = 0x20 →
      (a.toNat % 4 ≠ 0 ∨ 96 < a.toNat → Faults (.txq e c) s e c 3) ∧
      (a.toNat % 4 = 0 → a.toNat ≤ 96 → txOk ws = false → Faults (.txq e c) s e c 7) ∧
      (a.toNat % 4 = 0 → a.toNat ≤ 96 → txOk ws = true →
        (∀ i, i < 32 → (∀ y ∈ s.txq, ¬(y.q = q ∧ y.slot = i)) → (∀ j, j < i → ∃ y ∈ s.txq, y.q = q ∧ y.slot = j) →
          after (.txq e c) fun u y => y.v = x.v.set w.dst (BitVec.ofNat 32 (32 * q + i)) ∧ y.acc = true ∧
            ∃ en, u.txq = s.txq ++ [en] ∧ en.q = q ∧ en.slot = i ∧ en.eng = e ∧ en.ctx = c ∧ en.order = s.txOrder ∧ en.taken = false ∧
              (on (s.slotAddr q 0) → ∀ j, j < 8 → u.word (s.slotAddr q i + 4 * j) = (txWords e c ws).getD j 0)) ∧
        ((∀ i, i < 32 → ∃ y ∈ s.txq, y.q = q ∧ y.slot = i) →
          after (.txq e c) fun u y => y.v = x.v.set w.dst 0xFFFFFFFF ∧ y.acc = false ∧ u.txq = s.txq ∧ u.mem = s.mem))) ∧
    (w.op = 0x21 → s.curFrame e c = none → Faults (.txack e c) s e c 5) ∧
    (∀ k f, w.op = 0x21 → s.curFrame e c = some (k, f) → f.phr = none → Faults (.txack e c) s e c 5) ∧
    (∀ k f, w.op = 0x21 → s.curFrame e c = some (k, f) → f.phr.isSome = true →
      let acks := fun (b : Ack) (on : Bool) => after (.txack e c) fun u y => (u.lane k).frames = (s.lane k).frames.map (fun g =>
        if g.buf = f.buf then { g with ackFp := w.mod.testBit 0, ack := b, ackDone := on || g.ackDone } else g) ∧ y.v = x.v ∧
        (b ≠ .done 1 → u.regs = s.regs) ∧ (b = .done 1 → bitsOf (u.reg Reg.RFE_TXSTAT) 0 8 = 1 ∧ s.regsBut u [Reg.RFE_TXSTAT])
      (f.ack = .none → f.abort = 0 → (f.fend = true → f.fcsok = true ∧ s.now ≤ f.tend + 320) → acks .requested false) ∧
      (f.ack = .none → f.abort = 0 → f.fend = true → f.fcsok = true → f.tend + 320 < s.now → acks (.done 1) true) ∧
      (f.ack = .none → f.abort ≠ 0 ∨ (f.fend = true ∧ f.fcsok = false) → acks .withdrawn true) ∧
      (f.ack ≠ .none → goes (.txack e c) s)) ∧
    (∀ k f, w.op = 0x28 → s.curFrame e c = some (k, f) → f.fend = false → f.abort ≠ 2 → Faults (.deliv e c) s e c 5) ∧
    (∀ k f, w.op = 0x28 → s.curFrame e c = some (k, f) → f.fend = true ∨ f.abort = 2 →
      let r := w.mod % 2
      let n := fun (i lo : Nat) => BitVec.ofNat 32 i <<< lo
      let len := if f.phr.isSome then f.len else 0
      let head : List Word :=
        [n (w.imm.toNat % 256) 24 ||| n len 16 ||| n (if e = 16 then 128 + c else 8 * e + c) 8 ||| n f.rxoct 0,
         n (f.phr.getD 0).toNat 16 ||| n (s.get Reg.CFG_EPOCH_CUR) 0, f.field k 0x05, f.field k 0x06, f.field k 0x07, f.field k 0x08,
         n (ofSigned 8 f.rssi) 24 ||| n (f.field k 0x0B).toNat 16 ||| n (ofSigned 16 f.nfpre) 0,
         n f.fmt 15 ||| n f.chain 14 ||| (if f.fcsok then 0x2000 else 0) ||| (if f.ackDone then 0x1000 else 0) ||| f.field k 0x0E, a]
      (s.ringRoom r = true → after (.deliv e c) fun u y => y.acc = true ∧ u.regs = s.regs ∧
        (∃ d, u.link.deliv = s.link.deliv ++ [d] ∧ d.ring = r ∧ d.lane = k ∧ d.buf = f.buf ∧ d.len = len ∧ d.head = head ++ f.parse ++ [0, 0, 0]) ∧
        (u.lane k).frames = (s.lane k).frames.map fun g => if g.buf = f.buf then { g with leaving := true } else g) ∧
      (s.ringRoom r = false → after (.deliv e c) fun u y => y.acc = false ∧ u.lanes = s.lanes ∧ u.link = s.link ∧
        u.get (Reg.LINK_RPUT_FULL r) = min 65535 (s.get (Reg.LINK_RPUT_FULL r) + 1))) ∧
    (w.op = 0x28 → s.curFrame e c = none → Faults (.deliv e c) s e c 5) ∧
    (∀ k f, w.op = 0x29 → s.curFrame e c = some (k, f) → after (.dropFrame e c) fun u y =>
      (u.lane k).frames = (s.lane k).frames.filter (fun g => g.buf != f.buf) ∧ y.v = x.v ∧ u.regs = s.regs ∧
        (f.fend = false → f.abort = 0 → (u.lane k).st = s.restState k)) ∧
    (∀ k, w.op = 0x29 → s.curFrame e c = none → s.laneOf e c = some k →
      ((s.lane k).st = .preamble → after (.dropFrame e c) fun u y =>
        (u.lane k).st = s.restState k ∧ (u.lane k).frames = (s.lane k).frames ∧ y.v = x.v ∧ u.regs = s.regs) ∧
      ((s.lane k).st ≠ .preamble → Faults (.dropFrame e c) s e c 5)) ∧
    (w.op = 0x29 → s.laneOf e c = none → Faults (.dropFrame e c) s e c 5) ∧
    (w.op = 0x2A → w.imm.toNat % 128 < 96 →
      goes (.postEvent e c) (s.publish (w.imm.toNat % 128) (match x.turnHop with | some h => h + 1 | none => 0))) ∧
    (w.op = 0x2A → 96 ≤ w.imm.toNat % 128 → Faults (.postEvent e c) s e c 2) ∧
    (w.op = 0x2B → goes (.irq e c) (let d : CoreId := if w.mod.testBit 0 then .c1 else .c0
      s.setIcol d { s.icol d with
        buf := (s.icol d).buf ++ [⟨if e = 16 then 128 + c else 8 * e + c, w.mod / 2 % 8, false, w.imm, a, s.us⟩] })) ∧
    (w.op = 0x30 → goes (.syncEpoch e c) (s.setCtx e c { x with
      v := x.v.set w.dst (BitVec.ofNat 32 (s.get Reg.CFG_EPOCH_CUR)), epr := s.epochCheck (a.toNat % 65536) })) ∧
    (w.op = 0x31 → w.mod % 4 = 0 → w.imm ≠ 0 → goes (.timer e c) (s.setCtx e c { x with timer := some (s.now + 40 * w.imm.toNat) })) ∧
    (w.op = 0x31 → w.mod % 4 = 1 → a ≠ 0 → goes (.timer e c) (s.setCtx e c { x with timer := some (s.now + 40 * a.toNat) })) ∧
    (w.op = 0x31 → (w.mod % 4 = 0 ∧ w.imm = 0) ∨ (w.mod % 4 = 1 ∧ a = 0) →
      goes (.timer e c) (s.setCtx e c { x with timer := none, lat := x.lat ||| 0x200000 })) ∧
    (w.op = 0x31 → w.mod % 4 = 2 → goes (.timer e c) (s.setCtx e c { x with timer := none })) ∧
    (w.op = 0x31 → w.mod % 4 = 3 → Faults (.timer e c) s e c 2)

/-- R163, R164, R176; log entries 47, 100 and 107 for NO_XTAL, the anchor's age and BUSY. -/
def Obligations.ArmActions : Prop :=
  (∀ (s : State) (e c : Nat) (w : StepWord), s.Calm → s.rfe.holder = none → s.rfe.waiting = [] → s.reg Reg.REEL_FATALC = 0 → s.At e c w →
    w.op = 0x18 →
    let x := s.ctx e c
    let a := x.v.getD w.src 0
    let n := a.toNat % 1024
    let on := s.bankRefuses (nbrAddr n) = false ∧ ∀ b, nbrAddr n ≤ b → b < nbrAddr n + 64 → ¬(4096 * s.get Reg.REEL_TXQBASE_ADDR ≤ b ∧
      b < 4096 * s.get Reg.REEL_TXQBASE_ADDR + 4096)
    let goes := fun (i : Instr) (t : State) => Does i s (t.stepNext e c w)
    let after := fun (i : Instr) (P : State → Ctx → Prop) => ∃ u, exec i s = .next u ∧ P u (u.ctx e c)
    let only16 : List (Nat × Instr) := [(1, .txgo e c), (7, .sprx e c), (8, .spoff e c), (9, .sped e c), (10, .armSadc e c), (11, .armWake e c)]
    (∀ p ∈ only16, w.mod = p.1 → e ≠ 16 → Faults p.2 s e c 2) ∧
    (∀ p ∈ only16, w.mod = p.1 → e = 16 → p.1 = 1 ∨ p.1 = 9 ∨ p.1 = 10 → x.act ≠ .none → Faults p.2 s e c 8) ∧
    (∀ p ∈ only16, w.mod = p.1 → e = 16 → p.1 = 1 ∨ p.1 = 7 ∨ p.1 = 9 → x.act = .none → s.tb.src ≠ .xtal → Faults p.2 s e c 6) ∧
    (w.mod = 4 → goes (.hop e c) (let m := a.toNat % 32
      let cs := s.mapChans m
      let ev := (((s.link.evc : Int) + w.imm.toInt) % (2 ^ 40 : Nat)).toNat
      let i := (ev + a.toNat / 256 % 128) % 2 ^ 40 % cs.length
      s.setCtx e c { x with v := x.v.set w.dst (if cs = [] then 0xFFFFFFFF
        else BitVec.ofNat 32 (cs.getD (i * (s.mapStride m).1 % cs.length) 0xFFFFFFFF)) })) ∧
    (w.mod = 5 → bitOf (s.nbr n 0x34) 30 = false → after (.guard e c) fun u y => u.mem = s.mem ∧ s.regsBut u [Reg.MEMC_RBANKCTL] ∧
      y.v = x.v.set w.dst (BitVec.ofNat 32 (20 * s.maxWin n))) ∧
    (w.mod = 5 → bitOf (s.nbr n 0x34) 30 = true →
      let h : Int := 40 * bitsOf (s.nbr n 0x34) 0 10 -
        -(2 * (s.get Reg.LINK_PPM_PPMSELF + bitsOf (s.nbr n 0x34) 14 7 : Nat) * sinceAnchor s.net (s.anchor n)) / 1000000
      (2 * h ≤ 40 * s.maxWin n → after (.guard e c) fun u y => u.mem = s.mem ∧ s.regsBut u [Reg.MEMC_RBANKCTL] ∧
        y.v = x.v.set w.dst (BitVec.ofInt 32 h)) ∧
      (40 * s.maxWin n < 2 * h → on → after (.guard e c) fun u y => y.v = x.v.set w.dst (BitVec.ofNat 32 (20 * s.maxWin n)) ∧
        u.nbr n 0x34 = s.nbr n 0x34 ||| 0x8000000 ∧ (∀ b, b < nbrAddr n + 0x34 ∨ nbrAddr n + 0x38 ≤ b → u.byte b = s.byte b) ∧
        (bitOf (s.nbr n 0x34) 27 = true → s.regsBut u [Reg.MEMC_RBANKCTL] ∧ u.icol0.buf = s.icol0.buf) ∧
        (bitOf (s.nbr n 0x34) 27 = false → u.flag Reg.LINK_STATUS_DRIFT = true ∧ s.regsBut u [Reg.MEMC_RBANKCTL, Reg.LINK_STATUS] ∧
          u.icol0.buf = s.icol0.buf ++ [⟨138, s.icolPri .c0 138, false, BitVec.ofNat 32 n, 1, s.us⟩]))) ∧
    (∀ k f, w.mod = 6 → on → s.curFrame e c = some (k, f) → after (.resync e c) fun u y => y.v = x.v ∧
      u.nbr n 0x24 = BitVec.ofNat 32 (f.tsfd / 40) ∧ bitsOf (u.nbr n 0x28) 0 16 = f.tsfd / 40 / 2 ^ 32 % 65536 ∧
      bitsOf (u.nbr n 0x28) 16 6 = f.tsfd % 40 ∧ bitOf (u.nbr n 0x34) 30 = true ∧ bitOf (u.nbr n 0x34) 27 = false ∧
      bitsOf (u.nbr n 0x34) 21 3 = 0 ∧ ∀ b, b < nbrAddr n + 0x24 ∨ nbrAddr n + 0x40 ≤ b → u.byte b = s.byte b) ∧
    (w.mod = 6 → s.curFrame e c = none → Faults (.resync e c) s e c 5) ∧
    (∀ on : Bool, w.mod = (if on then 2 else 3) → after (if on then .txhold e c else .txrel e c) fun u y => y.v = x.v ∧
      u.txq = s.txq.map fun t => if !t.taken && bitOf (t.words.getD 3 0) 26 && bitsOf (t.words.getD 3 0) 16 10 = n then t.setHold on else t) ∧
    (e = 16 →
      (w.mod = 1 → x.act = .none → s.tb.src = .xtal →
        (s.offered = none → goes (.txgo e c) (s.setCtx e c { x with acc := false })) ∧
        (∀ en, s.offered = some en → after (.txgo e c) fun _ y => y.acc = true ∧ y.v = x.v)) ∧
      (w.mod = 7 → s.tb.src = .xtal → after (.sprx e c) fun u _ =>
        u.last Reg.RFE_SPCTL &&& 0x1107F = BitVec.ofNat 32 (2 ^ 16 + a.toNat / 256 % 2 * 2 ^ 12 + a.toNat % 128) ∧
          bitsOf (u.last Reg.RFE_SPCTL) 8 2 = (if a.toNat / 512 % 4 = 3 then bitsOf (s.last Reg.RFE_SPCTL) 8 2 else a.toNat / 512 % 4)) ∧
      (w.mod = 8 → after (.spoff e c) fun u _ => bitOf (u.last Reg.RFE_SPCTL) 16 = false) ∧
      (w.mod = 9 → x.act = .none → s.tb.src = .xtal →
        goes (.sped e c) (s.setCtx e c { x with act := .sped (s.now + 40 * max 16 (min 4096 w.imm.toNat)) })) ∧
      (w.mod = 10 → x.act = .none → after (.armSadc e c) fun u y => y.act = .sadc ∧
        (s.sadc = ⟨none, []⟩ → u.sadc = ⟨some ⟨a.toNat % 8, none, some c⟩, []⟩)) ∧
      (w.mod = 11 → after (.armWake e c) fun u y => y.v = x.v ∧
        (a.toNat.testBit 0 = true → s.core0.run = .wfi → s.core0.halted = false → u.core0.run = .running) ∧
        (a.toNat.testBit 1 = true → s.core1.run = .wfi → s.core1.halted = false → u.core1.run = .running)))) ∧
  (∀ (s : State) (t c d : Nat) (ed : Int), let v := s.at_ t
    v.Calm → c < 4 → (v.eng 16).run = true → (v.ctx 16 c).act = .sped d →
    (d ≤ v.now → Does (.spedDone c ed t) s (v.setCtx 16 c { v.ctx 16 c with act := .none, ed := ed, lat := (v.ctx 16 c).lat ||| 0x80000000 })) ∧
    (v.now < d → Does (.spedDone c ed t) s v))

/-- R149, R166, R177, R180, R182, R434. -/
def Obligations.EnginesQueuesAndContextFaults : Prop :=
  (∀ s : State, s.Calm →
    (s.flag Reg.REEL_E16CTL_RUN = false → (s.eng 16).run = false → s.ldr.phase = .idle → s.upd.phase ≠ .pause →
      ∃ u, exec .engine16Run s = .next u ∧ u.flag Reg.REEL_E16CTL_RUN = true ∧ s.regsBut u [Reg.REEL_E16CTL] ∧
        (if s.start.rxbusy then (u.eng 16).wantStart = true ∧ (u.eng 16).run = false
         else (u.eng 16).run = true ∧ ∀ c, c < 4 → (u.ctx 16 c).st = .ready ∧ (u.ctx 16 c).pc = 0)) ∧
    ((s.eng 16).run = true → ∃ u, exec .engine16Stop s = .next u ∧ u.flag Reg.REEL_E16CTL_RUN = false ∧ s.regsBut u [Reg.REEL_E16CTL] ∧
      (u.eng 16).stopping = true ∧ (u.eng 16).run = true) ∧
    ((s.eng 16).run = false → ∃ u, exec .engine16Stop s = .next u ∧ u.flag Reg.REEL_E16CTL_RUN = false ∧ s.regsBut u [Reg.REEL_E16CTL] ∧
      (u.eng 16).run = false) ∧
    (∀ d : Word, let e := d.toNat / 2 ^ 16 % 32
      let c := d.toNat % 8
      ((s.eng e).run = false ∨ nctx e ≤ c) → Does (.contextRestart d) s s) ∧
    (∀ d : Word, let e := d.toNat / 2 ^ 16 % 32
      let c := d.toNat % 8
      s.rfe.holder = none → (s.eng e).run = true → c < nctx e →
      ∃ u, exec (.contextRestart d) s = .next u ∧ (u.ctx e c).st = .ready ∧ (u.ctx e c).pc = 0 ∧ (u.ctx e c).stack = [] ∧
        (u.ctx e c).v = [BitVec.ofNat 32 (if e = 16 then 128 + c else 8 * e + c), 0, 0, 0, 0, 0, 0, 0] ∧ u.regs = s.regs) ∧
    (∀ d : Word,
      if (s.eng 16).run = false ∧ s.txq = [] ∧ 0x21000 ≤ d.toNat / 4096 ∧ d.toNat / 4096 < 0x21040 then
        ∃ u, exec (.txqbaseWrite d) s = .next u ∧ u.reg Reg.REEL_TXQBASE &&& 0xFFFFF000 = d &&& 0xFFFFF000 ∧ s.regsBut u [Reg.REEL_TXQBASE]
      else ∃ u, exec (.txqbaseWrite d) s = .next u ∧ bitOf (u.reg Reg.REEL_WIGN) 16 = true ∧ s.regsBut u [Reg.REEL_WIGN] ∧ u.mem = s.mem)) ∧
  (∀ (s : State) (t : Nat), let v := s.at_ t
    v.Calm →
    Does (.txqRelease t) s { v with txq := v.txq.map fun e => if e.due ≤ v.now + 1920 then { e with released := true } else e } ∧
    ((v.eng 16).run = true → (v.eng 16).stopping = true → v.ldr.phase = .idle → v.upd.stop16 = false → v.start.rxbusy = false →
      (v.allWait 16 = true →
        ∃ u, exec (.engine16Stopped t) s = .next u ∧ u.regs = v.regs ∧ (u.eng 16).stopping = false ∧
          (v.flag Reg.REEL_E16CTL_RUN = false → (u.eng 16).run = false ∧
            ∀ c, c < 4 → (v.ctx 16 c).st ≠ .faulted → (v.ctx 16 c).st ≠ .halted → (u.ctx 16 c).st = .stopped) ∧
          (v.flag Reg.REEL_E16CTL_RUN = true → (u.eng 16).run = true ∧ ∀ c, c < 4 → (u.ctx 16 c).st = .ready ∧ (u.ctx 16 c).pc = 0)) ∧
      (v.allWait 16 = false → Does (.engine16Stopped t) s v)) ∧
    (∀ (e c cause : Nat) (parity : Bool), v.rfe.holder = none → v.reg Reg.REEL_FATALC = 0 → c < nctx e → (v.eng e).run = true →
      (v.ctx e c).st = .running → (∀ d, d < nctx e → d ≠ c → (v.ctx e d).st ≠ .running ∧ (v.ctx e d).st ≠ .ready) →
      let listed := (v.fetchStep e (v.ctx e c).pc).listed
      (cause = 1 ∧ 64 ≤ (v.ctx e c).steps) ∨ (cause = 9 ∧ (v.ctx e c).steps < 64 ∧ parity = true) ∨
        (cause = 2 ∧ (v.ctx e c).steps < 64 ∧ parity = false ∧ listed = false) →
      ∃ u, exec (.contextDispatch e parity t) s = .next u ∧ (u.ctx e c).st = .faulted ∧ (u.ctx e c).cause = cause ∧
        (u.ctx e c).pc = (v.ctx e c).pc ∧ (u.ctx e c).v = (v.ctx e c).v ∧ (u.ctx e c).timer = none ∧ (u.ctx e c).act = .none ∧
        (∀ d, d < nctx e → d ≠ c → bitOf (u.ctx e d).lat 30 = true) ∧
        (let w := BitVec.ofNat 32 (cause * 2 ^ 28 + e * 2 ^ 20 + c * 2 ^ 16 + (v.ctx e c).pc)
         u.reg Reg.REEL_LASTF = w ∧ v.regsBut u [Reg.REEL_LASTF] ∧
         u.icol0.buf = v.icol0.buf ++ [⟨136, v.icolPri .c0 136, false, w, 0, v.us⟩]) ∧
        ∀ k, v.laneOf e c = some k → (u.lane k).st = .off ∧ (u.lane k).acks = [] ∧
          (u.lane k).frames = ((v.lane k).frames.filter fun f => f.leaving).map fun f =>
            if f.ack = .requested then { f with ack := .withdrawn, ackDone := true } else f))

/-- R188 to R192; log entries 44 and 99 for the order of the codes, an aborted stop of engine 16 and what reads find. -/
def Obligations.StepTablesLoad : Prop :=
  let ended := fun (v u : State) (code : Nat) => u.ldr.phase = .idle ∧ u.get Reg.REEL_LDSTAT_CODE = code ∧
    ∃ p, u.icol0.buf = v.icol0.buf ++ [p] ∧ p.src = 137 ∧ bitsOf p.lo 0 8 = code
  (∀ (s : State) (d : Word), s.Calm →
    let e := d.toNat / 2 ^ 16 % 32
    if s.ldr.phase = .idle ∧ e ≤ 16 then
      ∃ u, exec (.loadTable d) s = .next u ∧ u.ldr.phase = .verify ∧ u.ldr.eng = e ∧ u.ldr.src = 8 * s.get Reg.REEL_LDSRC_ADDR ∧
        u.ldr.soft = d.toNat / 256 % 256 ∧ u.ldr.norestart = bitOf d 4 ∧ u.get Reg.REEL_LDSTAT_ENG = e ∧ s.regsBut u [Reg.REEL_LDSTAT] ∧
        u.mem = s.mem
    else ∃ u, exec (.loadTable d) s = .next u ∧ u.ldr = s.ldr ∧ u.flag Reg.REEL_LDSTAT_REJECT = true ∧ s.regsBut u [Reg.REEL_LDSTAT]) ∧
  (∀ s : State, s.Calm → s.upd.phase = .idle → s.ldr.forUpd = false →
    (s.ldr.phase = .verify → ∃ u, exec .loadAbort s = .next u ∧ ended s u 7 ∧ u.reg Reg.ENV_GHOLD_SET = s.reg Reg.ENV_GHOLD_SET) ∧
    (s.ldr.phase = .stopping → s.ldr.eng < 16 → ∃ u, exec .loadAbort s = .next u ∧ ended s u 7 ∧
      u.held s.ldr.eng = (s.held s.ldr.eng && !s.ldr.weHold)) ∧
    (s.ldr.phase = .stopping → s.ldr.eng = 16 → s.ldr.weHold = false → ∃ u, exec .loadAbort s = .next u ∧ ended s u 7 ∧ u.eng 16 = s.eng 16) ∧
    (s.ldr.phase = .copy ∨ s.ldr.phase = .idle → Does .loadAbort s s)) ∧
  (∀ (s : State) (t : Nat), let v := s.at_ t
    let e := v.ldr.eng
    v.Calm → v.upd.phase = .idle → v.ldr.forUpd = false →
    (v.ldr.phase = .verify → v.rwaits v.ldr.src (v.imgSpan v.ldr.src e) = true →
      ∃ u, exec (.loadVerifyDone t) s = .next u ∧ u.ldr = v.ldr ∧ u.engs = v.engs ∧ u.icol0.buf = v.icol0.buf) ∧
    (let read := v.rscans [(v.ldr.src, v.imgSpan v.ldr.src e)]
     let rd := v.rgot read.2
     v.ldr.phase = .verify → v.rwaits v.ldr.src (v.imgSpan v.ldr.src e) = false →
      (∀ k, v.imgFault rd read.2 v.ldr.src e = some k → ∃ u, exec (.loadVerifyDone t) s = .next u ∧ ended read.1 u k ∧ u.engs = v.engs) ∧
      (v.imgFault rd read.2 v.ldr.src e = none → e < 16 → ∃ u, exec (.loadVerifyDone t) s = .next u ∧ u.ldr.hdr = hdrOf (rd v.ldr.src 32) ∧
        (if (v.eng e).run then u.ldr.phase = .stopping ∧ (u.eng e).run = true ∧ u.ldr.began = v.now ∧
            u.held e = (v.held e || v.ldr.soft == 0)
         else u.ldr.phase = .copy ∧ u.held e = true)) ∧
      (v.imgFault rd read.2 v.ldr.src e = none → e = 16 → ∃ u, exec (.loadVerifyDone t) s = .next u ∧ u.ldr.hdr = hdrOf (rd v.ldr.src 32) ∧
        (if (v.eng 16).run then u.ldr.phase = .stopping ∧ (u.eng 16).run = true ∧ (u.eng 16).stopping = true ∧ u.ldr.began = v.now
         else u.ldr.phase = .copy))) ∧
    (v.ldr.phase ≠ .verify → Does (.loadVerifyDone t) s v) ∧
    (v.ldr.phase = .stopping → v.ldr.hard = false → e < 16 → v.groupDone e = true → v.huntOrOff e = true →
      ∃ u, exec (.loadQuietStop t) s = .next u ∧ u.ldr.phase = .copy ∧ (u.eng e).run = false ∧ u.held e = true ∧ u.ldr.stopT = some v.now) ∧
    (v.ldr.phase ≠ .stopping → Does (.loadQuietStop t) s v ∧ Does (.loadSoftWaitExpiry t) s v) ∧
    (v.ldr.phase = .stopping → v.ldr.hard = false → e < 16 →
      (v.ldr.began + 40000 * v.ldr.soft ≤ v.now → ∃ u, exec (.loadSoftWaitExpiry t) s = .next u ∧ u.ldr.hard = true ∧ u.held e = true ∧
        u.ldr.phase = .stopping) ∧
      (v.now < v.ldr.began + 40000 * v.ldr.soft → Does (.loadSoftWaitExpiry t) s v)) ∧
    (let h := v.ldr.hdr
     let read := v.rscans [(v.ldr.src + 32, 8 * imgCount h)]
     let body := v.rgot read.2 (v.ldr.src + 32) (8 * imgCount h)
     let dark := fun u : State => BitVec.ofNat 32 (match v.ldr.stopT with
       | some b => if (u.eng e).run then (v.now - b) / 40 else 0
       | none => 0)
     v.ldr.phase = .copy → v.rwaits v.ldr.src (imgLen h) = false → e ≤ 16 → (v.eng e).run = false → imgFirst h + imgCount h ≤ 1024 → v.srcOk v.ldr.src (imgLen h) = true →
      ∃ u, exec (.loadComplete t) s = .next u ∧
        (read.2 = [] → crc32c body = h.getD 6 0 → ended read.1 u 0 ∧ u.reg Reg.REEL_LDDARK = dark u ∧
          (∀ i, i < 1024 → i < imgFirst h ∨ imgFirst h + imgCount h ≤ i → u.bytes (stepAddr e i) 8 =
            if bitOf (h.getD 1 0) 18 = true then v.bytes (stepAddr e i) 8 else [0, 0, 0, 0, 0, 0, 0, 0xFC]) ∧ u.bytes (stepAddr e (imgFirst h)) (8 * imgCount h) = body ∧ u.reg (Reg.REEL_TID e) = h.getD 3 0 ∧
          (e = 16 → v.ldr.norestart = false → v.ldr.heldBefore = false → v.flag Reg.REEL_E16CTL_RUN = true → v.start.rxbusy = false → (u.eng 16).run = true) ∧
          (e < 16 → v.ldr.norestart = false → v.ldr.heldBefore = false → v.env.st = .run → v.inSpan e = true → v.held e = true → v.start.rxbusy = false →
            (u.eng e).run = true ∧ u.held e = false) ∧
          (v.ldr.norestart = true → (u.eng e).run = false ∧ (e < 16 → u.held e = v.held e))) ∧
        (read.2 ≠ [] ∨ crc32c body ≠ h.getD 6 0 → ended read.1 u 6 ∧ (u.eng e).run = false ∧ (e < 16 → u.held e = v.held e) ∧
          u.reg (Reg.REEL_TID e) = 0 ∧ u.reg Reg.REEL_LDDARK = 0 ∧ ∀ i, i < 1024 → u.bytes (stepAddr e i) 8 = [0, 0, 0, 0, 0, 0, 0, 0xFC])))

/-- R236, R239, R240, R267; log entries 47 and 98 for a record that its ring no longer takes. -/
def Obligations.DeliveriesAndReplayWords : Prop :=
  (∀ (s : State) (t : Nat) (r : CoreId) (d : Delivery), let v := s.at_ t
    let n := coreNum r
    let put := v.get (Reg.LINK_RPUT_PUT n)
    let a := v.recAddr n put
    v.Calm → v.link.deliv.find? (fun d => d.ring = n) = some d → 0 < v.ringSize n → 0x20000000 ≤ a → a + 320 ≤ 0x20100000 →
    v.bankRefuses a = false → v.bankRefuses (a + 319) = false → 0x21000 ≤ v.get Reg.REEL_TXQBASE_ADDR →
    d.head.length = 16 → d.len ≤ 256 → d.lane < 129 → d.buf < 2 →
    ∃ u, exec (.deliveryWrite r t) s = .next u ∧
      (∀ i, i < 16 → u.word (a + 4 * i) = if i = 7 then d.head.getD 7 0 ||| BitVec.ofNat 32 (put * 2 ^ 16) else d.head.getD i 0) ∧
      u.bytes (a + 64) d.len = v.bytes (bufAddr d.lane d.buf) d.len ∧
      (∀ x, x < a ∨ a + 64 + d.len ≤ x → u.byte x = v.byte x) ∧
      u.get (Reg.LINK_RPUT_PUT n) = (put + 1) % 65536 ∧ u.link.deliv = v.link.deliv.erase d ∧
      (u.lane d.lane).frames = (v.lane d.lane).frames.filter (fun f => !(f.leaving && f.buf = d.buf)) ∧
      (u.icol r).buf = (v.icol r).buf ++ (if v.flag (Reg.LINK_RCFG_NOTIFY n) then
        [⟨140 + n, v.icolPri r (140 + n), false, (d.head.getD 0 0 &&& 0xFF000000) ||| BitVec.ofNat 32 put, d.head.getD 8 0, v.us⟩] else [])) ∧
  (∀ (s : State) (t : Nat) (r : CoreId), let v := s.at_ t
    let n := coreNum r
    v.Calm →
    (v.link.deliv.find? (fun d => d.ring = n) = none → Does (.deliveryWrite r t) s v) ∧
    (∀ d, v.link.deliv.find? (fun d => d.ring = n) = some d → v.ringSize n = 0 ∨ v.recOk n (v.get (Reg.LINK_RPUT_PUT n)) = false →
      ∃ u, exec (.deliveryWrite r t) s = .next u ∧ u.get (Reg.LINK_RPUT_FULL n) = min 65535 (v.get (Reg.LINK_RPUT_FULL n) + 1) ∧
        u.get (Reg.LINK_RPUT_PUT n) = v.get (Reg.LINK_RPUT_PUT n) ∧ v.sameBytes u ∧ v.regsBut u [Reg.LINK_RPUT n] ∧
        u.link.deliv = v.link.deliv.erase d ∧ (u.icol r).buf = (v.icol r).buf ∧
        (u.lane d.lane).frames = (v.lane d.lane).frames.filter (fun f => !(f.leaving && f.buf = d.buf)))) ∧
  (∀ (s : State) (r : CoreId) (take : BitVec 16),
    let n := coreNum r
    let occ := fun k => (s.get (Reg.LINK_RPUT_PUT n) + 65536 - k) % 65536
    if occ take.toNat ≤ occ (s.get (Reg.LINK_RTAKE_TAKE n)) then
      s.canonical → ∃ u, exec (.rtakeWrite r take) s = .next u ∧ u.get (Reg.LINK_RTAKE_TAKE n) = take.toNat ∧ s.regsBut u [Reg.LINK_RTAKE n] ∧ u.mem = s.mem
    else Does (.rtakeWrite r take) s s) ∧
  (∀ (s : State) (n t : Nat), let v := s.at_ t
    v.canonical → n < 1024 →
    ((∃ p ∈ v.link.thru, p.1 = n) → ∃ u, exec (.ballastWriteThrough n t) s = .next u ∧
      u.word (0x2207E000 + 4 * n) = v.word (0x21020010 + 64 * n) ∧ u.regs = v.regs ∧ (∀ p ∈ u.link.thru, p.1 ≠ n) ∧
      ∀ x, x < 0x2207E000 + 4 * n ∨ 0x2207E004 + 4 * n ≤ x → u.byte x = v.byte x) ∧
    ((∀ p ∈ v.link.thru, p.1 ≠ n) → Does (.ballastWriteThrough n t) s v))

/-- R195 to R199, R371; log entries 34 and 92 for a carry without its crystal and the first edge. -/
def Obligations.TimebaseFollowsItsCrystals : Prop :=
  (∀ s : State, s.Calm →
    (s.tb.ready = true → s.tb.src ≠ .xtal → Does .tbaseRefOn s { s with tb := { s.tb with move := true } }) ∧
    (s.tb.ready = true → s.tb.src = .xtal → Does .tbaseRefOn s s) ∧
    (s.tb.ready = false → ∃ u, exec .tbaseRefOn s = .next u ∧ u.tb = s.tb ∧ u.flag Reg.TBASE_STATUS_REFUSED = true ∧ s.regsBut u [Reg.TBASE_STATUS]) ∧
    (s.tb.src ≠ .xtal → Does .tbaseRefOff s s) ∧
    (s.tb.src = .xtal → s.flag Reg.TBASE_CTL_AUTO = true →
      ∃ u, exec .tbaseRefOff s = .next u ∧ u.tb = s.tb ∧ u.flag Reg.TBASE_STATUS_REFUSED = true ∧ s.regsBut u [Reg.TBASE_STATUS]) ∧
    (s.tb.src = .xtal → s.flag Reg.TBASE_CTL_AUTO = false → ∃ u, exec .tbaseRefOff s = .next u ∧
      u.tb = { s.tb with
        src := if s.tb.lfok then .carry else .fio
        xtalOn := false
        ready := false
        move := false
        pll := false
        fio := u.tb.fio
        edge := u.tb.edge
        rem := u.tb.rem } ∧ (s.tb.lfok = true → u.tb.edge = s.now ∧ u.tb.fio = s.tb.fio) ∧
      u.now = s.now ∧ (s.lanes = [] → u.mem = s.mem)) ∧
    (∃ u, exec .tbaseAutoOn s = .next u ∧ u.flag Reg.TBASE_CTL_AUTO = true ∧ u.tb.xtalOn = true ∧ u.tb.src = s.tb.src ∧
      u.tb.move = (s.tb.move || (s.tb.ready && s.tb.src != .xtal)) ∧ s.regsBut u [Reg.TBASE_CTL])) ∧
  (∀ (s : State) (t : Nat), let v := s.at_ t
    v.Calm →
    (v.tb.xtalOn = true → v.tb.ready = false → v.get (Reg.EVL_LINECFG_SUB (v.outLine 3)) = 0 →
      ∃ u, exec (.xtalReady t) s = .next u ∧ u.tb.ready = true ∧ u.tb.move = (v.tb.move || v.flag Reg.TBASE_CTL_AUTO) ∧ u.tb.src = v.tb.src ∧
        u.start.rcalT = (v.start.rcalT || v.start.rcal) ∧ u.mem = v.mem) ∧
    (v.tb.xtalOn = false ∨ v.tb.ready = true → Does (.xtalReady t) s v) ∧
    (v.tb.move = true → v.tb.ready = true → v.tb.src ≠ .xtal → v.rfe.waiting = [] → ∃ u, exec (.timebaseSwitch t) s = .next u ∧ u.tb = { v.tb with src := .xtal, move := false } ∧
      u.now = v.now) ∧
    (v.tb.move = false ∨ v.tb.ready = false ∨ v.tb.src = .xtal → Does (.timebaseSwitch t) s v) ∧
    (v.tb.ready = true → v.tb.xtalOn = true → Does (.samplePllLock t) s
      (let p := { v.tb with pll := true }
       if v.rfe.st = .off ∧ v.flag Reg.RFE_CTL_EN = true ∧ v.start.rcalT = false then { v with tb := p, rfe := { v.rfe with st := .starting } }
       else { v with tb := p })) ∧
    (v.tb.ready = false ∨ v.tb.xtalOn = false → Does (.samplePllLock t) s v) ∧
    (∀ inc : Word, v.tb.xtalOn = true → v.tb.ready = true → v.tb.lfok = true → v.flag Reg.RTC_TRIM_AUTO = false →
      ∃ u, exec (.lfcalMeasure inc t) s = .next u ∧ u.reg Reg.TBASE_LFCAL = inc ∧ u.tb = { v.tb with lfcalok := true } ∧ v.regsBut u [Reg.TBASE_LFCAL]) ∧
    (∀ inc : Word, v.tb.xtalOn = false ∨ v.tb.ready = false ∨ v.tb.lfok = false → Does (.lfcalMeasure inc t) s v) ∧
    (v.tb.lfok = true → Does (.lfCrystalStart t) s v) ∧
    (v.tb.lfok = false → Does (.lfCrystalStart t) s { v with
      tb := { v.tb with lfok := true, edge := v.now, rem := 0 }, rtc := { v.rtc with running := true, since := v.now } }) ∧
    (∃ u, exec (.lfCrystalStop t) s = .next u ∧ u.tb.lfok = false ∧ u.rtc.running = false ∧ u.rtc.sec = v.rtc.sec ∧ u.rtc.frac = v.rtcFrac ∧
      u.tb.src = (if v.tb.src = .carry then .fio else v.tb.src) ∧ u.flag Reg.RTC_STATUS_OSCSTOP = true ∧
      u.flag Reg.RTC_STATUS_TIME_SUSPECT = true ∧ v.regsBut u [Reg.RTC_STATUS]) ∧
    (v.tb.xtalOn = false → v.tb.src = .carry →
      (v.nextCompare ≤ v.now + 2440 → Does (.fioBurstStart t) s { v with tb := { v.tb with src := .fio, fio := true } }) ∧
      (v.now + 2440 < v.nextCompare → Does (.fioBurstStart t) s v)) ∧
    (∀ low feeds : Bool, ∃ u, exec (.vbkpLow low feeds t) s = .next u ∧ u.rtc = { v.rtc with vbkpLow := low } ∧
      (low = true → feeds = true → u.flag Reg.RTC_STATUS_TIME_SUSPECT = true ∧ v.regsBut u [Reg.RTC_STATUS]) ∧
      (low = false ∨ feeds = false → u.regs = v.regs))) ∧
  (∀ (s : State) (t : Nat), let v := s.at_ t
    s.now ≤ t → s.tb.edge ≤ s.now → -(s.inc : Int) < s.tb.rem →
    v.now = t ∧ (s.tb.src ≠ .carry → v.net = t) ∧
    (s.tb.src = .carry → s.tb.lfok = true →
      (∃ k : Nat, 65536 * (v.tb.edge : Int) + v.tb.rem = 65536 * (s.tb.edge : Int) + s.tb.rem + k * s.inc ∧ (k ≠ 0 → 0 ≤ v.tb.rem ∧ v.tb.rem < 65536)) ∧
      v.net = v.tb.edge ∧ s.net ≤ v.net ∧ v.net ≤ t ∧ 65536 * (t : Int) + 65536 ≤ 65536 * (v.tb.edge : Int) + v.tb.rem + s.inc))

/-- R49 to R54, R201 to R206, R218, R220; log entry 21 for the value that SETEVC takes. -/
def Obligations.SlotsCountersAndSupervision : Prop :=
  (∀ (s : State) (d : Word),
    Does .setevc s { s with link := { s.link with
      setPend := some (s.lastGet Reg.LINK_EVCSET_HI_VAL * 2 ^ 32 + (s.last Reg.LINK_EVCSET_LO).toNat) } } ∧
    Does .cancelset s { s with link := { s.link with setPend := none } } ∧
    Does (.linkAdjWrite d) s { s with link := { s.link with adj := some (40 * (d.setWidth 16).toInt) } }) ∧
  (∀ (s : State) (t : Nat), let v := s.at_ t
    (v.canonical → (({ v with waits := [], armed := [], cfg := { v.cfg with held := none } } : State).setReg Reg.CFG_PEND 0).Quiet →
      (∀ x ∈ v.waits, x.addr ∈ [Reg.LINK_PARENT, Reg.LINK_RCFG 0, Reg.LINK_RCFG 1, Reg.LINK_RBASE 0, Reg.LINK_RBASE 1, Reg.LINK_EVCSET_LO, Reg.LINK_EVCSET_HI, Reg.LINK_DWSEL, Reg.LINK_LSEL]) →
      (∀ p, p ∈ v.armed ∨ p ∈ v.shadowDiff → unitOf p.1 = 18 ∧ sMask p.1 ≠ 0) → v.pend = (if v.armed = [] then 0 else 0x40000) →
      (v.cfg.held ≠ none → v.pend ≠ 0) → v.get (Reg.EVL_LINECFG_SUB (v.outLine 0)) = 0 → v.link.nextT ≤ v.now →
      let evc := v.link.setPend.getD ((v.link.evc + 1) % 2 ^ 40)
      let due := fun n : Nat => v.cfg.sched = some n ∧ (n = evc ∨ (v.link.evc < n ∧ n < evc))
      ∃ u, exec (.slotStart t) s = .next u ∧ u.link.slotT = v.link.nextT ∧ u.link.evc = evc ∧
        u.link.setPend = none ∧ u.link.adj = none ∧ u.mem = v.mem ∧ u.waits = [] ∧ u.armed = [] ∧ u.pend = 0 ∧ u.cfg.held = none ∧
        (let len := max 1000 (min 65000 (u.get Reg.LINK_SLOTCFG_SLOTLEN))
         let sum := v.link.after + v.link.adj.getD 0
         sum ≤ ((10 * len : Nat) : Int) → -((10 * len : Nat) : Int) ≤ sum → (u.link.nextT : Int) = v.link.nextT + 40 * len + sum) ∧
        (∀ a, a ∈ v.waits.map (fun x => x.addr) →
          u.reg a = (v.waits.filter fun x => x.addr = a).foldl (fun w x => mergeBits w x.mask x.val) (v.reg a)) ∧
        (if (∃ n, due n) ∨ v.cfg.held ≠ none then
          u.get Reg.CFG_EPOCH_CUR = (v.get Reg.CFG_EPOCH_CUR + 1) % 65536 ∧ u.cfg.window = v.get Reg.CFG_WIN_WINDOW ∧
            (∀ a, sMask a ≠ 0 → unitOf a = 18 → u.reg a = mergeBits (v.reg a) (sMask a) (v.shadowOf a)) ∧
            (u.flag Reg.CFG_STATUS_LATE = true ↔ v.flag Reg.CFG_STATUS_LATE = true ∨ v.cfg.held = some true ∨ ∃ n, due n ∧ (n ≠ evc ∨ v.pend ≠ 0))
        else u.reg Reg.CFG_EPOCH = v.reg Reg.CFG_EPOCH ∧ u.cfg.window = v.cfg.window - 1 ∧ u.reg Reg.CFG_STATUS = v.reg Reg.CFG_STATUS ∧
          ∀ a, sMask a ≠ 0 → unitOf a = 18 → u.reg a = (v.armed.filter fun p => p.1 = a).foldl (fun w p => mergeBits w (sMask a) p.2) (v.reg a)) ∧
        ((∃ n, due n) → u.cfg.sched = none) ∧ ((¬∃ n, due n) → u.cfg.sched = v.cfg.sched) ∧
        ∀ e c, e < 17 → c < nctx e → (v.eng e).run = true → bitOf (u.ctx e c).lat 23 = true) ∧
    (v.Calm →
    (v.now < v.link.nextT → Does (.slotStart t) s v) ∧
    (∀ n, n < 1024 → let w := v.nbr n 0x34
      let late := (BitVec.ofNat 32 (v.us / 1024) - v.nbr n 0x3C).toInt
      (bitOf w 28 = true → bitOf w 29 = false → 0 ≤ late →
        ∃ u, exec (.supervisionExpiry n t) s = .next u ∧ u.flag Reg.LINK_STATUS_SUPVX = true ∧
          (v.txqOver = false → v.bankRefuses (nbrAddr n) = false → (∀ x ∈ v.txq, x.q < 4 ∧ x.slot < 32) →
            u.nbr n 0x34 = v.nbr n 0x34 ||| 0x28000000) ∧
          u.icol0.buf = v.icol0.buf ++ [⟨138, v.icolPri .c0 138, false, BitVec.ofNat 32 n, 2, v.us⟩] ∧
          u.txq = v.txq.map fun x => if !x.taken && bitOf (x.words.getD 3 0) 26 && bitsOf (x.words.getD 3 0) 16 10 = n then x.setHold true else x) ∧
      (bitOf w 28 = false ∨ bitOf w 29 = true ∨ late < 0 → Does (.supervisionExpiry n t) s v)) ∧
    Does (.dwellBucketRoll t) s { v with link := { v.link with
      bucket := v.bucketNow, dwell := v.link.dwell.filter fun c => v.bucketNow < c.bucket + 16 } }))

/-- R243, R246 to R250, R252, R256; log entries 35 and 36 for when the inputs are read and what a failing CMAC_VER zeroes. -/
def Obligations.CipherRequestsStart : Prop :=
  ∀ (s : State) (q : CoreId) (rnd : List Byte), s.Calm →
    let cmds : List (Nat × Instr) := [(1, .ccmEnc q), (2, .ccmDec q), (3, .gcmEnc q), (4, .gcmDec q), (5, .ctr q), (6, .cmacGen q),
      (7, .cmacVer q), (8, .sha256 q), (9, .ecdsaVer q), (10, .unwrap q), (11, .wrap q), (12, .rng q rnd)]
    let n := s.get (Reg.CIPH_QDONE_VAL (coreNum q))
    let d := Desc.ofWords (s.descWords (coreNum q) n)
    let ready := s.flag Reg.CIPH_CTL_EN = true ∧ s.ciph.halted = false ∧ s.ciph.cur = none ∧ s.cipTurn = some (coreNum q)
    let inReach := (∀ i ∈ d.ins, s.reaches readRegions i.1 i.2 = true) ∧ ∀ o ∈ s.descOuts d, s.reaches writeRegions o.1 o.2 = true
    let key := ((s.cipKey d.key).map Key.octets).getD []
    let permits := fun u : Nat => if d.op ∈ [1, 3, 6] then u.testBit 0 else if d.op ∈ [2, 4, 7] then u.testBit 1
      else if d.op = 5 then u.testBit 0 || u.testBit 1 else u.testBit 2
    let read := (s.wakeRange (s.descAddr (coreNum q) n) 32).rscans d.ins
    let rd := s.rgot read.2
    let waits := s.cipCheck d = 0 ∧ ∃ i ∈ d.ins, s.rwaits i.1 i.2 = true
    let text := rd d.src d.len
    let aad := rd d.aad d.alen
    let but := [Reg.MEMC_BANKCTL, Reg.MEMC_RBANKCTL, Reg.FLC_STATUS, Reg.FLC_ECNT, Reg.FLC_RRSTAT, Reg.FLC_RRADDR, Reg.FLC_UEADDR]
    ∀ p ∈ cmds,
      (¬ ready → Does p.2 s s) ∧
      (ready → s.descReach (coreNum q) n = true → d.op = p.1 → waits →
        ∃ u, exec p.2 s = .next u ∧ u.ciph = s.ciph ∧ s.sameBytes u ∧ s.regsBut u but) ∧
      (ready → s.descReach (coreNum q) n = true → d.op = p.1 → ¬ waits →
        ∃ u r, exec p.2 s = .next u ∧ u.ciph.cur = some r ∧ u.ciph.lastQ = coreNum q ∧ r.q = coreNum q ∧ r.seq = n ∧
          r.desc = s.descWords (coreNum q) n ∧ s.sameBytes u ∧ s.regsBut u but ∧
          u.ciph.keys = s.ciph.keys ∧
          (d.ok = false → r.code = 6 ∧ r.outs = [] ∧ r.load = none) ∧
          (d.ok = true → ¬ inReach → r.code = 7 ∧ r.outs = [] ∧ r.load = none) ∧
          (d.ok = true → inReach → d.overlap (s.descOuts d) = true → r.code = 8 ∧ r.outs = [] ∧ r.load = none) ∧
          (d.ok = true → inReach → d.overlap (s.descOuts d) = false → d.usesKey = true → s.cipKey d.key = none →
            r.code = 4 ∧ r.outs = [] ∧ r.load = none) ∧
          (d.ok = true → inReach → d.overlap (s.descOuts d) = false → d.op = 11 → s.key d.src = none → r.code = 4 ∧ r.outs = [] ∧ r.load = none) ∧
          (∀ k, d.ok = true → inReach → d.overlap (s.descOuts d) = false → d.usesKey = true → s.cipKey d.key = some k →
            (d.op = 11 → s.key d.src ≠ none) → permits k.usage = false ∨ (d.op = 11 ∧ ∃ x, s.key d.src = some x ∧ x.usage.testBit 3 = false) →
            r.code = 5 ∧ r.outs = [] ∧ r.load = none) ∧
          (s.cipCheck d = 0 →
            let tag := rd d.tag d.tlen
            let is := fun (outs : List (Nat × List Byte)) (code : Nat) (load : Option (Nat × Key)) =>
              r.outs = outs ∧ r.code = code ∧ r.load = load
            let opened := fun (good : Bool) (plain : List Byte) =>
              if good then is [(d.dst, plain)] 0 none else is [(d.dst, zeros plain.length)] 1 none
            (p.1 = 1 → is [(d.dst, ccmCrypt key (rd d.nonce 13) text), (d.tag, ccmTag key (rd d.nonce 13) aad text d.tlen)] 0 none) ∧
            (p.1 = 2 → let plain := ccmCrypt key (rd d.nonce 13) text
              opened (ccmTag key (rd d.nonce 13) aad plain d.tlen = tag) plain) ∧
            (p.1 = 3 → let c := gcmCrypt key (rd d.nonce 12) text
              is [(d.dst, c), (d.tag, gcmTag key (rd d.nonce 12) aad c d.tlen)] 0 none) ∧
            (p.1 = 4 → opened (gcmTag key (rd d.nonce 12) aad text d.tlen = tag) (gcmCrypt key (rd d.nonce 12) text)) ∧
            (p.1 = 5 → is [(d.dst, ctrCrypt key (rd d.nonce 16) text)] 0 none) ∧
            (p.1 = 6 → is [(d.tag, cmac key text d.tlen)] 0 none) ∧
            (p.1 = 7 → is [] (if cmac key text d.tlen = tag then 0 else 1) none) ∧
            (p.1 = 8 → is [(d.dst, sha256 (rd d.src d.lenAll))] 0 none) ∧
            (p.1 = 9 → r.outs = [] ∧ r.load = none ∧
              (r.code = 0 ↔ ecdsa (rd d.src 32) (rd d.aad 64) (rd d.tag 64) = some true)) ∧
            (p.1 = 10 → match kwUnwrap key text with
              | some k => is [] 0 (some (d.dst % 512, ⟨k, d.len = 40, d.dst / 1024 % 16, 1⟩))
              | none => is [] 3 none) ∧
            (p.1 = 11 → is [(d.dst, kwWrap key (((s.key d.src).map Key.octets).getD []))] 0 none) ∧
            (p.1 = 12 → d.len ≤ rnd.length → is [(d.dst, rnd.take d.len)] 0 none)))

/-- R246, R247, R249, R251, R256, R259. -/
def Obligations.CipherRequestsComplete : Prop :=
  (∀ (s : State) (t : Nat), let v := s.at_ t
    v.Calm →
    (v.ciph.cur = none → Does (.cipherComplete t) s v) ∧
    (∀ r q, v.ciph.cur = some r → r.q = coreNum q →
      (v.rngWaits r = true → Does (.cipherComplete t) s v) ∧
      (v.rngWaits r = false → v.txqOver = false → v.ciph.flushing = false → v.ciph.deferred = [] → v.descReach r.q r.seq = true →
        let up := r.desc.getD 7 0 &&& 0xFFFF0000
        let stat := v.descAddr r.q r.seq + 28
        let apart := fun (a n b m : Nat) => a + n ≤ b ∨ b + m ≤ a
        ∃ u, exec (.cipherComplete t) s = .next u ∧ u.ciph.cur = none ∧ u.get (Reg.CIPH_QDONE_VAL r.q) = (r.seq + 1) % 65536 ∧
          (∀ k x, r.load = some (k, x) → r.code = 0 → u.key k = some x) ∧
          (r.load = none → u.ciph.keys = v.ciph.keys) ∧
          (u.icol q).buf = (v.icol q).buf ++
            (if bitOf (r.desc.getD 0 0) 30 then
              [⟨142 + r.q, v.icolPri q (142 + r.q), false, numAt r.code 24 ||| numAt r.seq 0, up >>> 16, v.us⟩] else []) ∧
          (r.outs = [] → u.word stat = up ||| 0x100 ||| numAt r.code 0 ∧ ∀ x, apart x 1 stat 4 → u.byte x = v.byte x) ∧
          (∀ a o, r.outs = [(a, o)] → v.reaches writeRegions a o.length = true → apart a o.length stat 4 →
            u.bytes a o.length = o ∧ u.word stat = up ||| 0x100 ||| numAt r.code 0 ∧
            ∀ x, apart x 1 stat 4 → apart x 1 a o.length → u.byte x = v.byte x) ∧
          (∀ a o b p, r.outs = [(a, o), (b, p)] → v.reaches writeRegions a o.length = true → v.reaches writeRegions b p.length = true → apart a o.length stat 4 → apart b p.length stat 4 → apart a o.length b p.length →
            u.bytes a o.length = o ∧ u.bytes b p.length = p ∧ u.word stat = up ||| 0x100 ||| numAt r.code 0 ∧
            ∀ x, apart x 1 stat 4 → apart x 1 a o.length → apart x 1 b p.length → u.byte x = v.byte x)))) ∧
  (∀ (s : State) (q : CoreId) (put : BitVec 16), s.Calm →
    let k := coreNum q
    let ended := fun (u : State) (count code : Nat) => s.txqOver = false → ∀ j, j < count →
      let m := (s.get (Reg.CIPH_QDONE_VAL k) + j) % 65536
      s.descReach k m = true → u.word (s.descAddr k m + 28) = (s.word (s.descAddr k m + 28) &&& 0xFFFF0000) ||| 0x100 ||| BitVec.ofNat 32 code
    let used := (put.toNat + 65536 - s.get (Reg.CIPH_QDONE_VAL k)) % 65536
    (s.ciph.flushing = false → s.ciph.halted = false → used ≤ 32 →
      Does (.cipherSubmit q put) s (s.put (Reg.CIPH_QPUT_VAL k) put.toNat)) ∧
    (s.ciph.flushing = false → s.ciph.halted = true → used ≤ 32 →
      ∃ u, exec (.cipherSubmit q put) s = .next u ∧ ended u used 11 ∧ u.get (Reg.CIPH_QPUT_VAL k) = put.toNat ∧ u.get (Reg.CIPH_QDONE_VAL k) = put.toNat) ∧
    (32 < used → Does (.cipherSubmit q put) s (s.put (Reg.CIPH_QCTL_QERR k) 1)) ∧
    (∀ r, s.ciph.cur = some r → r.q = k →
      Does (.queueFlush q) s { s with ciph := { s.ciph with flushing := true } } ∧
      (s.ciph.flushing = true → Does (.cipherSubmit q put) s (s.put (Reg.CIPH_QCTL_QERR k) 1))) ∧
    (s.ciph.cur = none ∨ (∃ r, s.ciph.cur = some r ∧ r.q ≠ k) →
      ∃ u, exec (.queueFlush q) s = .next u ∧ (s.qcount k ≤ 32 → ended u (s.qcount k) 12) ∧ u.get (Reg.CIPH_QDONE_VAL k) = s.get (Reg.CIPH_QPUT_VAL k) ∧
        u.get (Reg.CIPH_QPUT_VAL k) = s.get (Reg.CIPH_QPUT_VAL k) ∧ u.ciph = s.ciph))

/-- R253 to R255, R258 to R262; log entries 37 and 90 for a shut key port and when a KSEL write clears the staging words. -/
def Obligations.KeysAndAlarms : Prop :=
  (∀ (s : State), s.Calm →
    let clear := { s.ciph with stage := [0, 0, 0, 0, 0, 0, 0, 0], staged := 0 }
    let n := if s.flag Reg.CIPH_KSEL_KSIZE then 8 else 4
    let slot := s.get Reg.CIPH_KSEL_SLOT
    let open_ := s.ciph.halted = false ∧ s.ciph.almact = false
    (¬ open_ → ∀ c ∈ [Instr.keyCommit, .keyErase, .eraseall], Does c s s) ∧
    (¬ open_ → ∀ w, Does (.kselWrite w) s s) ∧
    (open_ → s.ciph.cur = none → ∀ w, Does (.kselWrite w) s { s.setReg Reg.CIPH_KSEL (w &&& 0x3EFF) with ciph := clear }) ∧
    (open_ → s.ciph.cur ≠ none → ∀ w, ∃ u, exec (.kselWrite w) s = .next u ∧ u.regs = s.regs ∧ u.ciph = clear ∧
      ∀ f ∈ [Reg.CIPH_KSEL_SLOT, Reg.CIPH_KSEL_KSIZE, Reg.CIPH_KSEL_USAGE], u.lastGet f = fget w f) ∧
    (open_ → s.ciph.staged % 2 ^ n ≠ 2 ^ n - 1 → Does .keyCommit s { s.put Reg.CIPH_STATUS_KPERR 1 with ciph := clear }) ∧
    (open_ → s.ciph.staged % 2 ^ n = 2 ^ n - 1 → s.slotBusy slot = false →
      ∃ u, exec .keyCommit s = .next u ∧ u.key slot = some ⟨(s.ciph.stage.take n).flatMap fun w => leBytes 4 w.toNat,
          s.flag Reg.CIPH_KSEL_KSIZE, s.get Reg.CIPH_KSEL_USAGE, 0⟩ ∧
        u.ciph.staged = 0 ∧ u.ciph.stage = [0, 0, 0, 0, 0, 0, 0, 0] ∧ u.regs = s.regs ∧ ∀ k, k ≠ slot → u.key k = s.key k) ∧
    (open_ → s.ciph.staged % 2 ^ n = 2 ^ n - 1 → s.slotBusy slot = true →
      Does .keyCommit s { s with ciph := { clear with deferred := s.ciph.deferred ++ [.put slot
        ⟨(s.ciph.stage.take n).flatMap fun w => leBytes 4 w.toNat, s.flag Reg.CIPH_KSEL_KSIZE, s.get Reg.CIPH_KSEL_USAGE, 0⟩] } }) ∧
    (open_ → s.slotBusy slot = false →
      ∃ u, exec .keyErase s = .next u ∧ u.key slot = none ∧ (∀ k, k ≠ slot → u.key k = s.key k) ∧ u.regs = s.regs) ∧
    (open_ → s.slotBusy slot = true →
      Does .keyErase s { s with ciph := { s.ciph with deferred := s.ciph.deferred ++ [.erase slot] } }) ∧
    (open_ → s.ciph.cur = none → ∃ u, exec .eraseall s = .next u ∧ (∀ k, u.key k = none) ∧ u.regs = s.regs) ∧
    (∀ r, open_ → s.ciph.cur = some r → ∃ u, exec .eraseall s = .next u ∧ u.regs = s.regs ∧
      (∀ k, k ∉ r.slots → u.key k = none) ∧ (∀ k, k ∈ r.slots → u.key k = s.key k) ∧ u.ciph.deferred = s.ciph.deferred ++ r.slots.map KeyOp.erase) ∧
    (s.ciph.almact = false → Does .almclr s { s with ciph := { s.ciph with halted := false } }) ∧
    (s.ciph.almact = true → Does .almclr s s) ∧
    (s.ciph.halted = false → Does .deviceKeyLoadDone s { s with ciph := { s.ciph with dkReady := true } }) ∧
    (s.ciph.halted = true → Does .deviceKeyLoadDone s s) ∧
    (s.flag Reg.TRNG_CTL_EN = true → s.ciph.trngUp = true ∨ s.ciph.trngArm = true →
      ∃ u, exec .trngHealthFail s = .next u ∧ u.flag Reg.TRNG_STATUS_HFAIL = true ∧ u.ciph.trngUp = false ∧ u.ciph.trngWord = none ∧
        ∀ r, s.ciph.cur = some r → (Desc.ofWords r.desc).op = 12 → r.code = 0 → u.ciph.cur = none) ∧
    (s.flag Reg.TRNG_CTL_EN = false ∨ (s.ciph.trngUp = false ∧ s.ciph.trngArm = false) → Does .trngHealthFail s s) ∧
    (∀ (a : Agent) (next : Option Word),
      ∃ u, exec (.trngDataRead a next) s = .next u ∧ u.heard a = .data (s.ciph.trngWord.getD 0) ∧
        u.ciph.trngWord = (if s.ciph.trngUp then next else none) ∧ u.regs = s.regs)) ∧
  (∀ (s : State) (t : Nat), let v := s.at_ t
    v.Calm →
    (∀ causes : BitVec 4,
      let c := causes.toNat &&& (5 + (if v.flag Reg.CIPH_ALMEN_TEMP then 2 else 0) + (if v.flag Reg.CIPH_ALMEN_SHIELD then 8 else 0))
      (c = 0 → Does (.alarmTrip causes t) s v) ∧
      (c ≠ 0 → v.upd.phase ≠ .verify → v.get (Reg.EVL_LINECFG_SUB (v.outLine 2)) = 0 →
        ∃ u, exec (.alarmTrip causes t) s = .next u ∧ u.ciph.halted = true ∧ u.ciph.almact = true ∧ u.ciph.almT = v.now ∧
          (∀ k, u.key k = none) ∧ u.ciph.dkReady = false ∧ u.ciph.cur = none ∧ u.ciph.trngUp = false ∧
          (∀ i, i < 4 → bitOf (u.reg Reg.CIPH_ALMCAUSE) i = (bitOf (v.reg Reg.CIPH_ALMCAUSE) i || c.testBit i)) ∧
          (∃ p ∈ u.icol0.buf, p.src = 144 ∧ p.lo = u.reg Reg.CIPH_ALMCAUSE) ∧ (∃ p ∈ u.icol1.buf, p.src = 144 ∧ p.lo = u.reg Reg.CIPH_ALMCAUSE) ∧
          (∀ q, q < 2 → u.get (Reg.CIPH_QDONE_VAL q) = v.get (Reg.CIPH_QPUT_VAL q)) ∧
          (v.ciph.cur = none → v.qcount 0 = 0 → v.qcount 1 = 0 → v.nvBad almSeq = false →
            let n := (v.word almSeq).toNat + 1
            let a := almHist + 16 * (n % 256)
            u.word a = BitVec.ofNat 32 (v.us) ∧ u.word (a + 4) = BitVec.ofNat 32 (v.us / 2 ^ 32) ∧
            u.word (a + 8) = (numAt c 0 ||| numAt (v.get Reg.CFG_EPOCH_CUR) 16) ∧ u.word (a + 12) = BitVec.ofNat 32 n ∧
            u.word almSeq = BitVec.ofNat 32 n))) ∧
    (v.ciph.almT + 40000 ≤ v.now → Does (.almactClear t) s { v with ciph := { v.ciph with almact := false } }) ∧
    (v.now < v.ciph.almT + 40000 → Does (.almactClear t) s v) ∧
    (∀ w : Word, v.ciph.trngArm = true → v.flag Reg.TRNG_CTL_EN = true → v.ciph.halted = false →
      ∃ u, exec (.trngStartupDone w t) s = .next u ∧ u.ciph = { v.ciph with trngArm := false, trngUp := true, trngWord := some w } ∧
        u.regs = v.regs) ∧
    (∀ w : Word, v.ciph.trngArm = false ∨ v.flag Reg.TRNG_CTL_EN = false ∨ v.ciph.halted = true → Does (.trngStartupDone w t) s v))

/-- R266 to R268, R271 to R273. The model's choices: log entries 39 (a test of a bank in transition or bad, repairs of no or too many
columns) and 52 (a denied field is restored). -/
def Obligations.BanksChangeAndAreTested : Prop :=
  (∀ (s : State) (radio : Bool) (data : Word), s.Calm →
    (s.memc.trans = [] → s.memc.test = none →
      ∃ u, exec (.bankPowerRequest radio data) s = .next u ∧ s.sameBytes u ∧
        ∀ i, i < (if radio then 4 else 16) →
          let b := if radio then 16 + i else i
          let req := bitsOf data (2 * i) 2
          let was := s.get (bankReq b)
          let denied := radio = true ∧ req ≠ 0 ∧ bankOfCode req ≠ s.bank b ∧ s.anyEngine = true
          (req = 3 → u.get (bankReq b) = was) ∧
          (req ≠ 3 → denied → u.get (bankReq b) = was ∧ u.flag Reg.MEMC_STATUS_RDENY = true) ∧
          (req ≠ 3 → ¬ denied → u.get (bankReq b) = req ∧
            (s.bankBad b = false → s.bank b ≠ .test → s.bank b ≠ bankOfCode req → (b, bankOfCode req) ∈ u.memc.trans))) ∧
    (s.memc.trans ≠ [] ∨ s.memc.test ≠ none →
      ∃ u, exec (.bankPowerRequest radio data) s = .next u ∧ u.regs = s.regs ∧ u.memc = s.memc ∧ u.waits ≠ [])) ∧
  (∀ (s : State) (data : Word), s.Calm →
    let b := bitsOf data 16 5
    let refused := 19 < b ∨ s.memc.test ≠ none ∨ s.bank b ≠ .on ∨ s.bankBad b = true ∨ (∃ p ∈ s.memc.trans, p.1 = b) ∨
      (16 ≤ b ∧ s.anyEngine = true)
    (bitsOf data 0 2 ≠ 1 → Does (.bankTestStart data) s s) ∧
    (bitsOf data 0 2 = 1 → refused → Does (.bankTestStart data) s (s.put Reg.MEMC_TSTAT_CODE 3)) ∧
    (bitsOf data 0 2 = 1 → ¬ refused →
      ∃ u, exec (.bankTestStart data) s = .next u ∧ u.bank b = .test ∧ u.memc.test = some b ∧ u.get Reg.MEMC_TSTAT_BANK = b ∧
        s.regsBut u [Reg.MEMC_TSTAT] ∧ ∀ a, a < bankBase b ∨ bankBase b + 0x10000 ≤ a → u.byte a = s.byte a)) ∧
  (∀ (s : State) (t : Nat), let v := s.at_ t
    v.Calm →
    (∀ b x, (v.memc.trans.find? fun p => p.1 = b) = some (b, x) →
      ∃ u, exec (.bankTransitionDone b t) s = .next u ∧ u.bank b = x ∧ u.memc.trans = (v.memc.trans.filter fun p => p.1 != b) ∧ u.regs = v.regs ∧
        (x ≠ .off → v.sameBytes u) ∧ ∀ a, a < bankBase b ∨ bankBase b + 0x10000 ≤ a → u.byte a = v.byte a) ∧
    (∀ b, (∀ p ∈ v.memc.trans, p.1 ≠ b) → Does (.bankTransitionDone b t) s v) ∧
    (∀ r, v.memc.test = none → Does (.bankTestEnd r t) s v) ∧
    (∀ r b, v.memc.test = some b → b < 20 →
      let free := 4 - (sget (fun _ => 0) v.memc.fused b + v.get (Reg.MEMC_REPAIR_SOFT b))
      let code := match r with
        | .pass => 0
        | .repaired n => if n = 0 then 0 else if free < n then 2 else 1
        | .fail => 2
      ∃ u, exec (.bankTestEnd r t) s = .next u ∧ u.memc.test = none ∧ u.get Reg.MEMC_TSTAT_CODE = code ∧
        u.icol0.buf = v.icol0.buf ++ [⟨146, v.icolPri .c0 146, false, BitVec.ofNat 32 code, 1, v.us⟩] ∧
        (code ≠ 2 → u.bank b = .on ∧ u.reg Reg.MEMC_BAD = v.reg Reg.MEMC_BAD ∧
          ∀ a, bankBase b ≤ a → a < bankBase b + 0x10000 → u.byte a = 0) ∧
        (code = 2 → u.bank b = .off ∧ u.bankBad b = true) ∧
        ∀ a, a < bankBase b ∨ bankBase b + 0x10000 ≤ a → u.byte a = v.byte a))

/-- R289 to R292, R298, R302, R304, R306, R387. -/
def Obligations.FlashCommandsAreChecked : Prop :=
  ∀ (s : State) (v0 v1 : Word), s.Calm → s.get (Reg.EVL_LINECFG_SUB (s.outLine 15)) = 0 →
    let cmds : List (Nat × Instr) := [(1, .flashProg v0 v1), (2, .flashErase v0 v1), (3, .margin0), (4, .margin1), (5, .flashBsel)]
    let addr := (s.reg Reg.FLC_ADDR).toNat
    let pages := s.get Reg.FLC_ARG_PAGES
    let region := s.get Reg.FLC_ARG_REGION
    ∀ p ∈ cmds,
      let r : FlcReq := ⟨p.1, addr, pages, region, [v0, v1], none⟩
      let limits := match p.1 with
        | 1 => inFlash addr 256 = true ∧ addr % 256 = 0
        | 2 => inFlash addr 1 = true
        | 5 => True
        | _ => inFlash addr 1 = true ∧ addr % 256 = 0 ∧ 1 ≤ pages ∧ pages ≤ 256 ∧ blockOf addr = blockOf (addr + 256 * pages - 1)
      let word := fun (code : Nat) => BitVec.ofNat 32 (p.1 * 2 ^ 8 + code)
      let noted := fun (u : State) (code : Nat) => s.flag Reg.FLC_CTL_NOTIFY = true →
        ∃ x ∈ u.icol0.buf, x.src = 145 ∧ x.hi = 2 ∧
          x.lo = BitVec.ofNat 32 (code * 2 ^ 24 + p.1 * 2 ^ 20 + if 0x10000000 ≤ addr ∧ addr < 0x14000000 then (addr - 0x10000000) / 256 else 0)
      let refused := fun (code : Nat) => ∃ u, exec p.2 s = .next u ∧ u.reg Reg.FLC_RESULT = word code ∧ u.flc = s.flc ∧ s.sameBytes u ∧ noted u code
      (s.flc.op ≠ none → refused 1) ∧
      (s.flc.op = none → ¬ limits → refused 2) ∧
      (s.flc.op = none → limits → s.flcProtected r = true → refused 3) ∧
      (s.flc.op = none → limits → s.flcProtected r = false → s.flcGuarded r = true → refused 4) ∧
      (s.flc.op = none → p.1 = 5 → (∃ w, s.selector = some w ∧ bitsOf w 16 16 = 0xFFFF) → refused 8) ∧
      (s.flc.op = none → limits → s.flcProtected r = false → s.flcGuarded r = false → p.1 ≠ 5 →
        ∃ u, exec p.2 s = .next u ∧ u.reg Reg.FLC_RESULT = s.reg Reg.FLC_RESULT ∧ s.sameBytes u ∧
          u.flc.op = some ⟨p.1, addr, pages, s.now, if p.1 = 1 then s.bufOctets (Reg.FLC_PBUF 0) 256 else [], false, false, s.now, none⟩ ∧
          (p.1 = 2 → u.get Reg.FLC_ESCNT_COUNT = 0)) ∧
      (s.flc.op = none → p.1 = 5 → (∀ w, s.selector = some w → bitsOf w 16 16 ≠ 0xFFFF) →
        let count := match s.selector with
          | some w => bitsOf w 16 16 + 1
          | none => 1
        ∃ u, exec p.2 s = .next u ∧ u.flc = s.flc ∧ u.reg Reg.FLC_RESULT = word 0 ∧ noted u 0 ∧
          u.word selAddr = BitVec.ofNat 32 (count * 2 ^ 16 + checkOf count region 0x5A * 2 ^ 8 + region) ∧
          u.nvBad selAddr = false ∧ ∀ a, a < selAddr ∨ selAddr + 4 ≤ a → u.byte a = s.byte a)

/-- R291, R293, R294, R296, R299 to R301. The model's choices: log entry 40 (FLC_MADDR kept where no codeword differs, the marking of
programmed pages). -/
def Obligations.FlashOperationsEnd : Prop :=
  ∀ (s : State) (t : Nat), let v := s.at_ t
    v.Calm → v.get (Reg.EVL_LINECFG_SUB (v.outLine 15)) = 0 → v.flc.held = [] → v.start.dump = none →
    (v.flc.op = none → (∀ weak good, Does (.progComplete weak good t) s v ∧ Does (.eraseComplete good t) s v) ∧ Does (.eraseSuspended t) s v ∧
      Does (.eraseResume t) s v ∧ ∀ counts bad, Does (.marginComplete counts bad t) s v) ∧
    (∀ o : FlcOp, v.flc.op = some o → o.reply = none →
      let ends := fun (u : State) (code : Nat) => u.flc.op = none ∧ u.flc.held = [] ∧
        u.reg Reg.FLC_RESULT = BitVec.ofNat 32 (min 0xFFFF ((v.now - o.began) / 40) * 2 ^ 16 + o.op * 2 ^ 8 + code)
      let live := bootBase (v.get Reg.FLC_BOOT_LIVE)
      let clear := fun (c : Core) (a n : Nat) => ∀ p ∈ c.icache ++ c.dcache, p.1 < a ∨ a + n ≤ p.1
      let gone := fun (c : Core) (a n : Nat) => clear c a n ∧ (overlaps a n live 0x40000 = true → clear c (a + 0x18000000 - live) n)
      let block := blockBase (blockOf o.addr)
      (∀ weak good : Bool, o.op = 1 → o.latch.length = 256 →
        let blank := weak = false ∧ pageOf o.addr ∉ v.flc.marked ∧ ∀ a, o.addr ≤ a → a < o.addr + 256 → v.byte a = 0xFF
        ∃ u, exec (.progComplete weak good t) s = .next u ∧
          (¬ blank → ends u 5 ∧ v.sameBytes u) ∧
          (blank → good = true → ends u 0 ∧ u.bytes o.addr 256 = o.latch ∧ pageOf o.addr ∈ u.flc.marked) ∧
          (blank → good = false → ends u 6) ∧
          (blank → gone u.core0 o.addr 256 ∧ gone u.core1 o.addr 256) ∧
          ∀ a, a < o.addr ∨ o.addr + 256 ≤ a → u.byte a = v.byte a) ∧
      (∀ good : Bool, o.op = 2 → o.suspended = false → inFlash o.addr 1 = true →
        ∃ u, exec (.eraseComplete good t) s = .next u ∧ ends u (if good then 0 else 6) ∧
          (good = true → (∀ a, block ≤ a → a < block + 0x10000 → u.byte a = 0xFF) ∧ ∀ p ∈ u.flc.marked, p / 256 ≠ blockOf o.addr) ∧
          gone u.core0 block 0x10000 ∧ gone u.core1 block 0x10000 ∧
          ∀ a, a < block ∨ block + 0x10000 ≤ a → u.byte a = v.byte a) ∧
      (∀ good : Bool, o.op ≠ 2 ∨ o.suspended = true → Does (.eraseComplete good t) s v) ∧
      (∀ (counts : List (Nat × Nat)) (bad : List Nat), o.op = 3 ∨ o.op = 4 →
        let named := fun (i : Nat) => ((counts.find? fun d => d.1 = i).map Prod.snd).getD 0
        let ds := ((List.range (4 * o.pages)).map fun i => (i, if i ∈ bad then 576 else min 576 (named i))).filter fun (d : Nat × Nat) => d.2 != 0
        let bits := (ds.map Prod.snd).sum
        ∃ u, exec (.marginComplete counts bad t) s = .next u ∧ ends u (if ds = [] then 0 else 7) ∧ v.sameBytes u ∧ u.flc.marked = v.flc.marked ∧
          u.reg Reg.FLC_MSTAT = BitVec.ofNat 32 (min 0xFFFF bits * 2 ^ 16 + (o.op - 3)) ∧
          (ds = [] → u.reg Reg.FLC_MADDR = v.reg Reg.FLC_MADDR) ∧
          (ds ≠ [] → ∃ d ∈ ds, (∀ x ∈ ds, d.1 ≤ x.1) ∧ u.reg Reg.FLC_MADDR = BitVec.ofNat 32 (o.addr + 64 * d.1))) ∧
      (o.op = 2 → o.suspReq = true → o.suspended = false →
        ∃ u, exec (.eraseSuspended t) s = .next u ∧
          u.flc.op = some { o with suspended := true, suspReq := false, lastAcc := v.now } ∧
          u.get Reg.FLC_ESCNT_COUNT = min 0xFFFF (v.get Reg.FLC_ESCNT_COUNT + 1) ∧ v.sameBytes u) ∧
      (o.op ≠ 2 ∨ o.suspReq = false ∨ o.suspended = true → Does (.eraseSuspended t) s v) ∧
      (o.suspended = true → o.lastAcc + 2000 ≤ v.now → Does (.eraseResume t) s
        { v with flc := { v.flc with op := some { o with suspended := false, suspReq := false } } }) ∧
      (o.suspended = false ∨ v.now < o.lastAcc + 2000 → Does (.eraseResume t) s v))

/-- R310 to R316. The model's choices: log entries 116 (events of firmware and engines stand for instants of their own) and 117 (a task and
`TMR_CMD` at one timer). -/
def Obligations.EventsReachTheirTask : Prop :=
  (∀ (s : State) (data : Word), s.Calm →
    let l := bitsOf data 0 7
    let h := bitsOf data 8 3
    let lim := if s.get (Reg.EVL_LINECFG_HOPLIM l) = 0 then 4 else s.get (Reg.EVL_LINECFG_HOPLIM l)
    let sub := s.get (Reg.EVL_LINECFG_SUB l)
    let posts := fun (u : State) (lo hi : Word) =>
      u.icol0.buf = s.icol0.buf ++ [⟨147, s.icolPri .c0 147, false, lo, hi, s.us⟩] ∧
      u.icol1.buf = s.icol1.buf ++ [⟨147, s.icolPri .c1 147, false, lo, hi, s.us⟩]
    let merges := fun (u : State) => u.get (Reg.EVL_COAL_COUNT l) = min 0xFFFF (s.get (Reg.EVL_COAL_COUNT l) + 1)
    (96 ≤ l → Does (.evlPubsw data) s s) ∧
    (l < 96 → lim < h →
      ∃ u, exec (.evlPubsw data) s = .next u ∧ u.flag Reg.EVL_STATUS_LOOP = true ∧ u.get Reg.EVL_LOOP_LINE = l ∧ u.get Reg.EVL_LOOP_HOP = h ∧
        u.get Reg.EVL_LOOP_COUNT = min 0xFFFF (s.get Reg.EVL_LOOP_COUNT + 1) ∧ posts u (BitVec.ofNat 32 (l + 256 * h)) 2 ∧
        s.regsBut u [Reg.EVL_STATUS, Reg.EVL_LOOP] ∧ u.tmrs = s.tmrs ∧ u.sadc = s.sadc) ∧
    (l < 96 → h ≤ lim →
      ∃ u, exec (.evlPubsw data) s = .next u ∧ bitOf (u.reg (Reg.EVL_WATCH (l / 32))) (l % 32) = true ∧
        (if bitOf (s.reg (Reg.EVL_WATCH (l / 32))) (l % 32) = false ∧ bitOf (s.reg (Reg.EVL_WATCHEN (l / 32))) (l % 32) = true then
          posts u (BitVec.ofNat 32 l) 1 else u.icol0.buf = s.icol0.buf ∧ u.icol1.buf = s.icol1.buf) ∧
        (subOk sub = false → s.regsBut u [Reg.EVL_WATCH (l / 32)] ∧ u.tmrs = s.tmrs ∧ u.sadc = s.sadc) ∧
        (1 ≤ sub → sub ≤ 132 → let e := (sub - 1) / 8
          let c := (sub - 1) % 8
          (s.eng e).run = true →
          (bitOf (s.ctx e c).lat 22 = false → bitOf (u.ctx e c).lat 22 = true ∧ (u.ctx e c).evtHop = h) ∧
          (bitOf (s.ctx e c).lat 22 = true → (u.ctx e c).evtHop = max h (s.ctx e c).evtHop ∧ merges u)) ∧
        (144 ≤ sub → sub ≤ 151 → u.tmr (sub - 144) = if (s.tmr (sub - 144)).stopAt = some s.now ∨ (s.tmr (sub - 144)).cmdStop = some s.now then s.tmr (sub - 144)
          else ⟨some (s.now + 40 * max 1 (s.reg (Reg.TMR_LOAD (sub - 144))).toNat), some h, none, none⟩) ∧
        (152 ≤ sub → sub ≤ 159 → u.tmr (sub - 152) = ⟨none, none, some s.now, (s.tmr (sub - 152)).cmdStop⟩) ∧
        (sub = 160 → s.flag Reg.SADC_CTL_EN = true →
          (s.sadc = ⟨none, []⟩ → u.sadc = ⟨some ⟨s.get Reg.SADC_CTL_CH, some h, none⟩, []⟩) ∧
          (∀ r, s.sadc = ⟨some r, []⟩ → u.sadc = ⟨some r, [⟨0, some h, none⟩]⟩) ∧
          (∀ r n g, s.sadc = ⟨r, [⟨n, some g, none⟩]⟩ → u.sadc = ⟨r, [⟨n, some (max g h), none⟩]⟩ ∧ merges u)) ∧
        (168 ≤ sub → sub ≤ 207 → s.padFunc (sub - 168) = 0 → s.flag (Reg.GPIO_CFG_OE (sub - 168)) = true →
          u.get (gpioBit (sub - 168)) = 1 - s.get (gpioBit (sub - 168))) ∧
        (sub = 208 → s.core0.run = .wfi → s.core0.halted = false → u.core0.run = .running) ∧
        (sub = 209 → s.core1.run = .wfi → s.core1.halted = false → u.core1.run = .running))) ∧
  (∀ (s : State) (j : Nat) (level : Bool) (t : Nat), let v := s.at_ t
    v.Calm → v.padSees j level = true → v.edgeOn j level = true →
    let l := v.outLine (16 + j)
    let k := v.get (Reg.EVL_LINECFG_SUB l) - 168
    l < 96 → 168 ≤ v.get (Reg.EVL_LINECFG_SUB l) → v.get (Reg.EVL_LINECFG_SUB l) ≤ 207 → v.padFunc k = 0 → v.flag (Reg.GPIO_CFG_OE k) = true →
    (v.evl.time = v.now → l ∈ v.evl.lines → ∃ u, exec (.gpioEdge j level t) s = .next u ∧
      u.get (Reg.EVL_COAL_COUNT l) = min 0xFFFF (v.get (Reg.EVL_COAL_COUNT l) + 1) ∧ v.regsBut u [Reg.EVL_COAL l] ∧ u.evl = v.evl) ∧
    (v.evl.time ≠ v.now ∨ l ∉ v.evl.lines → ∃ u, exec (.gpioEdge j level t) s = .next u ∧ u.get (gpioBit k) = 1 - v.get (gpioBit k) ∧
      u.evl.time = v.now ∧ l ∈ u.evl.lines ∧ v.regsBut u [Reg.EVL_WATCH (l / 32), Reg.GPIO_OUTSET (k / 32)])) ∧
  (∀ (s : State) (l : Nat) (data : Word), s.Calm →
    let taken := subOk (bitsOf data 0 9) = true ∧ ∃ k, k < 96 ∧ k ≠ l ∧ s.get (Reg.EVL_LINECFG_SUB k) = bitsOf data 0 9
    (96 ≤ l → Does (.linecfgWrite l data) s s) ∧
    (l < 96 → taken → Does (.linecfgWrite l data) s (s.put Reg.EVL_STATUS_SUBCONF 1)) ∧
    (l < 96 → ¬ taken → Does (.linecfgWrite l data) s (s.setReg (Reg.EVL_LINECFG l) (data &&& 0x000701FF))))

/-- R318 to R321, R323. OVF and OVFCNT only where collector and source are enabled: log entry 96. -/
def Obligations.PostsBecomeRecords : Prop :=
  ∀ (s : State) (c : CoreId) (t : Nat), let v := s.at_ t
    v.Calm → 0x21000 ≤ v.get Reg.REEL_TXQBASE_ADDR →
    let en := v.flag (Reg.ICOL_CTL_EN (coreNum c))
    let ready := fun (x : Nat) => en = true ∧ v.flag (enBit c x) = true ∧ v.flag (pendBit c x) = true ∧ v.icolRoom c (v.pendPri c x) = true
    let rec_ := fun (u : State) (p src : Nat) (w0 w1 w2 w3 : Word) =>
      let i := v.icolNext c p
      let a := v.icolAddr c (v.icolDepth c * p + i)
      u.word a = w0 ∧ u.word (a + 4) = w1 ∧ u.word (a + 8) = w2 ∧ u.word (a + 12) = w3 ∧
        (∀ x, x < a ∨ a + 16 ≤ x → u.byte x = v.byte x) ∧ (u.icol c).recs = (v.icol c).recs ++ [⟨p, i, src, false⟩]
    ((v.icol c).buf = [] → Does (.icolRecordWrite c t) s v) ∧
    (∀ p r, (v.icol c).buf = p :: r →
      let on := en = true ∧ v.flag (enBit c p.src) = true
      ∃ u, exec (.icolRecordWrite c t) s = .next u ∧ (u.icol c).buf = r ∧
        (on → v.icolRoom c p.pri = true →
          rec_ u p.pri p.src (BitVec.ofNat 32 (b2n p.sw * 2 ^ 14 + p.pri * 2 ^ 10 + p.src)) (BitVec.ofNat 32 p.time) p.lo p.hi ∧
          v.regsBut u [Reg.MEMC_BANKCTL, Reg.MEMC_RBANKCTL]) ∧
        (¬ (on ∧ v.icolRoom c p.pri = true) →
          u.flag (pendBit c p.src) = true ∧ (u.icol c).mergedOf p.src = min 255 ((v.icol c).mergedOf p.src + 1) ∧
          v.sameBytes u ∧ (u.icol c).recs = (v.icol c).recs) ∧
        (¬ on → v.regsBut u [pendWord c (p.src / 32)]) ∧
        (on → v.icolRoom c p.pri = false → u.flag (Reg.ICOL_STATUS_OVF (coreNum c)) = true ∧
          u.get (Reg.ICOL_OVFCNT_COUNT (coreNum c)) = min 0xFFFF (v.get (Reg.ICOL_OVFCNT_COUNT (coreNum c)) + 1))) ∧
    ((∀ x, x < 1024 → ¬ ready x) → Does (.frompendWrite c t) s v) ∧
    (∀ x, x < 1024 → ready x → (∀ y, y < x → ¬ ready y) →
        ∃ u, exec (.frompendWrite c t) s = .next u ∧ u.flag (pendBit c x) = false ∧
          (u.icol c).merged = sput (fun _ => 0) (v.icol c).merged x 0 ∧
          rec_ u (v.pendPri c x) x (BitVec.ofNat 32 ((v.icol c).mergedOf x * 2 ^ 24 + 2 ^ 13 + v.pendPri c x * 2 ^ 10 + x))
            (BitVec.ofNat 32 v.us) 0 0)

/-- R321, R325 to R327, R329 to R332. -/
def Obligations.TakeEoiModerationAndWindow : Prop :=
  (∀ (s : State) (a : Agent) (c : CoreId), s.Calm →
    (s.eligible c = [] → ∃ u, exec (.icolTake a c) s = .next u ∧ u.heard a = .data 0 ∧ u.regs = s.regs ∧
      (u.icol c).recs = (s.icol c).recs ∧ (u.icol c).run = (s.icol c).run ∧ (u.icol c).stack = (s.icol c).stack) ∧
    (s.eligible c ≠ [] → ∃ u r, exec (.icolTake a c) s = .next u ∧ (∀ x ∈ s.eligible c, x.pri ≤ r.pri) ∧
      ((s.eligible c).filter fun x => x.pri = r.pri).head? = some r ∧
      u.heard a = .data (BitVec.ofNat 32 (2 ^ 31 + r.pri * 2 ^ 28 + r.src * 2 ^ 16 + (s.icolDepth c * r.pri + r.idx))) ∧
      (u.icol c).run = r.pri ∧ (u.icol c).stack = ((s.icol c).run, { r with taken := true }) :: (s.icol c).stack ∧
      (u.icol c).recs = ((s.icol c).recs.map fun x => if x = r then { r with taken := true } else x) ∧ u.regs = s.regs)) ∧
  (∀ (s : State) (c : CoreId), s.Calm →
    ((s.icol c).stack = [] → Does (.icolEoi c) s (s.put (Reg.ICOL_STATUS_EOIERR (coreNum c)) 1)) ∧
    (∀ p r st, (s.icol c).stack = (p, r) :: st →
      Does (.icolEoi c) s (s.setIcol c { s.icol c with run := p, stack := st, recs := (s.icol c).recs.filter fun x => x != r })) ∧
    (∀ data : Word,
      (bitsOf data 0 10 < 992 → Does (.icolSwpost c data) s s) ∧
      (992 ≤ bitsOf data 0 10 → Does (.icolSwpost c data) s (s.setIcol c { s.icol c with
        buf := (s.icol c).buf ++ [⟨bitsOf data 0 10, bitsOf data 12 3, true, s.reg (Reg.ICOL_SWPLO (coreNum c)), s.reg (Reg.ICOL_SWPHI (coreNum c)), s.us⟩] }))) ∧
    (∀ (w : Nat) (b : Word),
      (32 ≤ w → ∀ i ∈ [Instr.icolEnset c w b, .icolEnclr c w b, .icolPset c w b, .icolPclr c w b], Does i s s) ∧
      (w < 32 →
        Does (.icolEnset c w b) s (s.setReg (enWord c w) (s.reg (enWord c w) ||| b)) ∧
        Does (.icolEnclr c w b) s (s.setReg (enWord c w) (s.reg (enWord c w) &&& ~~~b)) ∧
        Does (.icolPset c w b) s (s.setReg (pendWord c w) (s.reg (pendWord c w) ||| b)) ∧
        (∃ u, exec (.icolPclr c w b) s = .next u ∧ u.reg (pendWord c w) = s.reg (pendWord c w) &&& ~~~b ∧ s.regsBut u [pendWord c w] ∧
          (u.icol c).merged = ((List.range 32).filter fun j => bitOf b j).foldl (fun m j => sput (fun _ => 0) m (32 * w + j) 0) (s.icol c).merged ∧
          (u.icol c).recs = (s.icol c).recs ∧ (u.icol c).buf = (s.icol c).buf)) ∧
      Does (.icolNlx5pset c b) s (s.setReg (pendWord c 31) (s.reg (pendWord c 31) ||| b)))) ∧
  (∀ (s : State) (c : CoreId) (t st : Nat), let v := s.at_ t
    v.Calm → (v.icol c).mod = .hold st → v.eligible c ≠ [] → v.get (Reg.ICOL_MOD_N (coreNum c)) ≠ 0 →
    let ends := v.get (Reg.ICOL_MOD_N (coreNum c)) ≤ (v.eligible c).length ∨ st + 40 * max 1 (v.get (Reg.ICOL_MOD_T (coreNum c))) ≤ v.now ∨
      (∃ r ∈ v.eligible c, v.get (Reg.ICOL_MOD_BYP (coreNum c)) ≤ r.pri) ∨ (v.core c).quiescent = true
    ∃ u, exec (.moderationExpiry c t) s = .next u ∧ (u.icol c).recs = (v.icol c).recs ∧ u.regs = v.regs ∧
      (ends → (u.icol c).mod = .released) ∧ (¬ ends → (u.icol c).mod = .hold st))

/-- R338, R342 to R344. The model's choices: log entry 30 (REFUSED, the post, domain 0 and unit 27 of NOTALLOWED; the code and the unit
of TIMEOUT). -/
def Obligations.SleepEntriesAreAnswered : Prop :=
  let posts := fun (v u : State) (w hi : Word) =>
    u.reg Reg.PWR_HSRES = w ∧ u.flag Reg.PWR_STATUS_REFUSED = true ∧
    u.icol0.buf = v.icol0.buf ++ [⟨149, v.icolPri .c0 149, false, w, hi, v.us⟩] ∧
    u.icol1.buf = v.icol1.buf ++ [⟨149, v.icolPri .c1 149, false, w, hi, v.us⟩]
  let word := fun (code unit domain target : Nat) => numAt target 24 ||| numAt domain 16 ||| numAt unit 8 ||| numAt code 0
  (∀ (s : State) (key : BitVec 16) (m : BitVec 4), s.Calm → s.eligible .c0 = [] → s.eligible .c1 = [] →
    (key ≠ 0x5EE9 → Does (.pwrEnter key m) s s ∧ Does (.pwrCancel key) s s) ∧
    (key = 0x5EE9 → Does (.pwrCancel key) s { s with pwr := { s.pwr with cmd := none } }) ∧
    (key = 0x5EE9 → 3 < m.toNat → ∃ u, exec (.pwrEnter key m) s = .next u ∧ u.pwr.hs = none ∧ u.pwr.forced = none ∧ posts s u (word 14 27 0 m.toNat) 1) ∧
    (key = 0x5EE9 → m.toNat ≤ 3 → s.core0.quiescent = false ∨ s.core1.quiescent = false →
      Does (.pwrEnter key m) s { s with pwr := { s.pwr with cmd := some m.toNat } }) ∧
    (key = 0x5EE9 → m.toNat ≤ 3 → s.core0.quiescent = true → s.core1.quiescent = true → s.start.busy = false →
      ((∀ d, 1 ≤ d → d ≤ 4 → s.answer d m.toNat = .grant) →
        ∃ u g, exec (.pwrEnter key m) s = .next u ∧ u.pwr.hs = some g ∧ g.target = m.toNat ∧ g.auto = false ∧ g.granted = true ∧
          g.delay = none ∧ u.pwr.cmd = none ∧ u.regs = s.regs) ∧
      (∀ d code unit, 1 ≤ d → d ≤ 4 → (∀ d', 1 ≤ d' → d' < d → s.answer d' m.toNat = .grant) →
        (s.answer d m.toNat = .delay code unit →
          ∃ u g, exec (.pwrEnter key m) s = .next u ∧ u.pwr.hs = some g ∧ g.target = m.toNat ∧ g.domain = d ∧ g.delay = some (code, unit) ∧
            g.delayFrom = s.now ∧ g.granted = false) ∧
        (s.answer d m.toNat = .refuse code unit →
          ∃ u, exec (.pwrEnter key m) s = .next u ∧ u.pwr.hs = none ∧ u.pwr.forced = none ∧ posts s u (word code unit d m.toNat) 1)))) ∧
  (∀ (s : State) (t : Nat) (h : Hs), let v := s.at_ t
    v.canonical → v.waits = [] → v.pend = 0 → v.cfg.held = none → v.env.st = .off → v.start.req = 0 → v.pwr.wakeReq = 0 →
    v.pwr.wakeGot = 0 →
    v.eligible .c0 = [] → v.eligible .c1 = [] → v.pwr.forced = none → v.pwr.cmd = none → v.pwr.hs = some h →
    (h.delay = none → ∃ u, exec (.handshakeDelayClear t) s = .next u ∧ u.pwr.hs = some h ∧ u.regs = v.regs) ∧
    (h.delay ≠ none → 1 ≤ h.domain → h.domain ≤ 4 → (∀ d, h.domain ≤ d → d ≤ 4 → v.answer d h.target = .grant) →
      ∃ u g, exec (.handshakeDelayClear t) s = .next u ∧ u.pwr.hs = some g ∧ g.target = h.target ∧ g.auto = h.auto ∧ g.granted = true ∧
        g.delay = none ∧ g.delayT = h.delayT + (v.now - h.delayFrom) ∧ u.regs = v.regs) ∧
    (∀ code unit, h.delay = some (code, unit) →
      let late := 40000 * max 1 (v.get Reg.PWR_HSCFG_DLYMAX) < h.delayT + (v.now - h.delayFrom)
      (late → ∃ u, exec (.handshakeTimeout t) s = .next u ∧ u.pwr.hs = none ∧ u.pwr.forced = none ∧ posts v u (word 13 unit h.domain h.target) 2) ∧
      (¬ late → ∃ u, exec (.handshakeTimeout t) s = .next u ∧ u.pwr.hs = some h ∧ u.regs = v.regs))) ∧
  (∀ (s : State) (m : BitVec 4) (x : Nat), s.canonical → s.waits = [] → s.pend = 0 → s.cfg.held = none → s.env.st = .off → s.start.req = 0 →
    s.pwr.wakeReq = 0 → s.pwr.hs = none → s.pwr.forced = some x → x = 10 ∨ x = 11 →
    ∃ u, exec (.pwrEnter 0x5EE9 m) s = .next u ∧ u.pwr.hs = none ∧ u.pwr.forced = some x ∧ posts s u (word 14 27 0 m.toNat) 1)

/-- R339, R340, R345, R346, R351, R353, R354, R405, R414. The model's choices: log entries 30 (DOMAIN and UNIT of a completed entry), 31 (the
window of PREWAKE) and 32 (the crystal in HOVER). -/
def Obligations.SleepModesAreEnteredAndLeft : Prop :=
  (∀ (s : State) (t : Nat), let v := s.at_ t
    v.canonical → v.waits = [] → v.pend = 0 → v.cfg.held = none → v.env.st = .off → v.start.req = 0 → v.pwr.wakeGot = 0 →
    v.eligible .c0 = [] → v.eligible .c1 = [] →
    (v.pwr.wakeReq = 0 → v.pwr.wakeCores = 0 → v.pwr.forced = none → v.pwr.hs = none →
      ∀ c ∈ [Instr.sleepEntryDone t, .prewake t, .hoverCrystalStart t, .hoverSubstateChange t], Does c s v) ∧
    (∀ h, v.pwr.hs = some h → v.pwr.forced = none → v.pwr.wakeReq = 0 → v.start.busy = false → h.target ≤ 3 →
      (v.dbg.dmactive = true → ∃ u, exec (.sleepEntryDone t) s = .next u ∧ u.pwr.forced = none ∧ u.pwr.hs = none ∧
        bitsOf (u.reg Reg.PWR_HSRES) 0 8 = 6 ∧ bitsOf (u.reg Reg.PWR_HSRES) 24 4 = h.target ∧ u.flag Reg.PWR_STATUS_REFUSED = true) ∧
      (v.dbg.dmactive = false → h.granted = false → ∃ u, exec (.sleepEntryDone t) s = .next u ∧ u.pwr.forced = none ∧ u.pwr.hs = some h) ∧
      (v.dbg.dmactive = false → h.granted = true → ∃ u, exec (.sleepEntryDone t) s = .next u ∧ u.pwr.forced = some h.target ∧ u.pwr.mode = h.target ∧ u.pwr.hs = none ∧
        u.reg Reg.PWR_HSRES = BitVec.ofNat 32 (h.target * 2 ^ 24) ∧
        (∀ b, b < 20 → v.bankBad b = false →
          u.bank b = if 2 ≤ h.target ∧ bitOf (v.reg Reg.MEMC_RETSEL) b = true then .ret else .off) ∧
        (h.target ≤ 1 → ∀ k, u.key k = none) ∧ (2 ≤ h.target → u.ciph.keys = v.ciph.keys) ∧
        (if h.target = 0 ∨ v.pins.held ≠ none then u.pins = v.pins else u.pins.held ≠ none))) ∧
    (∀ m, v.pwr.forced = some m → m ≤ 3 → v.pwr.hs = none → v.start.busy = false → v.pwr.wakeReq = 0 →
      let woken := fun (u : State) (bit : Nat) => bitOf (u.reg Reg.PWR_WAKESRC) bit = true ∧ (m = 3 → u.pwr.forced = none) ∧ (m ≠ 3 → u.start.busy = true)
      (∀ e, v.wakeatUs = some e → e ≤ v.us + 1000 + v.get Reg.PWR_SLEEPCFG_MARGIN → v.us ≤ e → 2 ≤ m →
        bitOf (v.reg Reg.PWR_WAKEEN) 0 = true → ∃ u, exec (.prewake t) s = .next u ∧ woken u 0) ∧
      (v.reg Reg.PWR_WAKEEN = 0x100 → ∃ u, exec (.prewake t) s = .next u ∧ u.pwr.forced = some m ∧ u.pwr.mode = m) ∧
      (∀ j rising, j < 4 → v.padFunc j = 3 → bitOf (v.reg (Reg.GPIO_CFG j)) (if rising then 9 else 10) = true →
        (bitOf (v.reg Reg.PWR_WAKEEN) (4 + j) = true → ∃ u, exec (.wakePinEdge j rising t) s = .next u ∧ woken u (4 + j)) ∧
        (v.reg Reg.PWR_WAKEEN = 0x100 → ∃ u, exec (.wakePinEdge j rising t) s = .next u ∧ u.pwr.forced = some m ∧
          (u.pins.level.getLsbD j = rising))) ∧
      (m = 3 → v.reg Reg.PWR_WAKEEN = 0x100 →
        (v.tb.xtalOn = false →
          ((∀ c x, c < 4 → (v.ctx 16 c).wait = .ev x → v.anyCond 16 c x = false) →
            v.hoverWants = true ∨ v.hoverNear (v.get Reg.PWR_HOVCFG_XLEAD) = true →
            ∃ u, exec (.hoverCrystalStart t) s = .next u ∧ u.tb.xtalOn = true ∧ u.pwr.forced = some 3) ∧
          (v.hoverWants = false → v.hoverNear (v.get Reg.PWR_HOVCFG_XLEAD) = false →
            ∃ u, exec (.hoverCrystalStart t) s = .next u ∧ u.tb.xtalOn = false ∧ u.pwr.forced = some 3)) ∧
        (v.hoverIdle = false → v.pwr.hovActive = false →
          ∃ u, exec (.hoverSubstateChange t) s = .next u ∧ u.pwr.hovActive = true ∧ u.pwr.vcur = 2 ∧
            u.get Reg.PWR_HOVSTAT_ACTIVE = min 0xFFFF (v.get Reg.PWR_HOVSTAT_ACTIVE + 1)) ∧
        (v.hoverIdle = true → v.pwr.hovActive = true →
          ∃ u, exec (.hoverSubstateChange t) s = .next u ∧ u.pwr.hovActive = false ∧ u.pwr.vcur = 3)))) ∧
  (∀ (s : State) (t : Nat), let v := s.at_ t
    v.Calm →
    (∀ j rising, ∃ u, exec (.wakePinEdge j rising t) s = .next u ∧ u.regs = v.regs ∧ u.pwr.forced = none ∧ (j < 40 → u.pins.level.getLsbD j = rising)) ∧
    (v.pwr.vto = none → ∃ u, exec (.vcoreSettled t) s = .next u ∧ u.pwr.vcur = v.pwr.vcur ∧ u.pwr.vto = none) ∧
    (∀ x, v.pwr.vto = some x → ∃ u, exec (.vcoreSettled t) s = .next u ∧ u.pwr.vcur = x ∧ u.pwr.vto = none ∧
      (v.pwr.pnext = none → u.pwr.pcur = v.pwr.pcur) ∧
      (∀ n, v.pwr.pnext = some n → if x ≤ n then u.pwr.pcur = n ∧ u.pwr.pnext = none else u.pwr.pcur = v.pwr.pcur))) ∧
  (∀ s : State, s.Calm → Does .padRelease s { s with pins := { s.pins with held := none, pads := [] } })

/-- R356, R359 to R366, R372. The model's choices: log entries 101 (R365's words, not its example), 33 (CVBUSY) and 26 (the first SEQ). -/
def Obligations.ClockCountsAndAlarms : Prop :=
  let fired := fun (u : State) (n time : Nat) (adj : Bool) => u.flag (Reg.RTC_ALMCTL_FIRED n) = true ∧ u.flag (Reg.RTC_ALMCTL_ALARM_BY_ADJUST n) = adj ∧
    ∃ p ∈ u.icol0.buf, p.src = 150 + n ∧ p.lo = BitVec.ofNat 32 time ∧ p.hi = BitVec.ofNat 32 (time % 2 ^ 16 + b2n adj * 2 ^ 31)
  let mute := fun (s : State) => s.get (Reg.EVL_LINECFG_SUB (s.outLine 4)) = 0 ∧ s.get (Reg.EVL_LINECFG_SUB (s.outLine 5)) = 0
  (∀ (s : State) (t : Nat), let v := s.at_ t
    let c := min (2 ^ 48 - 1) (v.rtc.sec + 1)
    v.Calm → mute v →
    (v.rtc.running = false → Does (.secondBoundary t) s v) ∧
    (v.rtc.running = true → ∃ u, exec (.secondBoundary t) s = .next u ∧ u.rtc.hour = none ∧ u.mem = v.mem ∧
      (v.rtc.hour = none → u.rtc.sec = c ∧ u.rtc.snap = (v.rtc.snap || decide (c % 3600 = 0)) ∧
        (v.rtc.sec = 2 ^ 48 - 1 → ∀ n, n < 2 → u.reg (Reg.RTC_ALMCTL n) = v.reg (Reg.RTC_ALMCTL n)) ∧
        ∀ n, n < 2 → v.flag (Reg.RTC_ALMCTL_ARM n) = true → v.rtc.sec < 2 ^ 48 - 1 → v.almTime n = c → fired u n c false ∧
          (v.reg (Reg.RTC_ALMPER n) = 0 → u.flag (Reg.RTC_ALMCTL_ARM n) = false) ∧
          (v.reg (Reg.RTC_ALMPER n) ≠ 0 → u.flag (Reg.RTC_ALMCTL_ARM n) = true ∧ u.almTime n = (c + (v.reg (Reg.RTC_ALMPER n)).toNat) % 2 ^ 48)) ∧
      (v.rtc.hour = some true → u.rtc.sec = min (2 ^ 48 - 1) (c + 3600) ∧ u.rtc.snap = true ∧
        ∀ n, n < 2 → v.flag (Reg.RTC_ALMCTL_ARM n) = true → c < v.almTime n → v.almTime n ≤ u.rtc.sec → fired u n (v.almTime n) true) ∧
      (v.rtc.hour = some false → 3600 ≤ c → u.rtc.sec = c - 3600 ∧ u.rtc.snap = true) ∧
      (v.rtc.hour = some false → c < 3600 → u.rtc.sec = c ∧ u.flag Reg.RTC_STATUS_ADJ_ERR = true) ∧
      (v.rtc.frac = 0 → v.rtc.acc = 0 → v.get Reg.RTC_TRIM_TRIM = 0 → u.rtc.frac = 0 ∧ u.rtc.acc = 0 ∧ u.rtc.since = v.now)) ∧
    Does (.rtcConversionDone t) s { v with rtc := { v.rtc with conv := false } } ∧
    (v.rtc.snap = false ∨ v.start.busy = true → Does (.rtcSnapshotWrite t) s v) ∧
    (v.rtc.snap = true → v.start.busy = false →
      let seq := match v.snapNewest with
        | some r => ((r.getD 0 0).toNat + 1) % 2 ^ 32
        | none => 0
      let a := 0x2207D100 + 32 * (seq % 2)
      ∃ u, exec (.rtcSnapshotWrite t) s = .next u ∧ u.rtc.snap = false ∧ u.word a = BitVec.ofNat 32 seq ∧ u.word (a + 4) = BitVec.ofNat 32 v.rtc.sec ∧
        u.word (a + 8) = BitVec.ofNat 32 (v.rtc.sec / 2 ^ 32 % 65536 + v.rtcFrac * 65536) ∧
        (u.word (a + 12)).setWidth 31 = BitVec.ofInt 31 (toSigned 16 (v.get Reg.RTC_TRIM_TRIM)) ∧ bitOf (u.word (a + 12)) 31 = v.flag Reg.RTC_TRIM_AUTO ∧ u.word (a + 16) = 0 ∧ u.word (a + 20) = 0 ∧
        u.word (a + 24) = 0 ∧ u.word (a + 28) = crc32c (u.bytes a 28) ∧ ∀ x, x < a ∨ a + 32 ≤ x → u.byte x = v.byte x)) ∧
  (∀ (s : State) (key : BitVec 16), s.Calm → mute s →
    (key ≠ 0xC10C ∨ s.rtc.conv = true →
      ∀ i ∈ [Instr.rtcSet key, .calset key, .hourplus key, .hourminus key, .hourcancel key, .cal2cnt key, .cnt2cal key], Does i s s) ∧
    (key = 0xC10C → s.rtc.conv = false →
      let set := fun (u : State) (c f : Nat) => u.rtc = { s.rtc with sec := c, frac := f, acc := 0, hour := none, snap := true, conv := u.rtc.conv, since := s.now } ∧
        u.flag Reg.RTC_STATUS_TIME_SUSPECT = false ∧
        ∀ n, n < 2 → s.flag (Reg.RTC_ALMCTL_ARM n) = true → s.rtc.sec < s.almTime n → s.almTime n ≤ c → fired u n (s.almTime n) true
      (∃ u, exec (.rtcSet key) s = .next u ∧ set u s.setSec (s.get Reg.RTC_SETFRAC_FRAC) ∧ u.rtc.conv = false) ∧
      (s.calIn.valid = true → ∃ u, exec (.calset key) s = .next u ∧ set u s.calIn.count 0 ∧ u.rtc.conv = true) ∧
      (s.calIn.valid = false → ∀ i ∈ [Instr.calset key, .cal2cnt key],
        Does i s { s.put Reg.RTC_STATUS_CAL_ERR 1 with rtc := { s.rtc with conv := true } }) ∧
      Does (.hourplus key) s { s with rtc := { s.rtc with hour := some true } } ∧
      Does (.hourminus key) s { s with rtc := { s.rtc with hour := some false } } ∧
      Does (.hourcancel key) s { s with rtc := { s.rtc with hour := none } } ∧
      (s.calIn.valid = true → ∃ u, exec (.cal2cnt key) s = .next u ∧ u.setSec = s.calIn.count % 2 ^ 48 ∧ u.rtc = { s.rtc with conv := true } ∧
        s.regsBut u [Reg.RTC_SETSEC_LO, Reg.RTC_SETSEC_HI]) ∧
      (s.setSec ≤ 12622780799 → let k := Cal.ofCount s.setSec
        ∃ u, exec (.cnt2cal key) s = .next u ∧
        u.reg Reg.RTC_CALDATE = BitVec.ofNat 32 ((s.setSec / 86400 + 5) % 7 * 2 ^ 28 + k.year * 2 ^ 16 + k.month * 2 ^ 8 + k.day) ∧
        u.reg Reg.RTC_CALTIME = BitVec.ofNat 32 (k.hour * 2 ^ 16 + k.min * 2 ^ 8 + k.sec) ∧ u.rtc = { s.rtc with conv := true } ∧ s.regsBut u [Reg.RTC_CALDATE, Reg.RTC_CALTIME]) ∧
      (12622780799 < s.setSec → Does (.cnt2cal key) s { s.put Reg.RTC_STATUS_CAL_ERR 1 with rtc := { s.rtc with conv := true } })))

/-- R380, R385 to R391. The model's readings: log entries 42 (the order of the checks, JOURNAL, ALARM while halted) and 43 (the pause's end). -/
def Obligations.ActivationsRunTheirPhases : Prop :=
  let ended := fun (u : State) (code : Nat) => u.upd = Upd.reset ∧ u.get Reg.SYS_UPDSTAT_CODE = code
  (∀ (s : State) (data : Word), s.Calm →
    let keyed := bitsOf data 16 16 = 0xAC7E
    let barred := s.start.safe = true ∨ s.start.recovery = true ∨ s.dbg.dmactive = true
    (¬ keyed → ∀ c ∈ [Instr.activate data, .activateLive data, .updateAbort data], Does c s s) ∧
    (keyed → ∀ c ∈ [(Instr.activate data, false), (.activateLive data, true)],
      (s.upd.phase ≠ .idle → Does c.1 s (s.put Reg.SYS_UPDSTAT_CODE 1)) ∧
      (s.upd.phase = .idle → barred → Does c.1 s (s.put Reg.SYS_UPDSTAT_CODE 16)) ∧
      (s.upd.phase = .idle → ¬ barred → ∃ u, exec c.1 s = .next u ∧ u.upd.phase = .verify ∧ u.upd.live = c.2 ∧
        u.upd.src = 4 * s.get Reg.SYS_UPDSRC_ADDR ∧ u.upd.soft = bitsOf data 8 8 ∧ u.regs = s.regs ∧ u.mem = s.mem)) ∧
    (keyed → (s.upd.phase = .verify ∨ s.upd.phase = .writeset → Does (.updateAbort data) s { s.put Reg.SYS_UPDSTAT_CODE 13 with upd := Upd.reset }) ∧
      (s.upd.phase = .quiesce → ∃ u, exec (.updateAbort data) s = .next u ∧ ended u 13 ∧ ∀ g, g < 16 → s.upd.holds.testBit g = true → u.held g = false) ∧
      (s.upd.phase = .idle ∨ s.upd.phase = .pause ∨ s.upd.phase = .load → Does (.updateAbort data) s s))) ∧
  (∀ (s : State) (t : Nat), let v := s.at_ t
    v.Calm →
    (v.upd.phase ≠ .verify → Does (.updateVerifyDone t) s v) ∧
    (v.upd.phase = .verify → v.ciph.halted = false → (∃ r ∈ v.manReads v.upd.src, v.rwaits r.1 r.2 = true) →
      ∃ u, exec (.updateVerifyDone t) s = .next u ∧ u.upd = v.upd ∧ u.mem = v.mem) ∧
    (v.upd.phase = .verify → v.ciph.halted = true → ∃ u, exec (.updateVerifyDone t) s = .next u ∧ ended u 14) ∧
    (v.upd.phase = .verify → v.ciph.halted = false → (∀ r ∈ v.manReads v.upd.src, v.rwaits r.1 r.2 = false) →
      let seen := (v.manScan v.upd.src).2
      (v.manAt v.upd.src 0x50 = false → ∃ u, exec (.updateVerifyDone t) s = .next u ∧ ended u 2 ∧ u.mem = v.mem) ∧
      (v.manAt v.upd.src 0x50 = true → seen.manCount v.upd.src = 0 ∨ 24 < seen.manCount v.upd.src →
        ∃ u, exec (.updateVerifyDone t) s = .next u ∧ ended u 3 ∧ u.mem = v.mem) ∧
      (∀ code i, seen.manCheck v.upd.src v.upd.live true = some (code, i) →
        ∃ u, exec (.updateVerifyDone t) s = .next u ∧ ended u (code % 256) ∧ u.get Reg.SYS_UPDSTAT_ENTRY = i % 32 ∧ u.mem = v.mem) ∧
      (seen.manCheck v.upd.src v.upd.live true = none →
        (v.copy v.liveSet = none → ∃ u, exec (.updateVerifyDone t) s = .next u ∧ ended u 15 ∧ u.mem = v.mem) ∧
        (v.copy v.liveSet ≠ none → v.upd.live = false → ∃ u, exec (.updateVerifyDone t) s = .next u ∧ u.upd.phase = .quiesce ∧
          (v.upd.soft = 0 → u.upd.hard = true ∧ ∀ g, g < 16 → (v.eng g).run = true → u.held g = true) ∧
          (v.upd.soft ≠ 0 → u.upd.hard = v.upd.hard ∧ u.upd.began = v.now) ∧
          ∀ a, a < copyAddr (1 - v.liveSet) → u.byte a = v.byte a) ∧
        (v.copy v.liveSet ≠ none → v.upd.live = true → v.upd.doing = none → v.upd.failed = false → v.ldr.phase = .idle →
          reelDiff v.live (v.newSet v.upd.src) = [] →
          ∃ u, exec (.updateVerifyDone t) s = .next u ∧ ended u 0 ∧ u.liveSet = 1 - v.liveSet))) ∧
    (v.upd.phase ≠ .quiesce → ∀ c ∈ [Instr.quietInstant t, .quiesceSoftExpiry t, .quiesceTimeout t], Does c s v) ∧
    (v.upd.phase = .quiesce →
      let paused := fun (u : State) => u.upd.phase = .pause ∧ u.upd.pauseT = v.now ∧ u.pwr.forced = some 10 ∧ u.pwr.mode = 10 ∧
        u.core0.run = .held ∧ u.core1.run = .held
      (v.upd.hard = false → v.quietNow = true → ∃ u, exec (.quietInstant t) s = .next u ∧ paused u) ∧
      (v.upd.hard = false → v.quietNow = false → Does (.quietInstant t) s v) ∧
      (v.upd.hard = true → v.stopNow = true → ∃ u, exec (.quietInstant t) s = .next u ∧ paused u ∧
        (v.qcount 0 = 0 → v.qcount 1 = 0 → u.liveSet = 1 - v.liveSet ∧ bitOf (u.word attAddr) 12 = true)) ∧
      (v.upd.hard = true → v.stopNow = false → Does (.quietInstant t) s v) ∧
      (v.upd.hard = false → v.upd.began + 40000 * v.upd.soft ≤ v.now → ∃ u, exec (.quiesceSoftExpiry t) s = .next u ∧ u.upd.phase = .quiesce ∧
        u.upd.hard = true ∧ u.mem = v.mem ∧ ∀ g, g < 16 → (v.eng g).run = true → u.held g = true) ∧
      (v.upd.hard = true ∨ v.now < v.upd.began + 40000 * v.upd.soft → Does (.quiesceSoftExpiry t) s v) ∧
      (v.upd.began + 4000000 ≤ v.now →
        let stopped := if v.upd.hard then v.stopNow else v.quietNow
        (stopped = true → ∃ u, exec (.quiesceTimeout t) s = .next u ∧ paused u) ∧
        (stopped = false → ∃ u, exec (.quiesceTimeout t) s = .next u ∧ ended u 11 ∧
          ∀ g, g < 16 → v.upd.holds.testBit g = true → u.held g = false)) ∧
      (v.now < v.upd.began + 4000000 → Does (.quiesceTimeout t) s v)) ∧
    (v.upd.phase ≠ .pause → Does (.pauseEnd t) s v)) ∧
  (∀ (s : State) (t : Nat), let v := s.at_ t
    v.canonical → v.waits = [] → v.pend = 0 → v.cfg.held = none → v.env.st = .off → v.start.req = 0 → v.start.busy = false →
    v.pwr.forced = some 10 → v.pwr.hs = none → v.pwr.wakeReq = 0 → v.upd.phase = .pause → v.upd.engines = [] → v.upd.failed = false →
    (∀ a, v.upd.boot = false → v.start.safe = false → v.start.recovery = false → v.bootEntry = some a →
      ∃ u, exec (.pauseEnd t) s = .next u ∧ ended u 0 ∧ u.pwr.forced = none ∧ u.reg Reg.SYS_PAUSE = BitVec.ofNat 32 ((v.now - v.upd.pauseT) / 40) ∧
        u.word finishedAddr = BitVec.ofNat 32 v.commitCount ∧ bitsOf (u.word attAddr) 0 8 = min 255 (bitsOf (v.word attAddr) 0 8 + 1) ∧
        u.core0.run = .running ∧ u.core0.start = a ∧ u.core1.run = .held ∧ (v.upd.revoke = true → u.flag Reg.SYS_KEYSTAT_REV0 = true)) ∧
    (v.upd.boot = true → ∃ u, exec (.pauseEnd t) s = .next u ∧ u.start.busy = true ∧ bitOf (u.reg Reg.SYS_RSTCAUSE) 11 = true))

/-- R346, R396 to R400, R418. The model's readings: log entry 63 (the end of a transfer, the answers without READY, a short PUT, RXDONE and
TXGO that are ignored). -/
def Obligations.HostTransfersMoveFrames : Prop :=
  let posted := fun (s u : State) => ∃ p ∈ u.icol0.buf, p.src = 219 ∧ p.hi = 0 ∧ p.time = s.us
  let sent := fun (u : State) (f : List Byte) => u.host.txRdy = true ∧ u.host.txOctets = f ++ frameCrc f
  (∀ (s : State) (t : Nat), let v := s.at_ t
    (v.Calm → v.pins.vio = true → ∀ (op : Byte) (n : Nat),
      let status : Byte := BitVec.ofNat 8 (b2n (v.flag Reg.HOSTIF_CTL_EN) * (0x80 + 4 * b2n (v.get Reg.HOSTIF_ERR_LINK != 0) + 2 * b2n v.host.txRdy +
        b2n (!v.host.rxFull)))
      (op = 0x00 ∨ op = 0x5A ∨ op = 0xA5 →
        Does (.hostCsAssert ⟨op, n, t⟩) s { v with host := { v.host with cs := true, out := [], asleep := false, get := .none } }) ∧
      (op ≠ 0x00 → op ≠ 0x5A → op ≠ 0xA5 → Does (.hostCsAssert ⟨op, n, t⟩) s
        { v with host := { v.host with cs := false, out := (status :: List.replicate (n - 1) 0).take n, asleep := false, get := .none } })) ∧
    (v.Calm → v.pins.vio = false → v.host.cs = false → ∀ op n, Does (.hostCsAssert ⟨op, n, t⟩) s v) ∧
    (∀ m op n, v.canonical → v.waits = [] → v.pend = 0 → v.cfg.held = none → v.env.st = .off → v.start.req = 0 → v.start.busy = false → v.pwr.hs = none →
      v.pwr.forced = some m → 1 ≤ m → m ≤ 3 → bitOf (v.reg Reg.PWR_WAKEEN) 10 = true → v.pins.vio = true →
      ∃ u, exec (.hostCsAssert ⟨op, n, t⟩) s = .next u ∧ bitOf (u.reg Reg.PWR_WAKESRC) 10 = true ∧
        (op = 0x00 ∨ op = 0x5A ∨ op = 0xA5 → u.host.asleep = true) ∧
        (m = 3 → u.pwr.forced = none) ∧ (m ≠ 3 → u.start.busy = true))) ∧
  (∀ (s : State) (n : Nat) (octets : List Byte), s.Calm →
    let ready := s.host.cs = true ∧ s.flag Reg.HOSTIF_CTL_EN = true ∧ s.host.asleep = false ∧ s.host.get = .none
    let status : Byte := BitVec.ofNat 8 (0x80 + 4 * b2n (s.get Reg.HOSTIF_ERR_LINK != 0) + 2 * b2n s.host.txRdy + b2n (!s.host.rxFull))
    let err := fun (bit : Nat) => ∃ u, exec (.hostPut octets) s = .next u ∧ bitOf (u.reg Reg.HOSTIF_ERR) bit = true ∧ u.host.rxFull = s.host.rxFull ∧
      u.host.cs = false ∧ s.regsBut u [Reg.HOSTIF_ERR] ∧ (bitOf (s.reg Reg.HOSTIF_ERR) bit = false → posted s u)
    (s.host.cs = false → ∀ c ∈ [Instr.hostStatus n, .hostPut octets, .hostGet ⟨n, false⟩, .hostGet ⟨n, true⟩], Does c s s) ∧
    (s.host.cs = true → s.host.get = .none → s.flag Reg.HOSTIF_CTL_EN = false ∨ s.host.asleep = true →
      let ends := fun (out : List Byte) => ({ s with host := { s.host with cs := false, out := out, asleep := false, get := .none } } : State)
      Does (.hostStatus n) s (ends (List.replicate n 0)) ∧ Does (.hostPut octets) s (ends (List.replicate (octets.length + 1) 0)) ∧
        Does (.hostGet ⟨n, false⟩) s (ends (0 :: List.replicate n 0xFF))) ∧
    (ready →
      (∃ u, exec (.hostStatus n) s = .next u ∧ u.host.cs = false ∧ u.host.out.length = n ∧ (1 ≤ n → u.host.out[0]? = some status) ∧
        (2 ≤ n → u.host.out[1]? = some (BitVec.ofNat 8 (s.get Reg.HOSTIF_ERR_LINK)) ∧ u.get Reg.HOSTIF_ERR_LINK = 0) ∧
        (∀ i, 2 ≤ i → i < n → u.host.out[i]? = some (BitVec.ofNat 8 (0x80 + 2 * b2n s.host.txRdy + b2n (!s.host.rxFull)))) ∧
        (n < 2 → u.regs = s.regs)) ∧
      (s.host.rxFull = true → err 3) ∧
      (s.host.rxFull = false → 4 ≤ octets.length → 1020 < frameLen octets → err 2) ∧
      (s.host.rxFull = false → (octets.length < 4 ∨ frameLen octets ≤ 1020) → octets.length < 8 + frameLen octets → err 1) ∧
      (s.host.rxFull = false → frameLen octets ≤ 1020 → 8 + frameLen octets ≤ octets.length →
        let f := octets.take (4 + frameLen octets)
        ((octets.drop (4 + frameLen octets)).take 4 ≠ frameCrc f → err 0) ∧
        ((octets.drop (4 + frameLen octets)).take 4 = frameCrc f →
          let hw := s.flag Reg.HOSTIF_CTL_MEMEN && (frameCmd f = 0x70 || frameCmd f = 0x71)
          ∃ u, exec (.hostPut octets) s = .next u ∧ u.host.rxFull = true ∧ u.host.rxHw = hw ∧ u.rxFrame = f ∧ u.host.cs = false ∧
            (hw = false → posted s u) ∧ (hw = true → u.icol0.buf = s.icol0.buf))) ∧
      (s.host.txRdy = true → s.host.reboot = false →
        ∃ u, exec (.hostGet ⟨n, false⟩) s = .next u ∧ u.host.out = status :: (s.host.txOctets ++ List.replicate n 0).take n ∧ u.host.cs = false ∧
          (s.host.txOctets.length ≤ n → u.host.txRdy = false ∧ posted s u) ∧
          (n < s.host.txOctets.length → u.host.txRdy = true ∧ u.host.txOctets = s.host.txOctets)) ∧
      (s.host.txRdy = true → n < s.host.txOctets.length → Does (.hostGet ⟨n, true⟩) s { s with host := { s.host with
        out := status :: s.host.txOctets.take n, get := .sending n } }) ∧
      (s.host.txRdy = false → Does (.hostGet ⟨n, false⟩) s { s with host := { s.host with
        cs := false, out := status :: List.replicate n 0xFF, asleep := false } })) ∧
    (∀ k, s.host.cs = true → s.host.get = .sending k →
      (∀ more, k + n < s.host.txOctets.length → Does (.hostGet ⟨n, more⟩) s { s with host := { s.host with
        cs := more, out := s.host.out ++ (s.host.txOctets.drop k).take n, get := if more then .sending (k + n) else .none,
        asleep := more && s.host.asleep } }) ∧
      Does .txcancel s { s with host := { s.host with txRdy := false, txOctets := [], get := .ones } }) ∧
    (s.host.cs = true → s.host.get = .ones → Does (.hostGet ⟨n, false⟩) s { s with host := { s.host with
      cs := false, out := s.host.out ++ List.replicate n 0xFF, get := .none, asleep := false } }) ∧
    (s.host.rxHw = true → Does .rxdone s s) ∧
    (s.host.rxHw = false → Does .rxdone s { s with host := { s.host with rxFull := false } }) ∧
    (s.host.txRdy = true → Does .hostTxgo s s) ∧
    (s.host.txRdy = false → bitsOf (s.reg (Reg.HOSTIF_TXBUF 0)) 16 16 ≤ 1020 → ∃ u, exec .hostTxgo s = .next u ∧ u.regs = s.regs ∧
      sent u (s.bufOctets (Reg.HOSTIF_TXBUF 0) (4 + bitsOf (s.reg (Reg.HOSTIF_TXBUF 0)) 16 16))) ∧
    ((∀ k, s.host.get ≠ .sending k) → Does .txcancel s { s with host := { s.host with txRdy := false, txOctets := [] } })) ∧
  (∀ s : State, s.Calm → 0x21000 ≤ s.get Reg.REEL_TXQBASE_ADDR →
    let f := s.rxFrame
    let p := framePay f
    let a := leNat (p.take 4)
    let mine := fun (cmd : Nat) => s.host.rxFull = true ∧ s.host.rxHw = true ∧ s.host.txRdy = false ∧ frameCmd f = cmd
    let answers := fun (u : State) (q : List Byte) => u.host.rxFull = false ∧ sent u (frameOf (frameCmd f + 0x80) (frameSeq f) q)
    let on := ∀ b, b < 16 → s.bank b = .on ∧ s.bankBad b = false
    (¬ mine 0x70 → s.host.uartWait = [] → Does .memrd s s) ∧ (¬ mine 0x71 → Does .memwr s s) ∧
    (mine 0x70 →
      let n := leNat ((p.drop 4).take 2)
      (p.length ≠ 6 ∨ a % 4 ≠ 0 ∨ n % 4 ≠ 0 ∨ 1016 < n → ∃ u, exec .memrd s = .next u ∧ answers u [2] ∧ s.sameBytes u) ∧
      (p.length = 6 → a % 4 = 0 → n % 4 = 0 → n ≤ 1016 → on → 0x20000000 ≤ a → a + n ≤ 0x20100000 →
        ∃ u, exec .memrd s = .next u ∧ answers u (0 :: s.bytes a n) ∧ s.sameBytes u)) ∧
    (mine 0x71 →
      let n := p.length - 4
      (p.length < 4 ∨ a % 4 ≠ 0 ∨ n % 4 ≠ 0 → ∃ u, exec .memwr s = .next u ∧ answers u [2] ∧ s.sameBytes u) ∧
      (4 ≤ p.length → a % 4 = 0 → n % 4 = 0 → on → 0x20000000 ≤ a → a + n ≤ 0x20100000 →
        ∃ u, exec .memwr s = .next u ∧ answers u [0] ∧ u.bytes a n = p.drop 4 ∧ ∀ x, x < a ∨ a + n ≤ x → u.byte x = s.byte x)))

/-- R291, R306, R399, R401. The model's readings: log entry 64 (the restart after the reply, a source out of reach, one command for each CMD). -/
def Obligations.RecoveryLoaderServes : Prop :=
  ∀ s : State, s.Calm → s.get (Reg.EVL_LINECFG_SUB (s.outLine 15)) = 0 →
    (∀ src : LoaderSrc,
      let cmds : List (Nat × Nat × Instr) := [(1, 0, .loaderPing src), (2, 0, .loaderInfo src), (3, 4, .loaderErase src), (4, 260, .loaderProg src),
        (5, 4, .bootsel src), (6, 0, .resetcount src), (7, 0, .reboot src)]
      (s.loaderFrame src = none → ∀ c ∈ cmds, Does c.2.2 s s) ∧
      (∀ f, s.loaderFrame src = some f →
        let answers := fun (u : State) (q : List Byte) =>
          let r := frameOf (frameCmd f + 0x80) (frameSeq f) q
          match src with
          | .mailbox => u.host.rxFull = false ∧ u.host.txRdy = true ∧ u.host.txOctets = r ++ frameCrc r
          | .uart _ => u.uart0.tx = s.uart0.tx ++ r ++ frameCrc r ∧ u.host.txRdy = s.host.txRdy
        (∀ c ∈ cmds, frameCmd f = c.1 → (framePay f).length ≠ c.2.1 → ∃ u, exec c.2.2 s = .next u ∧ answers u [2]) ∧
        (∀ c ∈ cmds, frameCmd f ∉ [1, 2, 3, 4, 5, 6, 7, 0x70, 0x71] → ∃ u, exec c.2.2 s = .next u ∧ answers u [1] ∧ s.sameBytes u) ∧
        (frameCmd f = 1 → framePay f = [] → ∃ u, exec (.loaderPing src) s = .next u ∧ answers u [0] ∧ s.sameBytes u) ∧
        (frameCmd f = 2 → framePay f = [] → ∃ u, exec (.loaderInfo src) s = .next u ∧ s.sameBytes u ∧
          answers u (0 :: ([Reg.SYS_ID, Reg.SYS_BOOTSTAT, Reg.SYS_RELEASE, Reg.FLC_BOOT, Reg.SYS_RSTCAUSE].flatMap fun a => leBytes 4 (s.peek a).toNat))) ∧
        (∀ c ∈ [(3, 4, Instr.loaderErase src), (4, 260, .loaderProg src)], frameCmd f = c.1 → (framePay f).length = c.2.1 → s.flc.op ≠ none →
          ∃ u, exec c.2.2 s = .next u ∧ answers u [5, 1] ∧ s.sameBytes u ∧ u.flc = s.flc) ∧
        (∀ c ∈ [(3, 4, Instr.loaderErase src, 2), (4, 260, .loaderProg src, 1)], frameCmd f = c.1 → (framePay f).length = c.2.1 →
          s.flc.op = none → s.flag Reg.FLC_CTL_GUARD = false →
          let a := leNat ((framePay f).take 4)
          let r : FlcReq := ⟨c.2.2.2, a, 0, 0, [], none⟩
          (r.addrOk = false → ∃ u, exec c.2.2.1 s = .next u ∧ answers u [5, 2] ∧ s.sameBytes u) ∧
          (r.addrOk = true → s.flcProtected r = true → ∃ u, exec c.2.2.1 s = .next u ∧ answers u [5, 3] ∧ s.sameBytes u) ∧
          (r.addrOk = true → s.flcProtected r = false → ∃ u o, exec c.2.2.1 s = .next u ∧ u.flc.op = some o ∧ o.op = c.2.2.2 ∧ o.addr = a ∧ s.sameBytes u ∧
            o.reply = some (replyFor src f) ∧ (c.1 = 4 → o.latch = (framePay f).drop 4))) ∧
        (frameCmd f = 5 → (framePay f).length = 4 →
          let a := leNat (framePay f)
          let seen := (s.manScan a).2
          (region a ≠ .sram ∨ a % 4 ≠ 0 → ∃ u, exec (.bootsel src) s = .next u ∧ answers u [6, 2] ∧ s.sameBytes u) ∧
          (region a = .sram → a % 4 = 0 →
            (∀ code i, seen.manCheck a false false = some (code, i) → ∃ u, exec (.bootsel src) s = .next u ∧ answers u [6, BitVec.ofNat 8 code] ∧ s.sameBytes u) ∧
            (seen.manCheck a false false = none → (∀ e ∈ s.manEntries a, e.kind ≠ 6) →
              ∃ u, exec (.bootsel src) s = .next u ∧ answers u [6, 7] ∧ s.sameBytes u) ∧
            (seen.manCheck a false false = none → (∃ e ∈ s.manEntries a, e.kind = 6) → (∃ w, s.selector = some w ∧ bitsOf w 16 16 = 0xFFFF) →
              ∃ u, exec (.bootsel src) s = .next u ∧ answers u [5, 8] ∧ s.sameBytes u) ∧
            (seen.manCheck a false false = none → (∃ e ∈ s.manEntries a, e.kind = 6) → (∀ w, s.selector = some w → bitsOf w 16 16 ≠ 0xFFFF) →
              ∃ u w, exec (.bootsel src) s = .next u ∧ answers u [0] ∧ u.selector = some w ∧ bitsOf w 0 1 = 1 - s.get Reg.FLC_BOOT_LIVE))) ∧
        (frameCmd f = 6 → framePay f = [] → ∃ u, exec (.resetcount src) s = .next u ∧ answers u [0] ∧
          u.word attAddr = BitVec.ofNat 32 (bitsOf (s.word attAddr) 16 16 * 2 ^ 16 + bitsOf (s.word attAddr) 12 1 * 2 ^ 12) ∧
          ∀ x, x < attAddr ∨ attAddr + 4 ≤ x → u.byte x = s.byte x) ∧
        (frameCmd f = 7 → framePay f = [] → ∃ u, exec (.reboot src) s = .next u ∧ answers u [0] ∧ u.host.reboot = true ∧ s.sameBytes u))) ∧
    (∀ (t : Nat) (o : FlcOp) (r : Reply) (good : Bool), let v := s.at_ t
      v.Calm → v.get (Reg.EVL_LINECFG_SUB (v.outLine 15)) = 0 → v.flc.op = some o → v.flc.held = [] → v.start.dump = none → o.op = 2 → o.suspended = false → o.reply = some r →
      let q := frameOf (r.cmd + 0x80) r.seq [5, if good then 0 else 6]
      ∃ u, exec (.eraseComplete good t) s = .next u ∧ u.flc.op = none ∧
        (r.uart = false → u.host.txRdy = true ∧ u.host.txOctets = q ++ frameCrc q) ∧
        (r.uart = true → u.uart0.tx = v.uart0.tx ++ q ++ frameCrc q)) ∧
    (∀ (t : Nat) (o : FlcOp) (r : Reply) (weak good : Bool), let v := s.at_ t
      v.Calm → v.get (Reg.EVL_LINECFG_SUB (v.outLine 15)) = 0 → v.flc.op = some o → v.flc.held = [] → v.start.dump = none → o.op = 1 → o.reply = some r →
      ∃ u, exec (.progComplete weak good t) s = .next u ∧ u.flc.op = none ∧ u.get Reg.FLC_RESULT_CODE ∈ [0, 5, 6] ∧
        (let code := u.get Reg.FLC_RESULT_CODE
         let q := frameOf (r.cmd + 0x80) r.seq [5, BitVec.ofNat 8 code]
         (r.uart = false → u.host.txRdy = true ∧ u.host.txOctets = q ++ frameCrc q) ∧
         (r.uart = true → u.uart0.tx = v.uart0.tx ++ q ++ frameCrc q))) ∧
    (∀ n, s.host.cs = true → s.flag Reg.HOSTIF_CTL_EN = true → s.host.asleep = false → s.host.txRdy = true → s.host.reboot = true → s.host.get = .none → s.uart0.tx = [] →
      s.start.busy = false → s.host.txOctets.length ≤ n →
      ∃ u, exec (.hostGet ⟨n, false⟩) s = .next u ∧ u.start.busy = true ∧ bitOf (u.reg Reg.SYS_RSTCAUSE) 11 = true)

/-- R402, R403, R412. The model's readings: log entries 61 (full FIFOs, a start while busy, partial transfers, when a receiver posts) and 93
(a pin that is not connected). -/
def Obligations.SerialUnitsMoveBytes : Prop :=
  let posted := fun (v u : State) (src : Nat) => ∃ p ∈ u.icol0.buf, p.src = src ∧ p.hi = 0 ∧ p.time = v.us
  (∀ (s : State) (t n : Nat), n < 2 → let v := s.at_ t
    v.Calm →
    (let ctl := s.reg (Reg.UART_CTL n)
     let bits := 10 + b2n (bitsOf ctl 4 2 = 1 || bitsOf ctl 4 2 = 2) + b2n (bitOf ctl 6)
     let char := bits * max 256 (s.get (Reg.UART_BAUD_DIV n)) * if s.flag (Reg.UART_CTL_CLK n) then 8 else 5
     s.awake = true → s.uartSending n = true → s.uartClock n = true → s.now ≤ t →
      (v.uart n).tx = (s.uart n).tx.drop (min (((s.uart n).part + 128 * (t - s.now)) / char) ((s.uart n).tx.length - 1))) ∧
    (∀ (b : Byte) (par frm brk : Bool),
      (v.uartRxOn n = false → Does (.uartRxByte n b par frm brk t) s v) ∧
      (v.uartRxOn n = true →
        let full := decide (16 ≤ (v.uart n).rx.length)
        let e : Word := BitVec.ofNat 32 (8 * b2n full + 16 * b2n par + 32 * b2n frm + 64 * b2n brk)
        ∃ u, exec (.uartRxByte n b par frm brk t) s = .next u ∧ (u.uart n).rx = (if full then (v.uart n).rx else (v.uart n).rx ++ [b]) ∧
          (u.uart n).tx = (v.uart n).tx ∧ u.reg (Reg.UART_STATUS n) = v.reg (Reg.UART_STATUS n) ||| e ∧ v.regsBut u [Reg.UART_STATUS n] ∧
          ((v.uart n).rx = [] ∨ e &&& ~~~v.reg (Reg.UART_STATUS n) ≠ 0 → posted v u (200 + n)))) ∧
    (v.uartSending n = false ∨ v.uartClock n = false → Does (.uartTxIdle n t) s v) ∧
    (v.uartSending n = true → v.uartClock n = true → v.host.reboot = false →
      ∃ u, exec (.uartTxIdle n t) s = .next u ∧ (u.uart n).tx = [] ∧ (u.uart n).rx = (v.uart n).rx ∧ u.regs = v.regs ∧ posted v u (200 + n)) ∧
    (∀ rx : List Byte,
      ((v.spic n).busy = false → Does (.spicTransferEnd n rx t) s v) ∧
      ((v.spic n).busy = true → let len := bitsOf (v.spic n).cmd 0 16
        let k := min len rx.length
        ∃ u, exec (.spicTransferEnd n rx t) s = .next u ∧ (u.spic n).busy = decide (k < len) ∧ (u.spic n).tx = (v.spic n).tx.drop k ∧
          (u.spic n).cmd = BitVec.ofNat 32 (len - k) ∧ (u.spic n).rx.length = min 16 ((v.spic n).rx.length + k) ∧
          (v.padFunc (22 + 4 * n) = 1 → (u.spic n).rx = ((v.spic n).rx ++ rx.take len).take 16) ∧
          u.reg (Reg.SPIC_STATUS n) = (if 16 < (v.spic n).rx.length + k then v.reg (Reg.SPIC_STATUS n) ||| 0x10 else v.reg (Reg.SPIC_STATUS n)) ∧
          (len ≤ k → posted v u (202 + n)))) ∧
    (∀ (rx : List Byte) (nack lost : Bool),
      ((v.i2c n).busy = false → Does (.i2cTransferEnd n rx nack lost t) s v) ∧
      ((v.i2c n).busy = true → let len := bitsOf (v.i2c n).cmd 16 8
        let k := min len rx.length
        let ends := len ≤ k ∨ nack = true ∨ lost = true
        ∃ u, exec (.i2cTransferEnd n rx nack lost t) s = .next u ∧ (u.i2c n).busy = decide (¬ ends) ∧ bitsOf (u.i2c n).cmd 16 8 = len - k ∧
          (u.i2c n).own = (decide ends && !bitOf (v.i2c n).cmd 15 && !lost) ∧
          u.reg (Reg.I2C_STATUS n) = v.reg (Reg.I2C_STATUS n) ||| BitVec.ofNat 32 (16 * b2n nack + 8 * b2n lost) ∧ (ends → posted v u (204 + n)) ∧
          (bitOf (v.i2c n).cmd 14 = true → (u.i2c n).tx = (v.i2c n).tx ∧ (u.i2c n).rx.length = min 16 ((v.i2c n).rx.length + k) ∧
            (v.padFunc (29 + 2 * n) = 1 → (u.i2c n).rx = ((v.i2c n).rx ++ rx.take len).take 16)) ∧
          (bitOf (v.i2c n).cmd 14 = false → (u.i2c n).tx = (v.i2c n).tx.drop k ∧ (u.i2c n).rx = (v.i2c n).rx)))) ∧
  (∀ (s : State) (n : Nat), n < 2 → s.Calm →
    (∀ b : Byte, Does (.uartDataWrite n b) s (s.setUart n { s.uart n with
      tx := if (s.uart n).tx.length < 16 then (s.uart n).tx ++ [b] else (s.uart n).tx, part := if (s.uart n).tx = [] then 0 else (s.uart n).part })) ∧
    (∀ (a : Agent) (b : Byte) (r : List Byte), (s.uart n).rx = b :: r →
      ∃ u, exec (.uartDataRead a n) s = .next u ∧ u.heard a = .data (b.setWidth 32) ∧ (u.uart n).rx = r ∧ (u.uart n).tx = (s.uart n).tx ∧ u.regs = s.regs) ∧
    (∀ a : Agent, (s.uart n).rx = [] → ∃ u, exec (.uartDataRead a n) s = .next u ∧ u.uart n = s.uart n ∧ u.regs = s.regs) ∧
    (∀ data : Word,
      (s.flag (Reg.SPIC_CTL_EN n) = true → (s.spic n).busy = false →
        Does (.spicTransferStart n data) s (s.setSpic n { s.spic n with busy := true, cmd := data })) ∧
      (s.flag (Reg.SPIC_CTL_EN n) = false ∨ (s.spic n).busy = true → Does (.spicTransferStart n data) s s) ∧
      ((s.i2c n).busy = false → Does (.i2cTransferStart n data) s (s.setI2c n { s.i2c n with busy := true, cmd := data })) ∧
      ((s.i2c n).busy = true → Does (.i2cTransferStart n data) s s)))

/-- R163, R404, R406 to R408, R418, R424. The model's readings: log entries 62 (crossings of a threshold), 65, 66 and 79 (the TAP and dmi) and
67 (levels of pins). -/
def Obligations.ConvertersTimersAndPins : Prop :=
  let posted := fun (v u : State) (src : Nat) => ∃ p ∈ u.icol0.buf, p.src = src ∧ p.time = v.us
  let mute := fun (v : State) (p : Nat) => v.get (Reg.EVL_LINECFG_SUB (v.outLine p)) = 0
  (∀ s : State, s.Calm →
    (s.flag Reg.SADC_CTL_EN = false → Does .sadcStart s s) ∧
    (s.flag Reg.SADC_CTL_EN = true →
      (s.sadc = ⟨none, []⟩ → Does .sadcStart s { s with sadc := ⟨some ⟨s.get Reg.SADC_CTL_CH, none, none⟩, []⟩ }) ∧
      (∀ r, s.sadc = ⟨some r, []⟩ → Does .sadcStart s { s with sadc := ⟨some r, [⟨0, none, none⟩]⟩ }) ∧
      (∀ r h, s.sadc = ⟨some r, [⟨0, h, none⟩]⟩ → Does .sadcStart s s)) ∧
    (∀ n, n < 8 →
      ((s.tmr n).stopAt = some s.now → Does (.tmrStart n) s s) ∧
      ((s.tmr n).stopAt ≠ some s.now → Does (.tmrStart n) s (s.setTmr n ⟨some (s.now + 40 * max 1 (s.reg (Reg.TMR_LOAD n)).toNat), none, none, none⟩)) ∧
      Does (.tmrStop n) s (s.setTmr n ⟨none, none, (s.tmr n).stopAt, some s.now⟩)) ∧
    (∀ tms tdi : Bool,
      (s.pins.vio = false → Does (.tckCycle tms tdi) s s) ∧
      (s.pins.vio = true → ∃ u, exec (.tckCycle tms tdi) s = .next u ∧ u.tap.st = s.tap.st.next tms ∧
        (s.tap.st.next tms ≠ .updateDr ∨ s.tap.ir ≠ 0x11 → u.regs = s.regs ∧ u.dbg = s.dbg) ∧
        (s.tap.st.next tms = .updateDr → s.tap.ir = 0x11 → s.dbg.dmactive = true → s.dbg.autoexec = 0 → s.dbg.resp ≠ .held → s.core0.run ≠ .held →
          (bitsNat (s.tapShift tdi) % 4 = 2 → bitsNat (s.tapShift tdi) / 2 ^ 34 = 4 → u.dbg.data0 = BitVec.ofNat 32 (bitsNat (s.tapShift tdi) / 4) ∧
            u.regs = s.regs) ∧
          (bitsNat (s.tapShift tdi) % 4 = 1 → bitsNat (s.tapShift tdi) / 2 ^ 34 = 4 → u.dbg.dmiAns = s.dbg.data0.toNat ∧ u.regs = s.regs)) ∧
        (u.tap.st = .testLogicReset → u.tap.ir = 1) ∧
        (s.tap.st = .captureDr → s.tap.ir = 1 → u.tap.sr = (List.range 32).map fun i => Nat.testBit 0x271282F7 i) ∧
        (s.tap.st = .shiftDr → u.tap.sr = s.tap.sr.tail ++ [tdi]) ∧ (s.tap.st = .shiftIr → u.tap.sr = s.tap.sr.tail ++ [tdi]) ∧
        (u.tap.tdo = match u.tap.st with
          | .shiftDr => u.tap.sr.head?
          | .shiftIr => u.tap.sr.head?
          | _ => none)))) ∧
  (∀ st : TapState, ((((st.next true).next true).next true).next true).next true = .testLogicReset) ∧
  (∀ (s : State) (t : Nat), let v := s.at_ t
    v.Calm →
    (∀ val : BitVec 12, mute v 14 →
      (v.sadc.cur = none → Does (.sadcConversionDone val t) s v) ∧
      (∀ ch h, v.sadc = ⟨some ⟨ch, h, none⟩, []⟩ → ∃ u, exec (.sadcConversionDone val t) s = .next u ∧ u.sadc = ⟨none, []⟩ ∧
        u.reg Reg.SADC_RESULT = 0x80000000 ||| val.setWidth 32 ∧ posted v u 206) ∧
      (∀ ch h g, v.sadc = ⟨some ⟨ch, h, none⟩, [⟨0, g, none⟩]⟩ → ∃ u, exec (.sadcConversionDone val t) s = .next u ∧
        u.sadc = ⟨some ⟨v.get Reg.SADC_CTL_CH, g, none⟩, []⟩) ∧
      (∀ ch h c, c < 4 → v.sadc = ⟨some ⟨ch, h, some c⟩, []⟩ → (v.ctx 16 c).act = .sadc → (v.eng 16).run = true →
        ∃ u, exec (.sadcConversionDone val t) s = .next u ∧ (u.ctx 16 c).sadc = val.toNat ∧ bitOf (u.ctx 16 c).lat 31 = true ∧
          (u.ctx 16 c).act = .none ∧ u.reg Reg.SADC_RESULT = v.reg Reg.SADC_RESULT)) ∧
    (∀ (temp : Int) (vbkp vin : Nat),
      let w := v.reg Reg.SADC_MONCFG
      let high := toSigned 8 (bitsOf w 24 8)
      let low := toSigned 8 (bitsOf w 16 8)
      let was := toSigned 16 (v.get Reg.SADC_TEMP_T)
      let hot := high < temp ∧ was ≤ high
      let under := temp < low ∧ low ≤ was
      let sag := vin ≠ 0 ∧ vin < bitsOf w 0 16 ∧ (v.get Reg.SADC_VMON_VIN = 0 ∨ bitsOf w 0 16 ≤ v.get Reg.SADC_VMON_VIN)
      ∃ u, exec (.monitorUpdate temp vbkp vin t) s = .next u ∧ u.die = temp ∧ u.reg Reg.SADC_TEMP = BitVec.ofNat 32 (ofSigned 16 temp) ∧
        u.reg Reg.SADC_VMON = BitVec.ofNat 32 (vbkp % 65536 * 2 ^ 16 + vin % 65536) ∧
        bitOf (u.reg Reg.SADC_MONSTAT) 2 = (bitOf (v.reg Reg.SADC_MONSTAT) 2 || decide hot) ∧
        bitOf (u.reg Reg.SADC_MONSTAT) 1 = (bitOf (v.reg Reg.SADC_MONSTAT) 1 || decide under) ∧
        bitOf (u.reg Reg.SADC_MONSTAT) 0 = (bitOf (v.reg Reg.SADC_MONSTAT) 0 || decide sag) ∧
        (hot ∨ under ∨ sag → ∃ p ∈ u.icol0.buf, p.src = 152 ∧ p.lo = u.reg Reg.SADC_MONSTAT ∧ p.hi = 0) ∧
        (¬ (hot ∨ under ∨ sag) → u.icol0.buf = v.icol0.buf ∧ u.icol1.buf = v.icol1.buf)) ∧
    (∀ n, n < 8 →
      ((v.tmr n).due = none → Does (.tmrExpiry n t) s v) ∧
      (∀ d, (v.tmr n).due = some d →
        (v.now < d → Does (.tmrExpiry n t) s v) ∧
        (d ≤ v.now → mute v (6 + n) → ∃ u, exec (.tmrExpiry n t) s = .next u ∧
          u.tmr n = (if bitOf (v.reg (Reg.TMR_CTL n)) 1 then ⟨some (d + 40 * max 1 (v.reg (Reg.TMR_LOAD n)).toNat), (v.tmr n).hop, none, none⟩ else ⟨none, none, none, none⟩) ∧
          (bitOf (v.reg (Reg.TMR_CTL n)) 0 = true → posted v u (208 + n))))) ∧
    (∀ (j : Nat) (level : Bool),
      (v.padSees j level = false → Does (.gpioEdge j level t) s v) ∧
      (v.padSees j level = true → mute v (16 + j) → ∃ u, exec (.gpioEdge j level t) s = .next u ∧ u.pins.level.getLsbD j = level ∧
        (bitOf (v.reg (Reg.GPIO_CFG j)) (if level then 9 else 10) = false → u.regs = v.regs ∧ u.icol0.buf = v.icol0.buf) ∧
        (bitOf (v.reg (Reg.GPIO_CFG j)) (if level then 9 else 10) = true → v.flag (Reg.GPIO_CFG_IRQ j) = true →
          ∃ p ∈ u.icol0.buf, p.src = 160 + j ∧ p.hi = if level then 1 else 2))) ∧
    (∀ valid, ∃ u, exec (.vioValidChange valid t) s = .next u ∧ u.pins = { v.pins with vio := valid } ∧
      (valid = false → u.host.cs = false ∧ u.host.out = [] ∧ u.tap.tdo = none)) ∧
    (v.rfe.holder = none →
      Does (.vioValidChange true t) s { v with pins := { v.pins with vio := true } } ∧
      Does (.vioValidChange false t) s { v with
        pins := { v.pins with vio := false }, host := { v.host with cs := false, out := [], get := .none }, tap := { v.tap with tdo := none } }))

end
end

