-- ==== Sys2Proof/Laws/Maps.lean ====
section
/-! SUPPORT. Laws of the sparse maps (`sget`, `sput`) that hold registers, memory, contexts, engines, lanes, timers and banks. -/

namespace Sys2Proof.Machine

variable {α : Type}

/-- A key below every listed key reads its default. -/
theorem sget_default {d : Nat → α} {m : List (Nat × α)} {a : Nat} (h : ∀ k ∈ m.map Prod.fst, a < k) : sget d m a = d a := by
  induction m with
  | nil => rfl
  | cons p r ih =>
    obtain ⟨k, v⟩ := p
    have hk : a < k := h k (by simp)
    rw [sget, if_neg (by omega)]
    exact ih fun x hx => h x (by simp at hx ⊢; exact Or.inr hx)

/-- Reading the key just written gives the value written. -/
theorem sget_sput_self [DecidableEq α] {d : Nat → α} {m : List (Nat × α)} (h : (m.map Prod.fst).Pairwise (· < ·)) (a : Nat) (v : α) :
    sget d (sput d m a v) a = v := by
  induction m with
  | nil => by_cases hv : v = d a <;> simp [sput, sget, hv]
  | cons p r ih =>
    obtain ⟨k, w⟩ := p
    simp only [List.map_cons, List.pairwise_cons] at h
    by_cases hk : a = k
    · subst hk
      by_cases hv : v = d a
      · simpa [sput, hv] using sget_default h.1
      · simp [sput, sget, hv]
    · by_cases hl : a < k
      · by_cases hv : v = d a
        · simpa [sput, hk, hl, hv, sget] using sget_default fun x hx => lt_trans hl (h.1 x hx)
        · simp [sput, hk, hl, hv, sget]
      · simpa [sput, hk, hl, sget] using ih h.2

/-- A write leaves every other key as it was. -/
theorem sget_sput_ne [DecidableEq α] (d : Nat → α) (m : List (Nat × α)) {a b : Nat} (v : α) (h : b ≠ a) :
    sget d (sput d m a v) b = sget d m b := by
  induction m with
  | nil => by_cases hv : v = d a <;> simp [sput, sget, hv, h]
  | cons p r ih =>
    obtain ⟨k, w⟩ := p
    by_cases hk : a = k
    · subst hk
      by_cases hv : v = d a <;> simp [sput, sget, hv, h]
    · by_cases hl : a < k
      · by_cases hv : v = d a <;> simp [sput, sget, hk, hl, hv, h]
      · by_cases hb : b = k
        · simp [sput, sget, hk, hl, hb]
        · simpa [sput, sget, hk, hl, hb] using ih

/-- The keys after a write are the old keys and the one written. -/
theorem mem_keys_sput [DecidableEq α] {d : Nat → α} {m : List (Nat × α)} {a x : Nat} {v : α}
    (h : x ∈ (sput d m a v).map Prod.fst) : x = a ∨ x ∈ m.map Prod.fst := by
  induction m with
  | nil => by_cases hv : v = d a <;> simp_all [sput]
  | cons p r ih =>
    obtain ⟨k, w⟩ := p
    simp only [sput] at h
    split at h
    · split at h
      · exact .inr (by simp at h ⊢; exact .inr h)
      · simp at h ⊢; grind
    · split at h
      · split at h <;> (simp at h ⊢; grind)
      · simp only [List.map_cons, List.mem_cons] at h ⊢
        rcases h with h | h
        · exact .inr (.inl h)
        · rcases ih h with h | h
          · exact .inl h
          · exact .inr (.inr h)

/-- A write keeps the canonical form. -/
theorem Swf_sput [DecidableEq α] {d : Nat → α} {m : List (Nat × α)} (h : Swf d m) (a : Nat) (v : α) : Swf d (sput d m a v) := by
  induction m with
  | nil => by_cases hv : v = d a <;> simp [sput, Swf, hv]
  | cons p r ih =>
    obtain ⟨k, w⟩ := p
    obtain ⟨hp, hd⟩ := h
    simp only [List.map_cons, List.pairwise_cons] at hp
    have hr : Swf d r := ⟨hp.2, fun q hq => hd q (List.mem_cons_of_mem _ hq)⟩
    have hw : w ≠ d k := hd (k, w) (by simp)
    have hdr : ∀ q ∈ r, q.2 ≠ d q.1 := hr.2
    simp only [sput]
    split
    · subst_vars
      split
      · exact hr
      · refine ⟨?_, ?_⟩
        · simpa using hp
        · intro q hq
          rcases List.mem_cons.1 hq with rfl | hq
          · assumption
          · exact hdr q hq
    · split
      · split
        · exact ⟨by simpa using hp, hd⟩
        · refine ⟨?_, ?_⟩
          · simp only [List.map_cons, List.pairwise_cons, List.mem_cons, forall_eq_or_imp]
            exact ⟨⟨by assumption, fun x hx => lt_trans (by assumption) (hp.1 x hx)⟩, hp⟩
          · intro q hq
            rcases List.mem_cons.1 hq with rfl | hq
            · assumption
            · exact hd q hq
      · refine ⟨?_, ?_⟩
        · simp only [List.map_cons, List.pairwise_cons]
          refine ⟨fun x hx => ?_, (ih hr).1⟩
          rcases mem_keys_sput hx with rfl | hx
          · omega
          · exact hp.1 x hx
        · intro q hq
          rcases List.mem_cons.1 hq with rfl | hq
          · exact hw
          · exact (ih hr).2 q hq

/-- Leaving entries out keeps the canonical form. -/
theorem Swf_filter {d : Nat → α} {m : List (Nat × α)} (h : Swf d m) (p : Nat × α → Bool) : Swf d (m.filter p) := by
  refine ⟨?_, fun q hq => h.2 q (List.mem_filter.1 hq).1⟩
  exact h.1.sublist ((List.filter_sublist (l := m) (p := p)).map Prod.fst)

theorem Swf_nil (d : Nat → α) : Swf d ([] : List (Nat × α)) := by simp [Swf]

/-- Two maps in canonical form that read alike are the same list. -/
theorem Swf_ext {d : Nat → α} {m n : List (Nat × α)} (hm : Swf d m) (hn : Swf d n) (h : ∀ a, sget d m a = sget d n a) : m = n := by
  induction m generalizing n with
  | nil =>
    cases n with
    | nil => rfl
    | cons p r =>
      have := h p.1
      simp only [sget, ↓reduceIte] at this
      exact absurd this.symm (hn.2 p (by simp))
  | cons p r ih =>
    obtain ⟨k, v⟩ := p
    obtain ⟨hp, hd⟩ := hm
    simp only [List.map_cons, List.pairwise_cons] at hp
    cases n with
    | nil =>
      have := h k
      simp only [sget, ↓reduceIte] at this
      exact absurd this (hd (k, v) (by simp))
    | cons q t =>
      obtain ⟨l, w⟩ := q
      obtain ⟨hq, he⟩ := hn
      simp only [List.map_cons, List.pairwise_cons] at hq
      have hkl : k = l := by
        rcases Nat.lt_trichotomy k l with hlt | heq | hgt
        · have hh := h k
          rw [sget, if_pos rfl, sget_default (m := (l, w) :: t)] at hh
          · exact absurd hh (hd (k, v) (by simp))
          · intro x hx
            simp only [List.map_cons, List.mem_cons] at hx
            rcases hx with rfl | hx
            · exact hlt
            · exact lt_trans hlt (hq.1 x hx)
        · exact heq
        · have hh := h l
          rw [sget_default (m := (k, v) :: r), sget, if_pos rfl] at hh
          · exact absurd hh.symm (he (l, w) (by simp))
          · intro x hx
            simp only [List.map_cons, List.mem_cons] at hx
            rcases hx with rfl | hx
            · exact hgt
            · exact lt_trans hgt (hp.1 x hx)
      subst hkl
      have hv : v = w := by simpa [sget] using h k
      subst hv
      have hrt : r = t := by
        refine ih ⟨hp.2, fun x hx => hd x (List.mem_cons_of_mem _ hx)⟩ ⟨hq.2, fun x hx => he x (List.mem_cons_of_mem _ hx)⟩ fun a => ?_
        by_cases ha : a = k
        · subst ha
          rw [sget_default hp.1, sget_default hq.1]
        · simpa [sget, ha] using h a
      rw [hrt]

end Sys2Proof.Machine
end

