-- ==== Sys2Proof/Laws/Memory.lean ====
section
/-! SUPPORT. Laws of registers, fields and memory: what a write changes, what it leaves, and that every memory operation keeps the
canonical form. -/

namespace Sys2Proof.Machine

/-! ### Registers -/

@[simp] theorem State.setReg_reg_ne (s : State) {a b : Nat} (w : Word) (h : b ≠ a) : (s.setReg a w).reg b = s.reg b :=
  sget_sput_ne _ _ _ h

theorem State.setReg_reg_self (s : State) (h : Swf regReset s.regs) (a : Nat) (w : Word) : (s.setReg a w).reg a = w :=
  sget_sput_self h.1 a w

theorem State.setReg_Swf (s : State) (h : Swf regReset s.regs) (a : Nat) (w : Word) : Swf regReset (s.setReg a w).regs := Swf_sput h a w

theorem State.put_Swf (s : State) (h : Swf regReset s.regs) (f : Field) (v : Nat) : Swf regReset (s.put f v).regs := Swf_sput h _ _

theorem State.put_reg_ne (s : State) (f : Field) (v : Nat) {b : Nat} (h : b ≠ f.addr) : (s.put f v).reg b = s.reg b :=
  sget_sput_ne _ _ _ h

theorem State.put_get_ne (s : State) (f g : Field) (v : Nat) (h : g.addr ≠ f.addr) : (s.put f v).get g = s.get g := by
  simp [State.get, State.put_reg_ne s f v h]

/-- Bits of a word with a field replaced. -/
theorem fset_getLsbD (w : Word) (f : Field) (v i : Nat) (h : f.lo + f.width ≤ 32) :
    (fset w f v).getLsbD i =
      if f.lo ≤ i ∧ i < f.lo + f.width then v.testBit (i - f.lo) else w.getLsbD i := by
  have hm : (fmask f).getLsbD i = decide (f.lo ≤ i ∧ i < f.lo + f.width) := by
    unfold fmask
    rw [BitVec.getLsbD_ofNat, Nat.testBit_mul_two_pow, Nat.testBit_two_pow_sub_one]
    by_cases h1 : f.lo ≤ i <;> by_cases h2 : i < f.lo + f.width <;> simp [h1, h2] <;> omega
  unfold fset
  rw [BitVec.getLsbD_or, BitVec.getLsbD_and, BitVec.getLsbD_and, BitVec.getLsbD_not, hm, BitVec.getLsbD_shiftLeft,
    BitVec.getLsbD_ofNat]
  by_cases hi : i < 32
  · by_cases h1 : f.lo ≤ i <;> by_cases h2 : i < f.lo + f.width
    · have h3 : ¬ i < f.lo := by omega
      have h4 : i - f.lo < 32 := by omega
      simp [h1, h2, hi, h3, h4]
    all_goals simp [h1, h2, hi]
  · have h2 : ¬ (f.lo ≤ i ∧ i < f.lo + f.width) := by omega
    rw [if_neg h2]
    simp [hi, BitVec.getLsbD_of_ge w i (by omega)]

/-- A field of a word, as a number, is given by its bits. -/
theorem fget_testBit (w : Word) (f : Field) (i : Nat) : (fget w f).testBit i = (decide (i < f.width) && w.getLsbD (f.lo + i)) := by
  unfold fget
  rw [Nat.testBit_mod_two_pow]
  congr 1
  rw [← BitVec.getLsbD_ushiftRight, BitVec.getLsbD]

/-- The field just written reads the value written, cut to the field's width. -/
theorem fget_fset_self (w : Word) (f : Field) (v : Nat) (h : f.lo + f.width ≤ 32) : fget (fset w f v) f = v % 2 ^ f.width := by
  apply Nat.eq_of_testBit_eq
  intro i
  rw [fget_testBit, fset_getLsbD _ _ _ _ h, Nat.testBit_mod_two_pow]
  by_cases hi : i < f.width <;> simp [hi]

/-- A field that does not overlap the one written keeps its value. -/
theorem fget_fset_ne (w : Word) (f g : Field) (v : Nat) (h : f.lo + f.width ≤ 32) (hd : g.lo + g.width ≤ f.lo ∨ f.lo + f.width ≤ g.lo) :
    fget (fset w f v) g = fget w g := by
  apply Nat.eq_of_testBit_eq
  intro i
  rw [fget_testBit, fget_testBit, fset_getLsbD _ _ _ _ h]
  by_cases hi : i < g.width
  · have : ¬ (f.lo ≤ g.lo + i ∧ g.lo + i < f.lo + f.width) := by omega
    simp [this]
  · simp [hi]

theorem State.put_get_self (s : State) (hs : Swf regReset s.regs) (f : Field) (v : Nat) (h : f.lo + f.width ≤ 32) :
    (s.put f v).get f = v % 2 ^ f.width := by
  unfold State.get State.put
  rw [State.setReg_reg_self s hs, fget_fset_self _ _ _ h]

theorem State.put_get_other (s : State) (hs : Swf regReset s.regs) (f g : Field) (v : Nat) (h : f.lo + f.width ≤ 32)
    (hd : g.addr ≠ f.addr ∨ g.lo + g.width ≤ f.lo ∨ f.lo + f.width ≤ g.lo) : (s.put f v).get g = s.get g := by
  by_cases ha : g.addr = f.addr
  · unfold State.get State.put
    rw [ha, State.setReg_reg_self s hs]
    exact fget_fset_ne _ _ _ _ h (by tauto)
  · exact State.put_get_ne s f g v ha

/-! ### Bytes -/

theorem State.setByte_byte_ne (s : State) {a b : Nat} (v : Byte) (h : b ≠ a) : (s.setByte a v).byte b = s.byte b :=
  sget_sput_ne _ _ _ h

theorem State.setByte_byte_self (s : State) (h : Memory.wf s.lost s.mem) (a : Nat) (v : Byte) : (s.setByte a v).byte a = v :=
  sget_sput_self h.1 a v

theorem State.setByte_wf (s : State) (h : Memory.wf s.lost s.mem) (a : Nat) (v : Byte) :
    Memory.wf (s.setByte a v).lost (s.setByte a v).mem := Swf_sput h a v

theorem State.setBytes_lost (s : State) (a : Nat) (bs : List Byte) : (s.setBytes a bs).lost = s.lost := by
  induction bs generalizing s a with
  | nil => rfl
  | cons b r ih => exact ih (s.setByte a b) (a + 1)

@[simp] theorem State.setBytes_memc (s : State) (a : Nat) (bs : List Byte) : (s.setBytes a bs).memc = s.memc := by
  induction bs generalizing s a with
  | nil => rfl
  | cons b r ih => exact ih (s.setByte a b) (a + 1)

@[simp] theorem State.setWord_memc (s : State) (a : Nat) (w : Word) : (s.setWord a w).memc = s.memc := State.setBytes_memc s a _

theorem State.setBytes_wf (s : State) (h : Memory.wf s.lost s.mem) (a : Nat) (bs : List Byte) :
    Memory.wf (s.setBytes a bs).lost (s.setBytes a bs).mem := by
  induction bs generalizing s a with
  | nil => exact h
  | cons b r ih => exact ih (s.setByte a b) (State.setByte_wf s h a b) (a + 1)

/-- Bytes outside those stored to read as before. -/
theorem State.setBytes_byte_out (s : State) (a : Nat) (bs : List Byte) {x : Nat} (h : x < a ∨ a + bs.length ≤ x) :
    (s.setBytes a bs).byte x = s.byte x := by
  induction bs generalizing s a with
  | nil => rfl
  | cons b r ih =>
    simp only [List.length_cons] at h
    rw [State.setBytes, ih _ _ (by omega), State.setByte_byte_ne s b (by omega)]

/-- The bytes stored read back. -/
theorem State.setBytes_byte_in (s : State) (h : Memory.wf s.lost s.mem) (a : Nat) (bs : List Byte) (i : Nat) (hi : i < bs.length) :
    (s.setBytes a bs).byte (a + i) = bs[i] := by
  induction bs generalizing s a i with
  | nil => simp at hi
  | cons b r ih =>
    cases i with
    | zero =>
      rw [State.setBytes, State.setBytes_byte_out _ _ _ (by omega)]
      exact State.setByte_byte_self s h a b
    | succ j =>
      have := ih (s.setByte a b) (State.setByte_wf s h a b) (a + 1) j (by simpa using hi)
      simpa [State.setBytes, Nat.add_assoc, Nat.add_comm 1 j] using this

/-- Reading back as many bytes as were stored gives them. -/
theorem State.setBytes_bytes (s : State) (h : Memory.wf s.lost s.mem) (a : Nat) (bs : List Byte) :
    (s.setBytes a bs).bytes a bs.length = bs := by
  apply List.ext_getElem
  · simp [State.bytes]
  · intro i h1 h2
    simpa [State.bytes] using State.setBytes_byte_in s h a bs i h2

theorem leNat_lt (l : List Byte) : leNat l < 256 ^ l.length := by
  induction l with
  | nil => simp [leNat]
  | cons b r ih =>
    simp only [leNat, List.length_cons, pow_succ]
    have := b.isLt
    omega

@[simp] theorem leBytes_length (n v : Nat) : (leBytes n v).length = n := by simp [leBytes]

theorem leNat_leBytes (n v : Nat) : leNat (leBytes n v) = v % 256 ^ n := by
  induction n generalizing v with
  | zero => simp [leBytes, leNat, Nat.mod_one]
  | succ n ih =>
    have h : leBytes (n + 1) v = BitVec.ofNat 8 v :: leBytes n (v / 256) := by
      apply List.ext_getElem
      · simp
      · intro i h1 h2
        cases i with
        | zero => simp [leBytes]
        | succ j => simp [leBytes, Nat.pow_succ', Nat.div_div_eq_div_mul]
    have e : 256 ^ (n + 1) = 256 * 256 ^ n := Nat.pow_succ'
    rw [h, leNat, ih, BitVec.toNat_ofNat, e]
    exact Nat.mod_mul.symm

/-- A word just stored reads back. -/
theorem State.setWord_word (s : State) (h : Memory.wf s.lost s.mem) (a : Nat) (w : Word) : (s.setWord a w).word a = w := by
  have hb : (s.setWord a w).bytes a 4 = leBytes 4 w.toNat := by
    have := State.setBytes_bytes s h a (leBytes 4 w.toNat)
    rwa [leBytes_length] at this
  unfold State.word
  rw [hb, leNat_leBytes]
  apply BitVec.eq_of_toNat_eq
  have := w.isLt
  rw [BitVec.toNat_ofNat]
  omega

theorem State.setWord_wf (s : State) (h : Memory.wf s.lost s.mem) (a : Nat) (w : Word) :
    Memory.wf (s.setWord a w).lost (s.setWord a w).mem := State.setBytes_wf s h a _

theorem State.setWord_byte_out (s : State) (a : Nat) (w : Word) {x : Nat} (h : x < a ∨ a + 4 ≤ x) :
    (s.setWord a w).byte x = s.byte x := State.setBytes_byte_out s a _ (by simpa using h)

theorem State.setWords_wf (s : State) (h : Memory.wf s.lost s.mem) (a : Nat) (ws : List Word) :
    Memory.wf (s.setWords a ws).lost (s.setWords a ws).mem := by
  induction ws generalizing s a with
  | nil => exact h
  | cons w r ih => exact ih _ (State.setWord_wf s h a w) _

/-! ### Ranges cleared and lost -/

/-- The tag of the loss that an address lies in. -/
def lostTag (lost : List Lost) (a : Nat) : Option Nat := (lost.find? fun l => l.base ≤ a && a < l.base + l.size).map Lost.tag

theorem memDefault_tag (lost : List Lost) (a : Nat) :
    memDefault lost a = match lostTag lost a with | some t => Config.lostByte t a | none => memBase a := by
  unfold memDefault lostTag
  cases lost.find? _ <;> rfl

theorem lostTag_append (xs ys : List Lost) (a : Nat) : lostTag (xs ++ ys) a = (lostTag xs a).or (lostTag ys a) := by
  unfold lostTag
  rw [List.find?_append]
  cases List.find? _ xs <;> simp

theorem lostTag_one (l : Lost) (a : Nat) : lostTag [l] a = if l.base ≤ a ∧ a < l.base + l.size then some l.tag else none := by
  unfold lostTag
  by_cases h : l.base ≤ a ∧ a < l.base + l.size
  · simp [h]
  · rw [if_neg h]
    simp at h ⊢
    exact h

theorem lostTag_ite (c : Prop) [Decidable c] (l : Lost) (a : Nat) :
    lostTag (if c then [l] else []) a = if c ∧ l.base ≤ a ∧ a < l.base + l.size then some l.tag else none := by
  by_cases h : c
  · simp [h, lostTag_one]
  · simp [h, lostTag]

theorem lostTag_outside (l : Lost) (base size a : Nat) (h : a < base ∨ base + size ≤ a) :
    lostTag (l.outside base size) a = lostTag [l] a := by
  unfold Lost.outside
  dsimp only
  split
  · rfl
  · rename_i hc
    simp only [Bool.or_eq_true, decide_eq_true_eq, not_or, not_le] at hc
    rw [lostTag_append, lostTag_ite, lostTag_ite, lostTag_one]
    dsimp only
    by_cases hin : l.base ≤ a ∧ a < l.base + l.size
    · rw [if_pos hin]
      by_cases h1 : a < base
      · rw [if_pos (by omega)]; rfl
      · rw [if_neg (by omega), if_pos (by omega)]; rfl
    · rw [if_neg hin, if_neg (by omega), if_neg (by omega)]; rfl

theorem lostTag_flatMap (ls : List Lost) (base size a : Nat) (h : a < base ∨ base + size ≤ a) :
    lostTag (ls.flatMap fun l => l.outside base size) a = lostTag ls a := by
  induction ls with
  | nil => rfl
  | cons l r ih =>
    rw [List.flatMap_cons, lostTag_append, lostTag_outside _ _ _ _ h, ih, ← lostTag_append, List.singleton_append]

/-- Outside a range that is cleared, an unlisted byte reads as before. -/
theorem State.clearRange_default (s : State) (base size a : Nat) (h : a < base ∨ base + size ≤ a) :
    memDefault (s.clearRange base size).lost a = memDefault s.lost a := by
  rw [memDefault_tag, memDefault_tag]
  show (match lostTag (s.lost.flatMap fun l => l.outside base size) a with | some t => Config.lostByte t a | none => memBase a) = _
  rw [lostTag_flatMap _ _ _ _ h]

theorem State.lose_default (s : State) (base size a : Nat) (h : a < base ∨ base + size ≤ a) :
    memDefault (s.lose base size).lost a = memDefault s.lost a := by
  rw [← State.clearRange_default s base size a h, memDefault_tag, memDefault_tag]
  show (match lostTag ([⟨base, size, s.free⟩] ++ (s.clearRange base size).lost) a with
    | some t => Config.lostByte t a | none => memBase a) = _
  rw [lostTag_append, lostTag_one, if_neg (by dsimp only; omega)]
  rfl

theorem State.clearRange_wf (s : State) (h : Memory.wf s.lost s.mem) (base size : Nat) :
    Memory.wf (s.clearRange base size).lost (s.clearRange base size).mem := by
  refine ⟨(Swf_filter h _).1, fun q hq => ?_⟩
  obtain ⟨h1, h2⟩ := List.mem_filter.1 hq
  simp only [Bool.not_eq_true', Bool.and_eq_false_iff, decide_eq_false_iff_not, not_le, not_lt] at h2
  rw [State.clearRange_default s base size q.1 h2]
  exact h.2 q h1

theorem State.lose_wf (s : State) (h : Memory.wf s.lost s.mem) (base size : Nat) :
    Memory.wf (s.lose base size).lost (s.lose base size).mem := by
  refine ⟨(Swf_filter h _).1, fun q hq => ?_⟩
  obtain ⟨h1, h2⟩ := List.mem_filter.1 hq
  simp only [Bool.not_eq_true', Bool.and_eq_false_iff, decide_eq_false_iff_not, not_le, not_lt] at h2
  rw [State.lose_default s base size q.1 h2]
  exact h.2 q h1

/-- An entry that a filter keeps is read as before. -/
theorem sget_filter {α : Type} (d : Nat → α) (m : List (Nat × α)) (p : Nat × α → Bool) (a : Nat) (h : ∀ v, p (a, v) = true) :
    sget d (m.filter p) a = sget d m a := by
  induction m with
  | nil => rfl
  | cons q r ih =>
    obtain ⟨k, v⟩ := q
    by_cases hk : a = k
    · subst hk; simp [h, sget]
    · by_cases hp : p (k, v) = true <;> simp [hp, sget, hk, ih]

/-- Bytes outside a range that is cleared read as before. -/
theorem State.clearRange_byte (s : State) (base size a : Nat) (h : a < base ∨ base + size ≤ a) :
    (s.clearRange base size).byte a = s.byte a := by
  have hf : sget (memDefault s.lost) (s.mem.filter fun c => !(decide (base ≤ c.1) && decide (c.1 < base + size))) a =
      sget (memDefault s.lost) s.mem a := by
    apply sget_filter
    intro v
    simp only [Bool.not_eq_true', Bool.and_eq_false_iff, decide_eq_false_iff_not, not_le, not_lt]
    exact h
  have hd : ∀ (m : List (Nat × Byte)) (d e : Nat → Byte), d a = e a → sget d m a = sget e m a := by
    intro m d e hde
    induction m with
    | nil => exact hde
    | cons q r ih => simp only [sget, ih]
  unfold State.byte
  rw [hd _ _ _ (State.clearRange_default s base size a h)]
  exact hf

end Sys2Proof.Machine
end

