-- ==== Sys2Proof/Laws/Keeps.lean ====
section
/-! SUPPORT. What every operation of the model keeps: the queue of commands, the canonical form of the sparse maps, and modes that
the manual knows. `Keeps s t` says so of a change from `s` to `t`; the lemmas named `_keeps` say it of each operation. -/

namespace Sys2Proof.Machine

/-- The part of the state that `Keeps` speaks of. -/
def State.view (s : State) :=
  (s.pending, s.mem, s.lost, s.regs, s.shadow, s.ctxs, s.engs, s.lanes, s.tmrs, s.memc.banks, s.pwr.mode, s.pwr.prev, s.pwr.forced,
    s.pwr.cmd, s.pwr.hs)

/-- From `s` to `t` the queue stays, and the canonical form and a legal mode are kept. -/
structure Keeps (s t : State) : Prop where
  pending : t.pending = s.pending
  canonical : s.canonical → t.canonical
  legal : s.legalMode → t.legalMode

theorem Keeps.refl (s : State) : Keeps s s := ⟨rfl, id, id⟩

theorem Keeps.transS {s t u : State} (h : Keeps s t) (k : Keeps t u) : Keeps s u :=
  ⟨k.pending.trans h.pending, fun c => k.canonical (h.canonical c), fun l => k.legal (h.legal l)⟩

/-- From here on only what is kept of a state is used: the proof term does not repeat the operation that led to it. -/
theorem Keeps.gen {Q : Prop} (q : Q) : Q := q

/-- A change of fields that `Keeps` does not speak of. -/
theorem Keeps.upd {s t u : State} (h : Keeps s t) (e : u.view = t.view) : Keeps s u := by
  simp only [State.view, Prod.mk.injEq] at e
  obtain ⟨e1, e2, e3, e4, e5, e6, e7, e8, e9, e10, e11, e12, e13, e14, e15⟩ := e
  refine ⟨e1.trans h.pending, fun c => ?_, fun l => ?_⟩
  · have c := h.canonical c
    constructor
    · rw [e2, e3]; exact c.mem
    · rw [e4]; exact c.regs
    · rw [e5]; exact c.shadow
    · rw [e6]; exact c.ctxs
    · rw [e7]; exact c.engs
    · rw [e8]; exact c.lanes
    · rw [e9]; exact c.tmrs
    · rw [e10]; exact c.banks
  · have l := h.legal l
    constructor
    · rw [e11]; exact l.mode
    · rw [e12]; exact l.prev
    · rw [e13]; exact l.forced
    · rw [e14]; exact l.cmd
    · rw [e15]; exact l.hs

/-- A change that leaves the queue and the sparse maps, and keeps legal modes. -/
theorem Keeps.modes {s0 s t : State} (h : Keeps s0 s)
    (e : (t.pending, t.mem, t.lost, t.regs, t.shadow, t.ctxs, t.engs, t.lanes, t.tmrs, t.memc.banks) =
      (s.pending, s.mem, s.lost, s.regs, s.shadow, s.ctxs, s.engs, s.lanes, s.tmrs, s.memc.banks))
    (l : s0.legalMode → t.legalMode) : Keeps s0 t := by
  simp only [Prod.mk.injEq] at e
  obtain ⟨e1, e2, e3, e4, e5, e6, e7, e8, e9, e10⟩ := e
  refine ⟨e1.trans h.pending, fun c => ?_, l⟩
  have c := h.canonical c
  constructor
  · rw [e2, e3]; exact c.mem
  · rw [e4]; exact c.regs
  · rw [e5]; exact c.shadow
  · rw [e6]; exact c.ctxs
  · rw [e7]; exact c.engs
  · rw [e8]; exact c.lanes
  · rw [e9]; exact c.tmrs
  · rw [e10]; exact c.banks

/-- A change that leaves the queue and the power controller's modes, and keeps the canonical form. -/
theorem Keeps.of_canonical {s t : State} (hp : t.pending = s.pending) (hm : t.pwr.mode = s.pwr.mode) (hv : t.pwr.prev = s.pwr.prev)
    (hf : t.pwr.forced = s.pwr.forced) (hc : t.pwr.cmd = s.pwr.cmd) (hh : t.pwr.hs = s.pwr.hs)
    (h : s.canonical → t.canonical) : Keeps s t :=
  ⟨hp, h, fun l => ⟨hm ▸ l.mode, hv ▸ l.prev, hf ▸ l.forced, hc ▸ l.cmd, hh ▸ l.hs⟩⟩

/-- The fields of the power controller that say the mode are the same. -/
abbrev Pwr.sameMode (p q : Pwr) : Prop :=
  p.mode = q.mode ∧ p.prev = q.prev ∧ p.forced = q.forced ∧ p.cmd = q.cmd ∧ p.hs = q.hs

theorem Keeps.pwr {s0 s t : State} (h : Keeps s0 s)
    (e : (t.pending, t.mem, t.lost, t.regs, t.shadow, t.ctxs, t.engs, t.lanes, t.tmrs, t.memc.banks) =
      (s.pending, s.mem, s.lost, s.regs, s.shadow, s.ctxs, s.engs, s.lanes, s.tmrs, s.memc.banks))
    (m : t.pwr.sameMode s.pwr) : Keeps s0 t :=
  h.modes e fun l => by
    obtain ⟨m1, m2, m3, m4, m5⟩ := m
    have l := h.legal l
    exact ⟨m1 ▸ l.mode, m2 ▸ l.prev, m3 ▸ l.forced, m4 ▸ l.cmd, m5 ▸ l.hs⟩

/-- A change of the RTC alone. -/
theorem Keeps.rtc {s0 s : State} (h : Keeps s0 s) (r : Rtc) : Keeps s0 { s with rtc := r } := h.upd rfl

/-- A change of the debug module alone. -/
theorem Keeps.dbg {s0 s : State} (h : Keeps s0 s) (d : Debug) : Keeps s0 { s with dbg := d } :=
  h.upd (t := s) (by unfold State.view; rfl)

/-- A change of the cipher engine alone. -/
theorem Keeps.ciph {s0 s : State} (h : Keeps s0 s) (c : Ciph) : Keeps s0 { s with ciph := c } :=
  h.upd (t := s) (by unfold State.view; rfl)

/-! ### The same for what a function answers beside a state -/

def KeepsO (s : State) (o : Host.Outcome State Fault Refusal) : Prop := ∀ t, o = .next t → Keeps s t
def KeepsP (s : State) (o : Option State) : Prop := ∀ t, o = some t → Keeps s t
def KeepsE (s : State) (o : Except Nat State) : Prop := ∀ t, o = .ok t → Keeps s t
def Keeps1 {α : Type} (s : State) (p : State × α) : Prop := Keeps s p.1
def Keeps2 {α : Type} (s : State) (p : α × State) : Prop := Keeps s p.2
def Keeps3 {α β : Type} (s : State) (p : α × β × State) : Prop := Keeps s p.2.2

section
variable {α β : Type} {s0 s t : State}

theorem Keeps.transO {o : Host.Outcome State Fault Refusal} (h : Keeps s0 s) (k : KeepsO s o) : KeepsO s0 o :=
  fun t e => h.transS (k t e)
theorem Keeps.transP {o : Option State} (h : Keeps s0 s) (k : KeepsP s o) : KeepsP s0 o := fun t e => h.transS (k t e)
theorem Keeps.transE {o : Except Nat State} (h : Keeps s0 s) (k : KeepsE s o) : KeepsE s0 o := fun t e => h.transS (k t e)
theorem Keeps.trans1 {p : State × α} (h : Keeps s0 s) (k : Keeps1 s p) : Keeps1 s0 p := h.transS k
theorem Keeps.trans2 {p : α × State} (h : Keeps s0 s) (k : Keeps2 s p) : Keeps2 s0 p := h.transS k
theorem Keeps.trans3 {p : α × β × State} (h : Keeps s0 s) (k : Keeps3 s p) : Keeps3 s0 p := h.transS k

theorem keepsO_next (h : Keeps s0 t) : KeepsO s0 (.next t) := fun _ e => by cases e; exact h
theorem keepsP_some (h : Keeps s0 t) : KeepsP s0 (some t) := fun _ e => by cases e; exact h
theorem keepsP_none : KeepsP s0 none := fun _ e => by cases e
theorem keepsE_ok (h : Keeps s0 t) : KeepsE s0 (.ok t) := fun _ e => by cases e; exact h
theorem keepsE_error {n : Nat} : KeepsE s0 (.error n) := fun _ e => by cases e
theorem keeps1_mk {a : α} (h : Keeps s0 t) : Keeps1 s0 (t, a) := h
theorem keeps2_mk {a : α} (h : Keeps s0 t) : Keeps2 s0 (a, t) := h
theorem keeps3_mk {a : α} {b : β} (h : Keeps s0 t) : Keeps3 s0 (a, b, t) := h

theorem keepsO_of {o : Host.Outcome State Fault Refusal} (e : o = .next t) (h : KeepsO s0 o) : Keeps s0 t := h t e
theorem keepsP_of {o : Option State} (e : o = some t) (h : KeepsP s0 o) : Keeps s0 t := h t e
theorem keepsE_of {o : Except Nat State} (e : o = .ok t) (h : KeepsE s0 o) : Keeps s0 t := h t e
theorem keeps1_of {p : State × α} {a : α} (e : p = (t, a)) (h : Keeps1 s0 p) : Keeps s0 t := by subst e; exact h
theorem keeps2_of {p : α × State} {a : α} (e : p = (a, t)) (h : Keeps2 s0 p) : Keeps s0 t := by subst e; exact h
theorem keeps3_of {p : α × β × State} {a : α} {b : β} (e : p = (a, b, t)) (h : Keeps3 s0 p) : Keeps s0 t := by subst e; exact h

theorem keepsP_getD {o : Option State} (h : KeepsP s0 o) (k : Keeps s0 t) : Keeps s0 (o.getD t) := by
  cases o with
  | none => exact k
  | some u => exact h u rfl

theorem keepsP_map {o : Option α} {f : α → State} (h : ∀ x, Keeps s0 (f x)) : KeepsP s0 (o.map f) := by
  cases o with
  | none => exact keepsP_none
  | some x => exact keepsP_some (h x)

variable {c : Prop} [Decidable c]

theorem keepsS_ite (h : Keeps s0 s) (k : Keeps s0 t) : Keeps s0 (if c then s else t) := by split <;> assumption
theorem keepsO_ite {o p : Host.Outcome State Fault Refusal} (h : KeepsO s0 o) (k : KeepsO s0 p) : KeepsO s0 (if c then o else p) := by
  split <;> assumption
theorem keepsP_ite {o p : Option State} (h : KeepsP s0 o) (k : KeepsP s0 p) : KeepsP s0 (if c then o else p) := by split <;> assumption
theorem keepsE_ite {o p : Except Nat State} (h : KeepsE s0 o) (k : KeepsE s0 p) : KeepsE s0 (if c then o else p) := by
  split <;> assumption
theorem keeps1_ite {o p : State × α} (h : Keeps1 s0 o) (k : Keeps1 s0 p) : Keeps1 s0 (if c then o else p) := by split <;> assumption
theorem keeps2_ite {o p : α × State} (h : Keeps2 s0 o) (k : Keeps2 s0 p) : Keeps2 s0 (if c then o else p) := by split <;> assumption
theorem keeps3_ite {o p : α × β × State} (h : Keeps3 s0 o) (k : Keeps3 s0 p) : Keeps3 s0 (if c then o else p) := by split <;> assumption

/-! ### Folds -/

theorem foldl_keeps {f : State → β → State} {l : List β} (h : Keeps s0 s) (k : ∀ u i, Keeps s0 u → Keeps s0 (f u i)) :
    Keeps s0 (l.foldl f s) := by
  induction l generalizing s with
  | nil => exact h
  | cons i r ih => exact ih (k s i h)

theorem forN_keeps {f : State → Nat → State} {n : Nat} (h : Keeps s0 s) (k : ∀ u i, Keeps s0 u → Keeps s0 (f u i)) :
    Keeps s0 (forN n f s) := foldl_keeps h k

end

/-! ### The operations that change the sparse maps -/

theorem State.setReg_keeps (s : State) (a : Nat) (w : Word) : Keeps s (s.setReg a w) :=
  Keeps.of_canonical rfl rfl rfl rfl rfl rfl fun c => { c with regs := Swf_sput c.regs _ _ }

theorem State.setByte_keeps (s : State) (a : Nat) (b : Byte) : Keeps s (s.setByte a b) :=
  Keeps.of_canonical rfl rfl rfl rfl rfl rfl fun c => { c with mem := Swf_sput c.mem _ _ }

theorem State.setBytes_keeps (s : State) (a : Nat) (bs : List Byte) : Keeps s (s.setBytes a bs) := by
  induction bs generalizing s a with
  | nil => exact Keeps.refl s
  | cons b r ih => exact (s.setByte_keeps a b).transS (ih _ _)

theorem State.setWord_keeps (s : State) (a : Nat) (w : Word) : Keeps s (s.setWord a w) := s.setBytes_keeps a _

theorem State.setWords_keeps (s : State) (a : Nat) (ws : List Word) : Keeps s (s.setWords a ws) := by
  induction ws generalizing s a with
  | nil => exact Keeps.refl s
  | cons w r ih => exact (s.setWord_keeps a w).transS (ih _ _)

theorem State.clearRange_keeps (s : State) (base size : Nat) : Keeps s (s.clearRange base size) :=
  Keeps.of_canonical rfl rfl rfl rfl rfl rfl fun c => { c with mem := s.clearRange_wf c.mem base size }

theorem State.lose_keeps (s : State) (base size : Nat) : Keeps s (s.lose base size) :=
  Keeps.of_canonical rfl rfl rfl rfl rfl rfl fun c => { c with mem := s.lose_wf c.mem base size }

theorem State.setCtx_keeps (s : State) (e k : Nat) (x : Ctx) : Keeps s (s.setCtx e k x) :=
  Keeps.of_canonical rfl rfl rfl rfl rfl rfl fun c => { c with ctxs := Swf_sput c.ctxs _ _ }

theorem State.setEng_keeps (s : State) (e : Nat) (x : Engine) : Keeps s (s.setEng e x) :=
  Keeps.of_canonical rfl rfl rfl rfl rfl rfl fun c => { c with engs := Swf_sput c.engs _ _ }

theorem State.setLane_keeps (s : State) (k : Nat) (x : Lane) : Keeps s (s.setLane k x) :=
  Keeps.of_canonical rfl rfl rfl rfl rfl rfl fun c => { c with lanes := Swf_sput c.lanes _ _ }

theorem State.setTmr_keeps (s : State) (n : Nat) (x : Tmr) : Keeps s (s.setTmr n x) :=
  Keeps.of_canonical rfl rfl rfl rfl rfl rfl fun c => { c with tmrs := Swf_sput c.tmrs _ _ }

theorem State.setBank_keeps (s : State) (b : Nat) (v : BankSt) : Keeps s (s.setBank b v) :=
  Keeps.of_canonical rfl rfl rfl rfl rfl rfl fun c => { c with banks := Swf_sput c.banks _ _ }

/-- Leaving banks out of the list, as a warm start does. -/
theorem Keeps.banks_filter {s0 s t : State} (h : Keeps s0 s) (p : Nat × BankSt → Bool)
    (e : t.view = ({ s with memc := { s.memc with banks := s.memc.banks.filter p } } : State).view) : Keeps s0 t :=
  Keeps.upd (h.transS (Keeps.of_canonical (t := { s with memc := { s.memc with banks := s.memc.banks.filter p } })
    rfl rfl rfl rfl rfl rfl fun c => { c with banks := Swf_filter c.banks p })) e

/-- Registers that keep some bits and hold their Reset words otherwise. -/
theorem Swf_keepBits (m : Nat → Word) {rs : List (Nat × Word)} (h : Swf regReset rs) : Swf regReset (keepBits m rs) := by
  refine ⟨?_, fun q hq => ?_⟩
  · have hs : ((keepBits m rs).map Prod.fst).Sublist (rs.map Prod.fst) := by
      clear h
      unfold keepBits
      induction rs with
      | nil => simp
      | cons p r ih =>
        simp only [List.filterMap_cons]
        split
        · rename_i hn
          exact ih.trans (List.sublist_cons_self _ _)
        · rename_i q hn
          split at hn
          · cases hn
          · cases hn
            exact ih.cons_cons _
    exact h.1.sublist hs
  · unfold keepBits at hq
    obtain ⟨p, hp, hq⟩ := List.mem_filterMap.1 hq
    dsimp only at hq
    split at hq
    · cases hq
    · cases hq
      assumption

end Sys2Proof.Machine
end

