-- ==== Sys2Proof/Laws/KeepsBase.lean ====
section
/-! SUPPORT. `Keeps` of the shared operations, the collectors, the epoch, the RFE, the engines, the banks and the writes by class: each keeps the queue, the canonical form and legal modes. -/

namespace Sys2Proof.Machine

theorem State.put_keeps (s0 : State) (b1 : Field) (b2 : Nat) : Keeps s0 (State.put s0 b1 b2) := by
  have h0 := Keeps.refl s0
  unfold State.put
  exact Keeps.transS h0 (State.setReg_keeps _ _ _)

theorem State.count_keeps (s0 : State) (b1 : Field) : Keeps s0 (State.count s0 b1) := by
  have h0 := Keeps.refl s0
  unfold State.count
  exact Keeps.transS h0 (State.put_keeps _ _ _)

theorem State.muddy_keeps (s0 : State) (b1 : Nat) (b2 : Nat) : Keeps s0 (State.muddy s0 b1 b2) := by
  have h0 := Keeps.refl s0
  unfold State.muddy
  extract_lets -merge +onlyGivenNames x1
  try clear_value x1
  exact keepsS_ite (Keeps.transS h0 (State.lose_keeps _ _ _)) h0

theorem State.latch_keeps (s0 : State) (b1 : Nat) (b2 : Nat) (b3 : Nat) : Keeps s0 (State.latch s0 b1 b2 b3) := by
  have h0 := Keeps.refl s0
  unfold State.latch
  exact Keeps.transS h0 (State.setCtx_keeps _ _ _ _)

theorem State.setCore_keeps (s0 : State) (b1 : CoreId) (b2 : Core) : Keeps s0 (State.setCore s0 b1 b2) := by
  have h0 := Keeps.refl s0
  unfold State.setCore
  split
  · exact Keeps.upd h0 rfl
  · exact Keeps.upd h0 rfl

theorem State.respond_keeps (s0 : State) (b1 : Agent) (b2 : Response) : Keeps s0 (State.respond s0 b1 b2) := by
  have h0 := Keeps.refl s0
  unfold State.respond
  split
  · extract_lets -merge +onlyGivenNames x1
    try clear_value x1
    exact Keeps.upd h0 rfl
  · extract_lets -merge +onlyGivenNames x2
    try clear_value x2
    exact Keeps.upd h0 rfl
  · extract_lets -merge +onlyGivenNames x3
    try clear_value x3
    exact Keeps.upd h0 rfl
  · extract_lets -merge +onlyGivenNames x4
    try clear_value x4
    exact Keeps.upd h0 rfl

theorem State.wakeBank_keeps (s0 : State) (b1 : Nat) : Keeps s0 (State.wakeBank s0 b1) := by
  have h0 := Keeps.refl s0
  unfold State.wakeBank
  split
  · extract_lets -merge +onlyGivenNames x1
    have hx1 : Keeps s0 x1 := by unfold x1; exact Keeps.transS h0 (State.setBank_keeps _ _ _)
    clear_value x1; revert x1 hx1; refine Keeps.gen fun x1 hx1 => ?_
    extract_lets -merge +onlyGivenNames x2 x3
    have hx3 : Keeps s0 x3 := by unfold x3; exact Keeps.upd hx1 rfl
    clear_value x3; revert x3 hx3; refine Keeps.gen fun x3 hx3 => ?_
    exact keepsS_ite (keepsS_ite (Keeps.transS hx3 (State.put_keeps _ _ _)) (Keeps.transS hx3 (State.put_keeps _ _ _))) h0
  · exact h0

theorem State.wakeRange_keeps (s0 : State) (b1 : Nat) (b2 : Nat) : Keeps s0 (State.wakeRange s0 b1 b2) := by
  have h0 := Keeps.refl s0
  unfold State.wakeRange
  refine foldl_keeps ?_ ?_
  · exact h0
  · intro x1 x2 hx1
    try beta_reduce
    exact keepsS_ite (Keeps.transS hx1 (State.wakeBank_keeps _ _)) hx1

theorem State.setIcol_keeps (s0 : State) (b1 : CoreId) (b2 : Icol) : Keeps s0 (State.setIcol s0 b1 b2) := by
  have h0 := Keeps.refl s0
  unfold State.setIcol
  split
  · exact Keeps.upd h0 rfl
  · exact Keeps.upd h0 rfl

theorem State.postRaw_keeps (s0 : State) (b1 : CoreId) (b2 : Nat) (b3 : Nat) (b4 : Bool) (b5 : Word) (b6 : Word) : Keeps s0 (State.postRaw s0 b1 b2 b3 b4 b5 b6) := by
  have h0 := Keeps.refl s0
  unfold State.postRaw
  extract_lets -merge +onlyGivenNames x1
  try clear_value x1
  exact Keeps.transS h0 (State.setIcol_keeps _ _ _)

theorem State.postTo_keeps (s0 : State) (b1 : CoreId) (b2 : Nat) (b3 : Word) (b4 : Word) : Keeps s0 (State.postTo s0 b1 b2 b3 b4) := by
  have h0 := Keeps.refl s0
  unfold State.postTo
  exact Keeps.transS h0 (State.postRaw_keeps _ _ _ _ _ _ _)

theorem State.invalidateBoth_keeps (s0 : State) (b1 : Nat) (b2 : Nat) : Keeps s0 (State.invalidateBoth s0 b1 b2) := by
  have h0 := Keeps.refl s0
  unfold State.invalidateBoth
  exact Keeps.upd h0 rfl

theorem State.fresh_keeps (s0 : State) : Keeps s0 (State.fresh s0) := by
  have h0 := Keeps.refl s0
  unfold State.fresh
  exact Keeps.upd h0 rfl

theorem State.snoopBoth_keeps (s0 : State) (b1 : Nat) (b2 : Nat) : Keeps s0 (State.snoopBoth s0 b1 b2) := by
  have h0 := Keeps.refl s0
  unfold State.snoopBoth
  exact Keeps.upd h0 rfl

theorem State.devWrite_keeps (s0 : State) (b1 : Nat) (b2 : List Byte) : Keeps s0 (State.devWrite s0 b1 b2) := by
  have h0 := Keeps.refl s0
  unfold State.devWrite
  extract_lets -merge +onlyGivenNames x1
  try clear_value x1
  extract_lets -merge +onlyGivenNames x2
  have hx2 : Keeps s0 x2 := by unfold x2; exact Keeps.transS h0 (State.wakeRange_keeps _ _ _)
  clear_value x2; revert x2 hx2; refine Keeps.gen fun x2 hx2 => ?_
  extract_lets -merge +onlyGivenNames x3
  have hx3 : Keeps s0 x3 := by
    unfold x3
    refine keepsS_ite ?_ ?_
    · exact Keeps.transS hx2 (State.setBytes_keeps _ _ _)
    · refine foldl_keeps ?_ ?_
      · exact hx2
      · intro x4 x5 hx4
        try beta_reduce
        exact keepsS_ite (Keeps.transS hx4 (State.setByte_keeps _ _ _)) hx4
  clear_value x3; revert x3 hx3; refine Keeps.gen fun x3 hx3 => ?_
  exact Keeps.transS (Keeps.transS hx3 (State.snoopBoth_keeps _ _ _)) (State.muddy_keeps _ _ _)

theorem State.txqOverlap_keeps (s0 : State) : Keeps s0 (State.txqOverlap s0) := by
  have h0 := Keeps.refl s0
  unfold State.txqOverlap
  exact keepsS_ite (Keeps.transS h0 (State.lose_keeps _ _ _)) h0

theorem State.resetSeen_keeps (s0 : State) (b1 : CoreId) : Keeps s0 (State.resetSeen s0 b1) := by
  have h0 := Keeps.refl s0
  unfold State.resetSeen
  exact Keeps.upd h0 rfl

theorem State.latchAll_keeps (s0 : State) (b1 : Nat) : Keeps s0 (State.latchAll s0 b1) := by
  have h0 := Keeps.refl s0
  unfold State.latchAll
  refine forN_keeps ?_ ?_
  · exact h0
  · intro x1 x2 hx1
    try beta_reduce
    refine keepsS_ite ?_ ?_
    · refine forN_keeps ?_ ?_
      · exact hx1
      · intro x3 x4 hx3
        try beta_reduce
        exact Keeps.transS hx3 (State.latch_keeps _ _ _ _)
    · exact hx1

theorem State.postBoth_keeps (s0 : State) (b1 : Nat) (b2 : Word) (b3 : Word) : Keeps s0 (State.postBoth s0 b1 b2 b3) := by
  have h0 := Keeps.refl s0
  unfold State.postBoth
  exact Keeps.transS (Keeps.transS h0 (State.postTo_keeps _ _ _ _ _)) (State.postTo_keeps _ _ _ _ _)

theorem State.carryOn_keeps (s0 : State) : Keeps s0 (State.carryOn s0) := by
  have h0 := Keeps.refl s0
  unfold State.carryOn
  extract_lets -merge +onlyGivenNames x1
  try clear_value x1
  extract_lets -merge +onlyGivenNames x2
  try clear_value x2
  exact Keeps.upd h0 rfl

theorem State.advance_keeps (s0 : State) (t : Nat) : Keeps s0 (s0.advance t) := by
  refine (Keeps.refl s0).pwr rfl ?_
  unfold State.advance
  dsimp only
  split <;> exact ⟨rfl, rfl, rfl, rfl, rfl⟩

theorem State.markBusy_keeps (s0 : State) (b1 : Nat) : Keeps s0 (State.markBusy s0 b1) := by
  have h0 := Keeps.refl s0
  unfold State.markBusy
  extract_lets -merge +onlyGivenNames x1
  try clear_value x1
  extract_lets -merge +onlyGivenNames x2
  try clear_value x2
  extract_lets -merge +onlyGivenNames x3
  try clear_value x3
  refine keepsS_ite ?_ ?_
  · exact Keeps.upd h0 rfl
  · exact h0

theorem State.present_keeps (s0 : State) (b1 : Nat) : Keeps s0 (State.present s0 b1) := by
  have h0 := Keeps.refl s0
  unfold State.present
  extract_lets -merge +onlyGivenNames x1
  try clear_value x1
  exact Keeps.transS (Keeps.transS h0 (State.setWords_keeps _ _ _)) (State.muddy_keeps _ _ _)

theorem State.updLane_keeps (s0 : State) (b1 : Nat) (b2 : Lane) : Keeps s0 (State.updLane s0 b1 b2) := by
  have h0 := Keeps.refl s0
  unfold State.updLane
  exact Keeps.transS (Keeps.transS h0 (State.setLane_keeps _ _ _)) (State.present_keeps _ _)

theorem State.deposit_keeps (s0 : State) (b1 : Nat) : Keeps s0 (State.deposit s0 b1) := by
  have h0 := Keeps.refl s0
  unfold State.deposit
  extract_lets -merge +onlyGivenNames x1
  try clear_value x1
  split
  · extract_lets -merge +onlyGivenNames x2
    try clear_value x2
    extract_lets -merge +onlyGivenNames x3
    have hx3 : Keeps s0 x3 := by unfold x3; exact Keeps.transS (Keeps.transS h0 (State.setBytes_keeps _ _ _)) (State.muddy_keeps _ _ _)
    clear_value x3; revert x3 hx3; refine Keeps.gen fun x3 hx3 => ?_
    exact keepsS_ite h0 (Keeps.transS hx3 (State.updLane_keeps _ _ _))
  · exact h0

theorem State.ackWithdraw_keeps (s0 : State) (b1 : Nat) (b2 : Frame) : Keeps1 s0 (State.ackWithdraw s0 b1 b2) := by
  have h0 := Keeps.refl s0
  unfold State.ackWithdraw
  refine keeps1_ite ?_ ?_
  · refine keeps1_mk ?_
    exact Keeps.transS h0 (State.latch_keeps _ _ _ _)
  · refine keeps1_mk ?_
    exact h0

theorem State.spHunt_keeps (s0 : State) (b1 : Nat) : Keeps s0 (State.spHunt s0 b1) := by
  have h0 := Keeps.refl s0
  unfold State.spHunt
  extract_lets -merge +onlyGivenNames x1
  try clear_value x1
  refine keepsS_ite ?_ ?_
  · exact Keeps.upd h0 rfl
  · exact h0

theorem State.laneRest_keeps (s0 : State) (b1 : Nat) : Keeps s0 (State.laneRest s0 b1) := by
  have h0 := Keeps.refl s0
  unfold State.laneRest
  extract_lets -merge +onlyGivenNames x1
  have hx1 : Keeps s0 x1 := by unfold x1; exact Keeps.transS (Keeps.transS h0 (State.markBusy_keeps _ _)) (State.spHunt_keeps _ _)
  clear_value x1; revert x1 hx1; refine Keeps.gen fun x1 hx1 => ?_
  exact Keeps.transS hx1 (State.updLane_keeps _ _ _)

theorem State.abortLane_keeps (s0 : State) (b1 : Nat) (b2 : Nat) (b3 : Bool) : Keeps s0 (State.abortLane s0 b1 b2 b3) := by
  have h0 := Keeps.refl s0
  unfold State.abortLane
  extract_lets -merge +onlyGivenNames x1
  have hx1 : Keeps s0 x1 := by unfold x1; exact Keeps.transS (Keeps.transS h0 (State.deposit_keeps _ _)) (State.markBusy_keeps _ _)
  clear_value x1; revert x1 hx1; refine Keeps.gen fun x1 hx1 => ?_
  extract_lets -merge +onlyGivenNames x2
  try clear_value x2
  split
  · split
    · rename_i heq
      have hx3 := keeps1_of heq (s0 := s0) (by
          exact Keeps.trans1 hx1 (State.ackWithdraw_keeps _ _ _)
        )
      extract_lets -merge +onlyGivenNames x4
      try clear_value x4
      exact Keeps.transS (Keeps.transS (Keeps.transS hx3 (State.setLane_keeps _ _ _)) (State.latch_keeps _ _ _ _)) (State.laneRest_keeps _ _)
  · refine keepsS_ite ?_ ?_
    · exact Keeps.transS (Keeps.transS (Keeps.transS hx1 (State.setLane_keeps _ _ _)) (State.latch_keeps _ _ _ _)) (State.laneRest_keeps _ _)
    · exact hx1

theorem State.silence_keeps (s0 : State) (b1 : Nat) : Keeps s0 (State.silence s0 b1) := by
  have h0 := Keeps.refl s0
  unfold State.silence
  extract_lets -merge +onlyGivenNames x1
  have hx1 : Keeps s0 x1 := by unfold x1; exact Keeps.transS (Keeps.transS h0 (State.markBusy_keeps _ _)) (State.spHunt_keeps _ _)
  clear_value x1; revert x1 hx1; refine Keeps.gen fun x1 hx1 => ?_
  extract_lets -merge +onlyGivenNames x2
  try clear_value x2
  exact Keeps.transS hx1 (State.updLane_keeps _ _ _)

theorem State.depositAll_keeps (s0 : State) : Keeps s0 (State.depositAll s0) := by
  have h0 := Keeps.refl s0
  unfold State.depositAll
  refine foldl_keeps ?_ ?_
  · exact h0
  · intro x1 x2 hx1
    try beta_reduce
    exact Keeps.transS hx1 (State.deposit_keeps _ _)

theorem State.release_keeps (s0 : State) (b1 : Nat) (b2 : Frame) : Keeps s0 (State.release s0 b1 b2) := by
  have h0 := Keeps.refl s0
  unfold State.release
  extract_lets -merge +onlyGivenNames x1
  try clear_value x1
  exact Keeps.transS h0 (State.updLane_keeps _ _ _)

theorem State.takeCond_keeps (s0 : State) (b1 : Nat) (b2 : Nat) (b3 : Nat) : Keeps2 s0 (State.takeCond s0 b1 b2 b3) := by
  have h0 := Keeps.refl s0
  unfold State.takeCond
  extract_lets -merge +onlyGivenNames x1
  try clear_value x1
  extract_lets -merge +onlyGivenNames x2
  try clear_value x2
  extract_lets -merge +onlyGivenNames x3
  try clear_value x3
  extract_lets -merge +onlyGivenNames x4
  try clear_value x4
  refine keeps2_ite ?_ ?_
  · refine keeps2_mk ?_
    exact Keeps.transS h0 (State.setCtx_keeps _ _ _ _)
  · refine keeps2_mk ?_
    exact h0

theorem State.resumeCore_keeps (s0 : State) (b1 : CoreId) : Keeps s0 (State.resumeCore s0 b1) := by
  have h0 := Keeps.refl s0
  unfold State.resumeCore
  extract_lets -merge +onlyGivenNames x1
  try clear_value x1
  extract_lets -merge +onlyGivenNames x2
  have hx2 : Keeps s0 x2 := by unfold x2; exact Keeps.transS h0 (State.setCore_keeps _ _ _)
  clear_value x2; revert x2 hx2; refine Keeps.gen fun x2 hx2 => ?_
  extract_lets -merge +onlyGivenNames x3
  refine keepsS_ite ?_ ?_
  · exact Keeps.upd hx2 rfl
  · exact h0

theorem State.wakeTask_keeps (s0 : State) (b1 : Nat) : Keeps s0 (State.wakeTask s0 b1) := by
  have h0 := Keeps.refl s0
  unfold State.wakeTask
  extract_lets -merge +onlyGivenNames x1
  have hx1 : Keeps s0 x1 := by unfold x1; exact keepsS_ite (Keeps.transS h0 (State.resumeCore_keeps _ _)) h0
  clear_value x1; revert x1 hx1; refine Keeps.gen fun x1 hx1 => ?_
  extract_lets -merge +onlyGivenNames x2
  refine keepsS_ite ?_ ?_
  · exact keepsS_ite (Keeps.transS hx1 (State.resumeCore_keeps _ _)) hx1
  · exact Keeps.upd h0 rfl

theorem State.coalesce_keeps (s0 : State) (b1 : Nat) : Keeps s0 (State.coalesce s0 b1) := by
  have h0 := Keeps.refl s0
  unfold State.coalesce
  exact Keeps.transS h0 (State.count_keeps _ _)

theorem State.tmrBegin_keeps (s0 : State) (b1 : Nat) (b2 : Option Nat) : Keeps s0 (State.tmrBegin s0 b1 b2) := by
  have h0 := Keeps.refl s0
  unfold State.tmrBegin
  exact Keeps.transS h0 (State.setTmr_keeps _ _ _)

theorem State.tmrStartTask_keeps (s0 : State) (b1 : Nat) (b2 : Nat) : Keeps s0 (State.tmrStartTask s0 b1 b2) := by
  have h0 := Keeps.refl s0
  unfold State.tmrStartTask
  exact keepsS_ite h0 (Keeps.transS h0 (State.tmrBegin_keeps _ _ _))

theorem State.tmrStopTask_keeps (s0 : State) (b1 : Nat) : Keeps s0 (State.tmrStopTask s0 b1) := by
  have h0 := Keeps.refl s0
  unfold State.tmrStopTask
  exact Keeps.transS h0 (State.setTmr_keeps _ _ _)

theorem State.sadcServe_keeps (s0 : State) : Keeps s0 (State.sadcServe s0) := by
  have h0 := Keeps.refl s0
  unfold State.sadcServe
  split
  · exact Keeps.upd h0 rfl
  · exact h0

theorem State.sadcRequest_keeps (s0 : State) (b1 : Option Nat) : Keeps2 s0 (State.sadcRequest s0 b1) := by
  have h0 := Keeps.refl s0
  unfold State.sadcRequest
  extract_lets -merge +onlyGivenNames x1
  try clear_value x1
  extract_lets -merge +onlyGivenNames x2
  try clear_value x2
  extract_lets -merge +onlyGivenNames x3
  try clear_value x3
  refine keeps2_ite ?_ ?_
  · refine keeps2_mk ?_
    exact Keeps.upd h0 rfl
  · refine keeps2_mk ?_
    refine Keeps.transS ?_ (State.sadcServe_keeps _)
    exact Keeps.upd h0 rfl

theorem State.gpioToggle_keeps (s0 : State) (b1 : Nat) : Keeps s0 (State.gpioToggle s0 b1) := by
  have h0 := Keeps.refl s0
  unfold State.gpioToggle
  exact keepsS_ite (Keeps.transS h0 (State.put_keeps _ _ _)) h0

theorem State.input_keeps (s0 : State) (b1 : Nat) (b2 : Nat) (b3 : Nat) : Keeps s0 (State.input s0 b1 b2 b3) := by
  have h0 := Keeps.refl s0
  unfold State.input
  extract_lets -merge +onlyGivenNames x1
  try clear_value x1
  extract_lets -merge +onlyGivenNames x2
  try clear_value x2
  extract_lets -merge +onlyGivenNames x3
  try clear_value x3
  extract_lets -merge +onlyGivenNames x4
  try clear_value x4
  refine keepsS_ite ?_ ?_
  · refine keepsS_ite ?_ ?_
    · exact h0
    · refine keepsS_ite ?_ ?_
      · exact Keeps.transS (Keeps.transS h0 (State.setCtx_keeps _ _ _ _)) (State.coalesce_keeps _ _)
      · exact Keeps.transS h0 (State.setCtx_keeps _ _ _ _)
  · refine keepsS_ite ?_ ?_
    · exact keepsS_ite (Keeps.transS h0 (State.tmrStartTask_keeps _ _ _)) h0
    · refine keepsS_ite ?_ ?_
      · exact keepsS_ite (Keeps.transS h0 (State.tmrStopTask_keeps _ _)) h0
      · refine keepsS_ite ?_ ?_
        · refine keepsS_ite ?_ ?_
          · split
            · rename_i heq
              have hx5 := keeps2_of heq (s0 := s0) (by
                  exact Keeps.trans2 h0 (State.sadcRequest_keeps _ _)
                )
              exact keepsS_ite (Keeps.transS hx5 (State.coalesce_keeps _ _)) hx5
          · exact h0
        · exact keepsS_ite (keepsS_ite (Keeps.transS h0 (State.gpioToggle_keeps _ _)) h0) (keepsS_ite (Keeps.transS h0 (State.wakeTask_keeps _ _)) h0)

theorem State.publish_keeps (s0 : State) (b1 : Nat) (b2 : Nat) : Keeps s0 (State.publish s0 b1 b2) := by
  have h0 := Keeps.refl s0
  unfold State.publish
  extract_lets -merge +onlyGivenNames x1
  have hx1 : Keeps s0 x1 := by unfold x1; exact Keeps.transS h0 (State.put_keeps _ _ _)
  clear_value x1; revert x1 hx1; refine Keeps.gen fun x1 hx1 => ?_
  extract_lets -merge +onlyGivenNames x2
  have hx2 : Keeps s0 x2 := by
    unfold x2
    exact Keeps.transS (Keeps.transS (Keeps.transS hx1 (State.put_keeps _ _ _)) (State.put_keeps _ _ _)) (State.count_keeps _ _)
  clear_value x2; revert x2 hx2; refine Keeps.gen fun x2 hx2 => ?_
  extract_lets -merge +onlyGivenNames x3
  have hx3 : Keeps s0 x3 := by unfold x3; exact Keeps.transS h0 (State.put_keeps _ _ _)
  clear_value x3; revert x3 hx3; refine Keeps.gen fun x3 hx3 => ?_
  extract_lets -merge +onlyGivenNames x4
  have hx4 : Keeps s0 x4 := by unfold x4; exact keepsS_ite h0 (keepsS_ite (Keeps.transS hx3 (State.postBoth_keeps _ _ _ _)) hx3)
  clear_value x4; revert x4 hx4; refine Keeps.gen fun x4 hx4 => ?_
  exact keepsS_ite h0 (keepsS_ite (Keeps.transS hx2 (State.postBoth_keeps _ _ _ _)) (Keeps.transS hx4 (State.input_keeps _ _ _ _)))

theorem State.raiseHop_keeps (s0 : State) (b1 : Nat) (b2 : Nat) : Keeps s0 (State.raiseHop s0 b1 b2) := by
  have h0 := Keeps.refl s0
  unfold State.raiseHop
  extract_lets -merge +onlyGivenNames x1
  try clear_value x1
  extract_lets -merge +onlyGivenNames x2
  try clear_value x2
  extract_lets -merge +onlyGivenNames x3
  try clear_value x3
  extract_lets -merge +onlyGivenNames x4
  try clear_value x4
  extract_lets -merge +onlyGivenNames x5
  try clear_value x5
  refine keepsS_ite ?_ ?_
  · exact keepsS_ite (Keeps.transS h0 (State.setCtx_keeps _ _ _ _)) h0
  · refine keepsS_ite ?_ ?_
    · exact Keeps.transS h0 (State.setTmr_keeps _ _ _)
    · refine keepsS_ite ?_ ?_
      · refine keepsS_ite ?_ ?_
        · exact Keeps.trans2 h0 (State.sadcRequest_keeps _ _)
        · exact Keeps.upd h0 rfl
      · exact h0

theorem State.publishHw_keeps (s0 : State) (b1 : Nat) (b2 : Nat) : Keeps s0 (State.publishHw s0 b1 b2) := by
  have h0 := Keeps.refl s0
  unfold State.publishHw
  extract_lets -merge +onlyGivenNames x1
  try clear_value x1
  extract_lets -merge +onlyGivenNames x2
  have hx2 : Keeps s0 x2 := by unfold x2; exact Keeps.transS h0 (State.publish_keeps _ _ _)
  clear_value x2; revert x2 hx2; refine Keeps.gen fun x2 hx2 => ?_
  refine keepsS_ite ?_ ?_
  · exact Keeps.transS h0 (State.publish_keeps _ _ _)
  · refine keepsS_ite ?_ ?_
    · exact Keeps.transS (Keeps.transS h0 (State.raiseHop_keeps _ _ _)) (State.coalesce_keeps _ _)
    · exact Keeps.upd hx2 rfl

theorem State.output_keeps (s0 : State) (b1 : Nat) (b2 : Nat) : Keeps s0 (State.output s0 b1 b2) := by
  have h0 := Keeps.refl s0
  unfold State.output
  exact Keeps.transS h0 (State.publishHw_keeps _ _ _)

theorem State.tmrStartAt_keeps (s0 : State) (b1 : Nat) : Keeps s0 (State.tmrStartAt s0 b1) := by
  have h0 := Keeps.refl s0
  unfold State.tmrStartAt
  exact keepsS_ite h0 (Keeps.transS h0 (State.tmrBegin_keeps _ _ _))

theorem State.tmrStopAt_keeps (s0 : State) (b1 : Nat) : Keeps s0 (State.tmrStopAt s0 b1) := by
  have h0 := Keeps.refl s0
  unfold State.tmrStopAt
  exact Keeps.transS h0 (State.setTmr_keeps _ _ _)

theorem State.icolEoiWrite_keeps (s0 : State) (b1 : CoreId) : Keeps s0 (State.icolEoiWrite s0 b1) := by
  have h0 := Keeps.refl s0
  unfold State.icolEoiWrite
  extract_lets -merge +onlyGivenNames x1
  try clear_value x1
  split
  · exact Keeps.transS h0 (State.put_keeps _ _ _)
  · exact Keeps.transS h0 (State.setIcol_keeps _ _ _)

theorem State.icolTakeRead_keeps (s0 : State) (b1 : CoreId) : Keeps2 s0 (State.icolTakeRead s0 b1) := by
  have h0 := Keeps.refl s0
  unfold State.icolTakeRead
  split
  · refine keeps2_mk ?_
    exact h0
  · extract_lets -merge +onlyGivenNames x1
    try clear_value x1
    extract_lets -merge +onlyGivenNames x2
    try clear_value x2
    extract_lets -merge +onlyGivenNames x3
    try clear_value x3
    refine keeps2_mk ?_
    exact Keeps.transS h0 (State.setIcol_keeps _ _ _)

theorem State.wakeCtx_keeps (s0 : State) (b1 : Nat) (b2 : Nat) : Keeps s0 (State.wakeCtx s0 b1 b2) := by
  have h0 := Keeps.refl s0
  unfold State.wakeCtx
  extract_lets -merge +onlyGivenNames x1
  try clear_value x1
  split
  · exact keepsS_ite (Keeps.transS h0 (State.setCtx_keeps _ _ _ _)) h0
  · exact h0

theorem State.wakeEng_keeps (s0 : State) (b1 : Nat) : Keeps s0 (State.wakeEng s0 b1) := by
  have h0 := Keeps.refl s0
  unfold State.wakeEng
  refine keepsS_ite ?_ ?_
  · refine forN_keeps ?_ ?_
    · exact h0
    · intro x1 x2 hx1
      try beta_reduce
      exact Keeps.transS hx1 (State.wakeCtx_keeps _ _ _)
  · exact h0

theorem State.modStep_keeps (s0 : State) (b1 : CoreId) : Keeps s0 (State.modStep s0 b1) := by
  have h0 := Keeps.refl s0
  unfold State.modStep
  extract_lets -merge +onlyGivenNames x1
  try clear_value x1
  extract_lets -merge +onlyGivenNames x2
  try clear_value x2
  exact Keeps.transS h0 (State.setIcol_keeps _ _ _)

theorem State.modeNow_le (s : State) (l : s.legalMode) : s.modeNow ≤ 11 := by
  unfold State.modeNow
  split
  · rename_i m h
    have := l.forced m h
    omega
  · have := l.mode
    repeat' split
    all_goals omega

theorem State.modeStep_keeps (s0 : State) : Keeps s0 s0.modeStep := by
  unfold State.modeStep
  dsimp only
  refine keepsS_ite (Keeps.refl s0) ?_
  exact (Keeps.refl s0).modes rfl fun l => { l with mode := State.modeNow_le s0 l, prev := l.mode }

theorem State.wfiStep_keeps (s0 : State) (b1 : CoreId) : Keeps s0 (State.wfiStep s0 b1) := by
  have h0 := Keeps.refl s0
  unfold State.wfiStep
  exact keepsS_ite (Keeps.transS h0 (State.resumeCore_keeps _ _)) h0

theorem State.settle_keeps (s0 : State) : Keeps s0 (State.settle s0) := by
  have h0 := Keeps.refl s0
  unfold State.settle
  extract_lets -merge +onlyGivenNames x1
  have hx1 : Keeps s0 x1 := by
    unfold x1
    refine foldl_keeps ?_ ?_
    · exact h0
    · intro x2 x3 hx2
      try beta_reduce
      exact Keeps.transS hx2 (State.wakeEng_keeps _ _)
  clear_value x1; revert x1 hx1; refine Keeps.gen fun x1 hx1 => ?_
  extract_lets -merge +onlyGivenNames x4
  have hx4 : Keeps s0 x4 := by unfold x4; exact Keeps.transS (Keeps.transS hx1 (State.modStep_keeps _ _)) (State.modStep_keeps _ _)
  clear_value x4; revert x4 hx4; refine Keeps.gen fun x4 hx4 => ?_
  exact Keeps.transS (Keeps.transS (Keeps.transS hx4 (State.wfiStep_keeps _ _)) (State.wfiStep_keeps _ _)) (State.modeStep_keeps _)

theorem done_keeps (s0 : State) : KeepsO s0 (done s0) := by
  have h0 := Keeps.refl s0
  unfold done
  refine keepsO_next ?_
  exact Keeps.transS h0 (State.settle_keeps _)

theorem State.at__keeps (s0 : State) (b1 : Nat) : Keeps s0 (State.at_ s0 b1) := by
  have h0 := Keeps.refl s0
  unfold State.at_
  extract_lets -merge +onlyGivenNames x1
  have hx1 : Keeps s0 x1 := by unfold x1; exact Keeps.transS h0 (State.advance_keeps _ _)
  clear_value x1; revert x1 hx1; refine Keeps.gen fun x1 hx1 => ?_
  refine Keeps.transS ?_ (State.depositAll_keeps _)
  exact Keeps.upd hx1 rfl

theorem State.icolWrite_keeps (s0 : State) (b1 : CoreId) (b2 : Nat) (b3 : Nat) (b4 : Word) (b5 : Nat) (b6 : Word) (b7 : Word) : Keeps s0 (State.icolWrite s0 b1 b2 b3 b4 b5 b6 b7) := by
  have h0 := Keeps.refl s0
  unfold State.icolWrite
  extract_lets -merge +onlyGivenNames x1
  try clear_value x1
  extract_lets -merge +onlyGivenNames x2
  try clear_value x2
  extract_lets -merge +onlyGivenNames x3
  have hx3 : Keeps s0 x3 := by unfold x3; exact Keeps.transS h0 (State.devWrite_keeps _ _ _)
  clear_value x3; revert x3 hx3; refine Keeps.gen fun x3 hx3 => ?_
  extract_lets -merge +onlyGivenNames x4
  try clear_value x4
  exact Keeps.transS hx3 (State.setIcol_keeps _ _ _)

theorem State.icolFrompend_keeps (s0 : State) (b1 : CoreId) : Keeps s0 (State.icolFrompend s0 b1) := by
  have h0 := Keeps.refl s0
  unfold State.icolFrompend
  split
  · exact h0
  · extract_lets -merge +onlyGivenNames x1
    try clear_value x1
    extract_lets -merge +onlyGivenNames x2
    have hx2 : Keeps s0 x2 := by unfold x2; exact Keeps.transS h0 (State.icolWrite_keeps _ _ _ _ _ _ _ _)
    clear_value x2; revert x2 hx2; refine Keeps.gen fun x2 hx2 => ?_
    exact Keeps.transS (Keeps.transS hx2 (State.put_keeps _ _ _)) (State.setIcol_keeps _ _ _)

theorem State.icolHandle_keeps (s0 : State) (b1 : CoreId) (b2 : IPost) : Keeps s0 (State.icolHandle s0 b1 b2) := by
  have h0 := Keeps.refl s0
  unfold State.icolHandle
  extract_lets -merge +onlyGivenNames x1
  try clear_value x1
  extract_lets -merge +onlyGivenNames x2
  have hx2 : Keeps s0 x2 := by unfold x2; exact Keeps.transS h0 (State.icolWrite_keeps _ _ _ _ _ _ _ _)
  clear_value x2; revert x2 hx2; refine Keeps.gen fun x2 hx2 => ?_
  extract_lets -merge +onlyGivenNames x3
  try clear_value x3
  extract_lets -merge +onlyGivenNames x4
  have hx4 : Keeps s0 x4 := by unfold x4; exact Keeps.transS h0 (State.put_keeps _ _ _)
  clear_value x4; revert x4 hx4; refine Keeps.gen fun x4 hx4 => ?_
  extract_lets -merge +onlyGivenNames x5
  try clear_value x5
  extract_lets -merge +onlyGivenNames x6
  have hx6 : Keeps s0 x6 := by unfold x6; exact Keeps.transS hx4 (State.setIcol_keeps _ _ _)
  clear_value x6; revert x6 hx6; refine Keeps.gen fun x6 hx6 => ?_
  refine keepsS_ite ?_ ?_
  · exact keepsS_ite hx2 (Keeps.transS hx2 (State.setIcol_keeps _ _ _))
  · exact keepsS_ite (Keeps.transS (Keeps.transS hx6 (State.put_keeps _ _ _)) (State.count_keeps _ _)) hx6

theorem State.mergeWaits_keeps (s0 : State) (b1 : Nat) : Keeps s0 (State.mergeWaits s0 b1) := by
  have h0 := Keeps.refl s0
  unfold State.mergeWaits
  extract_lets -merge +onlyGivenNames x1
  try clear_value x1
  extract_lets -merge +onlyGivenNames x2
  have hx2 : Keeps s0 x2 := by unfold x2; exact Keeps.upd h0 rfl
  clear_value x2; revert x2 hx2; refine Keeps.gen fun x2 hx2 => ?_
  refine foldl_keeps ?_ ?_
  · exact hx2
  · intro x3 x4 hx3
    try beta_reduce
    exact Keeps.transS hx3 (State.setReg_keeps _ _ _)

theorem State.digDirty_keeps (s0 : State) : Keeps s0 (State.digDirty s0) := by
  have h0 := Keeps.refl s0
  unfold State.digDirty
  extract_lets -merge +onlyGivenNames x1
  try clear_value x1
  exact Keeps.upd h0 rfl

theorem State.writeK_keeps (s0 : State) (b1 : Nat) (b2 : Word) : Keeps s0 (State.writeK s0 b1 b2) := by
  have h0 := Keeps.refl s0
  unfold State.writeK
  extract_lets -merge +onlyGivenNames x1
  try clear_value x1
  refine keepsS_ite ?_ ?_
  · exact keepsS_ite h0 (Keeps.transS (Keeps.transS h0 (State.setReg_keeps _ _ _)) (State.digDirty_keeps _))
  · exact Keeps.transS h0 (State.put_keeps _ _ _)

theorem State.writeS_keeps (s0 : State) (a : Nat) (v : Word) : Keeps s0 (s0.writeS a v) := by
  have h0 := Keeps.refl s0
  unfold State.writeS
  dsimp only
  refine keepsS_ite h0 (Keeps.transS ?_ (State.digDirty_keeps _))
  exact Keeps.of_canonical rfl rfl rfl rfl rfl rfl fun c => { c with shadow := Swf_sput c.shadow _ _ }

theorem State.addWait_keeps (s0 : State) (b1 : Nat) (b2 : Word) (b3 : Word) : Keeps s0 (State.addWait s0 b1 b2 b3) := by
  have h0 := Keeps.refl s0
  unfold State.addWait
  split
  · exact Keeps.upd h0 rfl

theorem State.mergeArmed_keeps (s0 : State) (b1 : Nat) : Keeps s0 (State.mergeArmed s0 b1) := by
  have h0 := Keeps.refl s0
  unfold State.mergeArmed
  extract_lets -merge +onlyGivenNames x1
  try clear_value x1
  extract_lets -merge +onlyGivenNames x2
  have hx2 : Keeps s0 x2 := by unfold x2; exact Keeps.upd h0 rfl
  clear_value x2; revert x2 hx2; refine Keeps.gen fun x2 hx2 => ?_
  extract_lets -merge +onlyGivenNames x3
  have hx3 : Keeps s0 x3 := by
    unfold x3
    refine foldl_keeps ?_ ?_
    · exact hx2
    · intro x4 x5 hx4
      try beta_reduce
      exact Keeps.transS hx4 (State.setReg_keeps _ _ _)
  clear_value x3; revert x3 hx3; refine Keeps.gen fun x3 hx3 => ?_
  extract_lets -merge +onlyGivenNames x6
  have hx6 : Keeps s0 x6 := by unfold x6; exact Keeps.transS hx3 (State.setReg_keeps _ _ _)
  clear_value x6; revert x6 hx6; refine Keeps.gen fun x6 hx6 => ?_
  extract_lets -merge +onlyGivenNames x7
  try clear_value x7
  refine keepsS_ite ?_ ?_
  · refine Keeps.transS ?_ (State.digDirty_keeps _)
    exact Keeps.upd hx6 rfl
  · exact h0

theorem State.wignClear_keeps (s0 : State) (b1 : Word) : Keeps s0 (State.wignClear s0 b1) := by
  have h0 := Keeps.refl s0
  unfold State.wignClear
  extract_lets -merge +onlyGivenNames x1
  have hx1 : Keeps s0 x1 := by
    unfold x1
    refine forN_keeps ?_ ?_
    · exact h0
    · intro x2 x3 hx2
      try beta_reduce
      exact keepsS_ite (Keeps.transS hx2 (State.put_keeps _ _ _)) hx2
  clear_value x1; revert x1 hx1; refine Keeps.gen fun x1 hx1 => ?_
  extract_lets -merge +onlyGivenNames x4
  have hx4 : Keeps s0 x4 := by unfold x4; exact keepsS_ite (Keeps.transS hx1 (State.put_keeps _ _ _)) hx1
  clear_value x4; revert x4 hx4; refine Keeps.gen fun x4 hx4 => ?_
  extract_lets -merge +onlyGivenNames x5
  have hx5 : Keeps s0 x5 := by unfold x5; exact keepsS_ite (Keeps.transS hx4 (State.put_keeps _ _ _)) hx4
  clear_value x5; revert x5 hx5; refine Keeps.gen fun x5 hx5 => ?_
  extract_lets -merge +onlyGivenNames x6
  have hx6 : Keeps s0 x6 := by unfold x6; exact keepsS_ite (Keeps.transS hx5 (State.put_keeps _ _ _)) hx5
  clear_value x6; revert x6 hx6; refine Keeps.gen fun x6 hx6 => ?_
  extract_lets -merge +onlyGivenNames x7
  have hx7 : Keeps s0 x7 := by unfold x7; exact keepsS_ite (Keeps.transS hx6 (State.put_keeps _ _ _)) hx6
  clear_value x7; revert x7 hx7; refine Keeps.gen fun x7 hx7 => ?_
  extract_lets -merge +onlyGivenNames x8
  have hx8 : Keeps s0 x8 := by unfold x8; exact keepsS_ite (Keeps.transS hx7 (State.put_keeps _ _ _)) hx7
  clear_value x8; revert x8 hx8; refine Keeps.gen fun x8 hx8 => ?_
  exact Keeps.transS hx8 (State.setReg_keeps _ _ _)

theorem State.recompute_keeps (s0 : State) : Keeps s0 (State.recompute s0) := by
  have h0 := Keeps.refl s0
  unfold State.recompute
  extract_lets -merge +onlyGivenNames x1
  try clear_value x1
  exact Keeps.upd h0 rfl

theorem State.rf_keeps (s0 : State) (f : Rfe → Rfe) : Keeps s0 (State.rf s0 f) := Keeps.upd (Keeps.refl s0) rfl

theorem State.rfeTryStart_keeps (s0 : State) : Keeps s0 (State.rfeTryStart s0) := by
  have h0 := Keeps.refl s0
  unfold State.rfeTryStart
  exact keepsS_ite (Keeps.transS h0 (State.rf_keeps _ _)) h0

theorem State.txRelease_keeps (s0 : State) : Keeps s0 (State.txRelease s0) := by
  have h0 := Keeps.refl s0
  unfold State.txRelease
  exact Keeps.transS h0 (State.rf_keeps _ _)

theorem State.txstat_keeps (s0 : State) (b1 : Nat) (b2 : Nat) (b3 : Nat) : Keeps s0 (State.txstat s0 b1 b2 b3) := by
  have h0 := Keeps.refl s0
  unfold State.txstat
  exact Keeps.transS h0 (State.setReg_keeps _ _ _)

theorem State.refund_keeps (s0 : State) (b1 : Tx) : Keeps s0 (State.refund s0 b1) := by
  have h0 := Keeps.refl s0
  unfold State.refund
  extract_lets -merge +onlyGivenNames x1
  try clear_value x1
  exact Keeps.upd h0 rfl

theorem State.ackEnds_keeps (s0 : State) (b1 : Nat) (b2 : Ack) : Keeps s0 (State.ackEnds s0 b1 b2) := by
  have h0 := Keeps.refl s0
  unfold State.ackEnds
  extract_lets -merge +onlyGivenNames x1
  try clear_value x1
  extract_lets -merge +onlyGivenNames x2
  have hx2 : Keeps s0 x2 := by unfold x2; exact Keeps.transS h0 (State.setLane_keeps _ _ _)
  clear_value x2; revert x2 hx2; refine Keeps.gen fun x2 hx2 => ?_
  exact Keeps.transS hx2 (State.latch_keeps _ _ _ _)

theorem State.notify_keeps (s0 : State) (b1 : TxEntry) (b2 : Word) : Keeps s0 (State.notify s0 b1 b2) := by
  have h0 := Keeps.refl s0
  unfold State.notify
  extract_lets -merge +onlyGivenNames x1
  try clear_value x1
  exact keepsS_ite h0 (keepsS_ite (Keeps.transS h0 (State.setCtx_keeps _ _ _ _)) (Keeps.transS h0 (State.setCtx_keeps _ _ _ _)))

theorem State.complete_keeps (s0 : State) (b1 : Tx) (b2 : Nat) : Keeps s0 (State.complete s0 b1 b2) := by
  have h0 := Keeps.refl s0
  unfold State.complete
  extract_lets -merge +onlyGivenNames x1
  try clear_value x1
  extract_lets -merge +onlyGivenNames x2
  have hx2 : Keeps s0 x2 := by unfold x2; exact Keeps.transS h0 (State.txstat_keeps _ _ _ _)
  clear_value x2; revert x2 hx2; refine Keeps.gen fun x2 hx2 => ?_
  extract_lets -merge +onlyGivenNames x3
  have hx3 : Keeps s0 x3 := by unfold x3; exact keepsS_ite (Keeps.transS hx2 (State.refund_keeps _ _)) hx2
  clear_value x3; revert x3 hx3; refine Keeps.gen fun x3 hx3 => ?_
  split
  · exact keepsS_ite (Keeps.transS hx3 (State.ackEnds_keeps _ _ _)) hx3
  · extract_lets -merge +onlyGivenNames x4
    try clear_value x4
    extract_lets -merge +onlyGivenNames x5
    try clear_value x5
    extract_lets -merge +onlyGivenNames x6
    have hx6 : Keeps s0 x6 := by unfold x6; exact Keeps.transS hx3 (State.devWrite_keeps _ _ _)
    clear_value x6; revert x6 hx6; refine Keeps.gen fun x6 hx6 => ?_
    extract_lets -merge +onlyGivenNames x7
    have hx7 : Keeps s0 x7 := by unfold x7; exact Keeps.upd hx6 rfl
    clear_value x7; revert x7 hx7; refine Keeps.gen fun x7 hx7 => ?_
    extract_lets -merge +onlyGivenNames x8
    try clear_value x8
    extract_lets -merge +onlyGivenNames x9
    have hx9 : Keeps s0 x9 := by unfold x9; exact keepsS_ite (Keeps.transS hx7 (State.setCtx_keeps _ _ _ _)) hx7
    clear_value x9; revert x9 hx9; refine Keeps.gen fun x9 hx9 => ?_
    exact Keeps.transS hx9 (State.notify_keeps _ _ _)

theorem State.clampPwr_keeps (s0 : State) (b1 : Tx) : Keeps1 s0 (State.clampPwr s0 b1) := by
  have h0 := Keeps.refl s0
  unfold State.clampPwr
  extract_lets -merge +onlyGivenNames x1
  try clear_value x1
  refine keeps1_mk ?_
  exact keepsS_ite h0 (Keeps.transS h0 (State.put_keeps _ _ _))

theorem State.reqFor_keeps (s0 : State) (b1 : Tx) : Keeps s0 (State.reqFor s0 b1) := by
  have h0 := Keeps.refl s0
  unfold State.reqFor
  exact keepsS_ite (Keeps.transS h0 (State.rf_keeps _ _)) h0

theorem State.readDie_keeps (s0 : State) : Keeps s0 (State.readDie s0) := by
  have h0 := Keeps.refl s0
  unfold State.readDie
  exact Keeps.upd h0 rfl

theorem State.tuneTo_keeps (s0 : State) (b1 : Nat) (b2 : Bool) : Keeps s0 (State.tuneTo s0 b1 b2) := by
  have h0 := Keeps.refl s0
  unfold State.tuneTo
  extract_lets -merge +onlyGivenNames x1
  have hx1 : Keeps s0 x1 := by unfold x1; exact Keeps.transS h0 (State.readDie_keeps _)
  clear_value x1; revert x1 hx1; refine Keeps.gen fun x1 hx1 => ?_
  exact keepsS_ite (Keeps.transS hx1 (State.rf_keeps _ _)) (Keeps.transS hx1 (State.rf_keeps _ _))

theorem State.claimNow_keeps (s0 : State) (b1 : Tx) : Keeps s0 (State.claimNow s0 b1) := by
  have h0 := Keeps.refl s0
  unfold State.claimNow
  split
  · rename_i heq
    have hx1 := keeps1_of heq (s0 := s0) (by
        exact Keeps.trans1 h0 (State.clampPwr_keeps _ _)
      )
    extract_lets -merge +onlyGivenNames x2
    have hx2 : Keeps s0 x2 := by unfold x2; exact Keeps.transS hx1 (State.reqFor_keeps _ _)
    clear_value x2; revert x2 hx2; refine Keeps.gen fun x2 hx2 => ?_
    extract_lets -merge +onlyGivenNames x3
    try clear_value x3
    extract_lets -merge +onlyGivenNames x4
    try clear_value x4
    extract_lets -merge +onlyGivenNames x5
    have hx5 : Keeps s0 x5 := by unfold x5; exact Keeps.transS hx2 (State.rf_keeps _ _)
    clear_value x5; revert x5 hx5; refine Keeps.gen fun x5 hx5 => ?_
    refine keepsS_ite ?_ ?_
    · exact Keeps.transS hx1 (State.complete_keeps _ _ _)
    · refine keepsS_ite ?_ ?_
      · exact Keeps.transS hx1 (State.complete_keeps _ _ _)
      · refine keepsS_ite ?_ ?_
        · exact Keeps.transS hx5 (State.rf_keeps _ _)
        · exact Keeps.transS (Keeps.transS (Keeps.transS hx5 (State.tuneTo_keeps _ _ _)) (State.abortLane_keeps _ _ _ _)) (State.laneRest_keeps _ _)

theorem State.claimLoop_keeps (s0 : State) (n : Nat) : Keeps s0 (State.claimLoop s0 n) := by
  induction n generalizing s0 with
  | zero => exact Keeps.refl s0
  | succ n ih =>
    have h0 := Keeps.refl s0
    unfold State.claimLoop
    refine keepsS_ite h0 ?_
    split
    · exact h0
    · exact ((h0.transS (State.rf_keeps _ _)).transS (State.claimNow_keeps _ _)).transS (ih _)

theorem State.claimWaiting_keeps (s0 : State) : Keeps s0 (State.claimWaiting s0) := by
  have h0 := Keeps.refl s0
  unfold State.claimWaiting
  exact Keeps.transS h0 (State.claimLoop_keeps _ _)

theorem State.rfeStop_keeps (s0 : State) : Keeps s0 (State.rfeStop s0) := by
  have h0 := Keeps.refl s0
  unfold State.rfeStop
  extract_lets -merge +onlyGivenNames x1
  have hx1 : Keeps s0 x1 := by
    unfold x1
    split
    · exact Keeps.transS (Keeps.transS h0 (State.complete_keeps _ _ _)) (State.txRelease_keeps _)
    · exact h0
  clear_value x1; revert x1 hx1; refine Keeps.gen fun x1 hx1 => ?_
  extract_lets -merge +onlyGivenNames x2
  have hx2 : Keeps s0 x2 := by unfold x2; exact Keeps.transS hx1 (State.rf_keeps _ _)
  clear_value x2; revert x2 hx2; refine Keeps.gen fun x2 hx2 => ?_
  extract_lets -merge +onlyGivenNames x3
  have hx3 : Keeps s0 x3 := by unfold x3; exact Keeps.transS hx2 (State.abortLane_keeps _ _ _ _)
  clear_value x3; revert x3 hx3; refine Keeps.gen fun x3 hx3 => ?_
  extract_lets -merge +onlyGivenNames x4
  try clear_value x4
  exact Keeps.transS (Keeps.transS hx3 (State.updLane_keeps _ _ _)) (State.claimWaiting_keeps _)

theorem State.bgNext_keeps (s0 : State) : Keeps s0 (State.bgNext s0) := by
  have h0 := Keeps.refl s0
  unfold State.bgNext
  extract_lets -merge +onlyGivenNames x1
  split
  · exact h0
  · exact keepsS_ite (Keeps.transS h0 (State.rf_keeps _ _)) (Keeps.transS h0 (State.rf_keeps _ _))
  · split
    · exact Keeps.transS h0 (State.rf_keeps _ _)
    · exact Keeps.transS h0 (State.rf_keeps _ _)

theorem State.spOrIdle_keeps (s0 : State) : Keeps s0 (State.spOrIdle s0) := by
  have h0 := Keeps.refl s0
  unfold State.spOrIdle
  exact keepsS_ite (Keeps.transS h0 (State.tuneTo_keeps _ _ _)) (Keeps.transS (Keeps.transS h0 (State.rf_keeps _ _)) (State.bgNext_keeps _))

theorem State.synthFree_keeps (s0 : State) : Keeps s0 (State.synthFree s0) := by
  have h0 := Keeps.refl s0
  unfold State.synthFree
  extract_lets -merge +onlyGivenNames x1
  have hx1 : Keeps s0 x1 := by unfold x1; exact Keeps.transS (Keeps.transS h0 (State.rf_keeps _ _)) (State.claimWaiting_keeps _)
  clear_value x1; revert x1 hx1; refine Keeps.gen fun x1 hx1 => ?_
  exact keepsS_ite hx1 (Keeps.transS hx1 (State.spOrIdle_keeps _))

theorem State.spStop_keeps (s0 : State) : Keeps s0 (State.spStop s0) := by
  have h0 := Keeps.refl s0
  unfold State.spStop
  extract_lets -merge +onlyGivenNames x1
  have hx1 : Keeps s0 x1 := by unfold x1; exact Keeps.transS (Keeps.transS h0 (State.rf_keeps _ _)) (State.abortLane_keeps _ _ _ _)
  clear_value x1; revert x1 hx1; refine Keeps.gen fun x1 hx1 => ?_
  extract_lets -merge +onlyGivenNames x2
  try clear_value x2
  exact keepsS_ite (Keeps.transS (Keeps.transS hx1 (State.updLane_keeps _ _ _)) (State.synthFree_keeps _)) h0

theorem State.spApply_keeps (s0 : State) (b1 : Word) : Keeps s0 (State.spApply s0 b1) := by
  have h0 := Keeps.refl s0
  unfold State.spApply
  extract_lets -merge +onlyGivenNames x1
  try clear_value x1
  extract_lets -merge +onlyGivenNames x2
  have hx2 : Keeps s0 x2 := by unfold x2; exact Keeps.transS h0 (State.updLane_keeps _ _ _)
  clear_value x2; revert x2 hx2; refine Keeps.gen fun x2 hx2 => ?_
  refine keepsS_ite ?_ ?_
  · exact Keeps.transS h0 (State.spStop_keeps _)
  · refine keepsS_ite ?_ ?_
    · exact Keeps.transS (Keeps.transS h0 (State.put_keeps _ _ _)) (State.put_keeps _ _ _)
    · refine keepsS_ite ?_ ?_
      · exact Keeps.transS h0 (State.synthFree_keeps _)
      · exact keepsS_ite (Keeps.transS hx2 (State.tuneTo_keeps _ _ _)) (keepsS_ite (Keeps.transS h0 (State.rf_keeps _ _)) h0)

theorem State.agcFree_keeps (s0 : State) : Keeps s0 (State.agcFree s0) := by
  have h0 := Keeps.refl s0
  unfold State.agcFree
  extract_lets -merge +onlyGivenNames x1
  try clear_value x1
  exact Keeps.upd h0 rfl

theorem State.wiresTo_keeps (s0 : State) (b1 : Nat) : Keeps s0 (State.wiresTo s0 b1) := by
  have h0 := Keeps.refl s0
  unfold State.wiresTo
  exact Keeps.transS h0 (State.rf_keeps _ _)

theorem State.txCut_keeps (s0 : State) (b1 : Tx) (b2 : Nat) (b3 : Nat) : Keeps s0 (State.txCut s0 b1 b2 b3) := by
  have h0 := Keeps.refl s0
  unfold State.txCut
  extract_lets -merge +onlyGivenNames x1
  have hx1 : Keeps s0 x1 := by
    unfold x1
    exact Keeps.transS (Keeps.transS (Keeps.transS h0 (State.complete_keeps _ _ _)) (State.wiresTo_keeps _ _)) (State.agcFree_keeps _)
  clear_value x1; revert x1 hx1; refine Keeps.gen fun x1 hx1 => ?_
  exact Keeps.transS hx1 (State.rf_keeps _ _)

theorem State.txStop_keeps (s0 : State) : Keeps s0 (State.txStop s0) := by
  have h0 := Keeps.refl s0
  unfold State.txStop
  extract_lets -merge +onlyGivenNames x1
  try clear_value x1
  split
  · exact Keeps.transS (Keeps.transS h0 (State.txCut_keeps _ _ _ _)) (State.fresh_keeps _)
  · exact Keeps.transS (Keeps.transS h0 (State.txCut_keeps _ _ _ _)) (State.fresh_keeps _)
  · exact h0

theorem State.spBlock_keeps (s0 : State) : Keeps s0 (State.spBlock s0) := by
  have h0 := Keeps.refl s0
  unfold State.spBlock
  exact keepsS_ite (Keeps.transS (Keeps.transS (Keeps.transS h0 (State.put_keeps _ _ _)) (State.put_keeps _ _ _)) (State.spStop_keeps _)) h0

theorem State.blankStart_keeps (s0 : State) : Keeps s0 (State.blankStart s0) := by
  have h0 := Keeps.refl s0
  unfold State.blankStart
  extract_lets -merge +onlyGivenNames x1
  have hx1 : Keeps s0 x1 := by unfold x1; exact Keeps.transS h0 (State.rf_keeps _ _)
  clear_value x1; revert x1 hx1; refine Keeps.gen fun x1 hx1 => ?_
  extract_lets -merge +onlyGivenNames x2
  try clear_value x2
  extract_lets -merge +onlyGivenNames x3
  have hx3 : Keeps s0 x3 := by unfold x3; exact Keeps.upd hx1 rfl
  clear_value x3; revert x3 hx3; refine Keeps.gen fun x3 hx3 => ?_
  refine foldl_keeps ?_ ?_
  · exact hx3
  · intro x4 x5 hx4
    try beta_reduce
    extract_lets -merge +onlyGivenNames x6
    have hx6 : Keeps s0 x6 := by unfold x6; exact Keeps.transS hx4 (State.abortLane_keeps _ _ _ _)
    clear_value x6; revert x6 hx6; refine Keeps.gen fun x6 hx6 => ?_
    extract_lets -merge +onlyGivenNames x7
    try clear_value x7
    exact keepsS_ite hx4 (keepsS_ite (Keeps.transS hx6 (State.setLane_keeps _ _ _)) hx6)

theorem State.blankStop_keeps (s0 : State) : Keeps s0 (State.blankStop s0) := by
  have h0 := Keeps.refl s0
  unfold State.blankStop
  extract_lets -merge +onlyGivenNames x1
  try clear_value x1
  extract_lets -merge +onlyGivenNames x2
  have hx2 : Keeps s0 x2 := by unfold x2; exact Keeps.transS h0 (State.rf_keeps _ _)
  clear_value x2; revert x2 hx2; refine Keeps.gen fun x2 hx2 => ?_
  extract_lets -merge +onlyGivenNames x3
  try clear_value x3
  extract_lets -merge +onlyGivenNames x4
  have hx4 : Keeps s0 x4 := by unfold x4; exact Keeps.upd hx2 rfl
  clear_value x4; revert x4 hx4; refine Keeps.gen fun x4 hx4 => ?_
  refine foldl_keeps ?_ ?_
  · exact hx4
  · intro x5 x6 hx5
    try beta_reduce
    extract_lets -merge +onlyGivenNames x7
    try clear_value x7
    exact keepsS_ite (Keeps.transS hx5 (State.setLane_keeps _ _ _)) hx5

theorem State.calEntry_keeps (s0 : State) (b1 : Nat) : Keeps s0 (State.calEntry s0 b1) := by
  have h0 := Keeps.refl s0
  unfold State.calEntry
  extract_lets -merge +onlyGivenNames x1
  try clear_value x1
  exact Keeps.transS (Keeps.transS h0 (State.setReg_keeps _ _ _)) (State.fresh_keeps _)

theorem State.cancelHolder_keeps (s0 : State) (b1 : Tx) (b2 : Nat) : Keeps s0 (State.cancelHolder s0 b1 b2) := by
  have h0 := Keeps.refl s0
  unfold State.cancelHolder
  extract_lets -merge +onlyGivenNames x1
  have hx1 : Keeps s0 x1 := by unfold x1; exact Keeps.transS (Keeps.transS h0 (State.complete_keeps _ _ _)) (State.txRelease_keeps _)
  clear_value x1; revert x1 hx1; refine Keeps.gen fun x1 hx1 => ?_
  exact keepsS_ite (Keeps.transS hx1 (State.synthFree_keeps _)) (Keeps.transS hx1 (State.claimWaiting_keeps _))

theorem State.charge_keeps (s0 : State) (b1 : List (Nat × Nat)) (b2 : Nat) : Keeps s0 (State.charge s0 b1 b2) := by
  have h0 := Keeps.refl s0
  unfold State.charge
  extract_lets -merge +onlyGivenNames x1
  try clear_value x1
  exact Keeps.upd h0 rfl

theorem State.handOver_keeps (s0 : State) (b1 : Tx) : Keeps s0 (State.handOver s0 b1) := by
  have h0 := Keeps.refl s0
  unfold State.handOver
  extract_lets -merge +onlyGivenNames x1
  have hx1 : Keeps s0 x1 := by unfold x1; exact Keeps.transS h0 (State.rf_keeps _ _)
  clear_value x1; revert x1 hx1; refine Keeps.gen fun x1 hx1 => ?_
  exact Keeps.transS hx1 (State.claimWaiting_keeps _)

theorem State.synthNext_keeps (s0 : State) : Keeps s0 (State.synthNext s0) := by
  have h0 := Keeps.refl s0
  unfold State.synthNext
  split
  · exact Keeps.transS h0 (State.tuneTo_keeps _ _ _)
  · exact Keeps.transS h0 (State.synthFree_keeps _)

theorem State.carryThru_keeps (s0 : State) (n : Nat) : Keeps s0 (s0.carryThru n) := by
  have h := State.setWord_keeps s0 (rxWord n) (s0.word (0x21020000 + 64 * n + 0x10))
  exact h.upd (by simp only [State.carryThru, State.view, State.setWord_memc])

theorem State.groupRest_keeps (s0 : State) (b1 : Nat) : Keeps s0 (State.groupRest s0 b1) := by
  have h0 := Keeps.refl s0
  unfold State.groupRest
  refine forN_keeps ?_ ?_
  · exact h0
  · intro x1 x2 hx1
    try beta_reduce
    extract_lets -merge +onlyGivenNames x3
    try clear_value x3
    exact keepsS_ite hx1 (Keeps.transS hx1 (State.updLane_keeps _ _ _))

theorem State.envOn_keeps (s0 : State) : Keeps s0 (State.envOn s0) := by
  have h0 := Keeps.refl s0
  unfold State.envOn
  extract_lets -merge +onlyGivenNames x1
  try clear_value x1
  extract_lets -merge +onlyGivenNames x2
  try clear_value x2
  extract_lets -merge +onlyGivenNames x3
  have hx3 : Keeps s0 x3 := by unfold x3; exact Keeps.upd h0 rfl
  clear_value x3; revert x3 hx3; refine Keeps.gen fun x3 hx3 => ?_
  extract_lets -merge +onlyGivenNames x4 x5
  try clear_value x5
  refine keepsS_ite ?_ ?_
  · exact Keeps.upd hx3 rfl
  · exact Keeps.upd h0 rfl

theorem State.envApply_keeps (s0 : State) (old : Word) : Keeps s0 (s0.envApply old) := by
  have h0 := Keeps.refl s0
  have hg : ∀ {u : State} {f : Env → Env}, Keeps s0 u → Keeps s0 (forN 16 State.groupRest { u with env := f u.env }) := fun h =>
    forN_keeps (h.upd rfl) fun _ _ hu => hu.transS (State.groupRest_keeps _ _)
  have hd : ∀ b, Keeps s0 { s0 with start := { s0.start with deferEnv := b } } := fun b => h0.upd rfl
  have hx : ∀ {u : State}, Keeps s0 u → Keeps s0 (
      if u.flag Reg.ENV_CTL_SURVEY then
        (if u.env.st = .run then forN 16 State.groupRest { u with env := { u.env with survWait := true } } else u)
      else if bitOf old 1 && (u.env.st = .run || u.env.st = .survey) then
        forN 16 State.groupRest { u with env := { u.env with st := .run, survWait := false } }
      else u) := fun {u} h =>
    keepsS_ite (keepsS_ite (hg (f := fun e => { e with survWait := true }) h) h)
      (keepsS_ite (hg (f := fun e => { e with st := .run, survWait := false }) h) h)
  unfold State.envApply
  dsimp only
  apply hx
  refine keepsS_ite (keepsS_ite (keepsS_ite (hd _) (keepsS_ite h0 (State.envOn_keeps _))) h0) (keepsS_ite (hd _) ?_)
  exact hg (u := { s0 with start := { s0.start with deferEnv := false } }) (f := fun e => { e with st := .stopping, survWait := false }) (hd _)

theorem State.engStart_keeps (s0 : State) (b1 : Nat) : Keeps s0 (State.engStart s0 b1) := by
  have h0 := Keeps.refl s0
  unfold State.engStart
  extract_lets -merge +onlyGivenNames x1
  try clear_value x1
  extract_lets -merge +onlyGivenNames x2
  have hx2 : Keeps s0 x2 := by unfold x2; exact Keeps.transS h0 (State.setEng_keeps _ _ _)
  clear_value x2; revert x2 hx2; refine Keeps.gen fun x2 hx2 => ?_
  refine keepsS_ite ?_ ?_
  · exact Keeps.transS h0 (State.setEng_keeps _ _ _)
  · refine forN_keeps ?_ ?_
    · exact hx2
    · intro x3 x4 hx3
      try beta_reduce
      exact Keeps.transS hx3 (State.setCtx_keeps _ _ _ _)

theorem State.groupStart_keeps (s0 : State) (b1 : Nat) : Keeps s0 (State.groupStart s0 b1) := by
  have h0 := Keeps.refl s0
  unfold State.groupStart
  exact Keeps.transS (Keeps.transS h0 (State.engStart_keeps _ _)) (State.groupRest_keeps _ _)

theorem State.waitedStarts_keeps (s0 : State) : Keeps s0 (State.waitedStarts s0) := by
  have h0 := Keeps.refl s0
  unfold State.waitedStarts
  refine forN_keeps ?_ ?_
  · exact h0
  · intro x1 x2 hx1
    try beta_reduce
    extract_lets -merge +onlyGivenNames x3
    try clear_value x3
    extract_lets -merge +onlyGivenNames x4
    have hx4 : Keeps s0 x4 := by unfold x4; exact Keeps.transS hx1 (State.setEng_keeps _ _ _)
    clear_value x4; revert x4 hx4; refine Keeps.gen fun x4 hx4 => ?_
    refine keepsS_ite ?_ ?_
    · exact keepsS_ite (keepsS_ite (Keeps.transS hx4 (State.engStart_keeps _ _)) hx4) (keepsS_ite (Keeps.transS hx4 (State.groupStart_keeps _ _)) hx4)
    · exact hx1

theorem State.groupFree_keeps (s0 : State) (b1 : Nat) : Keeps s0 (State.groupFree s0 b1) := by
  have h0 := Keeps.refl s0
  unfold State.groupFree
  exact keepsS_ite (keepsS_ite (Keeps.transS h0 (State.groupRest_keeps _ _)) (Keeps.transS h0 (State.groupStart_keeps _ _))) h0

theorem State.freeGroups_keeps (s0 : State) (b1 : Nat) : Keeps s0 (State.freeGroups s0 b1) := by
  have h0 := Keeps.refl s0
  unfold State.freeGroups
  extract_lets -merge +onlyGivenNames x1
  try clear_value x1
  extract_lets -merge +onlyGivenNames x2
  have hx2 : Keeps s0 x2 := by unfold x2; exact Keeps.transS h0 (State.setReg_keeps _ _ _)
  clear_value x2; revert x2 hx2; refine Keeps.gen fun x2 hx2 => ?_
  refine forN_keeps ?_ ?_
  · exact hx2
  · intro x3 x4 hx3
    try beta_reduce
    exact keepsS_ite (Keeps.transS hx3 (State.groupFree_keeps _ _)) hx3

theorem State.holdGroups_keeps (s0 : State) (b1 : Nat) : Keeps s0 (State.holdGroups s0 b1) := by
  have h0 := Keeps.refl s0
  unfold State.holdGroups
  extract_lets -merge +onlyGivenNames x1
  have hx1 : Keeps s0 x1 := by unfold x1; exact Keeps.transS h0 (State.setReg_keeps _ _ _)
  clear_value x1; revert x1 hx1; refine Keeps.gen fun x1 hx1 => ?_
  refine forN_keeps ?_ ?_
  · exact hx1
  · intro x2 x3 hx2
    try beta_reduce
    exact keepsS_ite (Keeps.transS hx2 (State.groupRest_keeps _ _)) hx2

theorem State.releaseGroups_keeps (s0 : State) (b1 : Nat) : Keeps s0 (State.releaseGroups s0 b1) := by
  have h0 := Keeps.refl s0
  unfold State.releaseGroups
  extract_lets -merge +onlyGivenNames x1
  try clear_value x1
  refine keepsS_ite ?_ ?_
  · exact Keeps.transS (Keeps.transS h0 (State.put_keeps _ _ _)) (State.freeGroups_keeps _ _)
  · exact Keeps.transS h0 (State.freeGroups_keeps _ _)

theorem State.muteLane_keeps (s0 : State) (e c : Nat) : Keeps s0 (s0.muteLane e c) := by
  have h0 := Keeps.refl s0
  unfold State.muteLane
  split
  · exact h0
  · dsimp only
    refine Keeps.transS ?_ (State.silence_keeps _ _)
    split
    · rename_i tx _
      split
      · have h1 : Keeps s0 (s0.refund tx).txRelease := (State.refund_keeps _ _).transS (State.txRelease_keeps _)
        exact keepsS_ite (keepsS_ite (h1.transS (State.synthFree_keeps _)) (h1.transS (State.claimWaiting_keeps _))) h0
      · exact h0
    · exact h0

theorem State.restartCtx_keeps (s0 : State) (b1 : Nat) (b2 : Nat) : Keeps s0 (State.restartCtx s0 b1 b2) := by
  have h0 := Keeps.refl s0
  unfold State.restartCtx
  extract_lets -merge +onlyGivenNames x1
  try clear_value x1
  extract_lets -merge +onlyGivenNames x2
  have hx2 : Keeps s0 x2 := by unfold x2; exact keepsS_ite h0 (Keeps.transS h0 (State.muteLane_keeps _ _ _))
  clear_value x2; revert x2 hx2; refine Keeps.gen fun x2 hx2 => ?_
  extract_lets -merge +onlyGivenNames x3
  have hx3 : Keeps s0 x3 := by unfold x3; exact Keeps.transS hx2 (State.setCtx_keeps _ _ _ _)
  clear_value x3; revert x3 hx3; refine Keeps.gen fun x3 hx3 => ?_
  split
  · exact Keeps.transS hx3 (State.laneRest_keeps _ _)
  · exact hx3

theorem State.peerFault_keeps (s0 : State) (b1 : Nat) (b2 : Nat) : Keeps s0 (State.peerFault s0 b1 b2) := by
  have h0 := Keeps.refl s0
  unfold State.peerFault
  refine forN_keeps ?_ ?_
  · exact h0
  · intro x1 x2 hx1
    try beta_reduce
    exact keepsS_ite hx1 (Keeps.transS hx1 (State.latch_keeps _ _ _ _))

theorem State.faultCtx_keeps (s0 : State) (b1 : Nat) (b2 : Nat) (b3 : Nat) : Keeps s0 (State.faultCtx s0 b1 b2 b3) := by
  have h0 := Keeps.refl s0
  unfold State.faultCtx
  extract_lets -merge +onlyGivenNames x1
  try clear_value x1
  extract_lets -merge +onlyGivenNames x2
  try clear_value x2
  extract_lets -merge +onlyGivenNames x3
  try clear_value x3
  extract_lets -merge +onlyGivenNames x4
  have hx4 : Keeps s0 x4 := by unfold x4; exact Keeps.transS h0 (State.setCtx_keeps _ _ _ _)
  clear_value x4; revert x4 hx4; refine Keeps.gen fun x4 hx4 => ?_
  extract_lets -merge +onlyGivenNames x5
  have hx5 : Keeps s0 x5 := by unfold x5; exact Keeps.transS (Keeps.transS hx4 (State.muteLane_keeps _ _ _)) (State.peerFault_keeps _ _ _)
  clear_value x5; revert x5 hx5; refine Keeps.gen fun x5 hx5 => ?_
  extract_lets -merge +onlyGivenNames x6
  try clear_value x6
  extract_lets -merge +onlyGivenNames x7
  have hx7 : Keeps s0 x7 := by unfold x7; exact Keeps.transS (Keeps.transS hx5 (State.setReg_keeps _ _ _)) (State.postTo_keeps _ _ _ _ _)
  clear_value x7; revert x7 hx7; refine Keeps.gen fun x7 hx7 => ?_
  extract_lets -merge +onlyGivenNames x8
  try clear_value x8
  refine keepsS_ite ?_ ?_
  · exact Keeps.upd hx7 rfl
  · exact hx7

theorem State.engStop_keeps (s0 : State) (b1 : Nat) : Keeps s0 (State.engStop s0 b1) := by
  have h0 := Keeps.refl s0
  unfold State.engStop
  extract_lets -merge +onlyGivenNames x1
  try clear_value x1
  extract_lets -merge +onlyGivenNames x2
  have hx2 : Keeps s0 x2 := by unfold x2; exact Keeps.transS h0 (State.setEng_keeps _ _ _)
  clear_value x2; revert x2 hx2; refine Keeps.gen fun x2 hx2 => ?_
  refine forN_keeps ?_ ?_
  · exact hx2
  · intro x3 x4 hx3
    try beta_reduce
    extract_lets -merge +onlyGivenNames x5
    try clear_value x5
    exact keepsS_ite hx3 (Keeps.transS hx3 (State.setCtx_keeps _ _ _ _))

theorem State.envOff_keeps (s0 : State) : Keeps s0 (State.envOff s0) := by
  have h0 := Keeps.refl s0
  unfold State.envOff
  extract_lets -merge +onlyGivenNames x1
  try clear_value x1
  extract_lets -merge +onlyGivenNames x2
  have hx2 : Keeps s0 x2 := by unfold x2; exact Keeps.upd h0 rfl
  clear_value x2; revert x2 hx2; refine Keeps.gen fun x2 hx2 => ?_
  extract_lets -merge +onlyGivenNames x3 x4
  have hx4 : Keeps s0 x4 := by unfold x4; exact Keeps.upd hx2 rfl
  clear_value x4; revert x4 hx4; refine Keeps.gen fun x4 hx4 => ?_
  extract_lets -merge +onlyGivenNames x5
  have hx5 : Keeps s0 x5 := by
    unfold x5
    refine forN_keeps ?_ ?_
    · exact hx4
    · intro x6 x7 hx6
      try beta_reduce
      exact Keeps.transS hx6 (State.put_keeps _ _ _)
  clear_value x5; revert x5 hx5; refine Keeps.gen fun x5 hx5 => ?_
  refine forN_keeps ?_ ?_
  · exact hx5
  · intro x8 x9 hx8
    try beta_reduce
    exact Keeps.transS hx8 (State.groupRest_keeps _ _)

theorem State.groupsStart_keeps (s0 : State) : Keeps s0 (State.groupsStart s0) := by
  have h0 := Keeps.refl s0
  unfold State.groupsStart
  refine forN_keeps ?_ ?_
  · exact h0
  · intro x1 x2 hx1
    try beta_reduce
    exact keepsS_ite (Keeps.transS hx1 (State.groupStart_keeps _ _)) hx1

theorem State.groupStop_keeps (s0 : State) (b1 : Nat) : Keeps s0 (State.groupStop s0 b1) := by
  have h0 := Keeps.refl s0
  unfold State.groupStop
  exact Keeps.transS (Keeps.transS h0 (State.engStop_keeps _ _)) (State.groupRest_keeps _ _)

theorem State.haltCtx_keeps (s0 : State) (b1 : Nat) (b2 : Nat) : Keeps s0 (State.haltCtx s0 b1 b2) := by
  have h0 := Keeps.refl s0
  unfold State.haltCtx
  extract_lets -merge +onlyGivenNames x1
  have hx1 : Keeps s0 x1 := by unfold x1; exact Keeps.transS h0 (State.muteLane_keeps _ _ _)
  clear_value x1; revert x1 hx1; refine Keeps.gen fun x1 hx1 => ?_
  extract_lets -merge +onlyGivenNames x2
  try clear_value x2
  exact Keeps.transS hx1 (State.setCtx_keeps _ _ _ _)

theorem State.ballastUe_keeps (s0 : State) (a : Nat) : Keeps s0 (s0.ballastUe a) := by
  have h : Keeps s0 (((s0.count Reg.MEMC_BCNT_UE).put Reg.MEMC_STATUS_BUE 1).setReg Reg.MEMC_BERR (BitVec.ofNat 32 a)) :=
    ((State.count_keeps _ _).transS (State.put_keeps _ _ _)).transS (State.setReg_keeps _ _ _)
  unfold State.ballastUe
  generalize (((s0.count Reg.MEMC_BCNT_UE).put Reg.MEMC_STATUS_BUE 1).setReg Reg.MEMC_BERR (BitVec.ofNat 32 a)) = t at h
  exact (h.transS (State.postTo_keeps t .c0 146 (BitVec.ofNat 32 a) 2)).upd rfl

theorem State.bankMove_keeps (s0 : State) (b1 : Nat) (b2 : BankSt) : Keeps s0 (State.bankMove s0 b1 b2) := by
  have h0 := Keeps.refl s0
  unfold State.bankMove
  extract_lets -merge +onlyGivenNames x1
  refine keepsS_ite ?_ ?_
  · exact h0
  · exact Keeps.upd h0 rfl

theorem State.bankAsk_keeps (s0 : State) (b1 : Nat) (b2 : BankSt) : Keeps s0 (State.bankAsk s0 b1 b2) := by
  have h0 := Keeps.refl s0
  unfold State.bankAsk
  extract_lets -merge +onlyGivenNames x1
  refine keepsS_ite ?_ ?_
  · exact Keeps.upd h0 rfl
  · exact Keeps.transS h0 (State.bankMove_keeps _ _ _)

theorem State.bankApply_keeps (s0 : State) (b1 : Word) (b2 : Word) (b3 : Nat) (b4 : Nat) : Keeps s0 (State.bankApply s0 b1 b2 b3 b4) := by
  have h0 := Keeps.refl s0
  unfold State.bankApply
  refine forN_keeps ?_ ?_
  · exact h0
  · intro x1 x2 hx1
    try beta_reduce
    extract_lets -merge +onlyGivenNames x3
    try clear_value x3
    extract_lets -merge +onlyGivenNames x4
    try clear_value x4
    refine keepsS_ite ?_ ?_
    · exact hx1
    · refine keepsS_ite ?_ ?_
      · exact Keeps.transS (Keeps.transS hx1 (State.put_keeps _ _ _)) (State.put_keeps _ _ _)
      · exact Keeps.transS hx1 (State.bankAsk_keeps _ _ _)

theorem Pwr.goTo_sameMode (p : Pwr) (v pace : Nat) : (p.goTo v pace).sameMode p := by
  unfold Pwr.goTo
  dsimp only
  (repeat' split) <;> exact ⟨rfl, rfl, rfl, rfl, rfl⟩

theorem Pwr.settled_sameMode (p : Pwr) : p.settled.sameMode p := by
  unfold Pwr.settled
  dsimp only
  split
  · split <;> exact ⟨rfl, rfl, rfl, rfl, rfl⟩
  · exact ⟨rfl, rfl, rfl, rfl, rfl⟩

theorem Pwr.ask_sameMode (w : Pwr) (v p : Nat) : (w.ask v p).sameMode w := by
  have ht : ∀ v p, ({ w with vheld := none, pheld := none } : Pwr).goTo v p |>.sameMode w := fun v p =>
    Pwr.goTo_sameMode ({ w with vheld := none, pheld := none } : Pwr) v p
  unfold Pwr.ask
  dsimp only
  split
  · exact ht _ _
  · split
    · exact ht _ _
    · split
      · exact ht _ _
      · exact ⟨rfl, rfl, rfl, rfl, rfl⟩

theorem State.dvfsApply_keeps (s0 : State) : Keeps s0 s0.dvfsApply := by
  unfold State.dvfsApply
  dsimp only
  refine (Keeps.refl s0).pwr rfl ?_
  split
  · exact Pwr.ask_sameMode _ _ _
  · exact ⟨rfl, rfl, rfl, rfl, rfl⟩

theorem State.bankZero_keeps (s0 : State) (b1 : Nat) : Keeps s0 (State.bankZero s0 b1) := by
  have h0 := Keeps.refl s0
  unfold State.bankZero
  exact Keeps.transS (Keeps.transS h0 (State.clearRange_keeps _ _ _)) (State.setBank_keeps _ _ _)

theorem State.nvSee_keeps (s0 : State) (b1 : Nat) (b2 : Nat) : Keeps s0 (State.nvSee s0 b1 b2) := by
  have h0 := Keeps.refl s0
  unfold State.nvSee
  refine foldl_keeps ?_ ?_
  · exact h0
  · intro x1 x2 hx1
    try beta_reduce
    exact Keeps.transS hx1 (State.ballastUe_keeps _ _)

theorem State.bankReach_keeps (s0 : State) (b1 : Nat) (b2 : BankSt) : Keeps s0 (State.bankReach s0 b1 b2) := by
  have h0 := Keeps.refl s0
  unfold State.bankReach
  extract_lets -merge +onlyGivenNames x1
  have hx1 : Keeps s0 x1 := by unfold x1; exact Keeps.transS h0 (State.setBank_keeps _ _ _)
  clear_value x1; revert x1 hx1; refine Keeps.gen fun x1 hx1 => ?_
  exact keepsS_ite (Keeps.transS (Keeps.transS hx1 (State.lose_keeps _ _ _)) (State.invalidateBoth_keeps _ _ _)) hx1

theorem State.banksTo_keeps (s0 : State) (f : Nat → BankSt) : Keeps s0 (s0.banksTo f) := by
  unfold State.banksTo
  refine forN_keeps ?_ fun u i hu => ?_
  · exact Keeps.upd (Keeps.refl s0) rfl
  · exact keepsS_ite hu (hu.transS (State.bankReach_keeps _ _ _))

theorem State.bankFail_keeps (s0 : State) (b1 : Nat) : Keeps s0 (State.bankFail s0 b1) := by
  have h0 := Keeps.refl s0
  unfold State.bankFail
  exact Keeps.transS (Keeps.transS (Keeps.transS h0 (State.setReg_keeps _ _ _)) (State.setBank_keeps _ _ _)) (State.lose_keeps _ _ _)

theorem State.rtcSync_keeps (s0 : State) : Keeps s0 (State.rtcSync s0) := by
  have h0 := Keeps.refl s0
  unfold State.rtcSync
  extract_lets -merge +onlyGivenNames x1
  try clear_value x1
  extract_lets -merge +onlyGivenNames x2
  try clear_value x2
  exact Keeps.upd h0 rfl

theorem State.trimLoad_keeps (s0 : State) (b1 : ℤ) : Keeps s0 (State.trimLoad s0 b1) := by
  have h0 := Keeps.refl s0
  unfold State.trimLoad
  extract_lets -merge +onlyGivenNames x1
  try clear_value x1
  extract_lets -merge +onlyGivenNames x2
  have hx2 : Keeps s0 x2 := by unfold x2; exact Keeps.transS h0 (State.put_keeps _ _ _)
  clear_value x2; revert x2 hx2; refine Keeps.gen fun x2 hx2 => ?_
  exact keepsS_ite hx2 (Keeps.transS hx2 (State.put_keeps _ _ _))

theorem State.setAlm_keeps (s0 : State) (b1 : Nat) (b2 : Nat) : Keeps s0 (State.setAlm s0 b1 b2) := by
  have h0 := Keeps.refl s0
  unfold State.setAlm
  exact Keeps.transS (Keeps.transS h0 (State.setReg_keeps _ _ _)) (State.put_keeps _ _ _)

theorem State.almFire_keeps (s0 : State) (b1 : Nat) (b2 : Nat) (b3 : Bool) : Keeps s0 (State.almFire s0 b1 b2 b3) := by
  have h0 := Keeps.refl s0
  unfold State.almFire
  extract_lets -merge +onlyGivenNames x1
  try clear_value x1
  extract_lets -merge +onlyGivenNames x2
  try clear_value x2
  extract_lets -merge +onlyGivenNames x3
  have hx3 : Keeps s0 x3 := by unfold x3; exact Keeps.transS (Keeps.transS h0 (State.put_keeps _ _ _)) (State.put_keeps _ _ _)
  clear_value x3; revert x3 hx3; refine Keeps.gen fun x3 hx3 => ?_
  extract_lets -merge +onlyGivenNames x4
  have hx4 : Keeps s0 x4 := by unfold x4; exact keepsS_ite (Keeps.transS hx3 (State.put_keeps _ _ _)) (Keeps.transS hx3 (State.setAlm_keeps _ _ _))
  clear_value x4; revert x4 hx4; refine Keeps.gen fun x4 hx4 => ?_
  extract_lets -merge +onlyGivenNames x5 x6
  have hx6 : Keeps s0 x6 := by unfold x6; exact Keeps.upd hx4 rfl
  clear_value x6; revert x6 hx6; refine Keeps.gen fun x6 hx6 => ?_
  exact keepsS_ite hx6 (Keeps.transS hx6 (State.postBoth_keeps _ _ _ _))

theorem State.evlFresh_keeps (s0 : State) (b1 : Bool) : Keeps s0 (State.evlFresh s0 b1) := by
  have h0 := Keeps.refl s0
  unfold State.evlFresh
  refine keepsS_ite ?_ ?_
  · exact Keeps.upd h0 rfl
  · exact h0

theorem State.almFireAll_keeps (s0 : State) (b1 : List Nat) (b2 : Nat) (b3 : Bool) : Keeps s0 (State.almFireAll s0 b1 b2 b3) := by
  have h0 := Keeps.refl s0
  unfold State.almFireAll
  extract_lets -merge +onlyGivenNames x1
  have hx1 : Keeps s0 x1 := by
    unfold x1
    refine foldl_keeps ?_ ?_
    · exact h0
    · intro x2 x3 hx2
      try beta_reduce
      exact Keeps.transS hx2 (State.almFire_keeps _ _ _ _)
  clear_value x1; revert x1 hx1; refine Keeps.gen fun x1 hx1 => ?_
  refine keepsS_ite ?_ ?_
  · exact hx1
  · refine Keeps.transS ?_ (State.evlFresh_keeps _ _)
    refine foldl_keeps ?_ ?_
    · exact Keeps.transS hx1 (State.evlFresh_keeps _ _)
    · intro x4 x5 hx4
      try beta_reduce
      exact Keeps.transS hx4 (State.output_keeps _ _ _)

theorem State.rtcAdjust_keeps (s0 : State) (b1 : Nat) : Keeps s0 (State.rtcAdjust s0 b1) := by
  have h0 := Keeps.refl s0
  unfold State.rtcAdjust
  extract_lets -merge +onlyGivenNames x1
  try clear_value x1
  extract_lets -merge +onlyGivenNames x2
  try clear_value x2
  extract_lets -merge +onlyGivenNames x3
  have hx3 : Keeps s0 x3 := by unfold x3; exact Keeps.upd h0 rfl
  clear_value x3; revert x3 hx3; refine Keeps.gen fun x3 hx3 => ?_
  extract_lets -merge +onlyGivenNames x4
  try clear_value x4
  exact Keeps.transS hx3 (State.almFireAll_keeps _ _ _ _)

theorem State.rtcSetTo_keeps (s0 : State) (b1 : Nat) (b2 : Nat) : Keeps s0 (State.rtcSetTo s0 b1 b2) := by
  have h0 := Keeps.refl s0
  unfold State.rtcSetTo
  extract_lets -merge +onlyGivenNames x1
  have hx1 : Keeps s0 x1 := by unfold x1; exact Keeps.transS h0 (State.rtcAdjust_keeps _ _)
  clear_value x1; revert x1 hx1; refine Keeps.gen fun x1 hx1 => ?_
  extract_lets -merge +onlyGivenNames x2
  have hx2 : Keeps s0 x2 := by unfold x2; exact Keeps.transS hx1 (State.put_keeps _ _ _)
  clear_value x2; revert x2 hx2; refine Keeps.gen fun x2 hx2 => ?_
  extract_lets -merge +onlyGivenNames x3
  try clear_value x3
  exact Keeps.upd hx2 rfl

theorem State.snapRestore_keeps (s0 : State) : Keeps s0 s0.snapRestore := by
  unfold State.snapRestore
  extract_lets -merge +onlyGivenNames x1
  have h1 : Keeps s0 x1 := (State.nvSee_keeps _ _ _).transS (State.put_keeps _ _ _)
  clear_value x1
  split
  · exact h1
  · refine Keeps.transS ?_ (State.put_keeps _ _ _)
    refine Keeps.transS ?_ (State.put_keeps _ _ _)
    refine Keeps.transS ?_ (State.put_keeps _ _ _)
    exact h1.rtc _

theorem State.snapWrite_keeps (s0 : State) : Keeps s0 (State.snapWrite s0) := by
  have h0 := Keeps.refl s0
  unfold State.snapWrite
  extract_lets -merge +onlyGivenNames x1
  try clear_value x1
  extract_lets -merge +onlyGivenNames x2
  try clear_value x2
  extract_lets -merge +onlyGivenNames x3
  try clear_value x3
  extract_lets -merge +onlyGivenNames x4
  try clear_value x4
  extract_lets -merge +onlyGivenNames x5
  have hx5 : Keeps s0 x5 := by unfold x5; exact Keeps.transS (Keeps.transS h0 (State.nvSee_keeps _ _ _)) (State.setWords_keeps _ _ _)
  clear_value x5; revert x5 hx5; refine Keeps.gen fun x5 hx5 => ?_
  extract_lets -merge +onlyGivenNames x6 x7
  try clear_value x7
  exact Keeps.upd hx5 rfl

theorem State.ringApply_keeps (s0 : State) (b1 : State) (b2 : Nat) : Keeps s0 (State.ringApply s0 b1 b2) := by
  have h0 := Keeps.refl s0
  unfold State.ringApply
  exact keepsS_ite h0 (Keeps.transS (Keeps.transS h0 (State.put_keeps _ _ _)) (State.put_keeps _ _ _))

theorem State.trimApply_keeps (s0 : State) (b1 : State) : Keeps s0 (State.trimApply s0 b1) := by
  have h0 := Keeps.refl s0
  unfold State.trimApply
  exact keepsS_ite (Keeps.transS h0 (State.put_keeps _ _ _)) (Keeps.transS h0 (State.trimLoad_keeps _ _))

theorem State.coreStart_keeps (s0 : State) (b1 : CoreId) (b2 : Word) : Keeps s0 (State.coreStart s0 b1 b2) := by
  have h0 := Keeps.refl s0
  unfold State.coreStart
  extract_lets -merge +onlyGivenNames x1
  try clear_value x1
  extract_lets -merge +onlyGivenNames x2
  try clear_value x2
  extract_lets -merge +onlyGivenNames x3
  try clear_value x3
  extract_lets -merge +onlyGivenNames x4
  have hx4 : Keeps s0 x4 := by unfold x4; exact Keeps.transS (Keeps.transS h0 (State.setCore_keeps _ _ _)) (State.resetSeen_keeps _ _)
  clear_value x4; revert x4 hx4; refine Keeps.gen fun x4 hx4 => ?_
  extract_lets -merge +onlyGivenNames x5 x6
  try clear_value x6
  exact Keeps.upd hx4 rfl

theorem State.coreHold_keeps (s0 : State) (b1 : CoreId) : Keeps s0 (State.coreHold s0 b1) := by
  have h0 := Keeps.refl s0
  unfold State.coreHold
  extract_lets -merge +onlyGivenNames x1
  try clear_value x1
  exact Keeps.transS (Keeps.transS h0 (State.setCore_keeps _ _ _)) (State.resetSeen_keeps _ _)

theorem State.c1Apply_keeps (s0 : State) (b1 : State) : Keeps s0 (State.c1Apply s0 b1) := by
  have h0 := Keeps.refl s0
  unfold State.c1Apply
  split
  · exact keepsS_ite h0 (Keeps.transS h0 (State.coreStart_keeps _ _ _))
  · exact Keeps.transS h0 (State.coreHold_keeps _ _)
  · exact h0

theorem State.trngApply_keeps (s0 : State) (b1 : State) : Keeps s0 (State.trngApply s0 b1) := by
  have h0 := Keeps.refl s0
  unfold State.trngApply
  extract_lets -merge +onlyGivenNames x1
  try clear_value x1
  refine keepsS_ite ?_ ?_
  · exact h0
  · exact Keeps.upd h0 rfl

theorem State.wdtApply_keeps (s0 : State) (b1 : State) (b2 : Nat) : Keeps s0 (State.wdtApply s0 b1 b2) := by
  have h0 := Keeps.refl s0
  unfold State.wdtApply
  refine keepsS_ite ?_ ?_
  · refine keepsS_ite ?_ ?_
    · exact Keeps.upd h0 rfl
    · exact Keeps.upd h0 rfl
  · exact h0

theorem State.onApply_keeps (s0 : State) (b1 : State) (b2 : Nat) : Keeps s0 (State.onApply s0 b1 b2) := by
  have h0 := Keeps.refl s0
  unfold State.onApply
  extract_lets -merge +onlyGivenNames x1
  try clear_value x1
  refine keepsS_ite ?_ ?_
  · exact keepsS_ite (Keeps.transS h0 (State.groupRest_keeps _ _)) h0
  · split
    · extract_lets -merge +onlyGivenNames x2
      have hx2 : Keeps s0 x2 := by
        unfold x2
        exact keepsS_ite (keepsS_ite (Keeps.transS h0 (State.rfeTryStart_keeps _)) (keepsS_ite h0 (Keeps.transS h0 (State.rfeStop_keeps _)))) h0
      clear_value x2; revert x2 hx2; refine Keeps.gen fun x2 hx2 => ?_
      exact keepsS_ite (Keeps.transS hx2 (State.spApply_keeps _ _)) hx2
    · extract_lets -merge +onlyGivenNames x3
      have hx3 : Keeps s0 x3 := by unfold x3; exact keepsS_ite (Keeps.transS h0 (State.envApply_keeps _ _)) h0
      clear_value x3; revert x3 hx3; refine Keeps.gen fun x3 hx3 => ?_
      exact keepsS_ite (Keeps.transS hx3 (State.txqOverlap_keeps _)) hx3
    · extract_lets -merge +onlyGivenNames x4
      have hx4 : Keeps s0 x4 := by unfold x4; exact Keeps.transS (Keeps.transS h0 (State.ringApply_keeps _ _ _)) (State.ringApply_keeps _ _ _)
      clear_value x4; revert x4 hx4; refine Keeps.gen fun x4 hx4 => ?_
      extract_lets -merge +onlyGivenNames x5
      try clear_value x5
      refine keepsS_ite ?_ ?_
      · exact hx4
      · exact Keeps.upd hx4 rfl
    · extract_lets -merge +onlyGivenNames x6
      have hx6 : Keeps s0 x6 := by unfold x6; exact Keeps.transS h0 (State.bankApply_keeps _ _ _ _ _)
      clear_value x6; revert x6 hx6; refine Keeps.gen fun x6 hx6 => ?_
      exact Keeps.transS hx6 (State.bankApply_keeps _ _ _ _ _)
    · exact keepsS_ite (Keeps.transS h0 (State.dvfsApply_keeps _)) h0
    · exact keepsS_ite (Keeps.transS h0 (State.trimApply_keeps _ _)) h0
    · exact keepsS_ite (Keeps.transS h0 (State.c1Apply_keeps _ _)) h0
    · exact Keeps.transS (Keeps.transS (Keeps.transS h0 (State.wdtApply_keeps _ _ _)) (State.wdtApply_keeps _ _ _)) (State.trngApply_keeps _ _)
    · exact h0

theorem State.coreReset_keeps (s0 : State) (b1 : CoreId) : Keeps s0 (State.coreReset s0 b1) := by
  have h0 := Keeps.refl s0
  unfold State.coreReset
  exact keepsS_ite h0 (Keeps.transS h0 (State.coreStart_keeps _ _ _))

theorem State.applyUnit_keeps (s0 : State) (b1 : Nat) : Keeps s0 (State.applyUnit s0 b1) := by
  have h0 := Keeps.refl s0
  unfold State.applyUnit
  exact Keeps.transS (Keeps.transS (Keeps.transS h0 (State.mergeWaits_keeps _ _)) (State.mergeArmed_keeps _ _)) (State.onApply_keeps _ _ _)

theorem State.epochSwitch_keeps (s0 : State) (b1 : Option Nat) : Keeps s0 (State.epochSwitch s0 b1) := by
  have h0 := Keeps.refl s0
  unfold State.epochSwitch
  extract_lets -merge +onlyGivenNames x1
  have hx1 : Keeps s0 x1 := by unfold x1; exact Keeps.transS h0 (State.put_keeps _ _ _)
  clear_value x1; revert x1 hx1; refine Keeps.gen fun x1 hx1 => ?_
  extract_lets -merge +onlyGivenNames x2
  try clear_value x2
  extract_lets -merge +onlyGivenNames x3
  try clear_value x3
  extract_lets -merge +onlyGivenNames x4
  have hx4 : Keeps s0 x4 := by
    unfold x4
    refine Keeps.transS ?_ (State.setReg_keeps _ _ _)
    exact Keeps.upd hx1 rfl
  clear_value x4; revert x4 hx4; refine Keeps.gen fun x4 hx4 => ?_
  extract_lets -merge +onlyGivenNames x5
  have hx5 : Keeps s0 x5 := by unfold x5; exact Keeps.transS hx4 (State.latchAll_keeps _ _)
  clear_value x5; revert x5 hx5; refine Keeps.gen fun x5 hx5 => ?_
  extract_lets -merge +onlyGivenNames x6
  have hx6 : Keeps s0 x6 := by
    unfold x6
    refine forN_keeps ?_ ?_
    · exact hx5
    · intro x7 x8 hx7
      try beta_reduce
      exact keepsS_ite (Keeps.transS hx7 (State.applyUnit_keeps _ _)) hx7
  clear_value x6; revert x6 hx6; refine Keeps.gen fun x6 hx6 => ?_
  extract_lets -merge +onlyGivenNames x9
  try clear_value x9
  exact Keeps.upd hx6 rfl

theorem State.afterPend_keeps (s0 : State) (b1 : Option Nat) : Keeps s0 (State.afterPend s0 b1) := by
  have h0 := Keeps.refl s0
  unfold State.afterPend
  split
  · extract_lets -merge +onlyGivenNames x1
    try clear_value x1
    extract_lets -merge +onlyGivenNames x2
    have hx2 : Keeps s0 x2 := by
      unfold x2
      refine Keeps.transS ?_ (State.epochSwitch_keeps _ _)
      exact Keeps.upd h0 rfl
    clear_value x2; revert x2 hx2; refine Keeps.gen fun x2 hx2 => ?_
    exact keepsS_ite (keepsS_ite (Keeps.transS hx2 (State.put_keeps _ _ _)) hx2) h0
  · exact h0

theorem State.writeL_keeps (s0 : State) (b1 : Nat) (b2 : Word) (b3 : Word) : Keeps s0 (State.writeL s0 b1 b2 b3) := by
  have h0 := Keeps.refl s0
  unfold State.writeL
  extract_lets -merge +onlyGivenNames x1
  try clear_value x1
  extract_lets -merge +onlyGivenNames x2
  try clear_value x2
  extract_lets -merge +onlyGivenNames x3
  have hx3 : Keeps s0 x3 := by unfold x3; exact Keeps.transS h0 (State.addWait_keeps _ _ _ _)
  clear_value x3; revert x3 hx3; refine Keeps.gen fun x3 hx3 => ?_
  refine keepsS_ite ?_ ?_
  · exact Keeps.transS h0 (State.setReg_keeps _ _ _)
  · exact keepsS_ite (Keeps.transS (Keeps.transS hx3 (State.applyUnit_keeps _ _)) (State.afterPend_keeps _ _)) hx3

theorem State.writeReg_keeps (s0 : State) (b1 : Nat) (b2 : Word) : Keeps s0 (State.writeReg s0 b1 b2) := by
  have h0 := Keeps.refl s0
  unfold State.writeReg
  split
  · exact h0
  · extract_lets -merge +onlyGivenNames x1
    have hx1 : Keeps s0 x1 := by unfold x1; exact keepsS_ite h0 (Keeps.transS h0 (State.writeK_keeps _ _ _))
    clear_value x1; revert x1 hx1; refine Keeps.gen fun x1 hx1 => ?_
    extract_lets -merge +onlyGivenNames x2
    have hx2 : Keeps s0 x2 := by unfold x2; exact keepsS_ite hx1 (Keeps.transS hx1 (State.setReg_keeps _ _ _))
    clear_value x2; revert x2 hx2; refine Keeps.gen fun x2 hx2 => ?_
    extract_lets -merge +onlyGivenNames x3
    have hx3 : Keeps s0 x3 := by unfold x3; exact keepsS_ite hx2 (Keeps.transS hx2 (State.writeS_keeps _ _ _))
    clear_value x3; revert x3 hx3; refine Keeps.gen fun x3 hx3 => ?_
    exact keepsS_ite hx3 (Keeps.transS hx3 (State.writeL_keeps _ _ _ _))

theorem State.switchDue_keeps (s0 : State) (b1 : Bool) (b2 : Option Nat) : Keeps s0 (State.switchDue s0 b1 b2) := by
  have h0 := Keeps.refl s0
  unfold State.switchDue
  extract_lets -merge +onlyGivenNames x1
  try clear_value x1
  refine keepsS_ite ?_ ?_
  · exact Keeps.transS h0 (State.epochSwitch_keeps _ _)
  · exact Keeps.upd h0 rfl

theorem State.stick_keeps (s0 : State) : Keeps s0 (State.stick s0) := by
  have h0 := Keeps.refl s0
  unfold State.stick
  extract_lets -merge +onlyGivenNames x1
  try clear_value x1
  extract_lets -merge +onlyGivenNames x2
  have hx2 : Keeps s0 x2 := by unfold x2; exact Keeps.upd h0 rfl
  clear_value x2; revert x2 hx2; refine Keeps.gen fun x2 hx2 => ?_
  exact Keeps.transS (Keeps.transS hx2 (State.put_keeps _ _ _)) (State.postTo_keeps _ _ _ _ _)

theorem State.tbAuto_keeps (s0 : State) (b1 : Bool) : Keeps s0 (State.tbAuto s0 b1) := by
  have h0 := Keeps.refl s0
  unfold State.tbAuto
  extract_lets -merge +onlyGivenNames x1
  have hx1 : Keeps s0 x1 := by unfold x1; exact Keeps.transS h0 (State.put_keeps _ _ _)
  clear_value x1; revert x1 hx1; refine Keeps.gen fun x1 hx1 => ?_
  extract_lets -merge +onlyGivenNames x2
  try clear_value x2
  refine keepsS_ite ?_ ?_
  · exact Keeps.upd hx1 rfl
  · exact hx1

theorem State.tbNotify_keeps (s0 : State) (b1 : State) : Keeps s0 (State.tbNotify s0 b1) := by
  have h0 := Keeps.refl s0
  unfold State.tbNotify
  extract_lets -merge +onlyGivenNames x1
  try clear_value x1
  extract_lets -merge +onlyGivenNames x2
  try clear_value x2
  exact keepsS_ite (Keeps.transS h0 (State.postBoth_keeps _ _ _ _)) h0

theorem State.tbRefOn_keeps (s0 : State) : Keeps s0 (State.tbRefOn s0) := by
  have h0 := Keeps.refl s0
  unfold State.tbRefOn
  extract_lets -merge +onlyGivenNames x1
  try clear_value x1
  refine keepsS_ite ?_ ?_
  · refine keepsS_ite ?_ ?_
    · exact h0
    · exact Keeps.upd h0 rfl
  · exact Keeps.transS (Keeps.transS h0 (State.put_keeps _ _ _)) (State.tbNotify_keeps _ _)

theorem State.xtalStop_keeps (s0 : State) : Keeps s0 (State.xtalStop s0) := by
  have h0 := Keeps.refl s0
  unfold State.xtalStop
  extract_lets -merge +onlyGivenNames x1
  have hx1 : Keeps s0 x1 := by unfold x1; exact Keeps.transS h0 (State.txStop_keeps _)
  clear_value x1; revert x1 hx1; refine Keeps.gen fun x1 hx1 => ?_
  extract_lets -merge +onlyGivenNames x2
  try clear_value x2
  extract_lets -merge +onlyGivenNames x3
  have hx3 : Keeps s0 x3 := by
    unfold x3
    refine keepsS_ite ?_ ?_
    · exact hx1
    · refine keepsS_ite ?_ ?_
      · exact Keeps.transS hx1 (State.carryOn_keeps _)
      · exact Keeps.upd hx1 rfl
  clear_value x3; revert x3 hx3; refine Keeps.gen fun x3 hx3 => ?_
  extract_lets -merge +onlyGivenNames x4
  try clear_value x4
  extract_lets -merge +onlyGivenNames x5
  have hx5 : Keeps s0 x5 := by
    unfold x5
    refine Keeps.transS ?_ (State.spStop_keeps _)
    exact Keeps.upd hx3 rfl
  clear_value x5; revert x5 hx5; refine Keeps.gen fun x5 hx5 => ?_
  extract_lets -merge +onlyGivenNames x6
  have hx6 : Keeps s0 x6 := by
    unfold x6
    refine foldl_keeps ?_ ?_
    · exact hx5
    · intro x7 x8 hx7
      try beta_reduce
      exact Keeps.transS hx7 (State.abortLane_keeps _ _ _ _)
  clear_value x6; revert x6 hx6; refine Keeps.gen fun x6 hx6 => ?_
  exact Keeps.transS hx6 (State.tbNotify_keeps _ _)

theorem State.tbRefOff_keeps (s0 : State) : Keeps s0 (State.tbRefOff s0) := by
  have h0 := Keeps.refl s0
  unfold State.tbRefOff
  refine keepsS_ite ?_ ?_
  · exact h0
  · exact keepsS_ite (Keeps.transS (Keeps.transS h0 (State.put_keeps _ _ _)) (State.tbNotify_keeps _ _)) (Keeps.transS h0 (State.xtalStop_keeps _))

theorem State.tbCtl_keeps (s0 : State) (b1 : Word) : Keeps s0 (State.tbCtl s0 b1) := by
  have h0 := Keeps.refl s0
  unfold State.tbCtl
  extract_lets -merge +onlyGivenNames x1
  have hx1 : Keeps s0 x1 := by unfold x1; exact Keeps.transS h0 (State.tbAuto_keeps _ _)
  clear_value x1; revert x1 hx1; refine Keeps.gen fun x1 hx1 => ?_
  exact keepsS_ite (Keeps.transS hx1 (State.tbRefOn_keeps _)) (Keeps.transS hx1 (State.tbRefOff_keeps _))

theorem State.boundaries_keeps (s0 : State) : Keeps s0 (State.boundaries s0) := by
  have h0 := Keeps.refl s0
  unfold State.boundaries
  refine Keeps.transS ?_ (State.afterPend_keeps _ _)
  refine Keeps.transS ?_ (State.spBlock_keeps _)
  refine foldl_keeps ?_ ?_
  · exact h0
  · intro x1 x2 hx1
    try beta_reduce
    exact keepsS_ite (Keeps.transS hx1 (State.applyUnit_keeps _ _)) hx1

theorem doneB_keeps (s0 : State) : KeepsO s0 (doneB s0) := by
  have h0 := Keeps.refl s0
  unfold doneB
  exact Keeps.transO (Keeps.transS h0 (State.boundaries_keeps _)) (done_keeps _)

end Sys2Proof.Machine
end

