-- ==== Sys2Proof/Laws/KeepsStart.lean ====
section
/-! SUPPORT. `Keeps` of the link, the journal, starts, sleep and the epoch commands: each keeps the queue, the canonical form and legal modes. -/

namespace Sys2Proof.Machine

theorem State.setNbr_keeps (s0 : State) (b1 : Nat) (b2 : Nat) (b3 : Word) : Keeps s0 (State.setNbr s0 b1 b2 b3) := by
  have h0 := Keeps.refl s0
  unfold State.setNbr
  exact Keeps.transS h0 (State.devWrite_keeps _ _ _)

theorem State.guardRead_keeps (s0 : State) (b1 : Nat) : Keeps2 s0 (State.guardRead s0 b1) := by
  have h0 := Keeps.refl s0
  unfold State.guardRead
  extract_lets -merge +onlyGivenNames x1
  try clear_value x1
  extract_lets -merge +onlyGivenNames x2
  try clear_value x2
  extract_lets -merge +onlyGivenNames x3
  try clear_value x3
  extract_lets -merge +onlyGivenNames x4
  try clear_value x4
  extract_lets -merge +onlyGivenNames x5
  have hx5 : Keeps s0 x5 := by unfold x5; exact Keeps.transS h0 (State.setNbr_keeps _ _ _ _)
  clear_value x5; revert x5 hx5; refine Keeps.gen fun x5 hx5 => ?_
  extract_lets -merge +onlyGivenNames x6
  have hx6 : Keeps s0 x6 := by
    unfold x6
    exact keepsS_ite hx5 (Keeps.transS (Keeps.transS hx5 (State.put_keeps _ _ _)) (State.postTo_keeps _ _ _ _ _))
  clear_value x6; revert x6 hx6; refine Keeps.gen fun x6 hx6 => ?_
  refine keeps2_ite ?_ ?_
  · refine keeps2_mk ?_
    exact h0
  · refine keeps2_ite ?_ ?_
    · refine keeps2_mk ?_
      exact hx6
    · refine keeps2_mk ?_
      exact h0

theorem State.guardLink_keeps (s0 : State) (b1 : Nat) : Keeps2 s0 (State.guardLink s0 b1) := by
  have h0 := Keeps.refl s0
  unfold State.guardLink
  exact Keeps.trans2 (Keeps.transS h0 (State.wakeRange_keeps _ _ _)) (State.guardRead_keeps _ _)

theorem State.holdNbr_keeps (s0 : State) (b1 : Nat) (b2 : Bool) : Keeps s0 (State.holdNbr s0 b1 b2) := by
  have h0 := Keeps.refl s0
  unfold State.holdNbr
  extract_lets -merge +onlyGivenNames x1
  try clear_value x1
  extract_lets -merge +onlyGivenNames x2
  try clear_value x2
  extract_lets -merge +onlyGivenNames x3
  have hx3 : Keeps s0 x3 := by unfold x3; exact Keeps.upd h0 rfl
  clear_value x3; revert x3 hx3; refine Keeps.gen fun x3 hx3 => ?_
  refine foldl_keeps ?_ ?_
  · exact hx3
  · intro x4 x5 hx4
    try beta_reduce
    extract_lets -merge +onlyGivenNames x6
    try clear_value x6
    exact Keeps.transS hx4 (State.devWrite_keeps _ _ _)

theorem State.parentShift_keeps (s0 : State) (b1 : Nat) (b2 : ℤ) : Keeps1 s0 (State.parentShift s0 b1 b2) := by
  have h0 := Keeps.refl s0
  unfold State.parentShift
  extract_lets -merge +onlyGivenNames x1
  try clear_value x1
  extract_lets -merge +onlyGivenNames x2
  try clear_value x2
  refine keeps1_ite ?_ ?_
  · refine keeps1_mk ?_
    exact keepsS_ite h0 (Keeps.transS h0 (State.put_keeps _ _ _))
  · refine keeps1_mk ?_
    exact h0

theorem State.shiftClamp_keeps (s0 : State) (b1 : ℤ) : Keeps1 s0 (State.shiftClamp s0 b1) := by
  have h0 := Keeps.refl s0
  unfold State.shiftClamp
  extract_lets -merge +onlyGivenNames x1
  try clear_value x1
  extract_lets -merge +onlyGivenNames x2
  try clear_value x2
  refine keeps1_mk ?_
  exact keepsS_ite h0 (Keeps.transS h0 (State.put_keeps _ _ _))

theorem State.shiftNext_keeps (s0 : State) (b1 : ℤ) : Keeps s0 (State.shiftNext s0 b1) := by
  have h0 := Keeps.refl s0
  unfold State.shiftNext
  split
  · rename_i heq
    have hx1 := keeps1_of heq (s0 := s0) (by
        exact Keeps.trans1 h0 (State.shiftClamp_keeps _ _)
      )
    extract_lets -merge +onlyGivenNames x2
    try clear_value x2
    exact Keeps.upd hx1 rfl

theorem State.shiftSlot_keeps (s0 : State) (b1 : ℤ) : Keeps s0 (State.shiftSlot s0 b1) := by
  have h0 := Keeps.refl s0
  unfold State.shiftSlot
  extract_lets -merge +onlyGivenNames x1
  try clear_value x1
  refine keepsS_ite ?_ ?_
  · exact h0
  · refine keepsS_ite ?_ ?_
    · exact Keeps.transS h0 (State.shiftNext_keeps _ _)
    · exact Keeps.upd h0 rfl

theorem State.resyncLink_keeps (s0 : State) (b1 : Nat) (b2 : Nat) : Keeps s0 (State.resyncLink s0 b1 b2) := by
  have h0 := Keeps.refl s0
  unfold State.resyncLink
  extract_lets -merge +onlyGivenNames x1
  try clear_value x1
  extract_lets -merge +onlyGivenNames x2
  try clear_value x2
  extract_lets -merge +onlyGivenNames x3
  try clear_value x3
  extract_lets -merge +onlyGivenNames x4
  try clear_value x4
  extract_lets -merge +onlyGivenNames x5
  try clear_value x5
  extract_lets -merge +onlyGivenNames x6
  try clear_value x6
  extract_lets -merge +onlyGivenNames x7
  try clear_value x7
  extract_lets -merge +onlyGivenNames x8
  try clear_value x8
  extract_lets -merge +onlyGivenNames x9
  try clear_value x9
  split
  · rename_i heq
    have hx10 := keeps1_of heq (s0 := s0) (by
        exact Keeps.trans1 h0 (State.parentShift_keeps _ _ _)
      )
    extract_lets -merge +onlyGivenNames x11
    try clear_value x11
    extract_lets -merge +onlyGivenNames x12
    have hx12 : Keeps s0 x12 := by unfold x12; exact Keeps.transS hx10 (State.setNbr_keeps _ _ _ _)
    clear_value x12; revert x12 hx12; refine Keeps.gen fun x12 hx12 => ?_
    extract_lets -merge +onlyGivenNames x13
    have hx13 : Keeps s0 x13 := by unfold x13; exact Keeps.transS hx12 (State.setNbr_keeps _ _ _ _)
    clear_value x13; revert x13 hx13; refine Keeps.gen fun x13 hx13 => ?_
    extract_lets -merge +onlyGivenNames x14
    have hx14 : Keeps s0 x14 := by unfold x14; exact Keeps.transS hx13 (State.setNbr_keeps _ _ _ _)
    clear_value x14; revert x14 hx14; refine Keeps.gen fun x14 hx14 => ?_
    extract_lets -merge +onlyGivenNames x15
    have hx15 : Keeps s0 x15 := by unfold x15; exact Keeps.transS hx14 (State.setNbr_keeps _ _ _ _)
    clear_value x15; revert x15 hx15; refine Keeps.gen fun x15 hx15 => ?_
    extract_lets -merge +onlyGivenNames x16
    have hx16 : Keeps s0 x16 := by unfold x16; exact Keeps.transS hx15 (State.setNbr_keeps _ _ _ _)
    clear_value x16; revert x16 hx16; refine Keeps.gen fun x16 hx16 => ?_
    extract_lets -merge +onlyGivenNames x17
    have hx17 : Keeps s0 x17 := by unfold x17; exact keepsS_ite (Keeps.transS hx16 (State.setNbr_keeps _ _ _ _)) hx16
    clear_value x17; revert x17 hx17; refine Keeps.gen fun x17 hx17 => ?_
    exact Keeps.transS hx17 (State.shiftSlot_keeps _ _)

theorem State.slotCount_keeps (s0 : State) : Keeps s0 (State.slotCount s0) := by
  have h0 := Keeps.refl s0
  unfold State.slotCount
  extract_lets -merge +onlyGivenNames x1
  try clear_value x1
  extract_lets -merge +onlyGivenNames x2
  try clear_value x2
  exact Keeps.upd h0 rfl

theorem State.slotLay_keeps (s0 : State) : Keeps s0 (State.slotLay s0) := by
  have h0 := Keeps.refl s0
  unfold State.slotLay
  extract_lets -merge +onlyGivenNames x1
  try clear_value x1
  split
  · rename_i heq
    have hx2 := keeps1_of heq (s0 := s0) (by
        exact Keeps.trans1 h0 (State.shiftClamp_keeps _ _)
      )
    extract_lets -merge +onlyGivenNames x3
    try clear_value x3
    exact Keeps.upd hx2 rfl

theorem State.supExpire_keeps (s0 : State) (b1 : Nat) : Keeps s0 (State.supExpire s0 b1) := by
  have h0 := Keeps.refl s0
  unfold State.supExpire
  extract_lets -merge +onlyGivenNames x1
  try clear_value x1
  extract_lets -merge +onlyGivenNames x2
  have hx2 : Keeps s0 x2 := by unfold x2; exact Keeps.transS h0 (State.setNbr_keeps _ _ _ _)
  clear_value x2; revert x2 hx2; refine Keeps.gen fun x2 hx2 => ?_
  extract_lets -merge +onlyGivenNames x3
  have hx3 : Keeps s0 x3 := by unfold x3; exact Keeps.transS hx2 (State.holdNbr_keeps _ _ _)
  clear_value x3; revert x3 hx3; refine Keeps.gen fun x3 hx3 => ?_
  exact Keeps.transS (Keeps.transS hx3 (State.put_keeps _ _ _)) (State.postTo_keeps _ _ _ _ _)

theorem State.setSpic_keeps (s0 : State) (b1 : Nat) (b2 : Serial) : Keeps s0 (State.setSpic s0 b1 b2) := by
  have h0 := Keeps.refl s0
  unfold State.setSpic
  refine keepsS_ite ?_ ?_
  · exact Keeps.upd h0 rfl
  · exact Keeps.upd h0 rfl

theorem State.setUart_keeps (s0 : State) (b1 : Nat) (b2 : Uart) : Keeps s0 (State.setUart s0 b1 b2) := by
  have h0 := Keeps.refl s0
  unfold State.setUart
  refine keepsS_ite ?_ ?_
  · exact Keeps.upd h0 rfl
  · exact Keeps.upd h0 rfl

theorem State.setI2c_keeps (s0 : State) (b1 : Nat) (b2 : Serial) : Keeps s0 (State.setI2c s0 b1 b2) := by
  have h0 := Keeps.refl s0
  unfold State.setI2c
  refine keepsS_ite ?_ ?_
  · exact Keeps.upd h0 rfl
  · exact Keeps.upd h0 rfl

theorem State.setWdt_keeps (s0 : State) (b1 : Nat) (b2 : Wdt) : Keeps s0 (State.setWdt s0 b1 b2) := by
  have h0 := Keeps.refl s0
  unfold State.setWdt
  refine keepsS_ite ?_ ?_
  · exact Keeps.upd h0 rfl
  · exact Keeps.upd h0 rfl

theorem State.nvPut_keeps (s0 : State) (a : Nat) (w : Word) : Keeps s0 (s0.nvPut a w) :=
  (State.setWord_keeps s0 a w).upd (by simp [State.nvPut, State.view, State.setWord_memc])

theorem State.haltFill_keeps (s0 : State) (b1 : Nat) : Keeps s0 (State.haltFill s0 b1) := by
  have h0 := Keeps.refl s0
  unfold State.haltFill
  extract_lets -merge +onlyGivenNames x1
  have hx1 : Keeps s0 x1 := by unfold x1; exact Keeps.transS (Keeps.transS h0 (State.clearRange_keeps _ _ _)) (State.setReg_keeps _ _ _)
  clear_value x1; revert x1 hx1; refine Keeps.gen fun x1 hx1 => ?_
  exact keepsS_ite hx1 (Keeps.transS hx1 (State.digDirty_keeps _))

theorem State.attRead_keeps (s0 : State) : Keeps2 s0 (State.attRead s0) := by
  have h0 := Keeps.refl s0
  unfold State.attRead
  refine keeps2_mk ?_
  exact Keeps.transS h0 (State.nvSee_keeps _ _ _)

theorem State.attMirror_keeps (s0 : State) : Keeps s0 (State.attMirror s0) := by
  have h0 := Keeps.refl s0
  unfold State.attMirror
  extract_lets -merge +onlyGivenNames x1
  try clear_value x1
  extract_lets -merge +onlyGivenNames x2
  have hx2 : Keeps s0 x2 := by unfold x2; exact Keeps.transS (Keeps.transS h0 (State.put_keeps _ _ _)) (State.put_keeps _ _ _)
  clear_value x2; revert x2 hx2; refine Keeps.gen fun x2 hx2 => ?_
  exact Keeps.transS (Keeps.transS hx2 (State.put_keeps _ _ _)) (State.put_keeps _ _ _)

theorem State.attPut_keeps (s0 : State) (b1 : Nat) (b2 : Nat) (b3 : Nat) : Keeps s0 (State.attPut s0 b1 b2 b3) := by
  have h0 := Keeps.refl s0
  unfold State.attPut
  exact Keeps.transS (Keeps.transS h0 (State.nvPut_keeps _ _ _)) (State.attMirror_keeps _)

theorem State.selWrite_keeps (s0 : State) (b1 : Nat) : KeepsP s0 (State.selWrite s0 b1) := by
  have h0 := Keeps.refl s0
  unfold State.selWrite
  extract_lets -merge +onlyGivenNames x1
  split
  · refine keepsP_some ?_
    exact Keeps.transS (Keeps.transS h0 (State.nvSee_keeps _ _ _)) (State.nvPut_keeps _ _ _)
  · refine keepsP_ite ?_ ?_
    · exact keepsP_none
    · refine keepsP_some ?_
      exact Keeps.transS (Keeps.transS h0 (State.nvSee_keeps _ _ _)) (State.nvPut_keeps _ _ _)

theorem State.copySee_keeps (s0 : State) (b1 : Nat) : Keeps s0 (State.copySee s0 b1) := by
  have h0 := Keeps.refl s0
  unfold State.copySee
  exact Keeps.transS (Keeps.transS h0 (State.nvSee_keeps _ _ _)) (State.nvSee_keeps _ _ _)

theorem State.setsSee_keeps (s0 : State) : Keeps s0 (State.setsSee s0) := by
  have h0 := Keeps.refl s0
  unfold State.setsSee
  exact Keeps.transS (Keeps.transS (Keeps.transS h0 (State.nvSee_keeps _ _ _)) (State.copySee_keeps _ _)) (State.copySee_keeps _ _)

theorem State.setMirror_keeps (s0 : State) : Keeps s0 (State.setMirror s0) := by
  have h0 := Keeps.refl s0
  unfold State.setMirror
  extract_lets -merge +onlyGivenNames x1
  have hx1 : Keeps s0 x1 := by unfold x1; exact Keeps.transS h0 (State.setsSee_keeps _)
  clear_value x1; revert x1 hx1; refine Keeps.gen fun x1 hx1 => ?_
  extract_lets -merge +onlyGivenNames x2
  have hx2 : Keeps s0 x2 := by unfold x2; exact Keeps.transS hx1 (State.setReg_keeps _ _ _)
  clear_value x2; revert x2 hx2; refine Keeps.gen fun x2 hx2 => ?_
  extract_lets -merge +onlyGivenNames x3
  have hx3 : Keeps s0 x3 := by unfold x3; exact Keeps.transS hx2 (State.setReg_keeps _ _ _)
  clear_value x3; revert x3 hx3; refine Keeps.gen fun x3 hx3 => ?_
  exact Keeps.transS hx3 (State.setReg_keeps _ _ _)

theorem State.commitPut_keeps (s0 : State) (b1 : Nat) (b2 : Nat) : Keeps s0 (State.commitPut s0 b1 b2) := by
  have h0 := Keeps.refl s0
  unfold State.commitPut
  extract_lets -merge +onlyGivenNames x1
  try clear_value x1
  exact Keeps.transS h0 (State.nvPut_keeps _ _ _)

theorem State.bootRead_keeps (s0 : State) : Keeps s0 (State.bootRead s0) := by
  have h0 := Keeps.refl s0
  unfold State.bootRead
  extract_lets -merge +onlyGivenNames x1
  have hx1 : Keeps s0 x1 := by unfold x1; exact Keeps.transS (Keeps.transS h0 (State.nvSee_keeps _ _ _)) (State.put_keeps _ _ _)
  clear_value x1; revert x1 hx1; refine Keeps.gen fun x1 hx1 => ?_
  exact Keeps.transS hx1 (State.put_keeps _ _ _)

theorem State.rollForward_keeps (s0 : State) : Keeps s0 (State.rollForward s0) := by
  have h0 := Keeps.refl s0
  unfold State.rollForward
  extract_lets -merge +onlyGivenNames x1
  have hx1 : Keeps s0 x1 := by unfold x1; exact Keeps.transS h0 (State.nvSee_keeps _ _ _)
  clear_value x1; revert x1 hx1; refine Keeps.gen fun x1 hx1 => ?_
  extract_lets -merge +onlyGivenNames x2
  have hx2 : Keeps s0 x2 := by unfold x2; exact Keeps.transS (Keeps.transS hx1 (State.copySee_keeps _ _)) (State.nvSee_keeps _ _ _)
  clear_value x2; revert x2 hx2; refine Keeps.gen fun x2 hx2 => ?_
  extract_lets -merge +onlyGivenNames x3
  have hx3 : Keeps s0 x3 := by
    unfold x3
    refine keepsS_ite ?_ ?_
    · exact hx2
    · split
      · rename_i heq
        have hx4 := keepsP_of heq (s0 := s0) (by
            exact Keeps.transP hx2 (State.selWrite_keeps _ _)
          )
        exact hx4
      · exact Keeps.transS hx2 (State.put_keeps _ _ _)
  clear_value x3; revert x3 hx3; refine Keeps.gen fun x3 hx3 => ?_
  exact keepsS_ite (Keeps.transS hx3 (State.nvPut_keeps _ _ _)) hx1

theorem State.copyPut_keeps (s0 : State) (b1 : Nat) (b2 : SetCopy) : Keeps s0 (State.copyPut s0 b1 b2) := by
  have h0 := Keeps.refl s0
  unfold State.copyPut
  extract_lets -merge +onlyGivenNames x1
  try clear_value x1
  extract_lets -merge +onlyGivenNames x2
  try clear_value x2
  extract_lets -merge +onlyGivenNames x3
  try clear_value x3
  extract_lets -merge +onlyGivenNames x4
  try clear_value x4
  refine foldl_keeps ?_ ?_
  · exact h0
  · intro x5 x6 hx5
    try beta_reduce
    exact Keeps.transS hx5 (State.nvPut_keeps _ _ _)

theorem State.journalFix_keeps (s0 : State) : Keeps s0 (State.journalFix s0) := by
  have h0 := Keeps.refl s0
  unfold State.journalFix
  extract_lets -merge +onlyGivenNames x1
  have hx1 : Keeps s0 x1 := by unfold x1; exact Keeps.transS h0 (State.nvSee_keeps _ _ _)
  clear_value x1; revert x1 hx1; refine Keeps.gen fun x1 hx1 => ?_
  extract_lets -merge +onlyGivenNames x2
  have hx2 : Keeps s0 x2 := by unfold x2; exact Keeps.transS (Keeps.transS hx1 (State.put_keeps _ _ _)) (State.nvSee_keeps _ _ _)
  clear_value x2; revert x2 hx2; refine Keeps.gen fun x2 hx2 => ?_
  refine keepsS_ite ?_ ?_
  · exact hx1
  · split
    · exact Keeps.transS (Keeps.transS hx2 (State.copyPut_keeps _ _ _)) (State.commitPut_keeps _ _ _)
    · exact Keeps.transS hx2 (State.commitPut_keeps _ _ _)
    · exact Keeps.transS hx2 (State.commitPut_keeps _ _ _)
    · exact keepsS_ite (Keeps.transS hx2 (State.commitPut_keeps _ _ _)) (Keeps.transS hx2 (State.commitPut_keeps _ _ _))

theorem State.rollBack_keeps (s0 : State) : Keeps s0 (State.rollBack s0) := by
  have h0 := Keeps.refl s0
  unfold State.rollBack
  extract_lets -merge +onlyGivenNames x1
  try clear_value x1
  extract_lets -merge +onlyGivenNames x2
  have hx2 : Keeps s0 x2 := by unfold x2; exact Keeps.transS h0 (State.commitPut_keeps _ _ _)
  clear_value x2; revert x2 hx2; refine Keeps.gen fun x2 hx2 => ?_
  extract_lets -merge +onlyGivenNames x3
  have hx3 : Keeps s0 x3 := by
    unfold x3
    refine foldl_keeps ?_ ?_
    · exact hx2
    · intro x4 x5 hx4
      try beta_reduce
      exact Keeps.transS hx4 (State.haltFill_keeps _ _)
  clear_value x3; revert x3 hx3; refine Keeps.gen fun x3 hx3 => ?_
  exact Keeps.transS (Keeps.transS hx3 (State.rollForward_keeps _)) (State.put_keeps _ _ _)

theorem State.startCount_keeps (s0 : State) (b1 : Bool) : Keeps2 s0 (State.startCount s0 b1) := by
  have h0 := Keeps.refl s0
  unfold State.startCount
  extract_lets -merge +onlyGivenNames x1
  try clear_value x1
  extract_lets -merge +onlyGivenNames x2
  try clear_value x2
  extract_lets -merge +onlyGivenNames x3
  try clear_value x3
  extract_lets -merge +onlyGivenNames x4
  try clear_value x4
  extract_lets -merge +onlyGivenNames x5
  try clear_value x5
  extract_lets -merge +onlyGivenNames x6
  have hx6 : Keeps s0 x6 := by unfold x6; exact keepsS_ite (Keeps.transS (Keeps.transS h0 (State.nvSee_keeps _ _ _)) (State.put_keeps _ _ _)) h0
  clear_value x6; revert x6 hx6; refine Keeps.gen fun x6 hx6 => ?_
  extract_lets -merge +onlyGivenNames x7
  have hx7 : Keeps s0 x7 := by unfold x7; exact keepsS_ite (Keeps.transS (Keeps.transS hx6 (State.copySee_keeps _ _)) (State.copySee_keeps _ _)) hx6
  clear_value x7; revert x7 hx7; refine Keeps.gen fun x7 hx7 => ?_
  extract_lets -merge +onlyGivenNames x8
  try clear_value x8
  extract_lets -merge +onlyGivenNames x9
  have hx9 : Keeps s0 x9 := by
    unfold x9
    split
    · rename_i heq
      have hx10 := keepsP_of heq (s0 := s0) (by
          exact Keeps.transP hx7 (State.selWrite_keeps _ _)
        )
      exact Keeps.transS hx10 (State.put_keeps _ _ _)
    · exact Keeps.transS hx7 (State.put_keeps _ _ _)
  clear_value x9; revert x9 hx9; refine Keeps.gen fun x9 hx9 => ?_
  refine keeps2_ite ?_ ?_
  · refine keeps2_mk ?_
    exact Keeps.transS hx7 (State.attPut_keeps _ _ _ _)
  · refine keeps2_ite ?_ ?_
    · refine keeps2_ite ?_ ?_
      · refine keeps2_mk ?_
        exact Keeps.transS (Keeps.transS hx7 (State.rollBack_keeps _)) (State.attPut_keeps _ _ _ _)
      · refine keeps2_mk ?_
        exact Keeps.transS hx9 (State.attPut_keeps _ _ _ _)
    · refine keeps2_mk ?_
      exact Keeps.transS hx7 (State.attPut_keeps _ _ _ _)

theorem State.mark_keeps (s0 : State) (b1 : List Nat → List Nat) : Keeps s0 (State.mark s0 b1) := by
  have h0 := Keeps.refl s0
  unfold State.mark
  extract_lets -merge +onlyGivenNames x1
  try clear_value x1
  exact Keeps.upd h0 rfl

theorem State.flashInval_keeps (s0 : State) (b1 : Nat) (b2 : Nat) : Keeps s0 (State.flashInval s0 b1 b2) := by
  have h0 := Keeps.refl s0
  unfold State.flashInval
  extract_lets -merge +onlyGivenNames x1
  try clear_value x1
  extract_lets -merge +onlyGivenNames x2
  have hx2 : Keeps s0 x2 := by unfold x2; exact Keeps.transS h0 (State.invalidateBoth_keeps _ _ _)
  clear_value x2; revert x2 hx2; refine Keeps.gen fun x2 hx2 => ?_
  exact keepsS_ite (Keeps.transS hx2 (State.invalidateBoth_keeps _ _ _)) hx2

theorem State.pagePut_keeps (s0 : State) (b1 : FlcOp) : Keeps s0 (State.pagePut s0 b1) := by
  have h0 := Keeps.refl s0
  unfold State.pagePut
  exact Keeps.transS (Keeps.transS (Keeps.transS h0 (State.setBytes_keeps _ _ _)) (State.flashInval_keeps _ _ _)) (State.mark_keeps _ _)

theorem State.unmark_keeps (s0 : State) (b1 : Nat) : Keeps s0 (State.unmark s0 b1) := by
  have h0 := Keeps.refl s0
  unfold State.unmark
  exact Keeps.transS h0 (State.mark_keeps _ _)

theorem State.flcAbandon_keeps (s0 : State) (b1 : Bool) : Keeps s0 (State.flcAbandon s0 b1) := by
  have h0 := Keeps.refl s0
  unfold State.flcAbandon
  extract_lets -merge +onlyGivenNames x1
  have hx1 : Keeps s0 x1 := by
    unfold x1
    split
    · exact h0
    · extract_lets -merge +onlyGivenNames x2
      try clear_value x2
      extract_lets -merge +onlyGivenNames x3
      have hx3 : Keeps s0 x3 := by unfold x3; exact Keeps.transS (Keeps.transS h0 (State.lose_keeps _ _ _)) (State.unmark_keeps _ _)
      clear_value x3; revert x3 hx3; refine Keeps.gen fun x3 hx3 => ?_
      refine keepsS_ite ?_ ?_
      · refine keepsS_ite ?_ ?_
        · exact Keeps.transS h0 (State.lose_keeps _ _ _)
        · exact keepsS_ite (Keeps.transS (Keeps.transS h0 (State.fresh_keeps _)) (State.pagePut_keeps _ _)) (Keeps.transS h0 (State.fresh_keeps _))
      · exact keepsS_ite (keepsS_ite (Keeps.transS (Keeps.transS hx3 (State.put_keeps _ _ _)) (State.put_keeps _ _ _)) hx3) h0
  clear_value x1; revert x1 hx1; refine Keeps.gen fun x1 hx1 => ?_
  extract_lets -merge +onlyGivenNames x4
  try clear_value x4
  exact Keeps.upd hx1 rfl

theorem State.flashEcc_keeps (s0 : State) (b1 : Nat) (b2 : Ecc) : Keeps s0 (State.flashEcc s0 b1 b2) := by
  have h0 := Keeps.refl s0
  unfold State.flashEcc
  extract_lets -merge +onlyGivenNames x1
  try clear_value x1
  split
  · exact h0
  · exact keepsS_ite h0 (Keeps.transS (Keeps.transS h0 (State.count_keeps _ _)) (State.put_keeps _ _ _))
  · refine Keeps.transS ?_ (State.count_keeps _ _)
    exact Keeps.transS (Keeps.transS (Keeps.transS h0 (State.put_keeps _ _ _)) (State.put_keeps _ _ _)) (State.setReg_keeps _ _ _)
  · refine Keeps.transS ?_ (State.postTo_keeps _ _ _ _ _)
    exact Keeps.transS (Keeps.transS (Keeps.transS h0 (State.setReg_keeps _ _ _)) (State.count_keeps _ _)) (State.put_keeps _ _ _)

theorem State.rcode_keeps (s0 : State) (p : State × List Nat) (x : Nat) (h : Keeps s0 p.1) : Keeps s0 (State.rcode p x).1 := by
  unfold State.rcode
  dsimp only
  split
  · exact h
  · have hf : Keeps s0 { p.1 with free := p.1.free + 2 } := h.upd rfl
    exact hf.transS (State.flashEcc_keeps _ _ _)

theorem State.rscan_keeps (s0 : State) (a n : Nat) : Keeps1 s0 (s0.rscan a n) := by
  have key : ∀ (l : List Nat) (p : State × List Nat), Keeps s0 p.1 → Keeps s0 (l.foldl State.rcode p).1 := by
    intro l
    induction l with
    | nil => exact fun _ h => h
    | cons x r ih => exact fun p h => ih _ (State.rcode_keeps s0 p x h)
  unfold State.rscan
  dsimp only
  exact keeps1_ite (keeps1_mk (Keeps.refl s0)) (key _ _ (Keeps.refl s0))

theorem State.rtouch_keeps (s0 : State) (b1 : Nat) (b2 : Nat) : Keeps s0 (State.rtouch s0 b1 b2) := by
  have h0 := Keeps.refl s0
  unfold State.rtouch
  extract_lets -merge +onlyGivenNames x1
  have hx1 : Keeps s0 x1 := by unfold x1; exact Keeps.transS h0 (State.wakeRange_keeps _ _ _)
  clear_value x1; revert x1 hx1; refine Keeps.gen fun x1 hx1 => ?_
  extract_lets -merge +onlyGivenNames x2
  try clear_value x2
  refine keepsS_ite ?_ ?_
  · exact h0
  · split
    · extract_lets -merge +onlyGivenNames x3
      try clear_value x3
      extract_lets -merge +onlyGivenNames x4
      have hx4 : Keeps s0 x4 := by unfold x4; exact Keeps.upd hx1 rfl
      clear_value x4; revert x4 hx4; refine Keeps.gen fun x4 hx4 => ?_
      exact keepsS_ite hx1 (keepsS_ite (Keeps.transS hx4 (State.put_keeps _ _ _)) hx4)
    · exact hx1

theorem State.rscans_keeps (s0 : State) (rs : List (Nat × Nat)) : Keeps1 s0 (s0.rscans rs) := by
  have key : ∀ (l : List (Nat × Nat)) (p : State × List Nat), Keeps s0 p.1 → Keeps s0 (l.foldl (fun p r =>
      let q := (p.1.rtouch r.1 r.2).rscan r.1 r.2
      (q.1, p.2 ++ q.2)) p).1 := by
    intro l
    induction l with
    | nil => exact fun _ h => h
    | cons x r ih => exact fun p h => ih _ ((h.transS (State.rtouch_keeps _ _ _)).transS (State.rscan_keeps _ _ _))
  exact key rs _ (Keeps.refl s0)

theorem State.blockErase_keeps (s0 : State) (b1 : Nat) : Keeps s0 (State.blockErase s0 b1) := by
  have h0 := Keeps.refl s0
  unfold State.blockErase
  exact Keeps.transS (Keeps.transS (Keeps.transS h0 (State.clearRange_keeps _ _ _)) (State.flashInval_keeps _ _ _)) (State.unmark_keeps _ _)

theorem State.imgCopy_keeps (s0 : State) (b1 : Nat) (b2 : List Word) (b3 : List Byte) (b4 : Bool) : Keeps2 s0 (State.imgCopy s0 b1 b2 b3 b4) := by
  have h0 := Keeps.refl s0
  unfold State.imgCopy
  extract_lets -merge +onlyGivenNames x1
  have hx1 : Keeps s0 x1 := by unfold x1; exact keepsS_ite h0 (Keeps.transS h0 (State.haltFill_keeps _ _))
  clear_value x1; revert x1 hx1; refine Keeps.gen fun x1 hx1 => ?_
  extract_lets -merge +onlyGivenNames x2
  have hx2 : Keeps s0 x2 := by unfold x2; exact Keeps.transS (Keeps.transS hx1 (State.setBytes_keeps _ _ _)) (State.setReg_keeps _ _ _)
  clear_value x2; revert x2 hx2; refine Keeps.gen fun x2 hx2 => ?_
  extract_lets -merge +onlyGivenNames x3
  try clear_value x3
  refine keeps2_mk ?_
  refine Keeps.transS ?_ (State.digDirty_keeps _)
  exact keepsS_ite hx2 (Keeps.transS hx2 (State.haltFill_keeps _ _))

theorem State.loadEntry_keeps (s0 : State) (b1 : Nat) (b2 : SetCopy) : Keeps2 s0 (State.loadEntry s0 b1 b2) := by
  have h0 := Keeps.refl s0
  unfold State.loadEntry
  split
  · extract_lets -merge +onlyGivenNames x1
    try clear_value x1
    extract_lets -merge +onlyGivenNames x2
    try clear_value x2
    split
    · rename_i heq
      have hx3 := keeps1_of heq (s0 := s0) (by
          exact Keeps.trans1 h0 (State.rscans_keeps _ _)
        )
      extract_lets -merge +onlyGivenNames x4
      try clear_value x4
      refine keeps2_ite ?_ ?_
      · refine keeps2_mk ?_
        exact Keeps.transS (Keeps.transS hx3 (State.haltFill_keeps _ _)) (State.digDirty_keeps _)
      · exact Keeps.trans2 hx3 (State.imgCopy_keeps _ _ _ _ _)
  · refine keeps2_mk ?_
    exact Keeps.transS (Keeps.transS h0 (State.haltFill_keeps _ _)) (State.digDirty_keeps _)

theorem State.resetUnits_keeps (s0 : State) : Keeps s0 s0.resetUnits :=
  Keeps.of_canonical rfl rfl rfl rfl rfl rfl fun c =>
    ⟨c.mem, c.regs, c.shadow, Swf_nil _, Swf_nil _, Swf_nil _, Swf_nil _, c.banks⟩

theorem State.coldRegs_keeps (s0 : State) : Keeps s0 s0.coldRegs := by
  unfold State.coldRegs
  exact Keeps.of_canonical rfl rfl rfl rfl rfl rfl fun c =>
    { c with regs := Swf_keepBits (fun a => if keepAlways a then 0xFFFFFFFF else 0) c.regs, shadow := Swf_nil _ }

theorem Pwr.asleep_le {p : Pwr} {m : Nat} (h : p.asleep = some m) : m ≤ 3 := by
  unfold Pwr.asleep at h
  split at h
  · split at h
    · cases h; assumption
    · cases h
  · cases h

theorem State.coldBegin_keeps (s0 : State) (causes : Word) : Keeps s0 (s0.coldBegin causes) := by
  have h : Keeps s0 (((s0.rtcSync.flcAbandon false).coldRegs.resetUnits).clearRange 0x30000000 0x22000) :=
    ((((State.rtcSync_keeps _).transS (State.flcAbandon_keeps _ _)).transS (State.coldRegs_keeps _)).transS (State.resetUnits_keeps _)).transS
      (State.clearRange_keeps _ _ _)
  unfold State.coldBegin
  dsimp only
  generalize ((s0.rtcSync.flcAbandon false).coldRegs.resetUnits).clearRange 0x30000000 0x22000 = t at h
  refine Keeps.transS ?_ (State.setReg_keeps _ _ _)
  refine ⟨h.pending, fun c => { h.canonical c with banks := Swf_nil _ }, fun l => ?_⟩
  have hp : ∀ q, s0.pwrCold = q → (q.mode ≤ 11 ∧ q.prev ≤ 11 ∧ (∀ m ∈ q.forced, m ≤ 3 ∨ m = 10 ∨ m = 11) ∧ (∀ m ∈ q.cmd, m ≤ 3) ∧
      ∀ x ∈ q.hs, x.target ≤ 3) := by
    intro q hq
    subst hq
    unfold State.pwrCold
    split
    · rename_i m hm
      have := Pwr.asleep_le hm
      simp [Pwr.reset]
      omega
    · simp [Pwr.reset]
  obtain ⟨h1, h2, h3, h4, h5⟩ := hp _ rfl
  exact ⟨h1, h2, h3, h4, h5⟩

theorem State.freezeJoin_keeps (s0 : State) (b1 : Word) : Keeps s0 (State.freezeJoin s0 b1) := by
  have h0 := Keeps.refl s0
  unfold State.freezeJoin
  extract_lets -merge +onlyGivenNames x1
  try clear_value x1
  refine keepsS_ite ?_ ?_
  · exact h0
  · exact Keeps.upd h0 rfl

theorem State.rtcMerge_keeps (s0 : State) : Keeps s0 (State.rtcMerge s0) := by
  have h0 := Keeps.refl s0
  unfold State.rtcMerge
  extract_lets -merge +onlyGivenNames x1
  try clear_value x1
  extract_lets -merge +onlyGivenNames x2
  have hx2 : Keeps s0 x2 := by unfold x2; exact Keeps.transS (Keeps.transS h0 (State.mergeWaits_keeps _ _)) (State.onApply_keeps _ _ _)
  clear_value x2; revert x2 hx2; refine Keeps.gen fun x2 hx2 => ?_
  extract_lets -merge +onlyGivenNames x3
  try clear_value x3
  refine foldl_keeps ?_ ?_
  · exact hx2
  · intro x4 x5 hx4
    try beta_reduce
    exact Keeps.transS hx4 (State.put_keeps _ _ _)

theorem State.warmWrites_keeps (s0 : State) : Keeps s0 (State.warmWrites s0) := by
  have h0 := Keeps.refl s0
  unfold State.warmWrites
  extract_lets -merge +onlyGivenNames x1
  have hx1 : Keeps s0 x1 := by
    unfold x1
    refine Keeps.transS ?_ (State.rtcMerge_keeps _)
    exact keepsS_ite (Keeps.transS h0 (State.rtcSync_keeps _)) h0
  clear_value x1; revert x1 hx1; refine Keeps.gen fun x1 hx1 => ?_
  extract_lets -merge +onlyGivenNames x2
  have hx2 : Keeps s0 x2 := by unfold x2; exact hx1
  clear_value x2; revert x2 hx2; refine Keeps.gen fun x2 hx2 => ?_
  extract_lets -merge +onlyGivenNames x3
  have hx3 : Keeps s0 x3 := by
    unfold x3
    refine foldl_keeps ?_ ?_
    · exact hx1
    · intro x4 x5 hx4
      try beta_reduce
      exact Keeps.transS hx4 (State.setReg_keeps _ _ _)
  clear_value x3; revert x3 hx3; refine Keeps.gen fun x3 hx3 => ?_
  extract_lets -merge +onlyGivenNames x6
  have hx6 : Keeps s0 x6 := by unfold x6; exact Keeps.transS (Keeps.transS hx3 (State.onApply_keeps _ _ _)) (State.onApply_keeps _ _ _)
  clear_value x6; revert x6 hx6; refine Keeps.gen fun x6 hx6 => ?_
  extract_lets -merge +onlyGivenNames x7 x8
  have hx8 : Keeps s0 x8 := by
    unfold x8
    refine foldl_keeps ?_ ?_
    · exact hx6
    · intro x9 x10 hx9
      try beta_reduce
      exact Keeps.transS hx9 (State.setReg_keeps _ _ _)
  clear_value x8; revert x8 hx8; refine Keeps.gen fun x8 hx8 => ?_
  extract_lets -merge +onlyGivenNames x11
  have hx11 : Keeps s0 x11 := by unfold x11; exact Keeps.transS hx8 (State.put_keeps _ _ _)
  clear_value x11; revert x11 hx11; refine Keeps.gen fun x11 hx11 => ?_
  extract_lets -merge +onlyGivenNames x12
  have hx12 : Keeps s0 x12 := by
    unfold x12
    refine foldl_keeps ?_ ?_
    · exact hx11
    · intro x13 x14 hx13
      try beta_reduce
      exact Keeps.transS hx13 (State.setReg_keeps _ _ _)
  clear_value x12; revert x12 hx12; refine Keeps.gen fun x12 hx12 => ?_
  extract_lets -merge +onlyGivenNames x15
  try clear_value x15
  refine keepsS_ite ?_ ?_
  · exact Keeps.upd hx12 rfl
  · exact hx8

theorem State.warmRegs_keeps (s0 : State) : Keeps s0 s0.warmRegs := by
  have h := State.warmWrites_keeps s0
  unfold State.warmRegs
  generalize s0.warmWrites = t at h
  refine (h.transS ?_).transS (State.setReg_keeps _ _ _)
  exact Keeps.of_canonical rfl rfl rfl rfl rfl rfl fun c =>
    { c with regs := Swf_keepBits _ c.regs, shadow := Swf_keepBits _ c.shadow }

theorem State.lanesGone_keeps (s0 : State) : Keeps s0 (State.lanesGone s0) := by
  have h0 := Keeps.refl s0
  unfold State.lanesGone
  refine foldl_keeps ?_ ?_
  · exact h0
  · intro x1 x2 hx1
    try beta_reduce
    exact Keeps.transS hx1 (State.updLane_keeps _ _ _)

theorem State.partCopy_keeps (s0 : State) (b1 : Nat) (b2 : Nat) (b3 : List Word) : Keeps s0 (State.partCopy s0 b1 b2 b3) := by
  have h0 := Keeps.refl s0
  unfold State.partCopy
  extract_lets -merge +onlyGivenNames x1
  try clear_value x1
  extract_lets -merge +onlyGivenNames x2
  try clear_value x2
  extract_lets -merge +onlyGivenNames x3
  have hx3 : Keeps s0 x3 := by
    unfold x3
    refine forN_keeps ?_ ?_
    · exact h0
    · intro x4 x5 hx4
      try beta_reduce
      refine keepsS_ite ?_ ?_
      · exact hx4
      · exact keepsS_ite (Keeps.transS hx4 (State.setBytes_keeps _ _ _)) (keepsS_ite hx4 (Keeps.transS hx4 (State.setBytes_keeps _ _ _)))
  clear_value x3; revert x3 hx3; refine Keeps.gen fun x3 hx3 => ?_
  extract_lets -merge +onlyGivenNames x6
  have hx6 : Keeps s0 x6 := by unfold x6; exact keepsS_ite (Keeps.transS hx3 (State.setReg_keeps _ _ _)) hx3
  clear_value x6; revert x6 hx6; refine Keeps.gen fun x6 hx6 => ?_
  exact Keeps.upd hx6 rfl

theorem State.loadAbandon_keeps (s0 : State) (b1 : State) : Keeps s0 (State.loadAbandon s0 b1) := by
  have h0 := Keeps.refl s0
  unfold State.loadAbandon
  extract_lets -merge +onlyGivenNames x1
  try clear_value x1
  extract_lets -merge +onlyGivenNames x2
  try clear_value x2
  extract_lets -merge +onlyGivenNames x3
  have hx3 : Keeps s0 x3 := by
    unfold x3
    refine foldl_keeps ?_ ?_
    · exact h0
    · intro x4 x5 hx4
      try beta_reduce
      exact Keeps.trans2 hx4 (State.loadEntry_keeps _ _ _)
  clear_value x3; revert x3 hx3; refine Keeps.gen fun x3 hx3 => ?_
  refine keepsS_ite ?_ ?_
  · refine Keeps.transS ?_ (State.fresh_keeps _)
    split
    · exact Keeps.transS hx3 (State.haltFill_keeps _ _)
    · exact hx3
  · split
    · exact Keeps.transS h0 (State.haltFill_keeps _ _)
    · exact keepsS_ite (Keeps.transS h0 (State.partCopy_keeps _ _ _ _)) h0

theorem State.testAbort_keeps (s0 : State) (b1 : State) : Keeps s0 (State.testAbort s0 b1) := by
  have h0 := Keeps.refl s0
  unfold State.testAbort
  split
  · extract_lets -merge +onlyGivenNames x1
    try clear_value x1
    extract_lets -merge +onlyGivenNames x2
    have hx2 : Keeps s0 x2 := by unfold x2; exact Keeps.transS (Keeps.transS h0 (State.put_keeps _ _ _)) (State.fresh_keeps _)
    clear_value x2; revert x2 hx2; refine Keeps.gen fun x2 hx2 => ?_
    exact Keeps.transS (Keeps.transS (Keeps.transS hx2 (State.bankZero_keeps _ _)) (State.put_keeps _ _ _)) (State.put_keeps _ _ _)
  · exact h0

theorem State.warmBegin_keeps (s0 : State) (causes : Word) (toSafe : Bool) : Keeps s0 (s0.warmBegin causes toSafe) := by
  have h1 : Keeps s0 (s0.link.thru.foldl (fun t p => t.carryThru p.1) (s0.flcAbandon true)) :=
    foldl_keeps (State.flcAbandon_keeps _ _) fun u i hu => hu.transS (State.carryThru_keeps _ _)
  unfold State.warmBegin
  dsimp only
  generalize s0.link.thru.foldl (fun t p => t.carryThru p.1) (s0.flcAbandon true) = t1 at h1
  have h2 : Keeps s0 (((t1.warmRegs.testAbort s0).loadAbandon s0).lanesGone.resetUnits) :=
    ((((h1.transS (State.warmRegs_keeps _)).transS (State.testAbort_keeps _ _)).transS (State.loadAbandon_keeps _ _)).transS (State.lanesGone_keeps _)).transS
      (State.resetUnits_keeps _)
  generalize (((t1.warmRegs.testAbort s0).loadAbandon s0).lanesGone.resetUnits) = t at h2
  refine Keeps.transS ?_ (State.setReg_keeps _ _ _)
  refine ⟨h2.pending, fun c => { h2.canonical c with banks := Swf_filter (h2.canonical c).banks _ }, fun l => ?_⟩
  have hp : ∀ q, t.pwrWarm = q → (q.mode ≤ 11 ∧ q.prev ≤ 11 ∧ (∀ m ∈ q.forced, m ≤ 3 ∨ m = 10 ∨ m = 11) ∧ (∀ m ∈ q.cmd, m ≤ 3) ∧
      ∀ x ∈ q.hs, x.target ≤ 3) := by
    intro q hq
    subst hq
    have hl := h2.legal l
    have ha : ∀ m ∈ t.pwr.asleep, m ≤ 3 ∨ m = 10 ∨ m = 11 := fun m hm => .inl (Pwr.asleep_le hm)
    unfold State.pwrWarm Pwr.woken
    dsimp only
    split <;> exact ⟨hl.mode, hl.prev, ha, by simp [Pwr.reset], by simp [Pwr.reset]⟩
  obtain ⟨g1, g2, g3, g4, g5⟩ := hp _ rfl
  exact ⟨g1, g2, g3, g4, g5⟩

theorem State.freeze_keeps (s0 : State) (b1 : Word) : Keeps s0 (State.freeze s0 b1) := by
  have h0 := Keeps.refl s0
  unfold State.freeze
  extract_lets -merge +onlyGivenNames x1
  try clear_value x1
  exact Keeps.upd h0 rfl

theorem State.startBegin_keeps (s0 : State) (b1 : Bool) (b2 : Word) (b3 : Bool) : Keeps s0 (State.startBegin s0 b1 b2 b3) := by
  have h0 := Keeps.refl s0
  unfold State.startBegin
  extract_lets -merge +onlyGivenNames x1
  try clear_value x1
  extract_lets -merge +onlyGivenNames x2
  have hx2 : Keeps s0 x2 := by unfold x2; exact Keeps.transS h0 (State.setReg_keeps _ _ _)
  clear_value x2; revert x2 hx2; refine Keeps.gen fun x2 hx2 => ?_
  extract_lets -merge +onlyGivenNames x3
  have hx3 : Keeps s0 x3 := by unfold x3; exact keepsS_ite (Keeps.transS hx2 (State.freezeJoin_keeps _ _)) hx2
  clear_value x3; revert x3 hx3; refine Keeps.gen fun x3 hx3 => ?_
  extract_lets -merge +onlyGivenNames x4
  try clear_value x4
  refine keepsS_ite ?_ ?_
  · exact Keeps.transS h0 (State.coldBegin_keeps _ _)
  · refine keepsS_ite ?_ ?_
    · refine keepsS_ite ?_ ?_
      · exact Keeps.upd hx3 rfl
      · exact hx2
    · refine keepsS_ite ?_ ?_
      · exact Keeps.transS (Keeps.transS h0 (State.freeze_keeps _ _)) (State.warmBegin_keeps _ _ _)
      · exact Keeps.transS h0 (State.warmBegin_keeps _ _ _)

theorem State.bootHead_keeps (s0 : State) : Keeps2 s0 (State.bootHead s0) := by
  have h0 := Keeps.refl s0
  unfold State.bootHead
  split
  · rename_i heq
    have hx1 := keeps1_of heq (s0 := s0) (by
        exact Keeps.trans1 h0 (State.rscan_keeps _ _ _)
      )
    refine keeps2_mk ?_
    exact hx1

theorem State.bootCheck_keeps (s0 : State) : Keeps s0 (State.bootCheck s0) := by
  have h0 := Keeps.refl s0
  unfold State.bootCheck
  refine keepsS_ite ?_ ?_
  · exact h0
  · split
    · rename_i heq
      have hx1 := keeps2_of heq (s0 := s0) (by
          exact Keeps.trans2 h0 (State.bootHead_keeps _)
        )
      split
      · extract_lets -merge +onlyGivenNames x2
        try clear_value x2
        exact Keeps.upd hx1 rfl
      · exact Keeps.transS hx1 (State.startBegin_keeps _ _ _ _)

theorem State.bootSteps_keeps (s0 : State) : Keeps2 s0 (State.bootSteps s0) := by
  have h0 := Keeps.refl s0
  unfold State.bootSteps
  extract_lets -merge +onlyGivenNames x1
  have hx1 : Keeps s0 x1 := by unfold x1; exact Keeps.transS (Keeps.transS h0 (State.journalFix_keeps _)) (State.rollForward_keeps _)
  clear_value x1; revert x1 hx1; refine Keeps.gen fun x1 hx1 => ?_
  split
  · rename_i heq
    have hx2 := keeps2_of heq (s0 := s0) (by
        exact Keeps.trans2 hx1 (State.startCount_keeps _ _)
      )
    refine keeps2_mk ?_
    exact Keeps.transS (Keeps.transS hx2 (State.bootRead_keeps _)) (State.setMirror_keeps _)

theorem State.repairSet_keeps (s0 : State) (b1 : Nat) (b2 : Nat) (b3 : Nat) : Keeps s0 (State.repairSet s0 b1 b2 b3) := by
  have h0 := Keeps.refl s0
  unfold State.repairSet
  exact Keeps.transS h0 (State.setReg_keeps _ _ _)

theorem State.coldMem_keeps (s0 : State) (b1 : ColdFindings) : Keeps s0 (State.coldMem s0 b1) := by
  have h0 := Keeps.refl s0
  unfold State.coldMem
  extract_lets -merge +onlyGivenNames x1
  have hx1 : Keeps s0 x1 := by
    unfold x1
    refine forN_keeps ?_ ?_
    · exact h0
    · intro x2 x3 hx2
      try beta_reduce
      exact Keeps.transS hx2 (State.bankZero_keeps _ _)
  clear_value x1; revert x1 hx1; refine Keeps.gen fun x1 hx1 => ?_
  extract_lets -merge +onlyGivenNames x4
  have hx4 : Keeps s0 x4 := by
    unfold x4
    refine forN_keeps ?_ ?_
    · exact hx1
    · intro x5 x6 hx5
      try beta_reduce
      exact keepsS_ite (Keeps.transS hx5 (State.bankFail_keeps _ _)) hx5
  clear_value x4; revert x4 hx4; refine Keeps.gen fun x4 hx4 => ?_
  extract_lets -merge +onlyGivenNames x7
  try clear_value x7
  extract_lets -merge +onlyGivenNames x8
  have hx8 : Keeps s0 x8 := by
    unfold x8
    refine forN_keeps ?_ ?_
    · exact hx4
    · intro x9 x10 hx9
      try beta_reduce
      exact Keeps.transS hx9 (State.repairSet_keeps _ _ _ _)
  clear_value x8; revert x8 hx8; refine Keeps.gen fun x8 hx8 => ?_
  extract_lets -merge +onlyGivenNames x11 x12
  have hx12 : Keeps s0 x12 := by unfold x12; exact Keeps.upd hx8 rfl
  clear_value x12; revert x12 hx12; refine Keeps.gen fun x12 hx12 => ?_
  extract_lets -merge +onlyGivenNames x13
  have hx13 : Keeps s0 x13 := by
    unfold x13
    refine foldl_keeps ?_ ?_
    · exact hx12
    · intro x14 x15 hx14
      try beta_reduce
      exact Keeps.transS (Keeps.transS hx14 (State.count_keeps _ _)) (State.put_keeps _ _ _)
  clear_value x13; revert x13 hx13; refine Keeps.gen fun x13 hx13 => ?_
  extract_lets -merge +onlyGivenNames x16
  have hx16 : Keeps s0 x16 := by
    unfold x16
    refine foldl_keeps ?_ ?_
    · exact hx13
    · intro x17 x18 hx17
      try beta_reduce
      exact Keeps.transS (Keeps.transS (Keeps.transS hx17 (State.count_keeps _ _)) (State.put_keeps _ _ _)) (State.setReg_keeps _ _ _)
  clear_value x16; revert x16 hx16; refine Keeps.gen fun x16 hx16 => ?_
  exact Keeps.transS hx16 (State.put_keeps _ _ _)

theorem State.coldSteps_keeps (s0 : State) (b1 : ColdFindings) : Keeps s0 (State.coldSteps s0 b1) := by
  have h0 := Keeps.refl s0
  unfold State.coldSteps
  extract_lets -merge +onlyGivenNames x1
  have hx1 : Keeps s0 x1 := by unfold x1; exact Keeps.transS h0 (State.coldMem_keeps _ _)
  clear_value x1; revert x1 hx1; refine Keeps.gen fun x1 hx1 => ?_
  extract_lets -merge +onlyGivenNames x2
  try clear_value x2
  extract_lets -merge +onlyGivenNames x3
  have hx3 : Keeps s0 x3 := by unfold x3; exact Keeps.upd hx1 rfl
  clear_value x3; revert x3 hx3; refine Keeps.gen fun x3 hx3 => ?_
  extract_lets -merge +onlyGivenNames x4
  try clear_value x4
  refine keepsS_ite ?_ ?_
  · refine Keeps.transS ?_ (State.snapRestore_keeps _)
    exact Keeps.upd hx3 rfl
  · exact hx3

theorem State.recoveryOn_keeps (s0 : State) : Keeps s0 (State.recoveryOn s0) := by
  have h0 := Keeps.refl s0
  unfold State.recoveryOn
  extract_lets -merge +onlyGivenNames x1
  have hx1 : Keeps s0 x1 := by unfold x1; exact Keeps.transS (Keeps.transS h0 (State.put_keeps _ _ _)) (State.put_keeps _ _ _)
  clear_value x1; revert x1 hx1; refine Keeps.gen fun x1 hx1 => ?_
  exact Keeps.transS (Keeps.transS (Keeps.transS hx1 (State.put_keeps _ _ _)) (State.put_keeps _ _ _)) (State.put_keeps _ _ _)

theorem State.coreRelease_keeps (s0 : State) (b : Bool) : Keeps s0 (s0.coreRelease b) := by
  unfold State.coreRelease
  extract_lets -merge +onlyGivenNames st dur x1
  have h1 : Keeps s0 x1 := State.setReg_keeps _ _ _
  clear_value x1
  extract_lets -merge +onlyGivenNames src x2
  have h2 : Keeps s0 x2 := by
    refine h1.modes rfl fun l => ?_
    have l := h1.legal l
    refine ⟨?_, l.prev, ?_, l.cmd, l.hs⟩
    · have := l.mode
      unfold x2
      dsimp only
      split <;> omega
    · unfold x2
      dsimp only
      split <;> simp
  clear_value x2
  extract_lets -merge +onlyGivenNames x3
  have h3 : Keeps s0 x3 := keepsS_ite (h2.transS (State.recoveryOn_keeps _)) h2
  exact h3.transS (State.coreStart_keeps _ _ _)

theorem State.warmErrors_keeps (s0 : State) (b1 : ColdFindings) : Keeps s0 (State.warmErrors s0 b1) := by
  have h0 := Keeps.refl s0
  unfold State.warmErrors
  extract_lets -merge +onlyGivenNames x1
  try clear_value x1
  extract_lets -merge +onlyGivenNames x2 x3
  have hx3 : Keeps s0 x3 := by unfold x3; exact Keeps.upd h0 rfl
  clear_value x3; revert x3 hx3; refine Keeps.gen fun x3 hx3 => ?_
  refine foldl_keeps ?_ ?_
  · exact hx3
  · intro x4 x5 hx4
    try beta_reduce
    exact Keeps.transS (Keeps.transS hx4 (State.count_keeps _ _)) (State.put_keeps _ _ _)

theorem State.releaseCore0_keeps (s0 : State) (b1 : ColdFindings) : Keeps s0 (State.releaseCore0 s0 b1) := by
  have h0 := Keeps.refl s0
  unfold State.releaseCore0
  extract_lets -merge +onlyGivenNames x1
  have hx1 : Keeps s0 x1 := by
    unfold x1
    exact keepsS_ite (Keeps.transS h0 (State.coldSteps_keeps _ _)) (Keeps.transS h0 (State.warmErrors_keeps _ _))
  clear_value x1; revert x1 hx1; refine Keeps.gen fun x1 hx1 => ?_
  refine keepsS_ite ?_ ?_
  · exact h0
  · split
    · rename_i heq
      have hx2 := keeps2_of heq (s0 := s0) (by
          exact Keeps.trans2 hx1 (State.bootSteps_keeps _)
        )
      exact Keeps.transS (Keeps.transS (Keeps.transS hx2 (State.coreRelease_keeps _ _)) (State.settle_keeps _)) (State.bootCheck_keeps _)

theorem State.flcResume_keeps (s0 : State) : Keeps s0 (State.flcResume s0) := by
  have h0 := Keeps.refl s0
  unfold State.flcResume
  split
  · extract_lets -merge +onlyGivenNames x1
    try clear_value x1
    refine keepsS_ite ?_ ?_
    · exact Keeps.upd h0 rfl
    · exact h0
  · exact h0

theorem State.envGo_keeps (s0 : State) : Keeps s0 (State.envGo s0) := by
  have h0 := Keeps.refl s0
  unfold State.envGo
  exact keepsS_ite (Keeps.transS h0 (State.envOn_keeps _)) h0

theorem State.radioGo_keeps (s0 : State) : Keeps s0 (State.radioGo s0) := by
  have h0 := Keeps.refl s0
  unfold State.radioGo
  extract_lets -merge +onlyGivenNames x1
  have hx1 : Keeps s0 x1 := by unfold x1; exact Keeps.transS (Keeps.transS h0 (State.rfeTryStart_keeps _)) (State.claimWaiting_keeps _)
  clear_value x1; revert x1 hx1; refine Keeps.gen fun x1 hx1 => ?_
  extract_lets -merge +onlyGivenNames x2
  have hx2 : Keeps s0 x2 := by unfold x2; exact keepsS_ite hx1 (Keeps.transS hx1 (State.waitedStarts_keeps _))
  clear_value x2; revert x2 hx2; refine Keeps.gen fun x2 hx2 => ?_
  extract_lets -merge +onlyGivenNames x3
  try clear_value x3
  exact keepsS_ite (Keeps.transS hx2 (State.setEng_keeps _ _ _)) hx2

theorem State.heldGo_keeps (s0 : State) : Keeps s0 (State.heldGo s0) := by
  have h0 := Keeps.refl s0
  unfold State.heldGo
  extract_lets -merge +onlyGivenNames x1
  have hx1 : Keeps s0 x1 := by unfold x1; exact Keeps.transS (Keeps.transS h0 (State.radioGo_keeps _)) (State.envGo_keeps _)
  clear_value x1; revert x1 hx1; refine Keeps.gen fun x1 hx1 => ?_
  extract_lets -merge +onlyGivenNames x2 x3
  have hx3 : Keeps s0 x3 := by unfold x3; exact Keeps.upd hx1 rfl
  clear_value x3; revert x3 hx3; refine Keeps.gen fun x3 hx3 => ?_
  refine foldl_keeps ?_ ?_
  · exact hx3
  · intro x4 x5 hx4
    try beta_reduce
    exact Keeps.transS hx4 (State.bankMove_keeps _ _ _)

theorem State.hsReport_keeps (s0 : State) (b1 : Nat) (b2 : Nat) (b3 : Nat) (b4 : Nat) (b5 : Nat) : Keeps s0 (State.hsReport s0 b1 b2 b3 b4 b5) := by
  have h0 := Keeps.refl s0
  unfold State.hsReport
  extract_lets -merge +onlyGivenNames x1
  try clear_value x1
  exact Keeps.transS (Keeps.transS (Keeps.transS h0 (State.setReg_keeps _ _ _)) (State.put_keeps _ _ _)) (State.postBoth_keeps _ _ _ _)

theorem State.hsEnd_keeps (s0 : State) (code unit domain target high : Nat) (auto : Bool) :
    Keeps s0 (s0.hsEnd code unit domain target high auto) := by
  unfold State.hsEnd
  extract_lets -merge +onlyGivenNames task cores src x1
  have hx1 : Keeps s0 x1 := (Keeps.refl s0).modes rfl fun l => { l with hs := by simp [x1] }
  clear_value x1 cores task
  extract_lets -merge +onlyGivenNames x2
  have hx2 : Keeps s0 x2 := (hx1.transS (State.hsReport_keeps _ _ _ _ _ _)).transS (State.heldGo_keeps _)
  clear_value x2
  extract_lets -merge +onlyGivenNames x3
  have hx3 : Keeps s0 x3 := keepsS_ite (hx2.transS (State.coreStart_keeps _ _ _)) hx2
  exact keepsS_ite (hx3.transS (State.wakeTask_keeps _ _)) hx3

theorem State.hsAsk_keeps {s0 s : State} (k : Keeps s0 s) (h : Hs) (ht : s0.legalMode → h.target ≤ 3) (n : Nat) :
    Keeps s0 (s.hsAsk h n) := by
  induction n generalizing h s with
  | zero => exact k.modes rfl fun l => { k.legal l with hs := by simpa [State.hsAsk] using ht l }
  | succ n ih =>
    unfold State.hsAsk
    split
    · exact ih k _ ht
    · extract_lets -merge +onlyGivenNames x
      have hx : Keeps s0 x := by
        unfold x
        exact keepsS_ite (k.transS (State.flcResume_keeps _)) k
      exact hx.modes rfl fun l => { hx.legal l with hs := by simpa using ht l }
    · exact k.transS (State.hsEnd_keeps _ _ _ _ _ _ _)

theorem State.hsBegin_keeps (s0 : State) (m : Nat) (auto : Bool) (ht : s0.legalMode → m ≤ 3) : Keeps s0 (s0.hsBegin m auto) := by
  have h : Keeps s0 { s0 with pwr := { s0.pwr with cmd := none, target := m, wakePend := false, wakeReq := 0, wakeCores := 0, wakeGot := 0 } } :=
    (Keeps.refl s0).modes rfl fun l => { l with cmd := by simp }
  exact State.hsAsk_keeps h _ ht 4

theorem State.sleepTry_keeps (s0 : State) : Keeps s0 s0.sleepTry := by
  have h0 := Keeps.refl s0
  unfold State.sleepTry
  refine keepsS_ite ?_ h0
  split
  · rename_i m e
    exact State.hsBegin_keeps s0 m false fun l => l.cmd m e
  · refine keepsS_ite ?_ h0
    split
    · rename_i m e
      refine State.hsBegin_keeps s0 m true fun _ => ?_
      unfold State.autoChoice at e
      dsimp only at e
      repeat' split at e
      all_goals first | (simp only [Option.some.injEq] at e; omega) | (simp at e)
    · exact h0

theorem State.ripStep_keeps (s0 : State) : Keeps s0 (State.ripStep s0) := by
  have h0 := Keeps.refl s0
  unfold State.ripStep
  extract_lets -merge +onlyGivenNames x1
  try clear_value x1
  extract_lets -merge +onlyGivenNames x2
  try clear_value x2
  refine keepsS_ite ?_ ?_
  · exact h0
  · refine Keeps.transS ?_ (State.startBegin_keeps _ _ _ _)
    exact Keeps.upd h0 rfl

theorem State.hoverWake_keeps (s0 : State) (named : Option Nat) : Keeps s0 (s0.hoverWake named) := by
  unfold State.hoverWake
  extract_lets -merge +onlyGivenNames x1
  have h1 : Keeps s0 x1 := State.banksTo_keeps _ _
  clear_value x1
  extract_lets -merge +onlyGivenNames v x2
  have h2 : Keeps s0 x2 := h1.modes rfl fun l => by
    have := h1.legal l
    exact ⟨this.mode, this.prev, by simp [x2], this.cmd, this.hs⟩
  clear_value x2
  extract_lets -merge +onlyGivenNames src x3
  have h3 : Keeps s0 x3 := keepsS_ite h2 (Keeps.upd h2 rfl)
  clear_value x3
  extract_lets -merge +onlyGivenNames starts x4
  have h4 : Keeps s0 x4 := keepsS_ite (h3.transS (State.coreStart_keeps _ _ _)) h3
  clear_value x4
  extract_lets -merge +onlyGivenNames x5
  have h5 : Keeps s0 x5 := keepsS_ite (h4.transS (State.coreStart_keeps _ _ _)) h4
  exact (h5.transS (State.envGo_keeps _)).transS (State.postBoth_keeps _ _ _ _)

theorem State.wakeNote_keeps (s0 : State) (b1 : Word) : Keeps s0 (State.wakeNote s0 b1) := by
  have h0 := Keeps.refl s0
  unfold State.wakeNote
  exact Keeps.transS h0 (State.setReg_keeps _ _ _)

theorem State.wake_keeps (s0 : State) (b1 : Nat) (b2 : Word) (b3 : Nat) : Keeps s0 (State.wake s0 b1 b2 b3) := by
  have h0 := Keeps.refl s0
  unfold State.wake
  split
  · exact Keeps.transS (Keeps.transS h0 (State.wakeNote_keeps _ _)) (State.hoverWake_keeps _ _)
  · exact Keeps.transS (Keeps.transS h0 (State.startBegin_keeps _ _ _ _)) (State.wakeNote_keeps _ _)
  · exact Keeps.transS (Keeps.transS h0 (State.startBegin_keeps _ _ _ _)) (State.wakeNote_keeps _ _)
  · exact Keeps.transS (Keeps.transS h0 (State.startBegin_keeps _ _ _ _)) (State.wakeNote_keeps _ _)

theorem State.wakeStep_keeps (s0 : State) : Keeps s0 s0.wakeStep := by
  unfold State.wakeStep
  extract_lets -merge +onlyGivenNames req cores src off
  have ho : Keeps s0 off := Keeps.upd (Keeps.refl s0) rfl
  clear_value off
  split
  · refine keepsS_ite ho (Keeps.transS ?_ (State.wake_keeps _ _ _ _))
    exact Keeps.upd ho rfl
  · refine keepsS_ite ho ?_
    exact (State.wakeNote_keeps s0 _).upd rfl
  · exact ho

theorem State.fioStep_keeps (s0 : State) : Keeps s0 (State.fioStep s0) := by
  have h0 := Keeps.refl s0
  unfold State.fioStep
  extract_lets -merge +onlyGivenNames x1
  have hx1 : Keeps s0 x1 := by unfold x1; exact Keeps.transS h0 (State.carryOn_keeps _)
  clear_value x1; revert x1 hx1; refine Keeps.gen fun x1 hx1 => ?_
  extract_lets -merge +onlyGivenNames x2
  try clear_value x2
  refine keepsS_ite ?_ ?_
  · exact Keeps.upd hx1 rfl
  · exact h0

theorem State.hoverXtalOff_keeps (s0 : State) : Keeps s0 (State.hoverXtalOff s0) := by
  have h0 := Keeps.refl s0
  unfold State.hoverXtalOff
  extract_lets -merge +onlyGivenNames x1
  have hx1 : Keeps s0 x1 := by unfold x1; exact keepsS_ite h0 (Keeps.transS h0 (State.rfeStop_keeps _))
  clear_value x1; revert x1 hx1; refine Keeps.gen fun x1 hx1 => ?_
  exact Keeps.transS hx1 (State.xtalStop_keeps _)

theorem State.hoverStep_keeps (s0 : State) : Keeps s0 (State.hoverStep s0) := by
  have h0 := Keeps.refl s0
  unfold State.hoverStep
  exact keepsS_ite (Keeps.transS h0 (State.hoverXtalOff_keeps _)) h0

theorem doneW_keeps (s0 : State) : KeepsO s0 (doneW s0) := by
  have h0 := Keeps.refl s0
  unfold doneW
  refine Keeps.transO ?_ (done_keeps _)
  refine Keeps.transS ?_ (State.ripStep_keeps _)
  refine Keeps.transS ?_ (State.wakeStep_keeps _)
  refine Keeps.transS ?_ (State.fioStep_keeps _)
  exact Keeps.transS (Keeps.transS (Keeps.transS h0 (State.boundaries_keeps _)) (State.settle_keeps _)) (State.hoverStep_keeps _)

theorem State.cmdTry_keeps (s0 : State) : Keeps s0 (State.cmdTry s0) := by
  have h0 := Keeps.refl s0
  unfold State.cmdTry
  exact keepsS_ite (Keeps.transS h0 (State.sleepTry_keeps _)) h0

theorem State.hsDebug_keeps (s0 : State) : Keeps s0 (State.hsDebug s0) := by
  have h0 := Keeps.refl s0
  unfold State.hsDebug
  split
  · exact Keeps.transS (Keeps.transS (Keeps.transS h0 (State.hsEnd_keeps _ _ _ _ _ _ _)) (State.fresh_keeps _)) (State.cmdTry_keeps _)
  · exact h0

theorem State.padHold_keeps (s0 : State) : Keeps s0 (State.padHold s0) := by
  have h0 := Keeps.refl s0
  unfold State.padHold
  extract_lets -merge +onlyGivenNames x1
  try clear_value x1
  refine keepsS_ite ?_ ?_
  · exact h0
  · exact Keeps.upd h0 rfl

theorem State.hoverSub_keeps (s0 : State) : Keeps s0 (State.hoverSub s0) := by
  have h0 := Keeps.refl s0
  unfold State.hoverSub
  extract_lets -merge +onlyGivenNames x1
  try clear_value x1
  extract_lets -merge +onlyGivenNames x2
  have hx2 : Keeps s0 x2 := by unfold x2; exact Keeps.transS h0 (State.count_keeps _ _)
  clear_value x2; revert x2 hx2; refine Keeps.gen fun x2 hx2 => ?_
  extract_lets -merge +onlyGivenNames x3 x4
  refine keepsS_ite ?_ ?_
  · exact Keeps.upd hx2 rfl
  · refine keepsS_ite ?_ ?_
    · exact Keeps.upd h0 rfl
    · exact h0

theorem State.sleepReach_keeps (s0 : State) (m : Nat) (hm : s0.legalMode → m ≤ 3) : Keeps s0 (s0.sleepReach m) := by
  unfold State.sleepReach
  extract_lets -merge +onlyGivenNames x1
  have h1 : Keeps s0 x1 := State.setReg_keeps _ _ _
  clear_value x1
  extract_lets -merge +onlyGivenNames x2
  have h2 : Keeps s0 x2 := h1.transS (State.banksTo_keeps _ _)
  clear_value x2
  extract_lets -merge +onlyGivenNames x3
  have h3 : Keeps s0 x3 := keepsS_ite h2 (h2.transS (State.padHold_keeps _))
  clear_value x3
  extract_lets -merge +onlyGivenNames x4
  have h4 : Keeps s0 x4 := keepsS_ite h3 (h3.transS (State.hoverXtalOff_keeps _))
  clear_value x4
  extract_lets -merge +onlyGivenNames src x5
  have h5 : Keeps s0 x5 := keepsS_ite (Keeps.upd h4 rfl) h4
  clear_value x5
  extract_lets -merge +onlyGivenNames src x6
  have h6 : Keeps s0 x6 := h5.modes rfl fun l =>
    { h5.legal l with
      forced := by
        have := hm l
        intro k hk
        simp [x6] at hk
        omega
      hs := by simp [x6] }
  clear_value x6
  extract_lets -merge +onlyGivenNames src x7
  have h7 : Keeps s0 x7 := keepsS_ite h6 (Keeps.upd h6 rfl)
  exact keepsS_ite ((h7.transS (State.radioGo_keeps _)).transS (State.hoverSub_keeps _)) h7

theorem State.hoverXtalOn_keeps (s0 : State) : Keeps s0 (State.hoverXtalOn s0) := by
  have h0 := Keeps.refl s0
  unfold State.hoverXtalOn
  extract_lets -merge +onlyGivenNames x1
  try clear_value x1
  refine keepsS_ite ?_ ?_
  · exact Keeps.upd h0 rfl
  · exact h0

theorem State.hsAgain_keeps (s0 : State) : Keeps s0 s0.hsAgain := by
  unfold State.hsAgain
  split
  · rename_i h e
    refine keepsS_ite ((State.hsAsk_keeps (Keeps.refl s0) _ ?_ _).transS (State.cmdTry_keeps _)) (Keeps.refl s0)
    exact fun l => l.hs h e
  · exact Keeps.refl s0

theorem State.hsTimeout_keeps (s0 : State) : Keeps s0 (State.hsTimeout s0) := by
  have h0 := Keeps.refl s0
  unfold State.hsTimeout
  split
  · exact keepsS_ite (Keeps.transS (Keeps.transS h0 (State.hsEnd_keeps _ _ _ _ _ _ _)) (State.cmdTry_keeps _)) h0
  · exact h0

theorem State.swrst_keeps (s0 : State) (b1 : BitVec 16) (b2 : Nat) : Keeps s0 (State.swrst s0 b1 b2) := by
  have h0 := Keeps.refl s0
  unfold State.swrst
  refine keepsS_ite ?_ ?_
  · exact h0
  · split
    · exact Keeps.transS h0 (State.startBegin_keeps _ _ _ _)
    · exact Keeps.transS h0 (State.coreReset_keeps _ _)
    · exact Keeps.transS h0 (State.coreReset_keeps _ _)
    · exact h0

theorem State.c1ctl_keeps (s0 : State) (b1 : Word) : Keeps s0 (State.c1ctl s0 b1) := by
  have h0 := Keeps.refl s0
  unfold State.c1ctl
  extract_lets -merge +onlyGivenNames x1
  have hx1 : Keeps s0 x1 := by unfold x1; exact Keeps.transS h0 (State.writeReg_keeps _ _ _)
  clear_value x1; revert x1 hx1; refine Keeps.gen fun x1 hx1 => ?_
  exact keepsS_ite (Keeps.transS hx1 (State.sleepTry_keeps _)) hx1

theorem State.bootGood_keeps (s0 : State) (b1 : BitVec 16) : Keeps s0 (State.bootGood s0 b1) := by
  have h0 := Keeps.refl s0
  unfold State.bootGood
  refine keepsS_ite ?_ ?_
  · split
    · rename_i heq
      have hx1 := keeps2_of heq (s0 := s0) (by
          exact Keeps.trans2 h0 (State.attRead_keeps _)
        )
      exact Keeps.transS hx1 (State.attPut_keeps _ _ _ _)
  · exact h0

theorem State.safeExit_keeps (s0 : State) (b1 : BitVec 16) : Keeps s0 (State.safeExit s0 b1) := by
  have h0 := Keeps.refl s0
  unfold State.safeExit
  exact keepsS_ite (Keeps.transS h0 (State.startBegin_keeps _ _ _ _)) h0

theorem State.wdtKick_keeps (s0 : State) (b1 : Nat) (b2 : BitVec 16) : Keeps s0 (State.wdtKick s0 b1 b2) := by
  have h0 := Keeps.refl s0
  unfold State.wdtKick
  exact keepsS_ite (Keeps.transS h0 (State.setWdt_keeps _ _ _)) h0

theorem State.backupReset_keeps (s0 : State) : Keeps s0 s0.backupReset :=
  Keeps.of_canonical rfl rfl rfl rfl rfl rfl fun c => { c with regs := Swf_filter c.regs _ }

theorem State.mirrorLoad_keeps (s0 : State) : Keeps s0 (State.mirrorLoad s0) := by
  have h0 := Keeps.refl s0
  unfold State.mirrorLoad
  extract_lets -merge +onlyGivenNames x1
  try clear_value x1
  extract_lets -merge +onlyGivenNames x2
  have hx2 : Keeps s0 x2 := by unfold x2; exact keepsS_ite h0 (Keeps.transS h0 (State.clearRange_keeps _ _ _))
  clear_value x2; revert x2 hx2; refine Keeps.gen fun x2 hx2 => ?_
  refine forN_keeps ?_ ?_
  · exact hx2
  · intro x3 x4 hx3
    try beta_reduce
    extract_lets -merge +onlyGivenNames x5
    try clear_value x5
    refine keepsS_ite ?_ ?_
    · exact Keeps.transS (Keeps.transS (Keeps.transS hx3 (State.setWord_keeps _ _ _)) (State.put_keeps _ _ _)) (State.ballastUe_keeps _ _)
    · exact Keeps.transS hx3 (State.setWord_keeps _ _ _)

theorem execSoftwareResetDevice_keeps (b0 : BitVec 16) (s0 : State) : KeepsO s0 (execSoftwareResetDevice b0 s0) := by
  have h0 := Keeps.refl s0
  unfold execSoftwareResetDevice
  exact Keeps.transO (Keeps.transS h0 (State.swrst_keeps _ _ _)) (done_keeps _)

theorem execCore0Reset_keeps (b0 : BitVec 16) (s0 : State) : KeepsO s0 (execCore0Reset b0 s0) := by
  have h0 := Keeps.refl s0
  unfold execCore0Reset
  exact Keeps.transO (Keeps.transS h0 (State.swrst_keeps _ _ _)) (done_keeps _)

theorem execCore1Reset_keeps (b0 : BitVec 16) (s0 : State) : KeepsO s0 (execCore1Reset b0 s0) := by
  have h0 := Keeps.refl s0
  unfold execCore1Reset
  exact Keeps.transO (Keeps.transS h0 (State.swrst_keeps _ _ _)) (done_keeps _)

theorem execDoubleFault_keeps (b0 : CoreId) (b1 : Nat) (s0 : State) : KeepsO s0 (execDoubleFault b0 b1 s0) := by
  have h0 := Keeps.refl s0
  unfold execDoubleFault
  extract_lets -merge +onlyGivenNames x1
  have hx1 : Keeps s0 x1 := by unfold x1; exact Keeps.transS h0 (State.at__keeps _ _)
  clear_value x1; revert x1 hx1; refine Keeps.gen fun x1 hx1 => ?_
  extract_lets -merge +onlyGivenNames x2
  try clear_value x2
  refine Keeps.transO ?_ (done_keeps _)
  exact keepsS_ite (Keeps.transS hx1 (State.startBegin_keeps _ _ _ _)) hx1

theorem execWatchdogExpiry_keeps (b0 : CoreId) (b1 : Nat) (s0 : State) : KeepsO s0 (execWatchdogExpiry b0 b1 s0) := by
  have h0 := Keeps.refl s0
  unfold execWatchdogExpiry
  extract_lets -merge +onlyGivenNames x1
  have hx1 : Keeps s0 x1 := by unfold x1; exact Keeps.transS h0 (State.at__keeps _ _)
  clear_value x1; revert x1 hx1; refine Keeps.gen fun x1 hx1 => ?_
  extract_lets -merge +onlyGivenNames x2
  try clear_value x2
  refine Keeps.transO ?_ (done_keeps _)
  exact keepsS_ite (Keeps.transS hx1 (State.startBegin_keeps _ _ _ _)) hx1

theorem execWdtHalfTimeout_keeps (b0 : CoreId) (b1 : Nat) (s0 : State) : KeepsO s0 (execWdtHalfTimeout b0 b1 s0) := by
  have h0 := Keeps.refl s0
  unfold execWdtHalfTimeout
  extract_lets -merge +onlyGivenNames x1
  have hx1 : Keeps s0 x1 := by unfold x1; exact Keeps.transS h0 (State.at__keeps _ _)
  clear_value x1; revert x1 hx1; refine Keeps.gen fun x1 hx1 => ?_
  extract_lets -merge +onlyGivenNames x2
  try clear_value x2
  extract_lets -merge +onlyGivenNames x3
  try clear_value x3
  refine Keeps.transO ?_ (doneW_keeps _)
  refine keepsS_ite ?_ ?_
  · exact Keeps.transS (Keeps.transS (Keeps.transS hx1 (State.setWdt_keeps _ _ _)) (State.postBoth_keeps _ _ _ _)) (State.fresh_keeps _)
  · exact hx1

theorem execWdtKick_keeps (b0 : CoreId) (b1 : BitVec 16) (s0 : State) : KeepsO s0 (execWdtKick b0 b1 s0) := by
  have h0 := Keeps.refl s0
  unfold execWdtKick
  exact Keeps.transO (Keeps.transS h0 (State.wdtKick_keeps _ _ _)) (done_keeps _)

theorem execStartCalibrationDone_keeps (b0 : Nat) (s0 : State) : KeepsO s0 (execStartCalibrationDone b0 s0) := by
  have h0 := Keeps.refl s0
  unfold execStartCalibrationDone
  extract_lets -merge +onlyGivenNames x1
  have hx1 : Keeps s0 x1 := by unfold x1; exact Keeps.transS h0 (State.at__keeps _ _)
  clear_value x1; revert x1 hx1; refine Keeps.gen fun x1 hx1 => ?_
  extract_lets -merge +onlyGivenNames x2
  try clear_value x2
  extract_lets -merge +onlyGivenNames x3
  try clear_value x3
  extract_lets -merge +onlyGivenNames x4
  have hx4 : Keeps s0 x4 := by
    unfold x4
    refine forN_keeps ?_ ?_
    · exact Keeps.upd hx1 rfl
    · intro x5 x6 hx5
      try beta_reduce
      exact Keeps.transS hx5 (State.calEntry_keeps _ _)
  clear_value x4; revert x4 hx4; refine Keeps.gen fun x4 hx4 => ?_
  extract_lets -merge +onlyGivenNames x7
  have hx7 : Keeps s0 x7 := by unfold x7; exact Keeps.transS hx4 (State.rfeTryStart_keeps _)
  clear_value x7; revert x7 hx7; refine Keeps.gen fun x7 hx7 => ?_
  refine Keeps.transO ?_ (doneB_keeps _)
  exact keepsS_ite (keepsS_ite (Keeps.transS hx7 (State.envOn_keeps _)) hx7) hx1

theorem execSafeExit_keeps (b0 : BitVec 16) (s0 : State) : KeepsO s0 (execSafeExit b0 s0) := by
  have h0 := Keeps.refl s0
  unfold execSafeExit
  exact Keeps.transO (Keeps.transS h0 (State.safeExit_keeps _ _)) (done_keeps _)

theorem execC1ctlRunWrite_keeps (b0 : Bool) (s0 : State) : KeepsO s0 (execC1ctlRunWrite b0 s0) := by
  have h0 := Keeps.refl s0
  unfold execC1ctlRunWrite
  exact Keeps.transO (Keeps.transS h0 (State.c1ctl_keeps _ _)) (doneW_keeps _)

theorem execBootGood_keeps (b0 : BitVec 16) (s0 : State) : KeepsO s0 (execBootGood b0 s0) := by
  have h0 := Keeps.refl s0
  unfold execBootGood
  exact Keeps.transO (Keeps.transS h0 (State.bootGood_keeps _ _)) (done_keeps _)

theorem execPowerOnReset_keeps (s0 : State) : KeepsO s0 (execPowerOnReset s0) := by
  have h0 := Keeps.refl s0
  unfold execPowerOnReset
  exact Keeps.transO (Keeps.transS h0 (State.startBegin_keeps _ _ _ _)) (done_keeps _)

theorem execNrstLow_keeps (s0 : State) : KeepsO s0 (execNrstLow s0) := by
  have h0 := Keeps.refl s0
  unfold execNrstLow
  exact Keeps.transO (Keeps.transS h0 (State.startBegin_keeps _ _ _ _)) (done_keeps _)

theorem execBrownout_keeps (s0 : State) : KeepsO s0 (execBrownout s0) := by
  have h0 := Keeps.refl s0
  unfold execBrownout
  exact Keeps.transO (Keeps.transS h0 (State.startBegin_keeps _ _ _ _)) (done_keeps _)

theorem execBackupDomainReset_keeps (s0 : State) : KeepsO s0 (execBackupDomainReset s0) := by
  have h0 := Keeps.refl s0
  unfold execBackupDomainReset
  exact Keeps.transO (Keeps.transS h0 (State.backupReset_keeps _)) (done_keeps _)

theorem execDebugNdmreset_keeps (s0 : State) : KeepsO s0 (execDebugNdmreset s0) := by
  have h0 := Keeps.refl s0
  unfold execDebugNdmreset
  exact Keeps.transO (Keeps.transS h0 (State.startBegin_keeps _ _ _ _)) (done_keeps _)

theorem execReplayMirrorLoadDone_keeps (s0 : State) : KeepsO s0 (execReplayMirrorLoadDone s0) := by
  have h0 := Keeps.refl s0
  unfold execReplayMirrorLoadDone
  extract_lets -merge +onlyGivenNames x1
  have hx1 : Keeps s0 x1 := by unfold x1; exact Keeps.transS h0 (State.mirrorLoad_keeps _)
  clear_value x1; revert x1 hx1; refine Keeps.gen fun x1 hx1 => ?_
  extract_lets -merge +onlyGivenNames x2
  try clear_value x2
  refine Keeps.transO ?_ (doneW_keeps _)
  refine keepsS_ite ?_ ?_
  · refine Keeps.transS ?_ (State.waitedStarts_keeps _)
    exact Keeps.upd hx1 rfl
  · exact h0

theorem State.schedAt_keeps (s0 : State) : Keeps s0 (State.schedAt s0) := by
  have h0 := Keeps.refl s0
  unfold State.schedAt
  extract_lets -merge +onlyGivenNames x1
  try clear_value x1
  refine keepsS_ite ?_ ?_
  · exact Keeps.upd h0 rfl
  · exact Keeps.transS h0 (State.put_keeps _ _ _)

theorem State.schedCancel_keeps (s0 : State) : Keeps s0 (State.schedCancel s0) := by
  have h0 := Keeps.refl s0
  unfold State.schedCancel
  extract_lets -merge +onlyGivenNames x1
  try clear_value x1
  exact Keeps.upd h0 rfl

theorem State.stuckCheck_keeps (s0 : State) : Keeps s0 (State.stuckCheck s0) := by
  have h0 := Keeps.refl s0
  unfold State.stuckCheck
  exact keepsS_ite (Keeps.transS h0 (State.stick_keeps _)) h0

theorem execUnitSafeBoundary_keeps (b0 : Nat) (b1 : Nat) (s0 : State) : KeepsO s0 (execUnitSafeBoundary b0 b1 s0) := by
  have h0 := Keeps.refl s0
  unfold execUnitSafeBoundary
  extract_lets -merge +onlyGivenNames x1
  have hx1 : Keeps s0 x1 := by unfold x1; exact Keeps.transS h0 (State.at__keeps _ _)
  clear_value x1; revert x1 hx1; refine Keeps.gen fun x1 hx1 => ?_
  extract_lets -merge +onlyGivenNames x2
  have hx2 : Keeps s0 x2 := by
    unfold x2
    exact keepsS_ite (Keeps.transS (Keeps.transS hx1 (State.applyUnit_keeps _ _)) (State.afterPend_keeps _ _)) hx1
  clear_value x2; revert x2 hx2; refine Keeps.gen fun x2 hx2 => ?_
  refine Keeps.transO ?_ (doneW_keeps _)
  exact keepsS_ite (Keeps.transS hx2 (State.applyUnit_keeps _ _)) hx2

theorem execLagLimitExpiry_keeps (b0 : Nat) (s0 : State) : KeepsO s0 (execLagLimitExpiry b0 s0) := by
  have h0 := Keeps.refl s0
  unfold execLagLimitExpiry
  exact Keeps.transO (Keeps.transS (Keeps.transS h0 (State.at__keeps _ _)) (State.stuckCheck_keeps _)) (doneW_keeps _)

theorem execEpochNow_keeps (s0 : State) : KeepsO s0 (execEpochNow s0) := by
  have h0 := Keeps.refl s0
  unfold execEpochNow
  exact Keeps.transO (Keeps.transS h0 (State.switchDue_keeps _ _ _)) (doneW_keeps _)

theorem execEpochAt_keeps (s0 : State) : KeepsO s0 (execEpochAt s0) := by
  have h0 := Keeps.refl s0
  unfold execEpochAt
  exact Keeps.transO (Keeps.transS h0 (State.schedAt_keeps _)) (done_keeps _)

theorem execEpochCancel_keeps (s0 : State) : KeepsO s0 (execEpochCancel s0) := by
  have h0 := Keeps.refl s0
  unfold execEpochCancel
  exact Keeps.transO (Keeps.transS h0 (State.schedCancel_keeps _)) (done_keeps _)

theorem execDigestRecomputeDone_keeps (s0 : State) : KeepsO s0 (execDigestRecomputeDone s0) := by
  have h0 := Keeps.refl s0
  unfold execDigestRecomputeDone
  exact Keeps.transO (Keeps.transS h0 (State.recompute_keeps _)) (done_keeps _)

end Sys2Proof.Machine
end

