-- ==== Sys2Proof/Laws/KeepsRadio.lean ====
section
/-! SUPPORT. `Keeps` of the radio and the Envelope: each keeps the queue, the canonical form and legal modes. -/

namespace Sys2Proof.Machine

theorem State.bgStart_keeps (s0 : State) (b1 : BgCal) : Keeps s0 (State.bgStart s0 b1) := by
  have h0 := Keeps.refl s0
  unfold State.bgStart
  extract_lets -merge +onlyGivenNames x1
  have hx1 : Keeps s0 x1 := by unfold x1; exact Keeps.transS h0 (State.rf_keeps _ _)
  clear_value x1; revert x1 hx1; refine Keeps.gen fun x1 hx1 => ?_
  exact keepsS_ite (Keeps.transS hx1 (State.bgNext_keeps _)) hx1

theorem State.bgStop_keeps (s0 : State) : Keeps s0 (State.bgStop s0) := by
  have h0 := Keeps.refl s0
  unfold State.bgStop
  exact Keeps.transS h0 (State.rf_keeps _ _)

theorem State.updFrame_keeps (s0 : State) (k b : Nat) (g : Frame → Frame) : Keeps s0 (s0.updFrame k b g) := State.setLane_keeps _ _ _

theorem State.coexAbort_keeps (s0 : State) (b1 : Tx) : Keeps s0 (State.coexAbort s0 b1) := by
  have h0 := Keeps.refl s0
  unfold State.coexAbort
  exact Keeps.transS (Keeps.transS h0 (State.count_keeps _ _)) (State.txCut_keeps _ _ _ _)

theorem State.setAck_keeps (s0 : State) (b1 : Nat) (b2 : Frame) (b3 : Ack) (b4 : Bool) : Keeps s0 (State.setAck s0 b1 b2 b3 b4) := by
  have h0 := Keeps.refl s0
  unfold State.setAck
  extract_lets -merge +onlyGivenNames x1
  try clear_value x1
  exact keepsS_ite (Keeps.transS h0 (State.setLane_keeps _ _ _)) (Keeps.transS h0 (State.updFrame_keeps _ _ _ _))

theorem State.commitAck_keeps (s0 : State) (b1 : Nat) (b2 : Frame) : Keeps s0 (State.commitAck s0 b1 b2) := by
  have h0 := Keeps.refl s0
  unfold State.commitAck
  extract_lets -merge +onlyGivenNames x1 x2
  try clear_value x2
  extract_lets -merge +onlyGivenNames x3
  try clear_value x3
  extract_lets -merge +onlyGivenNames x4
  have hx4 : Keeps s0 x4 := by unfold x4; exact Keeps.transS (Keeps.transS h0 (State.charge_keeps _ _ _)) (State.setAck_keeps _ _ _ _ _)
  clear_value x4; revert x4 hx4; refine Keeps.gen fun x4 hx4 => ?_
  refine keepsS_ite ?_ ?_
  · exact Keeps.transS (Keeps.transS h0 (State.setAck_keeps _ _ _ _ _)) (State.latch_keeps _ _ _ _)
  · refine keepsS_ite ?_ ?_
    · refine Keeps.transS ?_ (State.latch_keeps _ _ _ _)
      exact Keeps.transS (Keeps.transS (Keeps.transS h0 (State.txstat_keeps _ _ _ _)) (State.count_keeps _ _)) (State.setAck_keeps _ _ _ _ _)
    · exact Keeps.transS hx4 (State.claimNow_keeps _ _)

theorem State.gntLost_keeps (s0 : State) : Keeps s0 (State.gntLost s0) := by
  have h0 := Keeps.refl s0
  unfold State.gntLost
  split
  · exact keepsS_ite (Keeps.transS h0 (State.coexAbort_keeps _ _)) h0
  · exact h0

theorem State.lateWaiting_keeps (s0 : State) : Keeps s0 (State.lateWaiting s0) := by
  have h0 := Keeps.refl s0
  unfold State.lateWaiting
  extract_lets -merge +onlyGivenNames x1
  try clear_value x1
  extract_lets -merge +onlyGivenNames x2
  have hx2 : Keeps s0 x2 := by unfold x2; exact Keeps.transS h0 (State.rf_keeps _ _)
  clear_value x2; revert x2 hx2; refine Keeps.gen fun x2 hx2 => ?_
  refine foldl_keeps ?_ ?_
  · exact hx2
  · intro x3 x4 hx3
    try beta_reduce
    exact Keeps.transS hx3 (State.complete_keeps _ _ _)

theorem State.lockAfterCal_keeps (s0 : State) : Keeps s0 (State.lockAfterCal s0) := by
  have h0 := Keeps.refl s0
  unfold State.lockAfterCal
  exact Keeps.transS h0 (State.rf_keeps _ _)

theorem State.setGnt_keeps (s0 : State) (b1 : Bool) : Keeps s0 (State.setGnt s0 b1) := by
  have h0 := Keeps.refl s0
  unfold State.setGnt
  exact Keeps.transS h0 (State.rf_keeps _ _)

theorem State.spStart_keeps (s0 : State) : Keeps s0 (State.spStart s0) := by
  have h0 := Keeps.refl s0
  unfold State.spStart
  extract_lets -merge +onlyGivenNames x1
  have hx1 : Keeps s0 x1 := by unfold x1; exact Keeps.transS h0 (State.rf_keeps _ _)
  clear_value x1; revert x1 hx1; refine Keeps.gen fun x1 hx1 => ?_
  exact Keeps.transS hx1 (State.laneRest_keeps _ _)

theorem State.tailEnd_keeps (s0 : State) (b1 : Tx) : Keeps s0 (State.tailEnd s0 b1) := by
  have h0 := Keeps.refl s0
  unfold State.tailEnd
  extract_lets -merge +onlyGivenNames x1
  have hx1 : Keeps s0 x1 := by
    unfold x1
    refine Keeps.transS ?_ (State.agcFree_keeps _)
    exact Keeps.transS (Keeps.transS (Keeps.transS h0 (State.complete_keeps _ _ _)) (State.wiresTo_keeps _ _)) (State.txRelease_keeps _)
  clear_value x1; revert x1 hx1; refine Keeps.gen fun x1 hx1 => ?_
  extract_lets -merge +onlyGivenNames x2
  have hx2 : Keeps s0 x2 := by unfold x2; exact Keeps.transS hx1 (State.rf_keeps _ _)
  clear_value x2; revert x2 hx2; refine Keeps.gen fun x2 hx2 => ?_
  exact Keeps.transS hx2 (State.synthFree_keeps _)

theorem State.txBegin_keeps (s0 : State) (b1 : Tx) : Keeps s0 (State.txBegin s0 b1) := by
  have h0 := Keeps.refl s0
  unfold State.txBegin
  extract_lets -merge +onlyGivenNames x1
  have hx1 : Keeps s0 x1 := by unfold x1; exact Keeps.transS h0 (State.rf_keeps _ _)
  clear_value x1; revert x1 hx1; refine Keeps.gen fun x1 hx1 => ?_
  exact Keeps.transS hx1 (State.blankStart_keeps _)

theorem execRfeStartupDone_keeps (b0 : Nat) (s0 : State) : KeepsO s0 (execRfeStartupDone b0 s0) := by
  have h0 := Keeps.refl s0
  unfold execRfeStartupDone
  extract_lets -merge +onlyGivenNames x1
  have hx1 : Keeps s0 x1 := by unfold x1; exact Keeps.transS h0 (State.at__keeps _ _)
  clear_value x1; revert x1 hx1; refine Keeps.gen fun x1 hx1 => ?_
  extract_lets -merge +onlyGivenNames x2
  have hx2 : Keeps s0 x2 := by unfold x2; exact Keeps.transS hx1 (State.synthFree_keeps _)
  clear_value x2; revert x2 hx2; refine Keeps.gen fun x2 hx2 => ?_
  extract_lets -merge +onlyGivenNames x3
  try clear_value x3
  refine Keeps.transO ?_ (doneB_keeps _)
  refine keepsS_ite ?_ ?_
  · refine keepsS_ite ?_ ?_
    · exact Keeps.upd hx2 rfl
    · exact hx2
  · exact hx1

theorem execAutoRecal_keeps (b0 : Nat) (s0 : State) : KeepsO s0 (execAutoRecal b0 s0) := by
  have h0 := Keeps.refl s0
  unfold execAutoRecal
  extract_lets -merge +onlyGivenNames x1
  have hx1 : Keeps s0 x1 := by unfold x1; exact Keeps.transS h0 (State.at__keeps _ _)
  clear_value x1; revert x1 hx1; refine Keeps.gen fun x1 hx1 => ?_
  refine Keeps.transO ?_ (doneB_keeps _)
  exact keepsS_ite (Keeps.transS hx1 (State.bgStart_keeps _ _)) hx1

theorem execCalStepDone_keeps (b0 : Nat) (s0 : State) : KeepsO s0 (execCalStepDone b0 s0) := by
  have h0 := Keeps.refl s0
  unfold execCalStepDone
  extract_lets -merge +onlyGivenNames x1
  have hx1 : Keeps s0 x1 := by unfold x1; exact Keeps.transS h0 (State.at__keeps _ _)
  clear_value x1; revert x1 hx1; refine Keeps.gen fun x1 hx1 => ?_
  refine Keeps.transO ?_ (doneB_keeps _)
  split
  · extract_lets -merge +onlyGivenNames x2
    have hx2 : Keeps s0 x2 := by unfold x2; exact Keeps.transS hx1 (State.calEntry_keeps _ _)
    clear_value x2; revert x2 hx2; refine Keeps.gen fun x2 hx2 => ?_
    exact keepsS_ite (Keeps.transS hx2 (State.synthNext_keeps _)) (Keeps.transS hx2 (State.lockAfterCal_keeps _))
  · exact hx1

theorem execSynthLockDone_keeps (b0 : Nat) (s0 : State) : KeepsO s0 (execSynthLockDone b0 s0) := by
  have h0 := Keeps.refl s0
  unfold execSynthLockDone
  extract_lets -merge +onlyGivenNames x1
  have hx1 : Keeps s0 x1 := by unfold x1; exact Keeps.transS h0 (State.at__keeps _ _)
  clear_value x1; revert x1 hx1; refine Keeps.gen fun x1 hx1 => ?_
  refine Keeps.transO ?_ (doneB_keeps _)
  refine keepsS_ite ?_ ?_
  · split
    · refine keepsS_ite ?_ ?_
      · exact Keeps.transS hx1 (State.synthNext_keeps _)
      · split
        · exact Keeps.transS hx1 (State.cancelHolder_keeps _ _ _)
        · exact Keeps.transS hx1 (State.rf_keeps _ _)
    · exact keepsS_ite (Keeps.transS hx1 (State.spStart_keeps _)) (Keeps.transS hx1 (State.synthFree_keeps _))
  · exact hx1

theorem execTxClaim_keeps (b0 : Nat) (s0 : State) : KeepsO s0 (execTxClaim b0 s0) := by
  have h0 := Keeps.refl s0
  unfold execTxClaim
  exact Keeps.transO (Keeps.transS (Keeps.transS h0 (State.at__keeps _ _)) (State.claimWaiting_keeps _)) (doneW_keeps _)

theorem execCoexReqAssert_keeps (b0 : Nat) (s0 : State) : KeepsO s0 (execCoexReqAssert b0 s0) := by
  have h0 := Keeps.refl s0
  unfold execCoexReqAssert
  extract_lets -merge +onlyGivenNames x1
  have hx1 : Keeps s0 x1 := by unfold x1; exact Keeps.transS h0 (State.at__keeps _ _)
  clear_value x1; revert x1 hx1; refine Keeps.gen fun x1 hx1 => ?_
  refine Keeps.transO ?_ (done_keeps _)
  split
  · exact Keeps.transS hx1 (State.reqFor_keeps _ _)
  · exact hx1

theorem execTxStart_keeps (b0 : Bool) (b1 : Nat) (s0 : State) : KeepsO s0 (execTxStart b0 b1 s0) := by
  have h0 := Keeps.refl s0
  unfold execTxStart
  extract_lets -merge +onlyGivenNames x1
  have hx1 : Keeps s0 x1 := by unfold x1; exact Keeps.transS (Keeps.transS h0 (State.at__keeps _ _)) (State.setGnt_keeps _ _)
  clear_value x1; revert x1 hx1; refine Keeps.gen fun x1 hx1 => ?_
  refine Keeps.transO ?_ (doneW_keeps _)
  split
  · refine keepsS_ite ?_ ?_
    · exact hx1
    · refine keepsS_ite ?_ ?_
      · exact Keeps.transS (Keeps.transS hx1 (State.count_keeps _ _)) (State.cancelHolder_keeps _ _ _)
      · exact Keeps.transS hx1 (State.txBegin_keeps _ _)
  · exact hx1

theorem execTxFirstChip_keeps (b0 : Nat) (s0 : State) : KeepsO s0 (execTxFirstChip b0 s0) := by
  have h0 := Keeps.refl s0
  unfold execTxFirstChip
  extract_lets -merge +onlyGivenNames x1
  have hx1 : Keeps s0 x1 := by unfold x1; exact Keeps.transS h0 (State.at__keeps _ _)
  clear_value x1; revert x1 hx1; refine Keeps.gen fun x1 hx1 => ?_
  refine Keeps.transO ?_ (done_keeps _)
  exact keepsS_ite (Keeps.transS hx1 (State.rf_keeps _ _)) hx1

theorem execTxLastChip_keeps (b0 : Nat) (s0 : State) : KeepsO s0 (execTxLastChip b0 s0) := by
  have h0 := Keeps.refl s0
  unfold execTxLastChip
  extract_lets -merge +onlyGivenNames x1
  have hx1 : Keeps s0 x1 := by unfold x1; exact Keeps.transS h0 (State.at__keeps _ _)
  clear_value x1; revert x1 hx1; refine Keeps.gen fun x1 hx1 => ?_
  refine Keeps.transO ?_ (done_keeps _)
  split
  · exact keepsS_ite (Keeps.transS hx1 (State.rf_keeps _ _)) hx1
  · exact hx1

theorem execTxTailEnd_keeps (b0 : Nat) (s0 : State) : KeepsO s0 (execTxTailEnd b0 s0) := by
  have h0 := Keeps.refl s0
  unfold execTxTailEnd
  extract_lets -merge +onlyGivenNames x1
  have hx1 : Keeps s0 x1 := by unfold x1; exact Keeps.transS h0 (State.at__keeps _ _)
  clear_value x1; revert x1 hx1; refine Keeps.gen fun x1 hx1 => ?_
  refine Keeps.transO ?_ (doneW_keeps _)
  split
  · refine keepsS_ite ?_ ?_
    · exact keepsS_ite (Keeps.transS (Keeps.transS hx1 (State.txRelease_keeps _)) (State.synthFree_keeps _)) hx1
    · exact keepsS_ite (Keeps.transS hx1 (State.tailEnd_keeps _ _)) hx1
  · exact hx1

theorem execBlankEnd_keeps (b0 : Nat) (s0 : State) : KeepsO s0 (execBlankEnd b0 s0) := by
  have h0 := Keeps.refl s0
  unfold execBlankEnd
  extract_lets -merge +onlyGivenNames x1
  have hx1 : Keeps s0 x1 := by unfold x1; exact Keeps.transS h0 (State.at__keeps _ _)
  clear_value x1; revert x1 hx1; refine Keeps.gen fun x1 hx1 => ?_
  refine Keeps.transO ?_ (doneB_keeps _)
  exact keepsS_ite (Keeps.transS hx1 (State.blankStop_keeps _)) hx1

theorem execTxLateCancel_keeps (b0 : Nat) (s0 : State) : KeepsO s0 (execTxLateCancel b0 s0) := by
  have h0 := Keeps.refl s0
  unfold execTxLateCancel
  extract_lets -merge +onlyGivenNames x1
  have hx1 : Keeps s0 x1 := by unfold x1; exact Keeps.transS h0 (State.at__keeps _ _)
  clear_value x1; revert x1 hx1; refine Keeps.gen fun x1 hx1 => ?_
  extract_lets -merge +onlyGivenNames x2
  have hx2 : Keeps s0 x2 := by
    unfold x2
    split
    · exact keepsS_ite (Keeps.transS hx1 (State.cancelHolder_keeps _ _ _)) hx1
    · exact hx1
  clear_value x2; revert x2 hx2; refine Keeps.gen fun x2 hx2 => ?_
  exact Keeps.transO (Keeps.transS hx2 (State.lateWaiting_keeps _)) (doneW_keeps _)

theorem execSynthTimeout_keeps (b0 : Nat) (s0 : State) : KeepsO s0 (execSynthTimeout b0 s0) := by
  have h0 := Keeps.refl s0
  unfold execSynthTimeout
  extract_lets -merge +onlyGivenNames x1
  have hx1 : Keeps s0 x1 := by unfold x1; exact Keeps.transS h0 (State.at__keeps _ _)
  clear_value x1; revert x1 hx1; refine Keeps.gen fun x1 hx1 => ?_
  refine Keeps.transO ?_ (doneW_keeps _)
  split
  · exact keepsS_ite (Keeps.transS hx1 (State.cancelHolder_keeps _ _ _)) hx1
  · exact hx1

theorem execCoexGntRevoke_keeps (b0 : Nat) (s0 : State) : KeepsO s0 (execCoexGntRevoke b0 s0) := by
  have h0 := Keeps.refl s0
  unfold execCoexGntRevoke
  extract_lets -merge +onlyGivenNames x1
  have hx1 : Keeps s0 x1 := by unfold x1; exact Keeps.transS (Keeps.transS h0 (State.at__keeps _ _)) (State.setGnt_keeps _ _)
  clear_value x1; revert x1 hx1; refine Keeps.gen fun x1 hx1 => ?_
  refine Keeps.transO ?_ (doneW_keeps _)
  exact keepsS_ite (Keeps.transS hx1 (State.gntLost_keeps _)) hx1

theorem execAckCommit_keeps (b0 : Nat) (b1 : Nat) (s0 : State) : KeepsO s0 (execAckCommit b0 b1 s0) := by
  have h0 := Keeps.refl s0
  unfold execAckCommit
  extract_lets -merge +onlyGivenNames x1
  have hx1 : Keeps s0 x1 := by unfold x1; exact Keeps.transS h0 (State.at__keeps _ _)
  clear_value x1; revert x1 hx1; refine Keeps.gen fun x1 hx1 => ?_
  extract_lets -merge +onlyGivenNames x2
  try clear_value x2
  refine Keeps.transO ?_ (doneW_keeps _)
  split
  · exact keepsS_ite (Keeps.transS hx1 (State.commitAck_keeps _ _ _)) hx1
  · exact hx1

theorem execRecalAll_keeps (s0 : State) : KeepsO s0 (execRecalAll s0) := by
  have h0 := Keeps.refl s0
  unfold execRecalAll
  exact Keeps.transO (Keeps.transS h0 (State.bgStart_keeps _ _)) (doneB_keeps _)

theorem execRecalStale_keeps (s0 : State) : KeepsO s0 (execRecalStale s0) := by
  have h0 := Keeps.refl s0
  unfold execRecalStale
  exact Keeps.transO (Keeps.transS h0 (State.bgStart_keeps _ _)) (doneB_keeps _)

theorem execStopCal_keeps (s0 : State) : KeepsO s0 (execStopCal s0) := by
  have h0 := Keeps.refl s0
  unfold execStopCal
  exact Keeps.transO (Keeps.transS h0 (State.bgStop_keeps _)) (done_keeps _)

theorem State.abandon_keeps (s0 : State) (b1 : Nat) : Keeps s0 (State.abandon s0 b1) := by
  have h0 := Keeps.refl s0
  unfold State.abandon
  extract_lets -merge +onlyGivenNames x1
  have hx1 : Keeps s0 x1 := by unfold x1; exact keepsS_ite h0 (Keeps.transS h0 (State.count_keeps _ _))
  clear_value x1; revert x1 hx1; refine Keeps.gen fun x1 hx1 => ?_
  exact Keeps.transS hx1 (State.abortLane_keeps _ _ _ _)

theorem State.clipSet_keeps (s0 : State) (b1 : Nat) : Keeps s0 (State.clipSet s0 b1) := by
  have h0 := Keeps.refl s0
  unfold State.clipSet
  extract_lets -merge +onlyGivenNames x1
  try clear_value x1
  extract_lets -merge +onlyGivenNames x2
  have hx2 : Keeps s0 x2 := by unfold x2; exact Keeps.upd h0 rfl
  clear_value x2; revert x2 hx2; refine Keeps.gen fun x2 hx2 => ?_
  exact Keeps.transS hx2 (State.put_keeps _ _ _)

theorem State.spPhase_keeps (s0 : State) (b1 : Nat) (b2 : Nat) : Keeps s0 (State.spPhase s0 b1 b2) := by
  have h0 := Keeps.refl s0
  unfold State.spPhase
  exact keepsS_ite (Keeps.transS h0 (State.rf_keeps _ _)) h0

theorem State.detect_keeps (s0 : State) (b1 : Nat) : Keeps s0 (State.detect s0 b1) := by
  have h0 := Keeps.refl s0
  unfold State.detect
  extract_lets -merge +onlyGivenNames x1
  try clear_value x1
  refine keepsS_ite ?_ ?_
  · refine Keeps.transS ?_ (State.setLane_keeps _ _ _)
    exact keepsS_ite h0 (Keeps.transS h0 (State.count_keeps _ _))
  · split
    · extract_lets -merge +onlyGivenNames x2
      try clear_value x2
      exact Keeps.transS (Keeps.transS h0 (State.setLane_keeps _ _ _)) (State.spPhase_keeps _ _ _)

theorem State.endFrame_keeps (s0 : State) (b1 : Nat) (b2 : Frame) (b3 : Nat) : Keeps s0 (State.endFrame s0 b1 b2 b3) := by
  have h0 := Keeps.refl s0
  unfold State.endFrame
  extract_lets -merge +onlyGivenNames x1
  try clear_value x1
  extract_lets -merge +onlyGivenNames x2
  try clear_value x2
  extract_lets -merge +onlyGivenNames x3
  have hx3 : Keeps s0 x3 := by unfold x3; exact Keeps.transS h0 (State.updFrame_keeps _ _ _ _)
  clear_value x3; revert x3 hx3; refine Keeps.gen fun x3 hx3 => ?_
  extract_lets -merge +onlyGivenNames x4
  have hx4 : Keeps s0 x4 := by
    unfold x4
    refine keepsS_ite ?_ ?_
    · exact hx3
    · split
      · rename_i heq
        have hx5 := keeps1_of heq (s0 := s0) (by
            exact Keeps.trans1 hx3 (State.ackWithdraw_keeps _ _ _)
          )
        extract_lets -merge +onlyGivenNames x6
        have hx6 : Keeps s0 x6 := by unfold x6; exact Keeps.transS hx5 (State.updFrame_keeps _ _ _ _)
        clear_value x6; revert x6 hx6; refine Keeps.gen fun x6 hx6 => ?_
        exact keepsS_ite hx6 (Keeps.transS hx6 (State.count_keeps _ _))
  clear_value x4; revert x4 hx4; refine Keeps.gen fun x4 hx4 => ?_
  extract_lets -merge +onlyGivenNames x7
  have hx7 : Keeps s0 x7 := by unfold x7; exact Keeps.transS hx4 (State.markBusy_keeps _ _)
  clear_value x7; revert x7 hx7; refine Keeps.gen fun x7 hx7 => ?_
  extract_lets -merge +onlyGivenNames x8
  try clear_value x8
  exact Keeps.transS (Keeps.transS hx7 (State.setLane_keeps _ _ _)) (State.laneRest_keeps _ _)

theorem State.envRun_keeps (s0 : State) : Keeps s0 (State.envRun s0) := by
  have h0 := Keeps.refl s0
  unfold State.envRun
  extract_lets -merge +onlyGivenNames x1
  try clear_value x1
  extract_lets -merge +onlyGivenNames x2
  try clear_value x2
  extract_lets -merge +onlyGivenNames x3
  have hx3 : Keeps s0 x3 := by unfold x3; exact Keeps.upd h0 rfl
  clear_value x3; revert x3 hx3; refine Keeps.gen fun x3 hx3 => ?_
  exact Keeps.transS hx3 (State.groupsStart_keeps _)

theorem State.floorUpd_keeps (s0 : State) (b1 : Nat) (b2 : List ChanPow) : Keeps s0 (State.floorUpd s0 b1 b2) := by
  have h0 := Keeps.refl s0
  unfold State.floorUpd
  extract_lets -merge +onlyGivenNames x1
  try clear_value x1
  extract_lets -merge +onlyGivenNames x2
  try clear_value x2
  split
  · exact Keeps.transS h0 (State.put_keeps _ _ _)
  · extract_lets -merge +onlyGivenNames x3
    try clear_value x3
    extract_lets -merge +onlyGivenNames x4
    try clear_value x4
    exact Keeps.transS (Keeps.transS (Keeps.transS h0 (State.put_keeps _ _ _)) (State.put_keeps _ _ _)) (State.put_keeps _ _ _)

theorem State.floorsUpd_keeps (s0 : State) (b1 : List ChanPow) : Keeps s0 (State.floorsUpd s0 b1) := by
  have h0 := Keeps.refl s0
  unfold State.floorsUpd
  extract_lets -merge +onlyGivenNames x1
  try clear_value x1
  refine forN_keeps ?_ ?_
  · exact h0
  · intro x2 x3 hx2
    try beta_reduce
    exact Keeps.transS hx2 (State.floorUpd_keeps _ _ _)

theorem State.survWrite_keeps (s0 : State) (b1 : List ChanPow) : Keeps s0 (State.survWrite s0 b1) := by
  have h0 := Keeps.refl s0
  unfold State.survWrite
  extract_lets -merge +onlyGivenNames x1
  try clear_value x1
  extract_lets -merge +onlyGivenNames x2
  have hx2 : Keeps s0 x2 := by unfold x2; exact Keeps.transS h0 (State.devWrite_keeps _ _ _)
  clear_value x2; revert x2 hx2; refine Keeps.gen fun x2 hx2 => ?_
  exact Keeps.transS (Keeps.transS hx2 (State.setReg_keeps _ _ _)) (State.output_keeps _ _ _)

theorem State.msTurn_keeps (s0 : State) (b1 : List ChanPow) : Keeps s0 (State.msTurn s0 b1) := by
  have h0 := Keeps.refl s0
  unfold State.msTurn
  extract_lets -merge +onlyGivenNames x1
  have hx1 : Keeps s0 x1 := by unfold x1; exact keepsS_ite h0 (Keeps.transS h0 (State.floorsUpd_keeps _ _))
  clear_value x1; revert x1 hx1; refine Keeps.gen fun x1 hx1 => ?_
  extract_lets -merge +onlyGivenNames x2
  have hx2 : Keeps s0 x2 := by unfold x2; exact keepsS_ite (Keeps.transS hx1 (State.survWrite_keeps _ _)) hx1
  clear_value x2; revert x2 hx2; refine Keeps.gen fun x2 hx2 => ?_
  extract_lets -merge +onlyGivenNames x3
  try clear_value x3
  exact Keeps.upd hx2 rfl

theorem State.sfd_keeps (s0 : State) (b1 : Nat) (b2 : ℤ) : Keeps s0 (State.sfd s0 b1 b2) := by
  have h0 := Keeps.refl s0
  unfold State.sfd
  extract_lets -merge +onlyGivenNames x1
  try clear_value x1
  extract_lets -merge +onlyGivenNames x2
  try clear_value x2
  extract_lets -merge +onlyGivenNames x3
  have hx3 : Keeps s0 x3 := by
    unfold x3
    exact Keeps.transS (Keeps.transS (Keeps.transS h0 (State.wakeRange_keeps _ _ _)) (State.wakeRange_keeps _ _ _)) (State.setBytes_keeps _ _ _)
  clear_value x3; revert x3 hx3; refine Keeps.gen fun x3 hx3 => ?_
  extract_lets -merge +onlyGivenNames x4
  have hx4 : Keeps s0 x4 := by unfold x4; exact Keeps.transS hx3 (State.muddy_keeps _ _ _)
  clear_value x4; revert x4 hx4; refine Keeps.gen fun x4 hx4 => ?_
  refine keepsS_ite ?_ ?_
  · refine Keeps.transS ?_ (State.laneRest_keeps _ _)
    exact keepsS_ite h0 (Keeps.transS h0 (State.count_keeps _ _))
  · exact Keeps.transS hx4 (State.updLane_keeps _ _ _)

theorem execEnvelopeStart_keeps (b0 : Word) (s0 : State) : KeepsO s0 (execEnvelopeStart b0 s0) := by
  have h0 := Keeps.refl s0
  unfold execEnvelopeStart
  refine Keeps.transO ?_ (doneW_keeps _)
  exact Keeps.transS h0 (State.writeReg_keeps _ _ _)

theorem execEnvelopeXwaitEnd_keeps (b0 : Nat) (s0 : State) : KeepsO s0 (execEnvelopeXwaitEnd b0 s0) := by
  have h0 := Keeps.refl s0
  unfold execEnvelopeXwaitEnd
  extract_lets -merge +onlyGivenNames x1
  have hx1 : Keeps s0 x1 := by unfold x1; exact Keeps.transS h0 (State.at__keeps _ _)
  clear_value x1; revert x1 hx1; refine Keeps.gen fun x1 hx1 => ?_
  refine Keeps.transO ?_ (doneW_keeps _)
  exact keepsS_ite (Keeps.transS hx1 (State.envOn_keeps _)) hx1

theorem execEnvelopeRun_keeps (b0 : Nat) (s0 : State) : KeepsO s0 (execEnvelopeRun b0 s0) := by
  have h0 := Keeps.refl s0
  unfold execEnvelopeRun
  extract_lets -merge +onlyGivenNames x1
  have hx1 : Keeps s0 x1 := by unfold x1; exact Keeps.transS h0 (State.at__keeps _ _)
  clear_value x1; revert x1 hx1; refine Keeps.gen fun x1 hx1 => ?_
  refine Keeps.transO ?_ (doneW_keeps _)
  exact keepsS_ite (Keeps.transS hx1 (State.envRun_keeps _)) hx1

theorem execMsBoundary_keeps (b0 : List ChanPow) (b1 : Nat) (s0 : State) : KeepsO s0 (execMsBoundary b0 b1 s0) := by
  have h0 := Keeps.refl s0
  unfold execMsBoundary
  extract_lets -merge +onlyGivenNames x1
  have hx1 : Keeps s0 x1 := by
    unfold x1
    refine Keeps.transS ?_ (State.afterPend_keeps _ _)
    exact Keeps.transS (Keeps.transS (Keeps.transS h0 (State.at__keeps _ _)) (State.msTurn_keeps _ _)) (State.applyUnit_keeps _ _)
  clear_value x1; revert x1 hx1; refine Keeps.gen fun x1 hx1 => ?_
  extract_lets -merge +onlyGivenNames x2
  try clear_value x2
  refine Keeps.transO ?_ (doneW_keeps _)
  refine keepsS_ite ?_ ?_
  · refine forN_keeps ?_ ?_
    · exact Keeps.upd hx1 rfl
    · intro x3 x4 hx3
      try beta_reduce
      exact Keeps.transS hx3 (State.groupRest_keeps _ _)
  · exact hx1

theorem execEnvelopeStopped_keeps (b0 : Nat) (s0 : State) : KeepsO s0 (execEnvelopeStopped b0 s0) := by
  have h0 := Keeps.refl s0
  unfold execEnvelopeStopped
  extract_lets -merge +onlyGivenNames x1
  have hx1 : Keeps s0 x1 := by unfold x1; exact Keeps.transS h0 (State.at__keeps _ _)
  clear_value x1; revert x1 hx1; refine Keeps.gen fun x1 hx1 => ?_
  extract_lets -merge +onlyGivenNames x2
  have hx2 : Keeps s0 x2 := by unfold x2; exact Keeps.transS hx1 (State.envOff_keeps _)
  clear_value x2; revert x2 hx2; refine Keeps.gen fun x2 hx2 => ?_
  refine Keeps.transO ?_ (doneW_keeps _)
  exact keepsS_ite (keepsS_ite (Keeps.transS hx2 (State.envOn_keeps _)) hx2) hx1

theorem execSurveyBegin_keeps (b0 : Nat) (s0 : State) : KeepsO s0 (execSurveyBegin b0 s0) := by
  have h0 := Keeps.refl s0
  unfold execSurveyBegin
  extract_lets -merge +onlyGivenNames x1
  have hx1 : Keeps s0 x1 := by unfold x1; exact Keeps.transS h0 (State.at__keeps _ _)
  clear_value x1; revert x1 hx1; refine Keeps.gen fun x1 hx1 => ?_
  extract_lets -merge +onlyGivenNames x2
  try clear_value x2
  refine Keeps.transO ?_ (doneW_keeps _)
  refine keepsS_ite ?_ ?_
  · exact Keeps.upd hx1 rfl
  · exact hx1

theorem execAgcGainDown_keeps (b0 : Nat) (b1 : Nat) (b2 : Bool) (b3 : Nat) (s0 : State) : KeepsO s0 (execAgcGainDown b0 b1 b2 b3 s0) := by
  have h0 := Keeps.refl s0
  unfold execAgcGainDown
  extract_lets -merge +onlyGivenNames x1
  have hx1 : Keeps s0 x1 := by unfold x1; exact Keeps.transS h0 (State.at__keeps _ _)
  clear_value x1; revert x1 hx1; refine Keeps.gen fun x1 hx1 => ?_
  extract_lets -merge +onlyGivenNames x2
  have hx2 : Keeps s0 x2 := by
    unfold x2
    refine keepsS_ite ?_ ?_
    · exact hx1
    · exact Keeps.upd hx1 rfl
  clear_value x2; revert x2 hx2; refine Keeps.gen fun x2 hx2 => ?_
  refine Keeps.transO ?_ (done_keeps _)
  exact keepsS_ite (keepsS_ite (Keeps.transS hx2 (State.clipSet_keeps _ _)) hx2) hx1

theorem execAgcGainUp_keeps (b0 : Nat) (b1 : Nat) (s0 : State) : KeepsO s0 (execAgcGainUp b0 b1 s0) := by
  have h0 := Keeps.refl s0
  unfold execAgcGainUp
  extract_lets -merge +onlyGivenNames x1
  have hx1 : Keeps s0 x1 := by unfold x1; exact Keeps.transS h0 (State.at__keeps _ _)
  clear_value x1; revert x1 hx1; refine Keeps.gen fun x1 hx1 => ?_
  refine Keeps.transO ?_ (done_keeps _)
  refine keepsS_ite ?_ ?_
  · exact Keeps.upd hx1 rfl
  · exact hx1

theorem execPreambleDetect_keeps (b0 : Nat) (b1 : Nat) (b2 : Nat) (b3 : Nat) (b4 : Nat) (s0 : State) : KeepsO s0 (execPreambleDetect b0 b1 b2 b3 b4 s0) := by
  have h0 := Keeps.refl s0
  unfold execPreambleDetect
  extract_lets -merge +onlyGivenNames x1
  have hx1 : Keeps s0 x1 := by unfold x1; exact Keeps.transS h0 (State.at__keeps _ _)
  clear_value x1; revert x1 hx1; refine Keeps.gen fun x1 hx1 => ?_
  extract_lets -merge +onlyGivenNames x2
  try clear_value x2
  refine Keeps.transO ?_ (doneW_keeps _)
  exact keepsS_ite (Keeps.transS hx1 (State.detect_keeps _ _)) hx1

theorem execSpPreambleDetect_keeps (b0 : Nat) (b1 : Nat) (b2 : Nat) (s0 : State) : KeepsO s0 (execSpPreambleDetect b0 b1 b2 s0) := by
  have h0 := Keeps.refl s0
  unfold execSpPreambleDetect
  extract_lets -merge +onlyGivenNames x1
  have hx1 : Keeps s0 x1 := by unfold x1; exact Keeps.transS h0 (State.at__keeps _ _)
  clear_value x1; revert x1 hx1; refine Keeps.gen fun x1 hx1 => ?_
  refine Keeps.transO ?_ (doneW_keeps _)
  exact keepsS_ite (Keeps.transS hx1 (State.detect_keeps _ _)) hx1

theorem execChainChoice_keeps (b0 : Nat) (b1 : Nat) (b2 : Nat) (b3 : Nat) (b4 : Nat) (s0 : State) : KeepsO s0 (execChainChoice b0 b1 b2 b3 b4 s0) := by
  have h0 := Keeps.refl s0
  unfold execChainChoice
  extract_lets -merge +onlyGivenNames x1
  have hx1 : Keeps s0 x1 := by unfold x1; exact Keeps.transS h0 (State.at__keeps _ _)
  clear_value x1; revert x1 hx1; refine Keeps.gen fun x1 hx1 => ?_
  extract_lets -merge +onlyGivenNames x2
  try clear_value x2
  extract_lets -merge +onlyGivenNames x3
  try clear_value x3
  refine Keeps.transO ?_ (done_keeps _)
  exact keepsS_ite (Keeps.transS (Keeps.transS hx1 (State.setLane_keeps _ _ _)) (State.spPhase_keeps _ _ _)) hx1

theorem execSfdRecognised_keeps (b0 : Nat) (b1 : ℤ) (b2 : Nat) (s0 : State) : KeepsO s0 (execSfdRecognised b0 b1 b2 s0) := by
  have h0 := Keeps.refl s0
  unfold execSfdRecognised
  extract_lets -merge +onlyGivenNames x1
  have hx1 : Keeps s0 x1 := by unfold x1; exact Keeps.transS h0 (State.at__keeps _ _)
  clear_value x1; revert x1 hx1; refine Keeps.gen fun x1 hx1 => ?_
  extract_lets -merge +onlyGivenNames x2
  try clear_value x2
  refine Keeps.transO ?_ (doneW_keeps _)
  exact keepsS_ite (keepsS_ite (Keeps.transS hx1 (State.sfd_keeps _ _ _)) (Keeps.transS hx1 (State.abandon_keeps _ _))) hx1

theorem execSfdTimeout_keeps (b0 : Nat) (b1 : Nat) (s0 : State) : KeepsO s0 (execSfdTimeout b0 b1 s0) := by
  have h0 := Keeps.refl s0
  unfold execSfdTimeout
  extract_lets -merge +onlyGivenNames x1
  have hx1 : Keeps s0 x1 := by unfold x1; exact Keeps.transS h0 (State.at__keeps _ _)
  clear_value x1; revert x1 hx1; refine Keeps.gen fun x1 hx1 => ?_
  extract_lets -merge +onlyGivenNames x2
  try clear_value x2
  refine Keeps.transO ?_ (doneW_keeps _)
  exact keepsS_ite (Keeps.transS hx1 (State.abandon_keeps _ _)) hx1

theorem execPhrReceived_keeps (b0 : Nat) (b1 : BitVec 16) (b2 : List Byte) (b3 : Nat) (s0 : State) : KeepsO s0 (execPhrReceived b0 b1 b2 b3 s0) := by
  have h0 := Keeps.refl s0
  unfold execPhrReceived
  extract_lets -merge +onlyGivenNames x1
  have hx1 : Keeps s0 x1 := by unfold x1; exact Keeps.transS h0 (State.at__keeps _ _)
  clear_value x1; revert x1 hx1; refine Keeps.gen fun x1 hx1 => ?_
  refine Keeps.transO ?_ (doneW_keeps _)
  split
  · extract_lets -merge +onlyGivenNames x2
    try clear_value x2
    refine keepsS_ite ?_ ?_
    · exact hx1
    · refine keepsS_ite ?_ ?_
      · exact Keeps.transS (Keeps.transS hx1 (State.updFrame_keeps _ _ _ _)) (State.present_keeps _ _)
      · exact Keeps.transS hx1 (State.abandon_keeps _ _)
  · exact hx1

theorem execAddrReached_keeps (b0 : Nat) (b1 : Nat) (s0 : State) : KeepsO s0 (execAddrReached b0 b1 s0) := by
  have h0 := Keeps.refl s0
  unfold execAddrReached
  extract_lets -merge +onlyGivenNames x1
  have hx1 : Keeps s0 x1 := by unfold x1; exact Keeps.transS h0 (State.at__keeps _ _)
  clear_value x1; revert x1 hx1; refine Keeps.gen fun x1 hx1 => ?_
  refine Keeps.transO ?_ (doneW_keeps _)
  split
  · exact keepsS_ite (Keeps.transS (Keeps.transS hx1 (State.updFrame_keeps _ _ _ _)) (State.present_keeps _ _)) hx1
  · exact hx1

theorem execFrameEnd_keeps (b0 : Nat) (b1 : Nat) (b2 : Nat) (s0 : State) : KeepsO s0 (execFrameEnd b0 b1 b2 s0) := by
  have h0 := Keeps.refl s0
  unfold execFrameEnd
  extract_lets -merge +onlyGivenNames x1
  have hx1 : Keeps s0 x1 := by unfold x1; exact Keeps.transS h0 (State.at__keeps _ _)
  clear_value x1; revert x1 hx1; refine Keeps.gen fun x1 hx1 => ?_
  refine Keeps.transO ?_ (doneW_keeps _)
  split
  · exact keepsS_ite (Keeps.transS hx1 (State.endFrame_keeps _ _ _ _)) hx1
  · exact hx1

theorem execGroupHold_keeps (b0 : BitVec 16) (s0 : State) : KeepsO s0 (execGroupHold b0 s0) := by
  have h0 := Keeps.refl s0
  unfold execGroupHold
  exact Keeps.transO (Keeps.transS h0 (State.holdGroups_keeps _ _)) (doneW_keeps _)

theorem execGroupRelease_keeps (b0 : BitVec 16) (s0 : State) : KeepsO s0 (execGroupRelease b0 s0) := by
  have h0 := Keeps.refl s0
  unfold execGroupRelease
  exact Keeps.transO (Keeps.transS h0 (State.releaseGroups_keeps _ _)) (doneW_keeps _)

end Sys2Proof.Machine
end

