-- ==== Sys2Proof/Laws/KeepsReel.lean ====
section
/-! SUPPORT. `Keeps` of the Reel engines and the step loader: each keeps the queue, the canonical form and legal modes. -/

namespace Sys2Proof.Machine

theorem State.e16Write_keeps (s0 : State) (b1 : Bool) : Keeps s0 (State.e16Write s0 b1) := by
  have h0 := Keeps.refl s0
  unfold State.e16Write
  extract_lets -merge +onlyGivenNames x1
  try clear_value x1
  extract_lets -merge +onlyGivenNames x2
  have hx2 : Keeps s0 x2 := by unfold x2; exact Keeps.transS h0 (State.put_keeps _ _ _)
  clear_value x2; revert x2 hx2; refine Keeps.gen fun x2 hx2 => ?_
  extract_lets -merge +onlyGivenNames x3
  try clear_value x3
  refine keepsS_ite ?_ ?_
  · exact keepsS_ite (Keeps.transS hx2 (State.engStart_keeps _ _)) hx2
  · exact keepsS_ite (keepsS_ite hx2 (Keeps.transS hx2 (State.setEng_keeps _ _ _))) (Keeps.transS hx2 (State.setEng_keeps _ _ _))

theorem State.crst_keeps (s0 : State) (b1 : Word) : Keeps s0 (State.crst s0 b1) := by
  have h0 := Keeps.refl s0
  unfold State.crst
  extract_lets -merge +onlyGivenNames x1
  try clear_value x1
  extract_lets -merge +onlyGivenNames x2
  try clear_value x2
  exact keepsS_ite (Keeps.transS h0 (State.restartCtx_keeps _ _ _)) h0

theorem State.txqBase_keeps (s0 : State) (b1 : Word) : Keeps s0 (State.txqBase s0 b1) := by
  have h0 := Keeps.refl s0
  unfold State.txqBase
  extract_lets -merge +onlyGivenNames x1
  have hx1 : Keeps s0 x1 := by unfold x1; exact Keeps.transS h0 (State.writeReg_keeps _ _ _)
  clear_value x1; revert x1 hx1; refine Keeps.gen fun x1 hx1 => ?_
  exact keepsS_ite hx1 (Keeps.transS hx1 (State.txqOverlap_keeps _))

theorem State.alu_keeps (s0 : State) (e c : Nat) (f : Word → Word → Word) (w : StepWord) : Keeps s0 (s0.alu e c f w) :=
  State.setCtx_keeps _ _ _ _

theorem State.runStep_keeps (s0 : State) (e c : Nat) (is : StepWord → Bool) (body : State → StepWord → Except Nat State)
    (fin : State → Host.Outcome State Fault Refusal) (hb : ∀ w, KeepsE s0 (body s0 w)) (hf : ∀ t, KeepsO t (fin t)) :
    KeepsO s0 (s0.runStep e c is body fin) := by
  have h0 := Keeps.refl s0
  unfold State.runStep
  dsimp only
  refine keepsO_ite (done_keeps _) ?_
  refine keepsO_ite ((State.faultCtx_keeps _ _ _ _).transO (doneW_keeps _)) ?_
  refine keepsO_ite ((State.faultCtx_keeps _ _ _ _).transO (doneW_keeps _)) ?_
  refine keepsO_ite (done_keeps _) ?_
  split
  · exact (State.faultCtx_keeps _ _ _ _).transO (doneW_keeps _)
  · rename_i heq
    exact (hb _ _ heq).transO (hf _)

theorem State.stepNext_keeps (s0 : State) (b1 : Nat) (b2 : Nat) (b3 : StepWord) : Keeps s0 (State.stepNext s0 b1 b2 b3) := by
  have h0 := Keeps.refl s0
  unfold State.stepNext
  split
  · rename_i heq
    have hx1 := keeps2_of heq (s0 := s0) (by
        exact Keeps.trans2 h0 (State.takeCond_keeps _ _ _ _)
      )
    extract_lets -merge +onlyGivenNames x2
    try clear_value x2
    exact Keeps.transS hx1 (State.setCtx_keeps _ _ _ _)

theorem State.dataStep_keeps (s0 : State) (e c op : Nat) (eff : State → StepWord → Except Nat State) (h : ∀ w, KeepsE s0 (eff s0 w)) :
    KeepsO s0 (s0.dataStep e c op eff) := by
  refine State.runStep_keeps _ _ _ _ _ _ (fun w => ?_) doneW_keeps
  split
  · rename_i heq
    exact keepsE_ok ((h w _ heq).transS (State.stepNext_keeps _ _ _ _))
  · exact keepsE_error

theorem State.dispatch_keeps (s0 : State) (b1 : Nat) (b2 : Nat) : Keeps s0 (State.dispatch s0 b1 b2) := by
  have h0 := Keeps.refl s0
  unfold State.dispatch
  extract_lets -merge +onlyGivenNames x1
  try clear_value x1
  extract_lets -merge +onlyGivenNames x2
  try clear_value x2
  extract_lets -merge +onlyGivenNames x3
  have hx3 : Keeps s0 x3 := by unfold x3; exact Keeps.transS h0 (State.setEng_keeps _ _ _)
  clear_value x3; revert x3 hx3; refine Keeps.gen fun x3 hx3 => ?_
  extract_lets -merge +onlyGivenNames x4
  have hx4 : Keeps s0 x4 := by unfold x4; exact Keeps.transS hx3 (State.setCtx_keeps _ _ _ _)
  clear_value x4; revert x4 hx4; refine Keeps.gen fun x4 hx4 => ?_
  extract_lets -merge +onlyGivenNames x5
  try clear_value x5
  refine keepsS_ite ?_ ?_
  · split
    · rename_i heq
      have hx6 := keeps2_of heq (s0 := s0) (by
          exact Keeps.trans2 hx4 (State.takeCond_keeps _ _ _ _)
        )
      extract_lets -merge +onlyGivenNames x7
      try clear_value x7
      exact Keeps.transS hx6 (State.setCtx_keeps _ _ _ _)
  · exact hx4

theorem State.fetchCheck_keeps (s0 : State) (b1 : Nat) (b2 : Nat) (b3 : Bool) : Keeps s0 (State.fetchCheck s0 b1 b2 b3) := by
  have h0 := Keeps.refl s0
  unfold State.fetchCheck
  extract_lets -merge +onlyGivenNames x1
  try clear_value x1
  refine keepsS_ite ?_ ?_
  · exact Keeps.transS h0 (State.faultCtx_keeps _ _ _ _)
  · exact keepsS_ite (Keeps.transS h0 (State.faultCtx_keeps _ _ _ _)) (keepsS_ite (Keeps.transS h0 (State.faultCtx_keeps _ _ _ _)) h0)

theorem State.flowStep_keeps (s0 : State) (e c : Nat) (w : StepWord) (act : Ctx → Except Nat Ctx) : KeepsE s0 (s0.flowStep e c w act) := by
  unfold State.flowStep
  split
  rename_i b t heq
  have ht : Keeps s0 t := keeps2_of heq (State.takeCond_keeps s0 e c w.cond)
  dsimp only
  refine keepsE_ite ?_ (keepsE_ok (ht.transS (State.setCtx_keeps _ _ _ _)))
  split
  · exact keepsE_ok (ht.transS (State.setCtx_keeps _ _ _ _))
  · exact keepsE_error

theorem State.setDst_keeps (s0 : State) (b1 : Nat) (b2 : Nat) (b3 : StepWord) (b4 : Word) : Keeps s0 (State.setDst s0 b1 b2 b3 b4) := by
  have h0 := Keeps.refl s0
  unfold State.setDst
  exact Keeps.transS h0 (State.setCtx_keeps _ _ _ _)

theorem State.plainStep_keeps (s0 : State) (e c op : Nat) (eff : State → StepWord → State) (h : ∀ w, Keeps s0 (eff s0 w)) :
    KeepsO s0 (s0.plainStep e c op eff) :=
  State.runStep_keeps _ _ _ _ _ _ (fun w => keepsE_ok ((h w).transS (State.stepNext_keeps _ _ _ _))) done_keeps

theorem State.turn_keeps (s0 : State) (b1 : Nat) (b2 : Bool) : Keeps s0 (State.turn s0 b1 b2) := by
  have h0 := Keeps.refl s0
  unfold State.turn
  split
  · split
    · extract_lets -merge +onlyGivenNames x1
      try clear_value x1
      refine keepsS_ite ?_ ?_
      · exact Keeps.transS h0 (State.fetchCheck_keeps _ _ _ _)
      · exact Keeps.transS (Keeps.transS (Keeps.transS h0 (State.setCtx_keeps _ _ _ _)) (State.dispatch_keeps _ _ _)) (State.fetchCheck_keeps _ _ _ _)
    · exact Keeps.transS h0 (State.fetchCheck_keeps _ _ _ _)
  · split
    · exact Keeps.transS (Keeps.transS h0 (State.dispatch_keeps _ _ _)) (State.fetchCheck_keeps _ _ _ _)
    · exact h0

theorem execNop_keeps (b0 : Nat) (b1 : Nat) (s0 : State) : KeepsO s0 (execNop b0 b1 s0) := by
  have h0 := Keeps.refl s0
  unfold execNop
  refine State.plainStep_keeps _ _ _ _ _ fun w => ?_
  try beta_reduce
  exact h0

theorem execMovi_keeps (b0 : Nat) (b1 : Nat) (s0 : State) : KeepsO s0 (execMovi b0 b1 s0) := by
  have h0 := Keeps.refl s0
  unfold execMovi
  refine State.plainStep_keeps _ _ _ _ _ fun w => ?_
  try beta_reduce
  exact Keeps.transS h0 (State.setDst_keeps _ _ _ _ _)

theorem execAddOp_keeps (b0 : Nat) (b1 : Nat) (s0 : State) : KeepsO s0 (execAddOp b0 b1 s0) := by
  have h0 := Keeps.refl s0
  unfold execAddOp
  refine State.plainStep_keeps _ _ _ _ _ fun w => ?_
  try beta_reduce
  exact Keeps.transS h0 (State.alu_keeps _ _ _ _ _)

theorem execSubOp_keeps (b0 : Nat) (b1 : Nat) (s0 : State) : KeepsO s0 (execSubOp b0 b1 s0) := by
  have h0 := Keeps.refl s0
  unfold execSubOp
  refine State.plainStep_keeps _ _ _ _ _ fun w => ?_
  try beta_reduce
  extract_lets -merge +onlyGivenNames x1
  try clear_value x1
  extract_lets -merge +onlyGivenNames x2
  try clear_value x2
  extract_lets -merge +onlyGivenNames x3
  try clear_value x3
  exact Keeps.transS h0 (State.setCtx_keeps _ _ _ _)

theorem execAndOp_keeps (b0 : Nat) (b1 : Nat) (s0 : State) : KeepsO s0 (execAndOp b0 b1 s0) := by
  have h0 := Keeps.refl s0
  unfold execAndOp
  refine State.plainStep_keeps _ _ _ _ _ fun w => ?_
  try beta_reduce
  exact Keeps.transS h0 (State.alu_keeps _ _ _ _ _)

theorem execOrOp_keeps (b0 : Nat) (b1 : Nat) (s0 : State) : KeepsO s0 (execOrOp b0 b1 s0) := by
  have h0 := Keeps.refl s0
  unfold execOrOp
  refine State.plainStep_keeps _ _ _ _ _ fun w => ?_
  try beta_reduce
  exact Keeps.transS h0 (State.alu_keeps _ _ _ _ _)

theorem execXorOp_keeps (b0 : Nat) (b1 : Nat) (s0 : State) : KeepsO s0 (execXorOp b0 b1 s0) := by
  have h0 := Keeps.refl s0
  unfold execXorOp
  refine State.plainStep_keeps _ _ _ _ _ fun w => ?_
  try beta_reduce
  exact Keeps.transS h0 (State.alu_keeps _ _ _ _ _)

theorem execShl_keeps (b0 : Nat) (b1 : Nat) (s0 : State) : KeepsO s0 (execShl b0 b1 s0) := by
  have h0 := Keeps.refl s0
  unfold execShl
  refine State.plainStep_keeps _ _ _ _ _ fun w => ?_
  try beta_reduce
  exact Keeps.transS h0 (State.alu_keeps _ _ _ _ _)

theorem execShr_keeps (b0 : Nat) (b1 : Nat) (s0 : State) : KeepsO s0 (execShr b0 b1 s0) := by
  have h0 := Keeps.refl s0
  unfold execShr
  refine State.plainStep_keeps _ _ _ _ _ fun w => ?_
  try beta_reduce
  exact Keeps.transS h0 (State.alu_keeps _ _ _ _ _)

theorem execCmp_keeps (b0 : Nat) (b1 : Nat) (s0 : State) : KeepsO s0 (execCmp b0 b1 s0) := by
  have h0 := Keeps.refl s0
  unfold execCmp
  refine State.plainStep_keeps _ _ _ _ _ fun w => ?_
  try beta_reduce
  extract_lets -merge +onlyGivenNames x1
  try clear_value x1
  exact Keeps.transS h0 (State.setCtx_keeps _ _ _ _)

theorem execSyncEpoch_keeps (b0 : Nat) (b1 : Nat) (s0 : State) : KeepsO s0 (execSyncEpoch b0 b1 s0) := by
  have h0 := Keeps.refl s0
  unfold execSyncEpoch
  refine State.plainStep_keeps _ _ _ _ _ fun w => ?_
  try beta_reduce
  extract_lets -merge +onlyGivenNames x1
  try clear_value x1
  extract_lets -merge +onlyGivenNames x2
  try clear_value x2
  exact Keeps.transS h0 (State.setCtx_keeps _ _ _ _)

theorem execTimer_keeps (b0 : Nat) (b1 : Nat) (s0 : State) : KeepsO s0 (execTimer b0 b1 s0) := by
  have h0 := Keeps.refl s0
  unfold execTimer
  refine State.dataStep_keeps _ _ _ _ _ fun w => ?_
  try beta_reduce
  extract_lets -merge +onlyGivenNames x1
  try clear_value x1
  split
  · refine keepsE_ok ?_
    exact Keeps.transS h0 (State.setCtx_keeps _ _ _ _)
  · refine keepsE_ok ?_
    exact Keeps.transS h0 (State.setCtx_keeps _ _ _ _)
  · refine keepsE_ok ?_
    exact Keeps.transS h0 (State.setCtx_keeps _ _ _ _)
  · exact keepsE_error

theorem execWaitev_keeps (b0 : Nat) (b1 : Nat) (s0 : State) : KeepsO s0 (execWaitev b0 b1 s0) := by
  have h0 := Keeps.refl s0
  unfold execWaitev
  refine State.runStep_keeps _ _ _ _ _ _ (fun w => ?_) ?_
  · try beta_reduce
    refine keepsE_ite ?_ ?_
    · exact keepsE_error
    · refine keepsE_ok ?_
      exact Keeps.transS h0 (State.setCtx_keeps _ _ _ _)
  · exact doneW_keeps

theorem execWaitt_keeps (b0 : Nat) (b1 : Nat) (s0 : State) : KeepsO s0 (execWaitt b0 b1 s0) := by
  have h0 := Keeps.refl s0
  unfold execWaitt
  refine State.runStep_keeps _ _ _ _ _ _ (fun w => ?_) ?_
  · try beta_reduce
    extract_lets -merge +onlyGivenNames x1
    try clear_value x1
    refine keepsE_ok ?_
    exact Keeps.transS h0 (State.setCtx_keeps _ _ _ _)
  · exact doneW_keeps

theorem execYield_keeps (b0 : Nat) (b1 : Nat) (s0 : State) : KeepsO s0 (execYield b0 b1 s0) := by
  have h0 := Keeps.refl s0
  unfold execYield
  refine State.runStep_keeps _ _ _ _ _ _ (fun w => ?_) ?_
  · try beta_reduce
    refine keepsE_ok ?_
    exact Keeps.transS h0 (State.setCtx_keeps _ _ _ _)
  · exact doneW_keeps

theorem execJmp_keeps (b0 : Nat) (b1 : Nat) (s0 : State) : KeepsO s0 (execJmp b0 b1 s0) := by
  have h0 := Keeps.refl s0
  unfold execJmp
  refine State.runStep_keeps _ _ _ _ _ _ (fun w => ?_) ?_
  · try beta_reduce
    exact Keeps.transE h0 (State.flowStep_keeps _ _ _ _ _)
  · exact done_keeps

theorem execCall_keeps (b0 : Nat) (b1 : Nat) (s0 : State) : KeepsO s0 (execCall b0 b1 s0) := by
  have h0 := Keeps.refl s0
  unfold execCall
  refine State.runStep_keeps _ _ _ _ _ _ (fun w => ?_) ?_
  · try beta_reduce
    exact Keeps.transE h0 (State.flowStep_keeps _ _ _ _ _)
  · exact done_keeps

theorem execRet_keeps (b0 : Nat) (b1 : Nat) (s0 : State) : KeepsO s0 (execRet b0 b1 s0) := by
  have h0 := Keeps.refl s0
  unfold execRet
  refine State.runStep_keeps _ _ _ _ _ _ (fun w => ?_) ?_
  · try beta_reduce
    exact Keeps.transE h0 (State.flowStep_keeps _ _ _ _ _)
  · exact done_keeps

theorem execHalt_keeps (b0 : Nat) (b1 : Nat) (s0 : State) : KeepsO s0 (execHalt b0 b1 s0) := by
  have h0 := Keeps.refl s0
  unfold execHalt
  refine State.runStep_keeps _ _ _ _ _ _ (fun w => ?_) ?_
  · try beta_reduce
    refine keepsE_ok ?_
    exact Keeps.transS h0 (State.haltCtx_keeps _ _ _)
  · exact doneW_keeps

theorem execContextTimerExpiry_keeps (b0 : Nat) (b1 : Nat) (b2 : Nat) (s0 : State) : KeepsO s0 (execContextTimerExpiry b0 b1 b2 s0) := by
  have h0 := Keeps.refl s0
  unfold execContextTimerExpiry
  extract_lets -merge +onlyGivenNames x1
  have hx1 : Keeps s0 x1 := by unfold x1; exact Keeps.transS h0 (State.at__keeps _ _)
  clear_value x1; revert x1 hx1; refine Keeps.gen fun x1 hx1 => ?_
  extract_lets -merge +onlyGivenNames x2
  try clear_value x2
  refine Keeps.transO ?_ (doneW_keeps _)
  split
  · exact keepsS_ite (Keeps.transS hx1 (State.setCtx_keeps _ _ _ _)) hx1
  · exact hx1

theorem execWaittWake_keeps (b0 : Nat) (b1 : Nat) (b2 : Nat) (s0 : State) : KeepsO s0 (execWaittWake b0 b1 b2 s0) := by
  have h0 := Keeps.refl s0
  unfold execWaittWake
  extract_lets -merge +onlyGivenNames x1
  have hx1 : Keeps s0 x1 := by unfold x1; exact Keeps.transS h0 (State.at__keeps _ _)
  clear_value x1; revert x1 hx1; refine Keeps.gen fun x1 hx1 => ?_
  extract_lets -merge +onlyGivenNames x2
  try clear_value x2
  refine Keeps.transO ?_ (doneW_keeps _)
  split
  · exact keepsS_ite (Keeps.transS hx1 (State.setCtx_keeps _ _ _ _)) hx1
  · exact hx1

theorem execContextDispatch_keeps (b0 : Nat) (b1 : Bool) (b2 : Nat) (s0 : State) : KeepsO s0 (execContextDispatch b0 b1 b2 s0) := by
  have h0 := Keeps.refl s0
  unfold execContextDispatch
  extract_lets -merge +onlyGivenNames x1
  have hx1 : Keeps s0 x1 := by unfold x1; exact Keeps.transS h0 (State.at__keeps _ _)
  clear_value x1; revert x1 hx1; refine Keeps.gen fun x1 hx1 => ?_
  refine Keeps.transO ?_ (doneW_keeps _)
  exact keepsS_ite (Keeps.transS hx1 (State.turn_keeps _ _ _)) hx1

theorem execContextRestart_keeps (b0 : Word) (s0 : State) : KeepsO s0 (execContextRestart b0 s0) := by
  have h0 := Keeps.refl s0
  unfold execContextRestart
  exact Keeps.transO (Keeps.transS h0 (State.crst_keeps _ _)) (doneW_keeps _)

theorem execTxqbaseWrite_keeps (b0 : Word) (s0 : State) : KeepsO s0 (execTxqbaseWrite b0 s0) := by
  have h0 := Keeps.refl s0
  unfold execTxqbaseWrite
  exact Keeps.transO (Keeps.transS h0 (State.txqBase_keeps _ _)) (done_keeps _)

theorem execEngine16Run_keeps (s0 : State) : KeepsO s0 (execEngine16Run s0) := by
  have h0 := Keeps.refl s0
  unfold execEngine16Run
  refine Keeps.transO ?_ (doneW_keeps _)
  exact Keeps.transS h0 (State.e16Write_keeps _ _)

theorem execEngine16Stop_keeps (s0 : State) : KeepsO s0 (execEngine16Stop s0) := by
  have h0 := Keeps.refl s0
  unfold execEngine16Stop
  refine Keeps.transO ?_ (doneW_keeps _)
  exact Keeps.transS h0 (State.e16Write_keeps _ _)

theorem State.rtake_keeps (s0 : State) (b1 : Nat) (b2 : Nat) : Keeps s0 (State.rtake s0 b1 b2) := by
  have h0 := Keeps.refl s0
  unfold State.rtake
  extract_lets -merge +onlyGivenNames x1
  try clear_value x1
  extract_lets -merge +onlyGivenNames x2
  try clear_value x2
  exact keepsS_ite (Keeps.transS h0 (State.put_keeps _ _ _)) h0

theorem State.ackRequest_keeps (s0 : State) (b1 : Nat) (b2 : Nat) (b3 : Nat) (b4 : Frame) (b5 : Bool) : Keeps s0 (State.ackRequest s0 b1 b2 b3 b4 b5) := by
  have h0 := Keeps.refl s0
  unfold State.ackRequest
  extract_lets -merge +onlyGivenNames x1
  have hx1 : Keeps s0 x1 := by unfold x1; exact Keeps.transS h0 (State.updFrame_keeps _ _ _ _)
  clear_value x1; revert x1 hx1; refine Keeps.gen fun x1 hx1 => ?_
  extract_lets -merge +onlyGivenNames x2
  refine keepsS_ite ?_ ?_
  · exact Keeps.transS (Keeps.transS hx1 (State.updFrame_keeps _ _ _ _)) (State.latch_keeps _ _ _ _)
  · refine keepsS_ite ?_ ?_
    · exact Keeps.transS (Keeps.transS (Keeps.transS hx1 (State.txstat_keeps _ _ _ _)) (State.updFrame_keeps _ _ _ _)) (State.latch_keeps _ _ _ _)
    · exact Keeps.transS hx1 (State.updFrame_keeps _ _ _ _)

theorem State.armStep_keeps (s0 : State) (e c code : Nat) (only16 : Bool) (eff : State → StepWord → Except Nat State)
    (h : ∀ w, KeepsE s0 (eff s0 w)) : KeepsO s0 (s0.armStep e c code only16 eff) := by
  refine State.runStep_keeps _ _ _ _ _ _ (fun w => keepsE_ite keepsE_error ?_) doneW_keeps
  split
  · rename_i heq
    exact keepsE_ok ((h w _ heq).transS (State.stepNext_keeps _ _ _ _))
  · exact keepsE_error

theorem State.thruDone_keeps (s0 : State) (b1 : Nat) : Keeps s0 (State.thruDone s0 b1) := by
  have h0 := Keeps.refl s0
  unfold State.thruDone
  extract_lets -merge +onlyGivenNames x1
  have hx1 : Keeps s0 x1 := by unfold x1; exact Keeps.transS h0 (State.carryThru_keeps _ _)
  clear_value x1; revert x1 hx1; refine Keeps.gen fun x1 hx1 => ?_
  extract_lets -merge +onlyGivenNames x2
  try clear_value x2
  refine keepsS_ite ?_ ?_
  · exact Keeps.upd hx1 rfl
  · exact h0

theorem State.thruFlush_keeps (s0 : State) (b1 : Nat) (b2 : Nat) : Keeps s0 (State.thruFlush s0 b1 b2) := by
  have h0 := Keeps.refl s0
  unfold State.thruFlush
  refine foldl_keeps ?_ ?_
  · exact h0
  · intro x1 x2 hx1
    try beta_reduce
    exact Keeps.transS hx1 (State.thruDone_keeps _ _)

theorem State.deliver_keeps (s0 : State) (b1 : Nat) (b2 : Nat) (b3 : Nat) (b4 : Nat) (b5 : Frame) (b6 : Nat) (b7 : Word) : Keeps s0 (State.deliver s0 b1 b2 b3 b4 b5 b6 b7) := by
  have h0 := Keeps.refl s0
  unfold State.deliver
  extract_lets -merge +onlyGivenNames x1
  try clear_value x1
  extract_lets -merge +onlyGivenNames x2
  try clear_value x2
  extract_lets -merge +onlyGivenNames x3
  have hx3 : Keeps s0 x3 := by unfold x3; exact Keeps.upd h0 rfl
  clear_value x3; revert x3 hx3; refine Keeps.gen fun x3 hx3 => ?_
  extract_lets -merge +onlyGivenNames x4
  have hx4 : Keeps s0 x4 := by unfold x4; exact Keeps.transS (Keeps.transS hx3 (State.updFrame_keeps _ _ _ _)) (State.present_keeps _ _)
  clear_value x4; revert x4 hx4; refine Keeps.gen fun x4 hx4 => ?_
  extract_lets -merge +onlyGivenNames x5
  try clear_value x5
  exact Keeps.transS hx4 (State.setCtx_keeps _ _ _ _)

theorem State.delivEff_keeps (s0 : State) (b1 : Nat) (b2 : Nat) (b3 : StepWord) : KeepsE s0 (State.delivEff s0 b1 b2 b3) := by
  have h0 := Keeps.refl s0
  unfold State.delivEff
  split
  · exact keepsE_error
  · extract_lets -merge +onlyGivenNames x1
    have hx1 : Keeps s0 x1 := by unfold x1; exact Keeps.transS h0 (State.thruFlush_keeps _ _ _)
    clear_value x1; revert x1 hx1; refine Keeps.gen fun x1 hx1 => ?_
    extract_lets -merge +onlyGivenNames x2
    try clear_value x2
    extract_lets -merge +onlyGivenNames x3
    try clear_value x3
    refine keepsE_ite ?_ ?_
    · exact keepsE_error
    · refine keepsE_ok ?_
      refine keepsS_ite ?_ ?_
      · exact Keeps.transS hx1 (State.deliver_keeps _ _ _ _ _ _ _ _)
      · exact Keeps.transS (Keeps.transS hx1 (State.count_keeps _ _)) (State.setCtx_keeps _ _ _ _)

theorem State.delivWrite_keeps (s0 : State) (d : Delivery) : Keeps s0 (s0.delivWrite d) := by
  unfold State.delivWrite
  extract_lets -merge +onlyGivenNames put ws a src x1 d1 d2 x2
  have h1 : Keeps s0 x1 := Keeps.upd (Keeps.refl s0) rfl
  have g1 : Keeps s0 d1 := h1.transS (State.devWrite_keeps _ _ _)
  have g2 : Keeps s0 d2 := g1.transS (State.put_keeps _ _ _)
  have h2 : Keeps s0 x2 := keepsS_ite (h1.transS (State.count_keeps _ _)) (keepsS_ite (g2.transS (State.postTo_keeps _ _ _ _ _)) g2)
  exact h2.transS (State.setLane_keeps _ _ _)

theorem State.dropAttempt_keeps (s0 : State) (b1 : Nat) : Keeps s0 (State.dropAttempt s0 b1) := by
  have h0 := Keeps.refl s0
  unfold State.dropAttempt
  extract_lets -merge +onlyGivenNames x1
  have hx1 : Keeps s0 x1 := by unfold x1; exact Keeps.transS h0 (State.markBusy_keeps _ _)
  clear_value x1; revert x1 hx1; refine Keeps.gen fun x1 hx1 => ?_
  extract_lets -merge +onlyGivenNames x2
  try clear_value x2
  exact Keeps.transS (Keeps.transS hx1 (State.setLane_keeps _ _ _)) (State.laneRest_keeps _ _)

theorem State.dropEff_keeps (s0 : State) (b1 : Nat) (b2 : Nat) : KeepsE s0 (State.dropEff s0 b1 b2) := by
  have h0 := Keeps.refl s0
  unfold State.dropEff
  split
  · split
    · refine keepsE_ite ?_ ?_
      · refine keepsE_ok ?_
        exact Keeps.transS (Keeps.transS h0 (State.thruFlush_keeps _ _ _)) (State.dropAttempt_keeps _ _)
      · exact keepsE_error
    · exact keepsE_error
  · extract_lets -merge +onlyGivenNames x1
    have hx1 : Keeps s0 x1 := by unfold x1; exact Keeps.transS h0 (State.thruFlush_keeps _ _ _)
    clear_value x1; revert x1 hx1; refine Keeps.gen fun x1 hx1 => ?_
    split
    · rename_i heq
      have hx2 := keeps1_of heq (s0 := s0) (by
          exact Keeps.trans1 hx1 (State.ackWithdraw_keeps _ _ _)
        )
      extract_lets -merge +onlyGivenNames x3
      have hx3 : Keeps s0 x3 := by unfold x3; exact Keeps.transS hx2 (State.markBusy_keeps _ _)
      clear_value x3; revert x3 hx3; refine Keeps.gen fun x3 hx3 => ?_
      extract_lets -merge +onlyGivenNames x4
      try clear_value x4
      extract_lets -merge +onlyGivenNames x5
      have hx5 : Keeps s0 x5 := by unfold x5; exact Keeps.transS hx3 (State.release_keeps _ _ _)
      clear_value x5; revert x5 hx5; refine Keeps.gen fun x5 hx5 => ?_
      extract_lets -merge +onlyGivenNames x6
      try clear_value x6
      refine keepsE_ok ?_
      exact keepsS_ite (Keeps.transS (Keeps.transS hx5 (State.setLane_keeps _ _ _)) (State.laneRest_keeps _ _)) hx5

theorem State.latchPend_keeps (s0 : State) (b1 : Nat) (b2 : Nat) (b3 : Bool) : Keeps s0 (State.latchPend s0 b1 b2 b3) := by
  have h0 := Keeps.refl s0
  unfold State.latchPend
  split
  · exact keepsS_ite (Keeps.transS h0 (State.updFrame_keeps _ _ _ _)) h0
  · extract_lets -merge +onlyGivenNames x1
    try clear_value x1
    exact keepsS_ite (Keeps.transS h0 (State.setLane_keeps _ _ _)) h0
  · exact h0

theorem State.placeWake_keeps (s0 : State) (b1 : Nat) (b2 : Place) : Keeps s0 (State.placeWake s0 b1 b2) := by
  have h0 := Keeps.refl s0
  unfold State.placeWake
  split
  · exact h0
  · exact Keeps.transS h0 (State.wakeRange_keeps _ _ _)

theorem State.ldEff_keeps (s0 : State) (b1 : Nat) (b2 : Nat) (b3 : StepWord) : KeepsE s0 (State.ldEff s0 b1 b2 b3) := by
  have h0 := Keeps.refl s0
  unfold State.ldEff
  split
  · exact keepsE_error
  · split
    · exact keepsE_error
    · refine keepsE_ok ?_
      exact Keeps.transS (Keeps.transS h0 (State.placeWake_keeps _ _ _)) (State.setDst_keeps _ _ _ _ _)

theorem State.lookupEff_keeps (s0 : State) (e c : Nat) (w : StepWord) : KeepsE s0 (s0.lookupEff e c w) := by
  have h0 := Keeps.refl s0
  unfold State.lookupEff
  refine keepsE_ite keepsE_error ?_
  extract_lets -merge +onlyGivenNames r x fp src y
  have hy : Keeps s0 y := by
    clear_value fp src r
    unfold y
    split <;> exact h0.transS (State.setCtx_keeps _ _ _ _)
  clear_value y
  exact keepsE_ok (keepsS_ite (hy.transS (State.latchPend_keeps _ _ _ _)) hy)

theorem State.stMem_keeps (s0 : State) (b1 : Nat) (b2 : Nat) (b3 : Nat) (b4 : List Byte) : Keeps s0 (State.stMem s0 b1 b2 b3 b4) := by
  have h0 := Keeps.refl s0
  unfold State.stMem
  extract_lets -merge +onlyGivenNames x1
  have hx1 : Keeps s0 x1 := by unfold x1; exact Keeps.transS h0 (State.devWrite_keeps _ _ _)
  clear_value x1; revert x1 hx1; refine Keeps.gen fun x1 hx1 => ?_
  refine keepsS_ite ?_ ?_
  · exact h0
  · split
    · extract_lets -merge +onlyGivenNames x2
      try clear_value x2
      exact Keeps.upd hx1 rfl
    · exact hx1

theorem State.stEff_keeps (s0 : State) (b1 : Nat) (b2 : Nat) (b3 : StepWord) : KeepsE s0 (State.stEff s0 b1 b2 b3) := by
  have h0 := Keeps.refl s0
  unfold State.stEff
  split
  · exact keepsE_error
  · extract_lets -merge +onlyGivenNames x1
    try clear_value x1
    split
    · exact keepsE_error
    · refine keepsE_ok ?_
      exact Keeps.transS h0 (State.setCtx_keeps _ _ _ _)
    · refine keepsE_ok ?_
      exact Keeps.transS h0 (State.stMem_keeps _ _ _ _ _)

theorem State.take_keeps (s0 : State) (b1 : Nat) (b2 : TxEntry) : Keeps s0 (State.take s0 b1 b2) := by
  have h0 := Keeps.refl s0
  unfold State.take
  extract_lets -merge +onlyGivenNames x1
  try clear_value x1
  extract_lets -merge +onlyGivenNames x2
  have hx2 : Keeps s0 x2 := by unfold x2; exact Keeps.upd h0 rfl
  clear_value x2; revert x2 hx2; refine Keeps.gen fun x2 hx2 => ?_
  extract_lets -merge +onlyGivenNames x3
  try clear_value x3
  extract_lets -merge +onlyGivenNames x4
  have hx4 : Keeps s0 x4 := by unfold x4; exact Keeps.transS hx2 (State.setCtx_keeps _ _ _ _)
  clear_value x4; revert x4 hx4; refine Keeps.gen fun x4 hx4 => ?_
  extract_lets -merge +onlyGivenNames x5
  try clear_value x5
  refine keepsS_ite ?_ ?_
  · exact Keeps.transS (Keeps.transS hx4 (State.count_keeps _ _)) (State.complete_keeps _ _ _)
  · exact Keeps.transS (Keeps.transS hx4 (State.charge_keeps _ _ _)) (State.handOver_keeps _ _)

theorem State.txackEff_keeps (s0 : State) (b1 : Nat) (b2 : Nat) (b3 : StepWord) : KeepsE s0 (State.txackEff s0 b1 b2 b3) := by
  have h0 := Keeps.refl s0
  unfold State.txackEff
  split
  · exact keepsE_error
  · refine keepsE_ite ?_ ?_
    · exact keepsE_error
    · refine keepsE_ite ?_ ?_
      · exact keepsE_error
      · refine keepsE_ok ?_
        exact keepsS_ite (Keeps.transS h0 (State.ackRequest_keeps _ _ _ _ _ _)) h0

theorem State.txqPut_keeps (s0 : State) (b1 : Nat) (b2 : Nat) (b3 : Nat) (b4 : StepWord) (b5 : List Word) : Keeps s0 (State.txqPut s0 b1 b2 b3 b4 b5) := by
  have h0 := Keeps.refl s0
  unfold State.txqPut
  extract_lets -merge +onlyGivenNames x1
  try clear_value x1
  split
  · extract_lets -merge +onlyGivenNames x2
    try clear_value x2
    exact Keeps.transS h0 (State.setCtx_keeps _ _ _ _)
  · extract_lets -merge +onlyGivenNames x3
    try clear_value x3
    extract_lets -merge +onlyGivenNames x4
    try clear_value x4
    extract_lets -merge +onlyGivenNames x5
    try clear_value x5
    extract_lets -merge +onlyGivenNames x6
    have hx6 : Keeps s0 x6 := by unfold x6; exact Keeps.transS h0 (State.devWrite_keeps _ _ _)
    clear_value x6; revert x6 hx6; refine Keeps.gen fun x6 hx6 => ?_
    extract_lets -merge +onlyGivenNames x7
    try clear_value x7
    extract_lets -merge +onlyGivenNames x8
    have hx8 : Keeps s0 x8 := by unfold x8; exact Keeps.upd hx6 rfl
    clear_value x8; revert x8 hx8; refine Keeps.gen fun x8 hx8 => ?_
    extract_lets -merge +onlyGivenNames x9
    try clear_value x9
    exact Keeps.transS hx8 (State.setCtx_keeps _ _ _ _)

theorem State.txqEff_keeps (s0 : State) (b1 : Nat) (b2 : Nat) (b3 : StepWord) : KeepsE s0 (State.txqEff s0 b1 b2 b3) := by
  have h0 := Keeps.refl s0
  unfold State.txqEff
  extract_lets -merge +onlyGivenNames x1
  try clear_value x1
  extract_lets -merge +onlyGivenNames x2
  try clear_value x2
  split
  · exact keepsE_error
  · refine keepsE_ok ?_
    exact Keeps.transS h0 (State.txqPut_keeps _ _ _ _ _ _)

theorem State.wakePay_keeps (s0 : State) (b1 : TxEntry) : Keeps s0 (State.wakePay s0 b1) := by
  have h0 := Keeps.refl s0
  unfold State.wakePay
  exact Keeps.transS h0 (State.wakeRange_keeps _ _ _)

theorem execLd_keeps (b0 : Nat) (b1 : Nat) (s0 : State) : KeepsO s0 (execLd b0 b1 s0) := by
  have h0 := Keeps.refl s0
  unfold execLd
  refine State.dataStep_keeps _ _ _ _ _ fun w => ?_
  try beta_reduce
  exact Keeps.transE h0 (State.ldEff_keeps _ _ _ _)

theorem execSt_keeps (b0 : Nat) (b1 : Nat) (s0 : State) : KeepsO s0 (execSt b0 b1 s0) := by
  have h0 := Keeps.refl s0
  unfold execSt
  refine State.dataStep_keeps _ _ _ _ _ fun w => ?_
  try beta_reduce
  exact Keeps.transE h0 (State.stEff_keeps _ _ _ _)

theorem execLookup_keeps (b0 : Nat) (b1 : Nat) (s0 : State) : KeepsO s0 (execLookup b0 b1 s0) := by
  have h0 := Keeps.refl s0
  unfold execLookup
  refine State.dataStep_keeps _ _ _ _ _ fun w => ?_
  try beta_reduce
  exact Keeps.transE (Keeps.transS h0 (State.wakeRange_keeps _ _ _)) (State.lookupEff_keeps _ _ _ _)

theorem execReadf_keeps (b0 : Nat) (b1 : Nat) (s0 : State) : KeepsO s0 (execReadf b0 b1 s0) := by
  have h0 := Keeps.refl s0
  unfold execReadf
  refine State.dataStep_keeps _ _ _ _ _ fun w => ?_
  try beta_reduce
  split
  · refine keepsE_ok ?_
    exact Keeps.transS h0 (State.setCtx_keeps _ _ _ _)
  · exact keepsE_error

theorem execTxq_keeps (b0 : Nat) (b1 : Nat) (s0 : State) : KeepsO s0 (execTxq b0 b1 s0) := by
  have h0 := Keeps.refl s0
  unfold execTxq
  refine State.dataStep_keeps _ _ _ _ _ fun w => ?_
  try beta_reduce
  exact Keeps.transE h0 (State.txqEff_keeps _ _ _ _)

theorem execTxack_keeps (b0 : Nat) (b1 : Nat) (s0 : State) : KeepsO s0 (execTxack b0 b1 s0) := by
  have h0 := Keeps.refl s0
  unfold execTxack
  refine State.dataStep_keeps _ _ _ _ _ fun w => ?_
  try beta_reduce
  exact Keeps.transE h0 (State.txackEff_keeps _ _ _ _)

theorem execDeliv_keeps (b0 : Nat) (b1 : Nat) (s0 : State) : KeepsO s0 (execDeliv b0 b1 s0) := by
  have h0 := Keeps.refl s0
  unfold execDeliv
  refine State.dataStep_keeps _ _ _ _ _ fun w => ?_
  try beta_reduce
  exact Keeps.transE h0 (State.delivEff_keeps _ _ _ _)

theorem execDropFrame_keeps (b0 : Nat) (b1 : Nat) (s0 : State) : KeepsO s0 (execDropFrame b0 b1 s0) := by
  have h0 := Keeps.refl s0
  unfold execDropFrame
  refine State.dataStep_keeps _ _ _ _ _ fun w => ?_
  try beta_reduce
  exact Keeps.transE h0 (State.dropEff_keeps _ _ _)

theorem execPostEvent_keeps (b0 : Nat) (b1 : Nat) (s0 : State) : KeepsO s0 (execPostEvent b0 b1 s0) := by
  have h0 := Keeps.refl s0
  unfold execPostEvent
  refine State.dataStep_keeps _ _ _ _ _ fun w => ?_
  try beta_reduce
  extract_lets -merge +onlyGivenNames x1
  try clear_value x1
  refine keepsE_ite ?_ ?_
  · exact keepsE_error
  · refine keepsE_ok ?_
    exact Keeps.transS h0 (State.publish_keeps _ _ _)

theorem execIrq_keeps (b0 : Nat) (b1 : Nat) (s0 : State) : KeepsO s0 (execIrq b0 b1 s0) := by
  have h0 := Keeps.refl s0
  unfold execIrq
  refine State.dataStep_keeps _ _ _ _ _ fun w => ?_
  try beta_reduce
  refine keepsE_ok ?_
  exact Keeps.transS h0 (State.postRaw_keeps _ _ _ _ _ _ _)

theorem execTxgo_keeps (b0 : Nat) (b1 : Nat) (s0 : State) : KeepsO s0 (execTxgo b0 b1 s0) := by
  have h0 := Keeps.refl s0
  unfold execTxgo
  refine State.armStep_keeps _ _ _ _ _ _ fun w => ?_
  try beta_reduce
  split
  · exact keepsE_error
  · refine keepsE_ok ?_
    split
    · exact Keeps.transS (Keeps.transS h0 (State.wakePay_keeps _ _)) (State.take_keeps _ _ _)
    · extract_lets -merge +onlyGivenNames x1
      try clear_value x1
      exact Keeps.transS h0 (State.setCtx_keeps _ _ _ _)

theorem execTxhold_keeps (b0 : Nat) (b1 : Nat) (s0 : State) : KeepsO s0 (execTxhold b0 b1 s0) := by
  have h0 := Keeps.refl s0
  unfold execTxhold
  refine State.armStep_keeps _ _ _ _ _ _ fun w => ?_
  try beta_reduce
  refine keepsE_ok ?_
  exact Keeps.transS h0 (State.holdNbr_keeps _ _ _)

theorem execTxrel_keeps (b0 : Nat) (b1 : Nat) (s0 : State) : KeepsO s0 (execTxrel b0 b1 s0) := by
  have h0 := Keeps.refl s0
  unfold execTxrel
  refine State.armStep_keeps _ _ _ _ _ _ fun w => ?_
  try beta_reduce
  refine keepsE_ok ?_
  exact Keeps.transS h0 (State.holdNbr_keeps _ _ _)

theorem execHop_keeps (b0 : Nat) (b1 : Nat) (s0 : State) : KeepsO s0 (execHop b0 b1 s0) := by
  have h0 := Keeps.refl s0
  unfold execHop
  refine State.armStep_keeps _ _ _ _ _ _ fun w => ?_
  try beta_reduce
  extract_lets -merge +onlyGivenNames x1
  try clear_value x1
  extract_lets -merge +onlyGivenNames x2
  try clear_value x2
  refine keepsE_ok ?_
  exact Keeps.transS h0 (State.setDst_keeps _ _ _ _ _)

theorem execGuard_keeps (b0 : Nat) (b1 : Nat) (s0 : State) : KeepsO s0 (execGuard b0 b1 s0) := by
  have h0 := Keeps.refl s0
  unfold execGuard
  refine State.armStep_keeps _ _ _ _ _ _ fun w => ?_
  try beta_reduce
  split
  · rename_i heq
    have hx1 := keeps2_of heq (s0 := s0) (by
        exact Keeps.trans2 h0 (State.guardLink_keeps _ _)
      )
    refine keepsE_ok ?_
    exact Keeps.transS hx1 (State.setDst_keeps _ _ _ _ _)

theorem execResync_keeps (b0 : Nat) (b1 : Nat) (s0 : State) : KeepsO s0 (execResync b0 b1 s0) := by
  have h0 := Keeps.refl s0
  unfold execResync
  refine State.armStep_keeps _ _ _ _ _ _ fun w => ?_
  try beta_reduce
  split
  · refine keepsE_ok ?_
    exact Keeps.transS h0 (State.resyncLink_keeps _ _ _)
  · exact keepsE_error

theorem execSprx_keeps (b0 : Nat) (b1 : Nat) (s0 : State) : KeepsO s0 (execSprx b0 b1 s0) := by
  have h0 := Keeps.refl s0
  unfold execSprx
  refine State.armStep_keeps _ _ _ _ _ _ fun w => ?_
  try beta_reduce
  extract_lets -merge +onlyGivenNames x1
  try clear_value x1
  refine keepsE_ite ?_ ?_
  · exact keepsE_error
  · refine keepsE_ok ?_
    exact Keeps.transS h0 (State.writeReg_keeps _ _ _)

theorem execSpoff_keeps (b0 : Nat) (b1 : Nat) (s0 : State) : KeepsO s0 (execSpoff b0 b1 s0) := by
  have h0 := Keeps.refl s0
  unfold execSpoff
  refine State.armStep_keeps _ _ _ _ _ _ fun w => ?_
  try beta_reduce
  refine keepsE_ok ?_
  exact Keeps.transS h0 (State.writeL_keeps _ _ _ _)

theorem execSped_keeps (b0 : Nat) (b1 : Nat) (s0 : State) : KeepsO s0 (execSped b0 b1 s0) := by
  have h0 := Keeps.refl s0
  unfold execSped
  refine State.armStep_keeps _ _ _ _ _ _ fun w => ?_
  try beta_reduce
  split
  · exact keepsE_error
  · extract_lets -merge +onlyGivenNames x1
    try clear_value x1
    refine keepsE_ok ?_
    exact Keeps.transS h0 (State.setCtx_keeps _ _ _ _)

theorem execSpedDone_keeps (b0 : Nat) (b1 : ℤ) (b2 : Nat) (s0 : State) : KeepsO s0 (execSpedDone b0 b1 b2 s0) := by
  have h0 := Keeps.refl s0
  unfold execSpedDone
  extract_lets -merge +onlyGivenNames x1
  have hx1 : Keeps s0 x1 := by unfold x1; exact Keeps.transS h0 (State.at__keeps _ _)
  clear_value x1; revert x1 hx1; refine Keeps.gen fun x1 hx1 => ?_
  extract_lets -merge +onlyGivenNames x2
  try clear_value x2
  refine Keeps.transO ?_ (doneW_keeps _)
  split
  · exact keepsS_ite (Keeps.transS hx1 (State.setCtx_keeps _ _ _ _)) hx1
  · exact hx1

theorem execArmSadc_keeps (b0 : Nat) (b1 : Nat) (s0 : State) : KeepsO s0 (execArmSadc b0 b1 s0) := by
  have h0 := Keeps.refl s0
  unfold execArmSadc
  refine State.armStep_keeps _ _ _ _ _ _ fun w => ?_
  try beta_reduce
  extract_lets -merge +onlyGivenNames x1
  try clear_value x1
  extract_lets -merge +onlyGivenNames x2
  have hx2 : Keeps s0 x2 := by unfold x2; exact Keeps.transS h0 (State.setCtx_keeps _ _ _ _)
  clear_value x2; revert x2 hx2; refine Keeps.gen fun x2 hx2 => ?_
  extract_lets -merge +onlyGivenNames x3
  try clear_value x3
  refine keepsE_ite ?_ ?_
  · exact keepsE_error
  · refine keepsE_ok ?_
    refine Keeps.transS ?_ (State.sadcServe_keeps _)
    exact Keeps.upd hx2 rfl

theorem execArmWake_keeps (b0 : Nat) (b1 : Nat) (s0 : State) : KeepsO s0 (execArmWake b0 b1 s0) := by
  have h0 := Keeps.refl s0
  unfold execArmWake
  refine State.armStep_keeps _ _ _ _ _ _ fun w => ?_
  try beta_reduce
  refine keepsE_ok ?_
  exact Keeps.transS h0 (State.wakeTask_keeps _ _)

theorem execTxqRelease_keeps (b0 : Nat) (s0 : State) : KeepsO s0 (execTxqRelease b0 s0) := by
  have h0 := Keeps.refl s0
  unfold execTxqRelease
  extract_lets -merge +onlyGivenNames x1
  have hx1 : Keeps s0 x1 := by unfold x1; exact Keeps.transS h0 (State.at__keeps _ _)
  clear_value x1; revert x1 hx1; refine Keeps.gen fun x1 hx1 => ?_
  refine Keeps.transO ?_ (doneW_keeps _)
  exact Keeps.upd hx1 rfl

theorem execBallastWriteThrough_keeps (b0 : Nat) (b1 : Nat) (s0 : State) : KeepsO s0 (execBallastWriteThrough b0 b1 s0) := by
  have h0 := Keeps.refl s0
  unfold execBallastWriteThrough
  exact Keeps.transO (Keeps.transS (Keeps.transS h0 (State.at__keeps _ _)) (State.thruDone_keeps _ _)) (done_keeps _)

theorem execDeliveryWrite_keeps (b0 : CoreId) (b1 : Nat) (s0 : State) : KeepsO s0 (execDeliveryWrite b0 b1 s0) := by
  have h0 := Keeps.refl s0
  unfold execDeliveryWrite
  extract_lets -merge +onlyGivenNames x1
  have hx1 : Keeps s0 x1 := by unfold x1; exact Keeps.transS h0 (State.at__keeps _ _)
  clear_value x1; revert x1 hx1; refine Keeps.gen fun x1 hx1 => ?_
  refine Keeps.transO ?_ (doneW_keeps _)
  split
  · exact Keeps.transS hx1 (State.delivWrite_keeps _ _)
  · exact hx1

theorem execRtakeWrite_keeps (b0 : CoreId) (b1 : BitVec 16) (s0 : State) : KeepsO s0 (execRtakeWrite b0 b1 s0) := by
  have h0 := Keeps.refl s0
  unfold execRtakeWrite
  exact Keeps.transO (Keeps.transS h0 (State.rtake_keeps _ _ _)) (done_keeps _)

theorem State.updEnd_keeps (s0 : State) (b1 : Nat) : Keeps s0 (State.updEnd s0 b1) := by
  have h0 := Keeps.refl s0
  unfold State.updEnd
  extract_lets -merge +onlyGivenNames x1
  have hx1 : Keeps s0 x1 := by unfold x1; exact Keeps.transS h0 (State.put_keeps _ _ _)
  clear_value x1; revert x1 hx1; refine Keeps.gen fun x1 hx1 => ?_
  exact Keeps.upd hx1 rfl

theorem State.ld_keeps (s0 : State) (f : Loader → Loader) : Keeps s0 (State.ld s0 f) := Keeps.upd (Keeps.refl s0) rfl

theorem State.ldrBegin_keeps (s0 : State) (b1 : Nat) (b2 : Nat) (b3 : Nat) (b4 : Bool) (b5 : Bool) : Keeps s0 (State.ldrBegin s0 b1 b2 b3 b4 b5) := by
  have h0 := Keeps.refl s0
  unfold State.ldrBegin
  extract_lets -merge +onlyGivenNames x1
  try clear_value x1
  exact Keeps.transS (Keeps.transS h0 (State.put_keeps _ _ _)) (State.ld_keeps _ _)

theorem State.ldrLoad_keeps (s0 : State) (b1 : Word) : Keeps s0 (State.ldrLoad s0 b1) := by
  have h0 := Keeps.refl s0
  unfold State.ldrLoad
  extract_lets -merge +onlyGivenNames x1
  try clear_value x1
  exact keepsS_ite (Keeps.transS h0 (State.put_keeps _ _ _)) (Keeps.transS h0 (State.ldrBegin_keeps _ _ _ _ _ _))

theorem State.updNext_keeps (s0 : State) : Keeps s0 (State.updNext s0) := by
  have h0 := Keeps.refl s0
  unfold State.updNext
  extract_lets -merge +onlyGivenNames x1
  try clear_value x1
  refine keepsS_ite ?_ ?_
  · exact h0
  · split
    · extract_lets -merge +onlyGivenNames x2
      have hx2 : Keeps s0 x2 := by unfold x2; exact Keeps.upd h0 rfl
      clear_value x2; revert x2 hx2; refine Keeps.gen fun x2 hx2 => ?_
      split
      · exact Keeps.transS hx2 (State.ldrBegin_keeps _ _ _ _ _ _)
      · extract_lets -merge +onlyGivenNames x3
        have hx3 : Keeps s0 x3 := by unfold x3; exact Keeps.transS hx2 (State.haltFill_keeps _ _)
        clear_value x3; revert x3 hx3; refine Keeps.gen fun x3 hx3 => ?_
        extract_lets -merge +onlyGivenNames x4
        try clear_value x4
        exact Keeps.upd hx3 rfl
    · refine Keeps.transS ?_ (State.updEnd_keeps _ _)
      exact keepsS_ite (Keeps.transS h0 (State.coreReset_keeps _ _)) h0

theorem State.updGo_keeps (s0 : State) : Keeps s0 (State.updGo s0) := by
  have h0 := Keeps.refl s0
  unfold State.updGo
  refine forN_keeps ?_ ?_
  · exact h0
  · intro x1 x2 hx1
    try beta_reduce
    exact Keeps.transS hx1 (State.updNext_keeps _)

theorem State.commitBack_keeps (s0 : State) : Keeps s0 (State.commitBack s0) := by
  have h0 := Keeps.refl s0
  unfold State.commitBack
  exact Keeps.transS (Keeps.transS h0 (State.commitPut_keeps _ _ _)) (State.setMirror_keeps _)

theorem State.updLoaded_keeps (s0 : State) (b1 : Nat) : Keeps s0 (State.updLoaded s0 b1) := by
  have h0 := Keeps.refl s0
  unfold State.updLoaded
  extract_lets -merge +onlyGivenNames x1
  try clear_value x1
  split
  · exact h0
  · extract_lets -merge +onlyGivenNames x2
    try clear_value x2
    extract_lets -merge +onlyGivenNames x3
    have hx3 : Keeps s0 x3 := by unfold x3; exact Keeps.transS h0 (State.commitBack_keeps _)
    clear_value x3; revert x3 hx3; refine Keeps.gen fun x3 hx3 => ?_
    refine keepsS_ite ?_ ?_
    · exact Keeps.upd h0 rfl
    · exact Keeps.upd hx3 rfl

theorem State.ldrEnd_keeps (s0 : State) (b1 : Nat) (b2 : Nat) : Keeps s0 (State.ldrEnd s0 b1 b2) := by
  have h0 := Keeps.refl s0
  unfold State.ldrEnd
  extract_lets -merge +onlyGivenNames x1
  try clear_value x1
  extract_lets -merge +onlyGivenNames x2
  have hx2 : Keeps s0 x2 := by
    unfold x2
    exact Keeps.transS (Keeps.transS (Keeps.transS h0 (State.ld_keeps _ _)) (State.put_keeps _ _ _)) (State.setReg_keeps _ _ _)
  clear_value x2; revert x2 hx2; refine Keeps.gen fun x2 hx2 => ?_
  extract_lets -merge +onlyGivenNames x3
  have hx3 : Keeps s0 x3 := by unfold x3; exact Keeps.transS hx2 (State.postTo_keeps _ _ _ _ _)
  clear_value x3; revert x3 hx3; refine Keeps.gen fun x3 hx3 => ?_
  refine Keeps.transS ?_ (State.updGo_keeps _)
  exact keepsS_ite (Keeps.transS hx3 (State.updLoaded_keeps _ _)) hx3

theorem State.ldrAbort_keeps (s0 : State) : Keeps s0 (State.ldrAbort s0) := by
  have h0 := Keeps.refl s0
  unfold State.ldrAbort
  split
  · exact Keeps.transS h0 (State.ldrEnd_keeps _ _ _)
  · refine Keeps.transS ?_ (State.ldrEnd_keeps _ _ _)
    exact keepsS_ite (Keeps.transS h0 (State.freeGroups_keeps _ _)) h0
  · exact h0

theorem State.ldrCopy_keeps (s0 : State) (b1 : Option Nat) : Keeps s0 (State.ldrCopy s0 b1) := by
  have h0 := Keeps.refl s0
  unfold State.ldrCopy
  extract_lets -merge +onlyGivenNames x1
  try clear_value x1
  extract_lets -merge +onlyGivenNames x2
  try clear_value x2
  extract_lets -merge +onlyGivenNames x3
  have hx3 : Keeps s0 x3 := by unfold x3; exact keepsS_ite (Keeps.transS h0 (State.holdGroups_keeps _ _)) h0
  clear_value x3; revert x3 hx3; refine Keeps.gen fun x3 hx3 => ?_
  extract_lets -merge +onlyGivenNames x4
  try clear_value x4
  extract_lets -merge +onlyGivenNames x5
  have hx5 : Keeps s0 x5 := by unfold x5; exact Keeps.transS hx3 (State.setEng_keeps _ _ _)
  clear_value x5; revert x5 hx5; refine Keeps.gen fun x5 hx5 => ?_
  exact Keeps.transS hx5 (State.ld_keeps _ _)

theorem State.ldrFollow_keeps (s0 : State) (b1 : Nat) : Keeps s0 (State.ldrFollow s0 b1) := by
  have h0 := Keeps.refl s0
  unfold State.ldrFollow
  exact keepsS_ite (Keeps.transS h0 (State.ldrCopy_keeps _ _)) h0

theorem State.e16Stopped_keeps (s0 : State) : Keeps s0 (State.e16Stopped s0) := by
  have h0 := Keeps.refl s0
  unfold State.e16Stopped
  extract_lets -merge +onlyGivenNames x1
  have hx1 : Keeps s0 x1 := by unfold x1; exact Keeps.transS (Keeps.transS h0 (State.engStop_keeps _ _)) (State.ldrFollow_keeps _ _)
  clear_value x1; revert x1 hx1; refine Keeps.gen fun x1 hx1 => ?_
  exact keepsS_ite (Keeps.transS hx1 (State.engStart_keeps _ _)) hx1

theorem State.ldrRestart_keeps (s0 : State) : Keeps s0 (State.ldrRestart s0) := by
  have h0 := Keeps.refl s0
  unfold State.ldrRestart
  extract_lets -merge +onlyGivenNames x1
  try clear_value x1
  extract_lets -merge +onlyGivenNames x2
  have hx2 : Keeps s0 x2 := by unfold x2; exact Keeps.transS h0 (State.ld_keeps _ _)
  clear_value x2; revert x2 hx2; refine Keeps.gen fun x2 hx2 => ?_
  exact keepsS_ite hx2 (keepsS_ite (Keeps.transS hx2 (State.freeGroups_keeps _ _)) (keepsS_ite (Keeps.transS hx2 (State.engStart_keeps _ _)) hx2))

theorem State.ldrDo_keeps (s0 : State) : Keeps s0 (State.ldrDo s0) := by
  have h0 := Keeps.refl s0
  unfold State.ldrDo
  extract_lets -merge +onlyGivenNames x1
  try clear_value x1
  extract_lets -merge +onlyGivenNames x2
  try clear_value x2
  split
  · rename_i heq
    have hx3 := keeps1_of heq (s0 := s0) (by
        exact Keeps.trans1 h0 (State.rscans_keeps _ _)
      )
    split
    · rename_i heq
      have hx4 := keeps2_of heq (s0 := s0) (by
          exact Keeps.trans2 hx3 (State.imgCopy_keeps _ _ _ _ _)
        )
      extract_lets -merge +onlyGivenNames x5
      have hx5 : Keeps s0 x5 := by unfold x5; exact Keeps.transS hx4 (State.ldrRestart_keeps _)
      clear_value x5; revert x5 hx5; refine Keeps.gen fun x5 hx5 => ?_
      exact keepsS_ite (Keeps.transS hx5 (State.ldrEnd_keeps _ _ _)) (Keeps.transS hx4 (State.ldrEnd_keeps _ _ _))

theorem State.ldrHold_keeps (s0 : State) : Keeps s0 (State.ldrHold s0) := by
  have h0 := Keeps.refl s0
  unfold State.ldrHold
  extract_lets -merge +onlyGivenNames x1
  try clear_value x1
  exact Keeps.transS (Keeps.transS h0 (State.holdGroups_keeps _ _)) (State.ld_keeps _ _)

theorem State.ldrStop_keeps (s0 : State) (b1 : List Word) : Keeps s0 (State.ldrStop s0 b1) := by
  have h0 := Keeps.refl s0
  unfold State.ldrStop
  extract_lets -merge +onlyGivenNames x1
  try clear_value x1
  extract_lets -merge +onlyGivenNames x2
  have hx2 : Keeps s0 x2 := by unfold x2; exact Keeps.transS h0 (State.ld_keeps _ _)
  clear_value x2; revert x2 hx2; refine Keeps.gen fun x2 hx2 => ?_
  extract_lets -merge +onlyGivenNames x3
  try clear_value x3
  refine keepsS_ite ?_ ?_
  · exact Keeps.transS hx2 (State.ldrCopy_keeps _ _)
  · exact keepsS_ite (Keeps.transS hx2 (State.setEng_keeps _ _ _)) (keepsS_ite (Keeps.transS hx2 (State.ldrHold_keeps _)) hx2)

theorem State.ldrVerify_keeps (s0 : State) : Keeps s0 (State.ldrVerify s0) := by
  have h0 := Keeps.refl s0
  unfold State.ldrVerify
  extract_lets -merge +onlyGivenNames x1
  try clear_value x1
  split
  · rename_i heq
    have hx2 := keeps1_of heq (s0 := s0) (by
        exact Keeps.trans1 h0 (State.rscans_keeps _ _)
      )
    extract_lets -merge +onlyGivenNames x3
    try clear_value x3
    split
    · exact Keeps.transS hx2 (State.ldrEnd_keeps _ _ _)
    · exact Keeps.transS hx2 (State.ldrStop_keeps _ _)

theorem State.quietStop_keeps (s0 : State) : Keeps s0 (State.quietStop s0) := by
  have h0 := Keeps.refl s0
  unfold State.quietStop
  extract_lets -merge +onlyGivenNames x1
  try clear_value x1
  extract_lets -merge +onlyGivenNames x2
  try clear_value x2
  extract_lets -merge +onlyGivenNames x3
  have hx3 : Keeps s0 x3 := by unfold x3; exact Keeps.transS (Keeps.transS h0 (State.holdGroups_keeps _ _)) (State.groupStop_keeps _ _)
  clear_value x3; revert x3 hx3; refine Keeps.gen fun x3 hx3 => ?_
  exact Keeps.transS (Keeps.transS hx3 (State.ld_keeps _ _)) (State.ldrFollow_keeps _ _)

theorem execGroupStopped_keeps (b0 : Nat) (b1 : Nat) (s0 : State) : KeepsO s0 (execGroupStopped b0 b1 s0) := by
  have h0 := Keeps.refl s0
  unfold execGroupStopped
  extract_lets -merge +onlyGivenNames x1
  have hx1 : Keeps s0 x1 := by unfold x1; exact Keeps.transS h0 (State.at__keeps _ _)
  clear_value x1; revert x1 hx1; refine Keeps.gen fun x1 hx1 => ?_
  refine Keeps.transO ?_ (doneW_keeps _)
  exact keepsS_ite (Keeps.transS (Keeps.transS hx1 (State.groupStop_keeps _ _)) (State.ldrFollow_keeps _ _)) hx1

theorem execEngine16Stopped_keeps (b0 : Nat) (s0 : State) : KeepsO s0 (execEngine16Stopped b0 s0) := by
  have h0 := Keeps.refl s0
  unfold execEngine16Stopped
  extract_lets -merge +onlyGivenNames x1
  have hx1 : Keeps s0 x1 := by unfold x1; exact Keeps.transS h0 (State.at__keeps _ _)
  clear_value x1; revert x1 hx1; refine Keeps.gen fun x1 hx1 => ?_
  refine Keeps.transO ?_ (doneW_keeps _)
  exact keepsS_ite (Keeps.transS hx1 (State.e16Stopped_keeps _)) hx1

theorem execLoadTable_keeps (b0 : Word) (s0 : State) : KeepsO s0 (execLoadTable b0 s0) := by
  have h0 := Keeps.refl s0
  unfold execLoadTable
  exact Keeps.transO (Keeps.transS h0 (State.ldrLoad_keeps _ _)) (doneW_keeps _)

theorem execLoadVerifyDone_keeps (b0 : Nat) (s0 : State) : KeepsO s0 (execLoadVerifyDone b0 s0) := by
  have h0 := Keeps.refl s0
  unfold execLoadVerifyDone
  extract_lets -merge +onlyGivenNames x1
  have hx1 : Keeps s0 x1 := by unfold x1; exact Keeps.transS h0 (State.at__keeps _ _)
  clear_value x1; revert x1 hx1; refine Keeps.gen fun x1 hx1 => ?_
  extract_lets -merge +onlyGivenNames x2
  try clear_value x2
  refine Keeps.transO ?_ (doneW_keeps _)
  exact keepsS_ite (keepsS_ite (Keeps.transS hx1 (State.rtouch_keeps _ _ _)) (Keeps.transS hx1 (State.ldrVerify_keeps _))) hx1

theorem execLoadQuietStop_keeps (b0 : Nat) (s0 : State) : KeepsO s0 (execLoadQuietStop b0 s0) := by
  have h0 := Keeps.refl s0
  unfold execLoadQuietStop
  extract_lets -merge +onlyGivenNames x1
  have hx1 : Keeps s0 x1 := by unfold x1; exact Keeps.transS h0 (State.at__keeps _ _)
  clear_value x1; revert x1 hx1; refine Keeps.gen fun x1 hx1 => ?_
  extract_lets -merge +onlyGivenNames x2
  try clear_value x2
  refine Keeps.transO ?_ (doneW_keeps _)
  exact keepsS_ite (Keeps.transS hx1 (State.quietStop_keeps _)) hx1

theorem execLoadSoftWaitExpiry_keeps (b0 : Nat) (s0 : State) : KeepsO s0 (execLoadSoftWaitExpiry b0 s0) := by
  have h0 := Keeps.refl s0
  unfold execLoadSoftWaitExpiry
  extract_lets -merge +onlyGivenNames x1
  have hx1 : Keeps s0 x1 := by unfold x1; exact Keeps.transS h0 (State.at__keeps _ _)
  clear_value x1; revert x1 hx1; refine Keeps.gen fun x1 hx1 => ?_
  refine Keeps.transO ?_ (doneW_keeps _)
  exact keepsS_ite (Keeps.transS hx1 (State.ldrHold_keeps _)) hx1

theorem execLoadComplete_keeps (b0 : Nat) (s0 : State) : KeepsO s0 (execLoadComplete b0 s0) := by
  have h0 := Keeps.refl s0
  unfold execLoadComplete
  extract_lets -merge +onlyGivenNames x1
  have hx1 : Keeps s0 x1 := by unfold x1; exact Keeps.transS h0 (State.at__keeps _ _)
  clear_value x1; revert x1 hx1; refine Keeps.gen fun x1 hx1 => ?_
  extract_lets -merge +onlyGivenNames x2
  try clear_value x2
  refine Keeps.transO ?_ (doneW_keeps _)
  exact keepsS_ite (keepsS_ite (Keeps.transS hx1 (State.rtouch_keeps _ _ _)) (Keeps.transS hx1 (State.ldrDo_keeps _))) hx1

theorem execLoadAbort_keeps (s0 : State) : KeepsO s0 (execLoadAbort s0) := by
  have h0 := Keeps.refl s0
  unfold execLoadAbort
  exact Keeps.transO (Keeps.transS h0 (State.ldrAbort_keeps _)) (doneW_keeps _)

end Sys2Proof.Machine
end

