-- ==== Sys2Proof/Laws/KeepsUnits.lean ====
section
/-! SUPPORT. `Keeps` of the timebase, the RTC, the cipher engine, MEMC, flash, events, power and updates: each keeps the queue, the canonical form and legal modes. -/

namespace Sys2Proof.Machine

theorem State.lfStart_keeps (s0 : State) : Keeps s0 (State.lfStart s0) := by
  have h0 := Keeps.refl s0
  unfold State.lfStart
  extract_lets -merge +onlyGivenNames x1
  try clear_value x1
  extract_lets -merge +onlyGivenNames x2
  try clear_value x2
  refine keepsS_ite ?_ ?_
  · exact h0
  · exact Keeps.upd h0 rfl

theorem State.lfStop_keeps (s0 : State) : Keeps s0 (State.lfStop s0) := by
  have h0 := Keeps.refl s0
  unfold State.lfStop
  extract_lets -merge +onlyGivenNames x1
  have hx1 : Keeps s0 x1 := by
    unfold x1
    exact Keeps.transS (Keeps.transS (Keeps.transS h0 (State.rtcSync_keeps _)) (State.put_keeps _ _ _)) (State.put_keeps _ _ _)
  clear_value x1; revert x1 hx1; refine Keeps.gen fun x1 hx1 => ?_
  extract_lets -merge +onlyGivenNames x2
  try clear_value x2
  extract_lets -merge +onlyGivenNames x3
  try clear_value x3
  extract_lets -merge +onlyGivenNames x4
  try clear_value x4
  exact Keeps.upd hx1 rfl

theorem State.lfcal_keeps (s0 : State) (b1 : Word) : Keeps s0 (State.lfcal s0 b1) := by
  have h0 := Keeps.refl s0
  unfold State.lfcal
  extract_lets -merge +onlyGivenNames x1
  have hx1 : Keeps s0 x1 := by unfold x1; exact Keeps.transS (Keeps.transS h0 (State.rtcSync_keeps _)) (State.setReg_keeps _ _ _)
  clear_value x1; revert x1 hx1; refine Keeps.gen fun x1 hx1 => ?_
  extract_lets -merge +onlyGivenNames x2
  try clear_value x2
  extract_lets -merge +onlyGivenNames x3
  have hx3 : Keeps s0 x3 := by
    unfold x3
    refine Keeps.transS ?_ (State.tbNotify_keeps _ _)
    exact Keeps.upd hx1 rfl
  clear_value x3; revert x3 hx3; refine Keeps.gen fun x3 hx3 => ?_
  exact keepsS_ite (Keeps.transS (Keeps.transS hx3 (State.trimLoad_keeps _ _)) (State.fresh_keeps _)) hx3

theorem State.rcalBegin_keeps (s0 : State) : Keeps s0 (State.rcalBegin s0) := by
  have h0 := Keeps.refl s0
  unfold State.rcalBegin
  extract_lets -merge +onlyGivenNames x1
  try clear_value x1
  exact Keeps.upd h0 rfl

theorem State.tbMove_keeps (s0 : State) : Keeps s0 (State.tbMove s0) := by
  have h0 := Keeps.refl s0
  unfold State.tbMove
  extract_lets -merge +onlyGivenNames x1
  try clear_value x1
  extract_lets -merge +onlyGivenNames x2
  have hx2 : Keeps s0 x2 := by
    unfold x2
    refine Keeps.transS ?_ (State.tbNotify_keeps _ _)
    exact Keeps.upd h0 rfl
  clear_value x2; revert x2 hx2; refine Keeps.gen fun x2 hx2 => ?_
  exact keepsS_ite (Keeps.transS hx2 (State.synthFree_keeps _)) (Keeps.transS hx2 (State.claimWaiting_keeps _))

theorem State.xtalUp_keeps (s0 : State) : Keeps s0 (State.xtalUp s0) := by
  have h0 := Keeps.refl s0
  unfold State.xtalUp
  extract_lets -merge +onlyGivenNames x1
  try clear_value x1
  extract_lets -merge +onlyGivenNames x2
  try clear_value x2
  extract_lets -merge +onlyGivenNames x3
  try clear_value x3
  refine Keeps.transS ?_ (State.output_keeps _ _ _)
  refine Keeps.transS ?_ (State.tbNotify_keeps _ _)
  refine Keeps.transS ?_ (State.rcalBegin_keeps _)
  exact Keeps.upd h0 rfl

theorem execXtalReady_keeps (b0 : Nat) (s0 : State) : KeepsO s0 (execXtalReady b0 s0) := by
  have h0 := Keeps.refl s0
  unfold execXtalReady
  extract_lets -merge +onlyGivenNames x1
  have hx1 : Keeps s0 x1 := by unfold x1; exact Keeps.transS h0 (State.at__keeps _ _)
  clear_value x1; revert x1 hx1; refine Keeps.gen fun x1 hx1 => ?_
  refine Keeps.transO ?_ (doneW_keeps _)
  exact keepsS_ite (Keeps.transS hx1 (State.xtalUp_keeps _)) hx1

theorem execTimebaseSwitch_keeps (b0 : Nat) (s0 : State) : KeepsO s0 (execTimebaseSwitch b0 s0) := by
  have h0 := Keeps.refl s0
  unfold execTimebaseSwitch
  extract_lets -merge +onlyGivenNames x1
  have hx1 : Keeps s0 x1 := by unfold x1; exact Keeps.transS h0 (State.at__keeps _ _)
  clear_value x1; revert x1 hx1; refine Keeps.gen fun x1 hx1 => ?_
  refine Keeps.transO ?_ (doneW_keeps _)
  exact keepsS_ite (Keeps.transS hx1 (State.tbMove_keeps _)) hx1

theorem execLfcalMeasure_keeps (b0 : Word) (b1 : Nat) (s0 : State) : KeepsO s0 (execLfcalMeasure b0 b1 s0) := by
  have h0 := Keeps.refl s0
  unfold execLfcalMeasure
  extract_lets -merge +onlyGivenNames x1
  have hx1 : Keeps s0 x1 := by unfold x1; exact Keeps.transS h0 (State.at__keeps _ _)
  clear_value x1; revert x1 hx1; refine Keeps.gen fun x1 hx1 => ?_
  refine Keeps.transO ?_ (doneW_keeps _)
  exact keepsS_ite (Keeps.transS hx1 (State.lfcal_keeps _ _)) hx1

theorem execLfCrystalStart_keeps (b0 : Nat) (s0 : State) : KeepsO s0 (execLfCrystalStart b0 s0) := by
  have h0 := Keeps.refl s0
  unfold execLfCrystalStart
  exact Keeps.transO (Keeps.transS (Keeps.transS h0 (State.at__keeps _ _)) (State.lfStart_keeps _)) (doneW_keeps _)

theorem execLfCrystalStop_keeps (b0 : Nat) (s0 : State) : KeepsO s0 (execLfCrystalStop b0 s0) := by
  have h0 := Keeps.refl s0
  unfold execLfCrystalStop
  exact Keeps.transO (Keeps.transS (Keeps.transS h0 (State.at__keeps _ _)) (State.lfStop_keeps _)) (doneW_keeps _)

theorem execVbkpLow_keeps (b0 : Bool) (b1 : Bool) (b2 : Nat) (s0 : State) : KeepsO s0 (execVbkpLow b0 b1 b2 s0) := by
  have h0 := Keeps.refl s0
  unfold execVbkpLow
  extract_lets -merge +onlyGivenNames x1
  have hx1 : Keeps s0 x1 := by unfold x1; exact Keeps.transS h0 (State.at__keeps _ _)
  clear_value x1; revert x1 hx1; refine Keeps.gen fun x1 hx1 => ?_
  extract_lets -merge +onlyGivenNames x2
  try clear_value x2
  extract_lets -merge +onlyGivenNames x3
  have hx3 : Keeps s0 x3 := by unfold x3; exact Keeps.upd hx1 rfl
  clear_value x3; revert x3 hx3; refine Keeps.gen fun x3 hx3 => ?_
  refine Keeps.transO ?_ (done_keeps _)
  exact keepsS_ite (Keeps.transS hx3 (State.put_keeps _ _ _)) hx3

theorem execFioBurstStart_keeps (b0 : Nat) (s0 : State) : KeepsO s0 (execFioBurstStart b0 s0) := by
  have h0 := Keeps.refl s0
  unfold execFioBurstStart
  extract_lets -merge +onlyGivenNames x1
  have hx1 : Keeps s0 x1 := by unfold x1; exact Keeps.transS h0 (State.at__keeps _ _)
  clear_value x1; revert x1 hx1; refine Keeps.gen fun x1 hx1 => ?_
  extract_lets -merge +onlyGivenNames x2
  try clear_value x2
  refine Keeps.transO ?_ (doneW_keeps _)
  refine keepsS_ite ?_ ?_
  · exact Keeps.upd hx1 rfl
  · exact hx1

theorem execSamplePllLock_keeps (b0 : Nat) (s0 : State) : KeepsO s0 (execSamplePllLock b0 s0) := by
  have h0 := Keeps.refl s0
  unfold execSamplePllLock
  extract_lets -merge +onlyGivenNames x1
  have hx1 : Keeps s0 x1 := by unfold x1; exact Keeps.transS h0 (State.at__keeps _ _)
  clear_value x1; revert x1 hx1; refine Keeps.gen fun x1 hx1 => ?_
  extract_lets -merge +onlyGivenNames x2
  try clear_value x2
  refine Keeps.transO ?_ (doneW_keeps _)
  refine keepsS_ite ?_ ?_
  · refine Keeps.transS ?_ (State.rfeTryStart_keeps _)
    exact Keeps.upd hx1 rfl
  · exact hx1

theorem execTbaseRefOn_keeps (s0 : State) : KeepsO s0 (execTbaseRefOn s0) := by
  have h0 := Keeps.refl s0
  unfold execTbaseRefOn
  exact Keeps.transO (Keeps.transS h0 (State.tbRefOn_keeps _)) (doneW_keeps _)

theorem execTbaseRefOff_keeps (s0 : State) : KeepsO s0 (execTbaseRefOff s0) := by
  have h0 := Keeps.refl s0
  unfold execTbaseRefOff
  exact Keeps.transO (Keeps.transS h0 (State.tbRefOff_keeps _)) (doneW_keeps _)

theorem execTbaseAutoOn_keeps (s0 : State) : KeepsO s0 (execTbaseAutoOn s0) := by
  have h0 := Keeps.refl s0
  unfold execTbaseAutoOn
  exact Keeps.transO (Keeps.transS h0 (State.tbAuto_keeps _ _)) (doneW_keeps _)

theorem State.evcSet_keeps (s0 : State) : Keeps s0 (State.evcSet s0) := by
  have h0 := Keeps.refl s0
  unfold State.evcSet
  extract_lets -merge +onlyGivenNames x1
  try clear_value x1
  extract_lets -merge +onlyGivenNames x2
  try clear_value x2
  exact Keeps.upd h0 rfl

theorem State.evcCancel_keeps (s0 : State) : Keeps s0 (State.evcCancel s0) := by
  have h0 := Keeps.refl s0
  unfold State.evcCancel
  extract_lets -merge +onlyGivenNames x1
  try clear_value x1
  exact Keeps.upd h0 rfl

theorem State.adjWrite_keeps (s0 : State) (b1 : Word) : Keeps s0 (State.adjWrite s0 b1) := by
  have h0 := Keeps.refl s0
  unfold State.adjWrite
  extract_lets -merge +onlyGivenNames x1
  try clear_value x1
  exact Keeps.upd h0 rfl

theorem State.bucketRoll_keeps (s0 : State) : Keeps s0 (State.bucketRoll s0) := by
  have h0 := Keeps.refl s0
  unfold State.bucketRoll
  extract_lets -merge +onlyGivenNames x1
  try clear_value x1
  exact Keeps.upd h0 rfl

theorem State.slotSwitch_keeps (s0 : State) (b1 : Nat) : Keeps s0 (State.slotSwitch s0 b1) := by
  have h0 := Keeps.refl s0
  unfold State.slotSwitch
  split
  · exact h0
  · extract_lets -merge +onlyGivenNames x1
    try clear_value x1
    extract_lets -merge +onlyGivenNames x2
    try clear_value x2
    extract_lets -merge +onlyGivenNames x3
    have hx3 : Keeps s0 x3 := by
      unfold x3
      refine Keeps.transS ?_ (State.switchDue_keeps _ _ _)
      exact Keeps.upd h0 rfl
    clear_value x3; revert x3 hx3; refine Keeps.gen fun x3 hx3 => ?_
    exact keepsS_ite (keepsS_ite (Keeps.transS hx3 (State.put_keeps _ _ _)) hx3) h0

theorem State.slotStart_keeps (s0 : State) : Keeps s0 (State.slotStart s0) := by
  have h0 := Keeps.refl s0
  unfold State.slotStart
  extract_lets -merge +onlyGivenNames x1
  try clear_value x1
  extract_lets -merge +onlyGivenNames x2
  have hx2 : Keeps s0 x2 := by unfold x2; exact Keeps.transS h0 (State.slotCount_keeps _)
  clear_value x2; revert x2 hx2; refine Keeps.gen fun x2 hx2 => ?_
  extract_lets -merge +onlyGivenNames x3
  try clear_value x3
  extract_lets -merge +onlyGivenNames x4
  have hx4 : Keeps s0 x4 := by unfold x4; exact Keeps.upd hx2 rfl
  clear_value x4; revert x4 hx4; refine Keeps.gen fun x4 hx4 => ?_
  extract_lets -merge +onlyGivenNames x5
  have hx5 : Keeps s0 x5 := by
    unfold x5
    refine Keeps.transS ?_ (State.slotLay_keeps _)
    exact Keeps.transS (Keeps.transS (Keeps.transS hx4 (State.slotSwitch_keeps _ _)) (State.applyUnit_keeps _ _)) (State.afterPend_keeps _ _)
  clear_value x5; revert x5 hx5; refine Keeps.gen fun x5 hx5 => ?_
  extract_lets -merge +onlyGivenNames x6
  have hx6 : Keeps s0 x6 := by unfold x6; exact Keeps.transS (Keeps.transS hx5 (State.latchAll_keeps _ _)) (State.output_keeps _ _ _)
  clear_value x6; revert x6 hx6; refine Keeps.gen fun x6 hx6 => ?_
  extract_lets -merge +onlyGivenNames x7
  exact Keeps.upd hx6 rfl

theorem execSlotStart_keeps (b0 : Nat) (s0 : State) : KeepsO s0 (execSlotStart b0 s0) := by
  have h0 := Keeps.refl s0
  unfold execSlotStart
  extract_lets -merge +onlyGivenNames x1
  have hx1 : Keeps s0 x1 := by unfold x1; exact Keeps.transS h0 (State.at__keeps _ _)
  clear_value x1; revert x1 hx1; refine Keeps.gen fun x1 hx1 => ?_
  refine Keeps.transO ?_ (doneW_keeps _)
  exact keepsS_ite (Keeps.transS hx1 (State.slotStart_keeps _)) hx1

theorem execLinkAdjWrite_keeps (b0 : Word) (s0 : State) : KeepsO s0 (execLinkAdjWrite b0 s0) := by
  have h0 := Keeps.refl s0
  unfold execLinkAdjWrite
  refine Keeps.transO ?_ (done_keeps _)
  exact Keeps.transS h0 (State.adjWrite_keeps _ _)

theorem execSupervisionExpiry_keeps (b0 : Nat) (b1 : Nat) (s0 : State) : KeepsO s0 (execSupervisionExpiry b0 b1 s0) := by
  have h0 := Keeps.refl s0
  unfold execSupervisionExpiry
  extract_lets -merge +onlyGivenNames x1
  have hx1 : Keeps s0 x1 := by unfold x1; exact Keeps.transS h0 (State.at__keeps _ _)
  clear_value x1; revert x1 hx1; refine Keeps.gen fun x1 hx1 => ?_
  refine Keeps.transO ?_ (doneW_keeps _)
  exact keepsS_ite (Keeps.transS hx1 (State.supExpire_keeps _ _)) hx1

theorem execDwellBucketRoll_keeps (b0 : Nat) (s0 : State) : KeepsO s0 (execDwellBucketRoll b0 s0) := by
  have h0 := Keeps.refl s0
  unfold execDwellBucketRoll
  exact Keeps.transO (Keeps.transS (Keeps.transS h0 (State.at__keeps _ _)) (State.bucketRoll_keeps _)) (done_keeps _)

theorem execSetevc_keeps (s0 : State) : KeepsO s0 (execSetevc s0) := by
  have h0 := Keeps.refl s0
  unfold execSetevc
  exact Keeps.transO (Keeps.transS h0 (State.evcSet_keeps _)) (done_keeps _)

theorem execCancelset_keeps (s0 : State) : KeepsO s0 (execCancelset s0) := by
  have h0 := Keeps.refl s0
  unfold execCancelset
  exact Keeps.transO (Keeps.transS h0 (State.evcCancel_keeps _)) (done_keeps _)

theorem State.rtcSet_keeps (s0 : State) : Keeps s0 (State.rtcSet s0) := by
  have h0 := Keeps.refl s0
  unfold State.rtcSet
  exact Keeps.transS h0 (State.rtcSetTo_keeps _ _ _)

theorem State.convBegin_keeps (s0 : State) : Keeps s0 (State.convBegin s0) := by
  have h0 := Keeps.refl s0
  unfold State.convBegin
  extract_lets -merge +onlyGivenNames x1
  try clear_value x1
  exact Keeps.upd h0 rfl

theorem State.calErr_keeps (s0 : State) : Keeps s0 (State.calErr s0) := by
  have h0 := Keeps.refl s0
  unfold State.calErr
  exact Keeps.transS h0 (State.put_keeps _ _ _)

theorem State.rtcCalset_keeps (s0 : State) : Keeps s0 (State.rtcCalset s0) := by
  have h0 := Keeps.refl s0
  unfold State.rtcCalset
  exact keepsS_ite (Keeps.transS h0 (State.rtcSetTo_keeps _ _ _)) (Keeps.transS h0 (State.calErr_keeps _))

theorem State.hourSet_keeps (s0 : State) (b1 : Option Bool) : Keeps s0 (State.hourSet s0 b1) := by
  have h0 := Keeps.refl s0
  unfold State.hourSet
  extract_lets -merge +onlyGivenNames x1
  try clear_value x1
  exact Keeps.upd h0 rfl

theorem State.cal2cnt_keeps (s0 : State) : Keeps s0 (State.cal2cnt s0) := by
  have h0 := Keeps.refl s0
  unfold State.cal2cnt
  exact keepsS_ite (Keeps.transS (Keeps.transS h0 (State.setReg_keeps _ _ _)) (State.put_keeps _ _ _)) (Keeps.transS h0 (State.calErr_keeps _))

theorem State.cnt2cal_keeps (s0 : State) : Keeps s0 (State.cnt2cal s0) := by
  have h0 := Keeps.refl s0
  unfold State.cnt2cal
  extract_lets -merge +onlyGivenNames x1
  try clear_value x1
  exact keepsS_ite (Keeps.transS h0 (State.calErr_keeps _)) (Keeps.transS (Keeps.transS h0 (State.setReg_keeps _ _ _)) (State.setReg_keeps _ _ _))

theorem State.rtcOp_keeps (s0 : State) (b1 : Nat) : Keeps s0 (State.rtcOp s0 b1) := by
  have h0 := Keeps.refl s0
  unfold State.rtcOp
  refine keepsS_ite ?_ ?_
  · exact h0
  · split
    · exact Keeps.transS h0 (State.rtcSet_keeps _)
    · exact Keeps.transS (Keeps.transS h0 (State.rtcCalset_keeps _)) (State.convBegin_keeps _)
    · exact Keeps.transS h0 (State.hourSet_keeps _ _)
    · exact Keeps.transS h0 (State.hourSet_keeps _ _)
    · exact Keeps.transS h0 (State.hourSet_keeps _ _)
    · exact Keeps.transS (Keeps.transS h0 (State.cal2cnt_keeps _)) (State.convBegin_keeps _)
    · exact Keeps.transS (Keeps.transS h0 (State.cnt2cal_keeps _)) (State.convBegin_keeps _)
    · exact h0

theorem State.rtcCmd_keeps (s0 : State) (b1 : BitVec 16) (b2 : Nat) : Keeps s0 (State.rtcCmd s0 b1 b2) := by
  have h0 := Keeps.refl s0
  unfold State.rtcCmd
  exact keepsS_ite (Keeps.transS h0 (State.rtcOp_keeps _ _)) h0

theorem State.hourApply_keeps (s0 : State) : Keeps s0 (State.hourApply s0) := by
  have h0 := Keeps.refl s0
  unfold State.hourApply
  extract_lets -merge +onlyGivenNames x1
  try clear_value x1
  extract_lets -merge +onlyGivenNames x2
  have hx2 : Keeps s0 x2 := by unfold x2; exact Keeps.upd h0 rfl
  clear_value x2; revert x2 hx2; refine Keeps.gen fun x2 hx2 => ?_
  split
  · exact h0
  · extract_lets -merge +onlyGivenNames x3
    try clear_value x3
    refine Keeps.transS ?_ (State.rtcAdjust_keeps _ _)
    exact Keeps.upd hx2 rfl
  · extract_lets -merge +onlyGivenNames x4
    try clear_value x4
    refine keepsS_ite ?_ ?_
    · exact Keeps.transS hx2 (State.put_keeps _ _ _)
    · refine Keeps.transS ?_ (State.rtcAdjust_keeps _ _)
      exact Keeps.upd hx2 rfl

theorem State.second_keeps (s0 : State) : Keeps s0 (State.second s0) := by
  have h0 := Keeps.refl s0
  unfold State.second
  extract_lets -merge +onlyGivenNames x1
  try clear_value x1
  extract_lets -merge +onlyGivenNames x2
  have hx2 : Keeps s0 x2 := by unfold x2; exact Keeps.upd h0 rfl
  clear_value x2; revert x2 hx2; refine Keeps.gen fun x2 hx2 => ?_
  extract_lets -merge +onlyGivenNames x3
  have hx3 : Keeps s0 x3 := by unfold x3; exact Keeps.transS hx2 (State.rtcMerge_keeps _)
  clear_value x3; revert x3 hx3; refine Keeps.gen fun x3 hx3 => ?_
  extract_lets -merge +onlyGivenNames x4
  try clear_value x4
  extract_lets -merge +onlyGivenNames x5
  try clear_value x5
  extract_lets -merge +onlyGivenNames x6
  try clear_value x6
  extract_lets -merge +onlyGivenNames x7
  have hx7 : Keeps s0 x7 := by unfold x7; exact Keeps.upd hx3 rfl
  clear_value x7; revert x7 hx7; refine Keeps.gen fun x7 hx7 => ?_
  extract_lets -merge +onlyGivenNames x8
  try clear_value x8
  extract_lets -merge +onlyGivenNames x9
  have hx9 : Keeps s0 x9 := by unfold x9; exact Keeps.transS hx7 (State.hourApply_keeps _)
  clear_value x9; revert x9 hx9; refine Keeps.gen fun x9 hx9 => ?_
  exact Keeps.transS hx9 (State.almFireAll_keeps _ _ _ _)

theorem execSecondBoundary_keeps (b0 : Nat) (s0 : State) : KeepsO s0 (execSecondBoundary b0 s0) := by
  have h0 := Keeps.refl s0
  unfold execSecondBoundary
  extract_lets -merge +onlyGivenNames x1
  have hx1 : Keeps s0 x1 := by unfold x1; exact Keeps.transS h0 (State.at__keeps _ _)
  clear_value x1; revert x1 hx1; refine Keeps.gen fun x1 hx1 => ?_
  refine Keeps.transO ?_ (doneW_keeps _)
  exact keepsS_ite (Keeps.transS hx1 (State.second_keeps _)) hx1

theorem execRtcSet_keeps (b0 : BitVec 16) (s0 : State) : KeepsO s0 (execRtcSet b0 s0) := by
  have h0 := Keeps.refl s0
  unfold execRtcSet
  exact Keeps.transO (Keeps.transS h0 (State.rtcCmd_keeps _ _ _)) (doneW_keeps _)

theorem execCalset_keeps (b0 : BitVec 16) (s0 : State) : KeepsO s0 (execCalset b0 s0) := by
  have h0 := Keeps.refl s0
  unfold execCalset
  exact Keeps.transO (Keeps.transS h0 (State.rtcCmd_keeps _ _ _)) (doneW_keeps _)

theorem execHourplus_keeps (b0 : BitVec 16) (s0 : State) : KeepsO s0 (execHourplus b0 s0) := by
  have h0 := Keeps.refl s0
  unfold execHourplus
  exact Keeps.transO (Keeps.transS h0 (State.rtcCmd_keeps _ _ _)) (doneW_keeps _)

theorem execHourminus_keeps (b0 : BitVec 16) (s0 : State) : KeepsO s0 (execHourminus b0 s0) := by
  have h0 := Keeps.refl s0
  unfold execHourminus
  exact Keeps.transO (Keeps.transS h0 (State.rtcCmd_keeps _ _ _)) (doneW_keeps _)

theorem execHourcancel_keeps (b0 : BitVec 16) (s0 : State) : KeepsO s0 (execHourcancel b0 s0) := by
  have h0 := Keeps.refl s0
  unfold execHourcancel
  exact Keeps.transO (Keeps.transS h0 (State.rtcCmd_keeps _ _ _)) (doneW_keeps _)

theorem execCal2cnt_keeps (b0 : BitVec 16) (s0 : State) : KeepsO s0 (execCal2cnt b0 s0) := by
  have h0 := Keeps.refl s0
  unfold execCal2cnt
  exact Keeps.transO (Keeps.transS h0 (State.rtcCmd_keeps _ _ _)) (doneW_keeps _)

theorem execCnt2cal_keeps (b0 : BitVec 16) (s0 : State) : KeepsO s0 (execCnt2cal b0 s0) := by
  have h0 := Keeps.refl s0
  unfold execCnt2cal
  exact Keeps.transO (Keeps.transS h0 (State.rtcCmd_keeps _ _ _)) (doneW_keeps _)

theorem execRtcConversionDone_keeps (b0 : Nat) (s0 : State) : KeepsO s0 (execRtcConversionDone b0 s0) := by
  have h0 := Keeps.refl s0
  unfold execRtcConversionDone
  extract_lets -merge +onlyGivenNames x1
  have hx1 : Keeps s0 x1 := by unfold x1; exact Keeps.transS h0 (State.at__keeps _ _)
  clear_value x1; revert x1 hx1; refine Keeps.gen fun x1 hx1 => ?_
  extract_lets -merge +onlyGivenNames x2
  try clear_value x2
  refine Keeps.transO ?_ (done_keeps _)
  exact Keeps.upd hx1 rfl

theorem execRtcSnapshotWrite_keeps (b0 : Nat) (s0 : State) : KeepsO s0 (execRtcSnapshotWrite b0 s0) := by
  have h0 := Keeps.refl s0
  unfold execRtcSnapshotWrite
  extract_lets -merge +onlyGivenNames x1
  have hx1 : Keeps s0 x1 := by unfold x1; exact Keeps.transS h0 (State.at__keeps _ _)
  clear_value x1; revert x1 hx1; refine Keeps.gen fun x1 hx1 => ?_
  refine Keeps.transO ?_ (done_keeps _)
  exact keepsS_ite (Keeps.transS hx1 (State.snapWrite_keeps _)) hx1

theorem State.almClear_keeps (s0 : State) : Keeps s0 (State.almClear s0) := by
  have h0 := Keeps.refl s0
  unfold State.almClear
  extract_lets -merge +onlyGivenNames x1
  try clear_value x1
  refine keepsS_ite ?_ ?_
  · exact h0
  · exact Keeps.upd h0 rfl

theorem State.stageClear_keeps (s0 : State) : Keeps s0 (State.stageClear s0) := by
  have h0 := Keeps.refl s0
  unfold State.stageClear
  extract_lets -merge +onlyGivenNames x1
  try clear_value x1
  exact Keeps.upd h0 rfl

theorem State.kselWrite_keeps (s0 : State) (b1 : Word) : Keeps s0 (State.kselWrite s0 b1) := by
  have h0 := Keeps.refl s0
  unfold State.kselWrite
  refine keepsS_ite ?_ ?_
  · exact h0
  · refine Keeps.transS ?_ (State.stageClear_keeps _)
    exact Keeps.transS h0 (State.writeReg_keeps _ _ _)

theorem State.keyPut_keeps (s0 : State) (b1 : Nat) (b2 : Key) : Keeps s0 (State.keyPut s0 b1 b2) := by
  have h0 := Keeps.refl s0
  unfold State.keyPut
  extract_lets -merge +onlyGivenNames x1
  try clear_value x1
  exact Keeps.upd h0 rfl

theorem State.keyDel_keeps (s0 : State) (b1 : Nat) : Keeps s0 (State.keyDel s0 b1) := by
  have h0 := Keeps.refl s0
  unfold State.keyDel
  extract_lets -merge +onlyGivenNames x1
  try clear_value x1
  exact Keeps.upd h0 rfl

theorem State.keyDo_keeps (s0 : State) (b1 : KeyOp) : Keeps s0 (State.keyDo s0 b1) := by
  have h0 := Keeps.refl s0
  unfold State.keyDo
  split
  · exact Keeps.transS h0 (State.keyPut_keeps _ _ _)
  · exact Keeps.transS h0 (State.keyDel_keeps _ _)

theorem State.keyChange_keeps (s0 : State) (b1 : Nat) (b2 : KeyOp) : Keeps s0 (State.keyChange s0 b1 b2) := by
  have h0 := Keeps.refl s0
  unfold State.keyChange
  extract_lets -merge +onlyGivenNames x1
  try clear_value x1
  refine keepsS_ite ?_ ?_
  · exact Keeps.upd h0 rfl
  · exact Keeps.transS h0 (State.keyDo_keeps _ _)

theorem State.keyCommit_keeps (s0 : State) : Keeps s0 s0.keyCommit := by
  have h0 := Keeps.refl s0
  unfold State.keyCommit
  refine keepsS_ite h0 ?_
  extract_lets -merge +onlyGivenNames big n k x
  have hx : Keeps s0 x := keepsS_ite (State.keyChange_keeps _ _ _) (State.put_keeps _ _ _)
  exact hx.transS (State.stageClear_keeps _)

theorem State.keyErase_keeps (s0 : State) : Keeps s0 (State.keyErase s0) := by
  have h0 := Keeps.refl s0
  unfold State.keyErase
  exact keepsS_ite h0 (Keeps.transS h0 (State.keyChange_keeps _ _ _))

theorem State.keyEraseAll_keeps (s0 : State) : Keeps s0 (State.keyEraseAll s0) := by
  have h0 := Keeps.refl s0
  unfold State.keyEraseAll
  extract_lets -merge +onlyGivenNames x1
  try clear_value x1
  extract_lets -merge +onlyGivenNames x2
  try clear_value x2
  refine keepsS_ite ?_ ?_
  · exact h0
  · exact Keeps.upd h0 rfl

theorem State.cipFinish_keeps (s0 : State) (b1 : Nat) (b2 : Nat) (b3 : Nat) (b4 : List Word) : Keeps s0 (State.cipFinish s0 b1 b2 b3 b4) := by
  have h0 := Keeps.refl s0
  unfold State.cipFinish
  extract_lets -merge +onlyGivenNames x1
  try clear_value x1
  extract_lets -merge +onlyGivenNames x2
  try clear_value x2
  extract_lets -merge +onlyGivenNames x3
  have hx3 : Keeps s0 x3 := by unfold x3; exact keepsS_ite (Keeps.transS h0 (State.devWrite_keeps _ _ _)) h0
  clear_value x3; revert x3 hx3; refine Keeps.gen fun x3 hx3 => ?_
  extract_lets -merge +onlyGivenNames x4
  have hx4 : Keeps s0 x4 := by unfold x4; exact Keeps.transS hx3 (State.put_keeps _ _ _)
  clear_value x4; revert x4 hx4; refine Keeps.gen fun x4 hx4 => ?_
  exact keepsS_ite (Keeps.transS hx4 (State.postTo_keeps _ _ _ _ _)) hx4

theorem State.cipDrop_keeps (s0 : State) (b1 : Nat) (b2 : Nat) : Keeps s0 (State.cipDrop s0 b1 b2) := by
  have h0 := Keeps.refl s0
  unfold State.cipDrop
  refine forN_keeps ?_ ?_
  · exact h0
  · intro x1 x2 hx1
    try beta_reduce
    extract_lets -merge +onlyGivenNames x3
    try clear_value x3
    exact Keeps.transS (Keeps.transS hx1 (State.wakeRange_keeps _ _ _)) (State.cipFinish_keeps _ _ _ _ _)

theorem State.cipSubmit_keeps (s0 : State) (b1 : Nat) (b2 : Nat) : Keeps s0 (State.cipSubmit s0 b1 b2) := by
  have h0 := Keeps.refl s0
  unfold State.cipSubmit
  extract_lets -merge +onlyGivenNames x1
  try clear_value x1
  extract_lets -merge +onlyGivenNames x2
  have hx2 : Keeps s0 x2 := by unfold x2; exact Keeps.transS h0 (State.put_keeps _ _ _)
  clear_value x2; revert x2 hx2; refine Keeps.gen fun x2 hx2 => ?_
  exact keepsS_ite (Keeps.transS h0 (State.put_keeps _ _ _)) (keepsS_ite (Keeps.transS hx2 (State.cipDrop_keeps _ _ _)) hx2)

theorem State.cipFlush_keeps (s0 : State) (b1 : Nat) : Keeps s0 (State.cipFlush s0 b1) := by
  have h0 := Keeps.refl s0
  unfold State.cipFlush
  extract_lets -merge +onlyGivenNames x1
  try clear_value x1
  refine keepsS_ite ?_ ?_
  · exact Keeps.upd h0 rfl
  · exact Keeps.transS h0 (State.cipDrop_keeps _ _ _)

theorem State.kdataWrite_keeps (s0 : State) (b1 : Nat) (b2 : Word) : Keeps s0 (State.kdataWrite s0 b1 b2) := by
  have h0 := Keeps.refl s0
  unfold State.kdataWrite
  extract_lets -merge +onlyGivenNames x1
  try clear_value x1
  refine keepsS_ite ?_ ?_
  · exact h0
  · exact Keeps.upd h0 rfl

theorem State.trngTake_keeps (s0 : State) (b1 : Option Word) : Keeps2 s0 (State.trngTake s0 b1) := by
  have h0 := Keeps.refl s0
  unfold State.trngTake
  extract_lets -merge +onlyGivenNames x1
  try clear_value x1
  extract_lets -merge +onlyGivenNames x2
  try clear_value x2
  refine keeps2_mk ?_
  exact Keeps.upd h0 rfl

theorem State.cipEnd_keeps (s0 : State) (b1 : CipReq) (b2 : Nat) : Keeps s0 (State.cipEnd s0 b1 b2) := by
  have h0 := Keeps.refl s0
  unfold State.cipEnd
  extract_lets -merge +onlyGivenNames x1
  have hx1 : Keeps s0 x1 := by unfold x1; exact Keeps.transS h0 (State.cipFinish_keeps _ _ _ _ _)
  clear_value x1; revert x1 hx1; refine Keeps.gen fun x1 hx1 => ?_
  extract_lets -merge +onlyGivenNames x2
  have hx2 : Keeps s0 x2 := by
    unfold x2
    split
    · exact keepsS_ite (Keeps.transS hx1 (State.keyPut_keeps _ _ _)) hx1
    · exact hx1
  clear_value x2; revert x2 hx2; refine Keeps.gen fun x2 hx2 => ?_
  extract_lets -merge +onlyGivenNames x3
  try clear_value x3
  extract_lets -merge +onlyGivenNames x4
  try clear_value x4
  extract_lets -merge +onlyGivenNames x5
  try clear_value x5
  extract_lets -merge +onlyGivenNames x6
  have hx6 : Keeps s0 x6 := by
    unfold x6
    refine foldl_keeps ?_ ?_
    · exact Keeps.upd hx2 rfl
    · intro x7 x8 hx7
      try beta_reduce
      exact Keeps.transS hx7 (State.keyDo_keeps _ _)
  clear_value x6; revert x6 hx6; refine Keeps.gen fun x6 hx6 => ?_
  exact keepsS_ite (Keeps.transS hx6 (State.cipDrop_keeps _ _ _)) hx6

theorem State.cipStore_keeps (s0 : State) (b1 : List (Nat × List Byte)) : Keeps s0 (State.cipStore s0 b1) := by
  have h0 := Keeps.refl s0
  unfold State.cipStore
  refine foldl_keeps ?_ ?_
  · exact h0
  · intro x1 x2 hx1
    try beta_reduce
    exact keepsS_ite hx1 (Keeps.transS hx1 (State.devWrite_keeps _ _ _))

theorem State.cipAbandon_keeps (s0 : State) (b1 : CipReq) (b2 : Nat) : Keeps s0 (State.cipAbandon s0 b1 b2) := by
  have h0 := Keeps.refl s0
  unfold State.cipAbandon
  exact Keeps.transS (Keeps.transS h0 (State.cipStore_keeps _ _)) (State.cipEnd_keeps _ _ _)

theorem State.alarmDrain_keeps (s0 : State) : Keeps s0 (State.alarmDrain s0) := by
  have h0 := Keeps.refl s0
  unfold State.alarmDrain
  extract_lets -merge +onlyGivenNames x1
  have hx1 : Keeps s0 x1 := by
    unfold x1
    split
    · exact Keeps.transS h0 (State.cipAbandon_keeps _ _ _)
    · exact h0
  clear_value x1; revert x1 hx1; refine Keeps.gen fun x1 hx1 => ?_
  exact Keeps.transS (Keeps.transS hx1 (State.cipDrop_keeps _ _ _)) (State.cipDrop_keeps _ _ _)

theorem State.alarmRecord_keeps (s0 : State) (b1 : Nat) : Keeps s0 (State.alarmRecord s0 b1) := by
  have h0 := Keeps.refl s0
  unfold State.alarmRecord
  extract_lets -merge +onlyGivenNames x1
  try clear_value x1
  extract_lets -merge +onlyGivenNames x2
  have hx2 : Keeps s0 x2 := by unfold x2; exact Keeps.transS h0 (State.nvSee_keeps _ _ _)
  clear_value x2; revert x2 hx2; refine Keeps.gen fun x2 hx2 => ?_
  extract_lets -merge +onlyGivenNames x3
  try clear_value x3
  extract_lets -merge +onlyGivenNames x4
  have hx4 : Keeps s0 x4 := by unfold x4; exact Keeps.transS hx2 (State.fresh_keeps _)
  clear_value x4; revert x4 hx4; refine Keeps.gen fun x4 hx4 => ?_
  extract_lets -merge +onlyGivenNames x5
  try clear_value x5
  extract_lets -merge +onlyGivenNames x6
  have hx6 : Keeps s0 x6 := by unfold x6; exact Keeps.transS (Keeps.transS hx4 (State.nvPut_keeps _ _ _)) (State.nvPut_keeps _ _ _)
  clear_value x6; revert x6 hx6; refine Keeps.gen fun x6 hx6 => ?_
  extract_lets -merge +onlyGivenNames x7
  have hx7 : Keeps s0 x7 := by unfold x7; exact Keeps.transS hx6 (State.nvPut_keeps _ _ _)
  clear_value x7; revert x7 hx7; refine Keeps.gen fun x7 hx7 => ?_
  exact Keeps.transS (Keeps.transS hx7 (State.nvPut_keeps _ _ _)) (State.nvPut_keeps _ _ _)

theorem State.alarm_keeps (s0 : State) (causes : Nat) : Keeps s0 (s0.alarm causes) := by
  have key : ∀ x, Keeps s0 x → Keeps s0 (
      let s := x.output 2 0
      let s := (s.setReg Reg.CIPH_ALMCAUSE (s.reg Reg.CIPH_ALMCAUSE ||| BitVec.ofNat 32 causes)).count Reg.CIPH_ALMCAUSE_COUNT
      let s := s.postBoth 144 (s.reg Reg.CIPH_ALMCAUSE) 0
      let s := (s.alarmRecord causes).alarmDrain
      if s.upd.phase = .verify then s.updEnd 14 else s) := by
    intro x hx
    extract_lets -merge +onlyGivenNames x2 x3 x4 x5
    have h2 : Keeps s0 x2 := hx.transS (State.output_keeps _ _ _)
    clear_value x2
    have h3 : Keeps s0 x3 := (h2.transS (State.setReg_keeps _ _ _)).transS (State.count_keeps _ _)
    clear_value x3
    have h4 : Keeps s0 x4 := h3.transS (State.postBoth_keeps _ _ _ _)
    clear_value x4
    have h5 : Keeps s0 x5 := (h4.transS (State.alarmRecord_keeps _ _)).transS (State.alarmDrain_keeps _)
    exact keepsS_ite (h5.transS (State.updEnd_keeps _ _)) h5
  unfold State.alarm
  exact key _ ((Keeps.refl s0).ciph _)

theorem State.cipBegin_keeps (s0 : State) (b1 : Nat) (b2 : List Word) (b3 : List Byte) : Keeps s0 (State.cipBegin s0 b1 b2 b3) := by
  have h0 := Keeps.refl s0
  unfold State.cipBegin
  extract_lets -merge +onlyGivenNames x1
  try clear_value x1
  extract_lets -merge +onlyGivenNames x2
  try clear_value x2
  extract_lets -merge +onlyGivenNames x3
  try clear_value x3
  split
  · rename_i heq
    have hx4 := keeps1_of heq (s0 := s0) (by
        exact Keeps.trans1 (Keeps.transS h0 (State.wakeRange_keeps _ _ _)) (State.rscans_keeps _ _)
      )
    extract_lets -merge +onlyGivenNames x5
    try clear_value x5
    extract_lets -merge +onlyGivenNames x6
    try clear_value x6
    extract_lets -merge +onlyGivenNames x7
    try clear_value x7
    exact Keeps.upd hx4 rfl

theorem State.outLose_keeps (s0 : State) (b1 : List (Nat × List Byte)) : Keeps s0 (State.outLose s0 b1) := by
  have h0 := Keeps.refl s0
  unfold State.outLose
  split
  · exact keepsS_ite (Keeps.transS h0 (State.lose_keeps _ _ _)) h0
  · exact h0

theorem State.cipWrite_keeps (s0 : State) (b1 : List (Nat × List Byte)) : Keeps s0 (State.cipWrite s0 b1) := by
  have h0 := Keeps.refl s0
  unfold State.cipWrite
  exact Keeps.transS (Keeps.transS h0 (State.cipStore_keeps _ _)) (State.outLose_keeps _ _)

theorem State.cipDone_keeps (s0 : State) : Keeps s0 (State.cipDone s0) := by
  have h0 := Keeps.refl s0
  unfold State.cipDone
  split
  · refine keepsS_ite ?_ ?_
    · exact h0
    · refine keepsS_ite ?_ ?_
      · exact Keeps.transS h0 (State.cipEnd_keeps _ _ _)
      · refine Keeps.transS ?_ (State.cipEnd_keeps _ _ _)
        exact Keeps.transS h0 (State.cipWrite_keeps _ _)
  · exact h0

theorem State.cipStart_keeps (s0 : State) (b1 : CoreId) (b2 : Nat) (b3 : List Byte) : Keeps s0 (State.cipStart s0 b1 b2 b3) := by
  have h0 := Keeps.refl s0
  unfold State.cipStart
  extract_lets -merge +onlyGivenNames x1
  try clear_value x1
  extract_lets -merge +onlyGivenNames x2
  try clear_value x2
  extract_lets -merge +onlyGivenNames x3
  try clear_value x3
  extract_lets -merge +onlyGivenNames x4
  try clear_value x4
  refine keepsS_ite ?_ ?_
  · refine keepsS_ite ?_ ?_
    · refine foldl_keeps ?_ ?_
      · exact h0
      · intro x5 x6 hx5
        try beta_reduce
        exact Keeps.transS hx5 (State.rtouch_keeps _ _ _)
    · exact Keeps.transS h0 (State.cipBegin_keeps _ _ _ _)
  · exact h0

theorem State.trngFail_keeps (s0 : State) : Keeps s0 (State.trngFail s0) := by
  have h0 := Keeps.refl s0
  unfold State.trngFail
  extract_lets -merge +onlyGivenNames x1
  try clear_value x1
  extract_lets -merge +onlyGivenNames x2
  have hx2 : Keeps s0 x2 := by unfold x2; exact Keeps.upd h0 rfl
  clear_value x2; revert x2 hx2; refine Keeps.gen fun x2 hx2 => ?_
  extract_lets -merge +onlyGivenNames x3
  have hx3 : Keeps s0 x3 := by unfold x3; exact hx2
  clear_value x3; revert x3 hx3; refine Keeps.gen fun x3 hx3 => ?_
  extract_lets -merge +onlyGivenNames x4
  have hx4 : Keeps s0 x4 := by unfold x4; exact Keeps.transS hx2 (State.put_keeps _ _ _)
  clear_value x4; revert x4 hx4; refine Keeps.gen fun x4 hx4 => ?_
  extract_lets -merge +onlyGivenNames x5
  have hx5 : Keeps s0 x5 := by unfold x5; exact keepsS_ite hx4 (Keeps.transS hx4 (State.postBoth_keeps _ _ _ _))
  clear_value x5; revert x5 hx5; refine Keeps.gen fun x5 hx5 => ?_
  split
  · exact keepsS_ite (Keeps.transS hx5 (State.cipAbandon_keeps _ _ _)) hx5
  · exact hx5

theorem State.trngStart_keeps (s0 : State) (b1 : Word) : Keeps s0 (State.trngStart s0 b1) := by
  have h0 := Keeps.refl s0
  unfold State.trngStart
  extract_lets -merge +onlyGivenNames x1
  try clear_value x1
  extract_lets -merge +onlyGivenNames x2
  have hx2 : Keeps s0 x2 := by unfold x2; exact Keeps.upd h0 rfl
  clear_value x2; revert x2 hx2; refine Keeps.gen fun x2 hx2 => ?_
  exact Keeps.transS hx2 (State.postBoth_keeps _ _ _ _)

theorem execCipherSubmit_keeps (b0 : CoreId) (b1 : BitVec 16) (s0 : State) : KeepsO s0 (execCipherSubmit b0 b1 s0) := by
  have h0 := Keeps.refl s0
  unfold execCipherSubmit
  exact Keeps.transO (Keeps.transS h0 (State.cipSubmit_keeps _ _ _)) (doneW_keeps _)

theorem execCcmEnc_keeps (b0 : CoreId) (s0 : State) : KeepsO s0 (execCcmEnc b0 s0) := by
  have h0 := Keeps.refl s0
  unfold execCcmEnc
  exact Keeps.transO (Keeps.transS h0 (State.cipStart_keeps _ _ _ _)) (doneW_keeps _)

theorem execCcmDec_keeps (b0 : CoreId) (s0 : State) : KeepsO s0 (execCcmDec b0 s0) := by
  have h0 := Keeps.refl s0
  unfold execCcmDec
  exact Keeps.transO (Keeps.transS h0 (State.cipStart_keeps _ _ _ _)) (doneW_keeps _)

theorem execGcmEnc_keeps (b0 : CoreId) (s0 : State) : KeepsO s0 (execGcmEnc b0 s0) := by
  have h0 := Keeps.refl s0
  unfold execGcmEnc
  exact Keeps.transO (Keeps.transS h0 (State.cipStart_keeps _ _ _ _)) (doneW_keeps _)

theorem execGcmDec_keeps (b0 : CoreId) (s0 : State) : KeepsO s0 (execGcmDec b0 s0) := by
  have h0 := Keeps.refl s0
  unfold execGcmDec
  exact Keeps.transO (Keeps.transS h0 (State.cipStart_keeps _ _ _ _)) (doneW_keeps _)

theorem execCtr_keeps (b0 : CoreId) (s0 : State) : KeepsO s0 (execCtr b0 s0) := by
  have h0 := Keeps.refl s0
  unfold execCtr
  exact Keeps.transO (Keeps.transS h0 (State.cipStart_keeps _ _ _ _)) (doneW_keeps _)

theorem execCmacGen_keeps (b0 : CoreId) (s0 : State) : KeepsO s0 (execCmacGen b0 s0) := by
  have h0 := Keeps.refl s0
  unfold execCmacGen
  exact Keeps.transO (Keeps.transS h0 (State.cipStart_keeps _ _ _ _)) (doneW_keeps _)

theorem execCmacVer_keeps (b0 : CoreId) (s0 : State) : KeepsO s0 (execCmacVer b0 s0) := by
  have h0 := Keeps.refl s0
  unfold execCmacVer
  exact Keeps.transO (Keeps.transS h0 (State.cipStart_keeps _ _ _ _)) (doneW_keeps _)

theorem execSha256_keeps (b0 : CoreId) (s0 : State) : KeepsO s0 (execSha256 b0 s0) := by
  have h0 := Keeps.refl s0
  unfold execSha256
  exact Keeps.transO (Keeps.transS h0 (State.cipStart_keeps _ _ _ _)) (doneW_keeps _)

theorem execEcdsaVer_keeps (b0 : CoreId) (s0 : State) : KeepsO s0 (execEcdsaVer b0 s0) := by
  have h0 := Keeps.refl s0
  unfold execEcdsaVer
  exact Keeps.transO (Keeps.transS h0 (State.cipStart_keeps _ _ _ _)) (doneW_keeps _)

theorem execUnwrap_keeps (b0 : CoreId) (s0 : State) : KeepsO s0 (execUnwrap b0 s0) := by
  have h0 := Keeps.refl s0
  unfold execUnwrap
  exact Keeps.transO (Keeps.transS h0 (State.cipStart_keeps _ _ _ _)) (doneW_keeps _)

theorem execWrap_keeps (b0 : CoreId) (s0 : State) : KeepsO s0 (execWrap b0 s0) := by
  have h0 := Keeps.refl s0
  unfold execWrap
  exact Keeps.transO (Keeps.transS h0 (State.cipStart_keeps _ _ _ _)) (doneW_keeps _)

theorem execRng_keeps (b0 : CoreId) (b1 : List Byte) (s0 : State) : KeepsO s0 (execRng b0 b1 s0) := by
  have h0 := Keeps.refl s0
  unfold execRng
  exact Keeps.transO (Keeps.transS h0 (State.cipStart_keeps _ _ _ _)) (doneW_keeps _)

theorem execCipherComplete_keeps (b0 : Nat) (s0 : State) : KeepsO s0 (execCipherComplete b0 s0) := by
  have h0 := Keeps.refl s0
  unfold execCipherComplete
  exact Keeps.transO (Keeps.transS (Keeps.transS h0 (State.at__keeps _ _)) (State.cipDone_keeps _)) (doneW_keeps _)

theorem execQueueFlush_keeps (b0 : CoreId) (s0 : State) : KeepsO s0 (execQueueFlush b0 s0) := by
  have h0 := Keeps.refl s0
  unfold execQueueFlush
  exact Keeps.transO (Keeps.transS h0 (State.cipFlush_keeps _ _)) (doneW_keeps _)

theorem execKselWrite_keeps (b0 : Word) (s0 : State) : KeepsO s0 (execKselWrite b0 s0) := by
  have h0 := Keeps.refl s0
  unfold execKselWrite
  refine Keeps.transO ?_ (doneW_keeps _)
  exact Keeps.transS h0 (State.kselWrite_keeps _ _)

theorem execAlarmTrip_keeps (b0 : BitVec 4) (b1 : Nat) (s0 : State) : KeepsO s0 (execAlarmTrip b0 b1 s0) := by
  have h0 := Keeps.refl s0
  unfold execAlarmTrip
  extract_lets -merge +onlyGivenNames x1
  have hx1 : Keeps s0 x1 := by unfold x1; exact Keeps.transS h0 (State.at__keeps _ _)
  clear_value x1; revert x1 hx1; refine Keeps.gen fun x1 hx1 => ?_
  extract_lets -merge +onlyGivenNames x2
  try clear_value x2
  refine Keeps.transO ?_ (doneW_keeps _)
  exact keepsS_ite hx1 (Keeps.transS hx1 (State.alarm_keeps _ _))

theorem execAlmactClear_keeps (b0 : Nat) (s0 : State) : KeepsO s0 (execAlmactClear b0 s0) := by
  have h0 := Keeps.refl s0
  unfold execAlmactClear
  extract_lets -merge +onlyGivenNames x1
  have hx1 : Keeps s0 x1 := by unfold x1; exact Keeps.transS h0 (State.at__keeps _ _)
  clear_value x1; revert x1 hx1; refine Keeps.gen fun x1 hx1 => ?_
  extract_lets -merge +onlyGivenNames x2
  try clear_value x2
  refine Keeps.transO ?_ (doneW_keeps _)
  refine keepsS_ite ?_ ?_
  · exact Keeps.upd hx1 rfl
  · exact hx1

theorem execTrngStartupDone_keeps (b0 : Word) (b1 : Nat) (s0 : State) : KeepsO s0 (execTrngStartupDone b0 b1 s0) := by
  have h0 := Keeps.refl s0
  unfold execTrngStartupDone
  extract_lets -merge +onlyGivenNames x1
  have hx1 : Keeps s0 x1 := by unfold x1; exact Keeps.transS h0 (State.at__keeps _ _)
  clear_value x1; revert x1 hx1; refine Keeps.gen fun x1 hx1 => ?_
  refine Keeps.transO ?_ (doneW_keeps _)
  exact keepsS_ite (Keeps.transS hx1 (State.trngStart_keeps _ _)) hx1

theorem execTrngDataRead_keeps (b0 : Agent) (b1 : Option Word) (s0 : State) : KeepsO s0 (execTrngDataRead b0 b1 s0) := by
  have h0 := Keeps.refl s0
  unfold execTrngDataRead
  split
  · rename_i heq
    have hx1 := keeps2_of heq (s0 := s0) (by
        exact Keeps.trans2 h0 (State.trngTake_keeps _ _)
      )
    exact Keeps.transO (Keeps.transS hx1 (State.respond_keeps _ _ _)) (doneW_keeps _)

theorem execKeyCommit_keeps (s0 : State) : KeepsO s0 (execKeyCommit s0) := by
  have h0 := Keeps.refl s0
  unfold execKeyCommit
  exact Keeps.transO (Keeps.transS h0 (State.keyCommit_keeps _)) (doneW_keeps _)

theorem execKeyErase_keeps (s0 : State) : KeepsO s0 (execKeyErase s0) := by
  have h0 := Keeps.refl s0
  unfold execKeyErase
  exact Keeps.transO (Keeps.transS h0 (State.keyErase_keeps _)) (doneW_keeps _)

theorem execEraseall_keeps (s0 : State) : KeepsO s0 (execEraseall s0) := by
  have h0 := Keeps.refl s0
  unfold execEraseall
  exact Keeps.transO (Keeps.transS h0 (State.keyEraseAll_keeps _)) (doneW_keeps _)

theorem execAlmclr_keeps (s0 : State) : KeepsO s0 (execAlmclr s0) := by
  have h0 := Keeps.refl s0
  unfold execAlmclr
  exact Keeps.transO (Keeps.transS h0 (State.almClear_keeps _)) (doneW_keeps _)

theorem execDeviceKeyLoadDone_keeps (s0 : State) : KeepsO s0 (execDeviceKeyLoadDone s0) := by
  have h0 := Keeps.refl s0
  unfold execDeviceKeyLoadDone
  extract_lets -merge +onlyGivenNames x1
  try clear_value x1
  refine Keeps.transO ?_ (doneW_keeps _)
  refine keepsS_ite ?_ ?_
  · exact h0
  · exact Keeps.upd h0 rfl

theorem execTrngHealthFail_keeps (s0 : State) : KeepsO s0 (execTrngHealthFail s0) := by
  have h0 := Keeps.refl s0
  unfold execTrngHealthFail
  refine Keeps.transO ?_ (doneW_keeps _)
  exact keepsS_ite (Keeps.transS h0 (State.trngFail_keeps _)) h0

theorem State.testBegin_keeps (s0 : State) (b1 : Nat) : Keeps s0 (State.testBegin s0 b1) := by
  have h0 := Keeps.refl s0
  unfold State.testBegin
  extract_lets -merge +onlyGivenNames x1
  have hx1 : Keeps s0 x1 := by
    unfold x1
    exact Keeps.transS (Keeps.transS (Keeps.transS h0 (State.invalidateBoth_keeps _ _ _)) (State.setBank_keeps _ _ _)) (State.lose_keeps _ _ _)
  clear_value x1; revert x1 hx1; refine Keeps.gen fun x1 hx1 => ?_
  extract_lets -merge +onlyGivenNames x2
  refine Keeps.transS ?_ (State.put_keeps _ _ _)
  exact Keeps.upd hx1 rfl

theorem State.tcmdWrite_keeps (s0 : State) (b1 : Word) : Keeps s0 (State.tcmdWrite s0 b1) := by
  have h0 := Keeps.refl s0
  unfold State.tcmdWrite
  extract_lets -merge +onlyGivenNames x1
  try clear_value x1
  exact keepsS_ite h0 (keepsS_ite (Keeps.transS h0 (State.put_keeps _ _ _)) (Keeps.transS h0 (State.testBegin_keeps _ _)))

theorem State.bankArrive_keeps (s0 : State) (b1 : Nat) : Keeps s0 (State.bankArrive s0 b1) := by
  have h0 := Keeps.refl s0
  unfold State.bankArrive
  split
  · extract_lets -merge +onlyGivenNames x1
    refine Keeps.transS ?_ (State.bankReach_keeps _ _ _)
    exact Keeps.upd h0 rfl
  · exact h0

theorem State.testEnd_keeps (s0 : State) (b1 : Nat) (b2 : TestResult) : Keeps s0 (State.testEnd s0 b1 b2) := by
  have h0 := Keeps.refl s0
  unfold State.testEnd
  split
  · extract_lets -merge +onlyGivenNames x1
    have hx1 : Keeps s0 x1 := by unfold x1; exact Keeps.transS h0 (State.repairSet_keeps _ _ _ _)
    clear_value x1; revert x1 hx1; refine Keeps.gen fun x1 hx1 => ?_
    extract_lets -merge +onlyGivenNames x2 x3
    have hx3 : Keeps s0 x3 := by unfold x3; exact Keeps.upd hx1 rfl
    clear_value x3; revert x3 hx3; refine Keeps.gen fun x3 hx3 => ?_
    extract_lets -merge +onlyGivenNames x4
    have hx4 : Keeps s0 x4 := by
      unfold x4
      exact keepsS_ite (Keeps.transS hx3 (State.bankFail_keeps _ _)) (Keeps.transS hx3 (State.bankZero_keeps _ _))
    clear_value x4; revert x4 hx4; refine Keeps.gen fun x4 hx4 => ?_
    extract_lets -merge +onlyGivenNames x5
    have hx5 : Keeps s0 x5 := by unfold x5; exact Keeps.transS (Keeps.transS hx4 (State.put_keeps _ _ _)) (State.put_keeps _ _ _)
    clear_value x5; revert x5 hx5; refine Keeps.gen fun x5 hx5 => ?_
    exact Keeps.transS hx5 (State.postTo_keeps _ _ _ _ _)

theorem execBankPowerRequest_keeps (b0 : Bool) (b1 : Word) (s0 : State) : KeepsO s0 (execBankPowerRequest b0 b1 s0) := by
  have h0 := Keeps.refl s0
  unfold execBankPowerRequest
  refine Keeps.transO ?_ (doneW_keeps _)
  exact Keeps.transS h0 (State.writeReg_keeps _ _ _)

theorem execBankTransitionDone_keeps (b0 : Nat) (b1 : Nat) (s0 : State) : KeepsO s0 (execBankTransitionDone b0 b1 s0) := by
  have h0 := Keeps.refl s0
  unfold execBankTransitionDone
  exact Keeps.transO (Keeps.transS (Keeps.transS h0 (State.at__keeps _ _)) (State.bankArrive_keeps _ _)) (doneW_keeps _)

theorem execBankTestStart_keeps (b0 : Word) (s0 : State) : KeepsO s0 (execBankTestStart b0 s0) := by
  have h0 := Keeps.refl s0
  unfold execBankTestStart
  refine Keeps.transO ?_ (doneW_keeps _)
  exact Keeps.transS h0 (State.tcmdWrite_keeps _ _)

theorem execBankTestEnd_keeps (b0 : TestResult) (b1 : Nat) (s0 : State) : KeepsO s0 (execBankTestEnd b0 b1 s0) := by
  have h0 := Keeps.refl s0
  unfold execBankTestEnd
  extract_lets -merge +onlyGivenNames x1
  have hx1 : Keeps s0 x1 := by unfold x1; exact Keeps.transS h0 (State.at__keeps _ _)
  clear_value x1; revert x1 hx1; refine Keeps.gen fun x1 hx1 => ?_
  refine Keeps.transO ?_ (doneW_keeps _)
  split
  · exact Keeps.transS hx1 (State.testEnd_keeps _ _ _)
  · exact hx1

theorem State.txPend_keeps (s0 : State) (b1 : List Byte) : Keeps s0 (State.txPend s0 b1) := by
  have h0 := Keeps.refl s0
  unfold State.txPend
  extract_lets -merge +onlyGivenNames x1
  try clear_value x1
  exact Keeps.upd h0 rfl

theorem State.bufPut_keeps (s0 : State) (b1 : Nat) (b2 : List Byte) : Keeps s0 (State.bufPut s0 b1 b2) := by
  have h0 := Keeps.refl s0
  unfold State.bufPut
  refine forN_keeps ?_ ?_
  · exact h0
  · intro x1 x2 hx1
    try beta_reduce
    exact Keeps.transS hx1 (State.setReg_keeps _ _ _)

theorem State.txPlace_keeps (s0 : State) (b1 : List Byte) : Keeps s0 (State.txPlace s0 b1) := by
  have h0 := Keeps.refl s0
  unfold State.txPlace
  exact Keeps.transS (Keeps.transS h0 (State.bufPut_keeps _ _ _)) (State.txPend_keeps _ _)

theorem State.replyTo_keeps (s0 : State) (b1 : Reply) (b2 : List Byte) : Keeps s0 (State.replyTo s0 b1 b2) := by
  have h0 := Keeps.refl s0
  unfold State.replyTo
  extract_lets -merge +onlyGivenNames x1
  try clear_value x1
  extract_lets -merge +onlyGivenNames x2
  try clear_value x2
  refine keepsS_ite ?_ ?_
  · exact Keeps.upd h0 rfl
  · exact Keeps.transS h0 (State.txPlace_keeps _ _)

theorem State.rxFree_keeps (s0 : State) : Keeps s0 (State.rxFree s0) := by
  have h0 := Keeps.refl s0
  unfold State.rxFree
  extract_lets -merge +onlyGivenNames x1
  try clear_value x1
  exact Keeps.upd h0 rfl

theorem State.hostPost_keeps (s0 : State) : Keeps s0 (State.hostPost s0) := by
  have h0 := Keeps.refl s0
  unfold State.hostPost
  exact Keeps.transS h0 (State.postBoth_keeps _ _ _ _)

theorem State.hostErr_keeps (s0 : State) (b1 : Nat) : Keeps s0 (State.hostErr s0 b1) := by
  have h0 := Keeps.refl s0
  unfold State.hostErr
  exact keepsS_ite h0 (Keeps.transS (Keeps.transS h0 (State.setReg_keeps _ _ _)) (State.hostPost_keeps _))

theorem State.rebootStep_keeps (s0 : State) : Keeps s0 (State.rebootStep s0) := by
  have h0 := Keeps.refl s0
  unfold State.rebootStep
  exact keepsS_ite (Keeps.transS h0 (State.startBegin_keeps _ _ _ _)) h0

theorem State.flcEnd_keeps (s0 : State) (b1 : Nat) (b2 : Nat) (b3 : Nat) (b4 : Nat) (b5 : Option Reply) : Keeps s0 (State.flcEnd s0 b1 b2 b3 b4 b5) := by
  have h0 := Keeps.refl s0
  unfold State.flcEnd
  extract_lets -merge +onlyGivenNames x1
  have hx1 : Keeps s0 x1 := by unfold x1; exact Keeps.transS h0 (State.setReg_keeps _ _ _)
  clear_value x1; revert x1 hx1; refine Keeps.gen fun x1 hx1 => ?_
  extract_lets -merge +onlyGivenNames x2
  have hx2 : Keeps s0 x2 := by unfold x2; exact Keeps.transS hx1 (State.output_keeps _ _ _)
  clear_value x2; revert x2 hx2; refine Keeps.gen fun x2 hx2 => ?_
  extract_lets -merge +onlyGivenNames x3
  have hx3 : Keeps s0 x3 := by unfold x3; exact keepsS_ite (Keeps.transS hx2 (State.postTo_keeps _ _ _ _ _)) hx2
  clear_value x3; revert x3 hx3; refine Keeps.gen fun x3 hx3 => ?_
  split
  · exact Keeps.transS hx3 (State.replyTo_keeps _ _ _)
  · exact hx3

theorem State.flcBegin_keeps (s0 : State) (b1 : FlcReq) : Keeps s0 (State.flcBegin s0 b1) := by
  have h0 := Keeps.refl s0
  unfold State.flcBegin
  extract_lets -merge +onlyGivenNames x1
  have hx1 : Keeps s0 x1 := by unfold x1; exact keepsS_ite (Keeps.transS h0 (State.put_keeps _ _ _)) h0
  clear_value x1; revert x1 hx1; refine Keeps.gen fun x1 hx1 => ?_
  extract_lets -merge +onlyGivenNames x2
  try clear_value x2
  exact Keeps.upd hx1 rfl

theorem State.flcDo_keeps (s0 : State) (b1 : FlcReq) : Keeps s0 (State.flcDo s0 b1) := by
  have h0 := Keeps.refl s0
  unfold State.flcDo
  extract_lets -merge +onlyGivenNames x1
  try clear_value x1
  refine keepsS_ite ?_ ?_
  · exact Keeps.transS h0 (State.flcEnd_keeps _ _ _ _ _ _)
  · refine keepsS_ite ?_ ?_
    · refine Keeps.transS ?_ (State.flcEnd_keeps _ _ _ _ _ _)
      refine keepsP_getD ?_ ?_
      · exact Keeps.transP h0 (State.selWrite_keeps _ _)
      · exact h0
    · exact Keeps.transS h0 (State.flcBegin_keeps _ _)

theorem State.flcCmd_keeps (s0 : State) (b1 : Nat) (b2 : List Word) : Keeps s0 (State.flcCmd s0 b1 b2) := by
  have h0 := Keeps.refl s0
  unfold State.flcCmd
  exact keepsS_ite h0 (Keeps.transS h0 (State.flcDo_keeps _ _))

theorem State.eraseEnd_keeps (s0 : State) (b1 : FlcOp) (b2 : Bool) : Keeps s0 (State.eraseEnd s0 b1 b2) := by
  have h0 := Keeps.refl s0
  unfold State.eraseEnd
  extract_lets -merge +onlyGivenNames x1
  try clear_value x1
  extract_lets -merge +onlyGivenNames x2
  have hx2 : Keeps s0 x2 := by
    unfold x2
    refine keepsS_ite ?_ ?_
    · exact Keeps.transS h0 (State.blockErase_keeps _ _)
    · exact Keeps.transS (Keeps.transS (Keeps.transS h0 (State.lose_keeps _ _ _)) (State.flashInval_keeps _ _ _)) (State.unmark_keeps _ _)
  clear_value x2; revert x2 hx2; refine Keeps.gen fun x2 hx2 => ?_
  extract_lets -merge +onlyGivenNames x3
  try clear_value x3
  extract_lets -merge +onlyGivenNames x4
  have hx4 : Keeps s0 x4 := by unfold x4; exact Keeps.upd hx2 rfl
  clear_value x4; revert x4 hx4; refine Keeps.gen fun x4 hx4 => ?_
  exact Keeps.transS hx4 (State.flcEnd_keeps _ _ _ _ _ _)

theorem State.flcQuiet_keeps (s0 : State) : Keeps s0 (State.flcQuiet s0) := by
  have h0 := Keeps.refl s0
  unfold State.flcQuiet
  split
  · exact keepsS_ite (Keeps.transS h0 (State.flcResume_keeps _)) h0
  · exact h0

theorem State.flcSuspend_keeps (s0 : State) (b1 : FlcOp) : Keeps s0 (State.flcSuspend s0 b1) := by
  have h0 := Keeps.refl s0
  unfold State.flcSuspend
  extract_lets -merge +onlyGivenNames x1
  try clear_value x1
  extract_lets -merge +onlyGivenNames x2
  have hx2 : Keeps s0 x2 := by unfold x2; exact Keeps.upd h0 rfl
  clear_value x2; revert x2 hx2; refine Keeps.gen fun x2 hx2 => ?_
  exact Keeps.transS hx2 (State.count_keeps _ _)

theorem State.marginEnd_keeps (s0 : State) (b1 : FlcOp) (b2 : List (Nat × Nat)) : Keeps s0 (State.marginEnd s0 b1 b2) := by
  have h0 := Keeps.refl s0
  unfold State.marginEnd
  extract_lets -merge +onlyGivenNames x1
  try clear_value x1
  extract_lets -merge +onlyGivenNames x2
  try clear_value x2
  extract_lets -merge +onlyGivenNames x3
  have hx3 : Keeps s0 x3 := by unfold x3; exact Keeps.transS h0 (State.setReg_keeps _ _ _)
  clear_value x3; revert x3 hx3; refine Keeps.gen fun x3 hx3 => ?_
  extract_lets -merge +onlyGivenNames x4
  have hx4 : Keeps s0 x4 := by unfold x4; exact keepsS_ite hx3 (Keeps.transS hx3 (State.setReg_keeps _ _ _))
  clear_value x4; revert x4 hx4; refine Keeps.gen fun x4 hx4 => ?_
  extract_lets -merge +onlyGivenNames x5
  try clear_value x5
  extract_lets -merge +onlyGivenNames x6
  have hx6 : Keeps s0 x6 := by unfold x6; exact Keeps.upd hx4 rfl
  clear_value x6; revert x6 hx6; refine Keeps.gen fun x6 hx6 => ?_
  exact Keeps.transS hx6 (State.flcEnd_keeps _ _ _ _ _ _)

theorem State.mtvecs_keeps (s0 : State) (b1 : Word) (b2 : Word) : Keeps s0 (State.mtvecs s0 b1 b2) := by
  have h0 := Keeps.refl s0
  unfold State.mtvecs
  extract_lets -merge +onlyGivenNames x1
  try clear_value x1
  extract_lets -merge +onlyGivenNames x2
  try clear_value x2
  extract_lets -merge +onlyGivenNames x3
  try clear_value x3
  extract_lets -merge +onlyGivenNames x4
  try clear_value x4
  exact Keeps.upd h0 rfl

theorem State.progEnd_keeps (s0 : State) (b1 : FlcOp) (b2 : Bool) (b3 : Bool) : Keeps s0 (State.progEnd s0 b1 b2 b3) := by
  have h0 := Keeps.refl s0
  unfold State.progEnd
  extract_lets -merge +onlyGivenNames x1
  try clear_value x1
  extract_lets -merge +onlyGivenNames x2
  try clear_value x2
  extract_lets -merge +onlyGivenNames x3
  have hx3 : Keeps s0 x3 := by
    unfold x3
    refine keepsS_ite ?_ ?_
    · exact h0
    · refine keepsS_ite ?_ ?_
      · exact Keeps.transS h0 (State.pagePut_keeps _ _)
      · exact Keeps.transS (Keeps.transS h0 (State.lose_keeps _ _ _)) (State.flashInval_keeps _ _ _)
  clear_value x3; revert x3 hx3; refine Keeps.gen fun x3 hx3 => ?_
  extract_lets -merge +onlyGivenNames x4
  try clear_value x4
  extract_lets -merge +onlyGivenNames x5
  have hx5 : Keeps s0 x5 := by unfold x5; exact Keeps.upd hx3 rfl
  clear_value x5; revert x5 hx5; refine Keeps.gen fun x5 hx5 => ?_
  exact Keeps.transS hx5 (State.flcEnd_keeps _ _ _ _ _ _)

theorem execFlashProg_keeps (b0 : Word) (b1 : Word) (s0 : State) : KeepsO s0 (execFlashProg b0 b1 s0) := by
  have h0 := Keeps.refl s0
  unfold execFlashProg
  exact Keeps.transO (Keeps.transS (Keeps.transS h0 (State.mtvecs_keeps _ _ _)) (State.flcCmd_keeps _ _ _)) (doneW_keeps _)

theorem execFlashErase_keeps (b0 : Word) (b1 : Word) (s0 : State) : KeepsO s0 (execFlashErase b0 b1 s0) := by
  have h0 := Keeps.refl s0
  unfold execFlashErase
  exact Keeps.transO (Keeps.transS (Keeps.transS h0 (State.mtvecs_keeps _ _ _)) (State.flcCmd_keeps _ _ _)) (doneW_keeps _)

theorem execEraseResume_keeps (b0 : Nat) (s0 : State) : KeepsO s0 (execEraseResume b0 s0) := by
  have h0 := Keeps.refl s0
  unfold execEraseResume
  exact Keeps.transO (Keeps.transS (Keeps.transS h0 (State.at__keeps _ _)) (State.flcQuiet_keeps _)) (doneW_keeps _)

theorem execMargin0_keeps (s0 : State) : KeepsO s0 (execMargin0 s0) := by
  have h0 := Keeps.refl s0
  unfold execMargin0
  exact Keeps.transO (Keeps.transS h0 (State.flcCmd_keeps _ _ _)) (doneW_keeps _)

theorem execMargin1_keeps (s0 : State) : KeepsO s0 (execMargin1 s0) := by
  have h0 := Keeps.refl s0
  unfold execMargin1
  exact Keeps.transO (Keeps.transS h0 (State.flcCmd_keeps _ _ _)) (doneW_keeps _)

theorem execFlashBsel_keeps (s0 : State) : KeepsO s0 (execFlashBsel s0) := by
  have h0 := Keeps.refl s0
  unfold execFlashBsel
  exact Keeps.transO (Keeps.transS h0 (State.flcCmd_keeps _ _ _)) (doneW_keeps _)

theorem State.dumpAct_keeps (s0 : State) (d : Dump) : Keeps s0 (s0.dumpAct d) := by
  have hc : ∀ (t : State) (op a : Nat) (vs : List Word), Keeps s0 t →
      Keeps s0 ((t.setReg Reg.FLC_ADDR (BitVec.ofNat 32 a)).flcDo ⟨op, a, 0, 0, vs, none⟩) := fun t op a vs h =>
    (h.transS (State.setReg_keeps _ _ _)).transS (State.flcDo_keeps _ _)
  have hs : ∀ x, Keeps s0 { s0 with start := { s0.start with dump := x } } := fun x => (Keeps.refl s0).upd rfl
  unfold State.dumpAct
  dsimp only
  split
  · exact hc _ _ _ _ (hs _)
  · exact keepsS_ite ((hs _).transS (State.startBegin_keeps _ _ _ _)) (hc _ _ _ _ ((hs _).transS (State.bufPut_keeps _ _ _)))

theorem State.dumpSteps_keeps (s0 : State) (n : Nat) : Keeps s0 (s0.dumpSteps n) := by
  induction n generalizing s0 with
  | zero => exact Keeps.refl s0
  | succ n ih =>
    unfold State.dumpSteps
    split
    · exact keepsS_ite ((State.dumpAct_keeps _ _).transS (ih _)) (Keeps.refl s0)
    · exact Keeps.refl s0

theorem State.dumpStep_keeps (s0 : State) : Keeps s0 (State.dumpStep s0) := by
  have h0 := Keeps.refl s0
  unfold State.dumpStep
  exact Keeps.transS h0 (State.dumpSteps_keeps _ _)

theorem State.dumpScan_keeps (s0 : State) (n a : Nat) (q : Option Nat) : Keeps3 s0 (s0.dumpScan n a q) := by
  induction n generalizing s0 a q with
  | zero => exact Keeps.refl s0
  | succ n ih =>
    unfold State.dumpScan
    have h := State.rscan_keeps s0 a 16
    revert h
    generalize s0.rscan a 16 = p
    obtain ⟨t, bad⟩ := p
    intro h
    dsimp only
    split
    · exact Keeps.transS h (ih _ _ _)
    · exact h

theorem State.dumpFree_keeps (s0 : State) (b1 : Nat) : Keeps2 s0 (State.dumpFree s0 b1) := by
  have h0 := Keeps.refl s0
  unfold State.dumpFree
  split
  · rename_i heq
    have hx1 := keeps1_of heq (s0 := s0) (by
        exact Keeps.trans1 h0 (State.rscan_keeps _ _ _)
      )
    refine keeps2_mk ?_
    exact hx1

theorem State.dumpBegin_keeps (s0 : State) : Keeps s0 (State.dumpBegin s0) := by
  have h0 := Keeps.refl s0
  unfold State.dumpBegin
  refine keepsS_ite ?_ ?_
  · split
    · rename_i heq
      have hx1 := keeps3_of heq (s0 := s0) (by
          exact Keeps.trans3 h0 (State.dumpScan_keeps _ _ _ _)
        )
      extract_lets -merge +onlyGivenNames x2
      try clear_value x2
      split
      · rename_i heq
        have hx3 := keeps2_of heq (s0 := s0) (by
            exact Keeps.trans2 hx1 (State.dumpFree_keeps _ _)
          )
        extract_lets -merge +onlyGivenNames x4
        try clear_value x4
        extract_lets -merge +onlyGivenNames x5
        try clear_value x5
        exact Keeps.upd hx3 rfl
  · exact h0

theorem execCore0Release_keeps (b0 : ColdFindings) (b1 : Nat) (s0 : State) : KeepsO s0 (execCore0Release b0 b1 s0) := by
  have h0 := Keeps.refl s0
  unfold execCore0Release
  extract_lets -merge +onlyGivenNames x1
  have hx1 : Keeps s0 x1 := by unfold x1; exact Keeps.transS h0 (State.at__keeps _ _)
  clear_value x1; revert x1 hx1; refine Keeps.gen fun x1 hx1 => ?_
  refine Keeps.transO ?_ (done_keeps _)
  refine keepsS_ite ?_ ?_
  · exact Keeps.transS (Keeps.transS (Keeps.transS hx1 (State.releaseCore0_keeps _ _)) (State.dumpBegin_keeps _)) (State.dumpStep_keeps _)
  · exact hx1

theorem execMarginComplete_keeps (b0 : List (Nat × Nat)) (b1 : List Nat) (b2 : Nat) (s0 : State) : KeepsO s0 (execMarginComplete b0 b1 b2 s0) := by
  have h0 := Keeps.refl s0
  unfold execMarginComplete
  extract_lets -merge +onlyGivenNames x1
  have hx1 : Keeps s0 x1 := by unfold x1; exact Keeps.transS h0 (State.at__keeps _ _)
  clear_value x1; revert x1 hx1; refine Keeps.gen fun x1 hx1 => ?_
  refine Keeps.transO ?_ (doneW_keeps _)
  split
  · exact keepsS_ite (Keeps.transS (Keeps.transS hx1 (State.marginEnd_keeps _ _ _)) (State.dumpStep_keeps _)) hx1
  · exact hx1

theorem State.enSet_keeps (s0 : State) (b1 : CoreId) (b2 : Nat) (b3 : Word) : Keeps s0 (State.enSet s0 b1 b2 b3) := by
  have h0 := Keeps.refl s0
  unfold State.enSet
  exact keepsS_ite (Keeps.transS h0 (State.setReg_keeps _ _ _)) h0

theorem State.enClr_keeps (s0 : State) (b1 : CoreId) (b2 : Nat) (b3 : Word) : Keeps s0 (State.enClr s0 b1 b2 b3) := by
  have h0 := Keeps.refl s0
  unfold State.enClr
  exact keepsS_ite (Keeps.transS h0 (State.setReg_keeps _ _ _)) h0

theorem State.pendSet_keeps (s0 : State) (b1 : CoreId) (b2 : Nat) (b3 : Word) : Keeps s0 (State.pendSet s0 b1 b2 b3) := by
  have h0 := Keeps.refl s0
  unfold State.pendSet
  exact keepsS_ite (Keeps.transS h0 (State.setReg_keeps _ _ _)) h0

theorem State.pendClr_keeps (s0 : State) (b1 : CoreId) (b2 : Nat) (b3 : Word) : Keeps s0 (State.pendClr s0 b1 b2 b3) := by
  have h0 := Keeps.refl s0
  unfold State.pendClr
  extract_lets -merge +onlyGivenNames x1
  try clear_value x1
  exact keepsS_ite (Keeps.transS (Keeps.transS h0 (State.setReg_keeps _ _ _)) (State.setIcol_keeps _ _ _)) h0

theorem State.windowWrite_keeps (s0 : State) (b1 : CoreId) (b2 : Nat) (b3 : Word) : Keeps s0 (State.windowWrite s0 b1 b2 b3) := by
  have h0 := Keeps.refl s0
  unfold State.windowWrite
  refine keepsS_ite ?_ ?_
  · exact Keeps.transS h0 (State.enSet_keeps _ _ _ _)
  · refine keepsS_ite ?_ ?_
    · exact Keeps.transS h0 (State.enClr_keeps _ _ _ _)
    · refine keepsS_ite ?_ ?_
      · exact Keeps.transS h0 (State.pendSet_keeps _ _ _ _)
      · exact keepsS_ite (Keeps.transS h0 (State.pendClr_keeps _ _ _ _)) (keepsS_ite (Keeps.transS h0 (State.pendSet_keeps _ _ _ _)) h0)

theorem State.pubsw_keeps (s0 : State) (b1 : Word) : Keeps s0 (State.pubsw s0 b1) := by
  have h0 := Keeps.refl s0
  unfold State.pubsw
  exact Keeps.transS h0 (State.publish_keeps _ _ _)

theorem State.linecfg_keeps (s0 : State) (b1 : Nat) (b2 : Word) : Keeps s0 (State.linecfg s0 b1 b2) := by
  have h0 := Keeps.refl s0
  unfold State.linecfg
  extract_lets -merge +onlyGivenNames x1
  have hx1 : Keeps s0 x1 := by unfold x1; exact Keeps.transS h0 (State.setReg_keeps _ _ _)
  clear_value x1; revert x1 hx1; refine Keeps.gen fun x1 hx1 => ?_
  extract_lets -merge +onlyGivenNames x2
  try clear_value x2
  refine keepsS_ite ?_ ?_
  · exact h0
  · refine keepsS_ite ?_ ?_
    · exact Keeps.transS h0 (State.put_keeps _ _ _)
    · exact Keeps.upd hx1 rfl

theorem State.swpost_keeps (s0 : State) (b1 : CoreId) (b2 : Word) : Keeps s0 (State.swpost s0 b1 b2) := by
  have h0 := Keeps.refl s0
  unfold State.swpost
  extract_lets -merge +onlyGivenNames x1
  try clear_value x1
  exact keepsS_ite h0 (Keeps.transS h0 (State.postRaw_keeps _ _ _ _ _ _ _))

theorem State.icolNextPost_keeps (s0 : State) (b1 : CoreId) : Keeps s0 (State.icolNextPost s0 b1) := by
  have h0 := Keeps.refl s0
  unfold State.icolNextPost
  split
  · exact h0
  · extract_lets -merge +onlyGivenNames x1
    try clear_value x1
    exact Keeps.transS (Keeps.transS h0 (State.setIcol_keeps _ _ _)) (State.icolHandle_keeps _ _ _)

theorem execEvlPubsw_keeps (b0 : Word) (s0 : State) : KeepsO s0 (execEvlPubsw b0 s0) := by
  have h0 := Keeps.refl s0
  unfold execEvlPubsw
  exact Keeps.transO (Keeps.transS h0 (State.pubsw_keeps _ _)) (doneW_keeps _)

theorem execLinecfgWrite_keeps (b0 : Nat) (b1 : Word) (s0 : State) : KeepsO s0 (execLinecfgWrite b0 b1 s0) := by
  have h0 := Keeps.refl s0
  unfold execLinecfgWrite
  exact Keeps.transO (Keeps.transS h0 (State.linecfg_keeps _ _ _)) (doneW_keeps _)

theorem execIcolRecordWrite_keeps (b0 : CoreId) (b1 : Nat) (s0 : State) : KeepsO s0 (execIcolRecordWrite b0 b1 s0) := by
  have h0 := Keeps.refl s0
  unfold execIcolRecordWrite
  exact Keeps.transO (Keeps.transS (Keeps.transS h0 (State.at__keeps _ _)) (State.icolNextPost_keeps _ _)) (doneW_keeps _)

theorem execFrompendWrite_keeps (b0 : CoreId) (b1 : Nat) (s0 : State) : KeepsO s0 (execFrompendWrite b0 b1 s0) := by
  have h0 := Keeps.refl s0
  unfold execFrompendWrite
  exact Keeps.transO (Keeps.transS (Keeps.transS h0 (State.at__keeps _ _)) (State.icolFrompend_keeps _ _)) (doneW_keeps _)

theorem execIcolEoi_keeps (b0 : CoreId) (s0 : State) : KeepsO s0 (execIcolEoi b0 s0) := by
  have h0 := Keeps.refl s0
  unfold execIcolEoi
  refine Keeps.transO ?_ (doneW_keeps _)
  exact Keeps.transS h0 (State.icolEoiWrite_keeps _ _)

theorem execIcolSwpost_keeps (b0 : CoreId) (b1 : Word) (s0 : State) : KeepsO s0 (execIcolSwpost b0 b1 s0) := by
  have h0 := Keeps.refl s0
  unfold execIcolSwpost
  exact Keeps.transO (Keeps.transS h0 (State.swpost_keeps _ _ _)) (doneW_keeps _)

theorem execIcolEnset_keeps (b0 : CoreId) (b1 : Nat) (b2 : Word) (s0 : State) : KeepsO s0 (execIcolEnset b0 b1 b2 s0) := by
  have h0 := Keeps.refl s0
  unfold execIcolEnset
  exact Keeps.transO (Keeps.transS h0 (State.enSet_keeps _ _ _ _)) (doneW_keeps _)

theorem execIcolEnclr_keeps (b0 : CoreId) (b1 : Nat) (b2 : Word) (s0 : State) : KeepsO s0 (execIcolEnclr b0 b1 b2 s0) := by
  have h0 := Keeps.refl s0
  unfold execIcolEnclr
  exact Keeps.transO (Keeps.transS h0 (State.enClr_keeps _ _ _ _)) (doneW_keeps _)

theorem execIcolPset_keeps (b0 : CoreId) (b1 : Nat) (b2 : Word) (s0 : State) : KeepsO s0 (execIcolPset b0 b1 b2 s0) := by
  have h0 := Keeps.refl s0
  unfold execIcolPset
  exact Keeps.transO (Keeps.transS h0 (State.pendSet_keeps _ _ _ _)) (doneW_keeps _)

theorem execIcolPclr_keeps (b0 : CoreId) (b1 : Nat) (b2 : Word) (s0 : State) : KeepsO s0 (execIcolPclr b0 b1 b2 s0) := by
  have h0 := Keeps.refl s0
  unfold execIcolPclr
  exact Keeps.transO (Keeps.transS h0 (State.pendClr_keeps _ _ _ _)) (doneW_keeps _)

theorem execIcolNlx5pset_keeps (b0 : CoreId) (b1 : Word) (s0 : State) : KeepsO s0 (execIcolNlx5pset b0 b1 s0) := by
  have h0 := Keeps.refl s0
  unfold execIcolNlx5pset
  exact Keeps.transO (Keeps.transS h0 (State.pendSet_keeps _ _ _ _)) (doneW_keeps _)

theorem execModerationExpiry_keeps (b0 : CoreId) (b1 : Nat) (s0 : State) : KeepsO s0 (execModerationExpiry b0 b1 s0) := by
  have h0 := Keeps.refl s0
  unfold execModerationExpiry
  exact Keeps.transO (Keeps.transS (Keeps.transS h0 (State.at__keeps _ _)) (State.modStep_keeps _ _)) (doneW_keeps _)

theorem State.padRelease_keeps (s0 : State) : Keeps s0 (State.padRelease s0) := by
  have h0 := Keeps.refl s0
  unfold State.padRelease
  extract_lets -merge +onlyGivenNames x1
  try clear_value x1
  exact Keeps.upd h0 rfl

theorem State.pwrEnter_keeps (s0 : State) (target : Nat) : Keeps s0 (s0.pwrEnter target) := by
  unfold State.pwrEnter
  split
  · exact State.hsReport_keeps _ _ _ _ _ _
  · rename_i h
    simp only [Bool.or_eq_true, decide_eq_true_eq, not_or, not_lt] at h
    refine Keeps.transS ?_ (State.sleepTry_keeps _)
    exact (Keeps.refl s0).modes rfl fun l => { l with cmd := by simpa using h.1 }

theorem State.pwrCancel_keeps (s0 : State) : Keeps s0 s0.pwrCancel :=
  (Keeps.refl s0).modes rfl fun l => { l with cmd := by simp [State.pwrCancel] }

theorem State.pwrCmd_keeps (s0 : State) (b1 : BitVec 16) (b2 : Nat) (b3 : Nat) : Keeps s0 (State.pwrCmd s0 b1 b2 b3) := by
  have h0 := Keeps.refl s0
  unfold State.pwrCmd
  exact keepsS_ite h0 (keepsS_ite (Keeps.transS h0 (State.pwrEnter_keeps _ _)) (keepsS_ite (Keeps.transS h0 (State.pwrCancel_keeps _)) h0))

theorem State.entryDone_keeps (s0 : State) : Keeps s0 s0.entryDone := by
  unfold State.entryDone
  split
  · rename_i h e
    exact keepsS_ite (State.hsDebug_keeps _) (keepsS_ite (State.sleepReach_keeps s0 _ fun l => l.hs h e) (Keeps.refl s0))
  · exact Keeps.refl s0

theorem State.pinSet_keeps (s0 : State) (b1 : Nat) (b2 : Bool) : Keeps s0 (State.pinSet s0 b1 b2) := by
  have h0 := Keeps.refl s0
  unfold State.pinSet
  extract_lets -merge +onlyGivenNames x1
  try clear_value x1
  exact Keeps.upd h0 rfl

theorem State.wakePin_keeps (s0 : State) (b1 : Nat) (b2 : Bool) : Keeps s0 (State.wakePin s0 b1 b2) := by
  have h0 := Keeps.refl s0
  unfold State.wakePin
  extract_lets -merge +onlyGivenNames x1
  have hx1 : Keeps s0 x1 := by unfold x1; exact Keeps.transS h0 (State.pinSet_keeps _ _ _)
  clear_value x1; revert x1 hx1; refine Keeps.gen fun x1 hx1 => ?_
  extract_lets -merge +onlyGivenNames x2
  refine keepsS_ite ?_ ?_
  · exact Keeps.upd hx1 rfl
  · exact hx1

theorem State.wfiExec_keeps (s0 : State) (b1 : CoreId) : Keeps s0 (State.wfiExec s0 b1) := by
  have h0 := Keeps.refl s0
  unfold State.wfiExec
  extract_lets -merge +onlyGivenNames x1
  try clear_value x1
  exact keepsS_ite (Keeps.transS (Keeps.transS (Keeps.transS h0 (State.setCore_keeps _ _ _)) (State.settle_keeps _)) (State.sleepTry_keeps _)) h0

theorem execWfi_keeps (b0 : CoreId) (b1 : Nat) (s0 : State) : KeepsO s0 (execWfi b0 b1 s0) := by
  have h0 := Keeps.refl s0
  unfold execWfi
  exact Keeps.transO (Keeps.transS (Keeps.transS h0 (State.at__keeps _ _)) (State.wfiExec_keeps _ _)) (doneW_keeps _)

theorem execPwrEnter_keeps (b0 : BitVec 16) (b1 : BitVec 4) (s0 : State) : KeepsO s0 (execPwrEnter b0 b1 s0) := by
  have h0 := Keeps.refl s0
  unfold execPwrEnter
  exact Keeps.transO (Keeps.transS h0 (State.pwrCmd_keeps _ _ _ _)) (doneW_keeps _)

theorem execPwrCancel_keeps (b0 : BitVec 16) (s0 : State) : KeepsO s0 (execPwrCancel b0 s0) := by
  have h0 := Keeps.refl s0
  unfold execPwrCancel
  exact Keeps.transO (Keeps.transS h0 (State.pwrCmd_keeps _ _ _ _)) (doneW_keeps _)

theorem execHandshakeDelayClear_keeps (b0 : Nat) (s0 : State) : KeepsO s0 (execHandshakeDelayClear b0 s0) := by
  have h0 := Keeps.refl s0
  unfold execHandshakeDelayClear
  exact Keeps.transO (Keeps.transS (Keeps.transS h0 (State.at__keeps _ _)) (State.hsAgain_keeps _)) (doneW_keeps _)

theorem execHandshakeTimeout_keeps (b0 : Nat) (s0 : State) : KeepsO s0 (execHandshakeTimeout b0 s0) := by
  have h0 := Keeps.refl s0
  unfold execHandshakeTimeout
  exact Keeps.transO (Keeps.transS (Keeps.transS h0 (State.at__keeps _ _)) (State.hsTimeout_keeps _)) (doneW_keeps _)

theorem execSleepEntryDone_keeps (b0 : Nat) (s0 : State) : KeepsO s0 (execSleepEntryDone b0 s0) := by
  have h0 := Keeps.refl s0
  unfold execSleepEntryDone
  exact Keeps.transO (Keeps.transS (Keeps.transS h0 (State.at__keeps _ _)) (State.entryDone_keeps _)) (doneW_keeps _)

theorem execPrewake_keeps (b0 : Nat) (s0 : State) : KeepsO s0 (execPrewake b0 s0) := by
  have h0 := Keeps.refl s0
  unfold execPrewake
  extract_lets -merge +onlyGivenNames x1
  have hx1 : Keeps s0 x1 := by unfold x1; exact Keeps.transS h0 (State.at__keeps _ _)
  clear_value x1; revert x1 hx1; refine Keeps.gen fun x1 hx1 => ?_
  extract_lets -merge +onlyGivenNames x2
  try clear_value x2
  extract_lets -merge +onlyGivenNames x3
  refine Keeps.transO ?_ (doneW_keeps _)
  refine keepsS_ite ?_ ?_
  · exact Keeps.upd hx1 rfl
  · exact hx1

theorem execWakePinEdge_keeps (b0 : Nat) (b1 : Bool) (b2 : Nat) (s0 : State) : KeepsO s0 (execWakePinEdge b0 b1 b2 s0) := by
  have h0 := Keeps.refl s0
  unfold execWakePinEdge
  exact Keeps.transO (Keeps.transS (Keeps.transS h0 (State.at__keeps _ _)) (State.wakePin_keeps _ _ _)) (doneW_keeps _)

theorem execVcoreSettled_keeps (t : Nat) (s0 : State) : KeepsO s0 (execVcoreSettled t s0) := by
  have h := State.at__keeps s0 t
  unfold execVcoreSettled
  dsimp only
  refine Keeps.transO ?_ (doneW_keeps _)
  exact h.pwr rfl (Pwr.settled_sameMode _)

theorem execHoverCrystalStart_keeps (b0 : Nat) (s0 : State) : KeepsO s0 (execHoverCrystalStart b0 s0) := by
  have h0 := Keeps.refl s0
  unfold execHoverCrystalStart
  extract_lets -merge +onlyGivenNames x1
  have hx1 : Keeps s0 x1 := by unfold x1; exact Keeps.transS h0 (State.at__keeps _ _)
  clear_value x1; revert x1 hx1; refine Keeps.gen fun x1 hx1 => ?_
  refine Keeps.transO ?_ (doneW_keeps _)
  exact keepsS_ite (Keeps.transS hx1 (State.hoverXtalOn_keeps _)) hx1

theorem execHoverSubstateChange_keeps (b0 : Nat) (s0 : State) : KeepsO s0 (execHoverSubstateChange b0 s0) := by
  have h0 := Keeps.refl s0
  unfold execHoverSubstateChange
  extract_lets -merge +onlyGivenNames x1
  have hx1 : Keeps s0 x1 := by unfold x1; exact Keeps.transS h0 (State.at__keeps _ _)
  clear_value x1; revert x1 hx1; refine Keeps.gen fun x1 hx1 => ?_
  refine Keeps.transO ?_ (doneW_keeps _)
  exact keepsS_ite (Keeps.transS hx1 (State.hoverSub_keeps _)) hx1

theorem execPadRelease_keeps (s0 : State) : KeepsO s0 (execPadRelease s0) := by
  have h0 := Keeps.refl s0
  unfold execPadRelease
  exact Keeps.transO (Keeps.transS h0 (State.padRelease_keeps _)) (doneW_keeps _)

theorem State.updBegin_keeps (s0 : State) (b1 : Bool) (b2 : Nat) : Keeps s0 (State.updBegin s0 b1 b2) := by
  have h0 := Keeps.refl s0
  unfold State.updBegin
  extract_lets -merge +onlyGivenNames x1
  try clear_value x1
  extract_lets -merge +onlyGivenNames x2
  try clear_value x2
  exact Keeps.upd h0 rfl

theorem State.updStart_keeps (s0 : State) (b1 : Bool) (b2 : Nat) : Keeps s0 (State.updStart s0 b1 b2) := by
  have h0 := Keeps.refl s0
  unfold State.updStart
  refine keepsS_ite ?_ ?_
  · exact Keeps.transS h0 (State.put_keeps _ _ _)
  · exact keepsS_ite (Keeps.transS h0 (State.put_keeps _ _ _)) (Keeps.transS h0 (State.updBegin_keeps _ _ _))

theorem State.updFree_keeps (s0 : State) : Keeps s0 (State.updFree s0) := by
  have h0 := Keeps.refl s0
  unfold State.updFree
  extract_lets -merge +onlyGivenNames x1
  try clear_value x1
  extract_lets -merge +onlyGivenNames x2
  have hx2 : Keeps s0 x2 := by unfold x2; exact Keeps.transS h0 (State.freeGroups_keeps _ _)
  clear_value x2; revert x2 hx2; refine Keeps.gen fun x2 hx2 => ?_
  extract_lets -merge +onlyGivenNames x3
  try clear_value x3
  extract_lets -merge +onlyGivenNames x4
  have hx4 : Keeps s0 x4 := by unfold x4; exact Keeps.upd hx2 rfl
  clear_value x4; revert x4 hx4; refine Keeps.gen fun x4 hx4 => ?_
  extract_lets -merge +onlyGivenNames x5
  try clear_value x5
  exact keepsS_ite hx4 (keepsS_ite (Keeps.transS hx4 (State.setEng_keeps _ _ _)) (keepsS_ite (Keeps.transS hx4 (State.engStart_keeps _ _)) hx4))

theorem State.updAbort_keeps (s0 : State) : Keeps s0 (State.updAbort s0) := by
  have h0 := Keeps.refl s0
  unfold State.updAbort
  split
  · exact Keeps.transS h0 (State.updEnd_keeps _ _)
  · exact Keeps.transS h0 (State.updEnd_keeps _ _)
  · exact Keeps.transS (Keeps.transS h0 (State.updFree_keeps _)) (State.updEnd_keeps _ _)
  · exact h0

theorem State.updCmd_keeps (s0 : State) (b1 : Word) (b2 : Nat) : Keeps s0 (State.updCmd s0 b1 b2) := by
  have h0 := Keeps.refl s0
  unfold State.updCmd
  refine keepsS_ite ?_ ?_
  · exact h0
  · split
    · exact Keeps.transS h0 (State.updStart_keeps _ _ _)
    · exact Keeps.transS h0 (State.updStart_keeps _ _ _)
    · exact Keeps.transS h0 (State.updAbort_keeps _)
    · exact h0

theorem State.manScan_keeps (s0 : State) (b1 : Nat) : Keeps1 s0 (State.manScan s0 b1) := by
  have h0 := Keeps.refl s0
  unfold State.manScan
  split
  · rename_i heq
    have hx1 := keeps1_of heq (s0 := s0) (by
        exact Keeps.trans1 h0 (State.rscans_keeps _ _)
      )
    refine keeps1_mk ?_
    exact Keeps.transS hx1 (State.fresh_keeps _)

theorem State.loadAll_keeps (s0 : State) (c : SetCopy) (es : List Nat) : Keeps3 s0 (s0.loadAll c es) := by
  induction es generalizing s0 with
  | nil => exact Keeps.refl s0
  | cons e es ih =>
    unfold State.loadAll
    split
    rename_i ok t heq
    have ht : Keeps s0 t := keeps2_of heq (State.loadEntry_keeps s0 e c)
    refine keeps3_ite ?_ (keeps3_mk ht)
    split
    rename_i d g u heq
    exact keeps3_mk (ht.transS (keeps3_of heq (ih t)))

theorem State.pauseBegin_keeps (s0 : State) : Keeps s0 s0.pauseBegin := by
  unfold State.pauseBegin
  extract_lets -merge +onlyGivenNames src src2 x1
  have h1 : Keeps s0 x1 := (Keeps.refl s0).modes rfl fun l => { l with forced := by simp [x1] }
  clear_value x1
  extract_lets -merge +onlyGivenNames x2
  have h2 : Keeps s0 x2 := ((h1.transS (State.coreHold_keeps _ _)).transS (State.coreHold_keeps _ _)).transS (State.cipDrop_keeps _ _ _)
  clear_value x2
  extract_lets -merge +onlyGivenNames x3
  have h3 : Keeps s0 x3 := h2.transS (State.cipDrop_keeps _ _ _)
  clear_value x3
  extract_lets -merge +onlyGivenNames x4
  have h4 : Keeps s0 x4 := h3.transS (State.commitPut_keeps _ _ _)
  clear_value x4
  have h5 := h4.trans2 (State.attRead_keeps x4)
  revert h5
  generalize x4.attRead = p
  obtain ⟨w, x5⟩ := p
  exact fun h5 => (Keeps.transS h5 (State.attPut_keeps _ _ _ _)).transS (State.setMirror_keeps _)

theorem State.pauseCores_keeps (s0 : State) : Keeps s0 (State.pauseCores s0) := by
  have h0 := Keeps.refl s0
  unfold State.pauseCores
  extract_lets -merge +onlyGivenNames x1
  have hx1 : Keeps s0 x1 := by
    unfold x1
    exact Keeps.transS (Keeps.transS (Keeps.transS h0 (State.setReg_keeps _ _ _)) (State.setReg_keeps _ _ _)) (State.put_keeps _ _ _)
  clear_value x1; revert x1 hx1; refine Keeps.gen fun x1 hx1 => ?_
  refine Keeps.transS ?_ (State.coreStart_keeps _ _ _)
  refine Keeps.transS ?_ (State.coreHold_keeps _ _)
  exact Keeps.upd hx1 rfl

theorem State.pauseFinish_keeps (s0 : State) : Keeps s0 s0.pauseFinish := by
  unfold State.pauseFinish
  extract_lets -merge +onlyGivenNames u x1
  have h1 : Keeps s0 x1 := State.setReg_keeps _ _ _
  clear_value x1
  have hf : ∀ {t : State}, Keeps s0 t → Keeps s0 { t with pwr := { t.pwr with forced := none } } := fun h =>
    h.modes rfl fun l => { h.legal l with forced := by simp }
  refine keepsS_ite ((hf (h1.transS (State.updEnd_keeps _ _))).transS (State.startBegin_keeps _ _ _ _)) ?_
  extract_lets -merge +onlyGivenNames x2
  have h2 : Keeps s0 x2 := h1.transS (State.nvPut_keeps _ _ _)
  clear_value x2
  have h3 := h2.trans2 (State.attRead_keeps x2)
  revert h3
  generalize x2.attRead = p
  obtain ⟨w, x3⟩ := p
  intro h3
  exact ((((hf (Keeps.transS h3 (State.attPut_keeps _ _ _ _))).transS (State.updFree_keeps _)).transS (State.pauseCores_keeps _)).transS
    (State.updEnd_keeps _ _)).transS (State.settle_keeps _) |>.transS (State.bootCheck_keeps _)

theorem State.pauseLoads_keeps (s0 : State) : Keeps s0 (State.pauseLoads s0) := by
  have h0 := Keeps.refl s0
  unfold State.pauseLoads
  split
  · rename_i heq
    have hx1 := keeps3_of heq (s0 := s0) (by
        exact Keeps.trans3 h0 (State.loadAll_keeps _ _ _)
      )
    extract_lets -merge +onlyGivenNames x2
    have hx2 : Keeps s0 x2 := by unfold x2; exact Keeps.transS hx1 (State.commitBack_keeps _)
    clear_value x2; revert x2 hx2; refine Keeps.gen fun x2 hx2 => ?_
    extract_lets -merge +onlyGivenNames x3
    have hx3 : Keeps s0 x3 := by
      unfold x3
      refine foldl_keeps ?_ ?_
      · exact hx2
      · intro x4 x5 hx4
        try beta_reduce
        exact Keeps.trans2 hx4 (State.loadEntry_keeps _ _ _)
    clear_value x3; revert x3 hx3; refine Keeps.gen fun x3 hx3 => ?_
    extract_lets -merge +onlyGivenNames x6
    try clear_value x6
    refine keepsS_ite ?_ ?_
    · exact hx1
    · exact Keeps.upd hx3 rfl

theorem State.pauseRevoke_keeps (s0 : State) : Keeps s0 (State.pauseRevoke s0) := by
  have h0 := Keeps.refl s0
  unfold State.pauseRevoke
  exact keepsS_ite (Keeps.transS h0 (State.put_keeps _ _ _)) h0

theorem State.updHold_keeps (s0 : State) : Keeps s0 (State.updHold s0) := by
  have h0 := Keeps.refl s0
  unfold State.updHold
  extract_lets -merge +onlyGivenNames x1
  try clear_value x1
  extract_lets -merge +onlyGivenNames x2
  try clear_value x2
  extract_lets -merge +onlyGivenNames x3
  have hx3 : Keeps s0 x3 := by unfold x3; exact Keeps.transS h0 (State.holdGroups_keeps _ _)
  clear_value x3; revert x3 hx3; refine Keeps.gen fun x3 hx3 => ?_
  extract_lets -merge +onlyGivenNames x4
  try clear_value x4
  extract_lets -merge +onlyGivenNames x5
  have hx5 : Keeps s0 x5 := by unfold x5; exact keepsS_ite (Keeps.transS hx3 (State.setEng_keeps _ _ _)) hx3
  clear_value x5; revert x5 hx5; refine Keeps.gen fun x5 hx5 => ?_
  extract_lets -merge +onlyGivenNames x6
  try clear_value x6
  exact Keeps.upd hx5 rfl

theorem State.stopAll_keeps (s0 : State) : Keeps s0 (State.stopAll s0) := by
  have h0 := Keeps.refl s0
  unfold State.stopAll
  extract_lets -merge +onlyGivenNames x1
  have hx1 : Keeps s0 x1 := by unfold x1; exact Keeps.transS h0 (State.updHold_keeps _)
  clear_value x1; revert x1 hx1; refine Keeps.gen fun x1 hx1 => ?_
  refine forN_keeps ?_ ?_
  · exact hx1
  · intro x2 x3 hx2
    try beta_reduce
    exact keepsS_ite (keepsS_ite (Keeps.transS hx2 (State.engStop_keeps _ _)) (Keeps.transS hx2 (State.groupStop_keeps _ _))) hx2

theorem State.updQuiet_keeps (s0 : State) : Keeps s0 (State.updQuiet s0) := by
  have h0 := Keeps.refl s0
  unfold State.updQuiet
  refine keepsS_ite ?_ ?_
  · exact h0
  · refine keepsS_ite ?_ ?_
    · exact keepsS_ite (Keeps.transS h0 (State.pauseBegin_keeps _)) h0
    · exact keepsS_ite (Keeps.transS (Keeps.transS h0 (State.stopAll_keeps _)) (State.pauseBegin_keeps _)) h0

theorem State.updLate_keeps (s0 : State) : Keeps s0 (State.updLate s0) := by
  have h0 := Keeps.refl s0
  unfold State.updLate
  extract_lets -merge +onlyGivenNames x1
  have hx1 : Keeps s0 x1 := by unfold x1; exact Keeps.transS h0 (State.updQuiet_keeps _)
  clear_value x1; revert x1 hx1; refine Keeps.gen fun x1 hx1 => ?_
  exact keepsS_ite (Keeps.transS (Keeps.transS hx1 (State.updFree_keeps _)) (State.updEnd_keeps _ _)) hx1

theorem State.updWrite_keeps (s0 : State) : Keeps s0 (State.updWrite s0) := by
  have h0 := Keeps.refl s0
  unfold State.updWrite
  extract_lets -merge +onlyGivenNames x1
  try clear_value x1
  extract_lets -merge +onlyGivenNames x2
  try clear_value x2
  extract_lets -merge +onlyGivenNames x3
  have hx3 : Keeps s0 x3 := by unfold x3; exact Keeps.transS (Keeps.transS h0 (State.nvSee_keeps _ _ _)) (State.copySee_keeps _ _)
  clear_value x3; revert x3 hx3; refine Keeps.gen fun x3 hx3 => ?_
  extract_lets -merge +onlyGivenNames x4
  try clear_value x4
  extract_lets -merge +onlyGivenNames x5
  try clear_value x5
  extract_lets -merge +onlyGivenNames x6
  try clear_value x6
  extract_lets -merge +onlyGivenNames x7
  have hx7 : Keeps s0 x7 := by unfold x7; exact Keeps.transS hx3 (State.copyPut_keeps _ _ _)
  clear_value x7; revert x7 hx7; refine Keeps.gen fun x7 hx7 => ?_
  extract_lets -merge +onlyGivenNames x8
  try clear_value x8
  extract_lets -merge +onlyGivenNames x9
  have hx9 : Keeps s0 x9 := by unfold x9; exact Keeps.transS hx7 (State.commitPut_keeps _ _ _)
  clear_value x9; revert x9 hx9; refine Keeps.gen fun x9 hx9 => ?_
  extract_lets -merge +onlyGivenNames x10
  have hx10 : Keeps s0 x10 := by unfold x10; exact Keeps.upd hx7 rfl
  clear_value x10; revert x10 hx10; refine Keeps.gen fun x10 hx10 => ?_
  refine keepsS_ite ?_ ?_
  · exact Keeps.transS hx3 (State.updEnd_keeps _ _)
  · refine keepsS_ite ?_ ?_
    · split
      · rename_i heq
        have hx11 := keeps2_of heq (s0 := s0) (by
            exact Keeps.trans2 hx9 (State.attRead_keeps _)
          )
        extract_lets -merge +onlyGivenNames x12
        have hx12 : Keeps s0 x12 := by unfold x12; exact Keeps.transS (Keeps.transS hx11 (State.attPut_keeps _ _ _ _)) (State.setMirror_keeps _)
        clear_value x12; revert x12 hx12; refine Keeps.gen fun x12 hx12 => ?_
        refine Keeps.transS ?_ (State.updGo_keeps _)
        exact Keeps.upd hx12 rfl
    · exact keepsS_ite (Keeps.transS hx10 (State.updHold_keeps _)) hx10

theorem State.updVerify_keeps (s0 : State) : Keeps s0 (State.updVerify s0) := by
  have h0 := Keeps.refl s0
  unfold State.updVerify
  extract_lets -merge +onlyGivenNames x1
  try clear_value x1
  extract_lets -merge +onlyGivenNames x2
  try clear_value x2
  refine keepsS_ite ?_ ?_
  · exact Keeps.transS h0 (State.updEnd_keeps _ _)
  · refine keepsS_ite ?_ ?_
    · refine foldl_keeps ?_ ?_
      · exact h0
      · intro x3 x4 hx3
        try beta_reduce
        exact Keeps.transS hx3 (State.rtouch_keeps _ _ _)
    · split
      · rename_i heq
        have hx5 := keeps1_of heq (s0 := s0) (by
            exact Keeps.trans1 h0 (State.manScan_keeps _ _)
          )
        split
        · exact Keeps.transS (Keeps.transS hx5 (State.put_keeps _ _ _)) (State.updEnd_keeps _ _)
        · exact Keeps.transS hx5 (State.updWrite_keeps _)

theorem execActivate_keeps (b0 : Word) (s0 : State) : KeepsO s0 (execActivate b0 s0) := by
  have h0 := Keeps.refl s0
  unfold execActivate
  exact Keeps.transO (Keeps.transS h0 (State.updCmd_keeps _ _ _)) (doneW_keeps _)

theorem execActivateLive_keeps (b0 : Word) (s0 : State) : KeepsO s0 (execActivateLive b0 s0) := by
  have h0 := Keeps.refl s0
  unfold execActivateLive
  exact Keeps.transO (Keeps.transS h0 (State.updCmd_keeps _ _ _)) (doneW_keeps _)

theorem execUpdateAbort_keeps (b0 : Word) (s0 : State) : KeepsO s0 (execUpdateAbort b0 s0) := by
  have h0 := Keeps.refl s0
  unfold execUpdateAbort
  exact Keeps.transO (Keeps.transS h0 (State.updCmd_keeps _ _ _)) (doneW_keeps _)

theorem execUpdateVerifyDone_keeps (b0 : Nat) (s0 : State) : KeepsO s0 (execUpdateVerifyDone b0 s0) := by
  have h0 := Keeps.refl s0
  unfold execUpdateVerifyDone
  extract_lets -merge +onlyGivenNames x1
  have hx1 : Keeps s0 x1 := by unfold x1; exact Keeps.transS h0 (State.at__keeps _ _)
  clear_value x1; revert x1 hx1; refine Keeps.gen fun x1 hx1 => ?_
  refine Keeps.transO ?_ (doneW_keeps _)
  exact keepsS_ite (Keeps.transS hx1 (State.updVerify_keeps _)) hx1

theorem execQuietInstant_keeps (b0 : Nat) (s0 : State) : KeepsO s0 (execQuietInstant b0 s0) := by
  have h0 := Keeps.refl s0
  unfold execQuietInstant
  exact Keeps.transO (Keeps.transS (Keeps.transS h0 (State.at__keeps _ _)) (State.updQuiet_keeps _)) (doneW_keeps _)

theorem execQuiesceSoftExpiry_keeps (b0 : Nat) (s0 : State) : KeepsO s0 (execQuiesceSoftExpiry b0 s0) := by
  have h0 := Keeps.refl s0
  unfold execQuiesceSoftExpiry
  extract_lets -merge +onlyGivenNames x1
  have hx1 : Keeps s0 x1 := by unfold x1; exact Keeps.transS h0 (State.at__keeps _ _)
  clear_value x1; revert x1 hx1; refine Keeps.gen fun x1 hx1 => ?_
  refine Keeps.transO ?_ (doneW_keeps _)
  exact keepsS_ite (Keeps.transS hx1 (State.updHold_keeps _)) hx1

theorem execQuiesceTimeout_keeps (b0 : Nat) (s0 : State) : KeepsO s0 (execQuiesceTimeout b0 s0) := by
  have h0 := Keeps.refl s0
  unfold execQuiesceTimeout
  extract_lets -merge +onlyGivenNames x1
  have hx1 : Keeps s0 x1 := by unfold x1; exact Keeps.transS h0 (State.at__keeps _ _)
  clear_value x1; revert x1 hx1; refine Keeps.gen fun x1 hx1 => ?_
  refine Keeps.transO ?_ (doneW_keeps _)
  exact keepsS_ite (Keeps.transS hx1 (State.updLate_keeps _)) hx1

theorem execPauseEnd_keeps (b0 : Nat) (s0 : State) : KeepsO s0 (execPauseEnd b0 s0) := by
  have h0 := Keeps.refl s0
  unfold execPauseEnd
  extract_lets -merge +onlyGivenNames x1
  have hx1 : Keeps s0 x1 := by unfold x1; exact Keeps.transS h0 (State.at__keeps _ _)
  clear_value x1; revert x1 hx1; refine Keeps.gen fun x1 hx1 => ?_
  refine Keeps.transO ?_ (doneW_keeps _)
  refine keepsS_ite ?_ ?_
  · exact Keeps.transS (Keeps.transS (Keeps.transS hx1 (State.pauseLoads_keeps _)) (State.pauseRevoke_keeps _)) (State.pauseFinish_keeps _)
  · exact hx1

end Sys2Proof.Machine
end

