-- ==== Sys2Proof/Laws/KeepsBus.lean ====
section
/-! SUPPORT. `Keeps` of the pins, the peripherals, the cores, register and memory accesses and the host mailbox: each keeps the queue, the canonical form and legal modes. -/

namespace Sys2Proof.Machine

theorem State.gpioEdge_keeps (s0 : State) (b1 : Nat) (b2 : Bool) : Keeps s0 (State.gpioEdge s0 b1 b2) := by
  have h0 := Keeps.refl s0
  unfold State.gpioEdge
  extract_lets -merge +onlyGivenNames x1
  have hx1 : Keeps s0 x1 := by unfold x1; exact Keeps.transS h0 (State.pinSet_keeps _ _ _)
  clear_value x1; revert x1 hx1; refine Keeps.gen fun x1 hx1 => ?_
  extract_lets -merge +onlyGivenNames x2
  have hx2 : Keeps s0 x2 := by unfold x2; exact Keeps.transS hx1 (State.output_keeps _ _ _)
  clear_value x2; revert x2 hx2; refine Keeps.gen fun x2 hx2 => ?_
  exact keepsS_ite (keepsS_ite (Keeps.transS hx2 (State.postBoth_keeps _ _ _ _)) hx2) hx1

theorem State.tapClock_keeps (s0 : State) (b1 : Bool) (b2 : Bool) : Keeps s0 (State.tapClock s0 b1 b2) := by
  have h0 := Keeps.refl s0
  unfold State.tapClock
  extract_lets -merge +onlyGivenNames x1
  try clear_value x1
  refine keepsS_ite ?_ ?_
  · exact Keeps.upd h0 rfl
  · exact h0

theorem State.vioSet_keeps (s0 : State) (b1 : Bool) : Keeps s0 (State.vioSet s0 b1) := by
  have h0 := Keeps.refl s0
  unfold State.vioSet
  extract_lets -merge +onlyGivenNames x1
  try clear_value x1
  extract_lets -merge +onlyGivenNames x2
  try clear_value x2
  extract_lets -merge +onlyGivenNames x3
  have hx3 : Keeps s0 x3 := by unfold x3; exact Keeps.upd h0 rfl
  clear_value x3; revert x3 hx3; refine Keeps.gen fun x3 hx3 => ?_
  extract_lets -merge +onlyGivenNames x4
  have hx4 : Keeps s0 x4 := by unfold x4; exact keepsS_ite (Keeps.transS hx3 (State.gntLost_keeps _)) hx3
  clear_value x4; revert x4 hx4; refine Keeps.gen fun x4 hx4 => ?_
  extract_lets -merge +onlyGivenNames x5
  try clear_value x5
  extract_lets -merge +onlyGivenNames x6
  try clear_value x6
  refine keepsS_ite ?_ ?_
  · exact hx4
  · exact Keeps.upd hx4 rfl

theorem execGpioEdge_keeps (b0 : Nat) (b1 : Bool) (b2 : Nat) (s0 : State) : KeepsO s0 (execGpioEdge b0 b1 b2 s0) := by
  have h0 := Keeps.refl s0
  unfold execGpioEdge
  extract_lets -merge +onlyGivenNames x1
  have hx1 : Keeps s0 x1 := by unfold x1; exact Keeps.transS h0 (State.at__keeps _ _)
  clear_value x1; revert x1 hx1; refine Keeps.gen fun x1 hx1 => ?_
  refine Keeps.transO ?_ (doneW_keeps _)
  exact keepsS_ite (Keeps.transS hx1 (State.gpioEdge_keeps _ _ _)) hx1

theorem execVioValidChange_keeps (b0 : Bool) (b1 : Nat) (s0 : State) : KeepsO s0 (execVioValidChange b0 b1 s0) := by
  have h0 := Keeps.refl s0
  unfold execVioValidChange
  exact Keeps.transO (Keeps.transS (Keeps.transS h0 (State.at__keeps _ _)) (State.vioSet_keeps _ _)) (doneW_keeps _)

theorem State.spicStart_keeps (s0 : State) (b1 : Nat) (b2 : Word) : Keeps s0 (State.spicStart s0 b1 b2) := by
  have h0 := Keeps.refl s0
  unfold State.spicStart
  extract_lets -merge +onlyGivenNames x1
  try clear_value x1
  exact keepsS_ite (Keeps.transS h0 (State.setSpic_keeps _ _ _)) h0

theorem State.uartPut_keeps (s0 : State) (b1 : Nat) (b2 : Byte) : Keeps s0 (State.uartPut s0 b1 b2) := by
  have h0 := Keeps.refl s0
  unfold State.uartPut
  extract_lets -merge +onlyGivenNames x1
  try clear_value x1
  exact keepsS_ite (Keeps.transS h0 (State.setUart_keeps _ _ _)) h0

theorem State.i2cStart_keeps (s0 : State) (b1 : Nat) (b2 : Word) : Keeps s0 (State.i2cStart s0 b1 b2) := by
  have h0 := Keeps.refl s0
  unfold State.i2cStart
  extract_lets -merge +onlyGivenNames x1
  try clear_value x1
  exact keepsS_ite h0 (Keeps.transS h0 (State.setI2c_keeps _ _ _))

theorem State.sadcStart_keeps (s0 : State) : Keeps s0 (State.sadcStart s0) := by
  have h0 := Keeps.refl s0
  unfold State.sadcStart
  exact keepsS_ite (Keeps.trans2 h0 (State.sadcRequest_keeps _ _)) h0

theorem State.uartPop_keeps (s0 : State) (b1 : Nat) : Keeps s0 (State.uartPop s0 b1) := by
  have h0 := Keeps.refl s0
  unfold State.uartPop
  extract_lets -merge +onlyGivenNames x1
  try clear_value x1
  exact Keeps.transS h0 (State.setUart_keeps _ _ _)

theorem State.i2cMove_keeps (s0 : State) (b1 : Nat) (b2 : List Byte) (b3 : Bool) (b4 : Bool) : Keeps s0 (State.i2cMove s0 b1 b2 b3 b4) := by
  have h0 := Keeps.refl s0
  unfold State.i2cMove
  extract_lets -merge +onlyGivenNames x1
  try clear_value x1
  extract_lets -merge +onlyGivenNames x2
  try clear_value x2
  extract_lets -merge +onlyGivenNames x3
  try clear_value x3
  extract_lets -merge +onlyGivenNames x4
  try clear_value x4
  extract_lets -merge +onlyGivenNames x5
  try clear_value x5
  extract_lets -merge +onlyGivenNames x6
  try clear_value x6
  extract_lets -merge +onlyGivenNames x7
  try clear_value x7
  extract_lets -merge +onlyGivenNames x8
  have hx8 : Keeps s0 x8 := by unfold x8; exact Keeps.transS (Keeps.transS h0 (State.setI2c_keeps _ _ _)) (State.setReg_keeps _ _ _)
  clear_value x8; revert x8 hx8; refine Keeps.gen fun x8 hx8 => ?_
  exact keepsS_ite (Keeps.transS (Keeps.transS hx8 (State.postBoth_keeps _ _ _ _)) (State.fresh_keeps _)) (Keeps.transS hx8 (State.fresh_keeps _))

theorem State.monitor_keeps (s0 : State) (b1 : ℤ) (b2 : Nat) (b3 : Nat) : Keeps s0 (State.monitor s0 b1 b2 b3) := by
  have h0 := Keeps.refl s0
  unfold State.monitor
  extract_lets -merge +onlyGivenNames x1
  try clear_value x1
  extract_lets -merge +onlyGivenNames x2
  try clear_value x2
  extract_lets -merge +onlyGivenNames x3
  have hx3 : Keeps s0 x3 := by unfold x3; exact Keeps.upd h0 rfl
  clear_value x3; revert x3 hx3; refine Keeps.gen fun x3 hx3 => ?_
  extract_lets -merge +onlyGivenNames x4
  have hx4 : Keeps s0 x4 := by unfold x4; exact Keeps.transS (Keeps.transS hx3 (State.setReg_keeps _ _ _)) (State.setReg_keeps _ _ _)
  clear_value x4; revert x4 hx4; refine Keeps.gen fun x4 hx4 => ?_
  extract_lets -merge +onlyGivenNames x5
  have hx5 : Keeps s0 x5 := by unfold x5; exact Keeps.transS hx4 (State.setReg_keeps _ _ _)
  clear_value x5; revert x5 hx5; refine Keeps.gen fun x5 hx5 => ?_
  exact keepsS_ite hx4 (Keeps.transS hx5 (State.postBoth_keeps _ _ _ _))

theorem State.sadcLand_keeps (s0 : State) (b1 : SadcReq) (b2 : BitVec 12) : Keeps s0 (State.sadcLand s0 b1 b2) := by
  have h0 := Keeps.refl s0
  unfold State.sadcLand
  split
  · exact Keeps.transS h0 (State.setReg_keeps _ _ _)
  · extract_lets -merge +onlyGivenNames x1
    try clear_value x1
    exact keepsS_ite (Keeps.transS h0 (State.setCtx_keeps _ _ _ _)) h0

theorem State.sadcEnd_keeps (s0 : State) (b1 : SadcReq) (b2 : BitVec 12) : Keeps s0 (State.sadcEnd s0 b1 b2) := by
  have h0 := Keeps.refl s0
  unfold State.sadcEnd
  extract_lets -merge +onlyGivenNames x1
  try clear_value x1
  extract_lets -merge +onlyGivenNames x2
  have hx2 : Keeps s0 x2 := by unfold x2; exact Keeps.upd h0 rfl
  clear_value x2; revert x2 hx2; refine Keeps.gen fun x2 hx2 => ?_
  extract_lets -merge +onlyGivenNames x3
  have hx3 : Keeps s0 x3 := by unfold x3; exact Keeps.transS (Keeps.transS hx2 (State.sadcLand_keeps _ _ _)) (State.output_keeps _ _ _)
  clear_value x3; revert x3 hx3; refine Keeps.gen fun x3 hx3 => ?_
  exact Keeps.transS (Keeps.transS (Keeps.transS hx3 (State.postBoth_keeps _ _ _ _)) (State.fresh_keeps _)) (State.sadcServe_keeps _)

theorem State.spicMove_keeps (s0 : State) (b1 : Nat) (b2 : List Byte) : Keeps s0 (State.spicMove s0 b1 b2) := by
  have h0 := Keeps.refl s0
  unfold State.spicMove
  extract_lets -merge +onlyGivenNames x1
  try clear_value x1
  extract_lets -merge +onlyGivenNames x2
  try clear_value x2
  extract_lets -merge +onlyGivenNames x3
  try clear_value x3
  extract_lets -merge +onlyGivenNames x4
  try clear_value x4
  extract_lets -merge +onlyGivenNames x5
  try clear_value x5
  extract_lets -merge +onlyGivenNames x6
  have hx6 : Keeps s0 x6 := by unfold x6; exact Keeps.transS h0 (State.setSpic_keeps _ _ _)
  clear_value x6; revert x6 hx6; refine Keeps.gen fun x6 hx6 => ?_
  extract_lets -merge +onlyGivenNames x7
  have hx7 : Keeps s0 x7 := by unfold x7; exact keepsS_ite (Keeps.transS hx6 (State.setReg_keeps _ _ _)) hx6
  clear_value x7; revert x7 hx7; refine Keeps.gen fun x7 hx7 => ?_
  exact keepsS_ite (Keeps.transS (Keeps.transS hx7 (State.postBoth_keeps _ _ _ _)) (State.fresh_keeps _)) (Keeps.transS hx7 (State.fresh_keeps _))

theorem State.tmrExpire_keeps (s0 : State) (b1 : Nat) (b2 : Nat) : Keeps s0 (State.tmrExpire s0 b1 b2) := by
  have h0 := Keeps.refl s0
  unfold State.tmrExpire
  extract_lets -merge +onlyGivenNames x1
  try clear_value x1
  extract_lets -merge +onlyGivenNames x2
  have hx2 : Keeps s0 x2 := by unfold x2; exact Keeps.transS h0 (State.setTmr_keeps _ _ _)
  clear_value x2; revert x2 hx2; refine Keeps.gen fun x2 hx2 => ?_
  extract_lets -merge +onlyGivenNames x3
  have hx3 : Keeps s0 x3 := by unfold x3; exact Keeps.transS hx2 (State.output_keeps _ _ _)
  clear_value x3; revert x3 hx3; refine Keeps.gen fun x3 hx3 => ?_
  exact keepsS_ite (Keeps.transS (Keeps.transS hx3 (State.postBoth_keeps _ _ _ _)) (State.fresh_keeps _)) hx3

theorem State.uartPost_keeps (s0 : State) (b1 : Nat) : Keeps s0 (State.uartPost s0 b1) := by
  have h0 := Keeps.refl s0
  unfold State.uartPost
  exact Keeps.transS h0 (State.postBoth_keeps _ _ _ _)

theorem State.uartIdle_keeps (s0 : State) (b1 : Nat) : Keeps s0 (State.uartIdle s0 b1) := by
  have h0 := Keeps.refl s0
  unfold State.uartIdle
  extract_lets -merge +onlyGivenNames x1
  try clear_value x1
  exact Keeps.transS (Keeps.transS h0 (State.setUart_keeps _ _ _)) (State.uartPost_keeps _ _)

theorem State.uartRx_keeps (s0 : State) (b1 : Nat) (b2 : Byte) (b3 : Bool) (b4 : Bool) (b5 : Bool) : Keeps s0 (State.uartRx s0 b1 b2 b3 b4 b5) := by
  have h0 := Keeps.refl s0
  unfold State.uartRx
  extract_lets -merge +onlyGivenNames x1
  try clear_value x1
  extract_lets -merge +onlyGivenNames x2
  try clear_value x2
  extract_lets -merge +onlyGivenNames x3
  try clear_value x3
  extract_lets -merge +onlyGivenNames x4
  try clear_value x4
  extract_lets -merge +onlyGivenNames x5
  have hx5 : Keeps s0 x5 := by unfold x5; exact Keeps.transS (Keeps.transS h0 (State.setUart_keeps _ _ _)) (State.setReg_keeps _ _ _)
  clear_value x5; revert x5 hx5; refine Keeps.gen fun x5 hx5 => ?_
  exact keepsS_ite (Keeps.transS hx5 (State.uartPost_keeps _ _)) hx5

theorem execUartRxByte_keeps (b0 : Nat) (b1 : Byte) (b2 : Bool) (b3 : Bool) (b4 : Bool) (b5 : Nat) (s0 : State) : KeepsO s0 (execUartRxByte b0 b1 b2 b3 b4 b5 s0) := by
  have h0 := Keeps.refl s0
  unfold execUartRxByte
  extract_lets -merge +onlyGivenNames x1
  have hx1 : Keeps s0 x1 := by unfold x1; exact Keeps.transS h0 (State.at__keeps _ _)
  clear_value x1; revert x1 hx1; refine Keeps.gen fun x1 hx1 => ?_
  refine Keeps.transO ?_ (doneW_keeps _)
  exact keepsS_ite (Keeps.transS hx1 (State.uartRx_keeps _ _ _ _ _ _)) hx1

theorem execUartDataWrite_keeps (b0 : Nat) (b1 : Byte) (s0 : State) : KeepsO s0 (execUartDataWrite b0 b1 s0) := by
  have h0 := Keeps.refl s0
  unfold execUartDataWrite
  refine Keeps.transO ?_ (doneW_keeps _)
  exact keepsS_ite (Keeps.transS h0 (State.uartPut_keeps _ _ _)) h0

theorem execUartTxIdle_keeps (b0 : Nat) (b1 : Nat) (s0 : State) : KeepsO s0 (execUartTxIdle b0 b1 s0) := by
  have h0 := Keeps.refl s0
  unfold execUartTxIdle
  extract_lets -merge +onlyGivenNames x1
  have hx1 : Keeps s0 x1 := by unfold x1; exact Keeps.transS h0 (State.at__keeps _ _)
  clear_value x1; revert x1 hx1; refine Keeps.gen fun x1 hx1 => ?_
  refine Keeps.transO ?_ (doneW_keeps _)
  exact keepsS_ite (Keeps.transS (Keeps.transS hx1 (State.uartIdle_keeps _ _)) (State.rebootStep_keeps _)) hx1

theorem execSpicTransferStart_keeps (b0 : Nat) (b1 : Word) (s0 : State) : KeepsO s0 (execSpicTransferStart b0 b1 s0) := by
  have h0 := Keeps.refl s0
  unfold execSpicTransferStart
  refine Keeps.transO ?_ (doneW_keeps _)
  exact keepsS_ite (Keeps.transS h0 (State.spicStart_keeps _ _ _)) h0

theorem execSpicTransferEnd_keeps (b0 : Nat) (b1 : List Byte) (b2 : Nat) (s0 : State) : KeepsO s0 (execSpicTransferEnd b0 b1 b2 s0) := by
  have h0 := Keeps.refl s0
  unfold execSpicTransferEnd
  extract_lets -merge +onlyGivenNames x1
  have hx1 : Keeps s0 x1 := by unfold x1; exact Keeps.transS h0 (State.at__keeps _ _)
  clear_value x1; revert x1 hx1; refine Keeps.gen fun x1 hx1 => ?_
  refine Keeps.transO ?_ (doneW_keeps _)
  exact keepsS_ite (Keeps.transS hx1 (State.spicMove_keeps _ _ _)) hx1

theorem execI2cTransferStart_keeps (b0 : Nat) (b1 : Word) (s0 : State) : KeepsO s0 (execI2cTransferStart b0 b1 s0) := by
  have h0 := Keeps.refl s0
  unfold execI2cTransferStart
  refine Keeps.transO ?_ (doneW_keeps _)
  exact keepsS_ite (Keeps.transS h0 (State.i2cStart_keeps _ _ _)) h0

theorem execI2cTransferEnd_keeps (b0 : Nat) (b1 : List Byte) (b2 : Bool) (b3 : Bool) (b4 : Nat) (s0 : State) : KeepsO s0 (execI2cTransferEnd b0 b1 b2 b3 b4 s0) := by
  have h0 := Keeps.refl s0
  unfold execI2cTransferEnd
  extract_lets -merge +onlyGivenNames x1
  have hx1 : Keeps s0 x1 := by unfold x1; exact Keeps.transS h0 (State.at__keeps _ _)
  clear_value x1; revert x1 hx1; refine Keeps.gen fun x1 hx1 => ?_
  refine Keeps.transO ?_ (doneW_keeps _)
  exact keepsS_ite (Keeps.transS hx1 (State.i2cMove_keeps _ _ _ _ _)) hx1

theorem execSadcConversionDone_keeps (b0 : BitVec 12) (b1 : Nat) (s0 : State) : KeepsO s0 (execSadcConversionDone b0 b1 s0) := by
  have h0 := Keeps.refl s0
  unfold execSadcConversionDone
  extract_lets -merge +onlyGivenNames x1
  have hx1 : Keeps s0 x1 := by unfold x1; exact Keeps.transS h0 (State.at__keeps _ _)
  clear_value x1; revert x1 hx1; refine Keeps.gen fun x1 hx1 => ?_
  refine Keeps.transO ?_ (doneW_keeps _)
  split
  · exact Keeps.transS hx1 (State.sadcEnd_keeps _ _ _)
  · exact hx1

theorem execMonitorUpdate_keeps (b0 : ℤ) (b1 : Nat) (b2 : Nat) (b3 : Nat) (s0 : State) : KeepsO s0 (execMonitorUpdate b0 b1 b2 b3 s0) := by
  have h0 := Keeps.refl s0
  unfold execMonitorUpdate
  extract_lets -merge +onlyGivenNames x1
  have hx1 : Keeps s0 x1 := by unfold x1; exact Keeps.transS h0 (State.at__keeps _ _)
  clear_value x1; revert x1 hx1; refine Keeps.gen fun x1 hx1 => ?_
  refine Keeps.transO ?_ (doneW_keeps _)
  exact keepsS_ite (Keeps.transS hx1 (State.monitor_keeps _ _ _ _)) hx1

theorem execTmrStart_keeps (b0 : Nat) (s0 : State) : KeepsO s0 (execTmrStart b0 s0) := by
  have h0 := Keeps.refl s0
  unfold execTmrStart
  refine Keeps.transO ?_ (doneW_keeps _)
  exact keepsS_ite (Keeps.transS h0 (State.tmrStartAt_keeps _ _)) h0

theorem execTmrStop_keeps (b0 : Nat) (s0 : State) : KeepsO s0 (execTmrStop b0 s0) := by
  have h0 := Keeps.refl s0
  unfold execTmrStop
  refine Keeps.transO ?_ (doneW_keeps _)
  exact keepsS_ite (Keeps.transS h0 (State.tmrStopAt_keeps _ _)) h0

theorem execTmrExpiry_keeps (b0 : Nat) (b1 : Nat) (s0 : State) : KeepsO s0 (execTmrExpiry b0 b1 s0) := by
  have h0 := Keeps.refl s0
  unfold execTmrExpiry
  extract_lets -merge +onlyGivenNames x1
  have hx1 : Keeps s0 x1 := by unfold x1; exact Keeps.transS h0 (State.at__keeps _ _)
  clear_value x1; revert x1 hx1; refine Keeps.gen fun x1 hx1 => ?_
  refine Keeps.transO ?_ (doneW_keeps _)
  split
  · exact keepsS_ite (Keeps.transS hx1 (State.tmrExpire_keeps _ _ _)) hx1
  · exact hx1

theorem execSadcStart_keeps (s0 : State) : KeepsO s0 (execSadcStart s0) := by
  have h0 := Keeps.refl s0
  unfold execSadcStart
  refine Keeps.transO ?_ (doneW_keeps _)
  exact keepsS_ite (Keeps.transS h0 (State.sadcStart_keeps _)) h0

theorem State.trigMark_keeps (s0 : State) (b1 : CoreId) (b2 : Nat) : Keeps s0 (State.trigMark s0 b1 b2) := by
  have h0 := Keeps.refl s0
  unfold State.trigMark
  extract_lets -merge +onlyGivenNames x1
  try clear_value x1
  extract_lets -merge +onlyGivenNames x2
  try clear_value x2
  extract_lets -merge +onlyGivenNames x3
  try clear_value x3
  exact Keeps.transS h0 (State.setCore_keeps _ _ _)

theorem State.coreHalt_keeps (s0 : State) (b1 : CoreId) (b2 : Nat) : Keeps s0 (State.coreHalt s0 b1 b2) := by
  have h0 := Keeps.refl s0
  unfold State.coreHalt
  extract_lets -merge +onlyGivenNames x1
  try clear_value x1
  refine Keeps.transS ?_ (State.setCore_keeps _ _ _)
  exact Keeps.upd h0 rfl

theorem State.trap_keeps (s0 : State) (b1 : CoreId) (b2 : Nat) (b3 : Word) : Keeps s0 (State.trap s0 b1 b2 b3) := by
  have h0 := Keeps.refl s0
  unfold State.trap
  extract_lets -merge +onlyGivenNames x1
  try clear_value x1
  refine keepsS_ite ?_ ?_
  · refine Keeps.transS ?_ (State.setCore_keeps _ _ _)
    exact Keeps.upd h0 rfl
  · exact h0

theorem State.csrWrite_keeps (s0 : State) (b1 : CoreId) (b2 : Nat) (b3 : Word) : KeepsP s0 (State.csrWrite s0 b1 b2 b3) := by
  have h0 := Keeps.refl s0
  unfold State.csrWrite
  extract_lets -merge +onlyGivenNames x1
  try clear_value x1
  split
  · refine keepsP_some ?_
    exact Keeps.transS h0 (State.setCore_keeps _ _ _)
  · refine keepsP_some ?_
    exact Keeps.transS h0 (State.setCore_keeps _ _ _)
  · refine keepsP_some ?_
    exact Keeps.transS h0 (State.setCore_keeps _ _ _)
  · refine keepsP_map fun x => ?_
    try beta_reduce
    exact Keeps.transS h0 (State.setCore_keeps _ _ _)

theorem State.timeRead_keeps (s0 : State) (b1 : CoreId) : Keeps s0 (State.timeRead s0 b1) := by
  have h0 := Keeps.refl s0
  unfold State.timeRead
  extract_lets -merge +onlyGivenNames x1
  try clear_value x1
  exact Keeps.transS h0 (State.setCore_keeps _ _ _)

theorem State.debugHalt_keeps (s0 : State) (b1 : CoreId) : Keeps s0 (State.debugHalt s0 b1) := by
  have h0 := Keeps.refl s0
  unfold State.debugHalt
  refine keepsS_ite ?_ ?_
  · exact h0
  · exact Keeps.transS (Keeps.transS (Keeps.transS h0 (State.hsDebug_keeps _)) (State.resumeCore_keeps _ _)) (State.coreHalt_keeps _ _ _)

theorem State.dmactive_keeps (s0 : State) (b1 : Bool) : Keeps s0 (State.dmactive s0 b1) := by
  have h0 := Keeps.refl s0
  unfold State.dmactive
  extract_lets -merge +onlyGivenNames x1
  try clear_value x1
  extract_lets -merge +onlyGivenNames x2
  try clear_value x2
  refine keepsS_ite ?_ ?_
  · exact h0
  · refine keepsS_ite ?_ ?_
    · refine Keeps.transS ?_ (State.hsDebug_keeps _)
      exact Keeps.upd h0 rfl
    · exact Keeps.upd h0 rfl

theorem State.illegal_keeps (s0 : State) (b1 : CoreId) : Keeps s0 (State.illegal s0 b1) := by
  have h0 := Keeps.refl s0
  unfold State.illegal
  extract_lets -merge +onlyGivenNames x1
  try clear_value x1
  exact Keeps.transS (Keeps.transS (Keeps.transS h0 (State.fresh_keeps _)) (State.setCore_keeps _ _ _)) (State.trap_keeps _ _ _ _)

theorem execFenceI_keeps (b0 : CoreId) (s0 : State) : KeepsO s0 (execFenceI b0 s0) := by
  have h0 := Keeps.refl s0
  unfold execFenceI
  extract_lets -merge +onlyGivenNames x1
  try clear_value x1
  exact Keeps.transO (Keeps.transS h0 (State.setCore_keeps _ _ _)) (done_keeps _)

theorem execIllegalCsr_keeps (b0 : CoreId) (b1 : BitVec 12) (s0 : State) : KeepsO s0 (execIllegalCsr b0 b1 s0) := by
  have h0 := Keeps.refl s0
  unfold execIllegalCsr
  refine Keeps.transO ?_ (done_keeps _)
  exact keepsS_ite (Keeps.transS h0 (State.illegal_keeps _ _)) h0

theorem execTimeCsrRead_keeps (b0 : CoreId) (b1 : Nat) (s0 : State) : KeepsO s0 (execTimeCsrRead b0 b1 s0) := by
  have h0 := Keeps.refl s0
  unfold execTimeCsrRead
  exact Keeps.transO (Keeps.transS (Keeps.transS h0 (State.at__keeps _ _)) (State.timeRead_keeps _ _)) (doneW_keeps _)

theorem execDcinv_keeps (b0 : CoreId) (b1 : BitVec 4) (s0 : State) : KeepsO s0 (execDcinv b0 b1 s0) := by
  have h0 := Keeps.refl s0
  unfold execDcinv
  exact Keeps.transO (Keeps.transS h0 (State.setCore_keeps _ _ _)) (done_keeps _)

theorem execIcinv_keeps (b0 : CoreId) (b1 : BitVec 4) (s0 : State) : KeepsO s0 (execIcinv b0 b1 s0) := by
  have h0 := Keeps.refl s0
  unfold execIcinv
  exact Keeps.transO (Keeps.transS h0 (State.setCore_keeps _ _ _)) (done_keeps _)

theorem execDebugHaltRequest_keeps (b0 : CoreId) (s0 : State) : KeepsO s0 (execDebugHaltRequest b0 s0) := by
  have h0 := Keeps.refl s0
  unfold execDebugHaltRequest
  refine Keeps.transO ?_ (doneW_keeps _)
  exact keepsS_ite (Keeps.transS h0 (State.debugHalt_keeps _ _)) h0

theorem execDmcontrolDmactive_keeps (b0 : Bool) (s0 : State) : KeepsO s0 (execDmcontrolDmactive b0 s0) := by
  have h0 := Keeps.refl s0
  unfold execDmcontrolDmactive
  exact Keeps.transO (Keeps.transS h0 (State.dmactive_keeps _ _)) (doneW_keeps _)

theorem State.trigStop_keeps (s0 : State) (b1 : Agent) (b2 : CoreId) (b3 : Nat) (b4 : Nat) : Keeps s0 (State.trigStop s0 b1 b2 b3 b4) := by
  have h0 := Keeps.refl s0
  unfold State.trigStop
  extract_lets -merge +onlyGivenNames x1
  try clear_value x1
  extract_lets -merge +onlyGivenNames x2
  have hx2 : Keeps s0 x2 := by unfold x2; exact Keeps.transS h0 (State.trigMark_keeps _ _ _)
  clear_value x2; revert x2 hx2; refine Keeps.gen fun x2 hx2 => ?_
  refine keepsS_ite ?_ ?_
  · exact Keeps.transS (Keeps.transS hx2 (State.coreHalt_keeps _ _ _)) (State.respond_keeps _ _ _)
  · exact Keeps.transS (Keeps.transS hx2 (State.respond_keeps _ _ _)) (State.trap_keeps _ _ _ _)

theorem State.refuse_keeps (s0 : State) (b1 : Agent) (b2 : AccKind) (b3 : Nat) : Keeps s0 (State.refuse s0 b1 b2 b3) := by
  have h0 := Keeps.refl s0
  unfold State.refuse
  extract_lets -merge +onlyGivenNames x1
  have hx1 : Keeps s0 x1 := by unfold x1; exact Keeps.transS h0 (State.respond_keeps _ _ _)
  clear_value x1; revert x1 hx1; refine Keeps.gen fun x1 hx1 => ?_
  split
  · exact Keeps.transS hx1 (State.trap_keeps _ _ _ _)
  · exact hx1

theorem State.storeCaches_keeps (s0 : State) (b1 : Agent) (b2 : Nat) (b3 : List Byte) : Keeps s0 (State.storeCaches s0 b1 b2 b3) := by
  have h0 := Keeps.refl s0
  unfold State.storeCaches
  extract_lets -merge +onlyGivenNames x1
  try clear_value x1
  exact Keeps.upd h0 rfl

theorem State.ramStore_keeps (s0 : State) (b1 : Agent) (b2 : Nat) (b3 : List Byte) : Keeps s0 (State.ramStore s0 b1 b2 b3) := by
  have h0 := Keeps.refl s0
  unfold State.ramStore
  extract_lets -merge +onlyGivenNames x1
  have hx1 : Keeps s0 x1 := by
    unfold x1
    refine Keeps.transS ?_ (State.muddy_keeps _ _ _)
    exact Keeps.transS (Keeps.transS (Keeps.transS h0 (State.wakeRange_keeps _ _ _)) (State.setBytes_keeps _ _ _)) (State.storeCaches_keeps _ _ _ _)
  clear_value x1; revert x1 hx1; refine Keeps.gen fun x1 hx1 => ?_
  extract_lets -merge +onlyGivenNames x2
  have hx2 : Keeps s0 x2 := by
    unfold x2
    split
    · exact Keeps.transS hx1 (State.carryThru_keeps _ _)
    · exact hx1
  clear_value x2; revert x2 hx2; refine Keeps.gen fun x2 hx2 => ?_
  refine keepsS_ite ?_ ?_
  · exact Keeps.transS h0 (State.refuse_keeps _ _ _ _)
  · exact keepsS_ite (Keeps.transS h0 (State.respond_keeps _ _ _)) (Keeps.transS hx2 (State.respond_keeps _ _ _))

theorem State.ballastCe_keeps (s0 : State) : Keeps s0 (State.ballastCe s0) := by
  have h0 := Keeps.refl s0
  unfold State.ballastCe
  exact Keeps.transS (Keeps.transS h0 (State.count_keeps _ _)) (State.put_keeps _ _ _)

theorem State.ballastStore_keeps (s0 : State) (b1 : Agent) (b2 : Nat) (b3 : List Byte) (b4 : Ecc) : Keeps s0 (State.ballastStore s0 b1 b2 b3 b4) := by
  have h0 := Keeps.refl s0
  unfold State.ballastStore
  refine keepsS_ite ?_ ?_
  · exact Keeps.transS h0 (State.refuse_keeps _ _ _ _)
  · refine keepsS_ite ?_ ?_
    · exact Keeps.transS (Keeps.transS h0 (State.nvPut_keeps _ _ _)) (State.respond_keeps _ _ _)
    · split
      · exact Keeps.transS (Keeps.transS h0 (State.ballastUe_keeps _ _)) (State.refuse_keeps _ _ _ _)
      · exact Keeps.transS (Keeps.transS (Keeps.transS h0 (State.ballastCe_keeps _)) (State.setBytes_keeps _ _ _)) (State.respond_keeps _ _ _)
      · exact Keeps.transS (Keeps.transS h0 (State.setBytes_keeps _ _ _)) (State.respond_keeps _ _ _)

theorem State.stepStore_keeps (s0 : State) (b1 : Agent) (b2 : Nat) (b3 : Word) : Keeps s0 (State.stepStore s0 b1 b2 b3) := by
  have h0 := Keeps.refl s0
  unfold State.stepStore
  extract_lets -merge +onlyGivenNames x1
  try clear_value x1
  extract_lets -merge +onlyGivenNames x2
  have hx2 : Keeps s0 x2 := by unfold x2; exact keepsS_ite (Keeps.transS h0 (State.put_keeps _ _ _)) (Keeps.transS h0 (State.setWord_keeps _ _ _))
  clear_value x2; revert x2 hx2; refine Keeps.gen fun x2 hx2 => ?_
  exact Keeps.transS hx2 (State.respond_keeps _ _ _)

theorem State.padctl_keeps (s0 : State) (b1 : Word) : Keeps s0 (State.padctl s0 b1) := by
  have h0 := Keeps.refl s0
  unfold State.padctl
  exact keepsS_ite (Keeps.transS h0 (State.padRelease_keeps _)) h0

theorem State.wakeatWrite_keeps (s0 : State) (b1 : Nat) (b2 : Word) : Keeps s0 (State.wakeatWrite s0 b1 b2) := by
  have h0 := Keeps.refl s0
  unfold State.wakeatWrite
  extract_lets -merge +onlyGivenNames x1
  have hx1 : Keeps s0 x1 := by unfold x1; exact Keeps.transS h0 (State.writeReg_keeps _ _ _)
  clear_value x1; revert x1 hx1; refine Keeps.gen fun x1 hx1 => ?_
  extract_lets -merge +onlyGivenNames x2
  exact Keeps.upd hx1 rfl

theorem State.cfgCmd_keeps (s0 : State) (b1 : Nat) : Keeps s0 (State.cfgCmd s0 b1) := by
  have h0 := Keeps.refl s0
  unfold State.cfgCmd
  split
  · exact Keeps.transS h0 (State.switchDue_keeps _ _ _)
  · exact Keeps.transS h0 (State.schedAt_keeps _)
  · exact Keeps.transS h0 (State.schedCancel_keeps _)
  · exact h0

theorem State.sysWrite_keeps (s0 : State) (b1 : Nat) (b2 : Word) : KeepsP s0 (State.sysWrite s0 b1 b2) := by
  have h0 := Keeps.refl s0
  unfold State.sysWrite
  refine keepsP_ite ?_ ?_
  · refine keepsP_some ?_
    exact Keeps.transS h0 (State.swrst_keeps _ _ _)
  · refine keepsP_ite ?_ ?_
    · refine keepsP_some ?_
      exact Keeps.transS h0 (State.c1ctl_keeps _ _)
    · refine keepsP_ite ?_ ?_
      · refine keepsP_some ?_
        exact Keeps.transS h0 (State.bootGood_keeps _ _)
      · refine keepsP_ite ?_ ?_
        · refine keepsP_some ?_
          exact Keeps.transS h0 (State.updCmd_keeps _ _ _)
        · refine keepsP_ite ?_ ?_
          · refine keepsP_some ?_
            exact Keeps.transS h0 (State.safeExit_keeps _ _)
          · refine keepsP_ite ?_ ?_
            · refine keepsP_some ?_
              exact Keeps.transS h0 (State.padctl_keeps _ _)
            · refine keepsP_ite ?_ ?_
              · refine keepsP_some ?_
                exact Keeps.transS h0 (State.pwrCmd_keeps _ _ _ _)
              · refine keepsP_ite ?_ ?_
                · refine keepsP_some ?_
                  exact Keeps.transS h0 (State.wakeatWrite_keeps _ _ _)
                · refine keepsP_ite ?_ ?_
                  · refine keepsP_some ?_
                    exact Keeps.transS h0 (State.cfgCmd_keeps _ _)
                  · refine keepsP_ite ?_ ?_
                    · refine keepsP_some ?_
                      exact Keeps.transS h0 (State.wignClear_keeps _ _)
                    · refine keepsP_ite ?_ ?_
                      · refine keepsP_some ?_
                        refine Keeps.transS ?_ (State.stuckCheck_keeps _)
                        exact Keeps.transS h0 (State.writeReg_keeps _ _ _)
                      · refine keepsP_ite ?_ ?_
                        · refine keepsP_some ?_
                          exact Keeps.transS h0 (State.rtcCmd_keeps _ _ _)
                        · refine keepsP_ite ?_ ?_
                          · refine keepsP_some ?_
                            exact Keeps.transS h0 (State.tbCtl_keeps _ _)
                          · refine keepsP_ite ?_ ?_
                            · refine keepsP_some ?_
                              exact Keeps.transS h0 (State.pubsw_keeps _ _)
                            · refine keepsP_map fun x => ?_
                              try beta_reduce
                              exact Keeps.transS h0 (State.linecfg_keeps _ _ _)

theorem State.flcWrite_keeps (s0 : State) (b1 : Word) : Keeps s0 (State.flcWrite s0 b1) := by
  have h0 := Keeps.refl s0
  unfold State.flcWrite
  extract_lets -merge +onlyGivenNames x1
  try clear_value x1
  exact keepsS_ite (Keeps.transS h0 (State.flcCmd_keeps _ _ _)) h0

theorem State.ciphCtl_keeps (s0 : State) (b1 : Word) : Keeps s0 (State.ciphCtl s0 b1) := by
  have h0 := Keeps.refl s0
  unfold State.ciphCtl
  extract_lets -merge +onlyGivenNames x1
  have hx1 : Keeps s0 x1 := by unfold x1; exact keepsS_ite (Keeps.transS h0 (State.almClear_keeps _)) h0
  clear_value x1; revert x1 hx1; refine Keeps.gen fun x1 hx1 => ?_
  exact Keeps.transS hx1 (State.writeReg_keeps _ _ _)

theorem State.almenWrite_keeps (s0 : State) (b1 : Word) : Keeps s0 (State.almenWrite s0 b1) := by
  have h0 := Keeps.refl s0
  unfold State.almenWrite
  exact keepsS_ite h0 (Keeps.transS h0 (State.writeReg_keeps _ _ _))

theorem State.keyCmd_keeps (s0 : State) (b1 : Nat) : Keeps s0 (State.keyCmd s0 b1) := by
  have h0 := Keeps.refl s0
  unfold State.keyCmd
  split
  · exact Keeps.transS h0 (State.keyCommit_keeps _)
  · exact Keeps.transS h0 (State.keyErase_keeps _)
  · exact Keeps.transS h0 (State.keyEraseAll_keeps _)
  · exact h0

theorem State.qctlWrite_keeps (s0 : State) (b1 : Nat) (b2 : Word) : Keeps s0 (State.qctlWrite s0 b1 b2) := by
  have h0 := Keeps.refl s0
  unfold State.qctlWrite
  extract_lets -merge +onlyGivenNames x1
  have hx1 : Keeps s0 x1 := by unfold x1; exact Keeps.transS h0 (State.writeReg_keeps _ _ _)
  clear_value x1; revert x1 hx1; refine Keeps.gen fun x1 hx1 => ?_
  exact keepsS_ite (Keeps.transS hx1 (State.cipFlush_keeps _ _)) hx1

theorem State.coreUnitWrite_keeps (s0 : State) (b1 : Nat) (b2 : Word) : KeepsP s0 (State.coreUnitWrite s0 b1 b2) := by
  have h0 := Keeps.refl s0
  unfold State.coreUnitWrite
  refine keepsP_ite ?_ ?_
  · refine keepsP_some ?_
    exact Keeps.transS h0 (State.icolEoiWrite_keeps _ _)
  · refine keepsP_ite ?_ ?_
    · refine keepsP_some ?_
      exact Keeps.transS h0 (State.icolEoiWrite_keeps _ _)
    · refine keepsP_ite ?_ ?_
      · refine keepsP_some ?_
        exact Keeps.transS h0 (State.swpost_keeps _ _ _)
      · refine keepsP_ite ?_ ?_
        · refine keepsP_some ?_
          exact Keeps.transS h0 (State.swpost_keeps _ _ _)
        · refine keepsP_ite ?_ ?_
          · refine keepsP_some ?_
            exact Keeps.transS h0 (State.flcWrite_keeps _ _)
          · refine keepsP_ite ?_ ?_
            · refine keepsP_some ?_
              exact Keeps.transS h0 (State.tcmdWrite_keeps _ _)
            · refine keepsP_ite ?_ ?_
              · refine keepsP_some ?_
                exact Keeps.transS h0 (State.ciphCtl_keeps _ _)
              · refine keepsP_ite ?_ ?_
                · refine keepsP_some ?_
                  exact Keeps.transS h0 (State.almenWrite_keeps _ _)
                · refine keepsP_ite ?_ ?_
                  · refine keepsP_some ?_
                    exact Keeps.transS h0 (State.kselWrite_keeps _ _)
                  · refine keepsP_ite ?_ ?_
                    · refine keepsP_some ?_
                      exact Keeps.transS h0 (State.keyCmd_keeps _ _)
                    · refine keepsP_ite ?_ ?_
                      · refine keepsP_some ?_
                        exact Keeps.transS h0 (State.cipSubmit_keeps _ _ _)
                      · refine keepsP_ite ?_ ?_
                        · refine keepsP_some ?_
                          exact Keeps.transS h0 (State.cipSubmit_keeps _ _ _)
                        · refine keepsP_ite ?_ ?_
                          · refine keepsP_some ?_
                            exact Keeps.transS h0 (State.qctlWrite_keeps _ _ _)
                          · refine keepsP_ite ?_ ?_
                            · refine keepsP_some ?_
                              exact Keeps.transS h0 (State.qctlWrite_keeps _ _ _)
                            · refine keepsP_map fun x => ?_
                              try beta_reduce
                              exact Keeps.transS h0 (State.kdataWrite_keeps _ _ _)

theorem State.rfeCmd_keeps (s0 : State) (b1 : Nat) : Keeps s0 (State.rfeCmd s0 b1) := by
  have h0 := Keeps.refl s0
  unfold State.rfeCmd
  split
  · exact Keeps.transS h0 (State.bgStart_keeps _ _)
  · exact Keeps.transS h0 (State.bgStart_keeps _ _)
  · exact Keeps.transS h0 (State.bgStop_keeps _)
  · exact h0

theorem State.ldCmd_keeps (s0 : State) (b1 : Word) : Keeps s0 (State.ldCmd s0 b1) := by
  have h0 := Keeps.refl s0
  unfold State.ldCmd
  split
  · exact Keeps.transS h0 (State.ldrLoad_keeps _ _)
  · exact Keeps.transS h0 (State.ldrAbort_keeps _)
  · exact h0

theorem State.linkCmd_keeps (s0 : State) (b1 : Nat) : Keeps s0 (State.linkCmd s0 b1) := by
  have h0 := Keeps.refl s0
  unfold State.linkCmd
  split
  · exact Keeps.transS h0 (State.evcSet_keeps _)
  · exact Keeps.transS h0 (State.evcCancel_keeps _)
  · exact h0

theorem State.radioWrite_keeps (s0 : State) (b1 : Nat) (b2 : Word) : KeepsP s0 (State.radioWrite s0 b1 b2) := by
  have h0 := Keeps.refl s0
  unfold State.radioWrite
  refine keepsP_ite ?_ ?_
  · refine keepsP_some ?_
    exact Keeps.transS h0 (State.rfeCmd_keeps _ _)
  · refine keepsP_ite ?_ ?_
    · refine keepsP_some ?_
      exact Keeps.transS h0 (State.holdGroups_keeps _ _)
    · refine keepsP_ite ?_ ?_
      · refine keepsP_some ?_
        exact Keeps.transS h0 (State.releaseGroups_keeps _ _)
      · refine keepsP_ite ?_ ?_
        · refine keepsP_some ?_
          exact Keeps.transS h0 (State.e16Write_keeps _ _)
        · refine keepsP_ite ?_ ?_
          · refine keepsP_some ?_
            exact Keeps.transS h0 (State.crst_keeps _ _)
          · refine keepsP_ite ?_ ?_
            · refine keepsP_some ?_
              exact Keeps.transS h0 (State.ldCmd_keeps _ _)
            · refine keepsP_ite ?_ ?_
              · refine keepsP_some ?_
                exact Keeps.transS h0 (State.txqBase_keeps _ _)
              · refine keepsP_ite ?_ ?_
                · refine keepsP_some ?_
                  exact Keeps.transS h0 (State.linkCmd_keeps _ _)
                · refine keepsP_ite ?_ ?_
                  · refine keepsP_some ?_
                    exact Keeps.transS h0 (State.adjWrite_keeps _ _)
                  · refine keepsP_ite ?_ ?_
                    · refine keepsP_some ?_
                      exact Keeps.transS h0 (State.rtake_keeps _ _ _)
                    · refine keepsP_ite ?_ ?_
                      · refine keepsP_some ?_
                        exact Keeps.transS h0 (State.rtake_keeps _ _ _)
                      · exact keepsP_none

theorem State.gpioClr_keeps (s0 : State) (b1 : Nat) (b2 : Word) : Keeps s0 (State.gpioClr s0 b1 b2) := by
  have h0 := Keeps.refl s0
  unfold State.gpioClr
  exact Keeps.transS h0 (State.setReg_keeps _ _ _)

theorem State.wdtCtl_keeps (s0 : State) (b1 : Nat) (b2 : Word) : Keeps s0 (State.wdtCtl s0 b1 b2) := by
  have h0 := Keeps.refl s0
  unfold State.wdtCtl
  exact keepsS_ite h0 (Keeps.transS h0 (State.writeReg_keeps _ _ _))

theorem State.rxDone_keeps (s0 : State) : Keeps s0 (State.rxDone s0) := by
  have h0 := Keeps.refl s0
  unfold State.rxDone
  exact keepsS_ite h0 (Keeps.transS h0 (State.rxFree_keeps _))

theorem State.txGo_keeps (s0 : State) : Keeps s0 (State.txGo s0) := by
  have h0 := Keeps.refl s0
  unfold State.txGo
  exact keepsS_ite h0 (Keeps.transS (Keeps.transS h0 (State.txPend_keeps _ _)) (State.fresh_keeps _))

theorem State.txDrop_keeps (s0 : State) : Keeps s0 (State.txDrop s0) := by
  have h0 := Keeps.refl s0
  unfold State.txDrop
  extract_lets -merge +onlyGivenNames x1
  try clear_value x1
  exact Keeps.upd h0 rfl

theorem State.txCancel_keeps (s0 : State) : Keeps s0 (State.txCancel s0) := by
  have h0 := Keeps.refl s0
  unfold State.txCancel
  extract_lets -merge +onlyGivenNames x1
  try clear_value x1
  extract_lets -merge +onlyGivenNames x2
  have hx2 : Keeps s0 x2 := by unfold x2; exact Keeps.transS h0 (State.txDrop_keeps _)
  clear_value x2; revert x2 hx2; refine Keeps.gen fun x2 hx2 => ?_
  extract_lets -merge +onlyGivenNames x3
  try clear_value x3
  exact Keeps.upd hx2 rfl

theorem State.hostCmd_keeps (s0 : State) (b1 : Nat) : Keeps s0 (State.hostCmd s0 b1) := by
  have h0 := Keeps.refl s0
  unfold State.hostCmd
  split
  · exact Keeps.transS h0 (State.rxDone_keeps _)
  · exact Keeps.transS h0 (State.txGo_keeps _)
  · exact Keeps.transS h0 (State.txCancel_keeps _)
  · exact h0

theorem State.tmrCmd_keeps (s0 : State) (b1 : Nat) (b2 : Nat) : Keeps s0 (State.tmrCmd s0 b1 b2) := by
  have h0 := Keeps.refl s0
  unfold State.tmrCmd
  split
  · exact keepsS_ite (Keeps.transS h0 (State.tmrStartAt_keeps _ _)) h0
  · exact Keeps.transS h0 (State.tmrStopAt_keeps _ _)
  · exact h0

theorem State.txbufWrite_keeps (s0 : State) (b1 : Nat) (b2 : Word) : Keeps s0 (State.txbufWrite s0 b1 b2) := by
  have h0 := Keeps.refl s0
  unfold State.txbufWrite
  exact keepsS_ite (Keeps.transS h0 (State.hostErr_keeps _ _)) (Keeps.transS h0 (State.setReg_keeps _ _ _))

theorem State.periphWrite_keeps (s0 : State) (b1 : Nat) (b2 : Word) : KeepsP s0 (State.periphWrite s0 b1 b2) := by
  have h0 := Keeps.refl s0
  unfold State.periphWrite
  extract_lets -merge +onlyGivenNames x1
  try clear_value x1
  refine keepsP_ite ?_ ?_
  · refine keepsP_some ?_
    exact Keeps.transS h0 (State.setReg_keeps _ _ _)
  · refine keepsP_ite ?_ ?_
    · refine keepsP_some ?_
      exact Keeps.transS h0 (State.gpioClr_keeps _ _ _)
    · refine keepsP_ite ?_ ?_
      · refine keepsP_some ?_
        exact Keeps.transS h0 (State.gpioClr_keeps _ _ _)
      · refine keepsP_ite ?_ ?_
        · refine keepsP_some ?_
          exact Keeps.transS h0 (State.spicStart_keeps _ _ _)
        · refine keepsP_ite ?_ ?_
          · refine keepsP_some ?_
            exact Keeps.transS h0 (State.spicStart_keeps _ _ _)
          · refine keepsP_ite ?_ ?_
            · refine keepsP_some ?_
              exact Keeps.upd h0 rfl
            · refine keepsP_ite ?_ ?_
              · refine keepsP_some ?_
                exact Keeps.upd h0 rfl
              · refine keepsP_ite ?_ ?_
                · refine keepsP_some ?_
                  exact Keeps.transS h0 (State.uartPut_keeps _ _ _)
                · refine keepsP_ite ?_ ?_
                  · refine keepsP_some ?_
                    exact Keeps.transS h0 (State.uartPut_keeps _ _ _)
                  · refine keepsP_ite ?_ ?_
                    · refine keepsP_some ?_
                      exact Keeps.transS h0 (State.i2cStart_keeps _ _ _)
                    · refine keepsP_ite ?_ ?_
                      · refine keepsP_some ?_
                        exact Keeps.transS h0 (State.i2cStart_keeps _ _ _)
                      · refine keepsP_ite ?_ ?_
                        · refine keepsP_some ?_
                          exact Keeps.upd h0 rfl
                        · refine keepsP_ite ?_ ?_
                          · refine keepsP_some ?_
                            exact Keeps.upd h0 rfl
                          · refine keepsP_ite ?_ ?_
                            · refine keepsP_some ?_
                              exact keepsS_ite (Keeps.transS h0 (State.sadcStart_keeps _)) h0
                            · refine keepsP_ite ?_ ?_
                              · refine keepsP_some ?_
                                exact Keeps.transS h0 (State.wdtCtl_keeps _ _ _)
                              · refine keepsP_ite ?_ ?_
                                · refine keepsP_some ?_
                                  exact Keeps.transS h0 (State.wdtCtl_keeps _ _ _)
                                · refine keepsP_ite ?_ ?_
                                  · refine keepsP_some ?_
                                    exact Keeps.transS h0 (State.wdtKick_keeps _ _ _)
                                  · refine keepsP_ite ?_ ?_
                                    · refine keepsP_some ?_
                                      exact Keeps.transS h0 (State.wdtKick_keeps _ _ _)
                                    · refine keepsP_ite ?_ ?_
                                      · refine keepsP_some ?_
                                        exact Keeps.transS h0 (State.hostCmd_keeps _ _)
                                      · split
                                        · refine keepsP_some ?_
                                          exact Keeps.transS h0 (State.tmrCmd_keeps _ _ _)
                                        · refine keepsP_some ?_
                                          exact Keeps.transS h0 (State.txbufWrite_keeps _ _ _)
                                        · exact keepsP_none

theorem State.regWrite_keeps (s0 : State) (b1 : Nat) (b2 : Word) : Keeps s0 (State.regWrite s0 b1 b2) := by
  have h0 := Keeps.refl s0
  unfold State.regWrite
  refine keepsS_ite ?_ ?_
  · exact Keeps.transS h0 (State.windowWrite_keeps _ _ _ _)
  · refine keepsS_ite ?_ ?_
    · exact Keeps.transS h0 (State.windowWrite_keeps _ _ _ _)
    · refine keepsP_getD ?_ ?_
      · refine keepsP_ite ?_ ?_
        · exact Keeps.transP h0 (State.sysWrite_keeps _ _ _)
        · refine keepsP_ite ?_ ?_
          · exact Keeps.transP h0 (State.coreUnitWrite_keeps _ _ _)
          · exact keepsP_ite (Keeps.transP h0 (State.radioWrite_keeps _ _ _)) (Keeps.transP h0 (State.periphWrite_keeps _ _ _))
      · exact Keeps.transS h0 (State.writeReg_keeps _ _ _)

theorem State.storeAt_keeps (s0 : State) (b1 : Agent) (b2 : Width) (b3 : Word) (b4 : Word) (b5 : Ecc) : Keeps s0 (State.storeAt s0 b1 b2 b3 b4 b5) := by
  have h0 := Keeps.refl s0
  unfold State.storeAt
  extract_lets -merge +onlyGivenNames x1
  try clear_value x1
  extract_lets -merge +onlyGivenNames x2
  try clear_value x2
  split
  · exact Keeps.transS h0 (State.ramStore_keeps _ _ _ _)
  · exact Keeps.transS h0 (State.ramStore_keeps _ _ _ _)
  · exact Keeps.transS h0 (State.ballastStore_keeps _ _ _ _ _)
  · exact Keeps.transS h0 (State.stepStore_keeps _ _ _ _)
  · refine Keeps.transS ?_ (State.respond_keeps _ _ _)
    exact Keeps.transS h0 (State.regWrite_keeps _ _ _)
  · refine Keeps.transS ?_ (State.respond_keeps _ _ _)
    exact Keeps.transS h0 (State.regWrite_keeps _ _ _)
  · refine Keeps.transS ?_ (State.respond_keeps _ _ _)
    exact Keeps.transS h0 (State.regWrite_keeps _ _ _)
  · exact Keeps.transS h0 (State.refuse_keeps _ _ _ _)

theorem State.serve_keeps (s0 : State) (b1 : Agent) (b2 : AccKind) (b3 : Nat) (b4 : List Byte) : Keeps s0 (State.serve s0 b1 b2 b3 b4) := by
  have h0 := Keeps.refl s0
  unfold State.serve
  extract_lets -merge +onlyGivenNames x1
  have hx1 : Keeps s0 x1 := by
    unfold x1
    split
    · exact Keeps.transS h0 (State.setCore_keeps _ _ _)
    · exact h0
  clear_value x1; revert x1 hx1; refine Keeps.gen fun x1 hx1 => ?_
  exact Keeps.transS hx1 (State.respond_keeps _ _ _)

theorem State.ramRead_keeps (s0 : State) (b1 : Agent) (b2 : AccKind) (b3 : Nat) (b4 : Nat) : Keeps s0 (State.ramRead s0 b1 b2 b3 b4) := by
  have h0 := Keeps.refl s0
  unfold State.ramRead
  extract_lets -merge +onlyGivenNames x1
  have hx1 : Keeps s0 x1 := by unfold x1; exact Keeps.transS h0 (State.wakeRange_keeps _ _ _)
  clear_value x1; revert x1 hx1; refine Keeps.gen fun x1 hx1 => ?_
  refine keepsS_ite ?_ ?_
  · exact Keeps.transS h0 (State.refuse_keeps _ _ _ _)
  · exact keepsS_ite (Keeps.transS hx1 (State.serve_keeps _ _ _ _ _)) (Keeps.transS hx1 (State.respond_keeps _ _ _))

theorem State.ballastRead_keeps (s0 : State) (b1 : Agent) (b2 : Nat) (b3 : Nat) (b4 : Ecc) : Keeps s0 (State.ballastRead s0 b1 b2 b3 b4) := by
  have h0 := Keeps.refl s0
  unfold State.ballastRead
  refine keepsS_ite ?_ ?_
  · exact Keeps.transS h0 (State.respond_keeps _ _ _)
  · split
    · exact Keeps.transS (Keeps.transS h0 (State.ballastUe_keeps _ _)) (State.refuse_keeps _ _ _ _)
    · exact Keeps.transS (Keeps.transS h0 (State.ballastCe_keeps _)) (State.respond_keeps _ _ _)
    · exact Keeps.transS h0 (State.respond_keeps _ _ _)

theorem State.flashLoad_keeps (s0 : State) (b1 : Nat) (b2 : Nat) (b3 : Ecc) : Keeps1 s0 (State.flashLoad s0 b1 b2 b3) := by
  have h0 := Keeps.refl s0
  unfold State.flashLoad
  extract_lets -merge +onlyGivenNames x1
  have hx1 : Keeps s0 x1 := by unfold x1; exact Keeps.transS h0 (State.flashEcc_keeps _ _ _)
  clear_value x1; revert x1 hx1; refine Keeps.gen fun x1 hx1 => ?_
  extract_lets -merge +onlyGivenNames x2
  try clear_value x2
  refine keeps1_ite ?_ ?_
  · refine keeps1_mk ?_
    exact hx1
  · refine keeps1_mk ?_
    refine Keeps.transS ?_ (State.flashEcc_keeps _ _ _)
    exact Keeps.upd hx1 rfl

theorem State.flashServe_keeps (s0 : State) (b1 : Agent) (b2 : AccKind) (b3 : Nat) (b4 : Nat) (b5 : Nat) (b6 : Ecc) : Keeps s0 (State.flashServe s0 b1 b2 b3 b4 b5 b6) := by
  have h0 := Keeps.refl s0
  unfold State.flashServe
  refine keepsS_ite ?_ ?_
  · refine keepsS_ite ?_ ?_
    · exact Keeps.transS h0 (State.refuse_keeps _ _ _ _)
    · exact Keeps.transS (Keeps.transS h0 (State.put_keeps _ _ _)) (State.respond_keeps _ _ _)
  · split
    · rename_i heq
      have hx1 := keeps1_of heq (s0 := s0) (by
          exact Keeps.trans1 h0 (State.flashLoad_keeps _ _ _ _)
        )
      exact keepsS_ite (Keeps.transS hx1 (State.serve_keeps _ _ _ _ _)) (Keeps.transS hx1 (State.refuse_keeps _ _ _ _))

theorem State.flashHold_keeps (s0 : State) (b1 : Agent) (b2 : AccKind) (b3 : Width) (b4 : Word) (b5 : Ecc) : Keeps s0 (State.flashHold s0 b1 b2 b3 b4 b5) := by
  have h0 := Keeps.refl s0
  unfold State.flashHold
  extract_lets -merge +onlyGivenNames x1
  try clear_value x1
  refine Keeps.transS ?_ (State.respond_keeps _ _ _)
  exact Keeps.upd h0 rfl

theorem State.flashRead_keeps (s0 : State) (b1 : Agent) (b2 : AccKind) (b3 : Width) (b4 : Word) (b5 : Ecc) : Keeps s0 (State.flashRead s0 b1 b2 b3 b4 b5) := by
  have h0 := Keeps.refl s0
  unfold State.flashRead
  extract_lets -merge +onlyGivenNames x1
  try clear_value x1
  extract_lets -merge +onlyGivenNames x2
  try clear_value x2
  split
  · exact Keeps.transS h0 (State.flashServe_keeps _ _ _ _ _ _ _)
  · extract_lets -merge +onlyGivenNames x3
    try clear_value x3
    extract_lets -merge +onlyGivenNames x4
    have hx4 : Keeps s0 x4 := by unfold x4; exact Keeps.upd h0 rfl
    clear_value x4; revert x4 hx4; refine Keeps.gen fun x4 hx4 => ?_
    refine keepsS_ite ?_ ?_
    · exact Keeps.transS h0 (State.flashServe_keeps _ _ _ _ _ _ _)
    · refine keepsS_ite ?_ ?_
      · exact Keeps.transS h0 (State.flashHold_keeps _ _ _ _ _ _)
      · refine keepsS_ite ?_ ?_
        · exact keepsS_ite (Keeps.transS hx4 (State.flashServe_keeps _ _ _ _ _ _ _)) (Keeps.transS hx4 (State.flashHold_keeps _ _ _ _ _ _))
        · exact Keeps.transS h0 (State.flashServe_keeps _ _ _ _ _ _ _)

theorem State.nowLatch_keeps (s0 : State) : Keeps s0 (State.nowLatch s0) := by
  have h0 := Keeps.refl s0
  unfold State.nowLatch
  exact Keeps.transS (Keeps.transS h0 (State.setReg_keeps _ _ _)) (State.setReg_keeps _ _ _)

theorem State.evcLatch_keeps (s0 : State) : Keeps s0 (State.evcLatch s0) := by
  have h0 := Keeps.refl s0
  unfold State.evcLatch
  exact Keeps.transS h0 (State.setReg_keeps _ _ _)

theorem State.sstartLatch_keeps (s0 : State) : Keeps s0 (State.sstartLatch s0) := by
  have h0 := Keeps.refl s0
  unfold State.sstartLatch
  exact Keeps.transS h0 (State.setReg_keeps _ _ _)

theorem State.secLatch_keeps (s0 : State) : Keeps s0 (State.secLatch s0) := by
  have h0 := Keeps.refl s0
  unfold State.secLatch
  exact Keeps.transS (Keeps.transS h0 (State.setReg_keeps _ _ _)) (State.setReg_keeps _ _ _)

theorem State.nowdateLatch_keeps (s0 : State) : Keeps s0 (State.nowdateLatch s0) := by
  have h0 := Keeps.refl s0
  unfold State.nowdateLatch
  exact Keeps.transS (Keeps.transS h0 (State.setReg_keeps _ _ _)) (State.setReg_keeps _ _ _)

theorem State.rcClear_keeps (s0 : State) (b1 : Nat) : Keeps s0 (State.rcClear s0 b1) := by
  have h0 := Keeps.refl s0
  unfold State.rcClear
  split
  · exact keepsS_ite h0 (Keeps.transS h0 (State.setReg_keeps _ _ _))
  · exact h0

theorem State.readEffect_keeps (s0 : State) (b1 : Nat) : Keeps s0 (State.readEffect s0 b1) := by
  have h0 := Keeps.refl s0
  unfold State.readEffect
  extract_lets -merge +onlyGivenNames x1
  refine keepsS_ite ?_ ?_
  · exact Keeps.transS h0 (State.nowLatch_keeps _)
  · refine keepsS_ite ?_ ?_
    · exact Keeps.transS h0 (State.evcLatch_keeps _)
    · refine keepsS_ite ?_ ?_
      · exact Keeps.transS h0 (State.sstartLatch_keeps _)
      · refine keepsS_ite ?_ ?_
        · exact Keeps.transS h0 (State.secLatch_keeps _)
        · refine keepsS_ite ?_ ?_
          · exact Keeps.transS h0 (State.nowdateLatch_keeps _)
          · refine keepsS_ite ?_ ?_
            · exact Keeps.trans2 h0 (State.icolTakeRead_keeps _ _)
            · refine keepsS_ite ?_ ?_
              · exact Keeps.trans2 h0 (State.icolTakeRead_keeps _ _)
              · refine keepsS_ite ?_ ?_
                · exact Keeps.upd h0 rfl
                · refine keepsS_ite ?_ ?_
                  · exact Keeps.transS h0 (State.uartPop_keeps _ _)
                  · refine keepsS_ite ?_ ?_
                    · exact Keeps.transS h0 (State.uartPop_keeps _ _)
                    · refine keepsS_ite ?_ ?_
                      · exact Keeps.upd h0 rfl
                      · refine keepsS_ite ?_ ?_
                        · exact Keeps.upd h0 rfl
                        · refine keepsS_ite ?_ ?_
                          · exact Keeps.upd h0 rfl
                          · refine keepsS_ite ?_ ?_
                            · exact Keeps.upd h0 rfl
                            · refine keepsS_ite ?_ ?_
                              · exact Keeps.transS (Keeps.trans2 h0 (State.trngTake_keeps _ _)) (State.fresh_keeps _)
                              · exact Keeps.transS h0 (State.rcClear_keeps _ _)

theorem State.readAt_keeps (s0 : State) (b1 : Agent) (b2 : AccKind) (b3 : Width) (b4 : Word) (b5 : Ecc) : Keeps s0 (State.readAt s0 b1 b2 b3 b4 b5) := by
  have h0 := Keeps.refl s0
  unfold State.readAt
  extract_lets -merge +onlyGivenNames x1
  try clear_value x1
  split
  · split
    · exact Keeps.transS (Keeps.transS h0 (State.fresh_keeps _)) (State.respond_keeps _ _ _)
    · exact Keeps.transS (Keeps.transS h0 (State.fresh_keeps _)) (State.serve_keeps _ _ _ _ _)
  · split
    · exact Keeps.transS (Keeps.transS h0 (State.fresh_keeps _)) (State.respond_keeps _ _ _)
    · exact Keeps.transS (Keeps.transS h0 (State.fresh_keeps _)) (State.ramRead_keeps _ _ _ _ _)
  · exact Keeps.transS h0 (State.ramRead_keeps _ _ _ _ _)
  · exact Keeps.transS h0 (State.ballastRead_keeps _ _ _ _ _)
  · exact Keeps.transS h0 (State.respond_keeps _ _ _)
  · exact Keeps.transS h0 (State.refuse_keeps _ _ _ _)
  · split
    · exact Keeps.transS (Keeps.transS h0 (State.fresh_keeps _)) (State.respond_keeps _ _ _)
    · exact Keeps.transS (Keeps.transS h0 (State.fresh_keeps _)) (State.flashRead_keeps _ _ _ _ _ _)
  · split
    · exact Keeps.transS (Keeps.transS h0 (State.fresh_keeps _)) (State.respond_keeps _ _ _)
    · exact Keeps.transS (Keeps.transS h0 (State.fresh_keeps _)) (State.flashRead_keeps _ _ _ _ _ _)
  · exact Keeps.transS (Keeps.transS h0 (State.respond_keeps _ _ _)) (State.readEffect_keeps _ _)
  · exact Keeps.transS h0 (State.respond_keeps _ _ _)
  · exact Keeps.transS h0 (State.respond_keeps _ _ _)

theorem State.access_keeps (s0 : State) (b1 : Agent) (b2 : AccKind) (b3 : Width) (b4 : Word) (b5 : Word) (b6 : Ecc) : Keeps s0 (State.access s0 b1 b2 b3 b4 b5 b6) := by
  have h0 := Keeps.refl s0
  unfold State.access
  split
  · exact Keeps.transS h0 (State.trigStop_keeps _ _ _ _ _)
  · refine keepsS_ite ?_ ?_
    · exact Keeps.transS h0 (State.refuse_keeps _ _ _ _)
    · split
      · exact Keeps.transS h0 (State.storeAt_keeps _ _ _ _ _ _)
      · exact Keeps.transS h0 (State.readAt_keeps _ _ _ _ _ _)

theorem State.flashRelease_keeps (s0 : State) : Keeps s0 (State.flashRelease s0) := by
  have h0 := Keeps.refl s0
  unfold State.flashRelease
  extract_lets -merge +onlyGivenNames x1
  try clear_value x1
  extract_lets -merge +onlyGivenNames x2
  try clear_value x2
  refine foldl_keeps ?_ ?_
  · exact Keeps.upd h0 rfl
  · intro x3 x4 hx3
    try beta_reduce
    exact Keeps.transS hx3 (State.flashRead_keeps _ _ _ _ _ _)

theorem State.readOut_keeps (s0 : State) (b1 : Agent) (b2 : Nat) : Keeps s0 (State.readOut s0 b1 b2) := by
  have h0 := Keeps.refl s0
  unfold State.readOut
  exact Keeps.transS (Keeps.transS h0 (State.respond_keeps _ _ _)) (State.rcClear_keeps _ _)

theorem execMemoryAccess_keeps (b0 : Agent) (b1 : AccKind) (b2 : Width) (b3 : Word) (b4 : Word) (b5 : Ecc) (b6 : Nat) (s0 : State) : KeepsO s0 (execMemoryAccess b0 b1 b2 b3 b4 b5 b6 s0) := by
  have h0 := Keeps.refl s0
  unfold execMemoryAccess
  exact Keeps.transO (Keeps.transS (Keeps.transS h0 (State.at__keeps _ _)) (State.access_keeps _ _ _ _ _ _ _)) (doneW_keeps _)

theorem execStepMemoryStore_keeps (b0 : Agent) (b1 : Word) (b2 : Word) (s0 : State) : KeepsO s0 (execStepMemoryStore b0 b1 b2 s0) := by
  have h0 := Keeps.refl s0
  unfold execStepMemoryStore
  refine Keeps.transO ?_ (doneW_keeps _)
  exact keepsS_ite (Keeps.transS h0 (State.access_keeps _ _ _ _ _ _ _)) h0

theorem execRegisterWrite_keeps (b0 : Agent) (b1 : Word) (b2 : Word) (s0 : State) : KeepsO s0 (execRegisterWrite b0 b1 b2 s0) := by
  have h0 := Keeps.refl s0
  unfold execRegisterWrite
  refine Keeps.transO ?_ (doneW_keeps _)
  exact keepsS_ite (Keeps.transS h0 (State.access_keeps _ _ _ _ _ _ _)) h0

theorem execCoexCntRead_keeps (b0 : Agent) (s0 : State) : KeepsO s0 (execCoexCntRead b0 s0) := by
  have h0 := Keeps.refl s0
  unfold execCoexCntRead
  exact Keeps.transO (Keeps.transS h0 (State.readOut_keeps _ _ _)) (doneW_keeps _)

theorem execEnvLerrRead_keeps (b0 : Agent) (b1 : Nat) (s0 : State) : KeepsO s0 (execEnvLerrRead b0 b1 s0) := by
  have h0 := Keeps.refl s0
  unfold execEnvLerrRead
  exact Keeps.transO (Keeps.transS h0 (State.readOut_keeps _ _ _)) (doneW_keeps _)

theorem execTbaseNowRead_keeps (b0 : Agent) (s0 : State) : KeepsO s0 (execTbaseNowRead b0 s0) := by
  have h0 := Keeps.refl s0
  unfold execTbaseNowRead
  exact Keeps.transO (Keeps.transS (Keeps.transS h0 (State.readOut_keeps _ _ _)) (State.nowLatch_keeps _)) (doneW_keeps _)

theorem execLinkEvcRead_keeps (b0 : Agent) (s0 : State) : KeepsO s0 (execLinkEvcRead b0 s0) := by
  have h0 := Keeps.refl s0
  unfold execLinkEvcRead
  exact Keeps.transO (Keeps.transS (Keeps.transS h0 (State.readOut_keeps _ _ _)) (State.evcLatch_keeps _)) (doneW_keeps _)

theorem execLinkSstartRead_keeps (b0 : Agent) (s0 : State) : KeepsO s0 (execLinkSstartRead b0 s0) := by
  have h0 := Keeps.refl s0
  unfold execLinkSstartRead
  exact Keeps.transO (Keeps.transS (Keeps.transS h0 (State.readOut_keeps _ _ _)) (State.sstartLatch_keeps _)) (doneW_keeps _)

theorem execLinkDwstatRead_keeps (b0 : Agent) (s0 : State) : KeepsO s0 (execLinkDwstatRead b0 s0) := by
  have h0 := Keeps.refl s0
  unfold execLinkDwstatRead
  exact Keeps.transO (Keeps.transS h0 (State.readOut_keeps _ _ _)) (doneW_keeps _)

theorem execLinkRputRead_keeps (b0 : Agent) (b1 : CoreId) (s0 : State) : KeepsO s0 (execLinkRputRead b0 b1 s0) := by
  have h0 := Keeps.refl s0
  unfold execLinkRputRead
  exact Keeps.transO (Keeps.transS h0 (State.readOut_keeps _ _ _)) (doneW_keeps _)

theorem execMemcBcntRead_keeps (b0 : Agent) (s0 : State) : KeepsO s0 (execMemcBcntRead b0 s0) := by
  have h0 := Keeps.refl s0
  unfold execMemcBcntRead
  exact Keeps.transO (Keeps.transS h0 (State.readOut_keeps _ _ _)) (doneW_keeps _)

theorem execFlcEcntRead_keeps (b0 : Agent) (s0 : State) : KeepsO s0 (execFlcEcntRead b0 s0) := by
  have h0 := Keeps.refl s0
  unfold execFlcEcntRead
  exact Keeps.transO (Keeps.transS h0 (State.readOut_keeps _ _ _)) (doneW_keeps _)

theorem execFlcRrstatRead_keeps (b0 : Agent) (s0 : State) : KeepsO s0 (execFlcRrstatRead b0 s0) := by
  have h0 := Keeps.refl s0
  unfold execFlcRrstatRead
  exact Keeps.transO (Keeps.transS h0 (State.readOut_keeps _ _ _)) (doneW_keeps _)

theorem execEvlLoopRead_keeps (b0 : Agent) (s0 : State) : KeepsO s0 (execEvlLoopRead b0 s0) := by
  have h0 := Keeps.refl s0
  unfold execEvlLoopRead
  exact Keeps.transO (Keeps.transS h0 (State.readOut_keeps _ _ _)) (doneW_keeps _)

theorem execEvlCoalRead_keeps (b0 : Agent) (b1 : Nat) (s0 : State) : KeepsO s0 (execEvlCoalRead b0 b1 s0) := by
  have h0 := Keeps.refl s0
  unfold execEvlCoalRead
  exact Keeps.transO (Keeps.transS h0 (State.readOut_keeps _ _ _)) (doneW_keeps _)

theorem execIcolTake_keeps (b0 : Agent) (b1 : CoreId) (s0 : State) : KeepsO s0 (execIcolTake b0 b1 s0) := by
  have h0 := Keeps.refl s0
  unfold execIcolTake
  split
  · rename_i heq
    have hx1 := keeps2_of heq (s0 := s0) (by
        exact Keeps.trans2 h0 (State.icolTakeRead_keeps _ _)
      )
    exact Keeps.transO (Keeps.transS hx1 (State.respond_keeps _ _ _)) (doneW_keeps _)

theorem execIcolOvfcntRead_keeps (b0 : Agent) (b1 : CoreId) (s0 : State) : KeepsO s0 (execIcolOvfcntRead b0 b1 s0) := by
  have h0 := Keeps.refl s0
  unfold execIcolOvfcntRead
  exact Keeps.transO (Keeps.transS h0 (State.readOut_keeps _ _ _)) (doneW_keeps _)

theorem execPwrHovstatRead_keeps (b0 : Agent) (s0 : State) : KeepsO s0 (execPwrHovstatRead b0 s0) := by
  have h0 := Keeps.refl s0
  unfold execPwrHovstatRead
  exact Keeps.transO (Keeps.transS h0 (State.readOut_keeps _ _ _)) (doneW_keeps _)

theorem execPwrHovtimeRead_keeps (b0 : Agent) (s0 : State) : KeepsO s0 (execPwrHovtimeRead b0 s0) := by
  have h0 := Keeps.refl s0
  unfold execPwrHovtimeRead
  extract_lets -merge +onlyGivenNames x1
  have hx1 : Keeps s0 x1 := by unfold x1; exact Keeps.transS h0 (State.readOut_keeps _ _ _)
  clear_value x1; revert x1 hx1; refine Keeps.gen fun x1 hx1 => ?_
  extract_lets -merge +onlyGivenNames x2
  refine Keeps.transO ?_ (doneW_keeps _)
  exact Keeps.upd hx1 rfl

theorem execRtcSecRead_keeps (b0 : Agent) (b1 : Nat) (s0 : State) : KeepsO s0 (execRtcSecRead b0 b1 s0) := by
  have h0 := Keeps.refl s0
  unfold execRtcSecRead
  refine Keeps.transO ?_ (doneW_keeps _)
  exact Keeps.transS (Keeps.transS (Keeps.transS h0 (State.at__keeps _ _)) (State.readOut_keeps _ _ _)) (State.secLatch_keeps _)

theorem execRtcNowdateRead_keeps (b0 : Agent) (s0 : State) : KeepsO s0 (execRtcNowdateRead b0 s0) := by
  have h0 := Keeps.refl s0
  unfold execRtcNowdateRead
  exact Keeps.transO (Keeps.transS (Keeps.transS h0 (State.readOut_keeps _ _ _)) (State.nowdateLatch_keeps _)) (doneW_keeps _)

theorem execUartDataRead_keeps (b0 : Agent) (b1 : Nat) (s0 : State) : KeepsO s0 (execUartDataRead b0 b1 s0) := by
  have h0 := Keeps.refl s0
  unfold execUartDataRead
  exact Keeps.transO (Keeps.transS (Keeps.transS h0 (State.respond_keeps _ _ _)) (State.uartPop_keeps _ _)) (doneW_keeps _)

theorem execSadcResultRead_keeps (b0 : Agent) (s0 : State) : KeepsO s0 (execSadcResultRead b0 s0) := by
  have h0 := Keeps.refl s0
  unfold execSadcResultRead
  exact Keeps.transO (Keeps.transS h0 (State.readOut_keeps _ _ _)) (doneW_keeps _)

theorem State.cmdErr_keeps (s0 : State) (b1 : Nat) : Keeps s0 (State.cmdErr s0 b1) := by
  have h0 := Keeps.refl s0
  unfold State.cmdErr
  extract_lets -merge +onlyGivenNames x1
  try clear_value x1
  exact Keeps.upd h0 rfl

theorem State.gprPut_keeps (s0 : State) (b1 : CoreId) (b2 : Nat) (b3 : Word) : Keeps s0 (State.gprPut s0 b1 b2 b3) := by
  have h0 := Keeps.refl s0
  unfold State.gprPut
  extract_lets -merge +onlyGivenNames x1
  try clear_value x1
  exact Keeps.transS h0 (State.setCore_keeps _ _ _)

theorem State.hartMap_keeps (s0 : State) (b1 : CoreId) (b2 : Hart → Hart) : Keeps s0 (State.hartMap s0 b1 b2) := by
  have h0 := Keeps.refl s0
  unfold State.hartMap
  extract_lets -merge +onlyGivenNames x1
  try clear_value x1
  exact Keeps.transS h0 (State.setCore_keeps _ _ _)

theorem State.insDone_keeps (s0 : State) (b1 : CoreId) (b2 : Word) : Keeps2 s0 (State.insDone s0 b1 b2) := by
  have h0 := Keeps.refl s0
  unfold State.insDone
  refine keeps2_mk ?_
  exact Keeps.transS h0 (State.hartMap_keeps _ _ _)

theorem State.insBad_keeps (s0 : State) : Keeps2 s0 (State.insBad s0) := by
  have h0 := Keeps.refl s0
  unfold State.insBad
  refine keeps2_mk ?_
  exact Keeps.transS h0 (State.fresh_keeps _)

theorem State.insMem_keeps (s0 : State) (b1 : CoreId) (b2 : Bool) (b3 : Bool) (b4 : AccKind) (b5 : Width) (b6 : Word) (b7 : Word) : Keeps2 s0 (State.insMem s0 b1 b2 b3 b4 b5 b6 b7) := by
  have h0 := Keeps.refl s0
  unfold State.insMem
  extract_lets -merge +onlyGivenNames x1
  try clear_value x1
  split
  · refine keeps2_mk ?_
    exact Keeps.transS h0 (State.trigMark_keeps _ _ _)
  · extract_lets -merge +onlyGivenNames x2
    have hx2 : Keeps s0 x2 := by
      unfold x2
      refine Keeps.transS ?_ (State.access_keeps _ _ _ _ _ _ _)
      exact Keeps.upd h0 rfl
    clear_value x2; revert x2 hx2; refine Keeps.gen fun x2 hx2 => ?_
    refine keeps2_ite ?_ ?_
    · refine keeps2_mk ?_
      exact h0
    · refine keeps2_mk ?_
      exact hx2

theorem State.loadPut_keeps (s0 : State) (b1 : CoreId) (b2 : Nat) (b3 : Nat) (b4 : Word) : Keeps2 s0 (State.loadPut s0 b1 b2 b3 b4) := by
  have h0 := Keeps.refl s0
  unfold State.loadPut
  exact Keeps.trans2 (Keeps.transS h0 (State.gprPut_keeps _ _ _ _)) (State.insDone_keeps _ _ _)

theorem State.insLoad_keeps (s0 : State) (c : CoreId) (buf : Bool) (rd f3 : Nat) (addr pc : Word) :
    Keeps2 s0 (s0.insLoad c buf rd f3 addr pc) := by
  unfold State.insLoad
  dsimp only
  generalize (if f3 % 4 = 0 then Width.w8 else if f3 % 4 = 1 then .w16 else .w32) = w
  have h := State.insMem_keeps s0 c buf (!buf) .load w addr 0
  revert h
  generalize s0.insMem c buf (!buf) .load w addr 0 = q
  obtain ⟨e, t⟩ := q
  intro h
  cases e with
  | retired => exact Keeps.trans2 h (State.loadPut_keeps _ _ _ _ _)
  | waits rd f3 a => exact h
  | raised cause tval => exact h
  | debug cause => exact h

theorem State.insStore_keeps (s0 : State) (c : CoreId) (buf : Bool) (f3 : Nat) (addr data pc : Word) :
    Keeps2 s0 (s0.insStore c buf f3 addr data pc) := by
  unfold State.insStore
  dsimp only
  generalize (if f3 = 0 then Width.w8 else if f3 = 1 then .w16 else .w32) = w
  have h := State.insMem_keeps s0 c buf (!buf) .store w addr data
  revert h
  generalize s0.insMem c buf (!buf) .store w addr data = q
  obtain ⟨e, t⟩ := q
  intro h
  cases e with
  | retired => exact Keeps.trans2 h (State.insDone_keeps _ _ _)
  | waits rd f3 a => exact h
  | raised cause tval => exact h
  | debug cause => exact h

/-- The store of an AMO, and what follows its load. -/
theorem State.amoStore_keeps {s0 t : State} (h : Keeps s0 t) (c : CoreId) (buf : Bool) (rd : Nat) (addr v x pc : Word) :
    Keeps2 s0 (match t.insMem c buf (!buf) .store .w32 addr x with
      | (.retired, u) => (u.gprPut c rd v).insDone c pc
      | r => r) := by
  have k := h.trans2 (State.insMem_keeps t c buf (!buf) .store .w32 addr x)
  revert k
  generalize t.insMem c buf (!buf) .store .w32 addr x = q
  obtain ⟨e, u⟩ := q
  intro k
  cases e with
  | retired => exact Keeps.trans2 (Keeps.transS k (State.gprPut_keeps _ _ _ _)) (State.insDone_keeps _ _ _)
  | waits rd f3 a => exact k
  | raised cause tval => exact k
  | debug cause => exact k

theorem State.insAmo_keeps (s0 : State) (c : CoreId) (buf : Bool) (i addr data pc : Word) : Keeps2 s0 (s0.insAmo c buf i addr data pc) := by
  unfold State.insAmo
  extract_lets rd
  split
  · exact keeps2_ite (State.insLoad_keeps _ _ _ _ _ _ _) (State.insBad_keeps _)
  · exact Keeps.trans2 (State.gprPut_keeps _ _ _ _) (State.insDone_keeps _ _ _)
  · rename_i f5 _ _
    refine keeps2_ite (State.insBad_keeps _) (keeps2_ite (Keeps.refl s0) ?_)
    have h := State.insMem_keeps s0 c buf (!buf) .load .w32 addr 0
    revert h
    generalize s0.insMem c buf (!buf) .load .w32 addr 0 = q
    obtain ⟨e, t⟩ := q
    intro h
    cases e with
    | retired => exact State.amoStore_keeps h _ _ _ _ _ _ _
    | waits rd f3 a => exact h
    | raised cause tval =>
      dsimp only
      split <;> simp_all [Keeps2]
    | debug cause => exact h

theorem State.insSys_keeps (s0 : State) (b1 : CoreId) (b2 : Bool) (b3 : Word) (b4 : Word) : Keeps2 s0 (State.insSys s0 b1 b2 b3 b4) := by
  have h0 := Keeps.refl s0
  unfold State.insSys
  extract_lets -merge +onlyGivenNames x1
  try clear_value x1
  refine keeps2_ite ?_ ?_
  · refine keeps2_mk ?_
    exact h0
  · refine keeps2_ite ?_ ?_
    · refine keeps2_mk ?_
      exact h0
    · refine keeps2_ite ?_ ?_
      · refine keeps2_mk ?_
        exact Keeps.transS h0 (State.hartMap_keeps _ _ _)
      · exact keeps2_ite (Keeps.trans2 h0 (State.insDone_keeps _ _ _)) (Keeps.trans2 h0 (State.insBad_keeps _))

theorem State.csrRead_keeps (s0 : State) (c : CoreId) (n : Nat) (p : Word × State) (h : s0.csrRead c n = some p) : Keeps s0 p.2 := by
  unfold State.csrRead at h
  obtain ⟨w, -, rfl⟩ := Option.map_eq_some_iff.1 h
  exact keepsS_ite (State.timeRead_keeps _ _) (Keeps.refl s0)

theorem State.insCsr_keeps (s0 : State) (c : CoreId) (buf : Bool) (i pc : Word) : Keeps2 s0 (s0.insCsr c buf i pc) := by
  unfold State.insCsr
  extract_lets h rd f3 rs n a
  refine keeps2_ite (State.insBad_keeps _) ?_
  have hp : ∀ p, (if f3 % 4 = 1 && rd = 0 then (s0.csr c n).map fun w => (w, s0) else s0.csrRead c n) = some p → Keeps s0 p.2 := by
    intro p hp
    split at hp
    · obtain ⟨w, -, rfl⟩ := Option.map_eq_some_iff.1 hp
      exact Keeps.refl s0
    · exact State.csrRead_keeps _ _ _ _ hp
  revert hp
  generalize (if f3 % 4 = 1 && rd = 0 then (s0.csr c n).map fun w => (w, s0) else s0.csrRead c n) = o
  intro hp
  cases o with
  | none => exact State.insBad_keeps _
  | some p =>
    obtain ⟨old, t⟩ := p
    have ht : Keeps s0 t := hp _ rfl
    dsimp only
    have hu : Keeps s0 (t.insDone c pc).2 := ht.trans2 (State.insDone_keeps _ _ _)
    generalize (t.insDone c pc).2 = u at hu
    split
    · exact hu.transS (State.gprPut_keeps _ _ _ _)
    · rename_i v _
      have hw := State.csrWrite_keeps u c n v
      revert hw
      generalize u.csrWrite c n v = x
      intro hw
      cases x with
      | none => exact State.insBad_keeps _
      | some y => exact (hu.transS (hw _ rfl)).transS (State.gprPut_keeps _ _ _ _)

theorem State.insn_keeps (s0 : State) (b1 : CoreId) (b2 : Bool) (b3 : Nat) (b4 : Word) : Keeps2 s0 (State.insn s0 b1 b2 b3 b4) := by
  have h0 := Keeps.refl s0
  unfold State.insn
  extract_lets -merge +onlyGivenNames x1
  try clear_value x1
  extract_lets -merge +onlyGivenNames x2
  try clear_value x2
  extract_lets -merge +onlyGivenNames x3
  try clear_value x3
  extract_lets -merge +onlyGivenNames x4
  try clear_value x4
  extract_lets -merge +onlyGivenNames x5
  try clear_value x5
  extract_lets -merge +onlyGivenNames x6
  try clear_value x6
  extract_lets -merge +onlyGivenNames x7
  try clear_value x7
  extract_lets -merge +onlyGivenNames x8
  try clear_value x8
  split
  · exact Keeps.trans2 (Keeps.transS h0 (State.gprPut_keeps _ _ _ _)) (State.insDone_keeps _ _ _)
  · refine keeps2_ite ?_ ?_
    · exact Keeps.trans2 h0 (State.insBad_keeps _)
    · exact Keeps.trans2 (Keeps.transS h0 (State.gprPut_keeps _ _ _ _)) (State.insDone_keeps _ _ _)
  · refine keeps2_ite ?_ ?_
    · exact Keeps.trans2 h0 (State.insBad_keeps _)
    · exact Keeps.trans2 (Keeps.transS h0 (State.gprPut_keeps _ _ _ _)) (State.insDone_keeps _ _ _)
  · refine keeps2_ite ?_ ?_
    · exact Keeps.trans2 h0 (State.insBad_keeps _)
    · exact Keeps.trans2 (Keeps.transS h0 (State.gprPut_keeps _ _ _ _)) (State.insDone_keeps _ _ _)
  · split
    · exact Keeps.trans2 h0 (State.insDone_keeps _ _ _)
    · exact Keeps.trans2 h0 (State.insBad_keeps _)
  · exact keeps2_ite (Keeps.trans2 h0 (State.insBad_keeps _)) (Keeps.trans2 h0 (State.insLoad_keeps _ _ _ _ _ _ _))
  · exact keeps2_ite (Keeps.trans2 h0 (State.insBad_keeps _)) (Keeps.trans2 h0 (State.insStore_keeps _ _ _ _ _ _ _))
  · refine keeps2_ite ?_ ?_
    · exact Keeps.trans2 (Keeps.transS h0 (State.gprPut_keeps _ _ _ _)) (State.insDone_keeps _ _ _)
    · exact Keeps.trans2 h0 (State.insBad_keeps _)
  · refine keeps2_ite ?_ ?_
    · exact Keeps.trans2 (Keeps.transS h0 (State.gprPut_keeps _ _ _ _)) (State.insDone_keeps _ _ _)
    · refine keeps2_ite ?_ ?_
      · exact Keeps.trans2 (Keeps.transS h0 (State.gprPut_keeps _ _ _ _)) (State.insDone_keeps _ _ _)
      · exact Keeps.trans2 h0 (State.insBad_keeps _)
  · exact keeps2_ite (Keeps.trans2 h0 (State.insAmo_keeps _ _ _ _ _ _ _)) (Keeps.trans2 h0 (State.insBad_keeps _))
  · extract_lets -merge +onlyGivenNames x9
    try clear_value x9
    refine keeps2_ite ?_ ?_
    · exact Keeps.trans2 h0 (State.insDone_keeps _ _ _)
    · refine keeps2_ite ?_ ?_
      · exact Keeps.trans2 (Keeps.transS h0 (State.setCore_keeps _ _ _)) (State.insDone_keeps _ _ _)
      · exact Keeps.trans2 h0 (State.insBad_keeps _)
  · refine keeps2_ite ?_ ?_
    · exact Keeps.trans2 h0 (State.insSys_keeps _ _ _ _ _)
    · exact keeps2_ite (Keeps.trans2 h0 (State.insBad_keeps _)) (Keeps.trans2 h0 (State.insCsr_keeps _ _ _ _ _))
  · exact Keeps.trans2 h0 (State.insBad_keeps _)

theorem State.bufRun_keeps (s0 : State) (c : CoreId) (n : Nat) (ps : List Nat) : Keeps s0 (s0.bufRun c n ps) := by
  induction n generalizing s0 ps with
  | zero => exact Keeps.refl s0
  | succ n ih =>
    unfold State.bufRun
    generalize takeIns ps = p
    obtain ⟨i, len, r⟩ := p
    refine keepsS_ite (Keeps.refl s0) ?_
    have h := State.insn_keeps s0 c true len i
    revert h
    generalize s0.insn c true len i = q
    obtain ⟨e, t⟩ := q
    intro h
    cases e with
    | retired => exact Keeps.transS h (ih t r)
    | waits rd f3 a => exact Keeps.transS h (State.setCore_keeps _ _ _)
    | raised cause tval => exact Keeps.transS h (State.cmdErr_keeps _ _)
    | debug cause => exact Keeps.transS h (State.cmdErr_keeps _ _)

theorem State.stepBack_keeps (s0 : State) (b1 : CoreId) (b2 : Nat) : Keeps s0 (State.stepBack s0 b1 b2) := by
  have h0 := Keeps.refl s0
  unfold State.stepBack
  exact Keeps.transS h0 (State.hartMap_keeps _ _ _)

theorem State.stepEnd_keeps (s0 : State) (b1 : CoreId) (b2 : Nat) (b3 : InsEnd) : Keeps s0 (State.stepEnd s0 b1 b2 b3) := by
  have h0 := Keeps.refl s0
  unfold State.stepEnd
  split
  · exact Keeps.transS h0 (State.stepBack_keeps _ _ _)
  · extract_lets -merge +onlyGivenNames x1
    try clear_value x1
    exact Keeps.transS h0 (State.setCore_keeps _ _ _)
  · exact Keeps.transS (Keeps.transS h0 (State.hartMap_keeps _ _ _)) (State.stepBack_keeps _ _ _)
  · exact Keeps.transS h0 (State.stepBack_keeps _ _ _)

/-- What `stepGo` does with an instruction it has fetched. -/
theorem State.stepIns_keeps {s0 t : State} (h : Keeps s0 t) (c : CoreId) (ps : List Nat) :
    Keeps s0 (match takeIns ps with
      | (i, len, _) => match t.insn c false len i with
        | (e, u) => u.stepEnd c len e) := by
  generalize takeIns ps = p
  obtain ⟨i, len, r⟩ := p
  have k := h.trans2 (State.insn_keeps t c false len i)
  revert k
  dsimp only
  generalize t.insn c false len i = q
  obtain ⟨e, u⟩ := q
  exact fun k => Keeps.transS k (State.stepEnd_keeps _ _ _ _)

theorem State.stepGo_keeps (s0 : State) (c : CoreId) : Keeps s0 (s0.stepGo c) := by
  unfold State.stepGo
  extract_lets pc held go
  have hg : ∀ {t : State} (ps : List Nat), Keeps s0 t → Keeps s0 (go t ps) := fun ps h => State.stepIns_keeps h c ps
  have hh : ∀ {t : State}, Keeps s0 t → Keeps s0 (held t) := fun h => h.transS (State.setCore_keeps _ _ _)
  clear_value held go
  have h := State.insMem_keeps s0 c false true .fetch .w16 pc 0
  revert h
  generalize s0.insMem c false true .fetch .w16 pc 0 = q
  obtain ⟨e, t⟩ := q
  intro h
  cases e with
  | waits rd f3 a => exact hh h
  | raised cause tval => exact Keeps.transS h (State.stepEnd_keeps _ _ _ _)
  | debug cause => exact Keeps.transS h (State.stepEnd_keeps _ _ _ _)
  | retired =>
    dsimp only
    refine keepsS_ite (hg _ h) ?_
    have k := Keeps.trans2 h (State.insMem_keeps t c false false .fetch .w16 (pc + 2) 0)
    revert k
    generalize t.insMem c false false .fetch .w16 (pc + 2) 0 = x
    obtain ⟨e, u⟩ := x
    intro k
    cases e with
    | waits rd f3 a => exact hh k
    | retired => exact hg _ k
    | raised cause tval => exact Keeps.transS k (State.stepEnd_keeps _ _ _ _)
    | debug cause => exact Keeps.transS k (State.stepEnd_keeps _ _ _ _)

theorem State.insResume_keeps (s0 : State) (b1 : CoreId) : Keeps s0 (State.insResume s0 b1) := by
  have h0 := Keeps.refl s0
  unfold State.insResume
  extract_lets -merge +onlyGivenNames x1
  try clear_value x1
  split
  · exact h0
  · extract_lets -merge +onlyGivenNames x2
    have hx2 : Keeps s0 x2 := by unfold x2; exact Keeps.transS h0 (State.setCore_keeps _ _ _)
    clear_value x2; revert x2 hx2; refine Keeps.gen fun x2 hx2 => ?_
    refine keepsS_ite ?_ ?_
    · exact h0
    · refine keepsS_ite ?_ ?_
      · exact Keeps.transS hx2 (State.stepGo_keeps _ _)
      · split
        · extract_lets -merge +onlyGivenNames x3
          have hx3 : Keeps s0 x3 := by unfold x3; exact Keeps.trans2 hx2 (State.loadPut_keeps _ _ _ _ _)
          clear_value x3; revert x3 hx3; refine Keeps.gen fun x3 hx3 => ?_
          exact keepsS_ite (Keeps.transS hx3 (State.stepEnd_keeps _ _ _ _)) (Keeps.transS hx3 (State.bufRun_keeps _ _ _ _))
        · exact keepsS_ite (Keeps.transS hx2 (State.stepEnd_keeps _ _ _ _)) (Keeps.transS hx2 (State.cmdErr_keeps _ _))

theorem State.flashGo_keeps (s0 : State) : Keeps s0 (State.flashGo s0) := by
  have h0 := Keeps.refl s0
  unfold State.flashGo
  exact Keeps.transS (Keeps.transS (Keeps.transS h0 (State.flashRelease_keeps _)) (State.insResume_keeps _ _)) (State.insResume_keeps _ _)

theorem execProgComplete_keeps (b0 : Bool) (b1 : Bool) (b2 : Nat) (s0 : State) : KeepsO s0 (execProgComplete b0 b1 b2 s0) := by
  have h0 := Keeps.refl s0
  unfold execProgComplete
  extract_lets -merge +onlyGivenNames x1
  have hx1 : Keeps s0 x1 := by unfold x1; exact Keeps.transS h0 (State.at__keeps _ _)
  clear_value x1; revert x1 hx1; refine Keeps.gen fun x1 hx1 => ?_
  refine Keeps.transO ?_ (doneW_keeps _)
  split
  · refine keepsS_ite ?_ ?_
    · exact Keeps.transS (Keeps.transS (Keeps.transS hx1 (State.progEnd_keeps _ _ _ _)) (State.flashGo_keeps _)) (State.dumpStep_keeps _)
    · exact hx1
  · exact hx1

theorem execEraseComplete_keeps (b0 : Bool) (b1 : Nat) (s0 : State) : KeepsO s0 (execEraseComplete b0 b1 s0) := by
  have h0 := Keeps.refl s0
  unfold execEraseComplete
  extract_lets -merge +onlyGivenNames x1
  have hx1 : Keeps s0 x1 := by unfold x1; exact Keeps.transS h0 (State.at__keeps _ _)
  clear_value x1; revert x1 hx1; refine Keeps.gen fun x1 hx1 => ?_
  refine Keeps.transO ?_ (doneW_keeps _)
  split
  · refine keepsS_ite ?_ ?_
    · exact Keeps.transS (Keeps.transS (Keeps.transS hx1 (State.eraseEnd_keeps _ _ _)) (State.flashGo_keeps _)) (State.dumpStep_keeps _)
    · exact hx1
  · exact hx1

theorem execEraseSuspended_keeps (b0 : Nat) (s0 : State) : KeepsO s0 (execEraseSuspended b0 s0) := by
  have h0 := Keeps.refl s0
  unfold execEraseSuspended
  extract_lets -merge +onlyGivenNames x1
  have hx1 : Keeps s0 x1 := by unfold x1; exact Keeps.transS h0 (State.at__keeps _ _)
  clear_value x1; revert x1 hx1; refine Keeps.gen fun x1 hx1 => ?_
  refine Keeps.transO ?_ (doneW_keeps _)
  split
  · exact keepsS_ite (Keeps.transS (Keeps.transS hx1 (State.flcSuspend_keeps _ _)) (State.flashGo_keeps _)) hx1
  · exact hx1

theorem State.bootsel_keeps (s0 : State) (b1 : Nat) : Keeps1 s0 (State.bootsel s0 b1) := by
  have h0 := Keeps.refl s0
  unfold State.bootsel
  refine keeps1_ite ?_ ?_
  · refine keeps1_mk ?_
    exact h0
  · split
    · rename_i heq
      have hx1 := keeps1_of heq (s0 := s0) (by
          exact Keeps.trans1 h0 (State.manScan_keeps _ _)
        )
      split
      · refine keeps1_mk ?_
        exact hx1
      · refine keeps1_ite ?_ ?_
        · refine keeps1_mk ?_
          exact hx1
        · split
          · rename_i heq
            have hx2 := keepsP_of heq (s0 := s0) (by
                exact Keeps.transP hx1 (State.selWrite_keeps _ _)
              )
            refine keeps1_mk ?_
            exact hx2
          · refine keeps1_mk ?_
            exact hx1

theorem State.csAssert_keeps (s0 : State) : Keeps s0 (State.csAssert s0) := by
  have h0 := Keeps.refl s0
  unfold State.csAssert
  extract_lets -merge +onlyGivenNames x1 x2
  try clear_value x2
  refine keepsS_ite ?_ ?_
  · exact Keeps.upd h0 rfl
  · exact h0

theorem State.csEnd_keeps (s0 : State) (b1 : List Byte) : Keeps s0 (State.csEnd s0 b1) := by
  have h0 := Keeps.refl s0
  unfold State.csEnd
  extract_lets -merge +onlyGivenNames x1
  try clear_value x1
  exact Keeps.upd h0 rfl

theorem State.errClear_keeps (s0 : State) : Keeps s0 (State.errClear s0) := by
  have h0 := Keeps.refl s0
  unfold State.errClear
  exact Keeps.transS h0 (State.put_keeps _ _ _)

theorem State.getBegin_keeps (s0 : State) : Keeps s0 (State.getBegin s0) := by
  have h0 := Keeps.refl s0
  unfold State.getBegin
  extract_lets -merge +onlyGivenNames x1
  try clear_value x1
  exact Keeps.upd h0 rfl

theorem State.getClock_keeps (s0 : State) (b1 : Nat) : Keeps s0 (State.getClock s0 b1) := by
  have h0 := Keeps.refl s0
  unfold State.getClock
  split
  · extract_lets -merge +onlyGivenNames x1
    try clear_value x1
    extract_lets -merge +onlyGivenNames x2
    try clear_value x2
    extract_lets -merge +onlyGivenNames x3
    have hx3 : Keeps s0 x3 := by unfold x3; exact Keeps.upd h0 rfl
    clear_value x3; revert x3 hx3; refine Keeps.gen fun x3 hx3 => ?_
    extract_lets -merge +onlyGivenNames x4
    have hx4 : Keeps s0 x4 := by unfold x4; exact Keeps.transS hx3 (State.txDrop_keeps _)
    clear_value x4; revert x4 hx4; refine Keeps.gen fun x4 hx4 => ?_
    extract_lets -merge +onlyGivenNames x5
    try clear_value x5
    extract_lets -merge +onlyGivenNames x6
    try clear_value x6
    refine keepsS_ite ?_ ?_
    · refine Keeps.transS ?_ (State.rebootStep_keeps _)
      refine Keeps.transS ?_ (State.hostPost_keeps _)
      exact Keeps.upd hx4 rfl
    · exact Keeps.upd hx3 rfl
  · extract_lets -merge +onlyGivenNames x7
    try clear_value x7
    exact Keeps.upd h0 rfl
  · extract_lets -merge +onlyGivenNames x8
    try clear_value x8
    exact Keeps.upd h0 rfl

theorem State.getOp_keeps (s0 : State) (b1 : Nat) (b2 : Bool) : Keeps s0 (State.getOp s0 b1 b2) := by
  have h0 := Keeps.refl s0
  unfold State.getOp
  extract_lets -merge +onlyGivenNames x1
  have hx1 : Keeps s0 x1 := by
    unfold x1
    refine Keeps.transS ?_ (State.getClock_keeps _ _)
    exact keepsS_ite (Keeps.transS h0 (State.getBegin_keeps _)) h0
  clear_value x1; revert x1 hx1; refine Keeps.gen fun x1 hx1 => ?_
  exact keepsS_ite hx1 (Keeps.transS hx1 (State.csEnd_keeps _ _))

theorem State.hostWord_keeps (s0 : State) (b1 : AccKind) (b2 : Nat) (b3 : Word) : Keeps s0 (State.hostWord s0 b1 b2 b3) := by
  have h0 := Keeps.refl s0
  unfold State.hostWord
  refine keepsS_ite ?_ ?_
  · refine Keeps.transS ?_ (State.access_keeps _ _ _ _ _ _ _)
    exact Keeps.upd h0 rfl
  · exact Keeps.transS h0 (State.respond_keeps _ _ _)

theorem State.hwReply_keeps (s0 : State) (b1 : List Byte) (b2 : List Byte) : Keeps s0 (State.hwReply s0 b1 b2) := by
  have h0 := Keeps.refl s0
  unfold State.hwReply
  exact Keeps.transS (Keeps.transS h0 (State.txPlace_keeps _ _)) (State.rxFree_keeps _)

theorem State.loaderRead_keeps (s0 : State) (b1 : LoaderSrc) : Keeps s0 (State.loaderRead s0 b1) := by
  have h0 := Keeps.refl s0
  unfold State.loaderRead
  split
  · exact Keeps.transS h0 (State.rxFree_keeps _)
  · exact h0

theorem State.memRead_zero (s : State) (a : Nat) (got : List Byte) : s.memRead a 0 got = (s, got, .code 0) := rfl

theorem State.memRead_succ (s : State) (a n : Nat) (got : List Byte) : s.memRead a (n + 1) got =
    (let t := s.hostWord .load a 0
     match t.host.resp with
     | .data w => t.memRead (a + 4) n (got ++ leBytes 4 w.toNat)
     | .held => (t, got, .waits)
     | _ => (t, got, .code 3)) := rfl

theorem State.memRead_keeps (s0 : State) (a n : Nat) (got : List Byte) : Keeps1 s0 (s0.memRead a n got) := by
  induction n generalizing s0 a got with
  | zero => exact (State.memRead_zero s0 a got) ▸ (keeps1_mk (Keeps.refl s0) : Keeps1 s0 (s0, got, MemEnd.code 0))
  | succ n ih =>
    have key : ∀ t, Keeps s0 t → Keeps1 s0 (match t.host.resp with
        | .data w => t.memRead (a + 4) n (got ++ leBytes 4 w.toNat)
        | .held => (t, got, .waits)
        | _ => (t, got, .code 3)) := by
      intro t ht
      cases t.host.resp with
      | data w => exact Keeps.trans1 ht (ih t (a + 4) (got ++ leBytes 4 w.toNat))
      | _ => exact keeps1_mk ht
    exact (State.memRead_succ s0 a n got) ▸ key _ (State.hostWord_keeps _ _ _ _)

theorem State.memWait_keeps (s0 : State) (b1 : State) : Keeps s0 (State.memWait s0 b1) := by
  have h0 := Keeps.refl s0
  unfold State.memWait
  extract_lets -merge +onlyGivenNames x1
  try clear_value x1
  exact Keeps.upd h0 rfl

theorem State.memrd_keeps (s0 : State) (b1 : List Byte) : Keeps1 s0 (State.memrd s0 b1) := by
  have h0 := Keeps.refl s0
  unfold State.memrd
  extract_lets -merge +onlyGivenNames x1
  try clear_value x1
  extract_lets -merge +onlyGivenNames x2
  try clear_value x2
  extract_lets -merge +onlyGivenNames x3
  try clear_value x3
  refine keeps1_ite ?_ ?_
  · refine keeps1_mk ?_
    exact h0
  · split
    · rename_i heq
      have hx4 := keeps1_of heq (s0 := s0) (by
          exact Keeps.trans1 h0 (State.memRead_keeps _ _ _ _)
        )
      refine keeps1_mk ?_
      exact hx4
    · rename_i heq
      have hx5 := keeps1_of heq (s0 := s0) (by
          exact Keeps.trans1 h0 (State.memRead_keeps _ _ _ _)
        )
      refine keeps1_mk ?_
      exact Keeps.transS h0 (State.memWait_keeps _ _)

theorem State.memrdUart_keeps (s0 : State) (b1 : List Byte) : Keeps s0 (State.memrdUart s0 b1) := by
  have h0 := Keeps.refl s0
  unfold State.memrdUart
  split
  · rename_i heq
    have hx1 := keeps1_of heq (s0 := s0) (by
        exact Keeps.trans1 h0 (State.memrd_keeps _ _)
      )
    extract_lets -merge +onlyGivenNames x2
    try clear_value x2
    refine Keeps.transS ?_ (State.replyTo_keeps _ _ _)
    exact Keeps.upd hx1 rfl
  · rename_i heq
    have hx3 := keeps1_of heq (s0 := s0) (by
        exact Keeps.trans1 h0 (State.memrd_keeps _ _)
      )
    extract_lets -merge +onlyGivenNames x4
    try clear_value x4
    exact Keeps.upd hx3 rfl

theorem State.memWrite_keeps (s0 : State) (a : Nat) (ws : List Word) : Keeps1 s0 (s0.memWrite a ws) := by
  induction ws generalizing s0 a with
  | nil => exact Keeps.refl s0
  | cons w r ih =>
    unfold State.memWrite
    extract_lets -merge +onlyGivenNames t
    have ht : Keeps s0 t := State.hostWord_keeps _ _ _ _
    clear_value t
    split
    · exact ht.trans1 (ih _ _)
    · exact keeps1_mk ht

theorem State.memwr_keeps (s0 : State) (b1 : List Byte) : Keeps1 s0 (State.memwr s0 b1) := by
  have h0 := Keeps.refl s0
  unfold State.memwr
  extract_lets -merge +onlyGivenNames x1
  try clear_value x1
  extract_lets -merge +onlyGivenNames x2
  try clear_value x2
  extract_lets -merge +onlyGivenNames x3
  try clear_value x3
  refine keeps1_ite ?_ ?_
  · refine keeps1_mk ?_
    exact h0
  · refine keeps1_ite ?_ ?_
    · refine keeps1_mk ?_
      exact h0
    · split
      · rename_i heq
        have hx4 := keeps1_of heq (s0 := s0) (by
            exact Keeps.trans1 h0 (State.memWrite_keeps _ _ _)
          )
        refine keeps1_mk ?_
        exact hx4
      · rename_i heq
        have hx5 := keeps1_of heq (s0 := s0) (by
            exact Keeps.trans1 h0 (State.memWrite_keeps _ _ _)
          )
        refine keeps1_mk ?_
        exact hx5

theorem State.loader_keeps {s0 s : State} (h0 : Keeps s0 s) (src : LoaderSrc) (want len : Nat)
    (act : State → Reply → List Byte → State) (k : ∀ u r p, Keeps s0 u → Keeps s0 (act u r p)) :
    Keeps s0 (s.loader src want len act) := by
  unfold State.loader
  split
  · exact h0
  · extract_lets -merge +onlyGivenNames r x
    have hx : Keeps s0 x := h0.transS (State.loaderRead_keeps _ _)
    clear_value x
    refine keepsS_ite (keepsS_ite (k _ _ _ hx) (hx.transS (State.replyTo_keeps _ _ _))) ?_
    refine keepsS_ite (hx.transS (State.replyTo_keeps _ _ _)) ?_
    refine keepsS_ite (hx.transS (State.memrdUart_keeps _ _)) (keepsS_ite ?_ h0)
    split
    rename_i heq
    exact (hx.transS (keeps1_of heq (State.memwr_keeps _ _))).transS (State.replyTo_keeps _ _ _)

theorem State.loaderFlash_keeps (s0 : State) (b1 : Nat) (b2 : Nat) (b3 : Reply) : Keeps s0 (State.loaderFlash s0 b1 b2 b3) := by
  have h0 := Keeps.refl s0
  unfold State.loaderFlash
  extract_lets -merge +onlyGivenNames x1
  have hx1 : Keeps s0 x1 := by unfold x1; exact Keeps.transS h0 (State.writeReg_keeps _ _ _)
  clear_value x1; revert x1 hx1; refine Keeps.gen fun x1 hx1 => ?_
  exact Keeps.transS (Keeps.transS (Keeps.transS hx1 (State.flcDo_keeps _ _)) (State.fresh_keeps _)) (State.fresh_keeps _)

theorem State.otherOp_keeps (s0 : State) (b1 : Nat) : Keeps s0 (State.otherOp s0 b1) := by
  have h0 := Keeps.refl s0
  unfold State.otherOp
  exact Keeps.transS h0 (State.csEnd_keeps _ _)

theorem State.putTake_keeps (s0 : State) (b1 : List Byte) : Keeps s0 (State.putTake s0 b1) := by
  have h0 := Keeps.refl s0
  unfold State.putTake
  extract_lets -merge +onlyGivenNames x1
  try clear_value x1
  extract_lets -merge +onlyGivenNames x2
  have hx2 : Keeps s0 x2 := by unfold x2; exact Keeps.transS h0 (State.bufPut_keeps _ _ _)
  clear_value x2; revert x2 hx2; refine Keeps.gen fun x2 hx2 => ?_
  extract_lets -merge +onlyGivenNames x3
  try clear_value x3
  extract_lets -merge +onlyGivenNames x4
  have hx4 : Keeps s0 x4 := by unfold x4; exact Keeps.upd hx2 rfl
  clear_value x4; revert x4 hx4; refine Keeps.gen fun x4 hx4 => ?_
  exact keepsS_ite hx4 (Keeps.transS hx4 (State.hostPost_keeps _))

theorem State.putOp_keeps (s0 : State) (b1 : List Byte) : Keeps s0 (State.putOp s0 b1) := by
  have h0 := Keeps.refl s0
  unfold State.putOp
  extract_lets -merge +onlyGivenNames x1
  try clear_value x1
  extract_lets -merge +onlyGivenNames x2
  have hx2 : Keeps s0 x2 := by
    unfold x2
    refine keepsS_ite ?_ ?_
    · exact h0
    · split
      · exact Keeps.transS h0 (State.hostErr_keeps _ _)
      · exact Keeps.transS h0 (State.putTake_keeps _ _)
  clear_value x2; revert x2 hx2; refine Keeps.gen fun x2 hx2 => ?_
  exact Keeps.transS hx2 (State.csEnd_keeps _ _)

theorem State.statusOp_keeps (s0 : State) (b1 : Nat) : Keeps s0 (State.statusOp s0 b1) := by
  have h0 := Keeps.refl s0
  unfold State.statusOp
  extract_lets -merge +onlyGivenNames x1
  try clear_value x1
  extract_lets -merge +onlyGivenNames x2
  try clear_value x2
  extract_lets -merge +onlyGivenNames x3
  have hx3 : Keeps s0 x3 := by unfold x3; exact keepsS_ite (Keeps.transS h0 (State.errClear_keeps _)) h0
  clear_value x3; revert x3 hx3; refine Keeps.gen fun x3 hx3 => ?_
  exact Keeps.transS hx3 (State.csEnd_keeps _ _)

theorem execHostCsAssert_keeps (b0 : CsOpen) (s0 : State) : KeepsO s0 (execHostCsAssert b0 s0) := by
  have h0 := Keeps.refl s0
  unfold execHostCsAssert
  extract_lets -merge +onlyGivenNames x1
  have hx1 : Keeps s0 x1 := by unfold x1; exact Keeps.transS (Keeps.transS h0 (State.at__keeps _ _)) (State.csAssert_keeps _)
  clear_value x1; revert x1 hx1; refine Keeps.gen fun x1 hx1 => ?_
  refine Keeps.transO ?_ (doneW_keeps _)
  exact keepsS_ite (Keeps.transS hx1 (State.otherOp_keeps _ _)) hx1

theorem execHostStatus_keeps (b0 : Nat) (s0 : State) : KeepsO s0 (execHostStatus b0 s0) := by
  have h0 := Keeps.refl s0
  unfold execHostStatus
  refine Keeps.transO ?_ (doneW_keeps _)
  exact keepsS_ite (Keeps.transS h0 (State.statusOp_keeps _ _)) h0

theorem execHostPut_keeps (b0 : List Byte) (s0 : State) : KeepsO s0 (execHostPut b0 s0) := by
  have h0 := Keeps.refl s0
  unfold execHostPut
  refine Keeps.transO ?_ (doneW_keeps _)
  exact keepsS_ite (Keeps.transS h0 (State.putOp_keeps _ _)) h0

theorem execHostGet_keeps (b0 : GetSpan) (s0 : State) : KeepsO s0 (execHostGet b0 s0) := by
  have h0 := Keeps.refl s0
  unfold execHostGet
  refine Keeps.transO ?_ (doneW_keeps _)
  exact keepsS_ite (Keeps.transS h0 (State.getOp_keeps _ _ _)) h0

theorem execLoaderPing_keeps (b0 : LoaderSrc) (s0 : State) : KeepsO s0 (execLoaderPing b0 s0) := by
  have h0 := Keeps.refl s0
  unfold execLoaderPing
  refine Keeps.transO ?_ (doneW_keeps _)
  refine State.loader_keeps ?_ _ _ _ _ fun u r p hu => ?_
  · exact h0
  · try beta_reduce
    exact Keeps.transS hu (State.replyTo_keeps _ _ _)

theorem execLoaderInfo_keeps (b0 : LoaderSrc) (s0 : State) : KeepsO s0 (execLoaderInfo b0 s0) := by
  have h0 := Keeps.refl s0
  unfold execLoaderInfo
  refine Keeps.transO ?_ (doneW_keeps _)
  refine State.loader_keeps ?_ _ _ _ _ fun u r p hu => ?_
  · exact h0
  · try beta_reduce
    exact Keeps.transS hu (State.replyTo_keeps _ _ _)

theorem execLoaderErase_keeps (b0 : LoaderSrc) (s0 : State) : KeepsO s0 (execLoaderErase b0 s0) := by
  have h0 := Keeps.refl s0
  unfold execLoaderErase
  refine Keeps.transO ?_ (doneW_keeps _)
  refine State.loader_keeps ?_ _ _ _ _ fun u r p hu => ?_
  · exact h0
  · try beta_reduce
    exact Keeps.transS hu (State.loaderFlash_keeps _ _ _ _)

theorem execLoaderProg_keeps (b0 : LoaderSrc) (s0 : State) : KeepsO s0 (execLoaderProg b0 s0) := by
  have h0 := Keeps.refl s0
  unfold execLoaderProg
  refine Keeps.transO ?_ (doneW_keeps _)
  refine State.loader_keeps ?_ _ _ _ _ fun u r p hu => ?_
  · exact h0
  · try beta_reduce
    exact Keeps.transS (Keeps.transS hu (State.bufPut_keeps _ _ _)) (State.loaderFlash_keeps _ _ _ _)

theorem execBootsel_keeps (b0 : LoaderSrc) (s0 : State) : KeepsO s0 (execBootsel b0 s0) := by
  have h0 := Keeps.refl s0
  unfold execBootsel
  refine Keeps.transO ?_ (doneW_keeps _)
  refine State.loader_keeps ?_ _ _ _ _ fun u r p hu => ?_
  · exact h0
  · try beta_reduce
    split
    · rename_i heq
      have hx1 := keeps1_of heq (s0 := s0) (by
          exact Keeps.trans1 hu (State.bootsel_keeps _ _)
        )
      exact Keeps.transS hx1 (State.replyTo_keeps _ _ _)

theorem execResetcount_keeps (b0 : LoaderSrc) (s0 : State) : KeepsO s0 (execResetcount b0 s0) := by
  have h0 := Keeps.refl s0
  unfold execResetcount
  refine Keeps.transO ?_ (doneW_keeps _)
  refine State.loader_keeps ?_ _ _ _ _ fun u r p hu => ?_
  · exact h0
  · try beta_reduce
    split
    · rename_i heq
      have hx1 := keeps2_of heq (s0 := s0) (by
          exact Keeps.trans2 hu (State.attRead_keeps _)
        )
      exact Keeps.transS (Keeps.transS hx1 (State.attPut_keeps _ _ _ _)) (State.replyTo_keeps _ _ _)

theorem execReboot_keeps (b0 : LoaderSrc) (s0 : State) : KeepsO s0 (execReboot b0 s0) := by
  have h0 := Keeps.refl s0
  unfold execReboot
  refine Keeps.transO ?_ (doneW_keeps _)
  refine State.loader_keeps ?_ _ _ _ _ fun u r p hu => ?_
  · exact h0
  · try beta_reduce
    extract_lets -merge +onlyGivenNames x1
    have hx1 : Keeps s0 x1 := by unfold x1; exact Keeps.transS hu (State.replyTo_keeps _ _ _)
    clear_value x1; revert x1 hx1; refine Keeps.gen fun x1 hx1 => ?_
    extract_lets -merge +onlyGivenNames x2
    try clear_value x2
    exact Keeps.upd hx1 rfl

theorem execMemrd_keeps (s0 : State) : KeepsO s0 (execMemrd s0) := by
  have h0 := Keeps.refl s0
  unfold execMemrd
  refine Keeps.transO ?_ (doneW_keeps _)
  refine keepsS_ite ?_ ?_
  · split
    · rename_i heq
      have hx1 := keeps1_of heq (s0 := s0) (by
          exact Keeps.trans1 h0 (State.memrd_keeps _ _)
        )
      exact Keeps.transS hx1 (State.hwReply_keeps _ _ _)
    · rename_i heq
      have hx2 := keeps1_of heq (s0 := s0) (by
          exact Keeps.trans1 h0 (State.memrd_keeps _ _)
        )
      exact hx2
  · exact keepsS_ite h0 (Keeps.transS h0 (State.memrdUart_keeps _ _))

theorem execMemwr_keeps (s0 : State) : KeepsO s0 (execMemwr s0) := by
  have h0 := Keeps.refl s0
  unfold execMemwr
  refine Keeps.transO ?_ (doneW_keeps _)
  refine keepsS_ite ?_ ?_
  · split
    · rename_i heq
      have hx1 := keeps1_of heq (s0 := s0) (by
          exact Keeps.trans1 h0 (State.memwr_keeps _ _)
        )
      exact Keeps.transS hx1 (State.hwReply_keeps _ _ _)
  · exact h0

theorem execRxdone_keeps (s0 : State) : KeepsO s0 (execRxdone s0) := by
  have h0 := Keeps.refl s0
  unfold execRxdone
  exact Keeps.transO (Keeps.transS h0 (State.rxDone_keeps _)) (doneW_keeps _)

theorem execHostTxgo_keeps (s0 : State) : KeepsO s0 (execHostTxgo s0) := by
  have h0 := Keeps.refl s0
  unfold execHostTxgo
  exact Keeps.transO (Keeps.transS h0 (State.txGo_keeps _)) (doneW_keeps _)

theorem execTxcancel_keeps (s0 : State) : KeepsO s0 (execTxcancel s0) := by
  have h0 := Keeps.refl s0
  unfold execTxcancel
  exact Keeps.transO (Keeps.transS h0 (State.txCancel_keeps _)) (doneW_keeps _)

theorem State.regPut_keeps (s0 : State) (b1 : CoreId) (b2 : Nat) (b3 : Word) : KeepsP s0 (State.regPut s0 b1 b2 b3) := by
  have h0 := Keeps.refl s0
  unfold State.regPut
  refine keepsP_ite ?_ ?_
  · exact Keeps.transP h0 (State.csrWrite_keeps _ _ _ _)
  · refine keepsP_ite ?_ ?_
    · refine keepsP_some ?_
      exact Keeps.transS h0 (State.gprPut_keeps _ _ _ _)
    · exact keepsP_none

theorem State.regRead_keeps (s0 : State) (c : CoreId) (n : Nat) (p : Word × State) (h : s0.regRead c n = some p) : Keeps s0 p.2 := by
  unfold State.regRead at h
  by_cases h1 : n < 0x1000
  · exact State.csrRead_keeps _ _ _ _ ((if_pos h1).symm.trans h)
  · have h := (if_neg h1).symm.trans h
    by_cases h2 : n < 0x1020
    · obtain rfl := Option.some.inj ((if_pos h2).symm.trans h)
      exact Keeps.refl s0
    · have : none = some p := (if_neg h2).symm.trans h
      cases this

theorem State.cmdTransfer_keeps (s0 : State) (c : CoreId) (v : Word) : KeepsP s0 (s0.cmdTransfer c v) := by
  unfold State.cmdTransfer
  refine keepsP_ite (keepsP_some (Keeps.refl s0)) (keepsP_ite (State.regPut_keeps _ _ _ _) fun t h => ?_)
  obtain ⟨p, hp, rfl⟩ := Option.map_eq_some_iff.1 h
  exact (State.regRead_keeps _ _ _ _ hp).upd rfl

theorem State.cmdRun_keeps (s0 : State) (b1 : CoreId) (b2 : Word) : Keeps s0 (State.cmdRun s0 b1 b2) := by
  have h0 := Keeps.refl s0
  unfold State.cmdRun
  refine keepsS_ite ?_ ?_
  · exact Keeps.transS h0 (State.cmdErr_keeps _ _)
  · split
    · exact Keeps.transS h0 (State.cmdErr_keeps _ _)
    · rename_i heq
      have hx1 := keepsP_of heq (s0 := s0) (by
          exact Keeps.transP h0 (State.cmdTransfer_keeps _ _ _)
        )
      exact keepsS_ite (Keeps.transS hx1 (State.bufRun_keeps _ _ _ _)) hx1

theorem State.dmCommand_keeps (s0 : State) (v : Word) : Keeps s0 (s0.dmCommand v) := by
  have key : ∀ t c, Keeps s0 t → Keeps s0 (if bitsOf v 24 8 != 0 then t.cmdErr 2
      else if 2 ≤ t.dbg.hartsel || !(t.core c).stopped then t.cmdErr 4
      else t.cmdRun c v) := fun t c h1 => keepsS_ite (h1.transS (State.cmdErr_keeps _ _)) (keepsS_ite (h1.transS (State.cmdErr_keeps _ _))
    (h1.transS (State.cmdRun_keeps _ _ _)))
  exact keepsS_ite (State.cmdErr_keeps _ _) (keepsS_ite (Keeps.refl s0) (key _ _ ((Keeps.refl s0).dbg _)))

theorem State.autoExec_keeps (s0 : State) (b1 : Nat) : Keeps s0 (State.autoExec s0 b1) := by
  have h0 := Keeps.refl s0
  unfold State.autoExec
  exact keepsS_ite (Keeps.transS h0 (State.dmCommand_keeps _ _)) h0

theorem State.debugResume_keeps (s0 : State) (b1 : CoreId) : Keeps s0 (State.debugResume s0 b1) := by
  have h0 := Keeps.refl s0
  unfold State.debugResume
  extract_lets -merge +onlyGivenNames x1
  try clear_value x1
  extract_lets -merge +onlyGivenNames x2
  try clear_value x2
  extract_lets -merge +onlyGivenNames x3
  have hx3 : Keeps s0 x3 := by unfold x3; exact Keeps.upd h0 rfl
  clear_value x3; revert x3 hx3; refine Keeps.gen fun x3 hx3 => ?_
  refine keepsS_ite ?_ ?_
  · refine keepsS_ite ?_ ?_
    · exact Keeps.transS (Keeps.transS hx3 (State.hartMap_keeps _ _ _)) (State.stepGo_keeps _ _)
    · exact Keeps.transS (Keeps.transS hx3 (State.setCore_keeps _ _ _)) (State.dumpStep_keeps _)
  · exact h0

theorem State.dmControl_keeps (s0 : State) (v : Word) : Keeps s0 (s0.dmControl v) := by
  have hd : ∀ {t : State} (d : Debug), Keeps s0 t → Keeps s0 { t with dbg := d } := fun d h => h.dbg d
  have h3 : ∀ t (d : Debug) (n : Nat) (c : CoreId), Keeps s0 t → Keeps s0 (if 2 ≤ n then t
    else if bitOf v 31 then t.debugHalt c
    else if bitOf v 30 then ({ t with dbg := d } : State).debugResume c
    else t) := fun t d n c h => keepsS_ite h (keepsS_ite (h.transS (State.debugHalt_keeps _ _))
      (keepsS_ite ((hd _ h).transS (State.debugResume_keeps _ _)) h))
  have h4 : ∀ t, Keeps s0 t → Keeps s0 (if bitOf v 1 then t.startBegin false 0x2000 false else t) := fun t h =>
    keepsS_ite (h.transS (State.startBegin_keeps _ _ _ _)) h
  unfold State.dmControl
  exact h4 _ (h3 _ _ _ _ (keepsS_ite (hd _ (hd _ (Keeps.refl s0))) (hd _ (Keeps.refl s0))))

theorem State.sbResult_keeps (s0 : State) : Keeps s0 s0.sbResult := by
  have key : ∀ r : Response, Keeps s0 (match r with
      | .data w => { s0 with dbg := { s0.dbg with sbdata := w } }
      | .error => { s0 with dbg := { s0.dbg with sberr := 2 } }
      | _ => s0) := by
    intro r
    cases r
    all_goals first | exact Keeps.refl s0 | exact (Keeps.refl s0).dbg _
  exact key _

theorem State.sbBusyErr_keeps (s0 : State) : Keeps s0 (State.sbBusyErr s0) := by
  have h0 := Keeps.refl s0
  unfold State.sbBusyErr
  extract_lets -merge +onlyGivenNames x1
  try clear_value x1
  exact Keeps.upd h0 rfl

theorem State.sbNext_keeps (s0 : State) : Keeps s0 (State.sbNext s0) := by
  have h0 := Keeps.refl s0
  unfold State.sbNext
  extract_lets -merge +onlyGivenNames x1
  try clear_value x1
  refine keepsS_ite ?_ ?_
  · exact Keeps.upd h0 rfl
  · exact h0

theorem State.sbAccess_keeps (s0 : State) (b1 : AccKind) : Keeps s0 (State.sbAccess s0 b1) := by
  have h0 := Keeps.refl s0
  unfold State.sbAccess
  extract_lets -merge +onlyGivenNames x1
  try clear_value x1
  extract_lets -merge +onlyGivenNames x2
  try clear_value x2
  refine keepsS_ite ?_ ?_
  · exact h0
  · refine keepsS_ite ?_ ?_
    · exact Keeps.upd h0 rfl
    · refine keepsS_ite ?_ ?_
      · exact Keeps.upd h0 rfl
      · refine Keeps.transS ?_ (State.sbNext_keeps _)
        refine Keeps.transS ?_ (State.sbResult_keeps _)
        refine Keeps.transS ?_ (State.access_keeps _ _ _ _ _ _ _)
        exact Keeps.upd h0 rfl

theorem State.dmRead_keeps (s0 : State) (b1 : Nat) : Keeps s0 (State.dmRead s0 b1) := by
  have h0 := Keeps.refl s0
  unfold State.dmRead
  extract_lets -merge +onlyGivenNames x1
  have hx1 : Keeps s0 x1 := by unfold x1; exact Keeps.transS h0 (State.sbResult_keeps _)
  clear_value x1; revert x1 hx1; refine Keeps.gen fun x1 hx1 => ?_
  extract_lets -merge +onlyGivenNames x2
  try clear_value x2
  extract_lets -merge +onlyGivenNames x3
  have hx3 : Keeps s0 x3 := by unfold x3; exact Keeps.upd hx1 rfl
  clear_value x3; revert x3 hx3; refine Keeps.gen fun x3 hx3 => ?_
  refine keepsS_ite ?_ ?_
  · exact hx3
  · refine keepsS_ite ?_ ?_
    · exact Keeps.transS hx3 (State.cmdErr_keeps _ _)
    · refine keepsS_ite ?_ ?_
      · exact Keeps.transS hx3 (State.sbBusyErr_keeps _)
      · split
        · exact Keeps.transS hx3 (State.autoExec_keeps _ _)
        · exact Keeps.transS hx3 (State.autoExec_keeps _ _)
        · exact Keeps.transS hx3 (State.autoExec_keeps _ _)
        · exact Keeps.transS hx3 (State.autoExec_keeps _ _)
        · exact keepsS_ite (Keeps.transS hx3 (State.sbAccess_keeps _ _)) hx3
        · exact hx3

theorem State.dmWrite_keeps (s0 : State) (b1 : Nat) (b2 : Word) : Keeps s0 (State.dmWrite s0 b1 b2) := by
  have h0 := Keeps.refl s0
  unfold State.dmWrite
  extract_lets -merge +onlyGivenNames x1
  try clear_value x1
  refine keepsS_ite ?_ ?_
  · exact Keeps.transS h0 (State.dmactive_keeps _ _)
  · refine keepsS_ite ?_ ?_
    · exact h0
    · refine keepsS_ite ?_ ?_
      · exact Keeps.transS h0 (State.cmdErr_keeps _ _)
      · refine keepsS_ite ?_ ?_
        · exact Keeps.transS h0 (State.sbBusyErr_keeps _)
        · split
          · refine Keeps.transS ?_ (State.autoExec_keeps _ _)
            exact Keeps.upd h0 rfl
          · refine Keeps.transS ?_ (State.autoExec_keeps _ _)
            exact Keeps.upd h0 rfl
          · exact Keeps.transS h0 (State.dmControl_keeps _ _)
          · exact Keeps.upd h0 rfl
          · exact Keeps.transS h0 (State.dmCommand_keeps _ _)
          · exact Keeps.upd h0 rfl
          · refine Keeps.transS ?_ (State.autoExec_keeps _ _)
            exact Keeps.upd h0 rfl
          · refine Keeps.transS ?_ (State.autoExec_keeps _ _)
            exact Keeps.upd h0 rfl
          · exact Keeps.upd h0 rfl
          · extract_lets -merge +onlyGivenNames x2
            have hx2 : Keeps s0 x2 := by unfold x2; exact Keeps.upd h0 rfl
            clear_value x2; revert x2 hx2; refine Keeps.gen fun x2 hx2 => ?_
            exact keepsS_ite (Keeps.transS hx2 (State.sbAccess_keeps _ _)) hx2
          · refine Keeps.transS ?_ (State.sbAccess_keeps _ _)
            exact Keeps.upd h0 rfl
          · exact h0

theorem State.dmiUpdate_keeps (s0 : State) : Keeps s0 (State.dmiUpdate s0) := by
  have h0 := Keeps.refl s0
  unfold State.dmiUpdate
  extract_lets -merge +onlyGivenNames x1
  try clear_value x1
  extract_lets -merge +onlyGivenNames x2
  try clear_value x2
  extract_lets -merge +onlyGivenNames x3
  try clear_value x3
  split
  · exact Keeps.transS h0 (State.dmRead_keeps _ _)
  · exact Keeps.transS h0 (State.dmWrite_keeps _ _ _)
  · exact h0

theorem execDebugResumeRequest_keeps (b0 : CoreId) (s0 : State) : KeepsO s0 (execDebugResumeRequest b0 s0) := by
  have h0 := Keeps.refl s0
  unfold execDebugResumeRequest
  refine Keeps.transO ?_ (doneW_keeps _)
  exact keepsS_ite (Keeps.transS h0 (State.debugResume_keeps _ _)) h0

theorem execTckCycle_keeps (b0 : Bool) (b1 : Bool) (s0 : State) : KeepsO s0 (execTckCycle b0 b1 s0) := by
  have h0 := Keeps.refl s0
  unfold execTckCycle
  extract_lets -merge +onlyGivenNames x1
  have hx1 : Keeps s0 x1 := by unfold x1; exact Keeps.transS h0 (State.tapClock_keeps _ _ _)
  clear_value x1; revert x1 hx1; refine Keeps.gen fun x1 hx1 => ?_
  refine Keeps.transO ?_ (doneW_keeps _)
  exact keepsS_ite (Keeps.transS hx1 (State.dmiUpdate_keeps _)) hx1

end Sys2Proof.Machine
end

