-- ==== Sys2Proof/Laws/State.lean ====
section
/-! SUPPORT. What the named updates of the state leave: one lemma per field and per reader, so that no proof unfolds a record update. -/

namespace Sys2Proof.Machine

/-! ### `setReg` -/

@[simp] theorem State.setReg_now (s : State) (a : Nat) (w : Word) : (s.setReg a w).now = s.now := rfl
@[simp] theorem State.setReg_shadow (s : State) (a : Nat) (w : Word) : (s.setReg a w).shadow = s.shadow := rfl
@[simp] theorem State.setReg_waits (s : State) (a : Nat) (w : Word) : (s.setReg a w).waits = s.waits := rfl
@[simp] theorem State.setReg_armed (s : State) (a : Nat) (w : Word) : (s.setReg a w).armed = s.armed := rfl
@[simp] theorem State.setReg_mem (s : State) (a : Nat) (w : Word) : (s.setReg a w).mem = s.mem := rfl
@[simp] theorem State.setReg_lost (s : State) (a : Nat) (w : Word) : (s.setReg a w).lost = s.lost := rfl
@[simp] theorem State.setReg_cfg (s : State) (a : Nat) (w : Word) : (s.setReg a w).cfg = s.cfg := rfl
@[simp] theorem State.setReg_core0 (s : State) (a : Nat) (w : Word) : (s.setReg a w).core0 = s.core0 := rfl
@[simp] theorem State.setReg_core1 (s : State) (a : Nat) (w : Word) : (s.setReg a w).core1 = s.core1 := rfl
@[simp] theorem State.setReg_dbg (s : State) (a : Nat) (w : Word) : (s.setReg a w).dbg = s.dbg := rfl
@[simp] theorem State.setReg_tap (s : State) (a : Nat) (w : Word) : (s.setReg a w).tap = s.tap := rfl
@[simp] theorem State.setReg_icol0 (s : State) (a : Nat) (w : Word) : (s.setReg a w).icol0 = s.icol0 := rfl
@[simp] theorem State.setReg_icol1 (s : State) (a : Nat) (w : Word) : (s.setReg a w).icol1 = s.icol1 := rfl
@[simp] theorem State.setReg_ctxs (s : State) (a : Nat) (w : Word) : (s.setReg a w).ctxs = s.ctxs := rfl
@[simp] theorem State.setReg_engs (s : State) (a : Nat) (w : Word) : (s.setReg a w).engs = s.engs := rfl
@[simp] theorem State.setReg_txq (s : State) (a : Nat) (w : Word) : (s.setReg a w).txq = s.txq := rfl
@[simp] theorem State.setReg_txOrder (s : State) (a : Nat) (w : Word) : (s.setReg a w).txOrder = s.txOrder := rfl
@[simp] theorem State.setReg_rfe (s : State) (a : Nat) (w : Word) : (s.setReg a w).rfe = s.rfe := rfl
@[simp] theorem State.setReg_lanes (s : State) (a : Nat) (w : Word) : (s.setReg a w).lanes = s.lanes := rfl
@[simp] theorem State.setReg_env (s : State) (a : Nat) (w : Word) : (s.setReg a w).env = s.env := rfl
@[simp] theorem State.setReg_ldr (s : State) (a : Nat) (w : Word) : (s.setReg a w).ldr = s.ldr := rfl
@[simp] theorem State.setReg_link (s : State) (a : Nat) (w : Word) : (s.setReg a w).link = s.link := rfl
@[simp] theorem State.setReg_tb (s : State) (a : Nat) (w : Word) : (s.setReg a w).tb = s.tb := rfl
@[simp] theorem State.setReg_ciph (s : State) (a : Nat) (w : Word) : (s.setReg a w).ciph = s.ciph := rfl
@[simp] theorem State.setReg_memc (s : State) (a : Nat) (w : Word) : (s.setReg a w).memc = s.memc := rfl
@[simp] theorem State.setReg_flc (s : State) (a : Nat) (w : Word) : (s.setReg a w).flc = s.flc := rfl
@[simp] theorem State.setReg_pwr (s : State) (a : Nat) (w : Word) : (s.setReg a w).pwr = s.pwr := rfl
@[simp] theorem State.setReg_rtc (s : State) (a : Nat) (w : Word) : (s.setReg a w).rtc = s.rtc := rfl
@[simp] theorem State.setReg_start (s : State) (a : Nat) (w : Word) : (s.setReg a w).start = s.start := rfl
@[simp] theorem State.setReg_upd (s : State) (a : Nat) (w : Word) : (s.setReg a w).upd = s.upd := rfl
@[simp] theorem State.setReg_host (s : State) (a : Nat) (w : Word) : (s.setReg a w).host = s.host := rfl
@[simp] theorem State.setReg_uart0 (s : State) (a : Nat) (w : Word) : (s.setReg a w).uart0 = s.uart0 := rfl
@[simp] theorem State.setReg_uart1 (s : State) (a : Nat) (w : Word) : (s.setReg a w).uart1 = s.uart1 := rfl
@[simp] theorem State.setReg_spic0 (s : State) (a : Nat) (w : Word) : (s.setReg a w).spic0 = s.spic0 := rfl
@[simp] theorem State.setReg_spic1 (s : State) (a : Nat) (w : Word) : (s.setReg a w).spic1 = s.spic1 := rfl
@[simp] theorem State.setReg_i2c0 (s : State) (a : Nat) (w : Word) : (s.setReg a w).i2c0 = s.i2c0 := rfl
@[simp] theorem State.setReg_i2c1 (s : State) (a : Nat) (w : Word) : (s.setReg a w).i2c1 = s.i2c1 := rfl
@[simp] theorem State.setReg_sadc (s : State) (a : Nat) (w : Word) : (s.setReg a w).sadc = s.sadc := rfl
@[simp] theorem State.setReg_tmrs (s : State) (a : Nat) (w : Word) : (s.setReg a w).tmrs = s.tmrs := rfl
@[simp] theorem State.setReg_wdt0 (s : State) (a : Nat) (w : Word) : (s.setReg a w).wdt0 = s.wdt0 := rfl
@[simp] theorem State.setReg_wdt1 (s : State) (a : Nat) (w : Word) : (s.setReg a w).wdt1 = s.wdt1 := rfl
@[simp] theorem State.setReg_pins (s : State) (a : Nat) (w : Word) : (s.setReg a w).pins = s.pins := rfl
@[simp] theorem State.setReg_die (s : State) (a : Nat) (w : Word) : (s.setReg a w).die = s.die := rfl
@[simp] theorem State.setReg_evl (s : State) (a : Nat) (w : Word) : (s.setReg a w).evl = s.evl := rfl
@[simp] theorem State.setReg_snap (s : State) (a : Nat) (w : Word) : (s.setReg a w).snap = s.snap := rfl
@[simp] theorem State.setReg_free (s : State) (a : Nat) (w : Word) : (s.setReg a w).free = s.free := rfl
@[simp] theorem State.setReg_pending (s : State) (a : Nat) (w : Word) : (s.setReg a w).pending = s.pending := rfl
@[simp] theorem State.setReg_byte (s : State) (a : Nat) (w : Word) (x₀ : Nat) : (s.setReg a w).byte x₀ = s.byte x₀ := rfl
@[simp] theorem State.setReg_word (s : State) (a : Nat) (w : Word) (x₀ : Nat) : (s.setReg a w).word x₀ = s.word x₀ := rfl
@[simp] theorem State.setReg_ctx (s : State) (a : Nat) (w : Word) (x₀ y₀ : Nat) : (s.setReg a w).ctx x₀ y₀ = s.ctx x₀ y₀ := rfl
@[simp] theorem State.setReg_eng (s : State) (a : Nat) (w : Word) (x₀ : Nat) : (s.setReg a w).eng x₀ = s.eng x₀ := rfl
@[simp] theorem State.setReg_lane (s : State) (a : Nat) (w : Word) (x₀ : Nat) : (s.setReg a w).lane x₀ = s.lane x₀ := rfl
@[simp] theorem State.setReg_tmr (s : State) (a : Nat) (w : Word) (x₀ : Nat) : (s.setReg a w).tmr x₀ = s.tmr x₀ := rfl
@[simp] theorem State.setReg_core (s : State) (a : Nat) (w : Word) (x₀ : CoreId) : (s.setReg a w).core x₀ = s.core x₀ := by cases x₀ <;> rfl
@[simp] theorem State.setReg_icol (s : State) (a : Nat) (w : Word) (x₀ : CoreId) : (s.setReg a w).icol x₀ = s.icol x₀ := by cases x₀ <;> rfl
@[simp] theorem State.setReg_us (s : State) (a : Nat) (w : Word) : (s.setReg a w).us = s.us := rfl
@[simp] theorem State.setReg_net (s : State) (a : Nat) (w : Word) : (s.setReg a w).net = s.net := rfl
@[simp] theorem State.setReg_awake (s : State) (a : Nat) (w : Word) : (s.setReg a w).awake = s.awake := rfl
@[simp] theorem State.setReg_bank (s : State) (a : Nat) (w : Word) (x₀ : Nat) : (s.setReg a w).bank x₀ = s.bank x₀ := rfl

/-! ### `put` -/

@[simp] theorem State.put_now (s : State) (f : Field) (v : Nat) : (s.put f v).now = s.now := rfl
@[simp] theorem State.put_shadow (s : State) (f : Field) (v : Nat) : (s.put f v).shadow = s.shadow := rfl
@[simp] theorem State.put_waits (s : State) (f : Field) (v : Nat) : (s.put f v).waits = s.waits := rfl
@[simp] theorem State.put_armed (s : State) (f : Field) (v : Nat) : (s.put f v).armed = s.armed := rfl
@[simp] theorem State.put_mem (s : State) (f : Field) (v : Nat) : (s.put f v).mem = s.mem := rfl
@[simp] theorem State.put_lost (s : State) (f : Field) (v : Nat) : (s.put f v).lost = s.lost := rfl
@[simp] theorem State.put_cfg (s : State) (f : Field) (v : Nat) : (s.put f v).cfg = s.cfg := rfl
@[simp] theorem State.put_core0 (s : State) (f : Field) (v : Nat) : (s.put f v).core0 = s.core0 := rfl
@[simp] theorem State.put_core1 (s : State) (f : Field) (v : Nat) : (s.put f v).core1 = s.core1 := rfl
@[simp] theorem State.put_dbg (s : State) (f : Field) (v : Nat) : (s.put f v).dbg = s.dbg := rfl
@[simp] theorem State.put_tap (s : State) (f : Field) (v : Nat) : (s.put f v).tap = s.tap := rfl
@[simp] theorem State.put_icol0 (s : State) (f : Field) (v : Nat) : (s.put f v).icol0 = s.icol0 := rfl
@[simp] theorem State.put_icol1 (s : State) (f : Field) (v : Nat) : (s.put f v).icol1 = s.icol1 := rfl
@[simp] theorem State.put_ctxs (s : State) (f : Field) (v : Nat) : (s.put f v).ctxs = s.ctxs := rfl
@[simp] theorem State.put_engs (s : State) (f : Field) (v : Nat) : (s.put f v).engs = s.engs := rfl
@[simp] theorem State.put_txq (s : State) (f : Field) (v : Nat) : (s.put f v).txq = s.txq := rfl
@[simp] theorem State.put_txOrder (s : State) (f : Field) (v : Nat) : (s.put f v).txOrder = s.txOrder := rfl
@[simp] theorem State.put_rfe (s : State) (f : Field) (v : Nat) : (s.put f v).rfe = s.rfe := rfl
@[simp] theorem State.put_lanes (s : State) (f : Field) (v : Nat) : (s.put f v).lanes = s.lanes := rfl
@[simp] theorem State.put_env (s : State) (f : Field) (v : Nat) : (s.put f v).env = s.env := rfl
@[simp] theorem State.put_ldr (s : State) (f : Field) (v : Nat) : (s.put f v).ldr = s.ldr := rfl
@[simp] theorem State.put_link (s : State) (f : Field) (v : Nat) : (s.put f v).link = s.link := rfl
@[simp] theorem State.put_tb (s : State) (f : Field) (v : Nat) : (s.put f v).tb = s.tb := rfl
@[simp] theorem State.put_ciph (s : State) (f : Field) (v : Nat) : (s.put f v).ciph = s.ciph := rfl
@[simp] theorem State.put_memc (s : State) (f : Field) (v : Nat) : (s.put f v).memc = s.memc := rfl
@[simp] theorem State.put_flc (s : State) (f : Field) (v : Nat) : (s.put f v).flc = s.flc := rfl
@[simp] theorem State.put_pwr (s : State) (f : Field) (v : Nat) : (s.put f v).pwr = s.pwr := rfl
@[simp] theorem State.put_rtc (s : State) (f : Field) (v : Nat) : (s.put f v).rtc = s.rtc := rfl
@[simp] theorem State.put_start (s : State) (f : Field) (v : Nat) : (s.put f v).start = s.start := rfl
@[simp] theorem State.put_upd (s : State) (f : Field) (v : Nat) : (s.put f v).upd = s.upd := rfl
@[simp] theorem State.put_host (s : State) (f : Field) (v : Nat) : (s.put f v).host = s.host := rfl
@[simp] theorem State.put_uart0 (s : State) (f : Field) (v : Nat) : (s.put f v).uart0 = s.uart0 := rfl
@[simp] theorem State.put_uart1 (s : State) (f : Field) (v : Nat) : (s.put f v).uart1 = s.uart1 := rfl
@[simp] theorem State.put_spic0 (s : State) (f : Field) (v : Nat) : (s.put f v).spic0 = s.spic0 := rfl
@[simp] theorem State.put_spic1 (s : State) (f : Field) (v : Nat) : (s.put f v).spic1 = s.spic1 := rfl
@[simp] theorem State.put_i2c0 (s : State) (f : Field) (v : Nat) : (s.put f v).i2c0 = s.i2c0 := rfl
@[simp] theorem State.put_i2c1 (s : State) (f : Field) (v : Nat) : (s.put f v).i2c1 = s.i2c1 := rfl
@[simp] theorem State.put_sadc (s : State) (f : Field) (v : Nat) : (s.put f v).sadc = s.sadc := rfl
@[simp] theorem State.put_tmrs (s : State) (f : Field) (v : Nat) : (s.put f v).tmrs = s.tmrs := rfl
@[simp] theorem State.put_wdt0 (s : State) (f : Field) (v : Nat) : (s.put f v).wdt0 = s.wdt0 := rfl
@[simp] theorem State.put_wdt1 (s : State) (f : Field) (v : Nat) : (s.put f v).wdt1 = s.wdt1 := rfl
@[simp] theorem State.put_pins (s : State) (f : Field) (v : Nat) : (s.put f v).pins = s.pins := rfl
@[simp] theorem State.put_die (s : State) (f : Field) (v : Nat) : (s.put f v).die = s.die := rfl
@[simp] theorem State.put_evl (s : State) (f : Field) (v : Nat) : (s.put f v).evl = s.evl := rfl
@[simp] theorem State.put_snap (s : State) (f : Field) (v : Nat) : (s.put f v).snap = s.snap := rfl
@[simp] theorem State.put_free (s : State) (f : Field) (v : Nat) : (s.put f v).free = s.free := rfl
@[simp] theorem State.put_pending (s : State) (f : Field) (v : Nat) : (s.put f v).pending = s.pending := rfl
@[simp] theorem State.put_byte (s : State) (f : Field) (v : Nat) (x₀ : Nat) : (s.put f v).byte x₀ = s.byte x₀ := rfl
@[simp] theorem State.put_word (s : State) (f : Field) (v : Nat) (x₀ : Nat) : (s.put f v).word x₀ = s.word x₀ := rfl
@[simp] theorem State.put_ctx (s : State) (f : Field) (v : Nat) (x₀ y₀ : Nat) : (s.put f v).ctx x₀ y₀ = s.ctx x₀ y₀ := rfl
@[simp] theorem State.put_eng (s : State) (f : Field) (v : Nat) (x₀ : Nat) : (s.put f v).eng x₀ = s.eng x₀ := rfl
@[simp] theorem State.put_lane (s : State) (f : Field) (v : Nat) (x₀ : Nat) : (s.put f v).lane x₀ = s.lane x₀ := rfl
@[simp] theorem State.put_tmr (s : State) (f : Field) (v : Nat) (x₀ : Nat) : (s.put f v).tmr x₀ = s.tmr x₀ := rfl
@[simp] theorem State.put_core (s : State) (f : Field) (v : Nat) (x₀ : CoreId) : (s.put f v).core x₀ = s.core x₀ := by cases x₀ <;> rfl
@[simp] theorem State.put_icol (s : State) (f : Field) (v : Nat) (x₀ : CoreId) : (s.put f v).icol x₀ = s.icol x₀ := by cases x₀ <;> rfl
@[simp] theorem State.put_us (s : State) (f : Field) (v : Nat) : (s.put f v).us = s.us := rfl
@[simp] theorem State.put_net (s : State) (f : Field) (v : Nat) : (s.put f v).net = s.net := rfl
@[simp] theorem State.put_awake (s : State) (f : Field) (v : Nat) : (s.put f v).awake = s.awake := rfl
@[simp] theorem State.put_bank (s : State) (f : Field) (v : Nat) (x₀ : Nat) : (s.put f v).bank x₀ = s.bank x₀ := rfl

/-! ### `count` -/

@[simp] theorem State.count_now (s : State) (f : Field) : (s.count f).now = s.now := rfl
@[simp] theorem State.count_shadow (s : State) (f : Field) : (s.count f).shadow = s.shadow := rfl
@[simp] theorem State.count_waits (s : State) (f : Field) : (s.count f).waits = s.waits := rfl
@[simp] theorem State.count_armed (s : State) (f : Field) : (s.count f).armed = s.armed := rfl
@[simp] theorem State.count_mem (s : State) (f : Field) : (s.count f).mem = s.mem := rfl
@[simp] theorem State.count_lost (s : State) (f : Field) : (s.count f).lost = s.lost := rfl
@[simp] theorem State.count_cfg (s : State) (f : Field) : (s.count f).cfg = s.cfg := rfl
@[simp] theorem State.count_core0 (s : State) (f : Field) : (s.count f).core0 = s.core0 := rfl
@[simp] theorem State.count_core1 (s : State) (f : Field) : (s.count f).core1 = s.core1 := rfl
@[simp] theorem State.count_dbg (s : State) (f : Field) : (s.count f).dbg = s.dbg := rfl
@[simp] theorem State.count_tap (s : State) (f : Field) : (s.count f).tap = s.tap := rfl
@[simp] theorem State.count_icol0 (s : State) (f : Field) : (s.count f).icol0 = s.icol0 := rfl
@[simp] theorem State.count_icol1 (s : State) (f : Field) : (s.count f).icol1 = s.icol1 := rfl
@[simp] theorem State.count_ctxs (s : State) (f : Field) : (s.count f).ctxs = s.ctxs := rfl
@[simp] theorem State.count_engs (s : State) (f : Field) : (s.count f).engs = s.engs := rfl
@[simp] theorem State.count_txq (s : State) (f : Field) : (s.count f).txq = s.txq := rfl
@[simp] theorem State.count_txOrder (s : State) (f : Field) : (s.count f).txOrder = s.txOrder := rfl
@[simp] theorem State.count_rfe (s : State) (f : Field) : (s.count f).rfe = s.rfe := rfl
@[simp] theorem State.count_lanes (s : State) (f : Field) : (s.count f).lanes = s.lanes := rfl
@[simp] theorem State.count_env (s : State) (f : Field) : (s.count f).env = s.env := rfl
@[simp] theorem State.count_ldr (s : State) (f : Field) : (s.count f).ldr = s.ldr := rfl
@[simp] theorem State.count_link (s : State) (f : Field) : (s.count f).link = s.link := rfl
@[simp] theorem State.count_tb (s : State) (f : Field) : (s.count f).tb = s.tb := rfl
@[simp] theorem State.count_ciph (s : State) (f : Field) : (s.count f).ciph = s.ciph := rfl
@[simp] theorem State.count_memc (s : State) (f : Field) : (s.count f).memc = s.memc := rfl
@[simp] theorem State.count_flc (s : State) (f : Field) : (s.count f).flc = s.flc := rfl
@[simp] theorem State.count_pwr (s : State) (f : Field) : (s.count f).pwr = s.pwr := rfl
@[simp] theorem State.count_rtc (s : State) (f : Field) : (s.count f).rtc = s.rtc := rfl
@[simp] theorem State.count_start (s : State) (f : Field) : (s.count f).start = s.start := rfl
@[simp] theorem State.count_upd (s : State) (f : Field) : (s.count f).upd = s.upd := rfl
@[simp] theorem State.count_host (s : State) (f : Field) : (s.count f).host = s.host := rfl
@[simp] theorem State.count_uart0 (s : State) (f : Field) : (s.count f).uart0 = s.uart0 := rfl
@[simp] theorem State.count_uart1 (s : State) (f : Field) : (s.count f).uart1 = s.uart1 := rfl
@[simp] theorem State.count_spic0 (s : State) (f : Field) : (s.count f).spic0 = s.spic0 := rfl
@[simp] theorem State.count_spic1 (s : State) (f : Field) : (s.count f).spic1 = s.spic1 := rfl
@[simp] theorem State.count_i2c0 (s : State) (f : Field) : (s.count f).i2c0 = s.i2c0 := rfl
@[simp] theorem State.count_i2c1 (s : State) (f : Field) : (s.count f).i2c1 = s.i2c1 := rfl
@[simp] theorem State.count_sadc (s : State) (f : Field) : (s.count f).sadc = s.sadc := rfl
@[simp] theorem State.count_tmrs (s : State) (f : Field) : (s.count f).tmrs = s.tmrs := rfl
@[simp] theorem State.count_wdt0 (s : State) (f : Field) : (s.count f).wdt0 = s.wdt0 := rfl
@[simp] theorem State.count_wdt1 (s : State) (f : Field) : (s.count f).wdt1 = s.wdt1 := rfl
@[simp] theorem State.count_pins (s : State) (f : Field) : (s.count f).pins = s.pins := rfl
@[simp] theorem State.count_die (s : State) (f : Field) : (s.count f).die = s.die := rfl
@[simp] theorem State.count_evl (s : State) (f : Field) : (s.count f).evl = s.evl := rfl
@[simp] theorem State.count_snap (s : State) (f : Field) : (s.count f).snap = s.snap := rfl
@[simp] theorem State.count_free (s : State) (f : Field) : (s.count f).free = s.free := rfl
@[simp] theorem State.count_pending (s : State) (f : Field) : (s.count f).pending = s.pending := rfl
@[simp] theorem State.count_byte (s : State) (f : Field) (x₀ : Nat) : (s.count f).byte x₀ = s.byte x₀ := rfl
@[simp] theorem State.count_word (s : State) (f : Field) (x₀ : Nat) : (s.count f).word x₀ = s.word x₀ := rfl
@[simp] theorem State.count_ctx (s : State) (f : Field) (x₀ y₀ : Nat) : (s.count f).ctx x₀ y₀ = s.ctx x₀ y₀ := rfl
@[simp] theorem State.count_eng (s : State) (f : Field) (x₀ : Nat) : (s.count f).eng x₀ = s.eng x₀ := rfl
@[simp] theorem State.count_lane (s : State) (f : Field) (x₀ : Nat) : (s.count f).lane x₀ = s.lane x₀ := rfl
@[simp] theorem State.count_tmr (s : State) (f : Field) (x₀ : Nat) : (s.count f).tmr x₀ = s.tmr x₀ := rfl
@[simp] theorem State.count_core (s : State) (f : Field) (x₀ : CoreId) : (s.count f).core x₀ = s.core x₀ := by cases x₀ <;> rfl
@[simp] theorem State.count_icol (s : State) (f : Field) (x₀ : CoreId) : (s.count f).icol x₀ = s.icol x₀ := by cases x₀ <;> rfl
@[simp] theorem State.count_us (s : State) (f : Field) : (s.count f).us = s.us := rfl
@[simp] theorem State.count_net (s : State) (f : Field) : (s.count f).net = s.net := rfl
@[simp] theorem State.count_awake (s : State) (f : Field) : (s.count f).awake = s.awake := rfl
@[simp] theorem State.count_bank (s : State) (f : Field) (x₀ : Nat) : (s.count f).bank x₀ = s.bank x₀ := rfl

/-! ### `setByte` -/

@[simp] theorem State.setByte_now (s : State) (a : Nat) (b : Byte) : (s.setByte a b).now = s.now := rfl
@[simp] theorem State.setByte_regs (s : State) (a : Nat) (b : Byte) : (s.setByte a b).regs = s.regs := rfl
@[simp] theorem State.setByte_shadow (s : State) (a : Nat) (b : Byte) : (s.setByte a b).shadow = s.shadow := rfl
@[simp] theorem State.setByte_waits (s : State) (a : Nat) (b : Byte) : (s.setByte a b).waits = s.waits := rfl
@[simp] theorem State.setByte_armed (s : State) (a : Nat) (b : Byte) : (s.setByte a b).armed = s.armed := rfl
@[simp] theorem State.setByte_lost (s : State) (a : Nat) (b : Byte) : (s.setByte a b).lost = s.lost := rfl
@[simp] theorem State.setByte_cfg (s : State) (a : Nat) (b : Byte) : (s.setByte a b).cfg = s.cfg := rfl
@[simp] theorem State.setByte_core0 (s : State) (a : Nat) (b : Byte) : (s.setByte a b).core0 = s.core0 := rfl
@[simp] theorem State.setByte_core1 (s : State) (a : Nat) (b : Byte) : (s.setByte a b).core1 = s.core1 := rfl
@[simp] theorem State.setByte_dbg (s : State) (a : Nat) (b : Byte) : (s.setByte a b).dbg = s.dbg := rfl
@[simp] theorem State.setByte_tap (s : State) (a : Nat) (b : Byte) : (s.setByte a b).tap = s.tap := rfl
@[simp] theorem State.setByte_icol0 (s : State) (a : Nat) (b : Byte) : (s.setByte a b).icol0 = s.icol0 := rfl
@[simp] theorem State.setByte_icol1 (s : State) (a : Nat) (b : Byte) : (s.setByte a b).icol1 = s.icol1 := rfl
@[simp] theorem State.setByte_ctxs (s : State) (a : Nat) (b : Byte) : (s.setByte a b).ctxs = s.ctxs := rfl
@[simp] theorem State.setByte_engs (s : State) (a : Nat) (b : Byte) : (s.setByte a b).engs = s.engs := rfl
@[simp] theorem State.setByte_txq (s : State) (a : Nat) (b : Byte) : (s.setByte a b).txq = s.txq := rfl
@[simp] theorem State.setByte_txOrder (s : State) (a : Nat) (b : Byte) : (s.setByte a b).txOrder = s.txOrder := rfl
@[simp] theorem State.setByte_rfe (s : State) (a : Nat) (b : Byte) : (s.setByte a b).rfe = s.rfe := rfl
@[simp] theorem State.setByte_lanes (s : State) (a : Nat) (b : Byte) : (s.setByte a b).lanes = s.lanes := rfl
@[simp] theorem State.setByte_env (s : State) (a : Nat) (b : Byte) : (s.setByte a b).env = s.env := rfl
@[simp] theorem State.setByte_ldr (s : State) (a : Nat) (b : Byte) : (s.setByte a b).ldr = s.ldr := rfl
@[simp] theorem State.setByte_link (s : State) (a : Nat) (b : Byte) : (s.setByte a b).link = s.link := rfl
@[simp] theorem State.setByte_tb (s : State) (a : Nat) (b : Byte) : (s.setByte a b).tb = s.tb := rfl
@[simp] theorem State.setByte_ciph (s : State) (a : Nat) (b : Byte) : (s.setByte a b).ciph = s.ciph := rfl
@[simp] theorem State.setByte_memc (s : State) (a : Nat) (b : Byte) : (s.setByte a b).memc = s.memc := rfl
@[simp] theorem State.setByte_flc (s : State) (a : Nat) (b : Byte) : (s.setByte a b).flc = s.flc := rfl
@[simp] theorem State.setByte_pwr (s : State) (a : Nat) (b : Byte) : (s.setByte a b).pwr = s.pwr := rfl
@[simp] theorem State.setByte_rtc (s : State) (a : Nat) (b : Byte) : (s.setByte a b).rtc = s.rtc := rfl
@[simp] theorem State.setByte_start (s : State) (a : Nat) (b : Byte) : (s.setByte a b).start = s.start := rfl
@[simp] theorem State.setByte_upd (s : State) (a : Nat) (b : Byte) : (s.setByte a b).upd = s.upd := rfl
@[simp] theorem State.setByte_host (s : State) (a : Nat) (b : Byte) : (s.setByte a b).host = s.host := rfl
@[simp] theorem State.setByte_uart0 (s : State) (a : Nat) (b : Byte) : (s.setByte a b).uart0 = s.uart0 := rfl
@[simp] theorem State.setByte_uart1 (s : State) (a : Nat) (b : Byte) : (s.setByte a b).uart1 = s.uart1 := rfl
@[simp] theorem State.setByte_spic0 (s : State) (a : Nat) (b : Byte) : (s.setByte a b).spic0 = s.spic0 := rfl
@[simp] theorem State.setByte_spic1 (s : State) (a : Nat) (b : Byte) : (s.setByte a b).spic1 = s.spic1 := rfl
@[simp] theorem State.setByte_i2c0 (s : State) (a : Nat) (b : Byte) : (s.setByte a b).i2c0 = s.i2c0 := rfl
@[simp] theorem State.setByte_i2c1 (s : State) (a : Nat) (b : Byte) : (s.setByte a b).i2c1 = s.i2c1 := rfl
@[simp] theorem State.setByte_sadc (s : State) (a : Nat) (b : Byte) : (s.setByte a b).sadc = s.sadc := rfl
@[simp] theorem State.setByte_tmrs (s : State) (a : Nat) (b : Byte) : (s.setByte a b).tmrs = s.tmrs := rfl
@[simp] theorem State.setByte_wdt0 (s : State) (a : Nat) (b : Byte) : (s.setByte a b).wdt0 = s.wdt0 := rfl
@[simp] theorem State.setByte_wdt1 (s : State) (a : Nat) (b : Byte) : (s.setByte a b).wdt1 = s.wdt1 := rfl
@[simp] theorem State.setByte_pins (s : State) (a : Nat) (b : Byte) : (s.setByte a b).pins = s.pins := rfl
@[simp] theorem State.setByte_die (s : State) (a : Nat) (b : Byte) : (s.setByte a b).die = s.die := rfl
@[simp] theorem State.setByte_evl (s : State) (a : Nat) (b : Byte) : (s.setByte a b).evl = s.evl := rfl
@[simp] theorem State.setByte_snap (s : State) (a : Nat) (b : Byte) : (s.setByte a b).snap = s.snap := rfl
@[simp] theorem State.setByte_free (s : State) (a : Nat) (b : Byte) : (s.setByte a b).free = s.free := rfl
@[simp] theorem State.setByte_pending (s : State) (a : Nat) (b : Byte) : (s.setByte a b).pending = s.pending := rfl
@[simp] theorem State.setByte_reg (s : State) (a : Nat) (b : Byte) (x₀ : Nat) : (s.setByte a b).reg x₀ = s.reg x₀ := rfl
@[simp] theorem State.setByte_get (s : State) (a : Nat) (b : Byte) (x₀ : Field) : (s.setByte a b).get x₀ = s.get x₀ := rfl
@[simp] theorem State.setByte_flag (s : State) (a : Nat) (b : Byte) (x₀ : Field) : (s.setByte a b).flag x₀ = s.flag x₀ := rfl
@[simp] theorem State.setByte_ctx (s : State) (a : Nat) (b : Byte) (x₀ y₀ : Nat) : (s.setByte a b).ctx x₀ y₀ = s.ctx x₀ y₀ := rfl
@[simp] theorem State.setByte_eng (s : State) (a : Nat) (b : Byte) (x₀ : Nat) : (s.setByte a b).eng x₀ = s.eng x₀ := rfl
@[simp] theorem State.setByte_lane (s : State) (a : Nat) (b : Byte) (x₀ : Nat) : (s.setByte a b).lane x₀ = s.lane x₀ := rfl
@[simp] theorem State.setByte_tmr (s : State) (a : Nat) (b : Byte) (x₀ : Nat) : (s.setByte a b).tmr x₀ = s.tmr x₀ := rfl
@[simp] theorem State.setByte_core (s : State) (a : Nat) (b : Byte) (x₀ : CoreId) : (s.setByte a b).core x₀ = s.core x₀ := by cases x₀ <;> rfl
@[simp] theorem State.setByte_icol (s : State) (a : Nat) (b : Byte) (x₀ : CoreId) : (s.setByte a b).icol x₀ = s.icol x₀ := by cases x₀ <;> rfl
@[simp] theorem State.setByte_us (s : State) (a : Nat) (b : Byte) : (s.setByte a b).us = s.us := rfl
@[simp] theorem State.setByte_net (s : State) (a : Nat) (b : Byte) : (s.setByte a b).net = s.net := rfl
@[simp] theorem State.setByte_awake (s : State) (a : Nat) (b : Byte) : (s.setByte a b).awake = s.awake := rfl
@[simp] theorem State.setByte_bank (s : State) (a : Nat) (b : Byte) (x₀ : Nat) : (s.setByte a b).bank x₀ = s.bank x₀ := rfl
@[simp] theorem State.setByte_pend (s : State) (a : Nat) (b : Byte) : (s.setByte a b).pend = s.pend := rfl

/-! ### `clearRange` -/

@[simp] theorem State.clearRange_now (s : State) (a n : Nat) : (s.clearRange a n).now = s.now := rfl
@[simp] theorem State.clearRange_regs (s : State) (a n : Nat) : (s.clearRange a n).regs = s.regs := rfl
@[simp] theorem State.clearRange_shadow (s : State) (a n : Nat) : (s.clearRange a n).shadow = s.shadow := rfl
@[simp] theorem State.clearRange_waits (s : State) (a n : Nat) : (s.clearRange a n).waits = s.waits := rfl
@[simp] theorem State.clearRange_armed (s : State) (a n : Nat) : (s.clearRange a n).armed = s.armed := rfl
@[simp] theorem State.clearRange_cfg (s : State) (a n : Nat) : (s.clearRange a n).cfg = s.cfg := rfl
@[simp] theorem State.clearRange_core0 (s : State) (a n : Nat) : (s.clearRange a n).core0 = s.core0 := rfl
@[simp] theorem State.clearRange_core1 (s : State) (a n : Nat) : (s.clearRange a n).core1 = s.core1 := rfl
@[simp] theorem State.clearRange_dbg (s : State) (a n : Nat) : (s.clearRange a n).dbg = s.dbg := rfl
@[simp] theorem State.clearRange_tap (s : State) (a n : Nat) : (s.clearRange a n).tap = s.tap := rfl
@[simp] theorem State.clearRange_icol0 (s : State) (a n : Nat) : (s.clearRange a n).icol0 = s.icol0 := rfl
@[simp] theorem State.clearRange_icol1 (s : State) (a n : Nat) : (s.clearRange a n).icol1 = s.icol1 := rfl
@[simp] theorem State.clearRange_ctxs (s : State) (a n : Nat) : (s.clearRange a n).ctxs = s.ctxs := rfl
@[simp] theorem State.clearRange_engs (s : State) (a n : Nat) : (s.clearRange a n).engs = s.engs := rfl
@[simp] theorem State.clearRange_txq (s : State) (a n : Nat) : (s.clearRange a n).txq = s.txq := rfl
@[simp] theorem State.clearRange_txOrder (s : State) (a n : Nat) : (s.clearRange a n).txOrder = s.txOrder := rfl
@[simp] theorem State.clearRange_rfe (s : State) (a n : Nat) : (s.clearRange a n).rfe = s.rfe := rfl
@[simp] theorem State.clearRange_lanes (s : State) (a n : Nat) : (s.clearRange a n).lanes = s.lanes := rfl
@[simp] theorem State.clearRange_env (s : State) (a n : Nat) : (s.clearRange a n).env = s.env := rfl
@[simp] theorem State.clearRange_ldr (s : State) (a n : Nat) : (s.clearRange a n).ldr = s.ldr := rfl
@[simp] theorem State.clearRange_link (s : State) (a n : Nat) : (s.clearRange a n).link = s.link := rfl
@[simp] theorem State.clearRange_tb (s : State) (a n : Nat) : (s.clearRange a n).tb = s.tb := rfl
@[simp] theorem State.clearRange_ciph (s : State) (a n : Nat) : (s.clearRange a n).ciph = s.ciph := rfl
@[simp] theorem State.clearRange_memc (s : State) (a n : Nat) : (s.clearRange a n).memc = s.memc := rfl
@[simp] theorem State.clearRange_flc (s : State) (a n : Nat) : (s.clearRange a n).flc = s.flc := rfl
@[simp] theorem State.clearRange_pwr (s : State) (a n : Nat) : (s.clearRange a n).pwr = s.pwr := rfl
@[simp] theorem State.clearRange_rtc (s : State) (a n : Nat) : (s.clearRange a n).rtc = s.rtc := rfl
@[simp] theorem State.clearRange_start (s : State) (a n : Nat) : (s.clearRange a n).start = s.start := rfl
@[simp] theorem State.clearRange_upd (s : State) (a n : Nat) : (s.clearRange a n).upd = s.upd := rfl
@[simp] theorem State.clearRange_host (s : State) (a n : Nat) : (s.clearRange a n).host = s.host := rfl
@[simp] theorem State.clearRange_uart0 (s : State) (a n : Nat) : (s.clearRange a n).uart0 = s.uart0 := rfl
@[simp] theorem State.clearRange_uart1 (s : State) (a n : Nat) : (s.clearRange a n).uart1 = s.uart1 := rfl
@[simp] theorem State.clearRange_spic0 (s : State) (a n : Nat) : (s.clearRange a n).spic0 = s.spic0 := rfl
@[simp] theorem State.clearRange_spic1 (s : State) (a n : Nat) : (s.clearRange a n).spic1 = s.spic1 := rfl
@[simp] theorem State.clearRange_i2c0 (s : State) (a n : Nat) : (s.clearRange a n).i2c0 = s.i2c0 := rfl
@[simp] theorem State.clearRange_i2c1 (s : State) (a n : Nat) : (s.clearRange a n).i2c1 = s.i2c1 := rfl
@[simp] theorem State.clearRange_sadc (s : State) (a n : Nat) : (s.clearRange a n).sadc = s.sadc := rfl
@[simp] theorem State.clearRange_tmrs (s : State) (a n : Nat) : (s.clearRange a n).tmrs = s.tmrs := rfl
@[simp] theorem State.clearRange_wdt0 (s : State) (a n : Nat) : (s.clearRange a n).wdt0 = s.wdt0 := rfl
@[simp] theorem State.clearRange_wdt1 (s : State) (a n : Nat) : (s.clearRange a n).wdt1 = s.wdt1 := rfl
@[simp] theorem State.clearRange_pins (s : State) (a n : Nat) : (s.clearRange a n).pins = s.pins := rfl
@[simp] theorem State.clearRange_die (s : State) (a n : Nat) : (s.clearRange a n).die = s.die := rfl
@[simp] theorem State.clearRange_evl (s : State) (a n : Nat) : (s.clearRange a n).evl = s.evl := rfl
@[simp] theorem State.clearRange_snap (s : State) (a n : Nat) : (s.clearRange a n).snap = s.snap := rfl
@[simp] theorem State.clearRange_free (s : State) (a n : Nat) : (s.clearRange a n).free = s.free := rfl
@[simp] theorem State.clearRange_pending (s : State) (a n : Nat) : (s.clearRange a n).pending = s.pending := rfl
@[simp] theorem State.clearRange_reg (s : State) (a n : Nat) (x₀ : Nat) : (s.clearRange a n).reg x₀ = s.reg x₀ := rfl
@[simp] theorem State.clearRange_get (s : State) (a n : Nat) (x₀ : Field) : (s.clearRange a n).get x₀ = s.get x₀ := rfl
@[simp] theorem State.clearRange_flag (s : State) (a n : Nat) (x₀ : Field) : (s.clearRange a n).flag x₀ = s.flag x₀ := rfl
@[simp] theorem State.clearRange_ctx (s : State) (a n : Nat) (x₀ y₀ : Nat) : (s.clearRange a n).ctx x₀ y₀ = s.ctx x₀ y₀ := rfl
@[simp] theorem State.clearRange_eng (s : State) (a n : Nat) (x₀ : Nat) : (s.clearRange a n).eng x₀ = s.eng x₀ := rfl
@[simp] theorem State.clearRange_lane (s : State) (a n : Nat) (x₀ : Nat) : (s.clearRange a n).lane x₀ = s.lane x₀ := rfl
@[simp] theorem State.clearRange_tmr (s : State) (a n : Nat) (x₀ : Nat) : (s.clearRange a n).tmr x₀ = s.tmr x₀ := rfl
@[simp] theorem State.clearRange_core (s : State) (a n : Nat) (x₀ : CoreId) : (s.clearRange a n).core x₀ = s.core x₀ := by cases x₀ <;> rfl
@[simp] theorem State.clearRange_icol (s : State) (a n : Nat) (x₀ : CoreId) : (s.clearRange a n).icol x₀ = s.icol x₀ := by cases x₀ <;> rfl
@[simp] theorem State.clearRange_us (s : State) (a n : Nat) : (s.clearRange a n).us = s.us := rfl
@[simp] theorem State.clearRange_net (s : State) (a n : Nat) : (s.clearRange a n).net = s.net := rfl
@[simp] theorem State.clearRange_awake (s : State) (a n : Nat) : (s.clearRange a n).awake = s.awake := rfl
@[simp] theorem State.clearRange_bank (s : State) (a n : Nat) (x₀ : Nat) : (s.clearRange a n).bank x₀ = s.bank x₀ := rfl
@[simp] theorem State.clearRange_pend (s : State) (a n : Nat) : (s.clearRange a n).pend = s.pend := rfl

/-! ### `lose` -/

@[simp] theorem State.lose_now (s : State) (a n : Nat) : (s.lose a n).now = s.now := rfl
@[simp] theorem State.lose_regs (s : State) (a n : Nat) : (s.lose a n).regs = s.regs := rfl
@[simp] theorem State.lose_shadow (s : State) (a n : Nat) : (s.lose a n).shadow = s.shadow := rfl
@[simp] theorem State.lose_waits (s : State) (a n : Nat) : (s.lose a n).waits = s.waits := rfl
@[simp] theorem State.lose_armed (s : State) (a n : Nat) : (s.lose a n).armed = s.armed := rfl
@[simp] theorem State.lose_cfg (s : State) (a n : Nat) : (s.lose a n).cfg = s.cfg := rfl
@[simp] theorem State.lose_core0 (s : State) (a n : Nat) : (s.lose a n).core0 = s.core0 := rfl
@[simp] theorem State.lose_core1 (s : State) (a n : Nat) : (s.lose a n).core1 = s.core1 := rfl
@[simp] theorem State.lose_dbg (s : State) (a n : Nat) : (s.lose a n).dbg = s.dbg := rfl
@[simp] theorem State.lose_tap (s : State) (a n : Nat) : (s.lose a n).tap = s.tap := rfl
@[simp] theorem State.lose_icol0 (s : State) (a n : Nat) : (s.lose a n).icol0 = s.icol0 := rfl
@[simp] theorem State.lose_icol1 (s : State) (a n : Nat) : (s.lose a n).icol1 = s.icol1 := rfl
@[simp] theorem State.lose_ctxs (s : State) (a n : Nat) : (s.lose a n).ctxs = s.ctxs := rfl
@[simp] theorem State.lose_engs (s : State) (a n : Nat) : (s.lose a n).engs = s.engs := rfl
@[simp] theorem State.lose_txq (s : State) (a n : Nat) : (s.lose a n).txq = s.txq := rfl
@[simp] theorem State.lose_txOrder (s : State) (a n : Nat) : (s.lose a n).txOrder = s.txOrder := rfl
@[simp] theorem State.lose_rfe (s : State) (a n : Nat) : (s.lose a n).rfe = s.rfe := rfl
@[simp] theorem State.lose_lanes (s : State) (a n : Nat) : (s.lose a n).lanes = s.lanes := rfl
@[simp] theorem State.lose_env (s : State) (a n : Nat) : (s.lose a n).env = s.env := rfl
@[simp] theorem State.lose_ldr (s : State) (a n : Nat) : (s.lose a n).ldr = s.ldr := rfl
@[simp] theorem State.lose_link (s : State) (a n : Nat) : (s.lose a n).link = s.link := rfl
@[simp] theorem State.lose_tb (s : State) (a n : Nat) : (s.lose a n).tb = s.tb := rfl
@[simp] theorem State.lose_ciph (s : State) (a n : Nat) : (s.lose a n).ciph = s.ciph := rfl
@[simp] theorem State.lose_memc (s : State) (a n : Nat) : (s.lose a n).memc = s.memc := rfl
@[simp] theorem State.lose_flc (s : State) (a n : Nat) : (s.lose a n).flc = s.flc := rfl
@[simp] theorem State.lose_pwr (s : State) (a n : Nat) : (s.lose a n).pwr = s.pwr := rfl
@[simp] theorem State.lose_rtc (s : State) (a n : Nat) : (s.lose a n).rtc = s.rtc := rfl
@[simp] theorem State.lose_start (s : State) (a n : Nat) : (s.lose a n).start = s.start := rfl
@[simp] theorem State.lose_upd (s : State) (a n : Nat) : (s.lose a n).upd = s.upd := rfl
@[simp] theorem State.lose_host (s : State) (a n : Nat) : (s.lose a n).host = s.host := rfl
@[simp] theorem State.lose_uart0 (s : State) (a n : Nat) : (s.lose a n).uart0 = s.uart0 := rfl
@[simp] theorem State.lose_uart1 (s : State) (a n : Nat) : (s.lose a n).uart1 = s.uart1 := rfl
@[simp] theorem State.lose_spic0 (s : State) (a n : Nat) : (s.lose a n).spic0 = s.spic0 := rfl
@[simp] theorem State.lose_spic1 (s : State) (a n : Nat) : (s.lose a n).spic1 = s.spic1 := rfl
@[simp] theorem State.lose_i2c0 (s : State) (a n : Nat) : (s.lose a n).i2c0 = s.i2c0 := rfl
@[simp] theorem State.lose_i2c1 (s : State) (a n : Nat) : (s.lose a n).i2c1 = s.i2c1 := rfl
@[simp] theorem State.lose_sadc (s : State) (a n : Nat) : (s.lose a n).sadc = s.sadc := rfl
@[simp] theorem State.lose_tmrs (s : State) (a n : Nat) : (s.lose a n).tmrs = s.tmrs := rfl
@[simp] theorem State.lose_wdt0 (s : State) (a n : Nat) : (s.lose a n).wdt0 = s.wdt0 := rfl
@[simp] theorem State.lose_wdt1 (s : State) (a n : Nat) : (s.lose a n).wdt1 = s.wdt1 := rfl
@[simp] theorem State.lose_pins (s : State) (a n : Nat) : (s.lose a n).pins = s.pins := rfl
@[simp] theorem State.lose_die (s : State) (a n : Nat) : (s.lose a n).die = s.die := rfl
@[simp] theorem State.lose_evl (s : State) (a n : Nat) : (s.lose a n).evl = s.evl := rfl
@[simp] theorem State.lose_snap (s : State) (a n : Nat) : (s.lose a n).snap = s.snap := rfl
@[simp] theorem State.lose_pending (s : State) (a n : Nat) : (s.lose a n).pending = s.pending := rfl
@[simp] theorem State.lose_reg (s : State) (a n : Nat) (x₀ : Nat) : (s.lose a n).reg x₀ = s.reg x₀ := rfl
@[simp] theorem State.lose_get (s : State) (a n : Nat) (x₀ : Field) : (s.lose a n).get x₀ = s.get x₀ := rfl
@[simp] theorem State.lose_flag (s : State) (a n : Nat) (x₀ : Field) : (s.lose a n).flag x₀ = s.flag x₀ := rfl
@[simp] theorem State.lose_ctx (s : State) (a n : Nat) (x₀ y₀ : Nat) : (s.lose a n).ctx x₀ y₀ = s.ctx x₀ y₀ := rfl
@[simp] theorem State.lose_eng (s : State) (a n : Nat) (x₀ : Nat) : (s.lose a n).eng x₀ = s.eng x₀ := rfl
@[simp] theorem State.lose_lane (s : State) (a n : Nat) (x₀ : Nat) : (s.lose a n).lane x₀ = s.lane x₀ := rfl
@[simp] theorem State.lose_tmr (s : State) (a n : Nat) (x₀ : Nat) : (s.lose a n).tmr x₀ = s.tmr x₀ := rfl
@[simp] theorem State.lose_core (s : State) (a n : Nat) (x₀ : CoreId) : (s.lose a n).core x₀ = s.core x₀ := by cases x₀ <;> rfl
@[simp] theorem State.lose_icol (s : State) (a n : Nat) (x₀ : CoreId) : (s.lose a n).icol x₀ = s.icol x₀ := by cases x₀ <;> rfl
@[simp] theorem State.lose_us (s : State) (a n : Nat) : (s.lose a n).us = s.us := rfl
@[simp] theorem State.lose_net (s : State) (a n : Nat) : (s.lose a n).net = s.net := rfl
@[simp] theorem State.lose_awake (s : State) (a n : Nat) : (s.lose a n).awake = s.awake := rfl
@[simp] theorem State.lose_bank (s : State) (a n : Nat) (x₀ : Nat) : (s.lose a n).bank x₀ = s.bank x₀ := rfl
@[simp] theorem State.lose_pend (s : State) (a n : Nat) : (s.lose a n).pend = s.pend := rfl

/-! ### `setCore` -/

@[simp] theorem State.setCore_now (s : State) (c : CoreId) (i : Core) : (s.setCore c i).now = s.now := by cases c <;> rfl
@[simp] theorem State.setCore_regs (s : State) (c : CoreId) (i : Core) : (s.setCore c i).regs = s.regs := by cases c <;> rfl
@[simp] theorem State.setCore_shadow (s : State) (c : CoreId) (i : Core) : (s.setCore c i).shadow = s.shadow := by cases c <;> rfl
@[simp] theorem State.setCore_waits (s : State) (c : CoreId) (i : Core) : (s.setCore c i).waits = s.waits := by cases c <;> rfl
@[simp] theorem State.setCore_armed (s : State) (c : CoreId) (i : Core) : (s.setCore c i).armed = s.armed := by cases c <;> rfl
@[simp] theorem State.setCore_mem (s : State) (c : CoreId) (i : Core) : (s.setCore c i).mem = s.mem := by cases c <;> rfl
@[simp] theorem State.setCore_lost (s : State) (c : CoreId) (i : Core) : (s.setCore c i).lost = s.lost := by cases c <;> rfl
@[simp] theorem State.setCore_cfg (s : State) (c : CoreId) (i : Core) : (s.setCore c i).cfg = s.cfg := by cases c <;> rfl
@[simp] theorem State.setCore_dbg (s : State) (c : CoreId) (i : Core) : (s.setCore c i).dbg = s.dbg := by cases c <;> rfl
@[simp] theorem State.setCore_tap (s : State) (c : CoreId) (i : Core) : (s.setCore c i).tap = s.tap := by cases c <;> rfl
@[simp] theorem State.setCore_icol0 (s : State) (c : CoreId) (i : Core) : (s.setCore c i).icol0 = s.icol0 := by cases c <;> rfl
@[simp] theorem State.setCore_icol1 (s : State) (c : CoreId) (i : Core) : (s.setCore c i).icol1 = s.icol1 := by cases c <;> rfl
@[simp] theorem State.setCore_ctxs (s : State) (c : CoreId) (i : Core) : (s.setCore c i).ctxs = s.ctxs := by cases c <;> rfl
@[simp] theorem State.setCore_engs (s : State) (c : CoreId) (i : Core) : (s.setCore c i).engs = s.engs := by cases c <;> rfl
@[simp] theorem State.setCore_txq (s : State) (c : CoreId) (i : Core) : (s.setCore c i).txq = s.txq := by cases c <;> rfl
@[simp] theorem State.setCore_txOrder (s : State) (c : CoreId) (i : Core) : (s.setCore c i).txOrder = s.txOrder := by cases c <;> rfl
@[simp] theorem State.setCore_rfe (s : State) (c : CoreId) (i : Core) : (s.setCore c i).rfe = s.rfe := by cases c <;> rfl
@[simp] theorem State.setCore_lanes (s : State) (c : CoreId) (i : Core) : (s.setCore c i).lanes = s.lanes := by cases c <;> rfl
@[simp] theorem State.setCore_env (s : State) (c : CoreId) (i : Core) : (s.setCore c i).env = s.env := by cases c <;> rfl
@[simp] theorem State.setCore_ldr (s : State) (c : CoreId) (i : Core) : (s.setCore c i).ldr = s.ldr := by cases c <;> rfl
@[simp] theorem State.setCore_link (s : State) (c : CoreId) (i : Core) : (s.setCore c i).link = s.link := by cases c <;> rfl
@[simp] theorem State.setCore_tb (s : State) (c : CoreId) (i : Core) : (s.setCore c i).tb = s.tb := by cases c <;> rfl
@[simp] theorem State.setCore_ciph (s : State) (c : CoreId) (i : Core) : (s.setCore c i).ciph = s.ciph := by cases c <;> rfl
@[simp] theorem State.setCore_memc (s : State) (c : CoreId) (i : Core) : (s.setCore c i).memc = s.memc := by cases c <;> rfl
@[simp] theorem State.setCore_flc (s : State) (c : CoreId) (i : Core) : (s.setCore c i).flc = s.flc := by cases c <;> rfl
@[simp] theorem State.setCore_pwr (s : State) (c : CoreId) (i : Core) : (s.setCore c i).pwr = s.pwr := by cases c <;> rfl
@[simp] theorem State.setCore_rtc (s : State) (c : CoreId) (i : Core) : (s.setCore c i).rtc = s.rtc := by cases c <;> rfl
@[simp] theorem State.setCore_start (s : State) (c : CoreId) (i : Core) : (s.setCore c i).start = s.start := by cases c <;> rfl
@[simp] theorem State.setCore_upd (s : State) (c : CoreId) (i : Core) : (s.setCore c i).upd = s.upd := by cases c <;> rfl
@[simp] theorem State.setCore_host (s : State) (c : CoreId) (i : Core) : (s.setCore c i).host = s.host := by cases c <;> rfl
@[simp] theorem State.setCore_uart0 (s : State) (c : CoreId) (i : Core) : (s.setCore c i).uart0 = s.uart0 := by cases c <;> rfl
@[simp] theorem State.setCore_uart1 (s : State) (c : CoreId) (i : Core) : (s.setCore c i).uart1 = s.uart1 := by cases c <;> rfl
@[simp] theorem State.setCore_spic0 (s : State) (c : CoreId) (i : Core) : (s.setCore c i).spic0 = s.spic0 := by cases c <;> rfl
@[simp] theorem State.setCore_spic1 (s : State) (c : CoreId) (i : Core) : (s.setCore c i).spic1 = s.spic1 := by cases c <;> rfl
@[simp] theorem State.setCore_i2c0 (s : State) (c : CoreId) (i : Core) : (s.setCore c i).i2c0 = s.i2c0 := by cases c <;> rfl
@[simp] theorem State.setCore_i2c1 (s : State) (c : CoreId) (i : Core) : (s.setCore c i).i2c1 = s.i2c1 := by cases c <;> rfl
@[simp] theorem State.setCore_sadc (s : State) (c : CoreId) (i : Core) : (s.setCore c i).sadc = s.sadc := by cases c <;> rfl
@[simp] theorem State.setCore_tmrs (s : State) (c : CoreId) (i : Core) : (s.setCore c i).tmrs = s.tmrs := by cases c <;> rfl
@[simp] theorem State.setCore_wdt0 (s : State) (c : CoreId) (i : Core) : (s.setCore c i).wdt0 = s.wdt0 := by cases c <;> rfl
@[simp] theorem State.setCore_wdt1 (s : State) (c : CoreId) (i : Core) : (s.setCore c i).wdt1 = s.wdt1 := by cases c <;> rfl
@[simp] theorem State.setCore_pins (s : State) (c : CoreId) (i : Core) : (s.setCore c i).pins = s.pins := by cases c <;> rfl
@[simp] theorem State.setCore_die (s : State) (c : CoreId) (i : Core) : (s.setCore c i).die = s.die := by cases c <;> rfl
@[simp] theorem State.setCore_evl (s : State) (c : CoreId) (i : Core) : (s.setCore c i).evl = s.evl := by cases c <;> rfl
@[simp] theorem State.setCore_snap (s : State) (c : CoreId) (i : Core) : (s.setCore c i).snap = s.snap := by cases c <;> rfl
@[simp] theorem State.setCore_free (s : State) (c : CoreId) (i : Core) : (s.setCore c i).free = s.free := by cases c <;> rfl
@[simp] theorem State.setCore_pending (s : State) (c : CoreId) (i : Core) : (s.setCore c i).pending = s.pending := by cases c <;> rfl
@[simp] theorem State.setCore_reg (s : State) (c : CoreId) (i : Core) (x₀ : Nat) : (s.setCore c i).reg x₀ = s.reg x₀ := by cases c <;> rfl
@[simp] theorem State.setCore_get (s : State) (c : CoreId) (i : Core) (x₀ : Field) : (s.setCore c i).get x₀ = s.get x₀ := by cases c <;> rfl
@[simp] theorem State.setCore_flag (s : State) (c : CoreId) (i : Core) (x₀ : Field) : (s.setCore c i).flag x₀ = s.flag x₀ := by cases c <;> rfl
@[simp] theorem State.setCore_byte (s : State) (c : CoreId) (i : Core) (x₀ : Nat) : (s.setCore c i).byte x₀ = s.byte x₀ := by cases c <;> rfl
@[simp] theorem State.setCore_word (s : State) (c : CoreId) (i : Core) (x₀ : Nat) : (s.setCore c i).word x₀ = s.word x₀ := by cases c <;> rfl
@[simp] theorem State.setCore_ctx (s : State) (c : CoreId) (i : Core) (x₀ y₀ : Nat) : (s.setCore c i).ctx x₀ y₀ = s.ctx x₀ y₀ := by cases c <;> rfl
@[simp] theorem State.setCore_eng (s : State) (c : CoreId) (i : Core) (x₀ : Nat) : (s.setCore c i).eng x₀ = s.eng x₀ := by cases c <;> rfl
@[simp] theorem State.setCore_lane (s : State) (c : CoreId) (i : Core) (x₀ : Nat) : (s.setCore c i).lane x₀ = s.lane x₀ := by cases c <;> rfl
@[simp] theorem State.setCore_tmr (s : State) (c : CoreId) (i : Core) (x₀ : Nat) : (s.setCore c i).tmr x₀ = s.tmr x₀ := by cases c <;> rfl
@[simp] theorem State.setCore_icol (s : State) (c : CoreId) (i : Core) (x₀ : CoreId) : (s.setCore c i).icol x₀ = s.icol x₀ := by cases x₀ <;> cases c <;> rfl
@[simp] theorem State.setCore_us (s : State) (c : CoreId) (i : Core) : (s.setCore c i).us = s.us := by cases c <;> rfl
@[simp] theorem State.setCore_net (s : State) (c : CoreId) (i : Core) : (s.setCore c i).net = s.net := by cases c <;> rfl
@[simp] theorem State.setCore_awake (s : State) (c : CoreId) (i : Core) : (s.setCore c i).awake = s.awake := by cases c <;> rfl
@[simp] theorem State.setCore_bank (s : State) (c : CoreId) (i : Core) (x₀ : Nat) : (s.setCore c i).bank x₀ = s.bank x₀ := by cases c <;> rfl
@[simp] theorem State.setCore_pend (s : State) (c : CoreId) (i : Core) : (s.setCore c i).pend = s.pend := by cases c <;> rfl

/-! ### `respond` -/

@[simp] theorem State.respond_now (s : State) (g : Agent) (r : Response) : (s.respond g r).now = s.now := by cases g <;> rfl
@[simp] theorem State.respond_regs (s : State) (g : Agent) (r : Response) : (s.respond g r).regs = s.regs := by cases g <;> rfl
@[simp] theorem State.respond_shadow (s : State) (g : Agent) (r : Response) : (s.respond g r).shadow = s.shadow := by cases g <;> rfl
@[simp] theorem State.respond_waits (s : State) (g : Agent) (r : Response) : (s.respond g r).waits = s.waits := by cases g <;> rfl
@[simp] theorem State.respond_armed (s : State) (g : Agent) (r : Response) : (s.respond g r).armed = s.armed := by cases g <;> rfl
@[simp] theorem State.respond_mem (s : State) (g : Agent) (r : Response) : (s.respond g r).mem = s.mem := by cases g <;> rfl
@[simp] theorem State.respond_lost (s : State) (g : Agent) (r : Response) : (s.respond g r).lost = s.lost := by cases g <;> rfl
@[simp] theorem State.respond_cfg (s : State) (g : Agent) (r : Response) : (s.respond g r).cfg = s.cfg := by cases g <;> rfl
@[simp] theorem State.respond_tap (s : State) (g : Agent) (r : Response) : (s.respond g r).tap = s.tap := by cases g <;> rfl
@[simp] theorem State.respond_icol0 (s : State) (g : Agent) (r : Response) : (s.respond g r).icol0 = s.icol0 := by cases g <;> rfl
@[simp] theorem State.respond_icol1 (s : State) (g : Agent) (r : Response) : (s.respond g r).icol1 = s.icol1 := by cases g <;> rfl
@[simp] theorem State.respond_ctxs (s : State) (g : Agent) (r : Response) : (s.respond g r).ctxs = s.ctxs := by cases g <;> rfl
@[simp] theorem State.respond_engs (s : State) (g : Agent) (r : Response) : (s.respond g r).engs = s.engs := by cases g <;> rfl
@[simp] theorem State.respond_txq (s : State) (g : Agent) (r : Response) : (s.respond g r).txq = s.txq := by cases g <;> rfl
@[simp] theorem State.respond_txOrder (s : State) (g : Agent) (r : Response) : (s.respond g r).txOrder = s.txOrder := by cases g <;> rfl
@[simp] theorem State.respond_rfe (s : State) (g : Agent) (r : Response) : (s.respond g r).rfe = s.rfe := by cases g <;> rfl
@[simp] theorem State.respond_lanes (s : State) (g : Agent) (r : Response) : (s.respond g r).lanes = s.lanes := by cases g <;> rfl
@[simp] theorem State.respond_env (s : State) (g : Agent) (r : Response) : (s.respond g r).env = s.env := by cases g <;> rfl
@[simp] theorem State.respond_ldr (s : State) (g : Agent) (r : Response) : (s.respond g r).ldr = s.ldr := by cases g <;> rfl
@[simp] theorem State.respond_link (s : State) (g : Agent) (r : Response) : (s.respond g r).link = s.link := by cases g <;> rfl
@[simp] theorem State.respond_tb (s : State) (g : Agent) (r : Response) : (s.respond g r).tb = s.tb := by cases g <;> rfl
@[simp] theorem State.respond_ciph (s : State) (g : Agent) (r : Response) : (s.respond g r).ciph = s.ciph := by cases g <;> rfl
@[simp] theorem State.respond_memc (s : State) (g : Agent) (r : Response) : (s.respond g r).memc = s.memc := by cases g <;> rfl
@[simp] theorem State.respond_flc (s : State) (g : Agent) (r : Response) : (s.respond g r).flc = s.flc := by cases g <;> rfl
@[simp] theorem State.respond_pwr (s : State) (g : Agent) (r : Response) : (s.respond g r).pwr = s.pwr := by cases g <;> rfl
@[simp] theorem State.respond_rtc (s : State) (g : Agent) (r : Response) : (s.respond g r).rtc = s.rtc := by cases g <;> rfl
@[simp] theorem State.respond_start (s : State) (g : Agent) (r : Response) : (s.respond g r).start = s.start := by cases g <;> rfl
@[simp] theorem State.respond_upd (s : State) (g : Agent) (r : Response) : (s.respond g r).upd = s.upd := by cases g <;> rfl
@[simp] theorem State.respond_uart0 (s : State) (g : Agent) (r : Response) : (s.respond g r).uart0 = s.uart0 := by cases g <;> rfl
@[simp] theorem State.respond_uart1 (s : State) (g : Agent) (r : Response) : (s.respond g r).uart1 = s.uart1 := by cases g <;> rfl
@[simp] theorem State.respond_spic0 (s : State) (g : Agent) (r : Response) : (s.respond g r).spic0 = s.spic0 := by cases g <;> rfl
@[simp] theorem State.respond_spic1 (s : State) (g : Agent) (r : Response) : (s.respond g r).spic1 = s.spic1 := by cases g <;> rfl
@[simp] theorem State.respond_i2c0 (s : State) (g : Agent) (r : Response) : (s.respond g r).i2c0 = s.i2c0 := by cases g <;> rfl
@[simp] theorem State.respond_i2c1 (s : State) (g : Agent) (r : Response) : (s.respond g r).i2c1 = s.i2c1 := by cases g <;> rfl
@[simp] theorem State.respond_sadc (s : State) (g : Agent) (r : Response) : (s.respond g r).sadc = s.sadc := by cases g <;> rfl
@[simp] theorem State.respond_tmrs (s : State) (g : Agent) (r : Response) : (s.respond g r).tmrs = s.tmrs := by cases g <;> rfl
@[simp] theorem State.respond_wdt0 (s : State) (g : Agent) (r : Response) : (s.respond g r).wdt0 = s.wdt0 := by cases g <;> rfl
@[simp] theorem State.respond_wdt1 (s : State) (g : Agent) (r : Response) : (s.respond g r).wdt1 = s.wdt1 := by cases g <;> rfl
@[simp] theorem State.respond_pins (s : State) (g : Agent) (r : Response) : (s.respond g r).pins = s.pins := by cases g <;> rfl
@[simp] theorem State.respond_die (s : State) (g : Agent) (r : Response) : (s.respond g r).die = s.die := by cases g <;> rfl
@[simp] theorem State.respond_evl (s : State) (g : Agent) (r : Response) : (s.respond g r).evl = s.evl := by cases g <;> rfl
@[simp] theorem State.respond_snap (s : State) (g : Agent) (r : Response) : (s.respond g r).snap = s.snap := by cases g <;> rfl
@[simp] theorem State.respond_free (s : State) (g : Agent) (r : Response) : (s.respond g r).free = s.free := by cases g <;> rfl
@[simp] theorem State.respond_pending (s : State) (g : Agent) (r : Response) : (s.respond g r).pending = s.pending := by cases g <;> rfl
@[simp] theorem State.respond_reg (s : State) (g : Agent) (r : Response) (x₀ : Nat) : (s.respond g r).reg x₀ = s.reg x₀ := by cases g <;> rfl
@[simp] theorem State.respond_get (s : State) (g : Agent) (r : Response) (x₀ : Field) : (s.respond g r).get x₀ = s.get x₀ := by cases g <;> rfl
@[simp] theorem State.respond_flag (s : State) (g : Agent) (r : Response) (x₀ : Field) : (s.respond g r).flag x₀ = s.flag x₀ := by cases g <;> rfl
@[simp] theorem State.respond_byte (s : State) (g : Agent) (r : Response) (x₀ : Nat) : (s.respond g r).byte x₀ = s.byte x₀ := by cases g <;> rfl
@[simp] theorem State.respond_word (s : State) (g : Agent) (r : Response) (x₀ : Nat) : (s.respond g r).word x₀ = s.word x₀ := by cases g <;> rfl
@[simp] theorem State.respond_ctx (s : State) (g : Agent) (r : Response) (x₀ y₀ : Nat) : (s.respond g r).ctx x₀ y₀ = s.ctx x₀ y₀ := by cases g <;> rfl
@[simp] theorem State.respond_eng (s : State) (g : Agent) (r : Response) (x₀ : Nat) : (s.respond g r).eng x₀ = s.eng x₀ := by cases g <;> rfl
@[simp] theorem State.respond_lane (s : State) (g : Agent) (r : Response) (x₀ : Nat) : (s.respond g r).lane x₀ = s.lane x₀ := by cases g <;> rfl
@[simp] theorem State.respond_tmr (s : State) (g : Agent) (r : Response) (x₀ : Nat) : (s.respond g r).tmr x₀ = s.tmr x₀ := by cases g <;> rfl
@[simp] theorem State.respond_icol (s : State) (g : Agent) (r : Response) (x₀ : CoreId) : (s.respond g r).icol x₀ = s.icol x₀ := by cases x₀ <;> cases g <;> rfl
@[simp] theorem State.respond_us (s : State) (g : Agent) (r : Response) : (s.respond g r).us = s.us := by cases g <;> rfl
@[simp] theorem State.respond_net (s : State) (g : Agent) (r : Response) : (s.respond g r).net = s.net := by cases g <;> rfl
@[simp] theorem State.respond_awake (s : State) (g : Agent) (r : Response) : (s.respond g r).awake = s.awake := by cases g <;> rfl
@[simp] theorem State.respond_bank (s : State) (g : Agent) (r : Response) (x₀ : Nat) : (s.respond g r).bank x₀ = s.bank x₀ := by cases g <;> rfl
@[simp] theorem State.respond_pend (s : State) (g : Agent) (r : Response) : (s.respond g r).pend = s.pend := by cases g <;> rfl

/-! ### `setIcol` -/

@[simp] theorem State.setIcol_now (s : State) (c : CoreId) (i : Icol) : (s.setIcol c i).now = s.now := by cases c <;> rfl
@[simp] theorem State.setIcol_regs (s : State) (c : CoreId) (i : Icol) : (s.setIcol c i).regs = s.regs := by cases c <;> rfl
@[simp] theorem State.setIcol_shadow (s : State) (c : CoreId) (i : Icol) : (s.setIcol c i).shadow = s.shadow := by cases c <;> rfl
@[simp] theorem State.setIcol_waits (s : State) (c : CoreId) (i : Icol) : (s.setIcol c i).waits = s.waits := by cases c <;> rfl
@[simp] theorem State.setIcol_armed (s : State) (c : CoreId) (i : Icol) : (s.setIcol c i).armed = s.armed := by cases c <;> rfl
@[simp] theorem State.setIcol_mem (s : State) (c : CoreId) (i : Icol) : (s.setIcol c i).mem = s.mem := by cases c <;> rfl
@[simp] theorem State.setIcol_lost (s : State) (c : CoreId) (i : Icol) : (s.setIcol c i).lost = s.lost := by cases c <;> rfl
@[simp] theorem State.setIcol_cfg (s : State) (c : CoreId) (i : Icol) : (s.setIcol c i).cfg = s.cfg := by cases c <;> rfl
@[simp] theorem State.setIcol_core0 (s : State) (c : CoreId) (i : Icol) : (s.setIcol c i).core0 = s.core0 := by cases c <;> rfl
@[simp] theorem State.setIcol_core1 (s : State) (c : CoreId) (i : Icol) : (s.setIcol c i).core1 = s.core1 := by cases c <;> rfl
@[simp] theorem State.setIcol_dbg (s : State) (c : CoreId) (i : Icol) : (s.setIcol c i).dbg = s.dbg := by cases c <;> rfl
@[simp] theorem State.setIcol_tap (s : State) (c : CoreId) (i : Icol) : (s.setIcol c i).tap = s.tap := by cases c <;> rfl
@[simp] theorem State.setIcol_ctxs (s : State) (c : CoreId) (i : Icol) : (s.setIcol c i).ctxs = s.ctxs := by cases c <;> rfl
@[simp] theorem State.setIcol_engs (s : State) (c : CoreId) (i : Icol) : (s.setIcol c i).engs = s.engs := by cases c <;> rfl
@[simp] theorem State.setIcol_txq (s : State) (c : CoreId) (i : Icol) : (s.setIcol c i).txq = s.txq := by cases c <;> rfl
@[simp] theorem State.setIcol_txOrder (s : State) (c : CoreId) (i : Icol) : (s.setIcol c i).txOrder = s.txOrder := by cases c <;> rfl
@[simp] theorem State.setIcol_rfe (s : State) (c : CoreId) (i : Icol) : (s.setIcol c i).rfe = s.rfe := by cases c <;> rfl
@[simp] theorem State.setIcol_lanes (s : State) (c : CoreId) (i : Icol) : (s.setIcol c i).lanes = s.lanes := by cases c <;> rfl
@[simp] theorem State.setIcol_env (s : State) (c : CoreId) (i : Icol) : (s.setIcol c i).env = s.env := by cases c <;> rfl
@[simp] theorem State.setIcol_ldr (s : State) (c : CoreId) (i : Icol) : (s.setIcol c i).ldr = s.ldr := by cases c <;> rfl
@[simp] theorem State.setIcol_link (s : State) (c : CoreId) (i : Icol) : (s.setIcol c i).link = s.link := by cases c <;> rfl
@[simp] theorem State.setIcol_tb (s : State) (c : CoreId) (i : Icol) : (s.setIcol c i).tb = s.tb := by cases c <;> rfl
@[simp] theorem State.setIcol_ciph (s : State) (c : CoreId) (i : Icol) : (s.setIcol c i).ciph = s.ciph := by cases c <;> rfl
@[simp] theorem State.setIcol_memc (s : State) (c : CoreId) (i : Icol) : (s.setIcol c i).memc = s.memc := by cases c <;> rfl
@[simp] theorem State.setIcol_flc (s : State) (c : CoreId) (i : Icol) : (s.setIcol c i).flc = s.flc := by cases c <;> rfl
@[simp] theorem State.setIcol_pwr (s : State) (c : CoreId) (i : Icol) : (s.setIcol c i).pwr = s.pwr := by cases c <;> rfl
@[simp] theorem State.setIcol_rtc (s : State) (c : CoreId) (i : Icol) : (s.setIcol c i).rtc = s.rtc := by cases c <;> rfl
@[simp] theorem State.setIcol_start (s : State) (c : CoreId) (i : Icol) : (s.setIcol c i).start = s.start := by cases c <;> rfl
@[simp] theorem State.setIcol_upd (s : State) (c : CoreId) (i : Icol) : (s.setIcol c i).upd = s.upd := by cases c <;> rfl
@[simp] theorem State.setIcol_host (s : State) (c : CoreId) (i : Icol) : (s.setIcol c i).host = s.host := by cases c <;> rfl
@[simp] theorem State.setIcol_uart0 (s : State) (c : CoreId) (i : Icol) : (s.setIcol c i).uart0 = s.uart0 := by cases c <;> rfl
@[simp] theorem State.setIcol_uart1 (s : State) (c : CoreId) (i : Icol) : (s.setIcol c i).uart1 = s.uart1 := by cases c <;> rfl
@[simp] theorem State.setIcol_spic0 (s : State) (c : CoreId) (i : Icol) : (s.setIcol c i).spic0 = s.spic0 := by cases c <;> rfl
@[simp] theorem State.setIcol_spic1 (s : State) (c : CoreId) (i : Icol) : (s.setIcol c i).spic1 = s.spic1 := by cases c <;> rfl
@[simp] theorem State.setIcol_i2c0 (s : State) (c : CoreId) (i : Icol) : (s.setIcol c i).i2c0 = s.i2c0 := by cases c <;> rfl
@[simp] theorem State.setIcol_i2c1 (s : State) (c : CoreId) (i : Icol) : (s.setIcol c i).i2c1 = s.i2c1 := by cases c <;> rfl
@[simp] theorem State.setIcol_sadc (s : State) (c : CoreId) (i : Icol) : (s.setIcol c i).sadc = s.sadc := by cases c <;> rfl
@[simp] theorem State.setIcol_tmrs (s : State) (c : CoreId) (i : Icol) : (s.setIcol c i).tmrs = s.tmrs := by cases c <;> rfl
@[simp] theorem State.setIcol_wdt0 (s : State) (c : CoreId) (i : Icol) : (s.setIcol c i).wdt0 = s.wdt0 := by cases c <;> rfl
@[simp] theorem State.setIcol_wdt1 (s : State) (c : CoreId) (i : Icol) : (s.setIcol c i).wdt1 = s.wdt1 := by cases c <;> rfl
@[simp] theorem State.setIcol_pins (s : State) (c : CoreId) (i : Icol) : (s.setIcol c i).pins = s.pins := by cases c <;> rfl
@[simp] theorem State.setIcol_die (s : State) (c : CoreId) (i : Icol) : (s.setIcol c i).die = s.die := by cases c <;> rfl
@[simp] theorem State.setIcol_evl (s : State) (c : CoreId) (i : Icol) : (s.setIcol c i).evl = s.evl := by cases c <;> rfl
@[simp] theorem State.setIcol_snap (s : State) (c : CoreId) (i : Icol) : (s.setIcol c i).snap = s.snap := by cases c <;> rfl
@[simp] theorem State.setIcol_free (s : State) (c : CoreId) (i : Icol) : (s.setIcol c i).free = s.free := by cases c <;> rfl
@[simp] theorem State.setIcol_pending (s : State) (c : CoreId) (i : Icol) : (s.setIcol c i).pending = s.pending := by cases c <;> rfl
@[simp] theorem State.setIcol_reg (s : State) (c : CoreId) (i : Icol) (x₀ : Nat) : (s.setIcol c i).reg x₀ = s.reg x₀ := by cases c <;> rfl
@[simp] theorem State.setIcol_get (s : State) (c : CoreId) (i : Icol) (x₀ : Field) : (s.setIcol c i).get x₀ = s.get x₀ := by cases c <;> rfl
@[simp] theorem State.setIcol_flag (s : State) (c : CoreId) (i : Icol) (x₀ : Field) : (s.setIcol c i).flag x₀ = s.flag x₀ := by cases c <;> rfl
@[simp] theorem State.setIcol_byte (s : State) (c : CoreId) (i : Icol) (x₀ : Nat) : (s.setIcol c i).byte x₀ = s.byte x₀ := by cases c <;> rfl
@[simp] theorem State.setIcol_word (s : State) (c : CoreId) (i : Icol) (x₀ : Nat) : (s.setIcol c i).word x₀ = s.word x₀ := by cases c <;> rfl
@[simp] theorem State.setIcol_ctx (s : State) (c : CoreId) (i : Icol) (x₀ y₀ : Nat) : (s.setIcol c i).ctx x₀ y₀ = s.ctx x₀ y₀ := by cases c <;> rfl
@[simp] theorem State.setIcol_eng (s : State) (c : CoreId) (i : Icol) (x₀ : Nat) : (s.setIcol c i).eng x₀ = s.eng x₀ := by cases c <;> rfl
@[simp] theorem State.setIcol_lane (s : State) (c : CoreId) (i : Icol) (x₀ : Nat) : (s.setIcol c i).lane x₀ = s.lane x₀ := by cases c <;> rfl
@[simp] theorem State.setIcol_tmr (s : State) (c : CoreId) (i : Icol) (x₀ : Nat) : (s.setIcol c i).tmr x₀ = s.tmr x₀ := by cases c <;> rfl
@[simp] theorem State.setIcol_core (s : State) (c : CoreId) (i : Icol) (x₀ : CoreId) : (s.setIcol c i).core x₀ = s.core x₀ := by cases x₀ <;> cases c <;> rfl
@[simp] theorem State.setIcol_us (s : State) (c : CoreId) (i : Icol) : (s.setIcol c i).us = s.us := by cases c <;> rfl
@[simp] theorem State.setIcol_net (s : State) (c : CoreId) (i : Icol) : (s.setIcol c i).net = s.net := by cases c <;> rfl
@[simp] theorem State.setIcol_awake (s : State) (c : CoreId) (i : Icol) : (s.setIcol c i).awake = s.awake := by cases c <;> rfl
@[simp] theorem State.setIcol_bank (s : State) (c : CoreId) (i : Icol) (x₀ : Nat) : (s.setIcol c i).bank x₀ = s.bank x₀ := by cases c <;> rfl
@[simp] theorem State.setIcol_pend (s : State) (c : CoreId) (i : Icol) : (s.setIcol c i).pend = s.pend := by cases c <;> rfl

/-! ### `postTo` -/

@[simp] theorem State.postTo_now (s : State) (c : CoreId) (n : Nat) (l h : Word) : (s.postTo c n l h).now = s.now := by cases c <;> rfl
@[simp] theorem State.postTo_regs (s : State) (c : CoreId) (n : Nat) (l h : Word) : (s.postTo c n l h).regs = s.regs := by cases c <;> rfl
@[simp] theorem State.postTo_shadow (s : State) (c : CoreId) (n : Nat) (l h : Word) : (s.postTo c n l h).shadow = s.shadow := by cases c <;> rfl
@[simp] theorem State.postTo_waits (s : State) (c : CoreId) (n : Nat) (l h : Word) : (s.postTo c n l h).waits = s.waits := by cases c <;> rfl
@[simp] theorem State.postTo_armed (s : State) (c : CoreId) (n : Nat) (l h : Word) : (s.postTo c n l h).armed = s.armed := by cases c <;> rfl
@[simp] theorem State.postTo_mem (s : State) (c : CoreId) (n : Nat) (l h : Word) : (s.postTo c n l h).mem = s.mem := by cases c <;> rfl
@[simp] theorem State.postTo_lost (s : State) (c : CoreId) (n : Nat) (l h : Word) : (s.postTo c n l h).lost = s.lost := by cases c <;> rfl
@[simp] theorem State.postTo_cfg (s : State) (c : CoreId) (n : Nat) (l h : Word) : (s.postTo c n l h).cfg = s.cfg := by cases c <;> rfl
@[simp] theorem State.postTo_core0 (s : State) (c : CoreId) (n : Nat) (l h : Word) : (s.postTo c n l h).core0 = s.core0 := by cases c <;> rfl
@[simp] theorem State.postTo_core1 (s : State) (c : CoreId) (n : Nat) (l h : Word) : (s.postTo c n l h).core1 = s.core1 := by cases c <;> rfl
@[simp] theorem State.postTo_dbg (s : State) (c : CoreId) (n : Nat) (l h : Word) : (s.postTo c n l h).dbg = s.dbg := by cases c <;> rfl
@[simp] theorem State.postTo_tap (s : State) (c : CoreId) (n : Nat) (l h : Word) : (s.postTo c n l h).tap = s.tap := by cases c <;> rfl
@[simp] theorem State.postTo_ctxs (s : State) (c : CoreId) (n : Nat) (l h : Word) : (s.postTo c n l h).ctxs = s.ctxs := by cases c <;> rfl
@[simp] theorem State.postTo_engs (s : State) (c : CoreId) (n : Nat) (l h : Word) : (s.postTo c n l h).engs = s.engs := by cases c <;> rfl
@[simp] theorem State.postTo_txq (s : State) (c : CoreId) (n : Nat) (l h : Word) : (s.postTo c n l h).txq = s.txq := by cases c <;> rfl
@[simp] theorem State.postTo_txOrder (s : State) (c : CoreId) (n : Nat) (l h : Word) : (s.postTo c n l h).txOrder = s.txOrder := by cases c <;> rfl
@[simp] theorem State.postTo_rfe (s : State) (c : CoreId) (n : Nat) (l h : Word) : (s.postTo c n l h).rfe = s.rfe := by cases c <;> rfl
@[simp] theorem State.postTo_lanes (s : State) (c : CoreId) (n : Nat) (l h : Word) : (s.postTo c n l h).lanes = s.lanes := by cases c <;> rfl
@[simp] theorem State.postTo_env (s : State) (c : CoreId) (n : Nat) (l h : Word) : (s.postTo c n l h).env = s.env := by cases c <;> rfl
@[simp] theorem State.postTo_ldr (s : State) (c : CoreId) (n : Nat) (l h : Word) : (s.postTo c n l h).ldr = s.ldr := by cases c <;> rfl
@[simp] theorem State.postTo_link (s : State) (c : CoreId) (n : Nat) (l h : Word) : (s.postTo c n l h).link = s.link := by cases c <;> rfl
@[simp] theorem State.postTo_tb (s : State) (c : CoreId) (n : Nat) (l h : Word) : (s.postTo c n l h).tb = s.tb := by cases c <;> rfl
@[simp] theorem State.postTo_ciph (s : State) (c : CoreId) (n : Nat) (l h : Word) : (s.postTo c n l h).ciph = s.ciph := by cases c <;> rfl
@[simp] theorem State.postTo_memc (s : State) (c : CoreId) (n : Nat) (l h : Word) : (s.postTo c n l h).memc = s.memc := by cases c <;> rfl
@[simp] theorem State.postTo_flc (s : State) (c : CoreId) (n : Nat) (l h : Word) : (s.postTo c n l h).flc = s.flc := by cases c <;> rfl
@[simp] theorem State.postTo_pwr (s : State) (c : CoreId) (n : Nat) (l h : Word) : (s.postTo c n l h).pwr = s.pwr := by cases c <;> rfl
@[simp] theorem State.postTo_rtc (s : State) (c : CoreId) (n : Nat) (l h : Word) : (s.postTo c n l h).rtc = s.rtc := by cases c <;> rfl
@[simp] theorem State.postTo_start (s : State) (c : CoreId) (n : Nat) (l h : Word) : (s.postTo c n l h).start = s.start := by cases c <;> rfl
@[simp] theorem State.postTo_upd (s : State) (c : CoreId) (n : Nat) (l h : Word) : (s.postTo c n l h).upd = s.upd := by cases c <;> rfl
@[simp] theorem State.postTo_host (s : State) (c : CoreId) (n : Nat) (l h : Word) : (s.postTo c n l h).host = s.host := by cases c <;> rfl
@[simp] theorem State.postTo_uart0 (s : State) (c : CoreId) (n : Nat) (l h : Word) : (s.postTo c n l h).uart0 = s.uart0 := by cases c <;> rfl
@[simp] theorem State.postTo_uart1 (s : State) (c : CoreId) (n : Nat) (l h : Word) : (s.postTo c n l h).uart1 = s.uart1 := by cases c <;> rfl
@[simp] theorem State.postTo_spic0 (s : State) (c : CoreId) (n : Nat) (l h : Word) : (s.postTo c n l h).spic0 = s.spic0 := by cases c <;> rfl
@[simp] theorem State.postTo_spic1 (s : State) (c : CoreId) (n : Nat) (l h : Word) : (s.postTo c n l h).spic1 = s.spic1 := by cases c <;> rfl
@[simp] theorem State.postTo_i2c0 (s : State) (c : CoreId) (n : Nat) (l h : Word) : (s.postTo c n l h).i2c0 = s.i2c0 := by cases c <;> rfl
@[simp] theorem State.postTo_i2c1 (s : State) (c : CoreId) (n : Nat) (l h : Word) : (s.postTo c n l h).i2c1 = s.i2c1 := by cases c <;> rfl
@[simp] theorem State.postTo_sadc (s : State) (c : CoreId) (n : Nat) (l h : Word) : (s.postTo c n l h).sadc = s.sadc := by cases c <;> rfl
@[simp] theorem State.postTo_tmrs (s : State) (c : CoreId) (n : Nat) (l h : Word) : (s.postTo c n l h).tmrs = s.tmrs := by cases c <;> rfl
@[simp] theorem State.postTo_wdt0 (s : State) (c : CoreId) (n : Nat) (l h : Word) : (s.postTo c n l h).wdt0 = s.wdt0 := by cases c <;> rfl
@[simp] theorem State.postTo_wdt1 (s : State) (c : CoreId) (n : Nat) (l h : Word) : (s.postTo c n l h).wdt1 = s.wdt1 := by cases c <;> rfl
@[simp] theorem State.postTo_pins (s : State) (c : CoreId) (n : Nat) (l h : Word) : (s.postTo c n l h).pins = s.pins := by cases c <;> rfl
@[simp] theorem State.postTo_die (s : State) (c : CoreId) (n : Nat) (l h : Word) : (s.postTo c n l h).die = s.die := by cases c <;> rfl
@[simp] theorem State.postTo_evl (s : State) (c : CoreId) (n : Nat) (l h : Word) : (s.postTo c n l h).evl = s.evl := by cases c <;> rfl
@[simp] theorem State.postTo_snap (s : State) (c : CoreId) (n : Nat) (l h : Word) : (s.postTo c n l h).snap = s.snap := by cases c <;> rfl
@[simp] theorem State.postTo_free (s : State) (c : CoreId) (n : Nat) (l h : Word) : (s.postTo c n l h).free = s.free := by cases c <;> rfl
@[simp] theorem State.postTo_pending (s : State) (c : CoreId) (n : Nat) (l h : Word) : (s.postTo c n l h).pending = s.pending := by cases c <;> rfl
@[simp] theorem State.postTo_reg (s : State) (c : CoreId) (n : Nat) (l h : Word) (x₀ : Nat) : (s.postTo c n l h).reg x₀ = s.reg x₀ := by cases c <;> rfl
@[simp] theorem State.postTo_get (s : State) (c : CoreId) (n : Nat) (l h : Word) (x₀ : Field) : (s.postTo c n l h).get x₀ = s.get x₀ := by cases c <;> rfl
@[simp] theorem State.postTo_flag (s : State) (c : CoreId) (n : Nat) (l h : Word) (x₀ : Field) : (s.postTo c n l h).flag x₀ = s.flag x₀ := by cases c <;> rfl
@[simp] theorem State.postTo_byte (s : State) (c : CoreId) (n : Nat) (l h : Word) (x₀ : Nat) : (s.postTo c n l h).byte x₀ = s.byte x₀ := by cases c <;> rfl
@[simp] theorem State.postTo_word (s : State) (c : CoreId) (n : Nat) (l h : Word) (x₀ : Nat) : (s.postTo c n l h).word x₀ = s.word x₀ := by cases c <;> rfl
@[simp] theorem State.postTo_ctx (s : State) (c : CoreId) (n : Nat) (l h : Word) (x₀ y₀ : Nat) : (s.postTo c n l h).ctx x₀ y₀ = s.ctx x₀ y₀ := by cases c <;> rfl
@[simp] theorem State.postTo_eng (s : State) (c : CoreId) (n : Nat) (l h : Word) (x₀ : Nat) : (s.postTo c n l h).eng x₀ = s.eng x₀ := by cases c <;> rfl
@[simp] theorem State.postTo_lane (s : State) (c : CoreId) (n : Nat) (l h : Word) (x₀ : Nat) : (s.postTo c n l h).lane x₀ = s.lane x₀ := by cases c <;> rfl
@[simp] theorem State.postTo_tmr (s : State) (c : CoreId) (n : Nat) (l h : Word) (x₀ : Nat) : (s.postTo c n l h).tmr x₀ = s.tmr x₀ := by cases c <;> rfl
@[simp] theorem State.postTo_core (s : State) (c : CoreId) (n : Nat) (l h : Word) (x₀ : CoreId) : (s.postTo c n l h).core x₀ = s.core x₀ := by cases x₀ <;> cases c <;> rfl
@[simp] theorem State.postTo_us (s : State) (c : CoreId) (n : Nat) (l h : Word) : (s.postTo c n l h).us = s.us := by cases c <;> rfl
@[simp] theorem State.postTo_net (s : State) (c : CoreId) (n : Nat) (l h : Word) : (s.postTo c n l h).net = s.net := by cases c <;> rfl
@[simp] theorem State.postTo_awake (s : State) (c : CoreId) (n : Nat) (l h : Word) : (s.postTo c n l h).awake = s.awake := by cases c <;> rfl
@[simp] theorem State.postTo_bank (s : State) (c : CoreId) (n : Nat) (l h : Word) (x₀ : Nat) : (s.postTo c n l h).bank x₀ = s.bank x₀ := by cases c <;> rfl
@[simp] theorem State.postTo_pend (s : State) (c : CoreId) (n : Nat) (l h : Word) : (s.postTo c n l h).pend = s.pend := by cases c <;> rfl

/-! ### `postBoth` -/

@[simp] theorem State.postBoth_now (s : State) (n : Nat) (l h : Word) : (s.postBoth n l h).now = s.now := rfl
@[simp] theorem State.postBoth_regs (s : State) (n : Nat) (l h : Word) : (s.postBoth n l h).regs = s.regs := rfl
@[simp] theorem State.postBoth_shadow (s : State) (n : Nat) (l h : Word) : (s.postBoth n l h).shadow = s.shadow := rfl
@[simp] theorem State.postBoth_waits (s : State) (n : Nat) (l h : Word) : (s.postBoth n l h).waits = s.waits := rfl
@[simp] theorem State.postBoth_armed (s : State) (n : Nat) (l h : Word) : (s.postBoth n l h).armed = s.armed := rfl
@[simp] theorem State.postBoth_mem (s : State) (n : Nat) (l h : Word) : (s.postBoth n l h).mem = s.mem := rfl
@[simp] theorem State.postBoth_lost (s : State) (n : Nat) (l h : Word) : (s.postBoth n l h).lost = s.lost := rfl
@[simp] theorem State.postBoth_cfg (s : State) (n : Nat) (l h : Word) : (s.postBoth n l h).cfg = s.cfg := rfl
@[simp] theorem State.postBoth_core0 (s : State) (n : Nat) (l h : Word) : (s.postBoth n l h).core0 = s.core0 := rfl
@[simp] theorem State.postBoth_core1 (s : State) (n : Nat) (l h : Word) : (s.postBoth n l h).core1 = s.core1 := rfl
@[simp] theorem State.postBoth_dbg (s : State) (n : Nat) (l h : Word) : (s.postBoth n l h).dbg = s.dbg := rfl
@[simp] theorem State.postBoth_tap (s : State) (n : Nat) (l h : Word) : (s.postBoth n l h).tap = s.tap := rfl
@[simp] theorem State.postBoth_ctxs (s : State) (n : Nat) (l h : Word) : (s.postBoth n l h).ctxs = s.ctxs := rfl
@[simp] theorem State.postBoth_engs (s : State) (n : Nat) (l h : Word) : (s.postBoth n l h).engs = s.engs := rfl
@[simp] theorem State.postBoth_txq (s : State) (n : Nat) (l h : Word) : (s.postBoth n l h).txq = s.txq := rfl
@[simp] theorem State.postBoth_txOrder (s : State) (n : Nat) (l h : Word) : (s.postBoth n l h).txOrder = s.txOrder := rfl
@[simp] theorem State.postBoth_rfe (s : State) (n : Nat) (l h : Word) : (s.postBoth n l h).rfe = s.rfe := rfl
@[simp] theorem State.postBoth_lanes (s : State) (n : Nat) (l h : Word) : (s.postBoth n l h).lanes = s.lanes := rfl
@[simp] theorem State.postBoth_env (s : State) (n : Nat) (l h : Word) : (s.postBoth n l h).env = s.env := rfl
@[simp] theorem State.postBoth_ldr (s : State) (n : Nat) (l h : Word) : (s.postBoth n l h).ldr = s.ldr := rfl
@[simp] theorem State.postBoth_link (s : State) (n : Nat) (l h : Word) : (s.postBoth n l h).link = s.link := rfl
@[simp] theorem State.postBoth_tb (s : State) (n : Nat) (l h : Word) : (s.postBoth n l h).tb = s.tb := rfl
@[simp] theorem State.postBoth_ciph (s : State) (n : Nat) (l h : Word) : (s.postBoth n l h).ciph = s.ciph := rfl
@[simp] theorem State.postBoth_memc (s : State) (n : Nat) (l h : Word) : (s.postBoth n l h).memc = s.memc := rfl
@[simp] theorem State.postBoth_flc (s : State) (n : Nat) (l h : Word) : (s.postBoth n l h).flc = s.flc := rfl
@[simp] theorem State.postBoth_pwr (s : State) (n : Nat) (l h : Word) : (s.postBoth n l h).pwr = s.pwr := rfl
@[simp] theorem State.postBoth_rtc (s : State) (n : Nat) (l h : Word) : (s.postBoth n l h).rtc = s.rtc := rfl
@[simp] theorem State.postBoth_start (s : State) (n : Nat) (l h : Word) : (s.postBoth n l h).start = s.start := rfl
@[simp] theorem State.postBoth_upd (s : State) (n : Nat) (l h : Word) : (s.postBoth n l h).upd = s.upd := rfl
@[simp] theorem State.postBoth_host (s : State) (n : Nat) (l h : Word) : (s.postBoth n l h).host = s.host := rfl
@[simp] theorem State.postBoth_uart0 (s : State) (n : Nat) (l h : Word) : (s.postBoth n l h).uart0 = s.uart0 := rfl
@[simp] theorem State.postBoth_uart1 (s : State) (n : Nat) (l h : Word) : (s.postBoth n l h).uart1 = s.uart1 := rfl
@[simp] theorem State.postBoth_spic0 (s : State) (n : Nat) (l h : Word) : (s.postBoth n l h).spic0 = s.spic0 := rfl
@[simp] theorem State.postBoth_spic1 (s : State) (n : Nat) (l h : Word) : (s.postBoth n l h).spic1 = s.spic1 := rfl
@[simp] theorem State.postBoth_i2c0 (s : State) (n : Nat) (l h : Word) : (s.postBoth n l h).i2c0 = s.i2c0 := rfl
@[simp] theorem State.postBoth_i2c1 (s : State) (n : Nat) (l h : Word) : (s.postBoth n l h).i2c1 = s.i2c1 := rfl
@[simp] theorem State.postBoth_sadc (s : State) (n : Nat) (l h : Word) : (s.postBoth n l h).sadc = s.sadc := rfl
@[simp] theorem State.postBoth_tmrs (s : State) (n : Nat) (l h : Word) : (s.postBoth n l h).tmrs = s.tmrs := rfl
@[simp] theorem State.postBoth_wdt0 (s : State) (n : Nat) (l h : Word) : (s.postBoth n l h).wdt0 = s.wdt0 := rfl
@[simp] theorem State.postBoth_wdt1 (s : State) (n : Nat) (l h : Word) : (s.postBoth n l h).wdt1 = s.wdt1 := rfl
@[simp] theorem State.postBoth_pins (s : State) (n : Nat) (l h : Word) : (s.postBoth n l h).pins = s.pins := rfl
@[simp] theorem State.postBoth_die (s : State) (n : Nat) (l h : Word) : (s.postBoth n l h).die = s.die := rfl
@[simp] theorem State.postBoth_evl (s : State) (n : Nat) (l h : Word) : (s.postBoth n l h).evl = s.evl := rfl
@[simp] theorem State.postBoth_snap (s : State) (n : Nat) (l h : Word) : (s.postBoth n l h).snap = s.snap := rfl
@[simp] theorem State.postBoth_free (s : State) (n : Nat) (l h : Word) : (s.postBoth n l h).free = s.free := rfl
@[simp] theorem State.postBoth_pending (s : State) (n : Nat) (l h : Word) : (s.postBoth n l h).pending = s.pending := rfl
@[simp] theorem State.postBoth_reg (s : State) (n : Nat) (l h : Word) (x₀ : Nat) : (s.postBoth n l h).reg x₀ = s.reg x₀ := rfl
@[simp] theorem State.postBoth_get (s : State) (n : Nat) (l h : Word) (x₀ : Field) : (s.postBoth n l h).get x₀ = s.get x₀ := rfl
@[simp] theorem State.postBoth_flag (s : State) (n : Nat) (l h : Word) (x₀ : Field) : (s.postBoth n l h).flag x₀ = s.flag x₀ := rfl
@[simp] theorem State.postBoth_byte (s : State) (n : Nat) (l h : Word) (x₀ : Nat) : (s.postBoth n l h).byte x₀ = s.byte x₀ := rfl
@[simp] theorem State.postBoth_word (s : State) (n : Nat) (l h : Word) (x₀ : Nat) : (s.postBoth n l h).word x₀ = s.word x₀ := rfl
@[simp] theorem State.postBoth_ctx (s : State) (n : Nat) (l h : Word) (x₀ y₀ : Nat) : (s.postBoth n l h).ctx x₀ y₀ = s.ctx x₀ y₀ := rfl
@[simp] theorem State.postBoth_eng (s : State) (n : Nat) (l h : Word) (x₀ : Nat) : (s.postBoth n l h).eng x₀ = s.eng x₀ := rfl
@[simp] theorem State.postBoth_lane (s : State) (n : Nat) (l h : Word) (x₀ : Nat) : (s.postBoth n l h).lane x₀ = s.lane x₀ := rfl
@[simp] theorem State.postBoth_tmr (s : State) (n : Nat) (l h : Word) (x₀ : Nat) : (s.postBoth n l h).tmr x₀ = s.tmr x₀ := rfl
@[simp] theorem State.postBoth_core (s : State) (n : Nat) (l h : Word) (x₀ : CoreId) : (s.postBoth n l h).core x₀ = s.core x₀ := by cases x₀ <;> rfl
@[simp] theorem State.postBoth_us (s : State) (n : Nat) (l h : Word) : (s.postBoth n l h).us = s.us := rfl
@[simp] theorem State.postBoth_net (s : State) (n : Nat) (l h : Word) : (s.postBoth n l h).net = s.net := rfl
@[simp] theorem State.postBoth_awake (s : State) (n : Nat) (l h : Word) : (s.postBoth n l h).awake = s.awake := rfl
@[simp] theorem State.postBoth_bank (s : State) (n : Nat) (l h : Word) (x₀ : Nat) : (s.postBoth n l h).bank x₀ = s.bank x₀ := rfl
@[simp] theorem State.postBoth_pend (s : State) (n : Nat) (l h : Word) : (s.postBoth n l h).pend = s.pend := rfl

/-! ### `setCtx` -/

@[simp] theorem State.setCtx_now (s : State) (e c : Nat) (i : Ctx) : (s.setCtx e c i).now = s.now := rfl
@[simp] theorem State.setCtx_regs (s : State) (e c : Nat) (i : Ctx) : (s.setCtx e c i).regs = s.regs := rfl
@[simp] theorem State.setCtx_shadow (s : State) (e c : Nat) (i : Ctx) : (s.setCtx e c i).shadow = s.shadow := rfl
@[simp] theorem State.setCtx_waits (s : State) (e c : Nat) (i : Ctx) : (s.setCtx e c i).waits = s.waits := rfl
@[simp] theorem State.setCtx_armed (s : State) (e c : Nat) (i : Ctx) : (s.setCtx e c i).armed = s.armed := rfl
@[simp] theorem State.setCtx_mem (s : State) (e c : Nat) (i : Ctx) : (s.setCtx e c i).mem = s.mem := rfl
@[simp] theorem State.setCtx_lost (s : State) (e c : Nat) (i : Ctx) : (s.setCtx e c i).lost = s.lost := rfl
@[simp] theorem State.setCtx_cfg (s : State) (e c : Nat) (i : Ctx) : (s.setCtx e c i).cfg = s.cfg := rfl
@[simp] theorem State.setCtx_core0 (s : State) (e c : Nat) (i : Ctx) : (s.setCtx e c i).core0 = s.core0 := rfl
@[simp] theorem State.setCtx_core1 (s : State) (e c : Nat) (i : Ctx) : (s.setCtx e c i).core1 = s.core1 := rfl
@[simp] theorem State.setCtx_dbg (s : State) (e c : Nat) (i : Ctx) : (s.setCtx e c i).dbg = s.dbg := rfl
@[simp] theorem State.setCtx_tap (s : State) (e c : Nat) (i : Ctx) : (s.setCtx e c i).tap = s.tap := rfl
@[simp] theorem State.setCtx_icol0 (s : State) (e c : Nat) (i : Ctx) : (s.setCtx e c i).icol0 = s.icol0 := rfl
@[simp] theorem State.setCtx_icol1 (s : State) (e c : Nat) (i : Ctx) : (s.setCtx e c i).icol1 = s.icol1 := rfl
@[simp] theorem State.setCtx_engs (s : State) (e c : Nat) (i : Ctx) : (s.setCtx e c i).engs = s.engs := rfl
@[simp] theorem State.setCtx_txq (s : State) (e c : Nat) (i : Ctx) : (s.setCtx e c i).txq = s.txq := rfl
@[simp] theorem State.setCtx_txOrder (s : State) (e c : Nat) (i : Ctx) : (s.setCtx e c i).txOrder = s.txOrder := rfl
@[simp] theorem State.setCtx_rfe (s : State) (e c : Nat) (i : Ctx) : (s.setCtx e c i).rfe = s.rfe := rfl
@[simp] theorem State.setCtx_lanes (s : State) (e c : Nat) (i : Ctx) : (s.setCtx e c i).lanes = s.lanes := rfl
@[simp] theorem State.setCtx_env (s : State) (e c : Nat) (i : Ctx) : (s.setCtx e c i).env = s.env := rfl
@[simp] theorem State.setCtx_ldr (s : State) (e c : Nat) (i : Ctx) : (s.setCtx e c i).ldr = s.ldr := rfl
@[simp] theorem State.setCtx_link (s : State) (e c : Nat) (i : Ctx) : (s.setCtx e c i).link = s.link := rfl
@[simp] theorem State.setCtx_tb (s : State) (e c : Nat) (i : Ctx) : (s.setCtx e c i).tb = s.tb := rfl
@[simp] theorem State.setCtx_ciph (s : State) (e c : Nat) (i : Ctx) : (s.setCtx e c i).ciph = s.ciph := rfl
@[simp] theorem State.setCtx_memc (s : State) (e c : Nat) (i : Ctx) : (s.setCtx e c i).memc = s.memc := rfl
@[simp] theorem State.setCtx_flc (s : State) (e c : Nat) (i : Ctx) : (s.setCtx e c i).flc = s.flc := rfl
@[simp] theorem State.setCtx_pwr (s : State) (e c : Nat) (i : Ctx) : (s.setCtx e c i).pwr = s.pwr := rfl
@[simp] theorem State.setCtx_rtc (s : State) (e c : Nat) (i : Ctx) : (s.setCtx e c i).rtc = s.rtc := rfl
@[simp] theorem State.setCtx_start (s : State) (e c : Nat) (i : Ctx) : (s.setCtx e c i).start = s.start := rfl
@[simp] theorem State.setCtx_upd (s : State) (e c : Nat) (i : Ctx) : (s.setCtx e c i).upd = s.upd := rfl
@[simp] theorem State.setCtx_host (s : State) (e c : Nat) (i : Ctx) : (s.setCtx e c i).host = s.host := rfl
@[simp] theorem State.setCtx_uart0 (s : State) (e c : Nat) (i : Ctx) : (s.setCtx e c i).uart0 = s.uart0 := rfl
@[simp] theorem State.setCtx_uart1 (s : State) (e c : Nat) (i : Ctx) : (s.setCtx e c i).uart1 = s.uart1 := rfl
@[simp] theorem State.setCtx_spic0 (s : State) (e c : Nat) (i : Ctx) : (s.setCtx e c i).spic0 = s.spic0 := rfl
@[simp] theorem State.setCtx_spic1 (s : State) (e c : Nat) (i : Ctx) : (s.setCtx e c i).spic1 = s.spic1 := rfl
@[simp] theorem State.setCtx_i2c0 (s : State) (e c : Nat) (i : Ctx) : (s.setCtx e c i).i2c0 = s.i2c0 := rfl
@[simp] theorem State.setCtx_i2c1 (s : State) (e c : Nat) (i : Ctx) : (s.setCtx e c i).i2c1 = s.i2c1 := rfl
@[simp] theorem State.setCtx_sadc (s : State) (e c : Nat) (i : Ctx) : (s.setCtx e c i).sadc = s.sadc := rfl
@[simp] theorem State.setCtx_tmrs (s : State) (e c : Nat) (i : Ctx) : (s.setCtx e c i).tmrs = s.tmrs := rfl
@[simp] theorem State.setCtx_wdt0 (s : State) (e c : Nat) (i : Ctx) : (s.setCtx e c i).wdt0 = s.wdt0 := rfl
@[simp] theorem State.setCtx_wdt1 (s : State) (e c : Nat) (i : Ctx) : (s.setCtx e c i).wdt1 = s.wdt1 := rfl
@[simp] theorem State.setCtx_pins (s : State) (e c : Nat) (i : Ctx) : (s.setCtx e c i).pins = s.pins := rfl
@[simp] theorem State.setCtx_die (s : State) (e c : Nat) (i : Ctx) : (s.setCtx e c i).die = s.die := rfl
@[simp] theorem State.setCtx_evl (s : State) (e c : Nat) (i : Ctx) : (s.setCtx e c i).evl = s.evl := rfl
@[simp] theorem State.setCtx_snap (s : State) (e c : Nat) (i : Ctx) : (s.setCtx e c i).snap = s.snap := rfl
@[simp] theorem State.setCtx_free (s : State) (e c : Nat) (i : Ctx) : (s.setCtx e c i).free = s.free := rfl
@[simp] theorem State.setCtx_pending (s : State) (e c : Nat) (i : Ctx) : (s.setCtx e c i).pending = s.pending := rfl
@[simp] theorem State.setCtx_reg (s : State) (e c : Nat) (i : Ctx) (x₀ : Nat) : (s.setCtx e c i).reg x₀ = s.reg x₀ := rfl
@[simp] theorem State.setCtx_get (s : State) (e c : Nat) (i : Ctx) (x₀ : Field) : (s.setCtx e c i).get x₀ = s.get x₀ := rfl
@[simp] theorem State.setCtx_flag (s : State) (e c : Nat) (i : Ctx) (x₀ : Field) : (s.setCtx e c i).flag x₀ = s.flag x₀ := rfl
@[simp] theorem State.setCtx_byte (s : State) (e c : Nat) (i : Ctx) (x₀ : Nat) : (s.setCtx e c i).byte x₀ = s.byte x₀ := rfl
@[simp] theorem State.setCtx_word (s : State) (e c : Nat) (i : Ctx) (x₀ : Nat) : (s.setCtx e c i).word x₀ = s.word x₀ := rfl
@[simp] theorem State.setCtx_eng (s : State) (e c : Nat) (i : Ctx) (x₀ : Nat) : (s.setCtx e c i).eng x₀ = s.eng x₀ := rfl
@[simp] theorem State.setCtx_lane (s : State) (e c : Nat) (i : Ctx) (x₀ : Nat) : (s.setCtx e c i).lane x₀ = s.lane x₀ := rfl
@[simp] theorem State.setCtx_tmr (s : State) (e c : Nat) (i : Ctx) (x₀ : Nat) : (s.setCtx e c i).tmr x₀ = s.tmr x₀ := rfl
@[simp] theorem State.setCtx_core (s : State) (e c : Nat) (i : Ctx) (x₀ : CoreId) : (s.setCtx e c i).core x₀ = s.core x₀ := by cases x₀ <;> rfl
@[simp] theorem State.setCtx_icol (s : State) (e c : Nat) (i : Ctx) (x₀ : CoreId) : (s.setCtx e c i).icol x₀ = s.icol x₀ := by cases x₀ <;> rfl
@[simp] theorem State.setCtx_us (s : State) (e c : Nat) (i : Ctx) : (s.setCtx e c i).us = s.us := rfl
@[simp] theorem State.setCtx_net (s : State) (e c : Nat) (i : Ctx) : (s.setCtx e c i).net = s.net := rfl
@[simp] theorem State.setCtx_awake (s : State) (e c : Nat) (i : Ctx) : (s.setCtx e c i).awake = s.awake := rfl
@[simp] theorem State.setCtx_bank (s : State) (e c : Nat) (i : Ctx) (x₀ : Nat) : (s.setCtx e c i).bank x₀ = s.bank x₀ := rfl
@[simp] theorem State.setCtx_pend (s : State) (e c : Nat) (i : Ctx) : (s.setCtx e c i).pend = s.pend := rfl

/-! ### `latch` -/

@[simp] theorem State.latch_now (s : State) (e c k : Nat) : (s.latch e c k).now = s.now := rfl
@[simp] theorem State.latch_regs (s : State) (e c k : Nat) : (s.latch e c k).regs = s.regs := rfl
@[simp] theorem State.latch_shadow (s : State) (e c k : Nat) : (s.latch e c k).shadow = s.shadow := rfl
@[simp] theorem State.latch_waits (s : State) (e c k : Nat) : (s.latch e c k).waits = s.waits := rfl
@[simp] theorem State.latch_armed (s : State) (e c k : Nat) : (s.latch e c k).armed = s.armed := rfl
@[simp] theorem State.latch_mem (s : State) (e c k : Nat) : (s.latch e c k).mem = s.mem := rfl
@[simp] theorem State.latch_lost (s : State) (e c k : Nat) : (s.latch e c k).lost = s.lost := rfl
@[simp] theorem State.latch_cfg (s : State) (e c k : Nat) : (s.latch e c k).cfg = s.cfg := rfl
@[simp] theorem State.latch_core0 (s : State) (e c k : Nat) : (s.latch e c k).core0 = s.core0 := rfl
@[simp] theorem State.latch_core1 (s : State) (e c k : Nat) : (s.latch e c k).core1 = s.core1 := rfl
@[simp] theorem State.latch_dbg (s : State) (e c k : Nat) : (s.latch e c k).dbg = s.dbg := rfl
@[simp] theorem State.latch_tap (s : State) (e c k : Nat) : (s.latch e c k).tap = s.tap := rfl
@[simp] theorem State.latch_icol0 (s : State) (e c k : Nat) : (s.latch e c k).icol0 = s.icol0 := rfl
@[simp] theorem State.latch_icol1 (s : State) (e c k : Nat) : (s.latch e c k).icol1 = s.icol1 := rfl
@[simp] theorem State.latch_engs (s : State) (e c k : Nat) : (s.latch e c k).engs = s.engs := rfl
@[simp] theorem State.latch_txq (s : State) (e c k : Nat) : (s.latch e c k).txq = s.txq := rfl
@[simp] theorem State.latch_txOrder (s : State) (e c k : Nat) : (s.latch e c k).txOrder = s.txOrder := rfl
@[simp] theorem State.latch_rfe (s : State) (e c k : Nat) : (s.latch e c k).rfe = s.rfe := rfl
@[simp] theorem State.latch_lanes (s : State) (e c k : Nat) : (s.latch e c k).lanes = s.lanes := rfl
@[simp] theorem State.latch_env (s : State) (e c k : Nat) : (s.latch e c k).env = s.env := rfl
@[simp] theorem State.latch_ldr (s : State) (e c k : Nat) : (s.latch e c k).ldr = s.ldr := rfl
@[simp] theorem State.latch_link (s : State) (e c k : Nat) : (s.latch e c k).link = s.link := rfl
@[simp] theorem State.latch_tb (s : State) (e c k : Nat) : (s.latch e c k).tb = s.tb := rfl
@[simp] theorem State.latch_ciph (s : State) (e c k : Nat) : (s.latch e c k).ciph = s.ciph := rfl
@[simp] theorem State.latch_memc (s : State) (e c k : Nat) : (s.latch e c k).memc = s.memc := rfl
@[simp] theorem State.latch_flc (s : State) (e c k : Nat) : (s.latch e c k).flc = s.flc := rfl
@[simp] theorem State.latch_pwr (s : State) (e c k : Nat) : (s.latch e c k).pwr = s.pwr := rfl
@[simp] theorem State.latch_rtc (s : State) (e c k : Nat) : (s.latch e c k).rtc = s.rtc := rfl
@[simp] theorem State.latch_start (s : State) (e c k : Nat) : (s.latch e c k).start = s.start := rfl
@[simp] theorem State.latch_upd (s : State) (e c k : Nat) : (s.latch e c k).upd = s.upd := rfl
@[simp] theorem State.latch_host (s : State) (e c k : Nat) : (s.latch e c k).host = s.host := rfl
@[simp] theorem State.latch_uart0 (s : State) (e c k : Nat) : (s.latch e c k).uart0 = s.uart0 := rfl
@[simp] theorem State.latch_uart1 (s : State) (e c k : Nat) : (s.latch e c k).uart1 = s.uart1 := rfl
@[simp] theorem State.latch_spic0 (s : State) (e c k : Nat) : (s.latch e c k).spic0 = s.spic0 := rfl
@[simp] theorem State.latch_spic1 (s : State) (e c k : Nat) : (s.latch e c k).spic1 = s.spic1 := rfl
@[simp] theorem State.latch_i2c0 (s : State) (e c k : Nat) : (s.latch e c k).i2c0 = s.i2c0 := rfl
@[simp] theorem State.latch_i2c1 (s : State) (e c k : Nat) : (s.latch e c k).i2c1 = s.i2c1 := rfl
@[simp] theorem State.latch_sadc (s : State) (e c k : Nat) : (s.latch e c k).sadc = s.sadc := rfl
@[simp] theorem State.latch_tmrs (s : State) (e c k : Nat) : (s.latch e c k).tmrs = s.tmrs := rfl
@[simp] theorem State.latch_wdt0 (s : State) (e c k : Nat) : (s.latch e c k).wdt0 = s.wdt0 := rfl
@[simp] theorem State.latch_wdt1 (s : State) (e c k : Nat) : (s.latch e c k).wdt1 = s.wdt1 := rfl
@[simp] theorem State.latch_pins (s : State) (e c k : Nat) : (s.latch e c k).pins = s.pins := rfl
@[simp] theorem State.latch_die (s : State) (e c k : Nat) : (s.latch e c k).die = s.die := rfl
@[simp] theorem State.latch_evl (s : State) (e c k : Nat) : (s.latch e c k).evl = s.evl := rfl
@[simp] theorem State.latch_snap (s : State) (e c k : Nat) : (s.latch e c k).snap = s.snap := rfl
@[simp] theorem State.latch_free (s : State) (e c k : Nat) : (s.latch e c k).free = s.free := rfl
@[simp] theorem State.latch_pending (s : State) (e c k : Nat) : (s.latch e c k).pending = s.pending := rfl
@[simp] theorem State.latch_reg (s : State) (e c k : Nat) (x₀ : Nat) : (s.latch e c k).reg x₀ = s.reg x₀ := rfl
@[simp] theorem State.latch_get (s : State) (e c k : Nat) (x₀ : Field) : (s.latch e c k).get x₀ = s.get x₀ := rfl
@[simp] theorem State.latch_flag (s : State) (e c k : Nat) (x₀ : Field) : (s.latch e c k).flag x₀ = s.flag x₀ := rfl
@[simp] theorem State.latch_byte (s : State) (e c k : Nat) (x₀ : Nat) : (s.latch e c k).byte x₀ = s.byte x₀ := rfl
@[simp] theorem State.latch_word (s : State) (e c k : Nat) (x₀ : Nat) : (s.latch e c k).word x₀ = s.word x₀ := rfl
@[simp] theorem State.latch_eng (s : State) (e c k : Nat) (x₀ : Nat) : (s.latch e c k).eng x₀ = s.eng x₀ := rfl
@[simp] theorem State.latch_lane (s : State) (e c k : Nat) (x₀ : Nat) : (s.latch e c k).lane x₀ = s.lane x₀ := rfl
@[simp] theorem State.latch_tmr (s : State) (e c k : Nat) (x₀ : Nat) : (s.latch e c k).tmr x₀ = s.tmr x₀ := rfl
@[simp] theorem State.latch_core (s : State) (e c k : Nat) (x₀ : CoreId) : (s.latch e c k).core x₀ = s.core x₀ := by cases x₀ <;> rfl
@[simp] theorem State.latch_icol (s : State) (e c k : Nat) (x₀ : CoreId) : (s.latch e c k).icol x₀ = s.icol x₀ := by cases x₀ <;> rfl
@[simp] theorem State.latch_us (s : State) (e c k : Nat) : (s.latch e c k).us = s.us := rfl
@[simp] theorem State.latch_net (s : State) (e c k : Nat) : (s.latch e c k).net = s.net := rfl
@[simp] theorem State.latch_awake (s : State) (e c k : Nat) : (s.latch e c k).awake = s.awake := rfl
@[simp] theorem State.latch_bank (s : State) (e c k : Nat) (x₀ : Nat) : (s.latch e c k).bank x₀ = s.bank x₀ := rfl
@[simp] theorem State.latch_pend (s : State) (e c k : Nat) : (s.latch e c k).pend = s.pend := rfl

/-! ### `setEng` -/

@[simp] theorem State.setEng_now (s : State) (e : Nat) (i : Engine) : (s.setEng e i).now = s.now := rfl
@[simp] theorem State.setEng_regs (s : State) (e : Nat) (i : Engine) : (s.setEng e i).regs = s.regs := rfl
@[simp] theorem State.setEng_shadow (s : State) (e : Nat) (i : Engine) : (s.setEng e i).shadow = s.shadow := rfl
@[simp] theorem State.setEng_waits (s : State) (e : Nat) (i : Engine) : (s.setEng e i).waits = s.waits := rfl
@[simp] theorem State.setEng_armed (s : State) (e : Nat) (i : Engine) : (s.setEng e i).armed = s.armed := rfl
@[simp] theorem State.setEng_mem (s : State) (e : Nat) (i : Engine) : (s.setEng e i).mem = s.mem := rfl
@[simp] theorem State.setEng_lost (s : State) (e : Nat) (i : Engine) : (s.setEng e i).lost = s.lost := rfl
@[simp] theorem State.setEng_cfg (s : State) (e : Nat) (i : Engine) : (s.setEng e i).cfg = s.cfg := rfl
@[simp] theorem State.setEng_core0 (s : State) (e : Nat) (i : Engine) : (s.setEng e i).core0 = s.core0 := rfl
@[simp] theorem State.setEng_core1 (s : State) (e : Nat) (i : Engine) : (s.setEng e i).core1 = s.core1 := rfl
@[simp] theorem State.setEng_dbg (s : State) (e : Nat) (i : Engine) : (s.setEng e i).dbg = s.dbg := rfl
@[simp] theorem State.setEng_tap (s : State) (e : Nat) (i : Engine) : (s.setEng e i).tap = s.tap := rfl
@[simp] theorem State.setEng_icol0 (s : State) (e : Nat) (i : Engine) : (s.setEng e i).icol0 = s.icol0 := rfl
@[simp] theorem State.setEng_icol1 (s : State) (e : Nat) (i : Engine) : (s.setEng e i).icol1 = s.icol1 := rfl
@[simp] theorem State.setEng_ctxs (s : State) (e : Nat) (i : Engine) : (s.setEng e i).ctxs = s.ctxs := rfl
@[simp] theorem State.setEng_txq (s : State) (e : Nat) (i : Engine) : (s.setEng e i).txq = s.txq := rfl
@[simp] theorem State.setEng_txOrder (s : State) (e : Nat) (i : Engine) : (s.setEng e i).txOrder = s.txOrder := rfl
@[simp] theorem State.setEng_rfe (s : State) (e : Nat) (i : Engine) : (s.setEng e i).rfe = s.rfe := rfl
@[simp] theorem State.setEng_lanes (s : State) (e : Nat) (i : Engine) : (s.setEng e i).lanes = s.lanes := rfl
@[simp] theorem State.setEng_env (s : State) (e : Nat) (i : Engine) : (s.setEng e i).env = s.env := rfl
@[simp] theorem State.setEng_ldr (s : State) (e : Nat) (i : Engine) : (s.setEng e i).ldr = s.ldr := rfl
@[simp] theorem State.setEng_link (s : State) (e : Nat) (i : Engine) : (s.setEng e i).link = s.link := rfl
@[simp] theorem State.setEng_tb (s : State) (e : Nat) (i : Engine) : (s.setEng e i).tb = s.tb := rfl
@[simp] theorem State.setEng_ciph (s : State) (e : Nat) (i : Engine) : (s.setEng e i).ciph = s.ciph := rfl
@[simp] theorem State.setEng_memc (s : State) (e : Nat) (i : Engine) : (s.setEng e i).memc = s.memc := rfl
@[simp] theorem State.setEng_flc (s : State) (e : Nat) (i : Engine) : (s.setEng e i).flc = s.flc := rfl
@[simp] theorem State.setEng_pwr (s : State) (e : Nat) (i : Engine) : (s.setEng e i).pwr = s.pwr := rfl
@[simp] theorem State.setEng_rtc (s : State) (e : Nat) (i : Engine) : (s.setEng e i).rtc = s.rtc := rfl
@[simp] theorem State.setEng_start (s : State) (e : Nat) (i : Engine) : (s.setEng e i).start = s.start := rfl
@[simp] theorem State.setEng_upd (s : State) (e : Nat) (i : Engine) : (s.setEng e i).upd = s.upd := rfl
@[simp] theorem State.setEng_host (s : State) (e : Nat) (i : Engine) : (s.setEng e i).host = s.host := rfl
@[simp] theorem State.setEng_uart0 (s : State) (e : Nat) (i : Engine) : (s.setEng e i).uart0 = s.uart0 := rfl
@[simp] theorem State.setEng_uart1 (s : State) (e : Nat) (i : Engine) : (s.setEng e i).uart1 = s.uart1 := rfl
@[simp] theorem State.setEng_spic0 (s : State) (e : Nat) (i : Engine) : (s.setEng e i).spic0 = s.spic0 := rfl
@[simp] theorem State.setEng_spic1 (s : State) (e : Nat) (i : Engine) : (s.setEng e i).spic1 = s.spic1 := rfl
@[simp] theorem State.setEng_i2c0 (s : State) (e : Nat) (i : Engine) : (s.setEng e i).i2c0 = s.i2c0 := rfl
@[simp] theorem State.setEng_i2c1 (s : State) (e : Nat) (i : Engine) : (s.setEng e i).i2c1 = s.i2c1 := rfl
@[simp] theorem State.setEng_sadc (s : State) (e : Nat) (i : Engine) : (s.setEng e i).sadc = s.sadc := rfl
@[simp] theorem State.setEng_tmrs (s : State) (e : Nat) (i : Engine) : (s.setEng e i).tmrs = s.tmrs := rfl
@[simp] theorem State.setEng_wdt0 (s : State) (e : Nat) (i : Engine) : (s.setEng e i).wdt0 = s.wdt0 := rfl
@[simp] theorem State.setEng_wdt1 (s : State) (e : Nat) (i : Engine) : (s.setEng e i).wdt1 = s.wdt1 := rfl
@[simp] theorem State.setEng_pins (s : State) (e : Nat) (i : Engine) : (s.setEng e i).pins = s.pins := rfl
@[simp] theorem State.setEng_die (s : State) (e : Nat) (i : Engine) : (s.setEng e i).die = s.die := rfl
@[simp] theorem State.setEng_evl (s : State) (e : Nat) (i : Engine) : (s.setEng e i).evl = s.evl := rfl
@[simp] theorem State.setEng_snap (s : State) (e : Nat) (i : Engine) : (s.setEng e i).snap = s.snap := rfl
@[simp] theorem State.setEng_free (s : State) (e : Nat) (i : Engine) : (s.setEng e i).free = s.free := rfl
@[simp] theorem State.setEng_pending (s : State) (e : Nat) (i : Engine) : (s.setEng e i).pending = s.pending := rfl
@[simp] theorem State.setEng_reg (s : State) (e : Nat) (i : Engine) (x₀ : Nat) : (s.setEng e i).reg x₀ = s.reg x₀ := rfl
@[simp] theorem State.setEng_get (s : State) (e : Nat) (i : Engine) (x₀ : Field) : (s.setEng e i).get x₀ = s.get x₀ := rfl
@[simp] theorem State.setEng_flag (s : State) (e : Nat) (i : Engine) (x₀ : Field) : (s.setEng e i).flag x₀ = s.flag x₀ := rfl
@[simp] theorem State.setEng_byte (s : State) (e : Nat) (i : Engine) (x₀ : Nat) : (s.setEng e i).byte x₀ = s.byte x₀ := rfl
@[simp] theorem State.setEng_word (s : State) (e : Nat) (i : Engine) (x₀ : Nat) : (s.setEng e i).word x₀ = s.word x₀ := rfl
@[simp] theorem State.setEng_ctx (s : State) (e : Nat) (i : Engine) (x₀ y₀ : Nat) : (s.setEng e i).ctx x₀ y₀ = s.ctx x₀ y₀ := rfl
@[simp] theorem State.setEng_lane (s : State) (e : Nat) (i : Engine) (x₀ : Nat) : (s.setEng e i).lane x₀ = s.lane x₀ := rfl
@[simp] theorem State.setEng_tmr (s : State) (e : Nat) (i : Engine) (x₀ : Nat) : (s.setEng e i).tmr x₀ = s.tmr x₀ := rfl
@[simp] theorem State.setEng_core (s : State) (e : Nat) (i : Engine) (x₀ : CoreId) : (s.setEng e i).core x₀ = s.core x₀ := by cases x₀ <;> rfl
@[simp] theorem State.setEng_icol (s : State) (e : Nat) (i : Engine) (x₀ : CoreId) : (s.setEng e i).icol x₀ = s.icol x₀ := by cases x₀ <;> rfl
@[simp] theorem State.setEng_us (s : State) (e : Nat) (i : Engine) : (s.setEng e i).us = s.us := rfl
@[simp] theorem State.setEng_net (s : State) (e : Nat) (i : Engine) : (s.setEng e i).net = s.net := rfl
@[simp] theorem State.setEng_awake (s : State) (e : Nat) (i : Engine) : (s.setEng e i).awake = s.awake := rfl
@[simp] theorem State.setEng_bank (s : State) (e : Nat) (i : Engine) (x₀ : Nat) : (s.setEng e i).bank x₀ = s.bank x₀ := rfl
@[simp] theorem State.setEng_pend (s : State) (e : Nat) (i : Engine) : (s.setEng e i).pend = s.pend := rfl

/-! ### `setLane` -/

@[simp] theorem State.setLane_now (s : State) (k : Nat) (i : Lane) : (s.setLane k i).now = s.now := rfl
@[simp] theorem State.setLane_regs (s : State) (k : Nat) (i : Lane) : (s.setLane k i).regs = s.regs := rfl
@[simp] theorem State.setLane_shadow (s : State) (k : Nat) (i : Lane) : (s.setLane k i).shadow = s.shadow := rfl
@[simp] theorem State.setLane_waits (s : State) (k : Nat) (i : Lane) : (s.setLane k i).waits = s.waits := rfl
@[simp] theorem State.setLane_armed (s : State) (k : Nat) (i : Lane) : (s.setLane k i).armed = s.armed := rfl
@[simp] theorem State.setLane_mem (s : State) (k : Nat) (i : Lane) : (s.setLane k i).mem = s.mem := rfl
@[simp] theorem State.setLane_lost (s : State) (k : Nat) (i : Lane) : (s.setLane k i).lost = s.lost := rfl
@[simp] theorem State.setLane_cfg (s : State) (k : Nat) (i : Lane) : (s.setLane k i).cfg = s.cfg := rfl
@[simp] theorem State.setLane_core0 (s : State) (k : Nat) (i : Lane) : (s.setLane k i).core0 = s.core0 := rfl
@[simp] theorem State.setLane_core1 (s : State) (k : Nat) (i : Lane) : (s.setLane k i).core1 = s.core1 := rfl
@[simp] theorem State.setLane_dbg (s : State) (k : Nat) (i : Lane) : (s.setLane k i).dbg = s.dbg := rfl
@[simp] theorem State.setLane_tap (s : State) (k : Nat) (i : Lane) : (s.setLane k i).tap = s.tap := rfl
@[simp] theorem State.setLane_icol0 (s : State) (k : Nat) (i : Lane) : (s.setLane k i).icol0 = s.icol0 := rfl
@[simp] theorem State.setLane_icol1 (s : State) (k : Nat) (i : Lane) : (s.setLane k i).icol1 = s.icol1 := rfl
@[simp] theorem State.setLane_ctxs (s : State) (k : Nat) (i : Lane) : (s.setLane k i).ctxs = s.ctxs := rfl
@[simp] theorem State.setLane_engs (s : State) (k : Nat) (i : Lane) : (s.setLane k i).engs = s.engs := rfl
@[simp] theorem State.setLane_txq (s : State) (k : Nat) (i : Lane) : (s.setLane k i).txq = s.txq := rfl
@[simp] theorem State.setLane_txOrder (s : State) (k : Nat) (i : Lane) : (s.setLane k i).txOrder = s.txOrder := rfl
@[simp] theorem State.setLane_rfe (s : State) (k : Nat) (i : Lane) : (s.setLane k i).rfe = s.rfe := rfl
@[simp] theorem State.setLane_env (s : State) (k : Nat) (i : Lane) : (s.setLane k i).env = s.env := rfl
@[simp] theorem State.setLane_ldr (s : State) (k : Nat) (i : Lane) : (s.setLane k i).ldr = s.ldr := rfl
@[simp] theorem State.setLane_link (s : State) (k : Nat) (i : Lane) : (s.setLane k i).link = s.link := rfl
@[simp] theorem State.setLane_tb (s : State) (k : Nat) (i : Lane) : (s.setLane k i).tb = s.tb := rfl
@[simp] theorem State.setLane_ciph (s : State) (k : Nat) (i : Lane) : (s.setLane k i).ciph = s.ciph := rfl
@[simp] theorem State.setLane_memc (s : State) (k : Nat) (i : Lane) : (s.setLane k i).memc = s.memc := rfl
@[simp] theorem State.setLane_flc (s : State) (k : Nat) (i : Lane) : (s.setLane k i).flc = s.flc := rfl
@[simp] theorem State.setLane_pwr (s : State) (k : Nat) (i : Lane) : (s.setLane k i).pwr = s.pwr := rfl
@[simp] theorem State.setLane_rtc (s : State) (k : Nat) (i : Lane) : (s.setLane k i).rtc = s.rtc := rfl
@[simp] theorem State.setLane_start (s : State) (k : Nat) (i : Lane) : (s.setLane k i).start = s.start := rfl
@[simp] theorem State.setLane_upd (s : State) (k : Nat) (i : Lane) : (s.setLane k i).upd = s.upd := rfl
@[simp] theorem State.setLane_host (s : State) (k : Nat) (i : Lane) : (s.setLane k i).host = s.host := rfl
@[simp] theorem State.setLane_uart0 (s : State) (k : Nat) (i : Lane) : (s.setLane k i).uart0 = s.uart0 := rfl
@[simp] theorem State.setLane_uart1 (s : State) (k : Nat) (i : Lane) : (s.setLane k i).uart1 = s.uart1 := rfl
@[simp] theorem State.setLane_spic0 (s : State) (k : Nat) (i : Lane) : (s.setLane k i).spic0 = s.spic0 := rfl
@[simp] theorem State.setLane_spic1 (s : State) (k : Nat) (i : Lane) : (s.setLane k i).spic1 = s.spic1 := rfl
@[simp] theorem State.setLane_i2c0 (s : State) (k : Nat) (i : Lane) : (s.setLane k i).i2c0 = s.i2c0 := rfl
@[simp] theorem State.setLane_i2c1 (s : State) (k : Nat) (i : Lane) : (s.setLane k i).i2c1 = s.i2c1 := rfl
@[simp] theorem State.setLane_sadc (s : State) (k : Nat) (i : Lane) : (s.setLane k i).sadc = s.sadc := rfl
@[simp] theorem State.setLane_tmrs (s : State) (k : Nat) (i : Lane) : (s.setLane k i).tmrs = s.tmrs := rfl
@[simp] theorem State.setLane_wdt0 (s : State) (k : Nat) (i : Lane) : (s.setLane k i).wdt0 = s.wdt0 := rfl
@[simp] theorem State.setLane_wdt1 (s : State) (k : Nat) (i : Lane) : (s.setLane k i).wdt1 = s.wdt1 := rfl
@[simp] theorem State.setLane_pins (s : State) (k : Nat) (i : Lane) : (s.setLane k i).pins = s.pins := rfl
@[simp] theorem State.setLane_die (s : State) (k : Nat) (i : Lane) : (s.setLane k i).die = s.die := rfl
@[simp] theorem State.setLane_evl (s : State) (k : Nat) (i : Lane) : (s.setLane k i).evl = s.evl := rfl
@[simp] theorem State.setLane_snap (s : State) (k : Nat) (i : Lane) : (s.setLane k i).snap = s.snap := rfl
@[simp] theorem State.setLane_free (s : State) (k : Nat) (i : Lane) : (s.setLane k i).free = s.free := rfl
@[simp] theorem State.setLane_pending (s : State) (k : Nat) (i : Lane) : (s.setLane k i).pending = s.pending := rfl
@[simp] theorem State.setLane_reg (s : State) (k : Nat) (i : Lane) (x₀ : Nat) : (s.setLane k i).reg x₀ = s.reg x₀ := rfl
@[simp] theorem State.setLane_get (s : State) (k : Nat) (i : Lane) (x₀ : Field) : (s.setLane k i).get x₀ = s.get x₀ := rfl
@[simp] theorem State.setLane_flag (s : State) (k : Nat) (i : Lane) (x₀ : Field) : (s.setLane k i).flag x₀ = s.flag x₀ := rfl
@[simp] theorem State.setLane_byte (s : State) (k : Nat) (i : Lane) (x₀ : Nat) : (s.setLane k i).byte x₀ = s.byte x₀ := rfl
@[simp] theorem State.setLane_word (s : State) (k : Nat) (i : Lane) (x₀ : Nat) : (s.setLane k i).word x₀ = s.word x₀ := rfl
@[simp] theorem State.setLane_ctx (s : State) (k : Nat) (i : Lane) (x₀ y₀ : Nat) : (s.setLane k i).ctx x₀ y₀ = s.ctx x₀ y₀ := rfl
@[simp] theorem State.setLane_eng (s : State) (k : Nat) (i : Lane) (x₀ : Nat) : (s.setLane k i).eng x₀ = s.eng x₀ := rfl
@[simp] theorem State.setLane_tmr (s : State) (k : Nat) (i : Lane) (x₀ : Nat) : (s.setLane k i).tmr x₀ = s.tmr x₀ := rfl
@[simp] theorem State.setLane_core (s : State) (k : Nat) (i : Lane) (x₀ : CoreId) : (s.setLane k i).core x₀ = s.core x₀ := by cases x₀ <;> rfl
@[simp] theorem State.setLane_icol (s : State) (k : Nat) (i : Lane) (x₀ : CoreId) : (s.setLane k i).icol x₀ = s.icol x₀ := by cases x₀ <;> rfl
@[simp] theorem State.setLane_us (s : State) (k : Nat) (i : Lane) : (s.setLane k i).us = s.us := rfl
@[simp] theorem State.setLane_net (s : State) (k : Nat) (i : Lane) : (s.setLane k i).net = s.net := rfl
@[simp] theorem State.setLane_awake (s : State) (k : Nat) (i : Lane) : (s.setLane k i).awake = s.awake := rfl
@[simp] theorem State.setLane_bank (s : State) (k : Nat) (i : Lane) (x₀ : Nat) : (s.setLane k i).bank x₀ = s.bank x₀ := rfl
@[simp] theorem State.setLane_pend (s : State) (k : Nat) (i : Lane) : (s.setLane k i).pend = s.pend := rfl

/-! ### `setTmr` -/

@[simp] theorem State.setTmr_now (s : State) (n : Nat) (i : Tmr) : (s.setTmr n i).now = s.now := rfl
@[simp] theorem State.setTmr_regs (s : State) (n : Nat) (i : Tmr) : (s.setTmr n i).regs = s.regs := rfl
@[simp] theorem State.setTmr_shadow (s : State) (n : Nat) (i : Tmr) : (s.setTmr n i).shadow = s.shadow := rfl
@[simp] theorem State.setTmr_waits (s : State) (n : Nat) (i : Tmr) : (s.setTmr n i).waits = s.waits := rfl
@[simp] theorem State.setTmr_armed (s : State) (n : Nat) (i : Tmr) : (s.setTmr n i).armed = s.armed := rfl
@[simp] theorem State.setTmr_mem (s : State) (n : Nat) (i : Tmr) : (s.setTmr n i).mem = s.mem := rfl
@[simp] theorem State.setTmr_lost (s : State) (n : Nat) (i : Tmr) : (s.setTmr n i).lost = s.lost := rfl
@[simp] theorem State.setTmr_cfg (s : State) (n : Nat) (i : Tmr) : (s.setTmr n i).cfg = s.cfg := rfl
@[simp] theorem State.setTmr_core0 (s : State) (n : Nat) (i : Tmr) : (s.setTmr n i).core0 = s.core0 := rfl
@[simp] theorem State.setTmr_core1 (s : State) (n : Nat) (i : Tmr) : (s.setTmr n i).core1 = s.core1 := rfl
@[simp] theorem State.setTmr_dbg (s : State) (n : Nat) (i : Tmr) : (s.setTmr n i).dbg = s.dbg := rfl
@[simp] theorem State.setTmr_tap (s : State) (n : Nat) (i : Tmr) : (s.setTmr n i).tap = s.tap := rfl
@[simp] theorem State.setTmr_icol0 (s : State) (n : Nat) (i : Tmr) : (s.setTmr n i).icol0 = s.icol0 := rfl
@[simp] theorem State.setTmr_icol1 (s : State) (n : Nat) (i : Tmr) : (s.setTmr n i).icol1 = s.icol1 := rfl
@[simp] theorem State.setTmr_ctxs (s : State) (n : Nat) (i : Tmr) : (s.setTmr n i).ctxs = s.ctxs := rfl
@[simp] theorem State.setTmr_engs (s : State) (n : Nat) (i : Tmr) : (s.setTmr n i).engs = s.engs := rfl
@[simp] theorem State.setTmr_txq (s : State) (n : Nat) (i : Tmr) : (s.setTmr n i).txq = s.txq := rfl
@[simp] theorem State.setTmr_txOrder (s : State) (n : Nat) (i : Tmr) : (s.setTmr n i).txOrder = s.txOrder := rfl
@[simp] theorem State.setTmr_rfe (s : State) (n : Nat) (i : Tmr) : (s.setTmr n i).rfe = s.rfe := rfl
@[simp] theorem State.setTmr_lanes (s : State) (n : Nat) (i : Tmr) : (s.setTmr n i).lanes = s.lanes := rfl
@[simp] theorem State.setTmr_env (s : State) (n : Nat) (i : Tmr) : (s.setTmr n i).env = s.env := rfl
@[simp] theorem State.setTmr_ldr (s : State) (n : Nat) (i : Tmr) : (s.setTmr n i).ldr = s.ldr := rfl
@[simp] theorem State.setTmr_link (s : State) (n : Nat) (i : Tmr) : (s.setTmr n i).link = s.link := rfl
@[simp] theorem State.setTmr_tb (s : State) (n : Nat) (i : Tmr) : (s.setTmr n i).tb = s.tb := rfl
@[simp] theorem State.setTmr_ciph (s : State) (n : Nat) (i : Tmr) : (s.setTmr n i).ciph = s.ciph := rfl
@[simp] theorem State.setTmr_memc (s : State) (n : Nat) (i : Tmr) : (s.setTmr n i).memc = s.memc := rfl
@[simp] theorem State.setTmr_flc (s : State) (n : Nat) (i : Tmr) : (s.setTmr n i).flc = s.flc := rfl
@[simp] theorem State.setTmr_pwr (s : State) (n : Nat) (i : Tmr) : (s.setTmr n i).pwr = s.pwr := rfl
@[simp] theorem State.setTmr_rtc (s : State) (n : Nat) (i : Tmr) : (s.setTmr n i).rtc = s.rtc := rfl
@[simp] theorem State.setTmr_start (s : State) (n : Nat) (i : Tmr) : (s.setTmr n i).start = s.start := rfl
@[simp] theorem State.setTmr_upd (s : State) (n : Nat) (i : Tmr) : (s.setTmr n i).upd = s.upd := rfl
@[simp] theorem State.setTmr_host (s : State) (n : Nat) (i : Tmr) : (s.setTmr n i).host = s.host := rfl
@[simp] theorem State.setTmr_uart0 (s : State) (n : Nat) (i : Tmr) : (s.setTmr n i).uart0 = s.uart0 := rfl
@[simp] theorem State.setTmr_uart1 (s : State) (n : Nat) (i : Tmr) : (s.setTmr n i).uart1 = s.uart1 := rfl
@[simp] theorem State.setTmr_spic0 (s : State) (n : Nat) (i : Tmr) : (s.setTmr n i).spic0 = s.spic0 := rfl
@[simp] theorem State.setTmr_spic1 (s : State) (n : Nat) (i : Tmr) : (s.setTmr n i).spic1 = s.spic1 := rfl
@[simp] theorem State.setTmr_i2c0 (s : State) (n : Nat) (i : Tmr) : (s.setTmr n i).i2c0 = s.i2c0 := rfl
@[simp] theorem State.setTmr_i2c1 (s : State) (n : Nat) (i : Tmr) : (s.setTmr n i).i2c1 = s.i2c1 := rfl
@[simp] theorem State.setTmr_sadc (s : State) (n : Nat) (i : Tmr) : (s.setTmr n i).sadc = s.sadc := rfl
@[simp] theorem State.setTmr_wdt0 (s : State) (n : Nat) (i : Tmr) : (s.setTmr n i).wdt0 = s.wdt0 := rfl
@[simp] theorem State.setTmr_wdt1 (s : State) (n : Nat) (i : Tmr) : (s.setTmr n i).wdt1 = s.wdt1 := rfl
@[simp] theorem State.setTmr_pins (s : State) (n : Nat) (i : Tmr) : (s.setTmr n i).pins = s.pins := rfl
@[simp] theorem State.setTmr_die (s : State) (n : Nat) (i : Tmr) : (s.setTmr n i).die = s.die := rfl
@[simp] theorem State.setTmr_evl (s : State) (n : Nat) (i : Tmr) : (s.setTmr n i).evl = s.evl := rfl
@[simp] theorem State.setTmr_snap (s : State) (n : Nat) (i : Tmr) : (s.setTmr n i).snap = s.snap := rfl
@[simp] theorem State.setTmr_free (s : State) (n : Nat) (i : Tmr) : (s.setTmr n i).free = s.free := rfl
@[simp] theorem State.setTmr_pending (s : State) (n : Nat) (i : Tmr) : (s.setTmr n i).pending = s.pending := rfl
@[simp] theorem State.setTmr_reg (s : State) (n : Nat) (i : Tmr) (x₀ : Nat) : (s.setTmr n i).reg x₀ = s.reg x₀ := rfl
@[simp] theorem State.setTmr_get (s : State) (n : Nat) (i : Tmr) (x₀ : Field) : (s.setTmr n i).get x₀ = s.get x₀ := rfl
@[simp] theorem State.setTmr_flag (s : State) (n : Nat) (i : Tmr) (x₀ : Field) : (s.setTmr n i).flag x₀ = s.flag x₀ := rfl
@[simp] theorem State.setTmr_byte (s : State) (n : Nat) (i : Tmr) (x₀ : Nat) : (s.setTmr n i).byte x₀ = s.byte x₀ := rfl
@[simp] theorem State.setTmr_word (s : State) (n : Nat) (i : Tmr) (x₀ : Nat) : (s.setTmr n i).word x₀ = s.word x₀ := rfl
@[simp] theorem State.setTmr_ctx (s : State) (n : Nat) (i : Tmr) (x₀ y₀ : Nat) : (s.setTmr n i).ctx x₀ y₀ = s.ctx x₀ y₀ := rfl
@[simp] theorem State.setTmr_eng (s : State) (n : Nat) (i : Tmr) (x₀ : Nat) : (s.setTmr n i).eng x₀ = s.eng x₀ := rfl
@[simp] theorem State.setTmr_lane (s : State) (n : Nat) (i : Tmr) (x₀ : Nat) : (s.setTmr n i).lane x₀ = s.lane x₀ := rfl
@[simp] theorem State.setTmr_core (s : State) (n : Nat) (i : Tmr) (x₀ : CoreId) : (s.setTmr n i).core x₀ = s.core x₀ := by cases x₀ <;> rfl
@[simp] theorem State.setTmr_icol (s : State) (n : Nat) (i : Tmr) (x₀ : CoreId) : (s.setTmr n i).icol x₀ = s.icol x₀ := by cases x₀ <;> rfl
@[simp] theorem State.setTmr_us (s : State) (n : Nat) (i : Tmr) : (s.setTmr n i).us = s.us := rfl
@[simp] theorem State.setTmr_net (s : State) (n : Nat) (i : Tmr) : (s.setTmr n i).net = s.net := rfl
@[simp] theorem State.setTmr_awake (s : State) (n : Nat) (i : Tmr) : (s.setTmr n i).awake = s.awake := rfl
@[simp] theorem State.setTmr_bank (s : State) (n : Nat) (i : Tmr) (x₀ : Nat) : (s.setTmr n i).bank x₀ = s.bank x₀ := rfl
@[simp] theorem State.setTmr_pend (s : State) (n : Nat) (i : Tmr) : (s.setTmr n i).pend = s.pend := rfl

/-! ### `setBank` -/

@[simp] theorem State.setBank_now (s : State) (b : Nat) (i : BankSt) : (s.setBank b i).now = s.now := rfl
@[simp] theorem State.setBank_regs (s : State) (b : Nat) (i : BankSt) : (s.setBank b i).regs = s.regs := rfl
@[simp] theorem State.setBank_shadow (s : State) (b : Nat) (i : BankSt) : (s.setBank b i).shadow = s.shadow := rfl
@[simp] theorem State.setBank_waits (s : State) (b : Nat) (i : BankSt) : (s.setBank b i).waits = s.waits := rfl
@[simp] theorem State.setBank_armed (s : State) (b : Nat) (i : BankSt) : (s.setBank b i).armed = s.armed := rfl
@[simp] theorem State.setBank_mem (s : State) (b : Nat) (i : BankSt) : (s.setBank b i).mem = s.mem := rfl
@[simp] theorem State.setBank_lost (s : State) (b : Nat) (i : BankSt) : (s.setBank b i).lost = s.lost := rfl
@[simp] theorem State.setBank_cfg (s : State) (b : Nat) (i : BankSt) : (s.setBank b i).cfg = s.cfg := rfl
@[simp] theorem State.setBank_core0 (s : State) (b : Nat) (i : BankSt) : (s.setBank b i).core0 = s.core0 := rfl
@[simp] theorem State.setBank_core1 (s : State) (b : Nat) (i : BankSt) : (s.setBank b i).core1 = s.core1 := rfl
@[simp] theorem State.setBank_dbg (s : State) (b : Nat) (i : BankSt) : (s.setBank b i).dbg = s.dbg := rfl
@[simp] theorem State.setBank_tap (s : State) (b : Nat) (i : BankSt) : (s.setBank b i).tap = s.tap := rfl
@[simp] theorem State.setBank_icol0 (s : State) (b : Nat) (i : BankSt) : (s.setBank b i).icol0 = s.icol0 := rfl
@[simp] theorem State.setBank_icol1 (s : State) (b : Nat) (i : BankSt) : (s.setBank b i).icol1 = s.icol1 := rfl
@[simp] theorem State.setBank_ctxs (s : State) (b : Nat) (i : BankSt) : (s.setBank b i).ctxs = s.ctxs := rfl
@[simp] theorem State.setBank_engs (s : State) (b : Nat) (i : BankSt) : (s.setBank b i).engs = s.engs := rfl
@[simp] theorem State.setBank_txq (s : State) (b : Nat) (i : BankSt) : (s.setBank b i).txq = s.txq := rfl
@[simp] theorem State.setBank_txOrder (s : State) (b : Nat) (i : BankSt) : (s.setBank b i).txOrder = s.txOrder := rfl
@[simp] theorem State.setBank_rfe (s : State) (b : Nat) (i : BankSt) : (s.setBank b i).rfe = s.rfe := rfl
@[simp] theorem State.setBank_lanes (s : State) (b : Nat) (i : BankSt) : (s.setBank b i).lanes = s.lanes := rfl
@[simp] theorem State.setBank_env (s : State) (b : Nat) (i : BankSt) : (s.setBank b i).env = s.env := rfl
@[simp] theorem State.setBank_ldr (s : State) (b : Nat) (i : BankSt) : (s.setBank b i).ldr = s.ldr := rfl
@[simp] theorem State.setBank_link (s : State) (b : Nat) (i : BankSt) : (s.setBank b i).link = s.link := rfl
@[simp] theorem State.setBank_tb (s : State) (b : Nat) (i : BankSt) : (s.setBank b i).tb = s.tb := rfl
@[simp] theorem State.setBank_ciph (s : State) (b : Nat) (i : BankSt) : (s.setBank b i).ciph = s.ciph := rfl
@[simp] theorem State.setBank_flc (s : State) (b : Nat) (i : BankSt) : (s.setBank b i).flc = s.flc := rfl
@[simp] theorem State.setBank_pwr (s : State) (b : Nat) (i : BankSt) : (s.setBank b i).pwr = s.pwr := rfl
@[simp] theorem State.setBank_rtc (s : State) (b : Nat) (i : BankSt) : (s.setBank b i).rtc = s.rtc := rfl
@[simp] theorem State.setBank_start (s : State) (b : Nat) (i : BankSt) : (s.setBank b i).start = s.start := rfl
@[simp] theorem State.setBank_upd (s : State) (b : Nat) (i : BankSt) : (s.setBank b i).upd = s.upd := rfl
@[simp] theorem State.setBank_host (s : State) (b : Nat) (i : BankSt) : (s.setBank b i).host = s.host := rfl
@[simp] theorem State.setBank_uart0 (s : State) (b : Nat) (i : BankSt) : (s.setBank b i).uart0 = s.uart0 := rfl
@[simp] theorem State.setBank_uart1 (s : State) (b : Nat) (i : BankSt) : (s.setBank b i).uart1 = s.uart1 := rfl
@[simp] theorem State.setBank_spic0 (s : State) (b : Nat) (i : BankSt) : (s.setBank b i).spic0 = s.spic0 := rfl
@[simp] theorem State.setBank_spic1 (s : State) (b : Nat) (i : BankSt) : (s.setBank b i).spic1 = s.spic1 := rfl
@[simp] theorem State.setBank_i2c0 (s : State) (b : Nat) (i : BankSt) : (s.setBank b i).i2c0 = s.i2c0 := rfl
@[simp] theorem State.setBank_i2c1 (s : State) (b : Nat) (i : BankSt) : (s.setBank b i).i2c1 = s.i2c1 := rfl
@[simp] theorem State.setBank_sadc (s : State) (b : Nat) (i : BankSt) : (s.setBank b i).sadc = s.sadc := rfl
@[simp] theorem State.setBank_tmrs (s : State) (b : Nat) (i : BankSt) : (s.setBank b i).tmrs = s.tmrs := rfl
@[simp] theorem State.setBank_wdt0 (s : State) (b : Nat) (i : BankSt) : (s.setBank b i).wdt0 = s.wdt0 := rfl
@[simp] theorem State.setBank_wdt1 (s : State) (b : Nat) (i : BankSt) : (s.setBank b i).wdt1 = s.wdt1 := rfl
@[simp] theorem State.setBank_pins (s : State) (b : Nat) (i : BankSt) : (s.setBank b i).pins = s.pins := rfl
@[simp] theorem State.setBank_die (s : State) (b : Nat) (i : BankSt) : (s.setBank b i).die = s.die := rfl
@[simp] theorem State.setBank_evl (s : State) (b : Nat) (i : BankSt) : (s.setBank b i).evl = s.evl := rfl
@[simp] theorem State.setBank_snap (s : State) (b : Nat) (i : BankSt) : (s.setBank b i).snap = s.snap := rfl
@[simp] theorem State.setBank_free (s : State) (b : Nat) (i : BankSt) : (s.setBank b i).free = s.free := rfl
@[simp] theorem State.setBank_pending (s : State) (b : Nat) (i : BankSt) : (s.setBank b i).pending = s.pending := rfl
@[simp] theorem State.setBank_reg (s : State) (b : Nat) (i : BankSt) (x₀ : Nat) : (s.setBank b i).reg x₀ = s.reg x₀ := rfl
@[simp] theorem State.setBank_get (s : State) (b : Nat) (i : BankSt) (x₀ : Field) : (s.setBank b i).get x₀ = s.get x₀ := rfl
@[simp] theorem State.setBank_flag (s : State) (b : Nat) (i : BankSt) (x₀ : Field) : (s.setBank b i).flag x₀ = s.flag x₀ := rfl
@[simp] theorem State.setBank_byte (s : State) (b : Nat) (i : BankSt) (x₀ : Nat) : (s.setBank b i).byte x₀ = s.byte x₀ := rfl
@[simp] theorem State.setBank_word (s : State) (b : Nat) (i : BankSt) (x₀ : Nat) : (s.setBank b i).word x₀ = s.word x₀ := rfl
@[simp] theorem State.setBank_ctx (s : State) (b : Nat) (i : BankSt) (x₀ y₀ : Nat) : (s.setBank b i).ctx x₀ y₀ = s.ctx x₀ y₀ := rfl
@[simp] theorem State.setBank_eng (s : State) (b : Nat) (i : BankSt) (x₀ : Nat) : (s.setBank b i).eng x₀ = s.eng x₀ := rfl
@[simp] theorem State.setBank_lane (s : State) (b : Nat) (i : BankSt) (x₀ : Nat) : (s.setBank b i).lane x₀ = s.lane x₀ := rfl
@[simp] theorem State.setBank_tmr (s : State) (b : Nat) (i : BankSt) (x₀ : Nat) : (s.setBank b i).tmr x₀ = s.tmr x₀ := rfl
@[simp] theorem State.setBank_core (s : State) (b : Nat) (i : BankSt) (x₀ : CoreId) : (s.setBank b i).core x₀ = s.core x₀ := by cases x₀ <;> rfl
@[simp] theorem State.setBank_icol (s : State) (b : Nat) (i : BankSt) (x₀ : CoreId) : (s.setBank b i).icol x₀ = s.icol x₀ := by cases x₀ <;> rfl
@[simp] theorem State.setBank_us (s : State) (b : Nat) (i : BankSt) : (s.setBank b i).us = s.us := rfl
@[simp] theorem State.setBank_net (s : State) (b : Nat) (i : BankSt) : (s.setBank b i).net = s.net := rfl
@[simp] theorem State.setBank_awake (s : State) (b : Nat) (i : BankSt) : (s.setBank b i).awake = s.awake := rfl
@[simp] theorem State.setBank_pend (s : State) (b : Nat) (i : BankSt) : (s.setBank b i).pend = s.pend := rfl

/-! ### `fresh` -/

@[simp] theorem State.fresh_now (s : State) : s.fresh.now = s.now := rfl
@[simp] theorem State.fresh_regs (s : State) : s.fresh.regs = s.regs := rfl
@[simp] theorem State.fresh_shadow (s : State) : s.fresh.shadow = s.shadow := rfl
@[simp] theorem State.fresh_waits (s : State) : s.fresh.waits = s.waits := rfl
@[simp] theorem State.fresh_armed (s : State) : s.fresh.armed = s.armed := rfl
@[simp] theorem State.fresh_mem (s : State) : s.fresh.mem = s.mem := rfl
@[simp] theorem State.fresh_lost (s : State) : s.fresh.lost = s.lost := rfl
@[simp] theorem State.fresh_cfg (s : State) : s.fresh.cfg = s.cfg := rfl
@[simp] theorem State.fresh_core0 (s : State) : s.fresh.core0 = s.core0 := rfl
@[simp] theorem State.fresh_core1 (s : State) : s.fresh.core1 = s.core1 := rfl
@[simp] theorem State.fresh_dbg (s : State) : s.fresh.dbg = s.dbg := rfl
@[simp] theorem State.fresh_tap (s : State) : s.fresh.tap = s.tap := rfl
@[simp] theorem State.fresh_icol0 (s : State) : s.fresh.icol0 = s.icol0 := rfl
@[simp] theorem State.fresh_icol1 (s : State) : s.fresh.icol1 = s.icol1 := rfl
@[simp] theorem State.fresh_ctxs (s : State) : s.fresh.ctxs = s.ctxs := rfl
@[simp] theorem State.fresh_engs (s : State) : s.fresh.engs = s.engs := rfl
@[simp] theorem State.fresh_txq (s : State) : s.fresh.txq = s.txq := rfl
@[simp] theorem State.fresh_txOrder (s : State) : s.fresh.txOrder = s.txOrder := rfl
@[simp] theorem State.fresh_rfe (s : State) : s.fresh.rfe = s.rfe := rfl
@[simp] theorem State.fresh_lanes (s : State) : s.fresh.lanes = s.lanes := rfl
@[simp] theorem State.fresh_env (s : State) : s.fresh.env = s.env := rfl
@[simp] theorem State.fresh_ldr (s : State) : s.fresh.ldr = s.ldr := rfl
@[simp] theorem State.fresh_link (s : State) : s.fresh.link = s.link := rfl
@[simp] theorem State.fresh_tb (s : State) : s.fresh.tb = s.tb := rfl
@[simp] theorem State.fresh_ciph (s : State) : s.fresh.ciph = s.ciph := rfl
@[simp] theorem State.fresh_memc (s : State) : s.fresh.memc = s.memc := rfl
@[simp] theorem State.fresh_flc (s : State) : s.fresh.flc = s.flc := rfl
@[simp] theorem State.fresh_pwr (s : State) : s.fresh.pwr = s.pwr := rfl
@[simp] theorem State.fresh_rtc (s : State) : s.fresh.rtc = s.rtc := rfl
@[simp] theorem State.fresh_start (s : State) : s.fresh.start = s.start := rfl
@[simp] theorem State.fresh_upd (s : State) : s.fresh.upd = s.upd := rfl
@[simp] theorem State.fresh_host (s : State) : s.fresh.host = s.host := rfl
@[simp] theorem State.fresh_uart0 (s : State) : s.fresh.uart0 = s.uart0 := rfl
@[simp] theorem State.fresh_uart1 (s : State) : s.fresh.uart1 = s.uart1 := rfl
@[simp] theorem State.fresh_spic0 (s : State) : s.fresh.spic0 = s.spic0 := rfl
@[simp] theorem State.fresh_spic1 (s : State) : s.fresh.spic1 = s.spic1 := rfl
@[simp] theorem State.fresh_i2c0 (s : State) : s.fresh.i2c0 = s.i2c0 := rfl
@[simp] theorem State.fresh_i2c1 (s : State) : s.fresh.i2c1 = s.i2c1 := rfl
@[simp] theorem State.fresh_sadc (s : State) : s.fresh.sadc = s.sadc := rfl
@[simp] theorem State.fresh_tmrs (s : State) : s.fresh.tmrs = s.tmrs := rfl
@[simp] theorem State.fresh_wdt0 (s : State) : s.fresh.wdt0 = s.wdt0 := rfl
@[simp] theorem State.fresh_wdt1 (s : State) : s.fresh.wdt1 = s.wdt1 := rfl
@[simp] theorem State.fresh_pins (s : State) : s.fresh.pins = s.pins := rfl
@[simp] theorem State.fresh_die (s : State) : s.fresh.die = s.die := rfl
@[simp] theorem State.fresh_evl (s : State) : s.fresh.evl = s.evl := rfl
@[simp] theorem State.fresh_snap (s : State) : s.fresh.snap = s.snap := rfl
@[simp] theorem State.fresh_pending (s : State) : s.fresh.pending = s.pending := rfl
@[simp] theorem State.fresh_reg (s : State) (x₀ : Nat) : s.fresh.reg x₀ = s.reg x₀ := rfl
@[simp] theorem State.fresh_get (s : State) (x₀ : Field) : s.fresh.get x₀ = s.get x₀ := rfl
@[simp] theorem State.fresh_flag (s : State) (x₀ : Field) : s.fresh.flag x₀ = s.flag x₀ := rfl
@[simp] theorem State.fresh_byte (s : State) (x₀ : Nat) : s.fresh.byte x₀ = s.byte x₀ := rfl
@[simp] theorem State.fresh_word (s : State) (x₀ : Nat) : s.fresh.word x₀ = s.word x₀ := rfl
@[simp] theorem State.fresh_ctx (s : State) (x₀ y₀ : Nat) : s.fresh.ctx x₀ y₀ = s.ctx x₀ y₀ := rfl
@[simp] theorem State.fresh_eng (s : State) (x₀ : Nat) : s.fresh.eng x₀ = s.eng x₀ := rfl
@[simp] theorem State.fresh_lane (s : State) (x₀ : Nat) : s.fresh.lane x₀ = s.lane x₀ := rfl
@[simp] theorem State.fresh_tmr (s : State) (x₀ : Nat) : s.fresh.tmr x₀ = s.tmr x₀ := rfl
@[simp] theorem State.fresh_core (s : State) (x₀ : CoreId) : s.fresh.core x₀ = s.core x₀ := by cases x₀ <;> rfl
@[simp] theorem State.fresh_icol (s : State) (x₀ : CoreId) : s.fresh.icol x₀ = s.icol x₀ := by cases x₀ <;> rfl
@[simp] theorem State.fresh_us (s : State) : s.fresh.us = s.us := rfl
@[simp] theorem State.fresh_net (s : State) : s.fresh.net = s.net := rfl
@[simp] theorem State.fresh_awake (s : State) : s.fresh.awake = s.awake := rfl
@[simp] theorem State.fresh_bank (s : State) (x₀ : Nat) : s.fresh.bank x₀ = s.bank x₀ := rfl
@[simp] theorem State.fresh_pend (s : State) : s.fresh.pend = s.pend := rfl

/-! ### Bytes written in a row -/

@[simp] theorem State.setBytes_now (s : State) (a : Nat) (bs : List Byte) : (s.setBytes a bs).now = s.now := by
  induction bs generalizing s a with
  | nil => rfl
  | cons b r ih => exact ih _ _
@[simp] theorem State.setBytes_regs (s : State) (a : Nat) (bs : List Byte) : (s.setBytes a bs).regs = s.regs := by
  induction bs generalizing s a with
  | nil => rfl
  | cons b r ih => exact ih _ _
@[simp] theorem State.setBytes_shadow (s : State) (a : Nat) (bs : List Byte) : (s.setBytes a bs).shadow = s.shadow := by
  induction bs generalizing s a with
  | nil => rfl
  | cons b r ih => exact ih _ _
@[simp] theorem State.setBytes_waits (s : State) (a : Nat) (bs : List Byte) : (s.setBytes a bs).waits = s.waits := by
  induction bs generalizing s a with
  | nil => rfl
  | cons b r ih => exact ih _ _
@[simp] theorem State.setBytes_armed (s : State) (a : Nat) (bs : List Byte) : (s.setBytes a bs).armed = s.armed := by
  induction bs generalizing s a with
  | nil => rfl
  | cons b r ih => exact ih _ _
@[simp] theorem State.setBytes_cfg (s : State) (a : Nat) (bs : List Byte) : (s.setBytes a bs).cfg = s.cfg := by
  induction bs generalizing s a with
  | nil => rfl
  | cons b r ih => exact ih _ _
@[simp] theorem State.setBytes_core0 (s : State) (a : Nat) (bs : List Byte) : (s.setBytes a bs).core0 = s.core0 := by
  induction bs generalizing s a with
  | nil => rfl
  | cons b r ih => exact ih _ _
@[simp] theorem State.setBytes_core1 (s : State) (a : Nat) (bs : List Byte) : (s.setBytes a bs).core1 = s.core1 := by
  induction bs generalizing s a with
  | nil => rfl
  | cons b r ih => exact ih _ _
@[simp] theorem State.setBytes_dbg (s : State) (a : Nat) (bs : List Byte) : (s.setBytes a bs).dbg = s.dbg := by
  induction bs generalizing s a with
  | nil => rfl
  | cons b r ih => exact ih _ _
@[simp] theorem State.setBytes_tap (s : State) (a : Nat) (bs : List Byte) : (s.setBytes a bs).tap = s.tap := by
  induction bs generalizing s a with
  | nil => rfl
  | cons b r ih => exact ih _ _
@[simp] theorem State.setBytes_icol0 (s : State) (a : Nat) (bs : List Byte) : (s.setBytes a bs).icol0 = s.icol0 := by
  induction bs generalizing s a with
  | nil => rfl
  | cons b r ih => exact ih _ _
@[simp] theorem State.setBytes_icol1 (s : State) (a : Nat) (bs : List Byte) : (s.setBytes a bs).icol1 = s.icol1 := by
  induction bs generalizing s a with
  | nil => rfl
  | cons b r ih => exact ih _ _
@[simp] theorem State.setBytes_ctxs (s : State) (a : Nat) (bs : List Byte) : (s.setBytes a bs).ctxs = s.ctxs := by
  induction bs generalizing s a with
  | nil => rfl
  | cons b r ih => exact ih _ _
@[simp] theorem State.setBytes_engs (s : State) (a : Nat) (bs : List Byte) : (s.setBytes a bs).engs = s.engs := by
  induction bs generalizing s a with
  | nil => rfl
  | cons b r ih => exact ih _ _
@[simp] theorem State.setBytes_txq (s : State) (a : Nat) (bs : List Byte) : (s.setBytes a bs).txq = s.txq := by
  induction bs generalizing s a with
  | nil => rfl
  | cons b r ih => exact ih _ _
@[simp] theorem State.setBytes_txOrder (s : State) (a : Nat) (bs : List Byte) : (s.setBytes a bs).txOrder = s.txOrder := by
  induction bs generalizing s a with
  | nil => rfl
  | cons b r ih => exact ih _ _
@[simp] theorem State.setBytes_rfe (s : State) (a : Nat) (bs : List Byte) : (s.setBytes a bs).rfe = s.rfe := by
  induction bs generalizing s a with
  | nil => rfl
  | cons b r ih => exact ih _ _
@[simp] theorem State.setBytes_lanes (s : State) (a : Nat) (bs : List Byte) : (s.setBytes a bs).lanes = s.lanes := by
  induction bs generalizing s a with
  | nil => rfl
  | cons b r ih => exact ih _ _
@[simp] theorem State.setBytes_env (s : State) (a : Nat) (bs : List Byte) : (s.setBytes a bs).env = s.env := by
  induction bs generalizing s a with
  | nil => rfl
  | cons b r ih => exact ih _ _
@[simp] theorem State.setBytes_ldr (s : State) (a : Nat) (bs : List Byte) : (s.setBytes a bs).ldr = s.ldr := by
  induction bs generalizing s a with
  | nil => rfl
  | cons b r ih => exact ih _ _
@[simp] theorem State.setBytes_link (s : State) (a : Nat) (bs : List Byte) : (s.setBytes a bs).link = s.link := by
  induction bs generalizing s a with
  | nil => rfl
  | cons b r ih => exact ih _ _
@[simp] theorem State.setBytes_tb (s : State) (a : Nat) (bs : List Byte) : (s.setBytes a bs).tb = s.tb := by
  induction bs generalizing s a with
  | nil => rfl
  | cons b r ih => exact ih _ _
@[simp] theorem State.setBytes_ciph (s : State) (a : Nat) (bs : List Byte) : (s.setBytes a bs).ciph = s.ciph := by
  induction bs generalizing s a with
  | nil => rfl
  | cons b r ih => exact ih _ _
@[simp] theorem State.setBytes_flc (s : State) (a : Nat) (bs : List Byte) : (s.setBytes a bs).flc = s.flc := by
  induction bs generalizing s a with
  | nil => rfl
  | cons b r ih => exact ih _ _
@[simp] theorem State.setBytes_pwr (s : State) (a : Nat) (bs : List Byte) : (s.setBytes a bs).pwr = s.pwr := by
  induction bs generalizing s a with
  | nil => rfl
  | cons b r ih => exact ih _ _
@[simp] theorem State.setBytes_rtc (s : State) (a : Nat) (bs : List Byte) : (s.setBytes a bs).rtc = s.rtc := by
  induction bs generalizing s a with
  | nil => rfl
  | cons b r ih => exact ih _ _
@[simp] theorem State.setBytes_start (s : State) (a : Nat) (bs : List Byte) : (s.setBytes a bs).start = s.start := by
  induction bs generalizing s a with
  | nil => rfl
  | cons b r ih => exact ih _ _
@[simp] theorem State.setBytes_upd (s : State) (a : Nat) (bs : List Byte) : (s.setBytes a bs).upd = s.upd := by
  induction bs generalizing s a with
  | nil => rfl
  | cons b r ih => exact ih _ _
@[simp] theorem State.setBytes_host (s : State) (a : Nat) (bs : List Byte) : (s.setBytes a bs).host = s.host := by
  induction bs generalizing s a with
  | nil => rfl
  | cons b r ih => exact ih _ _
@[simp] theorem State.setBytes_uart0 (s : State) (a : Nat) (bs : List Byte) : (s.setBytes a bs).uart0 = s.uart0 := by
  induction bs generalizing s a with
  | nil => rfl
  | cons b r ih => exact ih _ _
@[simp] theorem State.setBytes_uart1 (s : State) (a : Nat) (bs : List Byte) : (s.setBytes a bs).uart1 = s.uart1 := by
  induction bs generalizing s a with
  | nil => rfl
  | cons b r ih => exact ih _ _
@[simp] theorem State.setBytes_spic0 (s : State) (a : Nat) (bs : List Byte) : (s.setBytes a bs).spic0 = s.spic0 := by
  induction bs generalizing s a with
  | nil => rfl
  | cons b r ih => exact ih _ _
@[simp] theorem State.setBytes_spic1 (s : State) (a : Nat) (bs : List Byte) : (s.setBytes a bs).spic1 = s.spic1 := by
  induction bs generalizing s a with
  | nil => rfl
  | cons b r ih => exact ih _ _
@[simp] theorem State.setBytes_i2c0 (s : State) (a : Nat) (bs : List Byte) : (s.setBytes a bs).i2c0 = s.i2c0 := by
  induction bs generalizing s a with
  | nil => rfl
  | cons b r ih => exact ih _ _
@[simp] theorem State.setBytes_i2c1 (s : State) (a : Nat) (bs : List Byte) : (s.setBytes a bs).i2c1 = s.i2c1 := by
  induction bs generalizing s a with
  | nil => rfl
  | cons b r ih => exact ih _ _
@[simp] theorem State.setBytes_sadc (s : State) (a : Nat) (bs : List Byte) : (s.setBytes a bs).sadc = s.sadc := by
  induction bs generalizing s a with
  | nil => rfl
  | cons b r ih => exact ih _ _
@[simp] theorem State.setBytes_tmrs (s : State) (a : Nat) (bs : List Byte) : (s.setBytes a bs).tmrs = s.tmrs := by
  induction bs generalizing s a with
  | nil => rfl
  | cons b r ih => exact ih _ _
@[simp] theorem State.setBytes_wdt0 (s : State) (a : Nat) (bs : List Byte) : (s.setBytes a bs).wdt0 = s.wdt0 := by
  induction bs generalizing s a with
  | nil => rfl
  | cons b r ih => exact ih _ _
@[simp] theorem State.setBytes_wdt1 (s : State) (a : Nat) (bs : List Byte) : (s.setBytes a bs).wdt1 = s.wdt1 := by
  induction bs generalizing s a with
  | nil => rfl
  | cons b r ih => exact ih _ _
@[simp] theorem State.setBytes_pins (s : State) (a : Nat) (bs : List Byte) : (s.setBytes a bs).pins = s.pins := by
  induction bs generalizing s a with
  | nil => rfl
  | cons b r ih => exact ih _ _
@[simp] theorem State.setBytes_die (s : State) (a : Nat) (bs : List Byte) : (s.setBytes a bs).die = s.die := by
  induction bs generalizing s a with
  | nil => rfl
  | cons b r ih => exact ih _ _
@[simp] theorem State.setBytes_evl (s : State) (a : Nat) (bs : List Byte) : (s.setBytes a bs).evl = s.evl := by
  induction bs generalizing s a with
  | nil => rfl
  | cons b r ih => exact ih _ _
@[simp] theorem State.setBytes_snap (s : State) (a : Nat) (bs : List Byte) : (s.setBytes a bs).snap = s.snap := by
  induction bs generalizing s a with
  | nil => rfl
  | cons b r ih => exact ih _ _
@[simp] theorem State.setBytes_free (s : State) (a : Nat) (bs : List Byte) : (s.setBytes a bs).free = s.free := by
  induction bs generalizing s a with
  | nil => rfl
  | cons b r ih => exact ih _ _
@[simp] theorem State.setBytes_pending (s : State) (a : Nat) (bs : List Byte) : (s.setBytes a bs).pending = s.pending := by
  induction bs generalizing s a with
  | nil => rfl
  | cons b r ih => exact ih _ _
@[simp] theorem State.setBytes_reg (s : State) (a : Nat) (bs : List Byte) (x₀ : Nat) : (s.setBytes a bs).reg x₀ = s.reg x₀ := by
  induction bs generalizing s a with
  | nil => rfl
  | cons b r ih => exact ih _ _
@[simp] theorem State.setBytes_get (s : State) (a : Nat) (bs : List Byte) (x₀ : Field) : (s.setBytes a bs).get x₀ = s.get x₀ := by
  induction bs generalizing s a with
  | nil => rfl
  | cons b r ih => exact ih _ _
@[simp] theorem State.setBytes_flag (s : State) (a : Nat) (bs : List Byte) (x₀ : Field) : (s.setBytes a bs).flag x₀ = s.flag x₀ := by
  induction bs generalizing s a with
  | nil => rfl
  | cons b r ih => exact ih _ _
@[simp] theorem State.setBytes_ctx (s : State) (a : Nat) (bs : List Byte) (x₀ y₀ : Nat) : (s.setBytes a bs).ctx x₀ y₀ = s.ctx x₀ y₀ := by
  induction bs generalizing s a with
  | nil => rfl
  | cons b r ih => exact ih _ _
@[simp] theorem State.setBytes_eng (s : State) (a : Nat) (bs : List Byte) (x₀ : Nat) : (s.setBytes a bs).eng x₀ = s.eng x₀ := by
  induction bs generalizing s a with
  | nil => rfl
  | cons b r ih => exact ih _ _
@[simp] theorem State.setBytes_lane (s : State) (a : Nat) (bs : List Byte) (x₀ : Nat) : (s.setBytes a bs).lane x₀ = s.lane x₀ := by
  induction bs generalizing s a with
  | nil => rfl
  | cons b r ih => exact ih _ _
@[simp] theorem State.setBytes_tmr (s : State) (a : Nat) (bs : List Byte) (x₀ : Nat) : (s.setBytes a bs).tmr x₀ = s.tmr x₀ := by
  induction bs generalizing s a with
  | nil => rfl
  | cons b r ih => exact ih _ _
@[simp] theorem State.setBytes_core (s : State) (a : Nat) (bs : List Byte) (x₀ : CoreId) : (s.setBytes a bs).core x₀ = s.core x₀ := by
  induction bs generalizing s a with
  | nil => rfl
  | cons b r ih => exact ih _ _
@[simp] theorem State.setBytes_icol (s : State) (a : Nat) (bs : List Byte) (x₀ : CoreId) : (s.setBytes a bs).icol x₀ = s.icol x₀ := by
  induction bs generalizing s a with
  | nil => rfl
  | cons b r ih => exact ih _ _
@[simp] theorem State.setBytes_us (s : State) (a : Nat) (bs : List Byte)  : (s.setBytes a bs).us  = s.us  := by
  induction bs generalizing s a with
  | nil => rfl
  | cons b r ih => exact ih _ _
@[simp] theorem State.setBytes_net (s : State) (a : Nat) (bs : List Byte)  : (s.setBytes a bs).net  = s.net  := by
  induction bs generalizing s a with
  | nil => rfl
  | cons b r ih => exact ih _ _
@[simp] theorem State.setBytes_awake (s : State) (a : Nat) (bs : List Byte)  : (s.setBytes a bs).awake  = s.awake  := by
  induction bs generalizing s a with
  | nil => rfl
  | cons b r ih => exact ih _ _
@[simp] theorem State.setBytes_bank (s : State) (a : Nat) (bs : List Byte) (x₀ : Nat) : (s.setBytes a bs).bank x₀ = s.bank x₀ := by
  induction bs generalizing s a with
  | nil => rfl
  | cons b r ih => exact ih _ _
@[simp] theorem State.setBytes_pend (s : State) (a : Nat) (bs : List Byte)  : (s.setBytes a bs).pend  = s.pend  := by
  induction bs generalizing s a with
  | nil => rfl
  | cons b r ih => exact ih _ _
@[simp] theorem State.setWord_now (s : State) (a : Nat) (w : Word) : (s.setWord a w).now = s.now := s.setBytes_now a _
@[simp] theorem State.setWord_regs (s : State) (a : Nat) (w : Word) : (s.setWord a w).regs = s.regs := s.setBytes_regs a _
@[simp] theorem State.setWord_shadow (s : State) (a : Nat) (w : Word) : (s.setWord a w).shadow = s.shadow := s.setBytes_shadow a _
@[simp] theorem State.setWord_waits (s : State) (a : Nat) (w : Word) : (s.setWord a w).waits = s.waits := s.setBytes_waits a _
@[simp] theorem State.setWord_armed (s : State) (a : Nat) (w : Word) : (s.setWord a w).armed = s.armed := s.setBytes_armed a _
@[simp] theorem State.setWord_cfg (s : State) (a : Nat) (w : Word) : (s.setWord a w).cfg = s.cfg := s.setBytes_cfg a _
@[simp] theorem State.setWord_core0 (s : State) (a : Nat) (w : Word) : (s.setWord a w).core0 = s.core0 := s.setBytes_core0 a _
@[simp] theorem State.setWord_core1 (s : State) (a : Nat) (w : Word) : (s.setWord a w).core1 = s.core1 := s.setBytes_core1 a _
@[simp] theorem State.setWord_dbg (s : State) (a : Nat) (w : Word) : (s.setWord a w).dbg = s.dbg := s.setBytes_dbg a _
@[simp] theorem State.setWord_tap (s : State) (a : Nat) (w : Word) : (s.setWord a w).tap = s.tap := s.setBytes_tap a _
@[simp] theorem State.setWord_icol0 (s : State) (a : Nat) (w : Word) : (s.setWord a w).icol0 = s.icol0 := s.setBytes_icol0 a _
@[simp] theorem State.setWord_icol1 (s : State) (a : Nat) (w : Word) : (s.setWord a w).icol1 = s.icol1 := s.setBytes_icol1 a _
@[simp] theorem State.setWord_ctxs (s : State) (a : Nat) (w : Word) : (s.setWord a w).ctxs = s.ctxs := s.setBytes_ctxs a _
@[simp] theorem State.setWord_engs (s : State) (a : Nat) (w : Word) : (s.setWord a w).engs = s.engs := s.setBytes_engs a _
@[simp] theorem State.setWord_txq (s : State) (a : Nat) (w : Word) : (s.setWord a w).txq = s.txq := s.setBytes_txq a _
@[simp] theorem State.setWord_txOrder (s : State) (a : Nat) (w : Word) : (s.setWord a w).txOrder = s.txOrder := s.setBytes_txOrder a _
@[simp] theorem State.setWord_rfe (s : State) (a : Nat) (w : Word) : (s.setWord a w).rfe = s.rfe := s.setBytes_rfe a _
@[simp] theorem State.setWord_lanes (s : State) (a : Nat) (w : Word) : (s.setWord a w).lanes = s.lanes := s.setBytes_lanes a _
@[simp] theorem State.setWord_env (s : State) (a : Nat) (w : Word) : (s.setWord a w).env = s.env := s.setBytes_env a _
@[simp] theorem State.setWord_ldr (s : State) (a : Nat) (w : Word) : (s.setWord a w).ldr = s.ldr := s.setBytes_ldr a _
@[simp] theorem State.setWord_link (s : State) (a : Nat) (w : Word) : (s.setWord a w).link = s.link := s.setBytes_link a _
@[simp] theorem State.setWord_tb (s : State) (a : Nat) (w : Word) : (s.setWord a w).tb = s.tb := s.setBytes_tb a _
@[simp] theorem State.setWord_ciph (s : State) (a : Nat) (w : Word) : (s.setWord a w).ciph = s.ciph := s.setBytes_ciph a _
@[simp] theorem State.setWord_flc (s : State) (a : Nat) (w : Word) : (s.setWord a w).flc = s.flc := s.setBytes_flc a _
@[simp] theorem State.setWord_pwr (s : State) (a : Nat) (w : Word) : (s.setWord a w).pwr = s.pwr := s.setBytes_pwr a _
@[simp] theorem State.setWord_rtc (s : State) (a : Nat) (w : Word) : (s.setWord a w).rtc = s.rtc := s.setBytes_rtc a _
@[simp] theorem State.setWord_start (s : State) (a : Nat) (w : Word) : (s.setWord a w).start = s.start := s.setBytes_start a _
@[simp] theorem State.setWord_upd (s : State) (a : Nat) (w : Word) : (s.setWord a w).upd = s.upd := s.setBytes_upd a _
@[simp] theorem State.setWord_host (s : State) (a : Nat) (w : Word) : (s.setWord a w).host = s.host := s.setBytes_host a _
@[simp] theorem State.setWord_uart0 (s : State) (a : Nat) (w : Word) : (s.setWord a w).uart0 = s.uart0 := s.setBytes_uart0 a _
@[simp] theorem State.setWord_uart1 (s : State) (a : Nat) (w : Word) : (s.setWord a w).uart1 = s.uart1 := s.setBytes_uart1 a _
@[simp] theorem State.setWord_spic0 (s : State) (a : Nat) (w : Word) : (s.setWord a w).spic0 = s.spic0 := s.setBytes_spic0 a _
@[simp] theorem State.setWord_spic1 (s : State) (a : Nat) (w : Word) : (s.setWord a w).spic1 = s.spic1 := s.setBytes_spic1 a _
@[simp] theorem State.setWord_i2c0 (s : State) (a : Nat) (w : Word) : (s.setWord a w).i2c0 = s.i2c0 := s.setBytes_i2c0 a _
@[simp] theorem State.setWord_i2c1 (s : State) (a : Nat) (w : Word) : (s.setWord a w).i2c1 = s.i2c1 := s.setBytes_i2c1 a _
@[simp] theorem State.setWord_sadc (s : State) (a : Nat) (w : Word) : (s.setWord a w).sadc = s.sadc := s.setBytes_sadc a _
@[simp] theorem State.setWord_tmrs (s : State) (a : Nat) (w : Word) : (s.setWord a w).tmrs = s.tmrs := s.setBytes_tmrs a _
@[simp] theorem State.setWord_wdt0 (s : State) (a : Nat) (w : Word) : (s.setWord a w).wdt0 = s.wdt0 := s.setBytes_wdt0 a _
@[simp] theorem State.setWord_wdt1 (s : State) (a : Nat) (w : Word) : (s.setWord a w).wdt1 = s.wdt1 := s.setBytes_wdt1 a _
@[simp] theorem State.setWord_pins (s : State) (a : Nat) (w : Word) : (s.setWord a w).pins = s.pins := s.setBytes_pins a _
@[simp] theorem State.setWord_die (s : State) (a : Nat) (w : Word) : (s.setWord a w).die = s.die := s.setBytes_die a _
@[simp] theorem State.setWord_evl (s : State) (a : Nat) (w : Word) : (s.setWord a w).evl = s.evl := s.setBytes_evl a _
@[simp] theorem State.setWord_snap (s : State) (a : Nat) (w : Word) : (s.setWord a w).snap = s.snap := s.setBytes_snap a _
@[simp] theorem State.setWord_free (s : State) (a : Nat) (w : Word) : (s.setWord a w).free = s.free := s.setBytes_free a _
@[simp] theorem State.setWord_pending (s : State) (a : Nat) (w : Word) : (s.setWord a w).pending = s.pending := s.setBytes_pending a _
@[simp] theorem State.setWord_reg (s : State) (a : Nat) (w : Word) (x₀ : Nat) : (s.setWord a w).reg x₀ = s.reg x₀ := s.setBytes_reg a _ x₀
@[simp] theorem State.setWord_get (s : State) (a : Nat) (w : Word) (x₀ : Field) : (s.setWord a w).get x₀ = s.get x₀ := s.setBytes_get a _ x₀
@[simp] theorem State.setWord_flag (s : State) (a : Nat) (w : Word) (x₀ : Field) : (s.setWord a w).flag x₀ = s.flag x₀ := s.setBytes_flag a _ x₀
@[simp] theorem State.setWord_ctx (s : State) (a : Nat) (w : Word) (x₀ y₀ : Nat) : (s.setWord a w).ctx x₀ y₀ = s.ctx x₀ y₀ := s.setBytes_ctx a _ x₀ y₀
@[simp] theorem State.setWord_eng (s : State) (a : Nat) (w : Word) (x₀ : Nat) : (s.setWord a w).eng x₀ = s.eng x₀ := s.setBytes_eng a _ x₀
@[simp] theorem State.setWord_lane (s : State) (a : Nat) (w : Word) (x₀ : Nat) : (s.setWord a w).lane x₀ = s.lane x₀ := s.setBytes_lane a _ x₀
@[simp] theorem State.setWord_tmr (s : State) (a : Nat) (w : Word) (x₀ : Nat) : (s.setWord a w).tmr x₀ = s.tmr x₀ := s.setBytes_tmr a _ x₀
@[simp] theorem State.setWord_core (s : State) (a : Nat) (w : Word) (x₀ : CoreId) : (s.setWord a w).core x₀ = s.core x₀ := s.setBytes_core a _ x₀
@[simp] theorem State.setWord_icol (s : State) (a : Nat) (w : Word) (x₀ : CoreId) : (s.setWord a w).icol x₀ = s.icol x₀ := s.setBytes_icol a _ x₀
@[simp] theorem State.setWord_us (s : State) (a : Nat) (w : Word) : (s.setWord a w).us = s.us := s.setBytes_us a _ 
@[simp] theorem State.setWord_net (s : State) (a : Nat) (w : Word) : (s.setWord a w).net = s.net := s.setBytes_net a _ 
@[simp] theorem State.setWord_awake (s : State) (a : Nat) (w : Word) : (s.setWord a w).awake = s.awake := s.setBytes_awake a _ 
@[simp] theorem State.setWord_bank (s : State) (a : Nat) (w : Word) (x₀ : Nat) : (s.setWord a w).bank x₀ = s.bank x₀ := s.setBytes_bank a _ x₀
@[simp] theorem State.setWord_pend (s : State) (a : Nat) (w : Word) : (s.setWord a w).pend = s.pend := s.setBytes_pend a _ 

/-! ### What each update writes -/

@[simp] theorem State.setCore_core0 (s : State) (x : Core) : (s.setCore .c0 x).core0 = x := rfl
@[simp] theorem State.setCore_core1 (s : State) (x : Core) : (s.setCore .c1 x).core1 = x := rfl
@[simp] theorem State.setCore_self (s : State) (c : CoreId) (x : Core) : (s.setCore c x).core c = x := by cases c <;> rfl
@[simp] theorem State.setIcol_self (s : State) (c : CoreId) (x : Icol) : (s.setIcol c x).icol c = x := by cases c <;> rfl
@[simp] theorem State.fresh_free (s : State) : s.fresh.free = s.free + 1 := rfl

/-- A post appends one record to the input buffer of its collector, with the network time. -/
theorem State.postTo_buf (s : State) (c : CoreId) (n : Nat) (l h : Word) :
    ((s.postTo c n l h).icol c).buf = (s.icol c).buf ++ [⟨n, s.icolPri c n, false, l, h, s.us⟩] := by cases c <;> rfl

/-- A post of a routed source appends one record to the input buffer of each collector. -/
theorem State.postBoth_buf (s : State) (n : Nat) (l h : Word) (c : CoreId) :
    ((s.postBoth n l h).icol c).buf = (s.icol c).buf ++ [⟨n, s.icolPri c n, false, l, h, s.us⟩] := by cases c <;> rfl

end Sys2Proof.Machine
end

