-- ==== Sys2Proof/Laws/Settle.lean ====
section
/-! SUPPORT. What a command ends with: `settle` changes only what `Settles` names, and where nothing is due (`State.Quiet`) the
longer endings do no more. -/

namespace Sys2Proof.Machine

variable {u v : State}

theorem Settles.refl (v : State) : Settles v v := ⟨rfl, fun _ _ => .inl rfl, fun _ => rfl, fun _ => rfl⟩

theorem Settles.now (h : Settles v u) : u.now = v.now := by rw [h.rest]

theorem Settles.trans {a b c : State} (h : Settles a b) (k : Settles b c) : Settles a c := by
  refine ⟨?_, fun e x => ?_, fun hw => ?_, fun hw => ?_⟩
  · rw [k.rest, h.rest]
  · rcases h.ctx e x with hh | ⟨hw, g, hg⟩
    · rcases k.ctx e x with hk | ⟨hw, g, hg⟩
      · exact .inl (hk.trans hh)
      · exact .inr ⟨by rw [← hh]; exact hw, g, by rw [hg, hh, h.now]⟩
    · rcases k.ctx e x with hk | ⟨hw2, _⟩
      · exact .inr ⟨hw, g, hk.trans hg⟩
      · rw [hg] at hw2
        cases hw2
  · rw [k.run0 (by rw [h.run0 hw]; exact hw), h.run0 hw]
  · rw [k.run1 (by rw [h.run1 hw]; exact hw), h.run1 hw]

/-- A change of the contexts that leaves every context, but for one that waits and becomes READY. -/
theorem Settles.of_ctxs {v u : State} (h : u = { v with ctxs := u.ctxs })
    (hc : ∀ e c, u.ctx e c = v.ctx e c ∨ ((v.ctx e c).st = .waiting ∧
      ∃ g, u.ctx e c = { v.ctx e c with st := .ready, wait := .none, urg := g, woke := v.now, resume := true })) : Settles v u := by
  refine ⟨?_, hc, fun _ => ?_, fun _ => ?_⟩
  · rw [h]
  · rw [h]
  · rw [h]

/-- Reading the key just written gives the value written, whatever the map, when it is not the default. -/
theorem sget_sput_ne_default {α : Type} [DecidableEq α] {d : Nat → α} (m : List (Nat × α)) (a : Nat) {v : α} (h : v ≠ d a) :
    sget d (sput d m a v) a = v := by
  induction m with
  | nil => simp [sput, sget, h]
  | cons p r ih =>
    obtain ⟨k, w⟩ := p
    by_cases hk : a = k
    · simp [sput, sget, hk.symm, h]
    · by_cases hl : a < k
      · simp [sput, sget, hk, hl, h]
      · simpa [sput, sget, hk, hl] using ih

theorem settles_foldl {β : Type} {f : State → β → State} (h : ∀ s i, Settles s (f s i)) (l : List β) (s : State) :
    Settles s (l.foldl f s) := by
  induction l generalizing s with
  | nil => exact Settles.refl s
  | cons i r ih => exact (h s i).trans (ih _)

theorem settles_forN {f : State → Nat → State} (h : ∀ s i, Settles s (f s i)) (n : Nat) (s : State) : Settles s (forN n f s) :=
  settles_foldl h _ s

theorem State.wakeCtx_settles (s : State) (e c : Nat) : Settles s (s.wakeCtx e c) := by
  unfold State.wakeCtx
  dsimp only
  split
  · rename_i m hst hw
    split
    · refine Settles.of_ctxs rfl fun e' c' => ?_
      by_cases hk : 8 * e' + c' = 8 * e + c
      · right
        have hx : s.ctx e' c' = s.ctx e c := by unfold State.ctx; rw [hk]
        have key : ∀ x : Ctx, x.st = .ready → (s.setCtx e c x).ctx e' c' = x := by
          intro x hx
          unfold State.ctx State.setCtx
          rw [hk]
          refine sget_sput_ne_default _ _ fun hd => ?_
          rw [hd] at hx
          cases hx
        refine ⟨by rw [hx]; exact hst, s.urgentCond e c m, ?_⟩
        rw [key _ rfl, hx]
      · exact .inl (sget_sput_ne _ _ _ hk)
    · exact Settles.refl s
  · exact Settles.refl s

theorem State.wakeEng_settles (s : State) (e : Nat) : Settles s (s.wakeEng e) := by
  unfold State.wakeEng
  split
  · exact settles_forN (fun s c => s.wakeCtx_settles e c) _ _
  · exact Settles.refl s

theorem State.modStep_settles (s : State) (c : CoreId) : Settles s (s.modStep c) := by
  cases c <;> exact ⟨rfl, fun _ _ => .inl rfl, fun _ => rfl, fun _ => rfl⟩

theorem State.resumeCore_settles (s : State) (c : CoreId) : Settles s (s.resumeCore c) := by
  unfold State.resumeCore
  dsimp only
  split
  · rename_i h
    simp only [Bool.and_eq_true, decide_eq_true_eq] at h
    cases c
    · exact ⟨rfl, fun _ _ => .inl rfl, fun hn => absurd h.1 hn, fun _ => rfl⟩
    · exact ⟨rfl, fun _ _ => .inl rfl, fun _ => rfl, fun hn => absurd h.1 hn⟩
  · exact Settles.refl s

theorem State.wfiStep_settles (s : State) (c : CoreId) : Settles s (s.wfiStep c) := by
  unfold State.wfiStep
  split
  · exact s.resumeCore_settles c
  · exact Settles.refl s

theorem State.modeStep_settles (s : State) : Settles s s.modeStep := by
  unfold State.modeStep
  dsimp only
  split
  · exact Settles.refl s
  · exact ⟨rfl, fun _ _ => .inl rfl, fun _ => rfl, fun _ => rfl⟩

/-- What every command ends with changes no more than `Settles` says. -/
theorem State.settle_settles (s : State) : Settles s s.settle := by
  unfold State.settle
  dsimp only
  have h1 := settles_foldl (fun s e => s.wakeEng_settles e) (s.engs.map Prod.fst) s
  exact ((((h1.trans (State.modStep_settles _ _)).trans (State.modStep_settles _ _)).trans (State.wfiStep_settles _ _)).trans
    (State.wfiStep_settles _ _)).trans (State.modeStep_settles _)

/-- The outcome of a command that ends with `done`. -/
theorem done_settles (s : State) : ∃ u, done s = .next u ∧ Settles s u := ⟨_, rfl, s.settle_settles⟩

/-! ### Where nothing is due -/

theorem Settles.quiet {v u : State} (h : Settles v u) (q : v.Quiet) : u.Quiet := by
  rw [h.rest]
  exact ⟨q.waits, q.pend, q.held, q.single, q.awake, q.entry, q.wake, q.cores, q.got, q.req⟩

/-- A change elsewhere leaves it quiet. -/
theorem State.Quiet.of {s t : State} (q : s.Quiet) (hw : t.waits = s.waits) (hp : t.pend = s.pend) (hc : t.cfg = s.cfg)
    (he : t.env.st = s.env.st) (hf : t.flag Reg.RFE_SPCTL_EN = s.flag Reg.RFE_SPCTL_EN) (hr : t.pwr = s.pwr) (hs : t.start = s.start) :
    t.Quiet :=
  ⟨hw.trans q.waits, hp.trans q.pend, by rw [hc]; exact q.held, by rw [he, hf]; exact q.single, by rw [hr]; exact q.awake,
    by rw [hr]; exact q.entry, by rw [hr]; exact q.wake, by rw [hr]; exact q.cores,
    by rw [hr]; exact q.got, by rw [hs]; exact q.req⟩

theorem State.Quiet.hasWork {s : State} (q : s.Quiet) (u : Nat) : s.hasWork u = false := by
  unfold State.hasWork State.waitsFor
  rw [q.waits, q.pend]
  simp [bitOf]

theorem State.Quiet.boundaries {s : State} (q : s.Quiet) : s.boundaries = s := by
  have hf : ∀ l : List Nat, l.foldl (fun s u => if s.hasWork u && s.atBoundary u then s.applyUnit u else s) s = s := by
    intro l
    induction l with
    | nil => rfl
    | cons u r ih => rw [List.foldl_cons, q.hasWork u]; simpa using ih
  unfold State.boundaries
  rw [hf]
  have hb : s.spBlock = s := by
    unfold State.spBlock
    rcases q.single with h | h <;> simp [h]
  rw [hb]
  unfold State.afterPend
  rw [q.held]

theorem State.Quiet.hoverStep {s : State} (q : s.Quiet) : s.hoverStep = s := by
  unfold State.hoverStep
  rw [q.awake]
  simp

theorem State.Quiet.fioStep {s : State} (q : s.Quiet) : s.fioStep = s := by
  unfold State.fioStep State.awake
  rw [q.awake]
  simp

theorem State.Quiet.wakeStep {s : State} (q : s.Quiet) : s.wakeStep = s := by
  have ha : s.pwr.asleep = none := by unfold Pwr.asleep; rw [q.awake]
  have hp : ({ s.pwr with wakeReq := 0, wakeCores := 0, wakeGot := 0 } : Pwr) = s.pwr := by
    have h1 := q.wake; have h2 := q.cores; have h3 := q.got
    cases hs : s.pwr
    rw [hs] at h1 h2 h3
    simp_all
  unfold State.wakeStep
  dsimp only
  split
  · rename_i h1
    exact nomatch ha.symm.trans h1
  · rename_i h2
    exact nomatch q.entry.symm.trans h2
  · exact congrArg (fun p => { s with pwr := p }) hp

theorem State.Quiet.ripStep {s : State} (q : s.Quiet) : s.ripStep = s := by
  unfold State.ripStep
  rw [if_pos q.req]

/-- Where nothing is due, a command that could set more off does no more. -/
theorem doneW_settles {s : State} (q : s.Quiet) : ∃ u, doneW s = .next u ∧ Settles s u := by
  refine ⟨_, rfl, ?_⟩
  rw [q.boundaries]
  have q1 := s.settle_settles.quiet q
  rw [q1.hoverStep, q1.fioStep, q1.wakeStep, q1.ripStep]
  exact s.settle_settles.trans (State.settle_settles _)

theorem doneB_settles {s : State} (q : s.Quiet) : ∃ u, doneB s = .next u ∧ Settles s u := by
  refine ⟨_, rfl, ?_⟩
  rw [q.boundaries]
  exact s.settle_settles

/-- A command whose own effect is `v`, as the three endings give it. -/
theorem does_done {c : Instr} {s v : State} (h : exec c s = done v) : Does c s v := ⟨_, h, v.settle_settles⟩

theorem does_doneB {c : Instr} {s v : State} (h : exec c s = doneB v) (q : v.Quiet) : Does c s v := by
  obtain ⟨u, hu, hs⟩ := doneB_settles q
  exact ⟨u, h.trans hu, hs⟩

theorem does_doneW {c : Instr} {s v : State} (h : exec c s = doneW v) (q : v.Quiet) : Does c s v := by
  obtain ⟨u, hu, hs⟩ := doneW_settles q
  exact ⟨u, h.trans hu, hs⟩

/-- A change of what settling may change anyway does not count. -/
theorem Settles.mono {v w u : State} (h : Settles v u) (e : v = { w with pwr := { w.pwr with autoBlocked := v.pwr.autoBlocked } }) :
    Settles w u := by
  have hc : ∀ e c, v.ctx e c = w.ctx e c := by rw [e]; exact fun _ _ => rfl
  have hn : v.now = w.now := by rw [e]
  refine ⟨?_, ?_, ?_, ?_⟩
  · rw [h.rest]
    conv_lhs => rw [e]
  · intro a b; rw [← hc, ← hn]; exact h.ctx a b
  · have h0 : v.core0 = w.core0 := by rw [e]
    rw [← h0]; exact h.run0
  · have h1 : v.core1 = w.core1 := by rw [e]
    rw [← h1]; exact h.run1

/-! ### What settling leaves -/

section
variable {v u : State} (h : Settles v u)
include h

theorem Settles.regs : u.regs = v.regs := by rw [h.rest]
theorem Settles.shadow : u.shadow = v.shadow := by rw [h.rest]
theorem Settles.waits : u.waits = v.waits := by rw [h.rest]
theorem Settles.armed : u.armed = v.armed := by rw [h.rest]
theorem Settles.cfg : u.cfg = v.cfg := by rw [h.rest]
theorem Settles.dbg : u.dbg = v.dbg := by rw [h.rest]
theorem Settles.tap : u.tap = v.tap := by rw [h.rest]
theorem Settles.engs : u.engs = v.engs := by rw [h.rest]
theorem Settles.txq : u.txq = v.txq := by rw [h.rest]
theorem Settles.txOrder : u.txOrder = v.txOrder := by rw [h.rest]
theorem Settles.rfe : u.rfe = v.rfe := by rw [h.rest]
theorem Settles.lanes : u.lanes = v.lanes := by rw [h.rest]
theorem Settles.env : u.env = v.env := by rw [h.rest]
theorem Settles.ldr : u.ldr = v.ldr := by rw [h.rest]
theorem Settles.link : u.link = v.link := by rw [h.rest]
theorem Settles.tb : u.tb = v.tb := by rw [h.rest]
theorem Settles.ciph : u.ciph = v.ciph := by rw [h.rest]
theorem Settles.memc : u.memc = v.memc := by rw [h.rest]
theorem Settles.flc : u.flc = v.flc := by rw [h.rest]
theorem Settles.rtc : u.rtc = v.rtc := by rw [h.rest]
theorem Settles.start : u.start = v.start := by rw [h.rest]
theorem Settles.upd : u.upd = v.upd := by rw [h.rest]
theorem Settles.host : u.host = v.host := by rw [h.rest]
theorem Settles.uart0 : u.uart0 = v.uart0 := by rw [h.rest]
theorem Settles.uart1 : u.uart1 = v.uart1 := by rw [h.rest]
theorem Settles.spic0 : u.spic0 = v.spic0 := by rw [h.rest]
theorem Settles.spic1 : u.spic1 = v.spic1 := by rw [h.rest]
theorem Settles.i2c0 : u.i2c0 = v.i2c0 := by rw [h.rest]
theorem Settles.i2c1 : u.i2c1 = v.i2c1 := by rw [h.rest]
theorem Settles.sadc : u.sadc = v.sadc := by rw [h.rest]
theorem Settles.tmrs : u.tmrs = v.tmrs := by rw [h.rest]
theorem Settles.wdt0 : u.wdt0 = v.wdt0 := by rw [h.rest]
theorem Settles.wdt1 : u.wdt1 = v.wdt1 := by rw [h.rest]
theorem Settles.pins : u.pins = v.pins := by rw [h.rest]
theorem Settles.evl : u.evl = v.evl := by rw [h.rest]
theorem Settles.die : u.die = v.die := by rw [h.rest]
theorem Settles.snap : u.snap = v.snap := by rw [h.rest]
theorem Settles.free : u.free = v.free := by rw [h.rest]
theorem Settles.pending : u.pending = v.pending := by rw [h.rest]
theorem Settles.icol0_buf : u.icol0.buf = v.icol0.buf := by rw [h.rest]
theorem Settles.icol0_recs : u.icol0.recs = v.icol0.recs := by rw [h.rest]
theorem Settles.icol0_heads : u.icol0.heads = v.icol0.heads := by rw [h.rest]
theorem Settles.icol0_run : u.icol0.run = v.icol0.run := by rw [h.rest]
theorem Settles.icol0_stack : u.icol0.stack = v.icol0.stack := by rw [h.rest]
theorem Settles.icol0_merged : u.icol0.merged = v.icol0.merged := by rw [h.rest]
theorem Settles.icol0_lastPri : u.icol0.lastPri = v.icol0.lastPri := by rw [h.rest]
theorem Settles.core0_halted : u.core0.halted = v.core0.halted := by rw [h.rest]
theorem Settles.core0_start : u.core0.start = v.core0.start := by rw [h.rest]
theorem Settles.core0_dcen : u.core0.dcen = v.core0.dcen := by rw [h.rest]
theorem Settles.core0_icen : u.core0.icen = v.core0.icen := by rw [h.rest]
theorem Settles.core0_icache : u.core0.icache = v.core0.icache := by rw [h.rest]
theorem Settles.core0_dcache : u.core0.dcache = v.core0.dcache := by rw [h.rest]
theorem Settles.core0_mcycle : u.core0.mcycle = v.core0.mcycle := by rw [h.rest]
theorem Settles.core0_timeh : u.core0.timeh = v.core0.timeh := by rw [h.rest]
theorem Settles.core0_ntimef : u.core0.ntimef = v.core0.ntimef := by rw [h.rest]
theorem Settles.core0_hart : u.core0.hart = v.core0.hart := by rw [h.rest]
theorem Settles.core0_resp : u.core0.resp = v.core0.resp := by rw [h.rest]
theorem Settles.icol1_buf : u.icol1.buf = v.icol1.buf := by rw [h.rest]
theorem Settles.icol1_recs : u.icol1.recs = v.icol1.recs := by rw [h.rest]
theorem Settles.icol1_heads : u.icol1.heads = v.icol1.heads := by rw [h.rest]
theorem Settles.icol1_run : u.icol1.run = v.icol1.run := by rw [h.rest]
theorem Settles.icol1_stack : u.icol1.stack = v.icol1.stack := by rw [h.rest]
theorem Settles.icol1_merged : u.icol1.merged = v.icol1.merged := by rw [h.rest]
theorem Settles.icol1_lastPri : u.icol1.lastPri = v.icol1.lastPri := by rw [h.rest]
theorem Settles.core1_halted : u.core1.halted = v.core1.halted := by rw [h.rest]
theorem Settles.core1_start : u.core1.start = v.core1.start := by rw [h.rest]
theorem Settles.core1_dcen : u.core1.dcen = v.core1.dcen := by rw [h.rest]
theorem Settles.core1_icen : u.core1.icen = v.core1.icen := by rw [h.rest]
theorem Settles.core1_icache : u.core1.icache = v.core1.icache := by rw [h.rest]
theorem Settles.core1_dcache : u.core1.dcache = v.core1.dcache := by rw [h.rest]
theorem Settles.core1_mcycle : u.core1.mcycle = v.core1.mcycle := by rw [h.rest]
theorem Settles.core1_timeh : u.core1.timeh = v.core1.timeh := by rw [h.rest]
theorem Settles.core1_ntimef : u.core1.ntimef = v.core1.ntimef := by rw [h.rest]
theorem Settles.core1_hart : u.core1.hart = v.core1.hart := by rw [h.rest]
theorem Settles.core1_resp : u.core1.resp = v.core1.resp := by rw [h.rest]
theorem Settles.pwr_forced : u.pwr.forced = v.pwr.forced := by rw [h.rest]
theorem Settles.pwr_cmd : u.pwr.cmd = v.pwr.cmd := by rw [h.rest]
theorem Settles.pwr_hs : u.pwr.hs = v.pwr.hs := by rw [h.rest]
theorem Settles.pwr_target : u.pwr.target = v.pwr.target := by rw [h.rest]
theorem Settles.pwr_wakePend : u.pwr.wakePend = v.pwr.wakePend := by rw [h.rest]
theorem Settles.pwr_vcur : u.pwr.vcur = v.pwr.vcur := by rw [h.rest]
theorem Settles.pwr_vto : u.pwr.vto = v.pwr.vto := by rw [h.rest]
theorem Settles.pwr_pcur : u.pwr.pcur = v.pwr.pcur := by rw [h.rest]
theorem Settles.pwr_vset : u.pwr.vset = v.pwr.vset := by rw [h.rest]
theorem Settles.pwr_pset : u.pwr.pset = v.pwr.pset := by rw [h.rest]
theorem Settles.pwr_vheld : u.pwr.vheld = v.pwr.vheld := by rw [h.rest]
theorem Settles.pwr_pheld : u.pwr.pheld = v.pwr.pheld := by rw [h.rest]
theorem Settles.pwr_pnext : u.pwr.pnext = v.pwr.pnext := by rw [h.rest]
theorem Settles.pwr_stap : u.pwr.stap = v.pwr.stap := by rw [h.rest]
theorem Settles.pwr_hovActive : u.pwr.hovActive = v.pwr.hovActive := by rw [h.rest]
theorem Settles.pwr_hovTicks : u.pwr.hovTicks = v.pwr.hovTicks := by rw [h.rest]
theorem Settles.pwr_wakeatT : u.pwr.wakeatT = v.pwr.wakeatT := by rw [h.rest]
theorem Settles.pwr_wakeReq : u.pwr.wakeReq = v.pwr.wakeReq := by rw [h.rest]
theorem Settles.pwr_wakeCores : u.pwr.wakeCores = v.pwr.wakeCores := by rw [h.rest]
theorem Settles.eng (e : Nat) : u.eng e = v.eng e := by unfold State.eng; rw [h.engs]
theorem Settles.lane (k : Nat) : u.lane k = v.lane k := by unfold State.lane; rw [h.lanes]
theorem Settles.tmr (n : Nat) : u.tmr n = v.tmr n := by unfold State.tmr; rw [h.tmrs]
theorem Settles.net : u.net = v.net := by unfold State.net; rw [h.now, h.tb]
theorem Settles.us : u.us = v.us := by unfold State.us; rw [h.net]
theorem Settles.bank (b : Nat) : u.bank b = v.bank b := by unfold State.bank; rw [h.memc]
theorem Settles.reg (a : Nat) : u.reg a = v.reg a := by unfold State.reg; rw [h.regs]
theorem Settles.get (f : Field) : u.get f = v.get f := by unfold State.get; rw [h.reg]
theorem Settles.flag (f : Field) : u.flag f = v.flag f := by unfold State.flag; rw [h.get]
theorem Settles.mem : u.mem = v.mem := by rw [h.rest]
theorem Settles.lost : u.lost = v.lost := by rw [h.rest]
theorem Settles.byte (a : Nat) : u.byte a = v.byte a := by unfold State.byte; rw [h.mem, h.lost]
theorem Settles.word (a : Nat) : u.word a = v.word a := by
  unfold State.word State.bytes
  congr 2
  exact List.map_congr_left fun i _ => h.byte (a + i)

end

end Sys2Proof.Machine
end

