-- ==== Sys2Proof/Laws/Traps.lean ====
section
/-! SUPPORT. What taking an exception can do (R15): one lemma for a core that runs, one for a core that does not. -/

namespace Sys2Proof.Machine

/-- The entry leaves machine mode, interrupts off and the pc at the handler, whatever the hart held. -/
theorem Hart.enterTrap_trapped (h : Hart) (cause : Nat) (tval : Word) : (h.enterTrap cause tval).Trapped cause tval := by
  refine ⟨rfl, rfl, rfl, ?_, rfl⟩
  have h1 : ∀ (x : Word) (a b : Bool), ((x &&& 0xFFFFE777#32 ||| if a then 0x80#32 else 0) ||| if b then 0 else 0x1800#32).getLsbD 3 = false := by
    intro x a b
    cases a <;> cases b <;> simp
  exact h1 _ _ _

/-- A core that runs takes the exception: only its hart changes, and the counter of free values. -/
theorem State.trap_active (s : State) (c : CoreId) (cause : Nat) (tval : Word) (ha : (s.core c).active = true) :
    ∃ h, s.trap c cause tval = (({ s with free := s.free + 64 } : State).hartMap c fun _ => h) ∧ h.Trapped cause tval := by
  refine ⟨_, ?_, Hart.enterTrap_trapped ((s.core c).hart.observed s.free) cause tval⟩
  unfold State.trap
  rw [if_pos ha]
  cases c <;> rfl

/-- A core that does not run takes none. -/
theorem State.trap_idle (s : State) (c : CoreId) (cause : Nat) (tval : Word) (ha : (s.core c).active = false) :
    s.trap c cause tval = s := by
  unfold State.trap
  rw [if_neg (by simp [ha])]

/-- An answer changes no core's way of running. -/
theorem State.respond_active (s : State) (ag : Agent) (r : Response) (c : CoreId) :
    ((s.respond ag r).core c).active = (s.core c).active := by
  cases ag <;> cases c <;> rfl

/-- An access that is not served ends in an answer of failure, and for a core in its access fault. -/
theorem State.refuse_core (s : State) (ag : Agent) (k : AccKind) (a : Word) (c : CoreId) (h : agentCore ag = some c) :
    s.refuse ag k a.toNat = (s.respond ag (failOf ag k)).trap c (faultCause k) a := by
  unfold State.refuse
  rw [h, BitVec.ofNat_toNat, BitVec.setWidth_eq]

theorem State.refuse_other (s : State) (ag : Agent) (k : AccKind) (a : Nat) (h : agentCore ag = none) :
    s.refuse ag k a = s.respond ag (failOf ag k) := by
  unfold State.refuse
  rw [h]

end Sys2Proof.Machine
end

