-- ==== Sys2Proof/WellFormed.lean ====
section
/-! DEFINITION. Well-formed commands: every operand in the range that the manual gives it. -/

namespace Sys2Proof

/-- Context c of engine e exists (Table 6-1). -/
def wfCtx (e c : Nat) : Bool := e < 17 && c < (if e = 16 then 4 else 8)

/-- Retry steps of a flash read are 1 to 7 (R286). -/
def wfEcc : Ecc → Bool
  | .retried step => 1 ≤ step && step ≤ 7
  | _ => true

/-- Channels 0 to 127, sixteen sub-windows per chain (R113). -/
def wfPow (pow : List ChanPow) : Bool :=
  pow.all fun p => p.chan < 128 && p.chainA.length = 16 && p.chainB.length = 16

/-- Fused state of two keys, spares of banks 0 to 19, words of the Ballast store (R271, R279, R386). -/
def wfFound (f : ColdFindings) : Bool :=
  f.fused.all (fun p => p.1 < 20) && f.soft.all (fun p => p.1 < 20) &&
  (f.corrected ++ f.uncorrectable).all fun a => 0x22000000 ≤ a && a < 0x22080000 && a % 4 = 0

/-- A command whose operands are in range. -/
def Instr.wf : Instr → Bool
  | .softwareResetDevice _ => true
  | .core0Reset _ => true
  | .core1Reset _ => true
  | .doubleFault _ _ => true
  | .watchdogExpiry _ _ => true
  | .wdtHalfTimeout _ _ => true
  | .wdtKick _ _ => true
  | .core0Release found _ => wfFound found
  | .startCalibrationDone _ => true
  | .safeExit _ => true
  | .c1ctlRunWrite _ => true
  | .bootGood _ => true
  | .memoryAccess _ _ _ _ _ ecc _ => wfEcc ecc
  | .stepMemoryStore _ _ _ => true
  | .fenceI _ => true
  | .wfi _ _ => true
  | .illegalCsr _ _ => true
  | .timeCsrRead _ _ => true
  | .dcinv _ _ => true
  | .icinv _ _ => true
  | .debugHaltRequest _ => true
  | .registerWrite _ _ _ => true
  | .unitSafeBoundary u _ => u < 32
  | .lagLimitExpiry _ => true
  | .rfeStartupDone _ => true
  | .autoRecal _ => true
  | .calStepDone _ => true
  | .synthLockDone _ => true
  | .txClaim _ => true
  | .coexReqAssert _ => true
  | .txStart _ _ => true
  | .txFirstChip _ => true
  | .txLastChip _ => true
  | .txTailEnd _ => true
  | .blankEnd _ => true
  | .txLateCancel _ => true
  | .synthTimeout _ => true
  | .coexGntRevoke _ => true
  | .ackCommit lane _ => lane ≤ 128
  | .coexCntRead _ => true
  | .envelopeStart _ => true
  | .envelopeXwaitEnd _ => true
  | .envelopeRun _ => true
  | .msBoundary pow _ => wfPow pow
  | .envelopeStopped _ => true
  | .surveyBegin _ => true
  | .agcGainDown chain exp _ _ => chain < 2 && exp < 16
  | .agcGainUp chain _ => chain < 2
  | .preambleDetect lane chain _ _ _ => lane ≤ 128 && chain < 2
  | .spPreambleDetect _ _ _ => true
  | .chainChoice lane _ _ _ _ => lane ≤ 128
  | .sfdRecognised lane _ _ => lane ≤ 128
  | .sfdTimeout lane _ => lane ≤ 128
  | .phrReceived lane _ psdu _ => lane ≤ 128 && psdu.length ≤ 2047
  | .addrReached lane _ => lane ≤ 128
  | .frameEnd lane _ _ => lane ≤ 128
  | .groupHold _ => true
  | .groupStopped g _ => g < 16
  | .groupRelease _ => true
  | .envLerrRead _ k => k < 128
  | .nop e c => wfCtx e c
  | .movi e c => wfCtx e c
  | .addOp e c => wfCtx e c
  | .subOp e c => wfCtx e c
  | .andOp e c => wfCtx e c
  | .orOp e c => wfCtx e c
  | .xorOp e c => wfCtx e c
  | .shl e c => wfCtx e c
  | .shr e c => wfCtx e c
  | .cmp e c => wfCtx e c
  | .ld e c => wfCtx e c
  | .st e c => wfCtx e c
  | .lookup e c => wfCtx e c
  | .readf e c => wfCtx e c
  | .txq e c => wfCtx e c
  | .txack e c => wfCtx e c
  | .deliv e c => wfCtx e c
  | .dropFrame e c => wfCtx e c
  | .postEvent e c => wfCtx e c
  | .irq e c => wfCtx e c
  | .syncEpoch e c => wfCtx e c
  | .timer e c => wfCtx e c
  | .waitev e c => wfCtx e c
  | .waitt e c => wfCtx e c
  | .yield e c => wfCtx e c
  | .jmp e c => wfCtx e c
  | .call e c => wfCtx e c
  | .ret e c => wfCtx e c
  | .halt e c => wfCtx e c
  | .txgo e c => wfCtx e c
  | .txhold e c => wfCtx e c
  | .txrel e c => wfCtx e c
  | .hop e c => wfCtx e c
  | .guard e c => wfCtx e c
  | .resync e c => wfCtx e c
  | .sprx e c => wfCtx e c
  | .spoff e c => wfCtx e c
  | .sped e c => wfCtx e c
  | .spedDone c _ _ => c < 4
  | .armSadc e c => wfCtx e c
  | .armWake e c => wfCtx e c
  | .contextTimerExpiry e c _ => wfCtx e c
  | .waittWake e c _ => wfCtx e c
  | .contextDispatch e _ _ => e < 17
  | .contextRestart _ => true
  | .engine16Stopped _ => true
  | .txqRelease _ => true
  | .txqbaseWrite _ => true
  | .loadTable _ => true
  | .loadVerifyDone _ => true
  | .loadQuietStop _ => true
  | .loadSoftWaitExpiry _ => true
  | .loadComplete _ => true
  | .xtalReady _ => true
  | .timebaseSwitch _ => true
  | .lfcalMeasure _ _ => true
  | .lfCrystalStart _ => true
  | .lfCrystalStop _ => true
  | .vbkpLow _ _ _ => true
  | .fioBurstStart _ => true
  | .tbaseNowRead _ => true
  | .slotStart _ => true
  | .linkAdjWrite _ => true
  | .linkEvcRead _ => true
  | .linkSstartRead _ => true
  | .supervisionExpiry n _ => n < 1024
  | .dwellBucketRoll _ => true
  | .linkDwstatRead _ => true
  | .ballastWriteThrough n _ => n < 1024
  | .deliveryWrite _ _ => true
  | .rtakeWrite _ _ => true
  | .linkRputRead _ _ => true
  | .cipherSubmit _ _ => true
  | .ccmEnc _ => true
  | .ccmDec _ => true
  | .gcmEnc _ => true
  | .gcmDec _ => true
  | .ctr _ => true
  | .cmacGen _ => true
  | .cmacVer _ => true
  | .sha256 _ => true
  | .ecdsaVer _ => true
  | .unwrap _ => true
  | .wrap _ => true
  | .rng _ _ => true
  | .cipherComplete _ => true
  | .queueFlush _ => true
  | .kselWrite _ => true
  | .alarmTrip _ _ => true
  | .almactClear _ => true
  | .trngStartupDone _ _ => true
  | .trngDataRead _ _ => true
  | .bankPowerRequest _ _ => true
  | .bankTransitionDone b _ => b < 20
  | .bankTestStart _ => true
  | .bankTestEnd _ _ => true
  | .memcBcntRead _ => true
  | .flashProg _ _ => true
  | .flashErase _ _ => true
  | .progComplete _ _ _ => true
  | .eraseComplete _ _ => true
  | .marginComplete _ _ _ => true
  | .eraseSuspended _ => true
  | .eraseResume _ => true
  | .flcEcntRead _ => true
  | .flcRrstatRead _ => true
  | .evlPubsw _ => true
  | .linecfgWrite l _ => l < 96
  | .evlLoopRead _ => true
  | .evlCoalRead _ l => l < 96
  | .icolRecordWrite _ _ => true
  | .frompendWrite _ _ => true
  | .icolTake _ _ => true
  | .icolEoi _ => true
  | .icolSwpost _ _ => true
  | .icolEnset _ w _ => w < 32
  | .icolEnclr _ w _ => w < 32
  | .icolPset _ w _ => w < 32
  | .icolPclr _ w _ => w < 32
  | .icolNlx5pset _ _ => true
  | .moderationExpiry _ _ => true
  | .icolOvfcntRead _ _ => true
  | .pwrEnter _ _ => true
  | .pwrCancel _ => true
  | .handshakeDelayClear _ => true
  | .handshakeTimeout _ => true
  | .sleepEntryDone _ => true
  | .prewake _ => true
  | .wakePinEdge j _ _ => j < 4
  | .vcoreSettled _ => true
  | .hoverCrystalStart _ => true
  | .hoverSubstateChange _ => true
  | .pwrHovstatRead _ => true
  | .pwrHovtimeRead _ => true
  | .secondBoundary _ => true
  | .rtcSet _ => true
  | .calset _ => true
  | .hourplus _ => true
  | .hourminus _ => true
  | .hourcancel _ => true
  | .cal2cnt _ => true
  | .cnt2cal _ => true
  | .rtcConversionDone _ => true
  | .rtcSnapshotWrite _ => true
  | .rtcSecRead _ _ => true
  | .rtcNowdateRead _ => true
  | .activate _ => true
  | .activateLive _ => true
  | .updateAbort _ => true
  | .updateVerifyDone _ => true
  | .quietInstant _ => true
  | .quiesceSoftExpiry _ => true
  | .quiesceTimeout _ => true
  | .pauseEnd _ => true
  | .hostCsAssert _ => true
  | .hostStatus _ => true
  | .hostPut _ => true
  | .hostGet _ => true
  | .loaderPing _ => true
  | .loaderInfo _ => true
  | .loaderErase _ => true
  | .loaderProg _ => true
  | .bootsel _ => true
  | .resetcount _ => true
  | .reboot _ => true
  | .uartRxByte n _ _ _ _ _ => n < 2
  | .uartDataWrite n _ => n < 2
  | .uartDataRead _ n => n < 2
  | .uartTxIdle n _ => n < 2
  | .spicTransferStart n _ => n < 2
  | .spicTransferEnd n _ _ => n < 2
  | .i2cTransferStart n _ => n < 2
  | .i2cTransferEnd n _ _ _ _ => n < 2
  | .gpioEdge j _ _ => j < 40
  | .sadcConversionDone _ _ => true
  | .sadcResultRead _ => true
  | .monitorUpdate _ _ _ _ => true
  | .tmrStart n => n < 8
  | .tmrStop n => n < 8
  | .tmrExpiry n _ => n < 8
  | .samplePllLock _ => true
  | .vioValidChange _ _ => true
  | .debugResumeRequest _ => true
  | .dmcontrolDmactive _ => true
  | .tckCycle _ _ => true
  | .powerOnReset => true
  | .nrstLow => true
  | .brownout => true
  | .backupDomainReset => true
  | .debugNdmreset => true
  | .replayMirrorLoadDone => true
  | .epochNow => true
  | .epochAt => true
  | .epochCancel => true
  | .digestRecomputeDone => true
  | .recalAll => true
  | .recalStale => true
  | .stopCal => true
  | .engine16Run => true
  | .engine16Stop => true
  | .loadAbort => true
  | .tbaseRefOn => true
  | .tbaseRefOff => true
  | .tbaseAutoOn => true
  | .setevc => true
  | .cancelset => true
  | .keyCommit => true
  | .keyErase => true
  | .eraseall => true
  | .almclr => true
  | .deviceKeyLoadDone => true
  | .trngHealthFail => true
  | .margin0 => true
  | .margin1 => true
  | .flashBsel => true
  | .padRelease => true
  | .memrd => true
  | .memwr => true
  | .rxdone => true
  | .hostTxgo => true
  | .txcancel => true
  | .sadcStart => true

end Sys2Proof
end

