-- ==== Sys2Proof/Tests/Slice0.lean ====
section
/-! SUPPORT. Tests: ill-formed commands that the checks refuse, the manual's own examples, and a witness for the hypotheses of each
statement. -/

section

open Sys2Proof Sys2Proof.Machine

set_option Elab.async false

/-! ### Well-formed commands -/

/-- Every step command refuses engine 17, context 8 of a lane group and context 4 of engine 16, and takes the last ones there are. -/
theorem test_wf_step_commands :
    ∀ f ∈ [Instr.nop, .movi, .addOp, .subOp, .andOp, .orOp, .xorOp, .shl, .shr, .cmp, .ld, .st, .lookup, .readf, .txq, .txack, .deliv,
        .dropFrame, .postEvent, .irq, .syncEpoch, .timer, .waitev, .waitt, .yield, .jmp, .call, .ret, .halt, .txgo, .txhold, .txrel, .hop,
        .guard, .resync, .sprx, .spoff, .sped, .armSadc, .armWake, (.contextTimerExpiry · · 0), (.waittWake · · 0)],
      (f 17 0).wf = false ∧ (f 15 8).wf = false ∧ (f 16 4).wf = false ∧ (f 15 7).wf = true ∧ (f 16 3).wf = true := by decide

/-- Lanes end at 127, with 128 the single path (Table 4-1). -/
theorem test_wf_lanes :
    ∀ f ∈ [(Instr.ackCommit · 0), (.preambleDetect · 0 0 0 0), (.chainChoice · 0 0 0 0), (.sfdRecognised · 0 0), (.sfdTimeout · 0),
        (.phrReceived · 0 [] 0), (.addrReached · 0), (.frameEnd · 0 0)], (f 129).wf = false ∧ (f 128).wf = true := by decide

theorem test_wf_indexed :
    ∀ i ∈ [Instr.unitSafeBoundary 32 0, .msBoundary [⟨128, List.replicate 16 0, List.replicate 16 0⟩] 0,
        .msBoundary [⟨0, List.replicate 15 0, List.replicate 16 0⟩] 0, .msBoundary [⟨0, List.replicate 16 0, [0]⟩] 0,
        .agcGainDown 2 0 false 0, .agcGainDown 0 16 false 0, .agcGainUp 2 0, .preambleDetect 0 2 0 0 0,
        .groupStopped 16 0, .envLerrRead .core0 128, .spedDone 4 0 0, .contextDispatch 17 false 0,
        .supervisionExpiry 1024 0], i.wf = false := by decide

theorem test_wf_long_psdu : (Instr.phrReceived 0 0 (List.replicate 2048 0) 0).wf = false := by decide +kernel

theorem test_wf_units :
    ∀ i ∈ [Instr.ballastWriteThrough 1024 0, .bankTransitionDone 20 0, .linecfgWrite 96 0, .evlCoalRead .core0 96,
        .icolEnset .c0 32 0, .icolEnclr .c0 32 0, .icolPset .c0 32 0, .icolPclr .c0 32 0, .wakePinEdge 4 true 0,
        .uartRxByte 2 0 false false false 0, .uartDataWrite 2 0, .uartDataRead .core0 2, .uartTxIdle 2 0, .spicTransferStart 2 0,
        .spicTransferEnd 2 [] 0, .i2cTransferStart 2 0, .i2cTransferEnd 2 [] false false 0, .gpioEdge 40 true 0, .tmrStart 8, .tmrStop 8,
        .tmrExpiry 8 0], i.wf = false := by decide

/-- Retry steps are 1 to 7; a bank's spares and the words found at a cold start name banks and words that exist. -/
theorem test_wf_findings :
    (Instr.memoryAccess .core0 .load .w32 0 0 (.retried 0) 0).wf = false ∧ (Instr.memoryAccess .core0 .load .w32 0 0 (.retried 8) 0).wf = false ∧
    (Instr.core0Release ⟨0, [(20, 1)], [], [], []⟩ 0).wf = false ∧ (Instr.core0Release ⟨0, [], [(20, 1)], [], []⟩ 0).wf = false ∧
    (Instr.core0Release ⟨0, [], [], [0x22080000], []⟩ 0).wf = false ∧ (Instr.core0Release ⟨0, [], [], [], [0x22000002]⟩ 0).wf = false ∧
    (Instr.core0Release ⟨0, [(19, 1)], [(0, 2)], [0x2207FFFC], [0x22000000]⟩ 0).wf = true := by decide

/-! ### The manual's own numbers -/

/-- The ASCII string "123456789" under R55, R129 and R130. -/
theorem test_crc_check_values :
    let s : List Byte := [0x31, 0x32, 0x33, 0x34, 0x35, 0x36, 0x37, 0x38, 0x39]
    crc32c s = 0xE3069283 ∧ crc32c [] = 0 ∧ crc32 s = 0xCBF43926 ∧ crc16 s = 0x2189 := by decide +kernel

/-- The example of R360's section: 2100 is no leap year, and 2100-02-28 23:59:58 is the count 0xBC66_DBFE, a Sunday. -/
theorem test_calendar_2100 :
    (Cal.mk 2100 2 29 12 0 0).valid = false ∧ (Cal.mk 2100 2 28 23 59 58).count = 0xBC66DBFE ∧
    Cal.ofCount 0xBC66DBFE = ⟨2100, 2, 28, 23, 59, 58⟩ ∧ wday 0xBC66DBFE = 6 := by decide +kernel

/-- The street light's example: day 11 411 is 2031-03-30, a Sunday, and 02:30 of it is 0x3AC3_EFA8. -/
theorem test_calendar_2031 :
    (Cal.mk 2031 3 30 2 30 0).count = 0x3AC3EFA8 ∧ wday 0x3AC3EFA8 = 6 := by decide +kernel

/-- The boot selector 0x0003_5801 becomes 0x0004_5E00 when BSEL writes region A (the example of R306). -/
theorem test_bsel_example :
    (State.reset.setWord selAddr 0x00035801).selector = some 0x00035801 ∧
    ((State.reset.setWord selAddr 0x00035801).selWrite 0).map (fun s => s.selector) = some (some 0x00045E00) := by decide +kernel

/-- The step word 0xE221_4000_0002_8000: WAITEV, COND 17, TGT 40 (the example of Table 6-8). -/
theorem test_step_word_example :
    let w := readStep 0x00028000 0xE2214000
    w.op = 0x38 ∧ w.cond = 17 ∧ w.tgt = 40 ∧ w.imm = 0x00028000 ∧ w.listed = true := by decide +kernel

/-- LINK_STATUS 0x14 with 4 written reads 0x10 (the example of R6's section). -/
theorem test_w1c_example :
    let s := (State.reset.setReg Reg.LINK_STATUS 0x14).regWrite Reg.LINK_STATUS 4
    s.reg Reg.LINK_STATUS = 0x10 := by decide +kernel

/-! ### One step -/

/-- The state that an outcome answers. -/
def Tests.after : Host.Outcome State Fault Refusal → Option State
  | .next u => some u
  | _ => none

/-- A step takes the front command, runs it, and leaves the rest; an empty queue idles. -/
theorem test_step_queue :
    Tests.after (step State.reset) = some State.reset ∧
    (Tests.after (step { State.reset with pending := [.groupHold 2, .cancelset] })).map (fun u => (u.reg Reg.ENV_GHOLD_SET, u.pending)) =
      some (2, [.cancelset]) := by decide +kernel

/-- A word stored through the bus stands in memory with its low byte first, and the time is the access's. -/
theorem test_store :
    (Tests.after (exec (.memoryAccess .core0 .store .w32 0x20000010 0x11223344 .clean 40) State.reset)).map
      (fun u => (u.byte 0x20000010, u.byte 0x20000013, u.byte 0x20000014, u.now)) = some (0x44, 0x11, State.reset.byte 0x20000014, 40) := by decide +kernel

/-- A stored word is loaded, by the debug module, whose accesses see no cache. -/
theorem test_load :
    (Tests.after (exec (.memoryAccess .debug .load .w32 0x20000010 0 .clean 80) (State.reset.setWord 0x20000010 0x11223344))).map
      (fun u => u.dbg.resp) = some (.data 0x11223344) := by decide +kernel

/-- Compressed instructions of the RISC-V specification: `c.nop`, `c.li a0, -1`, `c.mv a0, a1`, `c.lw a0, 4(a0)`, `c.j 0`, `c.ebreak`, and the
halfword 0, which is illegal. -/
theorem test_expand :
    [0x0001, 0x557D, 0x852E, 0x4148, 0xA001, 0x9002, 0].map expand =
      [0x00000013, 0xFFF00513, 0x00B00533, 0x00452503, 0x0000006F, 0x00100073, 0] := by decide +kernel

/-- The program buffer runs `mul x3, x1, x2` with 7 and −3, then `ebreak`. -/
theorem test_program_buffer_multiplies :
    let h := (Hart.reset.gprPut 1 7).gprPut 2 0xFFFFFFFD
    let s : State := { State.reset with core0 := { Core.reset with halted := true, hart := h }, dbg := { State.reset.dbg with progbuf := [0x022081B3, 0x00100073] } }
    let u := s.bufRun .c0 6 s.dbg.parcels
    (u.core0.hart.gpr 3, u.dbg.cmderr, u.core0.hart.minstret) = (0xFFFFFFEB, 0, 1) := by decide +kernel

/-- The `nop` of a single step retires, and the hart is back in debug mode with cause 4 and its pc in `dpc`. -/
theorem test_single_step :
    let h := { Hart.reset with pc := 0x20000000, dcsr := 0x40000007 }
    let s : State := { State.reset with core0 := { Core.reset with halted := true, hart := h } }
    let u := (s.insn .c0 false 4 0x00000013).2.stepEnd .c0 4 (s.insn .c0 false 4 0x00000013).1
    (u.core0.halted, u.core0.hart.dpc, bitsOf u.core0.hart.dcsr 6 3, u.core0.hart.minstret) = (true, 0x20000004, 4, 1) := by decide +kernel

/-- Two pins' outputs on one line, both edges at one time: the toggle task runs once and one merge counts (R314). -/
theorem test_events_of_one_instant_merge :
    let s : State := { State.reset with regs := [(Reg.EVL_LINECFG 56, 0x000000AA), (Reg.EVL_PUBCFG 21, 56), (Reg.EVL_PUBCFG 22, 56), (Reg.GPIO_CFG 2, 8),
      (Reg.GPIO_CFG 5, 0x200), (Reg.GPIO_CFG 6, 0x200)] }
    let twice := fun (t : Nat) => ((Tests.after (execGpioEdge 5 true 40 s)).bind fun u => Tests.after (execGpioEdge 6 true t u)).map
      fun u => (u.get (gpioBit 2), u.get (Reg.EVL_COAL_COUNT 56))
    twice 40 = some (1, 1) ∧ twice 41 = some (0, 0) := by decide +kernel

/-- At 64 MHz/16 = 4 Mbit/s a character of 10 bits takes 2.5 µs; the last waits for UART_TX_IDLE. -/
theorem test_uart_drains :
    let s : State := { State.reset with regs := [(Reg.UART_BAUD 0, 256), (Reg.UART_CTL 0, 1)], uart0 := ⟨[], [1, 2, 3], 0⟩ }
    ((s.at_ 99).uart0.tx, (s.at_ 100).uart0.tx, (s.at_ 1000).uart0.tx) = ([1, 2, 3], [2, 3], [3]) := by decide +kernel

/-! ### Witnesses: states and operands that meet the hypotheses of each statement -/

theorem witness_StepRunsTheFrontCommand :
    ({ State.reset with pending := [.setevc, .rxdone] } : State).pending = .setevc :: [.rxdone] := rfl

theorem witness_QueueRunsFirstInFirstOut_first : State.reset.pending = [] := rfl

theorem witness_QueueRunsFirstInFirstOut : ∃ t, exec .cancelset State.reset = .next t := ⟨_, rfl⟩

theorem witness_StepKeepsTheCanonicalForm :
    State.reset.canonical ∧ ∃ t, step { State.reset with pending := [.memoryAccess .core0 .store .w32 0x20000000 1 .clean 40] } = .next t := by
  refine ⟨⟨?_, ?_, ?_, ?_, ?_, ?_, ?_, ?_⟩, _, rfl⟩ <;> exact ⟨by decide, by decide⟩

theorem witness_EveryStepKeepsTheModeLegal : State.reset.legalMode := ⟨by decide, by decide, by decide, by decide, by decide⟩

theorem witness_ColdCausesStartTheDeviceCold : State.reset.canonical ∧ State.reset.flc.op = none := by
  refine ⟨⟨?_, ?_, ?_, ?_, ?_, ?_, ?_, ?_⟩, rfl⟩ <;> exact Swf_nil _

theorem witness_WarmCausesStartTheDeviceWarm :
    let s : State := { State.reset with start := { Start.reset with safe := true } }
    s.start.busy = false ∧ s.start.safe = true ∧ s.Calm ∧ s.flc.op = none ∧ s.memc.test = none ∧ s.link.thru = [] ∧
      (∀ k, (s.lane k).cur = none) ∧ s.upd.phase = .idle ∧ s.upd.doing = none ∧ s.ldr.phase = .idle := by
  refine ⟨rfl, rfl, ⟨⟨?_, ?_, ?_, ?_, ?_, ?_, ?_, ?_⟩, ⟨rfl, by decide, rfl, .inl rfl, rfl, rfl, rfl, rfl, rfl, rfl⟩, rfl⟩, rfl, rfl, rfl, fun _ => rfl, rfl, rfl, rfl⟩ <;>
    exact Swf_nil _

theorem witness_WarmCausesStartTheDeviceWarm_absorbed :
    let s : State := { State.reset with now := 40, start := { Start.reset with busy := true } }
    s.start.busy = true ∧ s.now ≠ s.start.began := by decide

theorem witness_RipcordCausesFreezeTheSnapshot :
    let s : State := { State.reset with wdt0 := ⟨36000000, false, none⟩ }
    let v := (s.put (Reg.WDT_CTL_TO 0) 1000 |>.put (Reg.WDT_CTL_EN 0) 1).at_ 0
    v.start.busy = false ∧ v.start.safe = false ∧ (v.core .c0).run = .running ∧ (v.core .c0).halted = false ∧
      v.flag (Reg.WDT_CTL_EN (coreNum .c0)) = true ∧ 36000 * max 1 (v.get (Reg.WDT_CTL_TO (coreNum .c0))) ≤ (v.wdt (coreNum .c0)).ticks := by
  decide +kernel

theorem witness_RipcordCausesFreezeTheSnapshot_kick :
    let s : State := { State.reset with wdt1 := ⟨0, false, some (0, 36000)⟩, start := { Start.reset with safe := true } }
    let v := ((s.put (Reg.WDT_CTL_TO 1) 1).put (Reg.WDT_CTL_EN 1) 1).at_ 0
    v.start.safe = true ∧ (v.wdt (coreNum .c1)).kick = some (v.now, 36000) ∧
      36000 * max 1 (v.get (Reg.WDT_CTL_TO (coreNum .c1))) ≤ 36000 ∧ (v.core .c1).run ≠ .running := by
  decide +kernel

theorem witness_CoreResetsRestartOneCore :
    let s := State.reset.put Reg.SYS_C1CTL_RUN 1
    s.start.busy = false ∧ s.awake = true ∧ s.quiesced 2 = false ∧ s.flag Reg.SYS_C1CTL_RUN = true ∧
      State.reset.flag Reg.SYS_C1CTL_RUN = false := by decide +kernel

theorem witness_StartStepsEnd_safe :
    let v := ({ State.reset with start := { Start.reset with busy := true, cold := false, toSafe := true } } : State).at_ 40
    v.canonical ∧ v.start.busy = true ∧ v.start.cold = false ∧ v.start.toSafe = true ∧ v.flag Reg.FLC_CTL_GUARD = false ∧ v.upd.guard = [] := by
  refine ⟨⟨?_, ?_, ?_, ?_, ?_, ?_, ?_, ?_⟩, rfl, rfl, rfl, by decide +kernel, rfl⟩ <;> exact Swf_nil _

theorem witness_StartStepsEnd_cold :
    let v := ({ State.reset with start := { Start.reset with busy := true } } : State).at_ 40
    v.canonical ∧ v.start.busy = true ∧ v.start.toSafe = false ∧ (State.reset.at_ 40).start.busy = false := by
  refine ⟨⟨?_, ?_, ?_, ?_, ?_, ?_, ?_, ?_⟩, rfl, rfl, rfl⟩ <;> exact Swf_nil _

theorem witness_StartStepsEnd_boots :
    let s : State := { State.reset with start := { Start.reset with busy := true, cold := false } }
    let l : State := { s with mem := [⟨0x2207D004, 6⟩] }
    let f : ColdFindings := ⟨0, [], [], [], []⟩
    ((s.at_ 0).warmErrors f).bootSteps.1 = false ∧ ((l.at_ 0).warmErrors f).bootSteps.1 = true ∧ (l.at_ 0).start.toSafe = false ∧
      (l.at_ 0).start.busy = true ∧ (l.at_ 0).canonical := by
  refine ⟨by decide +kernel, by decide +kernel, rfl, rfl, ?_, ?_, ?_, ?_, ?_, ?_, ?_, ?_⟩
  · decide
  all_goals exact Swf_nil _

theorem witness_StartStepsEnd :
    let s : State := { State.reset with start := { Start.reset with rxbusy := true, rcalT := true } }
    s.Quiet ∧ s.start.rxbusy = true ∧ (s.at_ 0).Quiet ∧ (s.at_ 0).start.rcalT = true ∧ s.start.nbrKept = false ∧
      (State.reset.at_ 0).start.rcalT = false := by
  refine ⟨⟨rfl, by decide, rfl, .inl rfl, rfl, rfl, rfl, rfl, rfl, rfl⟩, rfl, ⟨rfl, by decide, rfl, .inl rfl, rfl, rfl, rfl, rfl, rfl, rfl⟩,
    rfl, rfl, rfl⟩

theorem witness_WatchdogsReloadAndWarn :
    let s : State := { State.reset with wdt0 := ⟨18000, false, none⟩, wdt1 := ⟨18000, false, none⟩ }
    let w := (s.put (Reg.WDT_CTL_TO 0) 1).put (Reg.WDT_CTL_EN 0) 1
    let v := ((w.put (Reg.WDT_CTL_TO 1) 1).put (Reg.WDT_CTL_EN 1) 1).at_ 0
    State.reset.awake = true ∧ v.Quiet ∧ (∀ c, v.flag (Reg.WDT_CTL_EN (coreNum c)) = true ∧ (v.wdt (coreNum c)).half = false ∧
      18000 * max 1 (v.get (Reg.WDT_CTL_TO (coreNum c))) ≤ (v.wdt (coreNum c)).ticks) ∧
      (State.reset.at_ 0).flag (Reg.WDT_CTL_EN 0) = false := by
  refine ⟨rfl, ⟨rfl, by decide +kernel, rfl, .inl rfl, rfl, rfl, rfl, rfl, rfl, rfl⟩, ?_, by decide +kernel⟩
  intro c
  cases c <;> decide +kernel

theorem witness_BootGoodCore1AndBackupReset :
    State.reset.canonical ∧ State.reset.start.safe = false ∧ State.reset.Quiet ∧ State.reset.core0.run = .running ∧
      State.reset.flag Reg.SYS_C1CTL_RUN = false ∧
      (let s := State.reset.put Reg.SYS_C1CTL_RUN 1
       s.canonical ∧ s.Quiet ∧ s.core0.run = .running ∧ s.flag Reg.SYS_C1CTL_RUN = true) := by
  refine ⟨⟨?_, ?_, ?_, ?_, ?_, ?_, ?_, ?_⟩, rfl, ⟨rfl, by decide, rfl, .inl rfl, rfl, rfl, rfl, rfl, rfl, rfl⟩, rfl, by decide,
    ⟨?_, ?_, ?_, ?_, ?_, ?_, ?_, ?_⟩, ⟨rfl, by decide +kernel, rfl, .inl rfl, rfl, rfl, rfl, rfl, rfl, rfl⟩, rfl, by decide +kernel⟩ <;>
    first | exact Swf_nil _ | exact State.put_Swf _ (Swf_nil _) _ _

theorem witness_CoreCachesAndCsrs :
    (State.reset.at_ 100).Quiet ∧ (State.reset.core .c0).active = true ∧ (State.reset.core .c1).active = false ∧ (0x500 ≤ (0x7FF : BitVec 12).toNat ∧ (0x7FF : BitVec 12).toNat / 64 % 4 = 3) :=
  ⟨⟨rfl, by decide, rfl, .inl rfl, rfl, rfl, rfl, rfl, rfl, rfl⟩, rfl, rfl, by decide⟩

theorem witness_DebugAndWfi :
    let s : State := { State.reset with dbg := { Debug.reset with dmactive := true } }
    let h : State := { s with core0 := { s.core0 with halted := true } }
    s.Quiet ∧ s.dbg.dmactive = true ∧ (s.core .c0).run ≠ .held ∧ (s.core .c0).halted = false ∧ (s.core .c1).run = .held ∧
      h.Quiet ∧ (h.core .c0).halted = true ∧ (h.core .c0).wait = none ∧ bitOf (h.core .c0).hart.dcsr 2 = false ∧ h.start.dump = none ∧ State.reset.Quiet ∧ State.reset.dbg.dmactive = false :=
  ⟨⟨rfl, by decide, rfl, .inl rfl, rfl, rfl, rfl, rfl, rfl, rfl⟩, rfl, by decide, rfl, rfl,
    ⟨rfl, by decide, rfl, .inl rfl, rfl, rfl, rfl, rfl, rfl, rfl⟩, rfl, rfl, by decide, rfl, ⟨rfl, by decide, rfl, .inl rfl, rfl, rfl, rfl, rfl, rfl, rfl⟩, rfl⟩

theorem witness_DebugAndWfi_wfi :
    let v := State.reset.at_ 0
    let w := ({ (State.reset.put (Reg.ICOL_CTL_EN 0) 1) with
      icol0 := { Icol.reset with recs := [⟨3, 0, 5, false⟩] } } : State).at_ 0
    v.Quiet ∧ (v.core .c0).run = .running ∧ (v.core .c0).halted = false ∧ v.eligible .c0 = [] ∧
      (v.pwr.cmd = none ∧ v.flag Reg.PWR_SLEEPCFG_EN = false) ∧ (v.core .c1).run ≠ .running ∧
      w.Quiet ∧ (w.core .c0).run = .running ∧ w.eligible .c0 ≠ [] ∧ w.get (Reg.ICOL_MOD_N (coreNum .c0)) = 0 := by
  refine ⟨⟨rfl, by decide, rfl, .inl rfl, rfl, rfl, rfl, rfl, rfl, rfl⟩, rfl, rfl, by decide +kernel, ⟨rfl, by decide +kernel⟩, by decide,
    ⟨rfl, by decide +kernel, rfl, .inl rfl, rfl, rfl, rfl, rfl, rfl, rfl⟩, rfl, by decide +kernel, by decide +kernel⟩

theorem witness_DisallowedAccessesFault :
    let v := State.reset.at_ 0
    v.Quiet ∧ (v.core .c0).active = true ∧ (v.core .c1).active = false ∧ v.agentTrig .core1 .load 0x20000001 = none ∧
      region (0x08000000 : Word).toNat = .hole ∧ region (0x20000001 : Word).toNat = .sram ∧ (0x20000001 : Word).toNat % widthBytes .w32 ≠ 0 ∧
      region (0x21000000 : Word).toNat = .radio ∧ region (0x10000000 : Word).toNat = .flash ∧ region (0x4001CFFC : Word).toNat = .periph ∧
      (let p := ({ State.reset with core0 := { State.reset.core0 with
        hart := { Hart.reset with user := true } } } : State).at_ 0
       p.Quiet ∧ p.agentTrig .core0 .load 0x20000000 = none ∧ p.agentPmp .core0 .load 0x20000000 4 = false) :=
  ⟨⟨rfl, by decide, rfl, .inl rfl, rfl, rfl, rfl, rfl, rfl, rfl⟩, rfl, rfl, by decide +kernel, by decide, by decide, by decide, by decide, by decide, by decide,
    ⟨rfl, by decide, rfl, .inl rfl, rfl, rfl, rfl, rfl, rfl, rfl⟩, by decide +kernel, by decide +kernel⟩

theorem witness_MemoryStoresAndLoads :
    let v := State.reset.at_ 0
    v.canonical ∧ v.Quiet ∧ (0x2101FFFE : Word).toNat % widthBytes .w16 = 0 ∧
      (∀ b, bankOf (0x2101FFFE : Word).toNat = some b → v.bank b = .on ∧ v.bankBad b = false) ∧
      (0x2207F3FC : Word).toNat % widthBytes .w32 = 0 ∧ v.nvBad 0x2207F3FC = false ∧ v.txqOver = false ∧
      (∀ k, v.agentTrig .core0 k 0x2101FFFE = none ∧ v.agentPmp .core0 k 0x2101FFFE 2 = true) ∧
      v.cached .host .load 0x2101FFFE 2 = none := by
  refine ⟨⟨?_, ?_, ?_, ?_, ?_, ?_, ?_, ?_⟩, ⟨rfl, by decide, rfl, .inl rfl, rfl, rfl, rfl, rfl, rfl, rfl⟩, by decide, ?_, by decide, by decide,
    by decide +kernel, ?_, by rfl⟩
  all_goals first | exact Swf_nil _ | skip
  · intro b hb
    have : b = 17 := by
      have h : bankOf (0x2101FFFE : Word).toNat = some 17 := by decide
      rw [h] at hb; cases hb; rfl
    subst this
    exact ⟨by decide, by decide +kernel⟩
  · intro k
    cases k <;> exact ⟨by decide +kernel, by decide +kernel⟩

theorem witness_StepMemoryStoresNeedAStoppedEngine :
    let s := State.reset.setEng 16 { Engine.reset with run := true }
    s.canonical ∧ s.Quiet ∧ (s.at_ 0).canonical ∧ (s.at_ 0).Quiet ∧ (s.eng 0).run = false ∧ (s.eng 16).run = true ∧ s.loading 0 = false ∧
      s.agentTrig .core1 .store 0x30000000 = none ∧ s.agentPmp .core1 .store 0x30021FFC 4 = true ∧
      (0x30021FFC : Word).toNat % 4 = 0 ∧ (0x30021FFC : Word).toNat < 0x30022000 := by
  refine ⟨⟨?_, ?_, ?_, ?_, ?_, ?_, ?_, ?_⟩, ⟨rfl, by decide, rfl, .inl rfl, rfl, rfl, rfl, rfl, rfl, rfl⟩,
    ⟨?_, ?_, ?_, ?_, ?_, ?_, ?_, ?_⟩, ⟨rfl, by decide, rfl, .inl rfl, rfl, rfl, rfl, rfl, rfl, rfl⟩, ?_, ?_, ?_, ?_, ?_, ?_, ?_⟩ <;>
    first | exact Swf_nil _ | exact Swf_sput (Swf_nil _) _ _ | decide +kernel

theorem witness_StepMemoryStoresNeedAStoppedEngine_load :
    let s : State := { State.reset with ldr := { Loader.reset with phase := .copy, eng := 3 } }
    s.Quiet ∧ s.loading 3 = true := ⟨⟨rfl, by decide, rfl, .inl rfl, rfl, rfl, rfl, rfl, rfl, rfl⟩, by decide⟩

theorem witness_RegisterWritesAndBoundaries_first :
    State.reset.canonical ∧ State.reset.Quiet ∧ (State.reset.rfe.st = .off ∧ State.reset.flag Reg.RFE_CTL_EN = false) ∧
      (State.reset.eng 15).run = false ∧ (State.reset.flag Reg.CIPH_CTL_EN = false ∧ State.reset.ciph.cur = none) := by
  refine ⟨⟨?_, ?_, ?_, ?_, ?_, ?_, ?_, ?_⟩, ⟨rfl, by decide, rfl, .inl rfl, rfl, rfl, rfl, rfl, rfl, rfl⟩, ?_, ?_, ?_⟩ <;> first | exact Swf_nil _ | decide

theorem witness_RegisterWritesAndBoundaries :
    let v := (({ State.reset with waits := [⟨Reg.ENV_GCFG 3, 0xFF, 7⟩, ⟨Reg.ENV_GCFG 3, 0xFF, 1⟩], armed := [(Reg.ENV_GCFG 3, 0x80000)] } : State).setReg
      Reg.CFG_PEND 8).at_ 0
    let w := ({ State.reset with waits := [⟨Reg.COEX_CTL, 1, 1⟩, ⟨Reg.COEX_CTL + 4, 1, 1⟩] } : State).at_ 0
    let l := ({ State.reset with waits := [⟨Reg.LINK_PARENT, 1, 1⟩] } : State).at_ 0
    let m := (({ State.reset with armed := [(Reg.ENV_NFCFG, 1)], env := { Env.reset with st := .run } } : State).setReg Reg.CFG_PEND 0x20000).at_ 0
    let q := fun x : State => (({ x with waits := [], armed := [] } : State).setReg Reg.CFG_PEND 0).Quiet
    (v.canonical ∧ q v ∧ v.pend = (1 : Word) <<< 3 ∧ v.atBoundary 3 = true ∧ v.cfg.lag = [] ∧ (v.lane 31).st = .off ∧
      unitOf (Reg.ENV_GCFG 3) = 3 ∧ sMask (Reg.ENV_GCFG 3) ≠ 0 ∧ ((regRow? (Reg.ENV_GCFG 3)).map RegRow.rwL).getD 0 ≠ 0) ∧
    (w.canonical ∧ q w ∧ w.pend = 0 ∧ w.atBoundary 19 = true) ∧ (l.canonical ∧ q l ∧ unitOf Reg.LINK_PARENT = 18) ∧
    m.canonical ∧ q m ∧ m.pend = (1 : Word) <<< 17 ∧ m.env.st ≠ .survey ∧ m.atBoundary 17 = false ∧ unitOf Reg.ENV_NFCFG = 17 := by
  refine ⟨⟨⟨?_, ?_, ?_, ?_, ?_, ?_, ?_, ?_⟩, ⟨rfl, ?_, rfl, .inl rfl, rfl, rfl, rfl, rfl, rfl, rfl⟩, ?_, ?_, rfl, ?_, ?_, ?_, ?_⟩,
    ⟨⟨?_, ?_, ?_, ?_, ?_, ?_, ?_, ?_⟩, ⟨rfl, ?_, rfl, .inl rfl, rfl, rfl, rfl, rfl, rfl, rfl⟩, ?_, ?_⟩,
    ⟨⟨?_, ?_, ?_, ?_, ?_, ?_, ?_, ?_⟩, ⟨rfl, ?_, rfl, .inl rfl, rfl, rfl, rfl, rfl, rfl, rfl⟩, ?_⟩,
    ⟨?_, ?_, ?_, ?_, ?_, ?_, ?_, ?_⟩, ⟨rfl, ?_, rfl, .inr (by decide +kernel), rfl, rfl, rfl, rfl, rfl, rfl⟩, ?_, ?_, ?_, ?_⟩ <;>
    first | exact Swf_nil _ | decide +kernel

theorem witness_EpochSwitchesAndDigests_first :
    let s : State := { State.reset with shadow := [(Reg.LINK_PPM, 5)] }
    let w := State.reset.setReg Reg.CFG_PEND 0x40000
    s.canonical ∧ s.Quiet ∧ (s.shadowDiff = [(Reg.LINK_PPM, 5)]) ∧ unitOf Reg.LINK_PPM = 18 ∧
      w.reg Reg.CFG_PEND = 0x40000 ∧ (w.setReg Reg.CFG_PEND 0).Quiet ∧
      (let h := ({ s with
         shadow := [(Reg.ENV_GCFG 2, 0x30000)]
         armed := [(Reg.ENV_GCFG 2, 0x20000)]
         cfg := { s.cfg with held := some true } } : State).setReg Reg.CFG_PEND 4
       let v := h.at_ 0
       v.canonical ∧ v.waits = [] ∧ v.cfg.held = some true ∧ v.pend = (1 : Word) <<< 2 ∧
         (({ v with armed := [], cfg := { v.cfg with held := none } } : State).setReg Reg.CFG_PEND 0).Quiet ∧
         v.shadowDiff = [(Reg.ENV_GCFG 2, 0x30000)] ∧ unitOf (Reg.ENV_GCFG 2) = 2 ∧ sMask (Reg.ENV_GCFG 2) ≠ 0 ∧ v.atBoundary 2 = true) := by
  refine ⟨⟨?_, ?_, ?_, ?_, ?_, ?_, ?_, ?_⟩, ⟨rfl, by decide, rfl, .inl rfl, rfl, rfl, rfl, rfl, rfl, rfl⟩, by decide +kernel, by decide, by decide +kernel,
    ⟨rfl, by decide +kernel, rfl, .inl rfl, rfl, rfl, rfl, rfl, rfl, rfl⟩, ⟨?_, ?_, ?_, ?_, ?_, ?_, ?_, ?_⟩, rfl, rfl, ?_,
    ⟨rfl, ?_, rfl, .inl rfl, rfl, rfl, rfl, rfl, rfl, rfl⟩, ?_, ?_, ?_, ?_⟩ <;>
    first | exact Swf_nil _ | exact ⟨by decide, by decide +kernel⟩ | decide +kernel

theorem witness_EpochSwitchesAndDigests :
    let v := (({ State.reset with now := 8000000 } : State).setReg Reg.CFG_PEND 0x40000).at_ 8000000
    v.reg Reg.CFG_PEND = 0x40000 ∧ (v.setReg Reg.CFG_PEND 0).Quiet ∧ v.canonical ∧ v.flag Reg.CFG_STATUS_STUCK = false ∧
      v.cfg.mixedAt + 40000 * max 1 (v.get Reg.CFG_LAGLIM_MS) < v.now := by
  refine ⟨by decide +kernel, ⟨rfl, by decide +kernel, rfl, .inl rfl, rfl, rfl, rfl, rfl, rfl, rfl⟩, ⟨?_, ?_, ?_, ?_, ?_, ?_, ?_, ?_⟩,
    by decide +kernel, by decide +kernel⟩ <;> first | exact Swf_nil _ | exact ⟨by decide, by decide +kernel⟩

theorem witness_RfeStartsAndCalibrates :
    let r := fun (x : RfeSt) (c : Option (Nat × Bool)) (b : BgCal) => ({ State.reset with rfe := { Rfe.reset with st := x, calib := c, bg := b } } : State).at_ 0
    (r .starting none .none).Quiet ∧ (r .starting none .none).canonical ∧ (r .starting none .none).flag Reg.RFE_SPCTL_EN = false ∧
      (r .idle none .none).unusable? = some 0 ∧ (r .cal (some (3, true)) (.all 4)).rfe.calib = some (3, true) ∧
      (r .starting none .none).flag Reg.RFE_CALCTL_AUTO = true ∧
      ((r .idle none .none).put Reg.RFE_CALCTL_AUTO 0).flag Reg.RFE_CALCTL_AUTO = false := by
  refine ⟨⟨rfl, by decide, rfl, .inl rfl, rfl, rfl, rfl, rfl, rfl, rfl⟩, ⟨?_, ?_, ?_, ?_, ?_, ?_, ?_, ?_⟩, by decide +kernel, by decide +kernel, rfl,
    by decide +kernel, by decide +kernel⟩ <;> exact Swf_nil _

theorem witness_TransmitClaimsAndLocks :
    let tx : Tx := ⟨.ack 0 0, 2000, 0, false, 0, 0, true, 0, 5, false, [], 0, 0, none, none, [], 100⟩
    let b : State := { State.reset with tb := { Tbase.reset with src := .xtal }, regs := [(Reg.RFE_CTL, 1), (Reg.RFE_CALTAB 5, 0x80000000)] }
    let w := ({ b with rfe := { Rfe.reset with st := .idle, waiting := [tx] } } : State).at_ 1000
    let h := ({ b with rfe := { Rfe.reset with st := .locking, forTx := true, holder := some tx } } : State).at_ 1000
    w.canonical ∧ w.Quiet ∧ w.tb.src = .xtal ∧ w.flag Reg.RFE_SPCTL_EN = false ∧ w.rfe.waiting = [tx] ∧ w.flag Reg.RFE_CTL_EN = true ∧
      tx.due ≤ w.now + 1280 ∧ w.now < tx.due + 40 * tx.tol - 320 ∧
      h.Quiet ∧ h.rfe.holder = some tx ∧ h.now ≤ tx.due + 40 * tx.tol - 320 := by
  refine ⟨⟨?_, ?_, ?_, ?_, ?_, ?_, ?_, ?_⟩, ⟨rfl, by decide +kernel, rfl, .inl rfl, rfl, rfl, rfl, rfl, rfl, rfl⟩, rfl, by decide +kernel, rfl,
    by decide +kernel, by decide, by decide, ⟨rfl, by decide +kernel, rfl, .inl rfl, rfl, rfl, rfl, rfl, rfl, rfl⟩, rfl, by decide⟩ <;>
    first | exact Swf_nil _ | exact ⟨by decide, by decide +kernel⟩

theorem witness_TransmitClaimsAndLocks_single :
    let v := ({ State.reset with
      tb := { Tbase.reset with src := .xtal }
      regs := [(Reg.RFE_SPCTL, fset (regReset Reg.RFE_SPCTL) Reg.RFE_SPCTL_EN 1)]
      rfe := { Rfe.reset with st := .locking, tune := some 5 } } : State).at_ 1000
    v.canonical ∧ v.Quiet ∧ v.tb.src = .xtal ∧ v.rfe.holder = none ∧ v.rfe.st = .locking ∧ v.spMay = true := by
  refine ⟨⟨?_, ?_, ?_, ?_, ?_, ?_, ?_, ?_⟩, ⟨rfl, by decide +kernel, rfl, .inl rfl, rfl, rfl, rfl, rfl, rfl, rfl⟩, rfl, rfl, rfl, by decide +kernel⟩ <;>
    first | exact Swf_nil _ | exact ⟨by decide, by decide +kernel⟩

theorem witness_TransmitGoesOnAir :
    let e : TxEntry := ⟨0, 1, [0, 0, 0, 0, 0, 0, 0, 0], 2000, 0, 16, 1, 0, false, true, true⟩
    let tx : Tx := ⟨.queue e 1 0, 2000, 0, false, 0, 0, true, 0, 5, false, [], 0, 0, some 1500, some 2000, [], 100⟩
    let st := fun (x : RfeSt) (n : Nat) =>
      ({ State.reset with
          tb := { Tbase.reset with src := .xtal }
          rfe := { Rfe.reset with st := x, holder := some tx, blank := true, blankEnd := some 9000, air := some ⟨2000, 0, 5, 0, 0, []⟩ } } : State).at_ n
    (st .txWait 1700).canonical ∧ (st .txWait 1700).Quiet ∧ (st .txWait 1700).tb.src = .xtal ∧
      (st .txWait 1700).flag Reg.COEX_CTL_EN = false ∧ tx.due ≤ (st .txWait 1700).now + 320 ∧ (st .txWait 1600).now + 320 < tx.due ∧
      (st .txTail 6160).Quiet ∧ (st .txTail 6160).rfe.air.isSome = true ∧ (st .txTail 6160).pins.vio = true ∧ 2000 + 40 * tx.air + 160 ≤ (st .txTail 6160).now ∧ tx.start = some 2000 ∧
      (((st .txWait 1700).put Reg.COEX_CTL_EN 1).at_ 1700).flag Reg.COEX_CTL_EN = true ∧ 9000 ≤ (st .idle 9000).now := by
  refine ⟨⟨?_, ?_, ?_, ?_, ?_, ?_, ?_, ?_⟩, ⟨rfl, by decide +kernel, rfl, .inl rfl, rfl, rfl, rfl, rfl, rfl, rfl⟩, rfl, by decide +kernel, by decide,
    by decide, ⟨rfl, by decide +kernel, rfl, .inl rfl, rfl, rfl, rfl, rfl, rfl, rfl⟩, rfl, rfl, by decide, rfl, by decide +kernel, by decide⟩ <;>
    exact Swf_nil _

theorem witness_CoexRevocationAndAckTurn :
    let tx : Tx := ⟨.ack 0 0, 2000, 0, false, 0, 0, true, 0, 5, false, [], 0, 0, some 1500, some 2000, [], 100⟩
    let f : Frame := ⟨0, 0, 5, 0, 0, 0, 0, some 0, 5, [0, 0, 0, 0, 0], 5, true, 5, true, 1000, true, 0, 0, ⟨0, []⟩, .requested, false, false, false, false⟩
    let b : State := { State.reset with
      tb := { Tbase.reset with src := .xtal }
      lanes := [(0, { Lane.reset with frames := [f] })]
      regs := [(Reg.RFE_CTL, 1), (Reg.RFE_CALTAB 5, 0x80000000)] }
    let v := b.at_ 1320
    let w := ({ b with
      rfe := { Rfe.reset with st := .tx, holder := some tx }
      regs := [(Reg.COEX_CTL, fset (fset (regReset Reg.COEX_CTL) Reg.COEX_CTL_EN 1) Reg.COEX_CTL_ABORT 1)] } : State).at_ 1320
    v.canonical ∧ v.Quiet ∧ v.flag Reg.RFE_SPCTL_EN = false ∧ (v.lane 0).frames = [f] ∧ f.tend + 320 = v.now ∧
      v.dwellRoom f.fmt f.chan (airtime f.fmt (3 + f.fcs)) = true ∧ (∀ j, j < 0 → v.commitOf j = none) ∧ v.tb.src = .xtal ∧
      w.Quiet ∧ w.rfe.holder = some tx ∧ w.flag Reg.COEX_CTL_EN = true ∧ w.flag Reg.COEX_CTL_ABORT = true ∧ w.pins.vio = true ∧
      (let c := ({ b with rfe := { Rfe.reset with st := .txTail, holder := some tx, blankEnd := some 2120 } } : State).at_ 1320
       c.Quiet ∧ c.rfe.holder = some tx ∧ c.rfe.st = .txTail ∧ c.rfe.air = none ∧ 2120 ≤ c.now + 800) := by
  refine ⟨⟨?_, ?_, ?_, ?_, ?_, ?_, ?_, ?_⟩, ⟨rfl, by decide +kernel, rfl, .inl rfl, rfl, rfl, rfl, rfl, rfl, rfl⟩, ?_, ?_, ?_, ?_, ?_, ?_,
    ⟨rfl, by decide +kernel, rfl, .inl rfl, rfl, rfl, rfl, rfl, rfl, rfl⟩, rfl, ?_, ?_, rfl,
    ⟨rfl, by decide +kernel, rfl, .inl rfl, rfl, rfl, rfl, rfl, rfl, rfl⟩, rfl, rfl, rfl, ?_⟩ <;>
    first | exact Swf_nil _ | decide +kernel

theorem witness_CountReadsClear : State.reset.Calm ∧ (127 < 128 ∧ 95 < 96) :=
  ⟨⟨⟨by decide +kernel, by decide +kernel, by decide +kernel, by decide +kernel, by decide +kernel, by decide +kernel, by decide +kernel, by decide +kernel⟩, ⟨rfl, by decide +kernel, rfl, .inr (by decide +kernel), rfl, rfl, rfl, rfl, rfl, rfl⟩, rfl⟩, by decide⟩

theorem witness_TimeReadsLatchTheRest : State.reset.Calm ∧ (State.reset.at_ 0).Calm := ⟨⟨⟨by decide +kernel, by decide +kernel, by decide +kernel, by decide +kernel, by decide +kernel, by decide +kernel, by decide +kernel, by decide +kernel⟩, ⟨rfl, by decide +kernel, rfl, .inr (by decide +kernel), rfl, rfl, rfl, rfl, rfl, rfl⟩, rfl⟩, ⟨⟨by decide +kernel, by decide +kernel, by decide +kernel, by decide +kernel, by decide +kernel, by decide +kernel, by decide +kernel, by decide +kernel⟩, ⟨rfl, by decide +kernel, rfl, .inr (by decide +kernel), rfl, rfl, rfl, rfl, rfl, rfl⟩, rfl⟩⟩

theorem witness_EnvelopeStartsAndStops :
    let e : EnvSt → Bool → State := fun x w =>
      ({ State.reset with tb := { Tbase.reset with src := .xtal, pll := true }, env := { Env.reset with st := x, survWait := w } } : State).at_ 0
    State.reset.Calm ∧ (State.reset.armed = [] ∧ State.reset.flag Reg.RFE_SPCTL_EN = false ∧ State.reset.flag Reg.ENV_CTL_EN = false) ∧
      (e .xwait false).Calm ∧ ((e .xwait false).tb.src = TbSrc.xtal ∧ (e .xwait false).tb.pll = true) ∧
      (e .starting false).Calm ∧ ((e .starting false).start.rxbusy = false ∧ (e .starting false).inSpan 15 = true ∧
        (e .starting false).held 15 = false ∧ ((e .starting false).eng 15).run = false) ∧
      (e .run true).Calm ∧ ((e .run true).lanesOff = true ∧ (e .run true).env.interval = (e .run true).now) ∧ (e .stopping false).Calm ∧
      ((({ State.reset with engs := [(3, ⟨true, false, false, 0⟩)] } : State).at_ 0).eng 3).run = true := by
  refine ⟨⟨⟨by decide +kernel, by decide +kernel, by decide +kernel, by decide +kernel, by decide +kernel, by decide +kernel, by decide +kernel, by decide +kernel⟩, ⟨rfl, by decide +kernel, rfl, .inr (by decide +kernel), rfl, rfl, rfl, rfl, rfl, rfl⟩, rfl⟩, ⟨rfl, by decide, by decide⟩,
    ⟨⟨by decide +kernel, by decide +kernel, by decide +kernel, by decide +kernel, by decide +kernel, by decide +kernel, by decide +kernel, by decide +kernel⟩, ⟨rfl, by decide +kernel, rfl, .inr (by decide +kernel), rfl, rfl, rfl, rfl, rfl, rfl⟩, rfl⟩, ⟨rfl, rfl⟩,
    ⟨⟨by decide +kernel, by decide +kernel, by decide +kernel, by decide +kernel, by decide +kernel, by decide +kernel, by decide +kernel, by decide +kernel⟩, ⟨rfl, by decide +kernel, rfl, .inr (by decide +kernel), rfl, rfl, rfl, rfl, rfl, rfl⟩, rfl⟩, ⟨rfl, by decide +kernel, by decide +kernel, rfl⟩,
    ⟨⟨by decide +kernel, by decide +kernel, by decide +kernel, by decide +kernel, by decide +kernel, by decide +kernel, by decide +kernel, by decide +kernel⟩, ⟨rfl, by decide +kernel, rfl, .inr (by decide +kernel), rfl, rfl, rfl, rfl, rfl, rfl⟩, rfl⟩, ⟨rfl, rfl⟩,
    ⟨⟨by decide +kernel, by decide +kernel, by decide +kernel, by decide +kernel, by decide +kernel, by decide +kernel, by decide +kernel, by decide +kernel⟩, ⟨rfl, by decide +kernel, rfl, .inr (by decide +kernel), rfl, rfl, rfl, rfl, rfl, rfl⟩, rfl⟩, rfl⟩

theorem witness_NoiseFloorsAndSnapshots :
    let v := ({ State.reset with env := { Env.reset with st := .run, active := 1 } } : State).at_ 40000
    let w := ({ State.reset with env := { Env.reset with st := .survey, active := 1 }, regs := [(Reg.ENV_CTL, 3)] } : State).at_ 40000
    let p : ChanPow := ⟨127, List.replicate 16 (-400), []⟩
    v.Calm ∧ (v.armed = [] ∧ v.flag Reg.RFE_SPCTL_EN = false ∧ v.flag Reg.ENV_CTL_SURVEY = false ∧ v.env.active = 1) ∧
      (∀ k, (v.lane k).st ≠ .preamble ∧ (v.lane k).st ≠ .frame) ∧ (v.inSpan (127 / 8) = true ∧ p.chainA.min? = some (-400)) ∧
      w.Calm ∧ w.flag Reg.ENV_CTL_SURVEY = true ∧ w.env.interval + 40000 ≤ w.now ∧ w.get (Reg.EVL_LINECFG_SUB (w.outLine 1)) = 0 ∧
      w.txqOver = false ∧ (∀ b, b < 20 → w.bank b = .on ∧ w.bankBad b = false) ∧
      16 * w.get Reg.ENV_SVBASE_ADDR + 0x210 * ((w.reg Reg.ENV_SVSTAT).toNat % 2) = 0x2103BC00 := by
  refine ⟨⟨⟨by decide +kernel, by decide +kernel, by decide +kernel, by decide +kernel, by decide +kernel, by decide +kernel, by decide +kernel, by decide +kernel⟩, ⟨rfl, by decide +kernel, rfl, .inr (by decide +kernel), rfl, rfl, rfl, rfl, rfl, rfl⟩, rfl⟩, ⟨rfl, by decide, by decide, rfl⟩,
    fun k => ⟨by simp [State.lane, State.at_, State.advance, State.depositAll, State.reset, sget, Lane.reset],
      by simp [State.lane, State.at_, State.advance, State.depositAll, State.reset, sget, Lane.reset]⟩,
    ⟨by decide +kernel, by decide +kernel⟩, ⟨⟨by decide +kernel, by decide +kernel, by decide +kernel, by decide +kernel, by decide +kernel, by decide +kernel, by decide +kernel, by decide +kernel⟩, ⟨rfl, by decide +kernel, rfl, .inr (by decide +kernel), rfl, rfl, rfl, rfl, rfl, rfl⟩, rfl⟩,
    by decide +kernel, by decide, by decide +kernel, by decide +kernel, by decide +kernel, by decide +kernel⟩

theorem witness_LanesDetectAndChoose :
    let b : LaneSt → State := fun x => ({ State.reset with
      env := { Env.reset with st := .run, active := 3 }
      tb := { Tbase.reset with src := .xtal, pll := true }
      lanes := [(127, { Lane.reset with st := x }), (128, { Lane.reset with st := x })] } : State).at_ 12000
    (b .hunt).Calm ∧ ((b .hunt).lane 127).st = .hunt ∧ ((b .hunt).lane 128).st = .hunt ∧ (b .hunt).noBuf 127 = false ∧
      (b .hunt).noBuf 128 = false ∧ (b .hunt).tb.src = .xtal ∧ (b .hunt).tb.pll = true ∧ (b .hunt).txqOver = false ∧
      ((b .hunt).lane 127).since + 2 * 2560 ≤ (b .hunt).now ∧ (b .hunt).env.active.testBit 1 = true ∧ (b .hunt).get (Reg.ENV_GCFG_PTHR (127 / 8)) ≤ 255 ∧
      ((b .preamble).lane 127).st = .preamble ∧ ((b .preamble).lane 127).chain = none ∧
      ((b .preamble).lane 127).frames.find? Frame.open_ = none ∧ ((b .preamble).lane 127).since + 4 * 2560 ≤ (b .preamble).now := by
  refine ⟨⟨⟨by decide +kernel, by decide +kernel, by decide +kernel, by decide +kernel, by decide +kernel, by decide +kernel, by decide +kernel, by decide +kernel⟩, ⟨rfl, by decide +kernel, rfl, .inr (by decide +kernel), rfl, rfl, rfl, rfl, rfl, rfl⟩, rfl⟩, ?_⟩
  decide +kernel

theorem witness_FramesArriveAndEnd :
    let f : Frame := ⟨0, 0, 5, 0, 0, 0, 0, none, 0, [], 0, false, 0, false, 0, false, 0, 0, ⟨0, []⟩, .none, false, false, false, false⟩
    let g : Frame := { f with phr := some 0x105, len := 5, psdu := [1, 0, 7, 0xAD, 0xB4] }
    let h : Frame := ⟨1, 1, 11, 1, 0, 0, 0, none, 0, [], 0, false, 0, false, 0, false, 0, 0, ⟨0, []⟩, .none, false, false, false, false⟩
    let b : Frame → Nat → State := fun f n => ({ State.reset with
      env := { Env.reset with st := .run, active := 1 }
      lanes := [(0, { Lane.reset with st := .frame, frames := [f] })] } : State).at_ n
    (b f 0).Calm ∧ (b f 0).txqOver = false ∧ ((b f 0).lane 0).frames = [f] ∧ phrValid 0 0x105 = true ∧ phrValid 0 0x102 = false ∧ phrValid 1 0x04 = false ∧
      ((b g 26000).lane 0).frames = [{ g with rxoct := 3 }] ∧ addrPoint [1, 0, 7] 5 2 ≤ 3 ∧
      ((b g 90000).lane 0).frames = [{ g with rxoct := 5 }] ∧ g.lastChip + 64 ≤ 90000 ∧ ((b h 0).lane 0).frames = [h] := by
  refine ⟨⟨⟨by decide +kernel, by decide +kernel, by decide +kernel, by decide +kernel, by decide +kernel, by decide +kernel, by decide +kernel, by decide +kernel⟩, ⟨rfl, by decide +kernel, rfl, .inr (by decide +kernel), rfl, rfl, rfl, rfl, rfl, rfl⟩, rfl⟩, ?_⟩
  decide +kernel

theorem witness_GroupsHoldStopAndStart :
    let s : State := { State.reset with
      env := { Env.reset with st := .run, active := 1 }
      engs := [(15, ⟨true, false, false, 0⟩)]
      regs := [(Reg.ENV_GHOLD_SET, 0x8001)] }
    s.Calm ∧ (s.at_ 0).held 15 = true ∧ (s.at_ 0).groupDone 15 = true ∧ s.held 0 = true ∧ s.inSpan 0 = true ∧ (s.eng 0).run = false ∧
      (0x8001 : BitVec 16).getLsbD 15 = true ∧ s.inSpan 15 = true ∧ (s.eng 15).run = true ∧ s.laneEnabled 127 = true ∧ s.laneEnabled 0 = true ∧
      ({ s with env := Env.reset } : State).Calm ∧ Env.reset.st = .off := by
  refine ⟨⟨⟨by decide +kernel, by decide +kernel, by decide +kernel, by decide +kernel, by decide +kernel, by decide +kernel, by decide +kernel, by decide +kernel⟩, ⟨rfl, by decide +kernel, rfl, .inr (by decide +kernel), rfl, rfl, rfl, rfl, rfl, rfl⟩, rfl⟩, ?_, ?_, ?_, ?_, ?_, ?_, ?_, ?_, ?_, ?_, ⟨⟨by decide +kernel, by decide +kernel, by decide +kernel, by decide +kernel, by decide +kernel, by decide +kernel, by decide +kernel, by decide +kernel⟩, ⟨rfl, by decide +kernel, rfl, .inr (by decide +kernel), rfl, rfl, rfl, rfl, rfl, rfl⟩, rfl⟩, rfl⟩ <;> decide +kernel

theorem witness_ArithmeticStepsFollowR158 :
    let s := fun (op : Nat) => ({ State.reset with
      engs := [(16, ⟨true, false, false, 3⟩)]
      ctxs := [(131, { Ctx.reset with st := .running })] } : State).setWords 0x30020000 [5, BitVec.ofNat 32 (op * 2 ^ 26 + 0x103)]
    ∀ op, op ∈ [2, 3, 4, 5, 6, 7, 8, 9] → (s op).At 16 3 ⟨op, 0, 0, 1, 0, 3, 5⟩ := by
  intro s op h
  simp only [List.mem_cons, List.not_mem_nil, or_false] at h
  rcases h with rfl | rfl | rfl | rfl | rfl | rfl | rfl | rfl <;>
    exact ⟨by decide, by decide +kernel, by decide +kernel, by decide +kernel, by decide +kernel, by decide +kernel⟩

theorem witness_StepsGoOnByCond :
    let s := fun (op : Nat) (k : List Nat) => ({ State.reset with
      engs := [(0, ⟨true, false, false, 7⟩)]
      ctxs := [(5, { Ctx.reset with st := .running, pc := 1023, stack := k })] } : State).setWords 0x30001FF8
        [5, BitVec.ofNat 32 (op * 2 ^ 26 + 2 ^ 21 + 0x103)]
    (s 0x3D [1, 2, 3, 4]).Calm ∧ (s 0x3D [1, 2, 3, 4]).At 0 5 ⟨0x3D, 1, 0, 1, 0, 3, 5⟩ ∧ (s 0x3E []).Calm ∧ (s 0x3E []).At 0 5 ⟨0x3E, 1, 0, 1, 0, 3, 5⟩ ∧
      (s 0x3E []).reg Reg.REEL_FATALC = 0 ∧ (s 0 []).At 0 5 ⟨0, 1, 0, 1, 0, 3, 5⟩ ∧ (s 0x3C []).cond 0 5 1 = true := by
  refine ⟨⟨⟨by decide +kernel, by decide +kernel, by decide +kernel, by decide +kernel, by decide +kernel, by decide +kernel, by decide +kernel, by decide +kernel⟩, ⟨rfl, by decide +kernel, rfl, .inr (by decide +kernel), rfl, rfl, rfl, rfl, rfl, rfl⟩, rfl⟩, ⟨?_, ?_, ?_, ?_, ?_, ?_⟩, ⟨⟨by decide +kernel, by decide +kernel, by decide +kernel, by decide +kernel, by decide +kernel, by decide +kernel, by decide +kernel, by decide +kernel⟩, ⟨rfl, by decide +kernel, rfl, .inr (by decide +kernel), rfl, rfl, rfl, rfl, rfl, rfl⟩, rfl⟩, ⟨?_, ?_, ?_, ?_, ?_, ?_⟩, ?_, ⟨?_, ?_, ?_, ?_, ?_, ?_⟩, ?_⟩ <;> decide +kernel

theorem witness_LdAndStReachTheirSpaces :
    let s := fun (op m : Nat) (v : Word) => ({ State.reset with
      engs := [(0, ⟨true, false, false, 7⟩)]
      ctxs := [(5, { Ctx.reset with st := .running, v := [v, 0, 0, 0, 0, 0, 0, 0] })] } : State).setWords 0x30000000
        [4, BitVec.ofNat 32 (op * 2 ^ 26 + 0x100 + m)]
    (s 0x10 11 0x2103FFF8).Calm ∧ (s 0x10 11 0x2103FFF8).At 0 5 ⟨0x10, 0, 0, 1, 0, 11, 4⟩ ∧ ((11 / 4 % 4, 4) ∈ [(0, 1), (1, 2), (2, 4)]) ∧
      (s 0x10 11 0x2103FFF8).rangeRefused 0x2103FFFC 4 = false ∧ (s 0x11 10 120).At 0 5 ⟨0x11, 0, 0, 1, 0, 10, 4⟩ ∧
      (s 0x11 15 0).At 0 5 ⟨0x11, 0, 0, 1, 0, 15, 4⟩ ∧ (s 0x10 8 312).At 0 5 ⟨0x10, 0, 0, 1, 0, 8, 4⟩ ∧ (s 0x10 8 312).curFrame 0 5 = none ∧
      (s 0x10 11 0).reg Reg.REEL_FATALC = 0 ∧ rxnextOf 0x21020010 = some 0 ∧ rxnextOf 0x21020014 = none := by
  refine ⟨⟨⟨by decide +kernel, by decide +kernel, by decide +kernel, by decide +kernel, by decide +kernel, by decide +kernel, by decide +kernel, by decide +kernel⟩, ⟨rfl, by decide +kernel, rfl, .inr (by decide +kernel), rfl, rfl, rfl, rfl, rfl, rfl⟩, rfl⟩, ⟨?_, ?_, ?_, ?_, ?_, ?_⟩, ?_, ?_, ⟨?_, ?_, ?_, ?_, ?_, ?_⟩, ⟨?_, ?_, ?_, ?_, ?_, ?_⟩, ⟨?_, ?_, ?_, ?_, ?_, ?_⟩, ?_, ?_, ?_, ?_⟩ <;> decide +kernel

theorem witness_WaitsEndTurns :
    let s := fun (op : Nat) (x : Ctx) => ({ State.reset with
      engs := [(0, ⟨true, false, false, 7⟩)]
      ctxs := [(5, x)] } : State).setWords 0x30000000 [4, BitVec.ofNat 32 (op * 2 ^ 26 + 0x101)]
    let r := { Ctx.reset with st := .running }
    let q := { Ctx.reset with st := .waiting, wait := .time 50, timer := some 50 }
    (s 0x38 r).Calm ∧ (s 0x38 r).At 0 5 ⟨0x38, 0, 0, 1, 0, 1, 4⟩ ∧ (s 0x39 r).At 0 5 ⟨0x39, 0, 0, 1, 0, 1, 4⟩ ∧
      (s 0x3A r).At 0 5 ⟨0x3A, 0, 0, 1, 0, 1, 4⟩ ∧ (s 0x3F r).At 0 5 ⟨0x3F, 0, 0, 1, 0, 1, 4⟩ ∧ (s 0x38 r).reg Reg.REEL_FATALC = 0 ∧
      ((s 0 q).at_ 50).Calm ∧ ((s 0 q).at_ 50).ctx 0 5 = q ∧ ((s 0 q).at_ 50).now = 50 := by
  refine ⟨⟨⟨by decide +kernel, by decide +kernel, by decide +kernel, by decide +kernel, by decide +kernel, by decide +kernel, by decide +kernel, by decide +kernel⟩, ⟨rfl, by decide +kernel, rfl, .inr (by decide +kernel), rfl, rfl, rfl, rfl, rfl, rfl⟩, rfl⟩, ⟨?_, ?_, ?_, ?_, ?_, ?_⟩, ⟨?_, ?_, ?_, ?_, ?_, ?_⟩, ⟨?_, ?_, ?_, ?_, ?_, ?_⟩, ⟨?_, ?_, ?_, ?_, ?_, ?_⟩, ?_, ⟨⟨by decide +kernel, by decide +kernel, by decide +kernel, by decide +kernel, by decide +kernel, by decide +kernel, by decide +kernel, by decide +kernel⟩, ⟨rfl, by decide +kernel, rfl, .inr (by decide +kernel), rfl, rfl, rfl, rfl, rfl, rfl⟩, rfl⟩, ?_, ?_⟩ <;> decide +kernel

theorem witness_TheEngineChoosesItsContext :
    let v := ({ State.reset with
      engs := [(0, ⟨true, false, false, 2⟩)]
      ctxs := [(1, { Ctx.reset with st := .ready, steps := 3 }), (3, { Ctx.reset with st := .ready, pc := 7, resume := true })] } : State).at_ 9
    v.Calm ∧ (v.eng 0).run = true ∧ (∀ d, d < nctx 0 → (v.ctx 0 d).st ≠ .running) ∧ (v.ctx 0 3).st = .ready ∧ (v.ctx 0 3).urg = false ∧
      (3 + 8 - (2 + 1) % 8) % 8 < (1 + 8 - (2 + 1) % 8) % 8 ∧ (v.fetchStep 0 8).listed = true ∧
      (∀ d, d < 8 → (v.ctx 0 d).urg = false) ∧
      (let p := fun (b : Bool) => ({ State.reset with
         engs := [(0, ⟨true, false, false, 2⟩)]
         ctxs := [(1, { Ctx.reset with st := .running, steps := 3, urg := b }), (3, { Ctx.reset with st := .ready, urg := true })] } : State).at_ 9
       (p false).Calm ∧ (p true).Calm ∧ ((p false).ctx 0 1).urg = false ∧ ((p false).ctx 0 3).urg = true ∧ ((p false).ctx 0 3).st = .ready ∧
         (∀ d, d < 8 → d ≠ 1 → ((p true).ctx 0 d).st ≠ .running) ∧ ((p true).ctx 0 1).urg = true) := by
  refine ⟨⟨⟨by decide +kernel, by decide +kernel, by decide +kernel, by decide +kernel, by decide +kernel, by decide +kernel, by decide +kernel, by decide +kernel⟩, ⟨rfl, by decide +kernel, rfl, .inr (by decide +kernel), rfl, rfl, rfl, rfl, rfl, rfl⟩, rfl⟩, ?_, ?_, ?_, ?_, ?_, ?_, ?_, ⟨⟨by decide +kernel, by decide +kernel, by decide +kernel, by decide +kernel, by decide +kernel, by decide +kernel, by decide +kernel, by decide +kernel⟩, ⟨rfl, by decide +kernel, rfl, .inr (by decide +kernel), rfl, rfl, rfl, rfl, rfl, rfl⟩, rfl⟩, ⟨⟨by decide +kernel, by decide +kernel, by decide +kernel, by decide +kernel, by decide +kernel, by decide +kernel, by decide +kernel, by decide +kernel⟩, ⟨rfl, by decide +kernel, rfl, .inr (by decide +kernel), rfl, rfl, rfl, rfl, rfl, rfl⟩, rfl⟩, ?_, ?_, ?_, ?_, ?_⟩ <;> decide +kernel

theorem witness_FrameAndEventSteps :
    let f : Frame := ⟨1, 0, 5, 0, 0, 0, 0, some 0x105, 5, [1, 0, 7, 0, 0], 5, true, 5, true, 100, true, 9, 0, ⟨0, []⟩, .none, false, false, false, false⟩
    let g : Frame := { f with fend := false, tend := 0, cq := 0, fcsok := false }
    let s := fun (op m : Nat) (imm : Word) (f : List Frame) => ({ State.reset with
      engs := [(0, ⟨true, false, false, 7⟩)]
      tb := { Tbase.reset with src := .xtal }
      lanes := sput (fun _ => Lane.reset) [] 5 { Lane.reset with frames := f }
      ctxs := [(5, { Ctx.reset with st := .running })] } : State).setWords 0x30000000 [imm, BitVec.ofNat 32 (op * 2 ^ 26 + 0x100 + m)]
    (s 0x19 0 0 []).Calm ∧ (s 0x19 0 0 []).At 0 5 ⟨0x19, 0, 0, 1, 0, 0, 0⟩ ∧ (s 0x19 0 0 []).lookupKey 0 5 ⟨0x19, 0, 0, 1, 0, 0, 0⟩ = none ∧
      (s 0x28 0 0 [f]).Calm ∧ (s 0x28 0 0 [f]).At 0 5 ⟨0x28, 0, 0, 1, 0, 0, 0⟩ ∧ (s 0x28 0 0 [f]).curFrame 0 5 = some (5, f) ∧
      (s 0x28 0 0 [f]).ringRoom 0 = false ∧ (s 0x21 0 0 [g]).curFrame 0 5 = some (5, g) ∧ (s 0x21 0 0 [g]).At 0 5 ⟨0x21, 0, 0, 1, 0, 0, 0⟩ ∧
      (s 0x28 0 0 [g]).curFrame 0 5 = some (5, g) ∧ g.abort ≠ 2 ∧ (s 0x28 0 0 [g]).At 0 5 ⟨0x28, 0, 0, 1, 0, 0, 0⟩ ∧
      ({ s 0x21 0 0 [g] with tb := Tbase.reset } : State).Calm ∧ Tbase.reset.src ≠ .xtal ∧
      ({ s 0x21 0 0 [g] with tb := Tbase.reset } : State).curFrame 0 5 = some (5, g) ∧
      (s 0x2A 0 95 []).At 0 5 ⟨0x2A, 0, 0, 1, 0, 0, 95⟩ ∧ (s 0x20 3 0 []).At 0 5 ⟨0x20, 0, 0, 1, 0, 3, 0⟩ ∧ (s 0x19 0 0 []).reg Reg.REEL_FATALC = 0 := by
  refine ⟨⟨⟨by decide +kernel, by decide +kernel, by decide +kernel, by decide +kernel, by decide +kernel, by decide +kernel, by decide +kernel, by decide +kernel⟩, ⟨rfl, by decide +kernel, rfl, .inr (by decide +kernel), rfl, rfl, rfl, rfl, rfl, rfl⟩, rfl⟩, ⟨?_, ?_, ?_, ?_, ?_, ?_⟩, ?_, ⟨⟨by decide +kernel, by decide +kernel, by decide +kernel, by decide +kernel, by decide +kernel, by decide +kernel, by decide +kernel, by decide +kernel⟩, ⟨rfl, by decide +kernel, rfl, .inr (by decide +kernel), rfl, rfl, rfl, rfl, rfl, rfl⟩, rfl⟩, ⟨?_, ?_, ?_, ?_, ?_, ?_⟩, ?_, ?_, ?_, ⟨?_, ?_, ?_, ?_, ?_, ?_⟩,
    ?_, ?_, ⟨?_, ?_, ?_, ?_, ?_, ?_⟩, ⟨⟨by decide +kernel, by decide +kernel, by decide +kernel, by decide +kernel, by decide +kernel, by decide +kernel, by decide +kernel, by decide +kernel⟩, ⟨rfl, by decide +kernel, rfl, .inr (by decide +kernel), rfl, rfl, rfl, rfl, rfl, rfl⟩, rfl⟩, ?_, ?_, ⟨?_, ?_, ?_, ?_, ?_, ?_⟩,
    ⟨?_, ?_, ?_, ?_, ?_, ?_⟩, ?_⟩ <;> decide +kernel

theorem witness_ArmActions :
    let f : Frame := ⟨1, 0, 5, 0, 0, 0, 0, some 0x105, 5, [1, 0, 7, 0, 0], 5, true, 5, true, 100, true, 9, 0, ⟨0, []⟩, .none, false, false, false, false⟩
    let s := fun (e m : Nat) (a : Act) => ({ State.reset with
      engs := [(e, ⟨true, false, false, 0⟩)]
      tb := { Tbase.reset with src := .xtal }
      lanes := [(2, { Lane.reset with frames := [f] })]
      ctxs := [(8 * e + 2, { Ctx.reset with st := .running, act := a })] } : State).setWords (0x30000000 + 0x2000 * e) [20, BitVec.ofNat 32 (0x60000100 + m)]
    (s 16 9 .none).Calm ∧ (∀ m, m < 12 → 0 < m → (s 16 m .none).fetchStep 16 0 = ⟨0x18, 0, 0, 1, 0, m, 20⟩ ∧ (⟨0x18, 0, 0, 1, 0, m, 20⟩ : StepWord).listed = true) ∧
      (s 16 9 .none).At 16 2 ⟨0x18, 0, 0, 1, 0, 9, 20⟩ ∧ (s 16 9 .none).offered = none ∧ (s 0 6 .none).curFrame 0 2 = some (2, f) ∧
      (s 0 6 .none).At 0 2 ⟨0x18, 0, 0, 1, 0, 6, 20⟩ ∧ ((s 16 0 (.sped 40)).at_ 40).Calm ∧ (((s 16 0 (.sped 40)).at_ 40).ctx 16 2).act = .sped 40 ∧
      (s 16 9 .none).reg Reg.REEL_FATALC = 0 := by
  refine ⟨⟨⟨by decide +kernel, by decide +kernel, by decide +kernel, by decide +kernel, by decide +kernel, by decide +kernel, by decide +kernel, by decide +kernel⟩, ⟨rfl, by decide +kernel, rfl, .inr (by decide +kernel), rfl, rfl, rfl, rfl, rfl, rfl⟩, rfl⟩, ?_, ⟨?_, ?_, ?_, ?_, ?_, ?_⟩, ?_, ?_, ⟨?_, ?_, ?_, ?_, ?_, ?_⟩, ⟨⟨by decide +kernel, by decide +kernel, by decide +kernel, by decide +kernel, by decide +kernel, by decide +kernel, by decide +kernel, by decide +kernel⟩, ⟨rfl, by decide +kernel, rfl, .inr (by decide +kernel), rfl, rfl, rfl, rfl, rfl, rfl⟩, rfl⟩, ?_, ?_⟩ <;> decide +kernel

theorem witness_EnginesQueuesAndContextFaults :
    let s : State := { State.reset with
      engs := [(16, ⟨true, true, false, 0⟩)]
      ctxs := [(128, { Ctx.reset with st := .running, steps := 64 }), (129, { Ctx.reset with st := .waiting, wait := .time 4000 })] }
    let q : State := { State.reset with engs := [(16, ⟨true, true, false, 0⟩)] }
    State.reset.Calm ∧ State.reset.flag Reg.REEL_E16CTL_RUN = false ∧ (State.reset.eng 16).run = false ∧ s.Calm ∧
      (s.at_ 10).Calm ∧ (q.at_ 10).Calm ∧ (q.at_ 10).allWait 16 = true ∧ ((s.at_ 10).ctx 16 0).steps = 64 ∧ ((s.at_ 10).ctx 16 0).st = .running ∧
      (s.eng ((0x100001 : Word).toNat / 2 ^ 16 % 32)).run = true ∧
      (∀ d, d < nctx 16 → d ≠ 0 → ((s.at_ 10).ctx 16 d).st ≠ .running ∧ ((s.at_ 10).ctx 16 d).st ≠ .ready) ∧ (s.at_ 10).reg Reg.REEL_FATALC = 0 := by
  refine ⟨⟨⟨by decide +kernel, by decide +kernel, by decide +kernel, by decide +kernel, by decide +kernel, by decide +kernel, by decide +kernel, by decide +kernel⟩, ⟨rfl, by decide +kernel, rfl, .inr (by decide +kernel), rfl, rfl, rfl, rfl, rfl, rfl⟩, rfl⟩, ?_, ?_, ⟨⟨by decide +kernel, by decide +kernel, by decide +kernel, by decide +kernel, by decide +kernel, by decide +kernel, by decide +kernel, by decide +kernel⟩, ⟨rfl, by decide +kernel, rfl, .inr (by decide +kernel), rfl, rfl, rfl, rfl, rfl, rfl⟩, rfl⟩, ⟨⟨by decide +kernel, by decide +kernel, by decide +kernel, by decide +kernel, by decide +kernel, by decide +kernel, by decide +kernel, by decide +kernel⟩, ⟨rfl, by decide +kernel, rfl, .inr (by decide +kernel), rfl, rfl, rfl, rfl, rfl, rfl⟩, rfl⟩, ⟨⟨by decide +kernel, by decide +kernel, by decide +kernel, by decide +kernel, by decide +kernel, by decide +kernel, by decide +kernel, by decide +kernel⟩, ⟨rfl, by decide +kernel, rfl, .inr (by decide +kernel), rfl, rfl, rfl, rfl, rfl, rfl⟩, rfl⟩, ?_, ?_, ?_, ?_, ?_, ?_⟩ <;> decide +kernel

theorem witness_StepTablesLoad :
    let l := fun (p : LdPhase) => ({ Loader.reset with
      phase := p, eng := 3, src := 0x20000000, soft := 1, hdr := [0x4254584A, 0x10001, 0x10000, 9, 0, 0, 0x8A9136AA, 0] } : Loader)
    let s := fun (p : LdPhase) => { State.reset with ldr := l p }
    State.reset.Calm ∧ (s .verify).Calm ∧ ((s .verify).at_ 0).Calm ∧ ((s .verify).at_ 0).imgFault ((s .verify).at_ 0).rbytes [] 0x20000000 3 = some 1 ∧
      ((s .verify).at_ 0).rscans [(0x20000000, 32)] = ((s .verify).at_ 0, []) ∧ ((s .verify).at_ 0).imgSpan 0x20000000 3 = 32 ∧
      ((s .stopping).at_ 50000).Calm ∧ ((s .stopping).at_ 50000).ldr.began + 40000 * ((s .stopping).at_ 50000).ldr.soft ≤ 50000 ∧
      ((s .copy).at_ 0).Calm ∧ ((s .copy).at_ 0).srcOk 0x20000000 40 = true ∧ crc32c (List.replicate 8 0) = 0x8C28B28A ∧
      (State.reset.upd.phase = .idle ∧ (0x30111 : Word).toNat / 2 ^ 16 % 32 ≤ 16) := by
  refine ⟨⟨⟨by decide +kernel, by decide +kernel, by decide +kernel, by decide +kernel, by decide +kernel, by decide +kernel, by decide +kernel, by decide +kernel⟩, ⟨rfl, by decide +kernel, rfl, .inr (by decide +kernel), rfl, rfl, rfl, rfl, rfl, rfl⟩, rfl⟩, ⟨⟨by decide +kernel, by decide +kernel, by decide +kernel, by decide +kernel, by decide +kernel, by decide +kernel, by decide +kernel, by decide +kernel⟩, ⟨rfl, by decide +kernel, rfl, .inr (by decide +kernel), rfl, rfl, rfl, rfl, rfl, rfl⟩, rfl⟩, ⟨⟨by decide +kernel, by decide +kernel, by decide +kernel, by decide +kernel, by decide +kernel, by decide +kernel, by decide +kernel, by decide +kernel⟩, ⟨rfl, by decide +kernel, rfl, .inr (by decide +kernel), rfl, rfl, rfl, rfl, rfl, rfl⟩, rfl⟩, ?_, ?_, ?_, ⟨⟨by decide +kernel, by decide +kernel, by decide +kernel, by decide +kernel, by decide +kernel, by decide +kernel, by decide +kernel, by decide +kernel⟩, ⟨rfl, by decide +kernel, rfl, .inr (by decide +kernel), rfl, rfl, rfl, rfl, rfl, rfl⟩, rfl⟩, ?_, ⟨⟨by decide +kernel, by decide +kernel, by decide +kernel, by decide +kernel, by decide +kernel, by decide +kernel, by decide +kernel, by decide +kernel⟩, ⟨rfl, by decide +kernel, rfl, .inr (by decide +kernel), rfl, rfl, rfl, rfl, rfl, rfl⟩, rfl⟩, ?_, ?_, ?_⟩ <;> decide +kernel

theorem witness_DeliveriesAndReplayWords :
    let d : Delivery := ⟨0, 127, 1, 5, List.replicate 16 3⟩
    let v := ({ State.reset with
      regs := [(Reg.LINK_RBASE 0, 0x20000000), (Reg.LINK_RCFG 0, 4)]
      link := { Link.reset with deliv := [d], thru := [(1023, 0, 0)] } } : State).at_ 0
    v.Calm ∧ v.link.deliv.find? (fun d => d.ring = coreNum .c0) = some d ∧ 0 < v.ringSize 0 ∧
      v.recAddr 0 (v.get (Reg.LINK_RPUT_PUT 0)) = 0x20000000 ∧ (v.link.deliv.find? (fun d => d.ring = coreNum .c1) = none) ∧
      v.bankRefuses 0x20000000 = false ∧ 0x21000 ≤ v.get Reg.REEL_TXQBASE_ADDR ∧ d.head.length = 16 ∧ (∃ p ∈ v.link.thru, p.1 = 1023) ∧
      ({ v with link := { v.link with deliv := [{ d with ring := 1 }] } } : State).ringSize 1 = 0 ∧
      ((0 : Nat) + 65536 - 0) % 65536 ≤ ((0 : Nat) + 65536 - 0) % 65536 := by
  refine ⟨⟨⟨by decide +kernel, by decide +kernel, by decide +kernel, by decide +kernel, by decide +kernel, by decide +kernel, by decide +kernel, by decide +kernel⟩, ⟨rfl, by decide +kernel, rfl, .inr (by decide +kernel), rfl, rfl, rfl, rfl, rfl, rfl⟩, rfl⟩, ?_, ?_, ?_, ?_, ?_, ?_, ?_, ⟨(1023, 0, 0), ?_⟩, ?_, ?_⟩ <;> decide +kernel

theorem witness_TimebaseFollowsItsCrystals :
    let s : Tbase → State := fun b => { State.reset with tb := b }
    State.reset.Calm ∧ (s { Tbase.reset with src := .xtal, ready := true }).Calm ∧
      (s { Tbase.reset with ready := true, move := true, lfok := true }).Calm ∧ ((s { Tbase.reset with ready := true, move := true, lfok := true }).at_ 9).Calm ∧
      ((s { Tbase.reset with src := .carry, xtalOn := false, fio := false }).at_ 398000).Calm ∧
      ((s { Tbase.reset with src := .carry, xtalOn := false, fio := false }).at_ 398000).nextCompare ≤ 398000 + 2440 ∧
      (let c := s { Tbase.reset with src := .carry, xtalOn := false, lfok := true, rem := -7 }
       c.tb.edge ≤ c.now ∧ -(c.inc : Int) < c.tb.rem ∧ (c.at_ 5000).tb.edge = 4882) ∧
      State.reset.get (Reg.EVL_LINECFG_SUB (State.reset.outLine 3)) = 0 ∧ (State.reset.put Reg.RTC_TRIM_AUTO 0).flag Reg.RTC_TRIM_AUTO = false := by
  refine ⟨⟨⟨by decide +kernel, by decide +kernel, by decide +kernel, by decide +kernel, by decide +kernel, by decide +kernel, by decide +kernel, by decide +kernel⟩, ⟨rfl, by decide +kernel, rfl, .inr (by decide +kernel), rfl, rfl, rfl, rfl, rfl, rfl⟩, rfl⟩, ⟨⟨by decide +kernel, by decide +kernel, by decide +kernel, by decide +kernel, by decide +kernel, by decide +kernel, by decide +kernel, by decide +kernel⟩, ⟨rfl, by decide +kernel, rfl, .inr (by decide +kernel), rfl, rfl, rfl, rfl, rfl, rfl⟩, rfl⟩, ⟨⟨by decide +kernel, by decide +kernel, by decide +kernel, by decide +kernel, by decide +kernel, by decide +kernel, by decide +kernel, by decide +kernel⟩, ⟨rfl, by decide +kernel, rfl, .inr (by decide +kernel), rfl, rfl, rfl, rfl, rfl, rfl⟩, rfl⟩, ⟨⟨by decide +kernel, by decide +kernel, by decide +kernel, by decide +kernel, by decide +kernel, by decide +kernel, by decide +kernel, by decide +kernel⟩, ⟨rfl, by decide +kernel, rfl, .inr (by decide +kernel), rfl, rfl, rfl, rfl, rfl, rfl⟩, rfl⟩, ⟨⟨by decide +kernel, by decide +kernel, by decide +kernel, by decide +kernel, by decide +kernel, by decide +kernel, by decide +kernel, by decide +kernel⟩, ⟨rfl, by decide +kernel, rfl, .inr (by decide +kernel), rfl, rfl, rfl, rfl, rfl, rfl⟩, rfl⟩, ?_, ⟨?_, ?_, ?_⟩, ?_, ?_⟩ <;> decide +kernel

theorem witness_SlotsCountersAndSupervision :
    let v := (({ State.reset with
      link := { Link.reset with adj := some (-100000), evc := 2 ^ 40 - 1, setPend := some (2 ^ 40 - 9) }
      shadow := [(Reg.LINK_SLOTCFG, 12000)]
      waits := [⟨Reg.LINK_PARENT, 1, 1⟩]
      cfg := { Cfg.reset with sched := some (2 ^ 40 - 9) } } : State)).at_ 400000
    let h := (({ State.reset with
      armed := [(Reg.LINK_SLOTCFG, 12000)]
      shadow := [(Reg.LINK_SLOTCFG, 13000)]
      cfg := { Cfg.reset with held := some false, sched := some 7 } } : State).setReg Reg.CFG_PEND 0x40000).at_ 400000
    let q := fun v : State => (({ v with waits := [], armed := [], cfg := { v.cfg with held := none } } : State).setReg Reg.CFG_PEND 0).Quiet
    let n := (({ State.reset with now := 0 } : State).setWord 0x21020034 0x10000000).at_ 0
    (v.canonical ∧ q v ∧ v.shadowDiff = [(Reg.LINK_SLOTCFG, 12000)] ∧ v.pend = 0 ∧
      v.get (Reg.EVL_LINECFG_SUB (v.outLine 0)) = 0 ∧ v.link.nextT ≤ v.now ∧ v.link.setPend = v.cfg.sched) ∧
    (h.canonical ∧ q h ∧ h.shadowDiff = [(Reg.LINK_SLOTCFG, 13000)] ∧ h.pend = 0x40000 ∧
      h.get (Reg.EVL_LINECFG_SUB (h.outLine 0)) = 0 ∧ h.link.nextT ≤ h.now) ∧
      (unitOf Reg.LINK_SLOTCFG = 18 ∧ sMask Reg.LINK_SLOTCFG ≠ 0) ∧
      n.Calm ∧ bitOf (n.nbr 0 0x34) 28 = true ∧ 0 ≤ (BitVec.ofNat 32 (n.us / 1024) - n.nbr 0 0x3C).toInt ∧
      n.txqOver = false ∧ n.bankRefuses (nbrAddr 0) = false := by
  refine ⟨⟨⟨?_, ?_, ?_, ?_, ?_, ?_, ?_, ?_⟩, ⟨rfl, ?_, rfl, .inl rfl, rfl, rfl, rfl, rfl, rfl, rfl⟩, ?_, ?_, ?_, ?_, rfl⟩,
    ⟨⟨?_, ?_, ?_, ?_, ?_, ?_, ?_, ?_⟩, ⟨rfl, ?_, rfl, .inl rfl, rfl, rfl, rfl, rfl, rfl, rfl⟩, ?_, ?_, ?_, ?_⟩, ⟨?_, ?_⟩, ⟨⟨by decide +kernel, by decide +kernel, by decide +kernel, by decide +kernel, by decide +kernel, by decide +kernel, by decide +kernel, by decide +kernel⟩, ⟨rfl, by decide +kernel, rfl, .inr (by decide +kernel), rfl, rfl, rfl, rfl, rfl, rfl⟩, rfl⟩, ?_, ?_, ?_, ?_⟩ <;>
    first | exact Swf_nil _ | exact ⟨by decide, by decide +kernel⟩ | decide +kernel

theorem witness_CipherRequestsStart :
    let b : State := { State.reset with regs := [(Reg.CIPH_CTL, 1), (Reg.CIPH_QBASE 0, 0x20000000), (Reg.CIPH_QPUT 0, 1)] }
    let s := ((((b.setWord 0x20000000 12).setWord 0x20000004 0).setWord 0x20000008 0x20001000).setWord 0x2000000C 4)
    let d := Desc.ofWords (s.descWords 0 0)
    s.Calm ∧ s.flag Reg.CIPH_CTL_EN = true ∧ s.ciph.halted = false ∧ s.ciph.cur = none ∧ s.cipTurn = some 0 ∧
      s.get (Reg.CIPH_QDONE_VAL 0) = 0 ∧ s.descReach 0 0 = true ∧ d.op = 12 ∧ s.cipCheck d = 0 ∧ d.ok = true ∧
      (s.setWord 0x20000000 1).Calm ∧ (Desc.ofWords ((s.setWord 0x20000000 1).descWords 0 0)).op = 1 := by
  refine ⟨⟨⟨by decide +kernel, by decide +kernel, by decide +kernel, by decide +kernel, by decide +kernel, by decide +kernel, by decide +kernel, by decide +kernel⟩, ⟨rfl, by decide +kernel, rfl, .inr (by decide +kernel), rfl, rfl, rfl, rfl, rfl, rfl⟩, rfl⟩, ?_, rfl, rfl, ?_, ?_, ?_, ?_, ?_, ?_, ⟨⟨by decide +kernel, by decide +kernel, by decide +kernel, by decide +kernel, by decide +kernel, by decide +kernel, by decide +kernel, by decide +kernel⟩, ⟨rfl, by decide +kernel, rfl, .inr (by decide +kernel), rfl, rfl, rfl, rfl, rfl, rfl⟩, rfl⟩, ?_⟩ <;> decide +kernel

theorem witness_CipherRequestsComplete :
    let b : State := { State.reset with regs := [(Reg.CIPH_QBASE 0, 0x20000000), (Reg.CIPH_QPUT 0, 33)] }
    let r := fun (outs : List (Nat × List Byte)) (load : Option (Nat × Key)) => (⟨0, 0, [0x4000000A, 0, 0, 0, 0, 0, 0, 0xABCD0000], outs, 0, load, []⟩ : CipReq)
    let v := fun (outs : List (Nat × List Byte)) (load : Option (Nat × Key)) =>
      ({ b with ciph := { b.ciph with cur := some (r outs load) } } : State).at_ 400000
    b.Calm ∧ (v [(0x20000020, [1, 2]), (0x20001000, [3])] none).Calm ∧ (v [] (some (7, ⟨[], false, 15, 1⟩))).Calm ∧ (v [(0x20000000, [])] none).Calm ∧
      (v [] none).rngWaits (r [] none) = false ∧ (v [] none).txqOver = false ∧ (v [] none).reaches writeRegions 0x20000020 2 = true ∧ (v [] none).descReach 0 0 = true ∧ (v [] none).descAddr 0 0 = 0x20000000 ∧
      (32 + 65536 - b.get (Reg.CIPH_QDONE_VAL 0)) % 65536 ≤ 32 ∧ 32 < (33 + 65536 - b.get (Reg.CIPH_QDONE_VAL 0)) % 65536 ∧
      ({ b with ciph := { b.ciph with halted := true } } : State).Calm ∧ b.txqOver = false ∧ b.descReach 0 31 = true ∧
      ({ b with regs := [(Reg.CIPH_QBASE 0, 0x20000000), (Reg.CIPH_QPUT 0, 32)] } : State).qcount 0 = 32 ∧
      ({ b with ciph := { b.ciph with cur := some (r [] none), flushing := true } } : State).Calm := by
  refine ⟨⟨⟨by decide +kernel, by decide +kernel, by decide +kernel, by decide +kernel, by decide +kernel, by decide +kernel, by decide +kernel, by decide +kernel⟩, ⟨rfl, by decide +kernel, rfl, .inr (by decide +kernel), rfl, rfl, rfl, rfl, rfl, rfl⟩, rfl⟩, ⟨⟨by decide +kernel, by decide +kernel, by decide +kernel, by decide +kernel, by decide +kernel, by decide +kernel, by decide +kernel, by decide +kernel⟩, ⟨rfl, by decide +kernel, rfl, .inr (by decide +kernel), rfl, rfl, rfl, rfl, rfl, rfl⟩, rfl⟩, ⟨⟨by decide +kernel, by decide +kernel, by decide +kernel, by decide +kernel, by decide +kernel, by decide +kernel, by decide +kernel, by decide +kernel⟩, ⟨rfl, by decide +kernel, rfl, .inr (by decide +kernel), rfl, rfl, rfl, rfl, rfl, rfl⟩, rfl⟩, ⟨⟨by decide +kernel, by decide +kernel, by decide +kernel, by decide +kernel, by decide +kernel, by decide +kernel, by decide +kernel, by decide +kernel⟩, ⟨rfl, by decide +kernel, rfl, .inr (by decide +kernel), rfl, rfl, rfl, rfl, rfl, rfl⟩, rfl⟩, ?_, ?_, ?_, ?_, ?_, ?_, ?_, ⟨⟨by decide +kernel, by decide +kernel, by decide +kernel, by decide +kernel, by decide +kernel, by decide +kernel, by decide +kernel, by decide +kernel⟩, ⟨rfl, by decide +kernel, rfl, .inr (by decide +kernel), rfl, rfl, rfl, rfl, rfl, rfl⟩, rfl⟩, ?_, ?_, ?_, ⟨⟨by decide +kernel, by decide +kernel, by decide +kernel, by decide +kernel, by decide +kernel, by decide +kernel, by decide +kernel, by decide +kernel⟩, ⟨rfl, by decide +kernel, rfl, .inr (by decide +kernel), rfl, rfl, rfl, rfl, rfl, rfl⟩, rfl⟩⟩ <;> decide +kernel

theorem witness_KeysAndAlarms :
    let b : State := { State.reset with regs := [(Reg.CIPH_KSEL, 0x0203), (Reg.TRNG_CTL, 1)] }
    let s := fun (c : Ciph) => ({ b with ciph := c } : State)
    let r : CipReq := ⟨0, 0, [12], [], 0, none, [3]⟩
    b.Calm ∧ (s { b.ciph with staged := 255 }).Calm ∧ (s { b.ciph with cur := some r, trngUp := true }).Calm ∧
      (s { b.ciph with cur := some r }).slotBusy ((s { b.ciph with cur := some r }).get Reg.CIPH_KSEL_SLOT) = true ∧
      (s { b.ciph with halted := true, almact := true }).Calm ∧ (s { b.ciph with trngArm := true }).flag Reg.TRNG_CTL_EN = true ∧
      (s { b.ciph with halted := true, almact := true }).Calm ∧ ((s { b.ciph with trngArm := true }).at_ 400000).Calm ∧
      ((s b.ciph).at_ 400000).get (Reg.EVL_LINECFG_SUB (((s b.ciph).at_ 400000).outLine 2)) = 0 ∧ ((s b.ciph).at_ 400000).upd.phase ≠ .verify ∧
      ((s b.ciph).at_ 400000).qcount 0 = 0 ∧ ((s b.ciph).at_ 400000).nvBad almSeq = false ∧ (s b.ciph).flag Reg.CIPH_KSEL_KSIZE = true := by
  refine ⟨⟨⟨by decide +kernel, by decide +kernel, by decide +kernel, by decide +kernel, by decide +kernel, by decide +kernel, by decide +kernel, by decide +kernel⟩, ⟨rfl, by decide +kernel, rfl, .inr (by decide +kernel), rfl, rfl, rfl, rfl, rfl, rfl⟩, rfl⟩, ⟨⟨by decide +kernel, by decide +kernel, by decide +kernel, by decide +kernel, by decide +kernel, by decide +kernel, by decide +kernel, by decide +kernel⟩, ⟨rfl, by decide +kernel, rfl, .inr (by decide +kernel), rfl, rfl, rfl, rfl, rfl, rfl⟩, rfl⟩, ⟨⟨by decide +kernel, by decide +kernel, by decide +kernel, by decide +kernel, by decide +kernel, by decide +kernel, by decide +kernel, by decide +kernel⟩, ⟨rfl, by decide +kernel, rfl, .inr (by decide +kernel), rfl, rfl, rfl, rfl, rfl, rfl⟩, rfl⟩, ?_, ⟨⟨by decide +kernel, by decide +kernel, by decide +kernel, by decide +kernel, by decide +kernel, by decide +kernel, by decide +kernel, by decide +kernel⟩, ⟨rfl, by decide +kernel, rfl, .inr (by decide +kernel), rfl, rfl, rfl, rfl, rfl, rfl⟩, rfl⟩, ?_, ⟨⟨by decide +kernel, by decide +kernel, by decide +kernel, by decide +kernel, by decide +kernel, by decide +kernel, by decide +kernel, by decide +kernel⟩, ⟨rfl, by decide +kernel, rfl, .inr (by decide +kernel), rfl, rfl, rfl, rfl, rfl, rfl⟩, rfl⟩, ⟨⟨by decide +kernel, by decide +kernel, by decide +kernel, by decide +kernel, by decide +kernel, by decide +kernel, by decide +kernel, by decide +kernel⟩, ⟨rfl, by decide +kernel, rfl, .inr (by decide +kernel), rfl, rfl, rfl, rfl, rfl, rfl⟩, rfl⟩, ?_, ?_, ?_, ?_, ?_⟩ <;> decide +kernel

theorem witness_BanksChangeAndAreTested :
    let s := fun (m : Memc) => ({ State.reset with memc := m } : State)
    let m := State.reset.memc
    State.reset.Calm ∧ (s { m with trans := [(3, .off)] }).Calm ∧ ((s { m with trans := [(3, .off)] }).at_ 9).Calm ∧
      ((s { m with test := some 19, banks := [(19, .test)] }).at_ 9).Calm ∧ State.reset.memc.trans = [] ∧ State.reset.memc.test = none ∧
      bitsOf (0x00130001 : Word) 16 5 = 19 ∧ State.reset.bank 19 = .on ∧ State.reset.bankBad 19 = false ∧ State.reset.anyEngine = false ∧
      bitsOf (0x00140001 : Word) 16 5 = 20 := by
  refine ⟨⟨⟨by decide +kernel, by decide +kernel, by decide +kernel, by decide +kernel, by decide +kernel, by decide +kernel, by decide +kernel, by decide +kernel⟩, ⟨rfl, by decide +kernel, rfl, .inr (by decide +kernel), rfl, rfl, rfl, rfl, rfl, rfl⟩, rfl⟩, ⟨⟨by decide +kernel, by decide +kernel, by decide +kernel, by decide +kernel, by decide +kernel, by decide +kernel, by decide +kernel, by decide +kernel⟩, ⟨rfl, by decide +kernel, rfl, .inr (by decide +kernel), rfl, rfl, rfl, rfl, rfl, rfl⟩, rfl⟩, ⟨⟨by decide +kernel, by decide +kernel, by decide +kernel, by decide +kernel, by decide +kernel, by decide +kernel, by decide +kernel, by decide +kernel⟩, ⟨rfl, by decide +kernel, rfl, .inr (by decide +kernel), rfl, rfl, rfl, rfl, rfl, rfl⟩, rfl⟩, ⟨⟨by decide +kernel, by decide +kernel, by decide +kernel, by decide +kernel, by decide +kernel, by decide +kernel, by decide +kernel, by decide +kernel⟩, ⟨rfl, by decide +kernel, rfl, .inr (by decide +kernel), rfl, rfl, rfl, rfl, rfl, rfl⟩, rfl⟩, ?_, ?_, ?_, ?_, ?_, ?_, ?_⟩ <;> decide +kernel

theorem witness_FlashCommandsAreChecked :
    let s := fun (rs : List (Nat × Word)) => ({ State.reset with regs := rs } : State)
    let e := s [(Reg.FLC_CTL, 1), (Reg.FLC_ADDR, 0x10280000), (Reg.FLC_PROT, 0)]
    let busy : State := { e with flc := ⟨some ⟨2, 0x10280000, 0, 0, [], false, true, 0, none⟩, [], []⟩ }
    let r : FlcReq := ⟨1, 0x10280000, 1, 0, [0, 0], none⟩
    e.Calm ∧ busy.Calm ∧ e.get (Reg.EVL_LINECFG_SUB (e.outLine 15)) = 0 ∧ inFlash 0x10280000 256 = true ∧ blockOf 0x10280000 = blockOf (0x10280000 + 256 - 1) ∧
      e.flcProtected r = false ∧ e.flcGuarded r = false ∧ State.reset.flcProtected { r with addr := 0x10000000 } = true ∧
      ({ e with core0 := { e.core0 with run := .running } } : State).flcGuarded { r with vecs := [0x18000100, 0], addr := 0x10FF0000 } = true ∧
      e.selector = some 0x5A00 ∧ ({ e with memc := { e.memc with bad := [selAddr] } } : State).selector = none ∧ (e.setWord selAddr 0xFFFF5A00).selector = some 0xFFFF5A00 ∧ (e.setWord selAddr 0xFFFF5A00).Calm := by
  refine ⟨⟨⟨by decide +kernel, by decide +kernel, by decide +kernel, by decide +kernel, by decide +kernel, by decide +kernel, by decide +kernel, by decide +kernel⟩, ⟨rfl, by decide +kernel, rfl, .inr (by decide +kernel), rfl, rfl, rfl, rfl, rfl, rfl⟩, rfl⟩, ⟨⟨by decide +kernel, by decide +kernel, by decide +kernel, by decide +kernel, by decide +kernel, by decide +kernel, by decide +kernel, by decide +kernel⟩, ⟨rfl, by decide +kernel, rfl, .inr (by decide +kernel), rfl, rfl, rfl, rfl, rfl, rfl⟩, rfl⟩, ?_, ?_, ?_, ?_, ?_, ?_, ?_, ?_, ?_, ?_, ⟨⟨by decide +kernel, by decide +kernel, by decide +kernel, by decide +kernel, by decide +kernel, by decide +kernel, by decide +kernel, by decide +kernel⟩, ⟨rfl, by decide +kernel, rfl, .inr (by decide +kernel), rfl, rfl, rfl, rfl, rfl, rfl⟩, rfl⟩⟩ <;> decide +kernel

theorem witness_FlashOperationsEnd :
    let v := fun (o : FlcOp) => ({ State.reset with flc := ⟨some o, [], []⟩ } : State).at_ 4000000
    let p : FlcOp := ⟨1, 0x13000100, 1, 40, List.replicate 256 0x5A, false, false, 0, none⟩
    (v p).Calm ∧ (v { p with op := 2, suspReq := true }).Calm ∧ (v { p with op := 3 }).Calm ∧
      (v p).get (Reg.EVL_LINECFG_SUB ((v p).outLine 15)) = 0 ∧ (v p).flc.held = [] ∧ (v p).start.dump = none ∧ pageOf p.addr ∉ (v p).flc.marked ∧ p.reply = none ∧ p.latch.length = 256 ∧
      (∀ a, p.addr ≤ a → a < p.addr + 256 → (v p).byte a = 0xFF) ∧ inFlash p.addr 1 = true ∧ p.lastAcc + 2000 ≤ (v p).now ∧
      (State.reset.at_ 4000000).Calm ∧ (State.reset.at_ 4000000).flc.op = none := by
  refine ⟨⟨⟨by decide +kernel, by decide +kernel, by decide +kernel, by decide +kernel, by decide +kernel, by decide +kernel, by decide +kernel, by decide +kernel⟩, ⟨rfl, by decide +kernel, rfl, .inr (by decide +kernel), rfl, rfl, rfl, rfl, rfl, rfl⟩, rfl⟩, ⟨⟨by decide +kernel, by decide +kernel, by decide +kernel, by decide +kernel, by decide +kernel, by decide +kernel, by decide +kernel, by decide +kernel⟩, ⟨rfl, by decide +kernel, rfl, .inr (by decide +kernel), rfl, rfl, rfl, rfl, rfl, rfl⟩, rfl⟩, ⟨⟨by decide +kernel, by decide +kernel, by decide +kernel, by decide +kernel, by decide +kernel, by decide +kernel, by decide +kernel, by decide +kernel⟩, ⟨rfl, by decide +kernel, rfl, .inr (by decide +kernel), rfl, rfl, rfl, rfl, rfl, rfl⟩, rfl⟩, ?_, ?_, ?_, ?_, ?_, ?_, ?_, ?_, ?_, ⟨⟨by decide +kernel, by decide +kernel, by decide +kernel, by decide +kernel, by decide +kernel, by decide +kernel, by decide +kernel, by decide +kernel⟩, ⟨rfl, by decide +kernel, rfl, .inr (by decide +kernel), rfl, rfl, rfl, rfl, rfl, rfl⟩, rfl⟩, ?_⟩
  case refine_7 =>
    have h : ∀ i, i < 256 → (({ State.reset with flc := ⟨some ⟨1, 0x13000100, 1, 40, List.replicate 256 0x5A, false, false, 0, none⟩, [], []⟩ } : State).at_ 4000000).byte
        (0x13000100 + i) = 0xFF := by decide +kernel
    intro a h1 h2
    have := h (a - 0x13000100) (by simp only [] at h1 h2; omega)
    rwa [show 0x13000100 + (a - 0x13000100) = a by simp only [] at h1; omega] at this
  all_goals decide +kernel

theorem witness_EventsReachTheirTask :
    let s := fun (sub : Word) => ({ State.reset with regs := [(Reg.EVL_LINECFG 95, sub)] } : State)
    (s 0x00070001).Calm ∧ (s 0).Calm ∧ bitsOf (0x0000075F : Word) 0 7 = 95 ∧ bitsOf (0x0000075F : Word) 8 3 = 7 ∧
      (s 0x00070084).get (Reg.EVL_LINECFG_HOPLIM 95) = 7 ∧ (s 0x00000084).get (Reg.EVL_LINECFG_HOPLIM 95) = 0 ∧
      ((s 0x00070084).setEng 16 { (s 0).eng 16 with run := true }).Calm ∧ (((s 0x00070084).setEng 16 { (s 0).eng 16 with run := true }).eng 16).run = true ∧
      (s 0x00070097).Calm ∧ (s 0x0007009F).Calm ∧ (s 0x000700A0).Calm ∧ (s 0x000700D1).get (Reg.EVL_LINECFG_SUB 95) = 209 ∧
      (({ s 0x000700D1 with core1 := { Core.reset with run := .wfi } } : State)).Calm ∧ subOk 161 = false ∧
      (s 0x00070084).get (Reg.EVL_LINECFG_SUB 95) = 132 ∧ bitsOf (132 : Word) 0 9 = 132 := by
  refine ⟨⟨⟨by decide +kernel, by decide +kernel, by decide +kernel, by decide +kernel, by decide +kernel, by decide +kernel, by decide +kernel, by decide +kernel⟩, ⟨rfl, by decide +kernel, rfl, .inr (by decide +kernel), rfl, rfl, rfl, rfl, rfl, rfl⟩, rfl⟩, ⟨⟨by decide +kernel, by decide +kernel, by decide +kernel, by decide +kernel, by decide +kernel, by decide +kernel, by decide +kernel, by decide +kernel⟩, ⟨rfl, by decide +kernel, rfl, .inr (by decide +kernel), rfl, rfl, rfl, rfl, rfl, rfl⟩, rfl⟩, ?_, ?_, ?_, ?_, ⟨⟨by decide +kernel, by decide +kernel, by decide +kernel, by decide +kernel, by decide +kernel, by decide +kernel, by decide +kernel, by decide +kernel⟩, ⟨rfl, by decide +kernel, rfl, .inr (by decide +kernel), rfl, rfl, rfl, rfl, rfl, rfl⟩, rfl⟩, ?_, ⟨⟨by decide +kernel, by decide +kernel, by decide +kernel, by decide +kernel, by decide +kernel, by decide +kernel, by decide +kernel, by decide +kernel⟩, ⟨rfl, by decide +kernel, rfl, .inr (by decide +kernel), rfl, rfl, rfl, rfl, rfl, rfl⟩, rfl⟩, ⟨⟨by decide +kernel, by decide +kernel, by decide +kernel, by decide +kernel, by decide +kernel, by decide +kernel, by decide +kernel, by decide +kernel⟩, ⟨rfl, by decide +kernel, rfl, .inr (by decide +kernel), rfl, rfl, rfl, rfl, rfl, rfl⟩, rfl⟩, ⟨⟨by decide +kernel, by decide +kernel, by decide +kernel, by decide +kernel, by decide +kernel, by decide +kernel, by decide +kernel, by decide +kernel⟩, ⟨rfl, by decide +kernel, rfl, .inr (by decide +kernel), rfl, rfl, rfl, rfl, rfl, rfl⟩, rfl⟩, ?_, ⟨⟨by decide +kernel, by decide +kernel, by decide +kernel, by decide +kernel, by decide +kernel, by decide +kernel, by decide +kernel, by decide +kernel⟩, ⟨rfl, by decide +kernel, rfl, .inr (by decide +kernel), rfl, rfl, rfl, rfl, rfl, rfl⟩, rfl⟩, ?_, ?_, ?_⟩ <;> decide +kernel

theorem witness_EventsReachTheirTask_edge :
    let b : State := { State.reset with regs := [(Reg.EVL_LINECFG 56, 0x000000AA), (Reg.EVL_PUBCFG 21, 56), (Reg.GPIO_CFG 2, 8), (Reg.GPIO_CFG 5, 0x200)] }
    let v := ({ b with pins := { b.pins with vio := true } } : State).at_ 40
    let w := ({ b with pins := { b.pins with vio := true }, evl := ⟨40, [v.outLine 21]⟩ } : State).at_ 40
    v.Calm ∧ w.Calm ∧ v.padSees 5 true = true ∧ v.edgeOn 5 true = true ∧ v.outLine 21 < 96 ∧ v.flag (Reg.GPIO_CFG_OE 2) = true ∧
      v.padFunc 2 = 0 ∧ w.evl.time = w.now := by
  refine ⟨⟨⟨by decide +kernel, by decide +kernel, by decide +kernel, by decide +kernel, by decide +kernel, by decide +kernel, by decide +kernel, by decide +kernel⟩, ⟨rfl, by decide +kernel, rfl, .inr (by decide +kernel), rfl, rfl, rfl, rfl, rfl, rfl⟩, rfl⟩, ⟨⟨by decide +kernel, by decide +kernel, by decide +kernel, by decide +kernel, by decide +kernel, by decide +kernel, by decide +kernel, by decide +kernel⟩, ⟨rfl, by decide +kernel, rfl, .inr (by decide +kernel), rfl, rfl, rfl, rfl, rfl, rfl⟩, rfl⟩, ?_, ?_, ?_, ?_, ?_, ?_⟩ <;> decide +kernel

theorem witness_PostsBecomeRecords :
    let b : State := { State.reset with regs := [(Reg.ICOL_CTL 1, 1), (Reg.ICOL_RBASE 1, 0x200FF000), (Reg.ICOL_RCFG 1, 2),
      (enWord .c1 0, 1), (enWord .c1 31, 0x80000000), (pendWord .c1 0, 1)] }
    let p : IPost := ⟨1023, 7, true, 5, 6, 70⟩
    let v := ({ b with icol1 := { Icol.reset with buf := [p] } } : State).at_ 400000
    let f := ({ b with icol1 := { Icol.reset with buf := [p], recs := [⟨7, 0, 1, false⟩, ⟨7, 1, 1, false⟩] } } : State).at_ 400000
    v.Calm ∧ f.Calm ∧ v.icolRoom .c1 7 = true ∧ f.icolRoom .c1 7 = false ∧ v.flag (enBit .c1 1023) = true ∧ v.flag (pendBit .c1 0) = true ∧ v.flag (enBit .c1 0) = true ∧
      v.icolRoom .c1 (v.pendPri .c1 0) = true ∧ (v.icol .c1).buf = [p] ∧ 0x21000 ≤ v.get Reg.REEL_TXQBASE_ADDR ∧
      (v.icol .c0).buf = [] ∧ v.flag (enBit .c0 0) = false := by
  refine ⟨⟨⟨by decide +kernel, by decide +kernel, by decide +kernel, by decide +kernel, by decide +kernel, by decide +kernel, by decide +kernel, by decide +kernel⟩, ⟨rfl, by decide +kernel, rfl, .inr (by decide +kernel), rfl, rfl, rfl, rfl, rfl, rfl⟩, rfl⟩, ⟨⟨by decide +kernel, by decide +kernel, by decide +kernel, by decide +kernel, by decide +kernel, by decide +kernel, by decide +kernel, by decide +kernel⟩, ⟨rfl, by decide +kernel, rfl, .inr (by decide +kernel), rfl, rfl, rfl, rfl, rfl, rfl⟩, rfl⟩, ?_, ?_, ?_, ?_, ?_, ?_, ?_, ?_, ?_, ?_⟩ <;> decide +kernel

theorem witness_TakeEoiModerationAndWindow :
    let b : State := { State.reset with regs := [(Reg.ICOL_CTL 1, 1), (Reg.ICOL_MOD 1, 0x80640002)], core1 := { Core.reset with run := .running } }
    let s := fun (i : Icol) => ({ b with icol1 := i } : State)
    let h : Icol := { Icol.reset with recs := [⟨7, 63, 1023, false⟩], mod := .hold 0 }
    (s h).Calm ∧ (s h).eligible .c1 = [⟨7, 63, 1023, false⟩] ∧ (s { h with run := 7, stack := [(8, ⟨7, 63, 1023, true⟩)] }).Calm ∧
      b.Calm ∧ b.eligible .c1 = [] ∧ ((s h).at_ 3999).Calm ∧ ((s h).at_ 4000).Calm ∧ ((s h).at_ 4000).eligible .c1 ≠ [] ∧
      ((s h).at_ 4000).get (Reg.ICOL_MOD_N 1) = 2 ∧ ((s h).at_ 4000).get (Reg.ICOL_MOD_T 1) = 100 ∧ ((s h).at_ 4000).get (Reg.ICOL_MOD_BYP 1) = 8 ∧
      ((s h).at_ 4000).now = 4000 ∧ (((s h).at_ 3999).core .c1).quiescent = false := by
  refine ⟨⟨⟨by decide +kernel, by decide +kernel, by decide +kernel, by decide +kernel, by decide +kernel, by decide +kernel, by decide +kernel, by decide +kernel⟩, ⟨rfl, by decide +kernel, rfl, .inr (by decide +kernel), rfl, rfl, rfl, rfl, rfl, rfl⟩, rfl⟩, ?_, ⟨⟨by decide +kernel, by decide +kernel, by decide +kernel, by decide +kernel, by decide +kernel, by decide +kernel, by decide +kernel, by decide +kernel⟩, ⟨rfl, by decide +kernel, rfl, .inr (by decide +kernel), rfl, rfl, rfl, rfl, rfl, rfl⟩, rfl⟩, ⟨⟨by decide +kernel, by decide +kernel, by decide +kernel, by decide +kernel, by decide +kernel, by decide +kernel, by decide +kernel, by decide +kernel⟩, ⟨rfl, by decide +kernel, rfl, .inr (by decide +kernel), rfl, rfl, rfl, rfl, rfl, rfl⟩, rfl⟩, ?_, ⟨⟨by decide +kernel, by decide +kernel, by decide +kernel, by decide +kernel, by decide +kernel, by decide +kernel, by decide +kernel, by decide +kernel⟩, ⟨rfl, by decide +kernel, rfl, .inr (by decide +kernel), rfl, rfl, rfl, rfl, rfl, rfl⟩, rfl⟩, ⟨⟨by decide +kernel, by decide +kernel, by decide +kernel, by decide +kernel, by decide +kernel, by decide +kernel, by decide +kernel, by decide +kernel⟩, ⟨rfl, by decide +kernel, rfl, .inr (by decide +kernel), rfl, rfl, rfl, rfl, rfl, rfl⟩, rfl⟩, ?_, ?_, ?_, ?_, ?_, ?_⟩ <;> decide +kernel

theorem witness_SleepEntriesAreAnswered :
    let q : Core := { Core.reset with run := .wfi }
    let b : State := { State.reset with core0 := q, core1 := q, start := { State.reset.start with rcal := false } }
    let m := b.memc
    let h : Hs := ⟨2, false, 4, some (12, 25), 0, 0, false⟩
    let v := ({ b with pwr := { b.pwr with hs := some h } } : State).at_ 40001
    b.Calm ∧ b.start.busy = false ∧ b.core0.quiescent = true ∧ (∀ d, d < 5 → 1 ≤ d → b.answer d 2 = .grant) ∧
      ({ b with memc := { m with trans := [(3, .ret)] } } : State).answer 4 2 = .delay 12 25 ∧ b.answer 1 3 = .refuse 4 16 ∧
      v.waits = [] ∧ v.pend = 0 ∧ v.env.st = .off ∧ v.start.req = 0 ∧ v.eligible .c0 = [] ∧ v.pwr.hs = some h ∧
      ({ b with regs := [(Reg.PWR_HSCFG, 1)] } : State).get Reg.PWR_HSCFG_DLYMAX = 1 ∧
      40000 * max 1 (({ b with regs := [(Reg.PWR_HSCFG, 0)] } : State).get Reg.PWR_HSCFG_DLYMAX) < h.delayT + (v.now - h.delayFrom) ∧
      v.answer 4 2 = .grant ∧ v.pwr.wakeGot = 0 ∧ ({ b with pwr := { b.pwr with forced := some 11 } } : State).canonical ∧ ({ b with core0 := { q with run := .running } } : State).core0.quiescent = false := by
  refine ⟨⟨⟨by decide +kernel, by decide +kernel, by decide +kernel, by decide +kernel, by decide +kernel, by decide +kernel, by decide +kernel, by decide +kernel⟩, ⟨rfl, by decide +kernel, rfl, .inr (by decide +kernel), rfl, rfl, rfl, rfl, rfl, rfl⟩, rfl⟩, ?_, ?_, ?_, ?_, ?_, ?_, ?_, ?_, ?_, ?_, ?_, ?_, ?_, ?_, ?_, ⟨by decide +kernel, by decide +kernel, by decide +kernel, by decide +kernel, by decide +kernel, by decide +kernel, by decide +kernel, by decide +kernel⟩, ?_⟩ <;> decide +kernel

theorem witness_SleepModesAreEnteredAndLeft :
    let b : State := { State.reset with start := { State.reset.start with rcal := false } }
    let v := fun (p : Pwr) (rs : List (Nat × Word)) => ({ b with pwr := p, regs := rs } : State).at_ 40000
    let h : Hs := ⟨0, false, 4, none, 0, 0, true⟩
    let z := { b.pwr with forced := some 3 }
    let idle := fun (rs : List (Nat × Word)) => (({ b with pwr := z, regs := rs, engs := [(16, { Engine.reset with run := true })] } : State).setCtx 16 0 { Ctx.reset with st := .halted }
      |>.setCtx 16 1 { Ctx.reset with st := .halted } |>.setCtx 16 2 { Ctx.reset with st := .halted } |>.setCtx 16 3 { Ctx.reset with st := .halted }).at_ 40000
    let w : List (Nat × Word) := [(Reg.PWR_WAKEEN, 0x111), (Reg.PWR_WAKEAT_LO, 2000), (Reg.PWR_WAKEAT_HI, 0x80000000), (Reg.GPIO_CFG 0, 0x203)]
    b.Calm ∧ (v b.pwr []).Calm ∧ (v { b.pwr with hs := some h } []).start.busy = false ∧ (v { b.pwr with hs := some h } []).eligible .c0 = [] ∧
      (v z w).start.busy = false ∧ (v z w).wakeatUs = some 2000 ∧ 2000 ≤ (v z w).us + 1000 + (v z w).get Reg.PWR_SLEEPCFG_MARGIN ∧
      bitOf ((v z w).reg Reg.PWR_WAKEEN) 0 = true ∧ (v z w).padFunc 0 = 3 ∧ bitOf ((v z w).reg (Reg.GPIO_CFG 0)) 9 = true ∧
      (v z [(Reg.PWR_WAKEEN, 0x100)]).reg Reg.PWR_WAKEEN = 0x100 ∧ (idle []).hoverIdle = true ∧ (v z []).hoverWants = false ∧ (v z []).hoverNear 0 = false ∧
      (v { b.pwr with vto := some 1, vcur := 2, pnext := some 1 } []).Calm ∧ (v z []).waits = [] ∧ (v z []).pend = 0 ∧ (v z []).pwr.wakeGot = 0 ∧
      (v z [(Reg.RFE_SPCTL, 0x10000)]).hoverIdle = false ∧ (v z [(Reg.RFE_SPCTL, 0x10000)]).hoverWants = true := by
  refine ⟨⟨⟨by decide +kernel, by decide +kernel, by decide +kernel, by decide +kernel, by decide +kernel, by decide +kernel, by decide +kernel, by decide +kernel⟩, ⟨rfl, by decide +kernel, rfl, .inr (by decide +kernel), rfl, rfl, rfl, rfl, rfl, rfl⟩, rfl⟩, ⟨⟨by decide +kernel, by decide +kernel, by decide +kernel, by decide +kernel, by decide +kernel, by decide +kernel, by decide +kernel, by decide +kernel⟩, ⟨rfl, by decide +kernel, rfl, .inr (by decide +kernel), rfl, rfl, rfl, rfl, rfl, rfl⟩, rfl⟩, ?_, ?_, ?_, ?_, ?_, ?_, ?_, ?_, ?_, ?_, ?_, ?_, ⟨⟨by decide +kernel, by decide +kernel, by decide +kernel, by decide +kernel, by decide +kernel, by decide +kernel, by decide +kernel, by decide +kernel⟩, ⟨rfl, by decide +kernel, rfl, .inr (by decide +kernel), rfl, rfl, rfl, rfl, rfl, rfl⟩, rfl⟩, ?_, ?_, ?_, ?_, ?_⟩ <;> decide +kernel

theorem witness_ClockCountsAndAlarms :
    let b : State := { State.reset with regs := [(Reg.RTC_ALM_LO 1, 3600), (Reg.RTC_ALMCTL 1, 1)] }
    let v := fun (r : Rtc) => ({ b with rtc := r } : State).at_ 40000
    let r : Rtc := { Rtc.reset with running := true, sec := 3599 }
    (v r).Calm ∧ (v { r with hour := some true }).Calm ∧ (v { r with hour := some false }).Calm ∧ (v { r with snap := true }).Calm ∧
      (v r).get (Reg.EVL_LINECFG_SUB ((v r).outLine 4)) = 0 ∧ (v r).get (Reg.EVL_LINECFG_SUB ((v r).outLine 5)) = 0 ∧ (v r).almTime 1 = 3600 ∧
      (v r).start.busy = false ∧ b.Calm ∧ ({ b with rtc := { r with conv := true } } : State).Calm ∧ b.calIn.valid = true ∧
      ({ b with regs := [(Reg.RTC_CALDATE, 0x0834021D)] } : State).calIn.valid = false ∧ (Cal.mk 2100 2 28 23 59 58).count = 0xBC66DBFE ∧
      Cal.ofCount 0xBC66DC00 = Cal.mk 2100 3 1 0 0 0 ∧ ({ b with regs := [(Reg.RTC_SETSEC_LO, 0xF0610880), (Reg.RTC_SETSEC_HI, 2)] } : State).setSec = 12622825600 := by
  refine ⟨⟨⟨by decide +kernel, by decide +kernel, by decide +kernel, by decide +kernel, by decide +kernel, by decide +kernel, by decide +kernel, by decide +kernel⟩, ⟨rfl, by decide +kernel, rfl, .inr (by decide +kernel), rfl, rfl, rfl, rfl, rfl, rfl⟩, rfl⟩, ⟨⟨by decide +kernel, by decide +kernel, by decide +kernel, by decide +kernel, by decide +kernel, by decide +kernel, by decide +kernel, by decide +kernel⟩, ⟨rfl, by decide +kernel, rfl, .inr (by decide +kernel), rfl, rfl, rfl, rfl, rfl, rfl⟩, rfl⟩, ⟨⟨by decide +kernel, by decide +kernel, by decide +kernel, by decide +kernel, by decide +kernel, by decide +kernel, by decide +kernel, by decide +kernel⟩, ⟨rfl, by decide +kernel, rfl, .inr (by decide +kernel), rfl, rfl, rfl, rfl, rfl, rfl⟩, rfl⟩, ⟨⟨by decide +kernel, by decide +kernel, by decide +kernel, by decide +kernel, by decide +kernel, by decide +kernel, by decide +kernel, by decide +kernel⟩, ⟨rfl, by decide +kernel, rfl, .inr (by decide +kernel), rfl, rfl, rfl, rfl, rfl, rfl⟩, rfl⟩, ?_, ?_, ?_, ?_, ⟨⟨by decide +kernel, by decide +kernel, by decide +kernel, by decide +kernel, by decide +kernel, by decide +kernel, by decide +kernel, by decide +kernel⟩, ⟨rfl, by decide +kernel, rfl, .inr (by decide +kernel), rfl, rfl, rfl, rfl, rfl, rfl⟩, rfl⟩, ⟨⟨by decide +kernel, by decide +kernel, by decide +kernel, by decide +kernel, by decide +kernel, by decide +kernel, by decide +kernel, by decide +kernel⟩, ⟨rfl, by decide +kernel, rfl, .inr (by decide +kernel), rfl, rfl, rfl, rfl, rfl, rfl⟩, rfl⟩, ?_, ?_, ?_, ?_, ?_⟩ <;> decide +kernel

theorem witness_ActivationsRunTheirPhases :
    let b := State.reset
    let v := fun (x : Upd) => ({ b with upd := x } : State).at_ 4000000
    let u := Upd.reset
    let p := ({ b with upd := { u with phase := .pause }, pwr := { b.pwr with forced := some 10 } } : State).at_ 80
    b.Calm ∧ b.upd.phase = .idle ∧ b.start.safe = false ∧ b.start.recovery = false ∧ b.dbg.dmactive = false ∧ bitsOf (0xAC7E1401 : Word) 16 16 = 0xAC7E ∧
      ({ b with upd := { u with phase := .verify } } : State).Calm ∧ ({ b with upd := { u with phase := .quiesce, holds := 3 } } : State).Calm ∧
      (v { u with phase := .verify, src := 0x20000000 }).Calm ∧ (v { u with phase := .verify, src := 0x20000000 }).manAt 0x20000000 0x50 = true ∧
      (v { u with phase := .verify, src := 0x20000000 }).manCount 0x20000000 = 0 ∧ (v { u with phase := .verify, src := 1 }).manAt 1 0x50 = false ∧
      (v { u with phase := .quiesce }).Calm ∧ ({ v { u with phase := .quiesce } with flc := ⟨some ⟨2, 0x10280000, 0, 0, [], false, true, 0, none⟩, [], []⟩ } : State).quietNow = false ∧ (v { u with phase := .quiesce, hard := true }).stopNow = true ∧
      ({ v { u with phase := .quiesce } with engs := [(16, { Engine.reset with run := true })], ctxs := (List.range 4).map fun c => (128 + c, { Ctx.reset with st := .halted }) } : State).quietNow = true ∧
      p.upd.phase = .pause ∧ p.pwr.forced = some 10 ∧ p.waits = [] ∧ p.pend = 0 ∧ p.env.st = .off ∧ p.start.busy = false ∧ p.start.req = 0 := by
  refine ⟨⟨⟨by decide +kernel, by decide +kernel, by decide +kernel, by decide +kernel, by decide +kernel, by decide +kernel, by decide +kernel, by decide +kernel⟩, ⟨rfl, by decide +kernel, rfl, .inr (by decide +kernel), rfl, rfl, rfl, rfl, rfl, rfl⟩, rfl⟩, ?_, ?_, ?_, ?_, ?_, ⟨⟨by decide +kernel, by decide +kernel, by decide +kernel, by decide +kernel, by decide +kernel, by decide +kernel, by decide +kernel, by decide +kernel⟩, ⟨rfl, by decide +kernel, rfl, .inr (by decide +kernel), rfl, rfl, rfl, rfl, rfl, rfl⟩, rfl⟩, ⟨⟨by decide +kernel, by decide +kernel, by decide +kernel, by decide +kernel, by decide +kernel, by decide +kernel, by decide +kernel, by decide +kernel⟩, ⟨rfl, by decide +kernel, rfl, .inr (by decide +kernel), rfl, rfl, rfl, rfl, rfl, rfl⟩, rfl⟩, ⟨⟨by decide +kernel, by decide +kernel, by decide +kernel, by decide +kernel, by decide +kernel, by decide +kernel, by decide +kernel, by decide +kernel⟩, ⟨rfl, by decide +kernel, rfl, .inr (by decide +kernel), rfl, rfl, rfl, rfl, rfl, rfl⟩, rfl⟩, ?_, ?_, ?_, ⟨⟨by decide +kernel, by decide +kernel, by decide +kernel, by decide +kernel, by decide +kernel, by decide +kernel, by decide +kernel, by decide +kernel⟩, ⟨rfl, by decide +kernel, rfl, .inr (by decide +kernel), rfl, rfl, rfl, rfl, rfl, rfl⟩, rfl⟩, ?_, ?_, ?_, ?_, ?_, ?_, ?_, ?_, ?_, ?_⟩ <;> decide +kernel

theorem witness_HostTransfersMoveFrames :
    let b : State := { State.reset with regs := [(Reg.HOSTIF_CTL, 3)] }
    let h := b.host
    let s := fun (x : Hostif) => ({ b with host := x } : State)
    let f : List Byte := [0x70, 5, 6, 0, 0, 0, 0, 0x20, 4, 0]
    let m := (s { h with rxFull := true, rxHw := true, rxLen := 10 }).bufPut (Reg.HOSTIF_RXBUF 0) f
    let w := (s { h with rxFull := true, rxHw := true, rxLen := 12 }).bufPut (Reg.HOSTIF_RXBUF 0) [0x71, 5, 8, 0, 0xFC, 0xFF, 0x0F, 0x20, 1, 2, 3, 4]
    (s { h with cs := true }).Calm ∧ (s { h with cs := true, asleep := true }).Calm ∧ (s { h with cs := true, txRdy := true, txOctets := [1, 2] }).Calm ∧ ((s h).at_ 9).Calm ∧ ((s h).at_ 9).pins.vio = true ∧
      frameLen f = 6 ∧ (f ++ frameCrc f).length = 8 + 6 ∧ ((f ++ frameCrc f).drop 10).take 4 = frameCrc ((f ++ frameCrc f).take 10) ∧ frameLen [0, 0, 0xFD, 3] = 1021 ∧
      m.Calm ∧ m.rxFrame = f ∧ (framePay f).length = 6 ∧ leNat ((framePay f).take 4) = 0x20000000 ∧ w.Calm ∧ frameCmd w.rxFrame = 0x71 ∧
      leNat ((framePay w.rxFrame).take 4) = 0x200FFFFC ∧ (framePay w.rxFrame).length = 8 ∧ m.bank 15 = .on ∧ m.bankBad 15 = false := by
  refine ⟨⟨⟨by decide +kernel, by decide +kernel, by decide +kernel, by decide +kernel, by decide +kernel, by decide +kernel, by decide +kernel, by decide +kernel⟩, ⟨rfl, by decide +kernel, rfl, .inr (by decide +kernel), rfl, rfl, rfl, rfl, rfl, rfl⟩, rfl⟩, ⟨⟨by decide +kernel, by decide +kernel, by decide +kernel, by decide +kernel, by decide +kernel, by decide +kernel, by decide +kernel, by decide +kernel⟩, ⟨rfl, by decide +kernel, rfl, .inr (by decide +kernel), rfl, rfl, rfl, rfl, rfl, rfl⟩, rfl⟩, ⟨⟨by decide +kernel, by decide +kernel, by decide +kernel, by decide +kernel, by decide +kernel, by decide +kernel, by decide +kernel, by decide +kernel⟩, ⟨rfl, by decide +kernel, rfl, .inr (by decide +kernel), rfl, rfl, rfl, rfl, rfl, rfl⟩, rfl⟩, ⟨⟨by decide +kernel, by decide +kernel, by decide +kernel, by decide +kernel, by decide +kernel, by decide +kernel, by decide +kernel, by decide +kernel⟩, ⟨rfl, by decide +kernel, rfl, .inr (by decide +kernel), rfl, rfl, rfl, rfl, rfl, rfl⟩, rfl⟩, ?_, ?_, ?_, ?_, ?_, ⟨⟨by decide +kernel, by decide +kernel, by decide +kernel, by decide +kernel, by decide +kernel, by decide +kernel, by decide +kernel, by decide +kernel⟩, ⟨rfl, by decide +kernel, rfl, .inr (by decide +kernel), rfl, rfl, rfl, rfl, rfl, rfl⟩, rfl⟩, ?_, ?_, ?_, ⟨⟨by decide +kernel, by decide +kernel, by decide +kernel, by decide +kernel, by decide +kernel, by decide +kernel, by decide +kernel, by decide +kernel⟩, ⟨rfl, by decide +kernel, rfl, .inr (by decide +kernel), rfl, rfl, rfl, rfl, rfl, rfl⟩, rfl⟩, ?_, ?_, ?_, ?_, ?_⟩ <;> decide +kernel

theorem witness_RecoveryLoaderServes :
    let b : State := { State.reset with regs := [(Reg.FLC_PROT, 0), (Reg.HOSTIF_CTL, 3)], start := { State.reset.start with recovery := true } }
    let s := fun (f : List Byte) => ({ b with host := { b.host with rxFull := true, rxLen := f.length } } : State).bufPut (Reg.HOSTIF_RXBUF 0) f
    let e : List Byte := [3, 9, 4, 0, 0, 0, 0x28, 0x10]
    let o : FlcOp := ⟨2, 0x10280000, 0, 0, [], false, false, 0, some ⟨false, 3, 9⟩⟩
    let r : FlcReq := ⟨2, 0x10280000, 0, 0, [], none⟩
    (s e).Calm ∧ (s e).loaderFrame .mailbox = some e ∧ (s [1, 2, 0, 0]).loaderFrame .mailbox = some [1, 2, 0, 0] ∧ (s e).loaderFrame (.uart e) = none ∧
      (s e).get (Reg.EVL_LINECFG_SUB ((s e).outLine 15)) = 0 ∧ (s e).flag Reg.FLC_CTL_GUARD = false ∧ r.addrOk = true ∧ (s e).flcProtected r = false ∧
      (framePay e).length = 4 ∧ leNat ((framePay e).take 4) = 0x10280000 ∧ (({ b with flc := ⟨some o, [], []⟩ } : State).at_ 9).Calm ∧
      ({ b with host := { b.host with cs := true, txRdy := true, reboot := true } } : State).Calm ∧ b.start.busy = false ∧ b.uart0.tx = [] ∧
      (s e).manCheck 0x20000000 false false = some (3, 0) ∧ region 0x200FFFFC = .sram ∧ region 0x20100000 ≠ .sram := by
  refine ⟨⟨⟨by decide +kernel, by decide +kernel, by decide +kernel, by decide +kernel, by decide +kernel, by decide +kernel, by decide +kernel, by decide +kernel⟩, ⟨rfl, by decide +kernel, rfl, .inr (by decide +kernel), rfl, rfl, rfl, rfl, rfl, rfl⟩, rfl⟩, ?_, ?_, ?_, ?_, ?_, ?_, ?_, ?_, ?_, ⟨⟨by decide +kernel, by decide +kernel, by decide +kernel, by decide +kernel, by decide +kernel, by decide +kernel, by decide +kernel, by decide +kernel⟩, ⟨rfl, by decide +kernel, rfl, .inr (by decide +kernel), rfl, rfl, rfl, rfl, rfl, rfl⟩, rfl⟩, ⟨⟨by decide +kernel, by decide +kernel, by decide +kernel, by decide +kernel, by decide +kernel, by decide +kernel, by decide +kernel, by decide +kernel⟩, ⟨rfl, by decide +kernel, rfl, .inr (by decide +kernel), rfl, rfl, rfl, rfl, rfl, rfl⟩, rfl⟩, ?_, ?_, ?_, ?_, ?_⟩ <;> decide +kernel

theorem witness_SerialUnitsMoveBytes :
    let b : State := { State.reset with regs := [(Reg.GPIO_CFG 17, 1), (Reg.SPIC_CTL 1, 1), (Reg.UART_CTL 1, 3)] }
    let v := ({ b with uart1 := ⟨List.replicate 16 7, [1], 0⟩, spic1 := { Serial.reset with busy := true, cmd := 2 }, i2c1 := { Serial.reset with busy := true, cmd := 0x14000 } } : State).at_ 400
    v.Calm ∧ v.uartRxOn 1 = true ∧ v.uartRxOn 0 = false ∧ v.uartSending 1 = true ∧ v.uartClock 1 = true ∧ v.host.reboot = false ∧
      (v.spic 1).busy = true ∧ (v.spic 0).busy = false ∧ (v.i2c 1).busy = true ∧ bitOf (v.i2c 1).cmd 14 = true ∧ b.Calm ∧
      b.flag (Reg.SPIC_CTL_EN 1) = true ∧ (b.spic 1).busy = false ∧ (v.uart 1).rx = 7 :: List.replicate 15 7 ∧ (b.uart 0).rx = [] ∧ b.awake = true ∧ b.now ≤ 400 ∧ (v.uart 1).tx = [1] := by
  refine ⟨⟨⟨by decide +kernel, by decide +kernel, by decide +kernel, by decide +kernel, by decide +kernel, by decide +kernel, by decide +kernel, by decide +kernel⟩, ⟨rfl, by decide +kernel, rfl, .inr (by decide +kernel), rfl, rfl, rfl, rfl, rfl, rfl⟩, rfl⟩, ?_, ?_, ?_, ?_, ?_, ?_, ?_, ?_, ?_, ⟨⟨by decide +kernel, by decide +kernel, by decide +kernel, by decide +kernel, by decide +kernel, by decide +kernel, by decide +kernel, by decide +kernel⟩, ⟨rfl, by decide +kernel, rfl, .inr (by decide +kernel), rfl, rfl, rfl, rfl, rfl, rfl⟩, rfl⟩, ?_, ?_, ?_, ?_, ?_, ?_, ?_⟩ <;> decide +kernel

theorem witness_ConvertersTimersAndPins :
    let b : State := { State.reset with regs := [(Reg.GPIO_CFG 39, 0x300), (Reg.SADC_CTL, 0x71), (Reg.SADC_MONCFG, 0x55D80A28), (Reg.TMR_CTL 7, 3)] }
    let s := fun (q : Sadc) => ({ b with sadc := q, tmrs := [(7, ⟨some 400, some 2, none, none⟩)] } : State)
    let r : SadcReq := ⟨3, none, none⟩
    (s ⟨none, []⟩).Calm ∧ (s ⟨some r, [⟨0, some 1, none⟩]⟩).Calm ∧ (s ⟨none, []⟩).flag Reg.SADC_CTL_EN = true ∧ ((s ⟨some r, []⟩).at_ 400).Calm ∧
      ((s ⟨some { r with ctx := some 3 }, []⟩).at_ 400).Calm ∧
      (let v := (s ⟨none, []⟩).at_ 400
       v.Calm ∧ v.get (Reg.EVL_LINECFG_SUB (v.outLine 14)) = 0 ∧ v.get (Reg.EVL_LINECFG_SUB (v.outLine 13)) = 0 ∧ v.get (Reg.EVL_LINECFG_SUB (v.outLine 55)) = 0 ∧
       (v.tmr 7).due = some 400 ∧ v.now = 400 ∧ v.padSees 39 true = true ∧ v.padSees 40 true = false ∧ v.flag (Reg.GPIO_CFG_IRQ 39) = true ∧
       bitOf (v.reg (Reg.GPIO_CFG 39)) 9 = true ∧ v.pins.vio = true) ∧
      ({ b with tap := { b.tap with st := .captureDr } } : State).Calm ∧ b.tap.ir = 1 ∧ b.rfe.holder = none ∧ (b.tmr 0).stopAt ≠ some b.now ∧
      ({ b with tmrs := [(0, ⟨none, none, some 0, none⟩)] } : State).Calm ∧ b.now = 0 := by
  refine ⟨⟨⟨by decide +kernel, by decide +kernel, by decide +kernel, by decide +kernel, by decide +kernel, by decide +kernel, by decide +kernel, by decide +kernel⟩, ⟨rfl, by decide +kernel, rfl, .inr (by decide +kernel), rfl, rfl, rfl, rfl, rfl, rfl⟩, rfl⟩, ⟨⟨by decide +kernel, by decide +kernel, by decide +kernel, by decide +kernel, by decide +kernel, by decide +kernel, by decide +kernel, by decide +kernel⟩, ⟨rfl, by decide +kernel, rfl, .inr (by decide +kernel), rfl, rfl, rfl, rfl, rfl, rfl⟩, rfl⟩, ?_, ⟨⟨by decide +kernel, by decide +kernel, by decide +kernel, by decide +kernel, by decide +kernel, by decide +kernel, by decide +kernel, by decide +kernel⟩, ⟨rfl, by decide +kernel, rfl, .inr (by decide +kernel), rfl, rfl, rfl, rfl, rfl, rfl⟩, rfl⟩, ⟨⟨by decide +kernel, by decide +kernel, by decide +kernel, by decide +kernel, by decide +kernel, by decide +kernel, by decide +kernel, by decide +kernel⟩, ⟨rfl, by decide +kernel, rfl, .inr (by decide +kernel), rfl, rfl, rfl, rfl, rfl, rfl⟩, rfl⟩, ⟨⟨⟨by decide +kernel, by decide +kernel, by decide +kernel, by decide +kernel, by decide +kernel, by decide +kernel, by decide +kernel, by decide +kernel⟩, ⟨rfl, by decide +kernel, rfl, .inr (by decide +kernel), rfl, rfl, rfl, rfl, rfl, rfl⟩, rfl⟩, ?_, ?_, ?_, ?_, ?_, ?_, ?_, ?_, ?_, ?_⟩, ⟨⟨by decide +kernel, by decide +kernel, by decide +kernel, by decide +kernel, by decide +kernel, by decide +kernel, by decide +kernel, by decide +kernel⟩, ⟨rfl, by decide +kernel, rfl, .inr (by decide +kernel), rfl, rfl, rfl, rfl, rfl, rfl⟩, rfl⟩, ?_, ?_, ?_, ⟨⟨by decide +kernel, by decide +kernel, by decide +kernel, by decide +kernel, by decide +kernel, by decide +kernel, by decide +kernel, by decide +kernel⟩, ⟨rfl, by decide +kernel, rfl, .inr (by decide +kernel), rfl, rfl, rfl, rfl, rfl, rfl⟩, rfl⟩, ?_⟩ <;> decide +kernel

end
end

section
/-! SUPPORT. What an agent hears, and how a register read with RC fields ends (R9). -/

namespace Sys2Proof.Machine

/-! ### What settling leaves an agent and the quiet state -/

theorem Settles.heard {v u : State} (h : Settles v u) (ag : Agent) : u.heard ag = v.heard ag := by
  cases ag
  · exact h.core0_resp
  · exact h.core1_resp
  · exact congrArg Debug.resp h.dbg
  · exact congrArg Hostif.resp h.host

@[simp] theorem State.setReg_heard (s : State) (a : Nat) (w : Word) (ag : Agent) : (s.setReg a w).heard ag = s.heard ag := by
  cases ag <;> rfl

@[simp] theorem State.respond_heard (s : State) (ag : Agent) (r : Response) : (s.respond ag r).heard ag = r := by cases ag <;> rfl

theorem State.respond_quiet {s : State} (q : s.Quiet) (ag : Agent) (r : Response) : (s.respond ag r).Quiet :=
  q.of (by simp) (by simp) (by simp) (by simp) (by simp) (by simp) (by simp)

/-- A register write keeps the state quiet unless it is of `CFG_PEND` or of the single path's control register. -/
theorem State.setReg_quiet {s : State} (q : s.Quiet) {a : Nat} (w : Word) (hp : Reg.CFG_PEND ≠ a) (hs : Reg.RFE_SPCTL ≠ a) :
    (s.setReg a w).Quiet :=
  q.of rfl (s.setReg_reg_ne w hp) rfl rfl
    (congrArg (fun x => fget x Reg.RFE_SPCTL_EN != 0) (s.setReg_reg_ne w hs)) rfl rfl

/-! ### Reads -/

@[simp] theorem mergeBits_zero (w v : Word) : mergeBits w 0#32 v = w := by
  have h : w &&& 0xFFFFFFFF#32 = w := BitVec.and_allOnes
  simp [mergeBits, h]

/-- A register without class S bits reads back as it is applied while nothing waits (R45, R47). -/
theorem State.last_eq_reg {s : State} (q : s.Quiet) {a : Nat} (h : sMask a = 0) : s.last a = s.reg a := by
  simp [State.last, State.waitOf, q.waits, h]

/-- The RC fields of the register at `a` (R9). -/
def rcMask (a : Nat) : Word := ((regRow? a).map RegRow.rc).getD 0

theorem State.rcClear_of_rcMask_zero (s : State) {a : Nat} (h : rcMask a = 0) : s.rcClear a = s := by
  unfold State.rcClear
  unfold rcMask at h
  split
  · rename_i r hr
    rw [if_pos (by simpa [hr] using h)]
  · rfl

theorem State.rcClear_of_rcMask (s : State) {a : Nat} {m : Word} (h : rcMask a = m) (hm : m ≠ 0) :
    s.rcClear a = s.setReg a (s.reg a &&& ~~~m) := by
  unfold State.rcClear
  unfold rcMask at h
  subst h
  split
  · rename_i r hr
    rw [if_neg (by simpa [hr] using hm)]
    simp [hr]
  · rename_i hr
    simp [hr] at hm

/-- What a read of `a` through `readOut` and a latch of other registers leaves: the registers listed aside, everything. -/
theorem doneW_reads {s v : State} {ag : Agent} {x : Word} {as : List Nat} (q : v.Quiet) (hh : v.heard ag = .data x)
    (hr : s.regsBut v as) (hm : v.mem = s.mem) (hl : v.lost = s.lost) :
    ∃ u, doneW v = .next u ∧ Settles v u ∧ u.heard ag = .data x ∧ s.regsBut u as ∧ s.sameBytes u := by
  obtain ⟨u, hu, hset⟩ := doneW_settles q
  refine ⟨u, hu, hset, (hset.heard ag).trans hh, fun a ha => (hset.reg a).trans (hr a ha), fun a => ?_⟩
  rw [hset.byte a]
  unfold State.byte
  rw [hm, hl]

/-- A read of a register with RC fields returns the word and clears exactly those fields (R9). -/
theorem readOut_clears {s : State} {ag : Agent} {a : Nat} {x m : Word} (h : s.Calm) (hp : s.peek a = x) (hm : rcMask a = m)
    (h0 : m ≠ 0) (hq : Reg.CFG_PEND ≠ a ∧ Reg.RFE_SPCTL ≠ a) :
    ∃ u, doneW (s.readOut ag a) = .next u ∧ u.heard ag = .data x ∧ s.regsBut u [a] ∧ s.sameBytes u ∧
      u.reg a = s.reg a &&& ~~~m := by
  have hv : s.readOut ag a = (s.respond ag (.data x)).setReg a (s.reg a &&& ~~~m) := by
    unfold State.readOut
    rw [hp, State.rcClear_of_rcMask _ hm h0, State.respond_reg]
  have hset : Swf regReset (s.respond ag (.data x)).regs := by simpa using h.canonical.regs
  rw [hv]
  obtain ⟨u, hu, hs, hh, hr, hb⟩ := doneW_reads (s := s) (as := [a]) (x := x) (ag := ag)
    (State.setReg_quiet (State.respond_quiet h.quiet ag (.data x)) (s.reg a &&& ~~~m) hq.1 hq.2) (by simp)
    (fun b hb => by rw [State.setReg_reg_ne _ _ (by simpa using hb), State.respond_reg]) (by simp) (by simp)
  exact ⟨u, hu, hh, hr, hb, (hs.reg a).trans (State.setReg_reg_self _ hset _ _)⟩

/-- A read without RC fields returns the word and leaves the state. -/
theorem State.readOut_plain (s : State) (ag : Agent) {a : Nat} (h : rcMask a = 0) : s.readOut ag a = s.respond ag (.data (s.peek a)) :=
  State.rcClear_of_rcMask_zero _ h

/-- A read that latches one register beside it. -/
theorem read_latches {s : State} {ag : Agent} {a b : Nat} {x y : Word} (h : s.Calm) (hp : s.peek a = x) (hm : rcMask a = 0)
    (hq : Reg.CFG_PEND ≠ b ∧ Reg.RFE_SPCTL ≠ b) :
    ∃ u, doneW ((s.readOut ag a).setReg b y) = .next u ∧ u.heard ag = .data x ∧ s.regsBut u [b] ∧ s.sameBytes u ∧ u.reg b = y := by
  rw [State.readOut_plain s ag hm, hp]
  obtain ⟨u, hu, hs, hh, hr, hb⟩ := doneW_reads (s := s) (as := [b]) (x := x) (ag := ag)
    (State.setReg_quiet (State.respond_quiet h.quiet ag (.data x)) y hq.1 hq.2) (by simp)
    (fun c hc => by rw [State.setReg_reg_ne _ _ (by simpa using hc), State.respond_reg]) (by simp) (by simp)
  exact ⟨u, hu, hh, hr, hb, (hs.reg b).trans (State.setReg_reg_self _ (by simpa using h.canonical.regs) _ _)⟩

/-! ### Where a read returns the stored word -/

theorem peek_COEX_CNT (s : State) : s.peek Reg.COEX_CNT = s.last Reg.COEX_CNT := rfl
theorem peek_LINK_DWSTAT (s : State) : s.peek Reg.LINK_DWSTAT = s.last Reg.LINK_DWSTAT := rfl
theorem peek_LINK_RPUT (s : State) (r : CoreId) : s.peek (Reg.LINK_RPUT (coreNum r)) = s.last (Reg.LINK_RPUT (coreNum r)) := by
  cases r <;> rfl
theorem peek_MEMC_BCNT (s : State) : s.peek Reg.MEMC_BCNT = s.last Reg.MEMC_BCNT := rfl
theorem peek_FLC_ECNT (s : State) : s.peek Reg.FLC_ECNT = s.last Reg.FLC_ECNT := rfl
theorem peek_FLC_RRSTAT (s : State) : s.peek Reg.FLC_RRSTAT = s.last Reg.FLC_RRSTAT := rfl
theorem peek_EVL_LOOP (s : State) : s.peek Reg.EVL_LOOP = s.last Reg.EVL_LOOP := rfl
theorem peek_ICOL_OVFCNT (s : State) (c : CoreId) : s.peek (Reg.ICOL_OVFCNT (coreNum c)) = s.last (Reg.ICOL_OVFCNT (coreNum c)) := by
  cases c <;> rfl
theorem peek_SADC_RESULT (s : State) : s.peek Reg.SADC_RESULT = s.last Reg.SADC_RESULT := rfl

theorem peek_of_evl (s : State) {a : Nat} (h : 0x40005000 ≤ a) (h' : a < 0x40006000) : s.peek a = s.last a := by
  unfold State.peek
  iterate 5 rw [if_neg (by omega)]
  exact if_pos h'

theorem peek_of_lerr (s : State) {a : Nat} (h : 0x4000C800 ≤ a) (h' : a < 0x4000D000) : s.peek a = s.last a := by
  have h1 : idxIn a 0x4000C180 4 16 = none := if_neg (by omega)
  have h2 : idxIn a 0x4000C400 4 128 = none := if_neg (by omega)
  have hp : s.peek a = s.peekEnv a := by
    unfold State.peek
    iterate 12 rw [if_neg (by omega)]
    exact if_pos h'
  rw [hp]
  unfold State.peekEnv
  rw [if_neg (show ¬a = 0x4000C004 by omega), if_neg (show ¬a = 0x4000C044 by omega), if_neg (show ¬a = 0x4000C048 by omega)]
  show (match idxIn a 0x4000C180 4 16, idxIn a 0x4000C400 4 128 with
    | some g, _ => s.gstat g
    | none, some k => s.lstat k
    | none, none => s.last a) = _
  rw [h1, h2]

/-- The registers whose RC fields a read of their own row clears, with those fields: no one of them has a class S field. -/
def countRegs : List (Nat × Word) :=
  [(Reg.COEX_CNT, 0xFFFFFFFF), (Reg.LINK_DWSTAT, 0xFFFF), (Reg.LINK_RPUT 0, 0xFFFF0000), (Reg.LINK_RPUT 1, 0xFFFF0000),
    (Reg.MEMC_BCNT, 0xFFFFFFFF), (Reg.FLC_ECNT, 0xFFFFFFFF), (Reg.FLC_RRSTAT, 0xFFFF0000), (Reg.EVL_LOOP, 0xFFFF0000),
    (Reg.ICOL_OVFCNT 0, 0xFFFF), (Reg.ICOL_OVFCNT 1, 0xFFFF), (Reg.SADC_RESULT, 0x80000000)] ++
    ((List.range 128).map fun k => (Reg.ENV_LERR k, 0xFFFFFFFF)) ++ (List.range 96).map fun l => (Reg.EVL_COAL l, 0xFFFF)

theorem countRegs_regmap : ∀ p ∈ countRegs, rcMask p.1 = p.2 ∧ p.2 ≠ 0 ∧ sMask p.1 = 0 ∧ Reg.CFG_PEND ≠ p.1 ∧ Reg.RFE_SPCTL ≠ p.1 := by
  decide +kernel

/-- A read of a register of `countRegs` returns the word that the register holds and clears exactly its RC fields. -/
theorem countRegs_read {s : State} {a : Nat} {m : Word} (h : s.Calm) (ha : (a, m) ∈ countRegs) (hp : s.peek a = s.last a) (ag : Agent) :
    ∃ u, doneW (s.readOut ag a) = .next u ∧ u.heard ag = .data (s.reg a) ∧ s.regsBut u [a] ∧ s.sameBytes u ∧
      u.reg a = s.reg a &&& ~~~m := by
  obtain ⟨hm, h0, hS, hq⟩ := countRegs_regmap _ ha
  exact readOut_clears h (hp.trans (State.last_eq_reg h.quiet hS)) hm h0 hq

/-! ### The sleep time and the latching reads -/

theorem peek_PWR_HOVSTAT {s : State} (q : s.Quiet) : s.peek Reg.PWR_HOVSTAT = s.reg Reg.PWR_HOVSTAT &&& 0xFFFF0000 := by
  have h : s.peek Reg.PWR_HOVSTAT = (s.reg Reg.PWR_HOVSTAT &&& 0xFFFF0000) |||
      numAt (if s.pwr.forced = some 3 then (if s.pwr.hovActive then (if s.tb.xtalOn then 3 else 2) else 1) else 0) 0 := rfl
  rw [h, q.awake]
  simp [numAt]

theorem peek_PWR_HOVTIME (s : State) : s.peek Reg.PWR_HOVTIME = BitVec.ofNat 32 (min 0xFFFFFFFF (s.pwr.hovTicks / 40)) := rfl
theorem peek_LINK_EVC_LO (s : State) : s.peek Reg.LINK_EVC_LO = BitVec.ofNat 32 s.link.evc := rfl
theorem peek_LINK_SSTART_LO (s : State) : s.peek Reg.LINK_SSTART_LO = BitVec.ofNat 32 (s.link.slotT / 40) := rfl
theorem peek_RTC_NOWDATE (s : State) : s.peek Reg.RTC_NOWDATE = s.nowCal.1 := rfl

/-- `PWR_HOVTIME` holds no word of its own: a read returns the time and clears the count of ticks. -/
theorem hovtime_read {s : State} (h : s.Calm) (ag : Agent) :
    ∃ u, exec (.pwrHovtimeRead ag) s = .next u ∧ u.heard ag = .data (BitVec.ofNat 32 (min 0xFFFFFFFF (s.pwr.hovTicks / 40))) ∧
      s.regsBut u [Reg.PWR_HOVTIME] ∧ s.sameBytes u ∧ u.pwr.hovTicks = 0 := by
  have hm : rcMask Reg.PWR_HOVTIME = 0xFFFFFFFF := by decide +kernel
  have hv : s.readOut ag Reg.PWR_HOVTIME = (s.respond ag (.data (s.peek Reg.PWR_HOVTIME))).setReg Reg.PWR_HOVTIME
      (s.reg Reg.PWR_HOVTIME &&& ~~~0xFFFFFFFF) := by
    unfold State.readOut
    rw [State.rcClear_of_rcMask _ hm (by decide), State.respond_reg]
  have q : ({ s.readOut ag Reg.PWR_HOVTIME with pwr := { (s.readOut ag Reg.PWR_HOVTIME).pwr with hovTicks := 0 } } : State).Quiet := by
    rw [hv]
    obtain ⟨q1, q2, q3, q4, q5, q6, q7, q8, q9, q10⟩ := State.setReg_quiet (State.respond_quiet h.quiet ag (.data (s.peek Reg.PWR_HOVTIME)))
      (a := Reg.PWR_HOVTIME) (s.reg Reg.PWR_HOVTIME &&& ~~~0xFFFFFFFF) (by decide) (by decide)
    exact ⟨q1, q2, q3, q4, q5, q6, q7, q8, q9, q10⟩
  obtain ⟨u, hu, hs, hh, hr, hb⟩ := doneW_reads (s := s) (as := [Reg.PWR_HOVTIME]) (ag := ag) (x := s.peek Reg.PWR_HOVTIME) q
    (by rw [hv]; cases ag <;> rfl)
    (fun b hb => by
      have := State.setReg_reg_ne (s.respond ag (.data (s.peek Reg.PWR_HOVTIME))) (s.reg Reg.PWR_HOVTIME &&& ~~~0xFFFFFFFF)
        (show b ≠ Reg.PWR_HOVTIME by simpa using hb)
      rw [hv]
      exact this.trans (by simp))
    (by rw [hv]; simp) (by rw [hv]; simp)
  exact ⟨u, hu, hh, hr, hb, hs.pwr_hovTicks⟩

theorem ENV_LERR_read {s : State} (h : s.Calm) {k : Nat} (hk : k < 128) (ag : Agent) :
    ∃ u, doneW (s.readOut ag (Reg.ENV_LERR k)) = .next u ∧ u.heard ag = .data (s.reg (Reg.ENV_LERR k)) ∧ s.regsBut u [Reg.ENV_LERR k] ∧
      s.sameBytes u ∧ u.reg (Reg.ENV_LERR k) = s.reg (Reg.ENV_LERR k) &&& ~~~0xFFFFFFFF := by
  have hm : (Reg.ENV_LERR k, (0xFFFFFFFF : Word)) ∈ countRegs := by
    simp only [countRegs, List.mem_append, List.mem_map, List.mem_range]
    exact .inl (.inr ⟨k, hk, rfl⟩)
  exact countRegs_read h hm (peek_of_lerr s (Nat.le_add_right _ _) (show 0x4000C800 + 4 * k < _ by omega)) ag

theorem EVL_COAL_read {s : State} (h : s.Calm) {l : Nat} (hl : l < 96) (ag : Agent) :
    ∃ u, doneW (s.readOut ag (Reg.EVL_COAL l)) = .next u ∧ u.heard ag = .data (s.reg (Reg.EVL_COAL l)) ∧ s.regsBut u [Reg.EVL_COAL l] ∧
      s.sameBytes u ∧ u.reg (Reg.EVL_COAL l) = s.reg (Reg.EVL_COAL l) &&& ~~~0xFFFF := by
  have hm : (Reg.EVL_COAL l, (0xFFFF : Word)) ∈ countRegs := by
    simp only [countRegs, List.mem_append, List.mem_map, List.mem_range]
    exact .inr ⟨l, hl, rfl⟩
  exact countRegs_read h hm (peek_of_evl s (show _ ≤ 0x40005300 + 4 * l by omega) (show 0x40005300 + 4 * l < _ by omega)) ag

/-- A read of `RTC_NOWDATE` latches the calendar form of the count in both registers (R362). -/
theorem nowdate_read {s : State} (h : s.Calm) (ag : Agent) :
    ∃ u, exec (.rtcNowdateRead ag) s = .next u ∧ u.heard ag = .data s.nowCal.1 ∧ s.regsBut u [Reg.RTC_NOWDATE, Reg.RTC_NOWTIME] ∧
      s.sameBytes u ∧ u.reg Reg.RTC_NOWDATE = s.nowCal.1 ∧ u.reg Reg.RTC_NOWTIME = s.nowCal.2 := by
  let r := s.respond ag (.data s.nowCal.1)
  have hv : (s.readOut ag Reg.RTC_NOWDATE).nowdateLatch = (r.setReg Reg.RTC_NOWDATE s.nowCal.1).setReg Reg.RTC_NOWTIME s.nowCal.2 := by
    have hc : r.nowCal = s.nowCal := by
      unfold State.nowCal
      rw [show r.rtc = s.rtc from State.respond_rtc s ag _]
    rw [State.readOut_plain s ag (by decide +kernel), peek_RTC_NOWDATE]
    unfold State.nowdateLatch
    rw [hc]
  have q := State.setReg_quiet (State.setReg_quiet (State.respond_quiet h.quiet ag (.data s.nowCal.1)) (a := Reg.RTC_NOWDATE) s.nowCal.1
    (by decide) (by decide)) (a := Reg.RTC_NOWTIME) s.nowCal.2 (by decide) (by decide)
  have hr : Swf regReset r.regs := by rw [show r.regs = s.regs from State.respond_regs s ag _]; exact h.canonical.regs
  obtain ⟨u, hu, hs, hh, hb, hm⟩ := doneW_reads (s := s) (as := [Reg.RTC_NOWDATE, Reg.RTC_NOWTIME]) (ag := ag) (x := s.nowCal.1) q
    (by simp)
    (fun b hb => by
      simp only [List.mem_cons, List.not_mem_nil, or_false, not_or] at hb
      rw [State.setReg_reg_ne _ _ hb.2, State.setReg_reg_ne _ _ hb.1, State.respond_reg])
    (by simp) (by simp)
  refine ⟨u, (congrArg doneW hv).trans hu, hh, hb, hm, (hs.reg _).trans ?_, (hs.reg _).trans ?_⟩
  · rw [State.setReg_reg_ne _ _ (by decide), State.setReg_reg_self _ hr]
  · exact State.setReg_reg_self _ (State.setReg_Swf _ hr _ _) _ _

/-- Settles O25: each RC field is cleared by `readOut`, each latching read writes the registers that it latches. -/
theorem countReadsClear : Obligations.CountReadsClear := by
  unfold Obligations.CountReadsClear
  intro s ag h
  have hov := readOut_clears (ag := ag) (m := 0xFFFF0000) h (peek_PWR_HOVSTAT h.quiet) (by decide +kernel) (by decide) (by decide)
  refine ⟨countRegs_read h (by decide) rfl ag, fun k hk => ENV_LERR_read h hk ag, countRegs_read h (by decide) rfl ag, fun r => ?_,
    countRegs_read h (by decide) rfl ag, countRegs_read h (by decide) rfl ag, countRegs_read h (by decide) rfl ag,
    countRegs_read h (by decide) rfl ag, fun l hl => EVL_COAL_read h hl ag, fun c => ?_, countRegs_read h (by decide) rfl ag,
    hov, hovtime_read h ag, ?_, ?_, nowdate_read h ag⟩
  · cases r <;> exact countRegs_read h (by decide) rfl ag
  · cases c <;> exact countRegs_read h (by decide) rfl ag
  · have hl := read_latches (ag := ag) (b := Reg.LINK_EVC_HI) (y := numAt (s.link.evc / 2 ^ 32 % 256) 0) h (peek_LINK_EVC_LO s)
      (by decide +kernel) (by decide)
    simpa [numAt, exec, execLinkEvcRead, State.evcLatch, State.readOut_plain s ag (show rcMask Reg.LINK_EVC_LO = 0 by decide +kernel)]
      using hl
  · have hl := read_latches (ag := ag) (b := Reg.LINK_SSTART_HI) (y := numAt (usHi s.link.slotT) 0 ||| numAt (s.link.slotT % 40) 16) h
      (peek_LINK_SSTART_LO s) (by decide +kernel) (by decide)
    simpa [numAt, usHi, exec, execLinkSstartRead, State.sstartLatch,
      State.readOut_plain s ag (show rcMask Reg.LINK_SSTART_LO = 0 by decide +kernel)] using hl

end Sys2Proof.Machine
end

section
/-! SUPPORT. How a cold start begins (R37, R38, R40): what it does to memory and to the registers that it keeps. -/

namespace Sys2Proof.Machine

/-! ### Ranges that are cleared -/

/-- A lost range leaves nothing inside the range that is cut out of it. -/
theorem lostTag_outside_in (l : Lost) (base size a : Nat) (h : base ≤ a ∧ a < base + size) : lostTag (l.outside base size) a = none := by
  unfold Lost.outside
  dsimp only
  split
  · rename_i hc
    simp only [Bool.or_eq_true, decide_eq_true_eq] at hc
    rw [lostTag_one, if_neg (by omega)]
  · rw [lostTag_append, lostTag_ite, lostTag_ite, if_neg (by dsimp only; omega), if_neg (by dsimp only; omega)]
    rfl

theorem lostTag_flatMap_in (ls : List Lost) (base size a : Nat) (h : base ≤ a ∧ a < base + size) :
    lostTag (ls.flatMap fun l => l.outside base size) a = none := by
  induction ls with
  | nil => rfl
  | cons l r ih => rw [List.flatMap_cons, lostTag_append, lostTag_outside_in l base size a h, ih]; rfl

/-- A key that a filter drops whatever its value reads its default. -/
theorem sget_filter_drop {α : Type} (d : Nat → α) (m : List (Nat × α)) (p : Nat × α → Bool) (a : Nat) (h : ∀ v, p (a, v) = false) :
    sget d (m.filter p) a = d a := by
  induction m with
  | nil => rfl
  | cons q r ih =>
    obtain ⟨k, v⟩ := q
    by_cases hk : a = k
    · subst hk
      rw [List.filter_cons_of_neg (by simp [h v])]
      exact ih
    · by_cases hp : p (k, v) = true <;> simp [hp, sget, hk, ih]

/-- Bytes of a range that is cleared take their base contents. -/
theorem State.clearRange_byte_in (s : State) (base size a : Nat) (h : base ≤ a ∧ a < base + size) :
    (s.clearRange base size).byte a = memBase a := by
  have hd : memDefault (s.clearRange base size).lost a = memBase a := by
    rw [memDefault_tag]
    show (match lostTag (s.lost.flatMap fun l => l.outside base size) a with
      | some t => Config.lostByte t a | none => memBase a) = _
    rw [lostTag_flatMap_in _ _ _ _ h]
  rw [← hd]
  exact sget_filter_drop _ _ _ _ fun v => by simp [h]

/-! ### Registers across a start -/

@[simp] theorem mergeBits_ones (w v : Word) : mergeBits w 0xFFFFFFFF#32 v = v := by
  have h : v &&& 0xFFFFFFFF#32 = v := BitVec.and_allOnes
  simp [mergeBits, h]

@[simp] theorem mergeBits_self (w m : Word) : mergeBits w m w = w := by
  ext i hi
  simp [mergeBits]
  cases w[i] <;> cases m[i] <;> rfl

/-- Each register holds the bits kept, and its Reset word otherwise (R8). -/
theorem sget_keepBits (m : Nat → Word) {rs : List (Nat × Word)} (h : (rs.map Prod.fst).Pairwise (· < ·)) (a : Nat) :
    sget regReset (keepBits m rs) a = mergeBits (regReset a) (m a) (sget regReset rs a) := by
  induction rs with
  | nil => simp [keepBits, sget]
  | cons p r ih =>
    obtain ⟨k, v⟩ := p
    simp only [List.map_cons, List.pairwise_cons] at h
    have ih := ih h.2
    by_cases hk : a = k
    · subst hk
      have hr : sget regReset r a = regReset a := sget_default h.1
      by_cases hw : mergeBits (regReset a) (m a) v = regReset a
      · have hc : keepBits m ((a, v) :: r) = keepBits m r := by simp [keepBits, hw]
        rw [hc, ih, hr, mergeBits_self, sget, if_pos rfl, hw]
      · have hc : keepBits m ((a, v) :: r) = (a, mergeBits (regReset a) (m a) v) :: keepBits m r := by simp [keepBits, hw]
        rw [hc, sget, if_pos rfl, sget, if_pos rfl]
    · rw [sget, if_neg hk, ← ih]
      by_cases hw : mergeBits (regReset k) (m k) v = regReset k
      · have hc : keepBits m ((k, v) :: r) = keepBits m r := by simp [keepBits, hw]
        rw [hc]
      · have hc : keepBits m ((k, v) :: r) = (k, mergeBits (regReset k) (m k) v) :: keepBits m r := by simp [keepBits, hw]
        rw [hc, sget, if_neg hk]

/-! ### A cold start -/

/-- Abandoning a flash operation without completing it changes no register. -/
theorem State.flcAbandon_drop_regs (s : State) : (s.flcAbandon false).regs = s.regs := by
  unfold State.flcAbandon
  cases s.flc.op with
  | none => rfl
  | some o =>
    dsimp only
    split
    · rfl
    · split <;> rfl

/-- Where no operation runs, abandoning it changes no byte. -/
theorem State.flcAbandon_none_byte {s : State} (h : s.flc.op = none) (keep : Bool) (a : Nat) : (s.flcAbandon keep).byte a = s.byte a := by
  unfold State.flcAbandon
  rw [h]
  rfl

/-- The registers as a cold start leaves them. -/
def coldRegList (s : State) : List (Nat × Word) := keepBits (fun a => if keepAlways a then 0xFFFFFFFF else 0) s.regs

theorem State.coldBegin_regs (s : State) (causes : Word) :
    (s.coldBegin causes).regs = sput regReset (coldRegList s) Reg.SYS_RSTCAUSE causes :=
  congrArg (fun rs => sput regReset (keepBits (fun a => if keepAlways a then 0xFFFFFFFF else 0) rs) Reg.SYS_RSTCAUSE causes)
    (State.flcAbandon_drop_regs s.rtcSync)

/-- `SYS_RSTCAUSE` holds the causes; what no start changes stays; every other register holds its Reset word (R8, R38). -/
theorem State.coldBegin_reg {s : State} (h : s.canonical) (causes : Word) (a : Nat) :
    (s.coldBegin causes).reg a =
      if a = Reg.SYS_RSTCAUSE then causes else if keepAlways a then s.reg a else regReset a := by
  have hw : Swf regReset (coldRegList s) := Swf_keepBits _ h.regs
  show sget regReset (s.coldBegin causes).regs a = _
  rw [State.coldBegin_regs]
  split
  · subst_vars
    exact sget_sput_self hw.1 _ _
  · rename_i ha
    rw [sget_sput_ne _ _ _ ha]
    unfold coldRegList
    rw [sget_keepBits _ h.regs.1]
    split
    · exact mergeBits_ones _ _
    · exact mergeBits_zero _ _

/-- Memory as a cold start leaves it: what `flcAbandon` leaves, with step memory filled with HALT (R183). -/
theorem State.coldBegin_byte (s : State) (causes : Word) (a : Nat) :
    (s.coldBegin causes).byte a = ((s.rtcSync.flcAbandon false).clearRange 0x30000000 0x22000).byte a := rfl

/-- Settles O7: each of the three commands is `coldBegin` with its cause and those of a start of the same instant. -/
theorem coldCausesStartTheDeviceCold : Obligations.ColdCausesStartTheDeviceCold := by
  unfold Obligations.ColdCausesStartTheDeviceCold
  intro s h c cause hc
  have hx : exec c s = done (s.coldBegin (cause ||| (if s.start.busy = true ∧ s.now = s.start.began then s.start.causes else 0))) := by
    have hb : ∀ w : Word, done (s.startBegin true w false) =
        done (s.coldBegin (w ||| (if s.start.busy = true ∧ s.now = s.start.began then s.start.causes else 0))) := by
      intro w
      unfold State.startBegin
      simp
    simp only [List.mem_cons, List.not_mem_nil, or_false, Prod.mk.injEq] at hc
    rcases hc with ⟨rfl, rfl⟩ | ⟨rfl, rfl⟩ | ⟨rfl, rfl⟩ <;> exact hb _
  generalize (cause ||| (if s.start.busy = true ∧ s.now = s.start.began then s.start.causes else 0)) = w at hx ⊢
  obtain ⟨u, hu, hs⟩ := done_settles (s.coldBegin w)
  have hreg : ∀ a, u.reg a = _ := fun a => (hs.reg a).trans (State.coldBegin_reg h w a)
  refine ⟨u, hx.trans hu, congrArg Start.busy hs.start, congrArg Start.cold hs.start, hs.now, hs.run0 (fun hw => nomatch hw),
    hs.run1 (fun hw => nomatch hw), fun e => congrArg Engine.run (hs.eng e), by rw [hreg, if_pos rfl],
    fun a ha => by rw [hreg, if_neg ha], fun a h1 h2 => ?_, hs.snap, hs.waits, hs.shadow, hs.armed, congrArg Cfg.sched hs.cfg,
    congrArg Cfg.held hs.cfg, fun hf a h1 h2 => ?_⟩
  · rw [hs.byte, State.coldBegin_byte]
    exact State.clearRange_byte_in _ _ _ _ ⟨h1, h2⟩
  · rw [hs.byte, State.coldBegin_byte, State.clearRange_byte _ _ _ _ (by omega)]
    exact State.flcAbandon_none_byte (s := s.rtcSync) hf false a

end Sys2Proof.Machine
end

section
/-! SUPPORT. How a warm start begins (R37, R38, R40, R430): it never touches the snapshot RAM, and where nothing waits and no work is in
progress it keeps memory and reduces the registers to their kept bits. -/

namespace Sys2Proof.Machine

/-! ### The snapshot RAM across the parts of a warm start -/

/-- What each step of a fold keeps, the fold keeps. -/
theorem foldl_same {α β γ : Type} (π : α → γ) {f : α → β → α} (h : ∀ s i, π (f s i) = π s) (l : List β) (s : α) :
    π (l.foldl f s) = π s := by
  induction l generalizing s with
  | nil => rfl
  | cons i r ih => exact (ih _).trans (h s i)

theorem forN_same {α γ : Type} (π : α → γ) {f : α → Nat → α} (h : ∀ s i, π (f s i) = π s) (n : Nat) (s : α) : π (forN n f s) = π s :=
  foldl_same π h _ s

/-- What both branches of a choice keep, the choice keeps. -/
theorem ite_same {α β : Type} (π : α → β) {c : Prop} [Decidable c] {x y : α} {z : β} (hx : π x = z) (hy : π y = z) :
    π (if c then x else y) = z := by split <;> assumption

@[simp] theorem State.digDirty_snap (s : State) : s.digDirty.snap = s.snap := rfl
@[simp] theorem State.invalidateBoth_snap (s : State) (a n : Nat) : (s.invalidateBoth a n).snap = s.snap := rfl
@[simp] theorem State.mark_snap (s : State) (f : List Nat → List Nat) : (s.mark f).snap = s.snap := rfl
@[simp] theorem State.bankZero_snap (s : State) (b : Nat) : (s.bankZero b).snap = s.snap := rfl
@[simp] theorem State.rtcSync_snap (s : State) : s.rtcSync.snap = s.snap := rfl
@[simp] theorem State.resetUnits_snap (s : State) : s.resetUnits.snap = s.snap := rfl

@[simp] theorem State.setWords_snap (s : State) (a : Nat) (ws : List Word) : (s.setWords a ws).snap = s.snap := by
  induction ws generalizing s a with
  | nil => rfl
  | cons w r ih => exact (ih _ _).trans (s.setWord_snap a w)

@[simp] theorem State.muddy_snap (s : State) (a n : Nat) : (s.muddy a n).snap = s.snap := by
  unfold State.muddy
  dsimp only
  split <;> rfl

@[simp] theorem State.updLane_snap (s : State) (k : Nat) (l : Lane) : (s.updLane k l).snap = s.snap := by
  unfold State.updLane State.present
  simp

@[simp] theorem State.wakeBank_snap (s : State) (a : Nat) : (s.wakeBank a).snap = s.snap := by
  unfold State.wakeBank
  split
  · split
    · dsimp only
      split <;> rfl
    · rfl
  · rfl

@[simp] theorem State.wakeRange_snap (s : State) (a n : Nat) : (s.wakeRange a n).snap = s.snap :=
  foldl_same State.snap (fun t _ => by exact ite_same State.snap (t.wakeBank_snap _) rfl) (List.range 20) s

@[simp] theorem State.flashInval_snap (s : State) (a n : Nat) : (s.flashInval a n).snap = s.snap := ite_same State.snap rfl rfl

@[simp] theorem State.pagePut_snap (s : State) (o : FlcOp) : (s.pagePut o).snap = s.snap := by
  unfold State.pagePut
  rw [State.mark_snap, State.flashInval_snap, State.setBytes_snap]

@[simp] theorem State.flcAbandon_snap (s : State) (keep : Bool) : (s.flcAbandon keep).snap = s.snap := by
  unfold State.flcAbandon
  cases s.flc.op with
  | none => rfl
  | some o =>
    dsimp only
    split
    · split
      · rfl
      · split
        · simp
        · rfl
    · split
      · split <;> rfl
      · rfl

@[simp] theorem State.carryThru_snap (s : State) (n : Nat) : (s.carryThru n).snap = s.snap :=
  s.setWord_snap (rxWord n) (s.word (0x21020000 + 64 * n + 0x10))

@[simp] theorem State.haltFill_snap (s : State) (e : Nat) : (s.haltFill e).snap = s.snap := by
  unfold State.haltFill
  dsimp only
  split <;> rfl

@[simp] theorem State.flashEcc_snap (s : State) (x : Nat) (e : Ecc) : (s.flashEcc x e).snap = s.snap := by
  unfold State.flashEcc
  cases e with
  | corrected => dsimp only; split <;> rfl
  | clean => rfl
  | retried k => rfl
  | uncorrectable => rfl

theorem State.rcode_snap (p : State × List Nat) (x : Nat) : (State.rcode p x).1.snap = p.1.snap := by
  unfold State.rcode
  dsimp only
  split
  · rfl
  · exact State.flashEcc_snap _ _ _

theorem State.rscan_snap (s : State) (a n : Nat) : (s.rscan a n).1.snap = s.snap := by
  unfold State.rscan
  dsimp only
  split
  · rfl
  · exact foldl_same (fun p : State × List Nat => p.1.snap) State.rcode_snap _ _

theorem State.rtouch_snap (s : State) (a n : Nat) : (s.rtouch a n).snap = s.snap := by
  unfold State.rtouch
  split
  · rfl
  · dsimp only
    split
    · split
      · exact s.wakeRange_snap a n
      · split <;> exact s.wakeRange_snap a n
    · exact s.wakeRange_snap a n

theorem State.rscans_snap (s : State) (rs : List (Nat × Nat)) : (s.rscans rs).1.snap = s.snap :=
  foldl_same (fun p : State × List Nat => p.1.snap) (fun p r => by exact (State.rscan_snap _ _ _).trans (State.rtouch_snap p.1 r.1 r.2))
    rs (s, [])

theorem State.imgCopy_snap (s : State) (e : Nat) (h : List Word) (body : List Byte) (whole : Bool) :
    (s.imgCopy e h body whole).2.snap = s.snap := by
  unfold State.imgCopy
  dsimp only
  rw [State.digDirty_snap]
  split <;> split <;> simp

theorem State.loadEntry_snap (s : State) (e : Nat) (c : SetCopy) : (s.loadEntry e c).2.snap = s.snap := by
  unfold State.loadEntry
  split
  · have hr := State.rscans_snap s
    dsimp only
    split
    · simp [hr]
    · rw [State.imgCopy_snap, hr]
  · simp

theorem State.partCopy_snap (s : State) (e a : Nat) (h : List Word) : (s.partCopy e a h).snap = s.snap := by
  have htid : ∀ t : State, t.snap = s.snap → ∀ (c : Prop) [Decidable c],
      (if c then t.setReg (Reg.REEL_TID e) (h.getD 3 0) else t).snap = s.snap := fun t ht c _ => ite_same State.snap ht ht
  unfold State.partCopy
  dsimp only
  refine htid _ (forN_same State.snap (fun t _ => ?_) 1024 s) (Config.freeNat (s.free + 1024) % 2 = 1)
  exact ite_same _ rfl (ite_same _ (t.setBytes_snap _ _) (ite_same _ rfl (t.setBytes_snap _ _)))

theorem State.loadAbandon_snap (s old : State) : (s.loadAbandon old).snap = s.snap := by
  unfold State.loadAbandon
  dsimp only
  split
  · have hl : ∀ l : List Nat, (l.foldl (fun t e => (t.loadEntry e old.live).2) s).snap = s.snap :=
      fun l => foldl_same State.snap (fun t e => State.loadEntry_snap t e _) l s
    rw [State.fresh_snap]
    split
    · exact (State.haltFill_snap _ _).trans (hl _)
    · exact hl _
  · split
    · exact s.haltFill_snap _
    · split
      · exact s.partCopy_snap _ _ _
      · rfl

@[simp] theorem State.mergeWaits_snap (s : State) (u : Nat) : (s.mergeWaits u).snap = s.snap :=
  foldl_same State.snap (fun _ _ => by rfl) (s.waitsFor u) { s with waits := s.waits.filter fun x => unitOf x.addr != u }

theorem State.trimLoad_snap (s : State) (v : Int) : (s.trimLoad v).snap = s.snap := by
  unfold State.trimLoad
  dsimp only
  split <;> rfl

theorem State.trimApply_snap (s old : State) : (s.trimApply old).snap = s.snap := by
  unfold State.trimApply
  split
  · rfl
  · exact s.trimLoad_snap _

theorem State.ringApply_snap (s old : State) (c : Nat) : (s.ringApply old c).snap = s.snap := by
  unfold State.ringApply
  split <;> rfl

/-! What the units whose registers a warm start applies set off. -/

theorem State.onApply_link (s old : State) :
    s.onApply old 18 = if s.get Reg.LINK_DWCFG_W = old.get Reg.LINK_DWCFG_W then (s.ringApply old 0).ringApply old 1
      else { (s.ringApply old 0).ringApply old 1 with link := { ((s.ringApply old 0).ringApply old 1).link with dwell := [] } } := rfl

theorem State.onApply_pwr (s old : State) :
    s.onApply old 27 = if s.reg Reg.PWR_DVFS != old.reg Reg.PWR_DVFS then s.dvfsApply else s := rfl

theorem State.onApply_rtc (s old : State) :
    s.onApply old 28 = if s.reg Reg.RTC_TRIM != old.reg Reg.RTC_TRIM then s.trimApply old else s := rfl

theorem State.onApply_link_snap (s old : State) : (s.onApply old 18).snap = s.snap := by
  have hr := (State.ringApply_snap (s.ringApply old 0) old 1).trans (s.ringApply_snap old 0)
  rw [State.onApply_link]
  split <;> exact hr

theorem State.onApply_pwr_snap (s old : State) : (s.onApply old 27).snap = s.snap := by
  rw [State.onApply_pwr]
  split <;> rfl

theorem State.onApply_rtc_snap (s old : State) : (s.onApply old 28).snap = s.snap := by
  rw [State.onApply_rtc]
  split
  · exact s.trimApply_snap old
  · rfl

/-- The RTC's alarms that waiting writes leave armed at or below the count (R368). -/
def State.pastAlarms (s t : State) : List Nat :=
  [0, 1].filter fun n =>
    (s.waitsFor 28).any (fun x => Reg.RTC_ALM_LO n ≤ x.addr && x.addr ≤ Reg.RTC_ALMCTL n) && t.flag (Reg.RTC_ALMCTL_ARM n) &&
    t.almTime n ≤ t.rtc.sec

theorem State.rtcMerge_eq (s : State) : s.rtcMerge = (s.pastAlarms ((s.mergeWaits 28).onApply s 28)).foldl
    (fun t n => t.put (Reg.RTC_ALMCTL_PAST n) 1) ((s.mergeWaits 28).onApply s 28) := rfl

theorem State.rtcMerge_snap (s : State) : s.rtcMerge.snap = s.snap := by
  rw [State.rtcMerge_eq, foldl_same State.snap (fun _ _ => by rfl), State.onApply_rtc_snap, State.mergeWaits_snap]

/-- The kept fields of waiting writes apply (R430). -/
def State.keptWaits (t : State) : State :=
  t.waits.foldl (fun t x => t.setReg x.addr (mergeBits (t.reg x.addr) (x.mask &&& warmKeep x.addr) x.val)) t

/-- The kept fields of armed values apply (R430). -/
def State.keptArmed (t : State) (ps : List (Nat × Word)) : State :=
  ps.foldl (fun t p => t.setReg p.1 (mergeBits (t.reg p.1) (sMask p.1 &&& warmKeep p.1) p.2)) t

/-- A held switch fires at a warm start (R430). -/
def State.keptSwitch (t : State) : State :=
  let e := t.put Reg.CFG_EPOCH_CUR ((t.get Reg.CFG_EPOCH_CUR + 1) % 65536)
  let e := e.keptArmed e.shadowDiff
  { e with cfg := { e.cfg with window := e.get Reg.CFG_WIN_WINDOW, switchT := e.now } }

/-- The waiting writes and armed sets that a warm start applies, before a held switch. -/
def State.keptWrites (s : State) : State :=
  let t := (if s.waits.any (fun x => x.addr = Reg.RTC_TRIM) then s.rtcSync else s).rtcMerge
  let w := (t.keptWaits.onApply t 18).onApply t 27
  w.keptArmed w.armed

theorem State.warmWrites_eq (s : State) :
    s.warmWrites = if s.keptWrites.cfg.held.isSome then s.keptWrites.keptSwitch else s.keptWrites := rfl

@[simp] theorem State.keptWaits_snap (t : State) : t.keptWaits.snap = t.snap := foldl_same State.snap (fun _ _ => by rfl) _ t

@[simp] theorem State.keptArmed_snap (t : State) (ps : List (Nat × Word)) : (t.keptArmed ps).snap = t.snap :=
  foldl_same State.snap (fun _ _ => by rfl) _ t

theorem State.keptWrites_snap (s : State) : s.keptWrites.snap = s.snap := by
  have hr : (if s.waits.any (fun x => x.addr = Reg.RTC_TRIM) then s.rtcSync else s).snap = s.snap := by split <;> rfl
  unfold State.keptWrites
  dsimp only
  rw [State.keptArmed_snap, State.onApply_pwr_snap, State.onApply_link_snap, State.keptWaits_snap, State.rtcMerge_snap, hr]

theorem State.keptSwitch_snap (t : State) : t.keptSwitch.snap = t.snap := State.keptArmed_snap _ _

theorem State.warmRegs_snap (s : State) : s.warmRegs.snap = s.snap := by
  have hw : s.warmWrites.snap = s.snap := by
    rw [State.warmWrites_eq]
    exact ite_same State.snap ((State.keptSwitch_snap _).trans s.keptWrites_snap) s.keptWrites_snap
  unfold State.warmRegs
  rw [State.setReg_snap]
  exact hw

theorem State.testAbort_snap (s old : State) : (s.testAbort old).snap = s.snap := by
  unfold State.testAbort
  split <;> rfl

theorem State.lanesGone_snap (s : State) : s.lanesGone.snap = s.snap := foldl_same State.snap (fun t _ => t.updLane_snap _ _) _ s

/-! ### A warm start -/

/-- Memory, registers and the snapshot RAM as a warm start has them before the units are reset. -/
def State.warmBase (s : State) : State :=
  (((s.link.thru.foldl (fun t p => t.carryThru p.1) (s.flcAbandon true)).warmRegs.testAbort s).loadAbandon s).lanesGone

theorem State.warmBase_snap (s : State) : s.warmBase.snap = s.snap := by
  unfold State.warmBase
  rw [State.lanesGone_snap, State.loadAbandon_snap, State.testAbort_snap, State.warmRegs_snap,
    foldl_same State.snap (fun t _ => t.carryThru_snap _), State.flcAbandon_snap]

/-- What a warm start gives beside the parts that `warmBase` names. -/
structure WarmBegun (s : State) (causes : Word) (u : State) : Prop where
  busy : u.start.busy = true
  cold : u.start.cold = false
  toSafe : u.start.toSafe = false
  run0 : u.core0.run = .held
  run1 : u.core1.run = .held
  engs : u.engs = []
  keys : u.ciph.keys = if causes &&& 0x20 != 0 then s.ciph.keys else []
  snap : u.snap = s.warmBase.snap
  mem : u.mem = s.warmBase.mem
  lost : u.lost = s.warmBase.lost
  regs : u.regs = (s.warmBase.setReg Reg.SYS_RSTCAUSE (s.warmBase.reg Reg.SYS_RSTCAUSE ||| causes)).regs

theorem State.warmBegin_begun (s : State) (causes : Word) : WarmBegun s causes (s.warmBegin causes false) :=
  ⟨rfl, rfl, rfl, rfl, rfl, rfl, rfl, rfl, rfl, rfl, rfl⟩

theorem WarmBegun.settles {s v u : State} {causes : Word} (h : WarmBegun s causes v) (k : Settles v u) : WarmBegun s causes u where
  busy := (congrArg Start.busy k.start).trans h.busy
  cold := (congrArg Start.cold k.start).trans h.cold
  toSafe := (congrArg Start.toSafe k.start).trans h.toSafe
  run0 := (k.run0 (by rw [h.run0]; exact nofun)).trans h.run0
  run1 := (k.run1 (by rw [h.run1]; exact nofun)).trans h.run1
  engs := k.engs.trans h.engs
  keys := (congrArg Ciph.keys k.ciph).trans h.keys
  snap := k.snap.trans h.snap
  mem := k.mem.trans h.mem
  lost := k.lost.trans h.lost
  regs := k.regs.trans h.regs

/-- A cause that is not 0 stands in `SYS_RSTCAUSE` after the start, whatever stood there before. -/
theorem WarmBegun.cause {s u : State} {causes : Word} (h : WarmBegun s causes u) (h0 : causes ≠ 0) :
    u.reg Reg.SYS_RSTCAUSE = s.warmBase.reg Reg.SYS_RSTCAUSE ||| causes := by
  have hd : s.warmBase.reg Reg.SYS_RSTCAUSE ||| causes ≠ regReset Reg.SYS_RSTCAUSE := by
    rw [show regReset Reg.SYS_RSTCAUSE = 0 by decide +kernel]
    exact fun hz => h0 (BitVec.or_eq_zero_iff.1 hz).2
  show sget regReset u.regs _ = _
  rw [h.regs]
  exact sget_sput_ne_default _ _ hd

/-! ### Where nothing waits and no work is in progress -/

/-- Nothing waits, no flash operation, bank test, write-through, load or activation is in progress, and no lane has a frame. -/
structure State.Idle (s : State) : Prop where
  calm : s.Calm
  flc : s.flc.op = none
  test : s.memc.test = none
  thru : s.link.thru = []
  phase : s.upd.phase = .idle
  doing : s.upd.doing = none
  ldr : s.ldr.phase = .idle
  lanes : ∀ k, (s.lane k).cur = none

/-- An entry listed in canonical form is the one that is read. -/
theorem sget_of_mem {α : Type} {d : Nat → α} {m : List (Nat × α)} (h : (m.map Prod.fst).Pairwise (· < ·)) {p : Nat × α} (hp : p ∈ m) :
    sget d m p.1 = p.2 := by
  induction m with
  | nil => simp at hp
  | cons q r ih =>
    obtain ⟨k, v⟩ := q
    simp only [List.map_cons, List.pairwise_cons] at h
    rcases List.mem_cons.1 hp with rfl | hp
    · simp [sget]
    · rw [sget, if_neg (ne_of_gt (h.1 p.1 (List.mem_map_of_mem hp))), ih h.2 hp]

theorem State.mergeWaits_none {s : State} (h : s.waits = []) (u : Nat) : s.mergeWaits u = s := by
  unfold State.mergeWaits State.waitsFor
  rw [h]
  cases s
  cases h
  rfl

theorem State.onApply_rtc_self (s : State) : s.onApply s 28 = s := by
  rw [State.onApply_rtc]
  simp

theorem State.onApply_pwr_self (s : State) : s.onApply s 27 = s := by
  rw [State.onApply_pwr]
  simp

theorem State.onApply_link_self (s : State) : s.onApply s 18 = s := by
  have hr : ∀ c, s.ringApply s c = s := fun c => by
    unfold State.ringApply
    simp
  rw [State.onApply_link, if_pos rfl, hr, hr]

theorem State.rtcMerge_none {s : State} (h : s.waits = []) : s.rtcMerge = s := by
  have hp : ∀ t, s.pastAlarms t = [] := fun t => by
    unfold State.pastAlarms State.waitsFor
    rw [h]
    simp
  rw [State.rtcMerge_eq, hp, State.mergeWaits_none h, State.onApply_rtc_self]
  rfl

theorem State.keptWrites_none {s : State} (hw : s.waits = []) (ha : s.armed = []) : s.keptWrites = s := by
  have hk : s.keptWaits = s := by unfold State.keptWaits; rw [hw]; rfl
  unfold State.keptWrites
  dsimp only
  rw [if_neg (by simp [hw]), State.rtcMerge_none hw, hk, State.onApply_link_self, State.onApply_pwr_self, ha]
  rfl

/-- Where nothing waits or is armed and no switch is held, a warm start applies nothing. -/
theorem State.warmWrites_none {s : State} (hw : s.waits = []) (ha : s.armed = []) (hh : s.cfg.held = none) : s.warmWrites = s := by
  rw [State.warmWrites_eq, State.keptWrites_none hw ha, hh]
  rfl

/-- The registers that a warm start leaves where nothing waits. -/
def warmRegList (s : State) : List (Nat × Word) := sput regReset (keepBits warmKeep s.regs) Reg.CFG_PEND 0

/-- In an idle state a warm start changes no memory, and registers only as `warmRegList` says. -/
theorem State.Idle.warmBase {s : State} (h : s.Idle) :
    s.warmBase.mem = s.mem ∧ s.warmBase.lost = s.lost ∧ s.warmBase.regs = warmRegList s := by
  let a : State := { s with flc := { s.flc with op := none, held := [] } }
  have hab : s.flcAbandon true = a := by
    unfold State.flcAbandon
    rw [h.flc]
  have hwr : a.warmRegs = ({ a with regs := keepBits warmKeep a.regs, shadow := keepBits warmKeep a.shadow, waits := [], armed := [] } :
      State).setReg Reg.CFG_PEND 0 := by
    unfold State.warmRegs
    rw [State.warmWrites_none (s := a) h.calm.quiet.waits h.calm.armed h.calm.quiet.held]
  have hta : ∀ t : State, t.memc.test = none → t.testAbort s = t := fun t ht => by
    unfold State.testAbort
    rw [ht]
  have hla : ∀ t : State, t.loadAbandon s = t := fun t => by
    unfold State.loadAbandon State.loading
    rw [h.phase, h.doing, h.ldr]
    rfl
  have hlg : ∀ t : State, t.lanes = s.lanes → t.lanesGone = t := fun t ht => by
    have hf : t.lanes.filter (fun p => p.2.cur.isSome) = [] := by
      rw [List.filter_eq_nil_iff, ht]
      intro p hp
      have := h.lanes p.1
      rw [show s.lane p.1 = p.2 from sget_of_mem h.calm.canonical.lanes.1 hp] at this
      simp [this]
    unfold State.lanesGone
    rw [hf]
    rfl
  have hb : s.warmBase = a.warmRegs := by
    unfold State.warmBase
    rw [h.thru, hab, List.foldl_nil, hta _ (by rw [hwr]; exact h.test), hla, hlg _ (by rw [hwr]; rfl)]
  rw [hb, hwr]
  exact ⟨rfl, rfl, rfl⟩

theorem warmRegList_reg {s u : State} (h : s.canonical) (hu : u.regs = warmRegList s) {a : Nat} (ha : a ≠ Reg.CFG_PEND) :
    u.reg a = mergeBits (regReset a) (warmKeep a) (s.reg a) := by
  show sget regReset u.regs a = _
  rw [hu]
  exact (sget_sput_ne _ _ _ ha).trans (sget_keepBits _ h.regs.1 a)

/-! ### The commands -/

/-- A command that ends in a warm start, with what the statement says of one. -/
theorem warm_command {s : State} {c : Instr} {cause : Word} (hx : exec c s = done (s.warmBegin cause false)) (h0 : cause ≠ 0)
    (hw : cause &&& 0x20 = 0) :
    ∃ u, exec c s = .next u ∧ u.start.busy = true ∧ u.start.cold = false ∧ u.start.toSafe = false ∧
      u.core0.run = .held ∧ u.core1.run = .held ∧ (∀ e, (u.eng e).run = false) ∧ u.ciph.keys = [] ∧ u.snap = s.snap ∧
      u.reg Reg.SYS_RSTCAUSE &&& cause = cause ∧
      (s.Calm → s.flc.op = none → s.memc.test = none → s.link.thru = [] → s.upd.phase = .idle → s.upd.doing = none →
        s.ldr.phase = .idle → (∀ k, (s.lane k).cur = none) →
        s.sameBytes u ∧ u.reg Reg.SYS_RSTCAUSE = (s.reg Reg.SYS_RSTCAUSE &&& 0x3FFF) ||| cause ∧
        ∀ a, a ≠ Reg.SYS_RSTCAUSE → a ≠ Reg.CFG_PEND → u.reg a = mergeBits (regReset a) (warmKeep a) (s.reg a)) := by
  obtain ⟨u, hu, hs⟩ := done_settles (s.warmBegin cause false)
  have h := (s.warmBegin_begun cause).settles hs
  have hc := h.cause h0
  refine ⟨u, hx.trans hu, h.busy, h.cold, h.toSafe, h.run0, h.run1, fun e => ?_, ?_, h.snap.trans s.warmBase_snap, ?_, ?_⟩
  · unfold State.eng
    rw [h.engs]
    rfl
  · rw [h.keys, hw]
    rfl
  · rw [hc]
    ext i hi
    simp
    tauto
  · intro calm flc test thru phase doing ldr lanes
    obtain ⟨hmem, hlost, hregs⟩ := State.Idle.warmBase ⟨calm, flc, test, thru, phase, doing, ldr, lanes⟩
    refine ⟨fun a => ?_, ?_, fun a ha hp => ?_⟩
    · unfold State.byte
      rw [h.mem, h.lost, hmem, hlost]
    · have hk : warmKeep Reg.SYS_RSTCAUSE = 0x3FFF ∧ regReset Reg.SYS_RSTCAUSE = 0 := by decide +kernel
      rw [hc, warmRegList_reg calm.canonical hregs (by decide), hk.1, hk.2]
      simp [mergeBits]
    · rw [← warmRegList_reg calm.canonical hregs hp]
      show sget regReset u.regs a = _
      rw [h.regs]
      exact sget_sput_ne _ _ _ ha

/-- A warm start cause that comes while an earlier start is in progress sets its bit and does no more (R38). -/
theorem State.startBegin_absorbed {s : State} (hb : s.start.busy = true) (hn : s.now ≠ s.start.began) (cause : Word) :
    s.startBegin false cause false = s.setReg Reg.SYS_RSTCAUSE (s.reg Reg.SYS_RSTCAUSE ||| cause) := by
  unfold State.startBegin
  simp [hb, hn]

theorem State.startBegin_warm {s : State} (hb : s.start.busy = false) (cause : Word) :
    s.startBegin false cause false = s.warmBegin cause false := by
  unfold State.startBegin
  simp [hb]

/-- Settles O8: each command is `warmBegin` with its cause, or sets its bit in a start in progress, or does nothing. -/
theorem warmCausesStartTheDeviceWarm : Obligations.WarmCausesStartTheDeviceWarm := by
  unfold Obligations.WarmCausesStartTheDeviceWarm
  have hsw : ∀ (s : State) (key : BitVec 16), key = 0x5AFE →
      exec (.softwareResetDevice key) s = done (s.startBegin false 0x800 false) := fun s key hk => by subst hk; rfl
  refine ⟨fun s key hk => ⟨fun hb => ?_, fun hb hn => ?_⟩, fun s => ⟨fun hb => ?_, fun hb hn => ?_⟩, fun s key hk hsafe hb => ?_,
    fun s key => ⟨fun hk => ?_, fun hk => ?_⟩⟩
  · exact warm_command ((hsw s key hk).trans (congrArg done (State.startBegin_warm hb _))) (by decide) (by decide)
  · exact does_done ((hsw s key hk).trans (congrArg done (State.startBegin_absorbed hb hn _)))
  · exact warm_command (congrArg done (State.startBegin_warm hb 0x2000)) (by decide) (by decide)
  · exact does_done (congrArg done (State.startBegin_absorbed hb hn 0x2000))
  · have hx : exec (.safeExit key) s = done (s.startBegin false 0x1000 false) := by
      show done (s.safeExit key) = _
      unfold State.safeExit
      rw [if_pos (by simp [hk, hsafe, hb])]
    exact warm_command (hx.trans (congrArg done (State.startBegin_warm hb _))) (by decide) (by decide)
  · refine does_done ?_
    show done (s.swrst key 0) = _
    unfold State.swrst
    rw [if_pos (by simpa using hk)]
  · refine does_done ?_
    show done (s.safeExit key) = _
    unfold State.safeExit
    refine congrArg done (if_neg fun h => ?_)
    simp only [Bool.and_eq_true, decide_eq_true_eq] at h
    rcases hk with hk | hk
    · exact hk h.1.1
    · exact Bool.false_ne_true (hk.symm.trans h.1.2)

end Sys2Proof.Machine
end

section
/-! SUPPORT. Loads and stores that the address map allows (R32, R34, R267): the regions of Table 1-6, the one bank that an aligned access
touches, and what a store to SRAM, radio memory or the Ballast store leaves. -/

namespace Sys2Proof.Machine

/-! ### Regions and banks -/

theorem region_rom {a : Nat} (h : a < 0x8000) : region a = .rom := if_pos h

theorem region_sram {a : Nat} (h : 0x20000000 ≤ a) (h' : a < 0x20100000) : region a = .sram := by
  unfold region
  iterate 3 rw [if_neg (by omega)]
  exact if_pos ⟨h, h'⟩

theorem region_radio {a : Nat} (h : 0x21000000 ≤ a) (h' : a < 0x21040000) : region a = .radio := by
  unfold region
  iterate 4 rw [if_neg (by omega)]
  exact if_pos ⟨h, h'⟩

theorem region_ballast {a : Nat} (h : 0x22000000 ≤ a) (h' : a < 0x22080000) : region a = .ballast := by
  unfold region
  iterate 5 rw [if_neg (by omega)]
  exact if_pos ⟨h, h'⟩

theorem bankOf_sram {a : Nat} (h : 0x20000000 ≤ a) (h' : a < 0x20100000) : bankOf a = some ((a - 0x20000000) / 0x10000) := by
  unfold bankOf
  rw [region_sram h h']

theorem bankOf_radio {a : Nat} (h : 0x21000000 ≤ a) (h' : a < 0x21040000) : bankOf a = some (16 + (a - 0x21000000) / 0x10000) := by
  unfold bankOf
  rw [region_radio h h']

/-- The addresses of bank b. -/
theorem bankOf_of_mem {a b : Nat} (hb : b < 20) (h : bankBase b ≤ a) (h' : a < bankBase b + 0x10000) : bankOf a = some b := by
  unfold bankBase at h h'
  by_cases h16 : b < 16
  · rw [if_pos h16] at h h'
    rw [bankOf_sram (by omega) (by omega)]
    congr 1
    omega
  · rw [if_neg h16] at h h'
    rw [bankOf_radio (by omega) (by omega)]
    congr 1
    omega

theorem widthBytes_cases (w : Width) : widthBytes w = 1 ∨ widthBytes w = 2 ∨ widthBytes w = 4 := by
  cases w <;> simp [widthBytes]

/-- A naturally aligned access lies in the banks that it touches: in one. -/
theorem bankBase_le_of_touched {a b : Nat} {w : Width} (ha : a % widthBytes w = 0) (h : bankBase b < a + widthBytes w) : bankBase b ≤ a := by
  have hd : bankBase b % 4 = 0 := by
    unfold bankBase
    split <;> omega
  rcases widthBytes_cases w with hw | hw | hw <;> rw [hw] at ha h <;> omega

/-- Banks that an aligned access touches are ON and not bad. -/
def State.bankGood (s : State) (a : Nat) : Prop := ∀ b, bankOf a = some b → s.bank b = .on ∧ s.bankBad b = false

section
variable {s : State} {a : Nat} {w : Width} (ha : a % widthBytes w = 0) (hg : s.bankGood a)
include ha hg

theorem State.rangeRefused_of_good : s.rangeRefused a (widthBytes w) = false := by
  unfold State.rangeRefused
  rw [List.any_eq_false]
  intro b hb ht
  simp only [Bool.and_eq_true, decide_eq_true_eq] at ht
  obtain ⟨⟨h1, h2⟩, h3⟩ := ht
  have hb : b < 20 := List.mem_range.1 hb
  obtain ⟨hon, hbad⟩ := hg b (bankOf_of_mem hb (bankBase_le_of_touched ha h2) h1)
  unfold State.bankRefuses at h3
  rw [bankOf_of_mem hb (Nat.le_refl _) (by omega)] at h3
  simp [hon, hbad] at h3

theorem State.wakeRange_of_good : s.wakeRange a (widthBytes w) = s := by
  have hf : ∀ l : List Nat, (∀ b ∈ l, b < 20) → l.foldl (fun s b =>
      if a < bankBase b + 0x10000 && bankBase b < a + widthBytes w then s.wakeBank (bankBase b) else s) s = s := by
    intro l hl
    induction l with
    | nil => rfl
    | cons b r ih =>
      have hb : b < 20 := hl b (by simp)
      have hstep : (if a < bankBase b + 0x10000 && bankBase b < a + widthBytes w then s.wakeBank (bankBase b) else s) = s := by
        split
        · rename_i ht
          simp only [Bool.and_eq_true, decide_eq_true_eq] at ht
          obtain ⟨hon, -⟩ := hg b (bankOf_of_mem hb (bankBase_le_of_touched ha ht.2) ht.1)
          unfold State.wakeBank
          rw [bankOf_of_mem hb (Nat.le_refl _) (by omega)]
          simp [hon]
        · rfl
      rw [List.foldl_cons, hstep]
      exact ih fun c hc => hl c (List.mem_cons_of_mem _ hc)
  exact hf _ fun b hb => List.mem_range.1 hb

end

/-! ### An access that is let through -/

section
variable {s : State} {ag : Agent} {w : Width} {addr : Word} (data : Word) (e : Ecc)

/-- A store that meets no trigger, and that agent, PMP and Table 1-6 allow, is made. -/
theorem State.access_store (ht : s.agentTrig ag .store addr.toNat = none) (hp : s.agentPmp ag .store addr.toNat (widthBytes w) = true)
    (hm : agentMakes ag .store w = true) (ho : accessOk .store w addr.toNat = true) :
    s.access ag .store w addr data e = s.storeAt ag w addr data e := by
  unfold State.access
  rw [ht, hp, hm, ho]
  rfl

/-- A load that meets no trigger, and that agent, PMP and Table 1-6 allow, is made. -/
theorem State.access_load (ht : s.agentTrig ag .load addr.toNat = none) (hp : s.agentPmp ag .load addr.toNat (widthBytes w) = true)
    (hm : agentMakes ag .load w = true) (ho : accessOk .load w addr.toNat = true) :
    s.access ag .load w addr data e = s.readAt ag .load w addr e := by
  unfold State.access
  rw [ht, hp, hm, ho]
  rfl

end

theorem agentMakes_of {ag : Agent} {k : AccKind} {w : Width} (h : ag = .debug → w = .w32) (hk : k ≠ .fetch) : agentMakes ag k w = true := by
  cases ag
  · rfl
  · rfl
  · simp [agentMakes, h rfl, hk]
  · simp [agentMakes, hk]

/-! ### Stores -/

/-- What a store of `bs` at `a` leaves: those bytes, every other byte and every register. -/
structure Stored (v u : State) (ag : Agent) (a : Nat) (bs : List Byte) : Prop where
  inside : ∀ i (hi : i < bs.length), u.byte (a + i) = bs[i]
  outside : ∀ x, x < a ∨ a + bs.length ≤ x → u.byte x = v.byte x
  regs : u.regs = v.regs
  done : u.heard ag = .done

theorem Stored.settles {v w u : State} {ag : Agent} {a : Nat} {bs : List Byte} (h : Stored v w ag a bs) (k : Settles w u) :
    Stored v u ag a bs where
  inside i hi := (k.byte _).trans (h.inside i hi)
  outside x hx := (k.byte _).trans (h.outside x hx)
  regs := k.regs.trans h.regs
  done := (k.heard ag).trans h.done

/-- A command that leaves `v` with the bytes set, but for the cores and the known bad words, and answers done. -/
theorem doneW_stored {v t : State} (hc : v.canonical) (q : v.Quiet) (ag : Agent) (a : Nat) (bs : List Byte) (x y : Core) (m : Memc)
    (ht : t = { v.setBytes a bs with core0 := x, core1 := y, memc := m }) :
    ∃ u, doneW (t.respond ag .done) = .next u ∧ Stored v u ag a bs := by
  subst ht
  have hq : ({ v.setBytes a bs with core0 := x, core1 := y, memc := m } : State).Quiet :=
    q.of (v.setBytes_waits a bs) (congrArg (fun r => sget regReset r Reg.CFG_PEND) (v.setBytes_regs a bs)) (v.setBytes_cfg a bs)
      (congrArg Env.st (v.setBytes_env a bs))
      (congrArg (fun r => fget (sget regReset r Reg.RFE_SPCTL) Reg.RFE_SPCTL_EN != 0) (v.setBytes_regs a bs))
      (v.setBytes_pwr a bs) (v.setBytes_start a bs)
  obtain ⟨u, hu, hset⟩ := doneW_settles (State.respond_quiet hq ag .done)
  have hb : ∀ z, (({ v.setBytes a bs with core0 := x, core1 := y, memc := m } : State).respond ag .done).byte z =
      (v.setBytes a bs).byte z := fun z => by
    unfold State.byte
    rw [State.respond_mem, State.respond_lost]
  refine ⟨u, hu, Stored.settles ⟨fun i hi => ?_, fun z hz => ?_, ?_, State.respond_heard _ _ _⟩ hset⟩
  · exact (hb _).trans (v.setBytes_byte_in hc.mem a bs i hi)
  · exact (hb z).trans (v.setBytes_byte_out a bs hz)
  · rw [State.respond_regs]
    exact v.setBytes_regs a bs

/-- A store to SRAM or to radio memory below the neighbour tables writes its bytes and goes through the caches (R16, R17, R267). -/
theorem State.ramStore_made {s : State} {a : Nat} {w : Width} (ag : Agent) {bs : List Byte} (hl : bs.length = widthBytes w)
    (ha : a % widthBytes w = 0) (hg : s.bankGood a) (ht : s.txqOver = false) (hr : a < 0x21020000) :
    s.ramStore ag a bs = ((s.setBytes a bs).storeCaches ag a bs).respond ag .done := by
  have hp : parseArea a = false := by
    unfold parseArea
    rw [decide_eq_false (show ¬0x2103F000 ≤ a by omega)]
    rfl
  have hx : rxnextOf a = none := if_neg fun h => absurd h.1 (by omega)
  have hm : ((s.setBytes a bs).storeCaches ag a bs).muddy a bs.length = (s.setBytes a bs).storeCaches ag a bs := by
    have hto : ((s.setBytes a bs).storeCaches ag a bs).txqOver = s.txqOver := by
      unfold State.txqOver State.get State.reg State.storeCaches
      rw [State.setBytes_regs]
    unfold State.muddy
    rw [hto, ht]
    rfl
  unfold State.ramStore
  rw [hl, State.rangeRefused_of_good ha hg, State.wakeRange_of_good ha hg, hp, hx, ← hl, hm]
  cases agentCore ag <;> rfl

theorem State.ballastStore_word {s : State} (ag : Agent) {a : Nat} (v : Word) (e : Ecc) (hf : ballastFree a = true) :
    s.ballastStore ag a (leBytes 4 v.toNat) e = (s.nvPut a v).respond ag .done := by
  have hv : BitVec.ofNat 32 (leNat (leBytes 4 v.toNat)) = v := by
    rw [leNat_leBytes, Nat.mod_eq_of_lt (show v.toNat < 256 ^ 4 from v.isLt), BitVec.ofNat_toNat, BitVec.setWidth_eq]
  unfold State.ballastStore
  rw [hf, if_neg (by simp), if_pos (by simp [leBytes]), hv]

theorem State.ballastStore_narrow {s : State} (ag : Agent) {a : Nat} {bs : List Byte} (hf : ballastFree a = true) (hl : bs.length ≠ 4)
    (hb : s.nvBad (a / 4 * 4) = false) : s.ballastStore ag a bs .clean = (s.setBytes a bs).respond ag .done := by
  have he : s.ballastEcc a .clean = .clean := if_neg (by simp [hb])
  unfold State.ballastStore
  rw [hf, if_neg (by simp), if_neg hl, he]

theorem leBytes_getElem (n v i : Nat) (h : i < (leBytes n v).length) : (leBytes n v)[i] = BitVec.ofNat 8 (v / 256 ^ i) := by
  simp [leBytes]

/-! ### Loads -/

/-- What a load of `x` leaves. -/
structure Loaded (v u : State) (ag : Agent) (x : Word) : Prop where
  data : u.heard ag = .data x
  bytes : v.sameBytes u
  regs : u.regs = v.regs

/-- A command that leaves `v` but for the cores and the choices used, and answers with a value. -/
theorem doneW_loaded {v t : State} (q : v.Quiet) (ag : Agent) (w : Word) (x y : Core) (f : Nat)
    (ht : t = { v with core0 := x, core1 := y, free := f }) : ∃ u, doneW (t.respond ag (.data w)) = .next u ∧ Loaded v u ag w := by
  subst ht
  have hq : ({ v with core0 := x, core1 := y, free := f } : State).Quiet := q.of rfl rfl rfl rfl rfl rfl rfl
  obtain ⟨u, hu, hset⟩ := doneW_settles (State.respond_quiet hq ag (.data w))
  refine ⟨u, hu, ⟨(hset.heard ag).trans (State.respond_heard _ _ _), fun z => (hset.byte z).trans ?_, hset.regs.trans (by simp)⟩⟩
  unfold State.byte
  rw [State.respond_mem, State.respond_lost]

/-- An access that is served through the agent's own cache. -/
theorem doneW_served {v : State} (q : v.Quiet) (ag : Agent) (k : AccKind) (a : Nat) (bs : List Byte) :
    ∃ u, doneW (v.fresh.serve ag k a bs) = .next u ∧ Loaded v u ag (BitVec.ofNat 32 (leNat bs)) := by
  cases ag
  · exact doneW_loaded q .core0 _ (v.core0.fill (isFetch k) a bs) v.core1 (v.free + 1) rfl
  · exact doneW_loaded q .core1 _ v.core0 (v.core1.fill (isFetch k) a bs) (v.free + 1) rfl
  · exact doneW_loaded q .debug _ v.core0 v.core1 (v.free + 1) rfl
  · exact doneW_loaded q .host _ v.core0 v.core1 (v.free + 1) rfl

section
variable {s : State} {a : Nat} {w : Width} (ag : Agent) (k : AccKind) (ha : a % widthBytes w = 0) (hg : s.bankGood a)
include ha hg

theorem State.ramRead_sram (h : region a = .sram) : s.ramRead ag k a (widthBytes w) = s.serve ag k a (s.bytes a (widthBytes w)) := by
  unfold State.ramRead
  rw [State.rangeRefused_of_good ha hg, State.wakeRange_of_good ha hg, if_neg (by simp), if_pos h]

theorem State.ramRead_radio (h : region a = .radio) : s.ramRead ag k a (widthBytes w) = s.respond ag (dataOf (s.bytes a (widthBytes w))) := by
  unfold State.ramRead
  rw [State.rangeRefused_of_good ha hg, State.wakeRange_of_good ha hg, if_neg (by simp), if_neg (by simp [h])]

end

/-! ### The obligation -/

theorem accessOk_store {a : Nat} {w : Width} (ha : a % widthBytes w = 0) (h : region a = .sram ∨ region a = .radio ∨ region a = .ballast) :
    accessOk .store w a = true := by
  rcases h with h | h | h <;> simp [accessOk, h, ha]

theorem accessOk_load {a : Nat} {w : Width} (ha : a % widthBytes w = 0) (h : region a = .sram ∨ region a = .radio ∨ region a = .rom) :
    accessOk .load w a = true := by
  rcases h with h | h | h <;> simp [accessOk, h, ha]

section
variable {s : State} (ag : Agent) (w : Width) (addr data : Word) (e : Ecc)

theorem State.storeAt_ram (h : region addr.toNat = .sram ∨ region addr.toNat = .radio) :
    s.storeAt ag w addr data e = s.ramStore ag addr.toNat (leBytes (widthBytes w) data.toNat) := by
  rcases h with h | h <;> simp only [State.storeAt, h]

theorem State.storeAt_ballast (h : region addr.toNat = .ballast) :
    s.storeAt ag w addr data e = s.ballastStore ag addr.toNat (leBytes (widthBytes w) data.toNat) e := by
  simp only [State.storeAt, h]

theorem State.readAt_rom (h : region addr.toNat = .rom) (hc : s.cached ag .load addr.toNat (widthBytes w) = none) :
    s.readAt ag .load w addr e = s.fresh.serve ag .load addr.toNat (s.bytes addr.toNat (widthBytes w)) := by
  simp only [State.readAt, h, hc]

theorem State.readAt_sram (h : region addr.toNat = .sram) (hc : s.cached ag .load addr.toNat (widthBytes w) = none) :
    s.readAt ag .load w addr e = s.fresh.ramRead ag .load addr.toNat (widthBytes w) := by
  simp only [State.readAt, h, hc]

theorem State.readAt_radio (h : region addr.toNat = .radio) :
    s.readAt ag .load w addr e = s.ramRead ag .load addr.toNat (widthBytes w) := by
  simp only [State.readAt, h]

end

/-- Settles O17: an access that the map, the PMP regions, the triggers and the banks allow is made, and nothing else changes. -/
theorem memoryStoresAndLoads : Obligations.MemoryStoresAndLoads := by
  unfold Obligations.MemoryStoresAndLoads
  intro s ag w addr data t v a n allowed stored hc q ha
  have hlen : (leBytes n data.toNat).length = n := leBytes_length _ _
  -- A store that ends in `Stored` is one as the statement has it.
  have hstored : allowed .store → region a = .sram ∨ region a = .radio ∨ region a = .ballast →
      (∃ u, doneW (v.storeAt ag w addr data .clean) = .next u ∧ Stored v u ag a (leBytes n data.toNat)) → stored := by
    rintro ⟨ht, hp, hd⟩ hr ⟨u, hu, h⟩
    refine ⟨u, ?_, fun i hi => ?_, fun x hx => h.outside x (by rwa [hlen]), h.regs, h.done⟩
    · rw [← hu, ← State.access_store data .clean ht hp (agentMakes_of hd (by simp)) (accessOk_store ha hr)]
      rfl
    · exact (h.inside i (by rwa [hlen])).trans (leBytes_getElem _ _ _ _)
  refine ⟨fun hal hr htq hg => ?_, fun hal hr hb => ?_, fun hal hcache hr => ?_⟩
  · have hreg : region a = .sram ∨ region a = .radio :=
      hr.imp (fun h => region_sram h.1 h.2) fun h => region_radio h.1 (by omega)
    refine hstored hal (hreg.imp_right .inl) ?_
    rw [State.storeAt_ram _ _ _ _ _ hreg, State.ramStore_made ag hlen ha hg htq (by omega)]
    exact doneW_stored hc q ag a _ _ _ (v.setBytes a (leBytes n data.toNat)).memc rfl
  · have hreg : region a = .ballast := by
      rcases hr with h | h <;> exact region_ballast (by omega) (by omega)
    have hf : ballastFree a = true := by
      unfold ballastFree
      rcases hr with h | h <;> simp [h.1, h.2]
    refine hstored hal (.inr (.inr hreg)) ?_
    rw [State.storeAt_ballast _ _ _ _ _ hreg]
    change ∃ u, doneW (v.ballastStore ag a (leBytes n data.toNat) .clean) = .next u ∧ _
    by_cases hw : w = .w32
    · have hn : n = 4 := by rw [show n = widthBytes w from rfl, hw]; rfl
      rw [hn, State.ballastStore_word ag data .clean hf]
      exact doneW_stored hc q ag a _ _ _ _ rfl
    · have hn : n ≠ 4 := by
        rw [show n = widthBytes w from rfl]
        cases w <;> simp_all [widthBytes]
      rw [State.ballastStore_narrow ag hf (by rwa [hlen]) (hb.resolve_left hw)]
      exact doneW_stored hc q ag a _ _ _ (v.setBytes a (leBytes n data.toNat)).memc rfl
  · obtain ⟨ht, hp, hd⟩ := hal
    have hexec : region a = .sram ∨ region a = .radio ∨ region a = .rom →
        exec (.memoryAccess ag .load w addr data .clean t) s = doneW (v.readAt ag .load w addr .clean) := fun h => by
      rw [← State.access_load data .clean ht hp (agentMakes_of hd (by simp)) (accessOk_load ha h)]
      rfl
    have hload : ∀ r : State, exec (.memoryAccess ag .load w addr data .clean t) s = doneW r →
        (∃ u, doneW r = .next u ∧ Loaded v u ag (BitVec.ofNat 32 (leNat (v.bytes a n)))) →
        ∃ u, exec (.memoryAccess ag .load w addr data .clean t) s = .next u ∧
          u.heard ag = .data (BitVec.ofNat 32 (leNat (v.bytes a n))) ∧ v.sameBytes u ∧ u.regs = v.regs := by
      rintro r hr ⟨u, hu, h⟩
      exact ⟨u, hr.trans hu, h.data, h.bytes, h.regs⟩
    rcases hr with ⟨h | h, hg⟩ | h
    · have hreg := region_sram h.1 h.2
      have hrd : v.readAt ag .load w addr .clean = v.fresh.serve ag .load a (v.bytes a n) :=
        (State.readAt_sram ag w addr .clean hreg hcache).trans (State.ramRead_sram (s := v.fresh) ag .load ha hg hreg)
      exact hload _ ((hexec (.inl hreg)).trans (congrArg doneW hrd)) (doneW_served q ag .load a _)
    · have hreg := region_radio h.1 h.2
      have hrd : v.readAt ag .load w addr .clean = v.respond ag (dataOf (v.bytes a n)) :=
        (State.readAt_radio ag w addr .clean hreg).trans (State.ramRead_radio ag .load ha hg hreg)
      exact hload _ ((hexec (.inr (.inl hreg))).trans (congrArg doneW hrd)) (doneW_loaded q ag _ v.core0 v.core1 v.free rfl)
    · have hreg := region_rom h
      exact hload _ ((hexec (.inr (.inr hreg))).trans (congrArg doneW (State.readAt_rom ag w addr .clean hreg hcache))) (doneW_served q ag .load a _)

end Sys2Proof.Machine
end

section
/-! SUPPORT. Register writes by class (R6, R45 to R47): where a write goes that carries no command of its own, and how the command ends
while writes still wait. -/

namespace Sys2Proof.Machine

/-! ### Where nothing but a unit off its boundary waits -/

/-- Nothing but the writes and sets of units is due. -/
structure State.Still (s : State) : Prop where
  held : s.cfg.held = none
  single : s.env.st = .off ∨ s.flag Reg.RFE_SPCTL_EN = false
  awake : s.pwr.forced = none
  entry : s.pwr.hs = none
  wake : s.pwr.wakeReq = 0
  cores : s.pwr.wakeCores = 0
  got : s.pwr.wakeGot = 0
  req : s.start.req = 0

theorem State.Quiet.still {s : State} (q : s.Quiet) : s.Still :=
  ⟨q.held, q.single, q.awake, q.entry, q.wake, q.cores, q.got, q.req⟩

theorem State.Still.quiet {s : State} (h : s.Still) (hw : s.waits = []) (hp : s.pend = 0) : s.Quiet :=
  ⟨hw, hp, h.held, h.single, h.awake, h.entry, h.wake, h.cores, h.got, h.req⟩

theorem State.Still.of {s t : State} (h : s.Still) (hc : t.cfg.held = s.cfg.held) (he : t.env.st = s.env.st)
    (hf : t.reg Reg.RFE_SPCTL = s.reg Reg.RFE_SPCTL) (hr : t.pwr = s.pwr) (hs : t.start = s.start) : t.Still :=
  have hflag : t.flag Reg.RFE_SPCTL_EN = s.flag Reg.RFE_SPCTL_EN := congrArg (fun w => fget w Reg.RFE_SPCTL_EN != 0) hf
  ⟨hc.trans h.held, by rw [he, hflag]; exact h.single,
    by rw [hr]; exact h.awake, by rw [hr]; exact h.entry, by rw [hr]; exact h.wake, by rw [hr]; exact h.cores, by rw [hr]; exact h.got,
    by rw [hs]; exact h.req⟩

theorem Settles.still {v u : State} (h : Settles v u) (q : v.Still) : u.Still := by
  rw [h.rest]
  exact ⟨q.held, q.single, q.awake, q.entry, q.wake, q.cores, q.got, q.req⟩

theorem Pwr.wake_cleared {p : Pwr} (hr : p.wakeReq = 0) (hc : p.wakeCores = 0) (hg : p.wakeGot = 0) :
    { p with wakeReq := 0, wakeCores := 0, wakeGot := 0 } = p := by
  cases p
  simp_all

theorem State.Still.isAwake {s : State} (h : s.Still) : s.awake = true := by
  unfold State.awake
  rw [h.awake]

section
variable {s : State} (h : s.Still)
include h

theorem State.Still.boundaries (hb : ∀ u, s.hasWork u = true → s.atBoundary u = false) : s.boundaries = s := by
  have hf : ∀ l : List Nat, l.foldl (fun s u => if s.hasWork u && s.atBoundary u then s.applyUnit u else s) s = s := fun l => by
    induction l with
    | nil => rfl
    | cons u r ih =>
      have hu : (s.hasWork u && s.atBoundary u) = false := by
        cases hw : s.hasWork u
        · rfl
        · exact hb u hw
      rw [List.foldl_cons, hu]
      exact ih
  have hsp : s.spBlock = s := by
    unfold State.spBlock
    rcases h.single with he | he <;> simp [he]
  unfold State.boundaries
  rw [hf, hsp]
  unfold State.afterPend
  rw [h.held]

theorem State.Still.hoverStep : s.hoverStep = s := if_neg (by simp [h.awake])

theorem State.Still.fioStep : s.fioStep = s := if_neg (by simp [h.isAwake])

theorem State.Still.wakeStep : s.wakeStep = s := by
  have ha : s.pwr.asleep = none := by
    unfold Pwr.asleep
    rw [h.awake]
  unfold State.wakeStep
  dsimp only
  split
  · rename_i hm
    exact nomatch ha.symm.trans hm
  · rename_i hm
    exact nomatch h.entry.symm.trans hm
  · exact congrArg (fun p => { s with pwr := p }) (Pwr.wake_cleared h.wake h.cores h.got)

theorem State.Still.ripStep : s.ripStep = s := if_pos h.req

end

/-- A command after which no unit with work is at its boundary. -/
theorem State.Still.doneW {s : State} (h : s.Still) (hb : ∀ u, s.hasWork u = true → s.atBoundary u = false) :
    ∃ u, doneW s = .next u ∧ Settles s u := by
  refine ⟨_, rfl, ?_⟩
  rw [h.boundaries hb]
  have h1 := s.settle_settles.still h
  rw [h1.hoverStep, h1.fioStep, h1.wakeStep, h1.ripStep]
  exact s.settle_settles.trans (State.settle_settles _)

/-! ### A register write without a command -/

theorem eq_of_idxIn {a base stride n i : Nat} (h : idxIn a base stride n = some i) : i < n ∧ a = base + stride * i := by
  unfold idxIn at h
  split at h
  · rename_i hc
    obtain ⟨hb, hm, hn⟩ := hc
    cases h
    have := Nat.div_add_mod (a - base) stride
    exact ⟨hn, by omega⟩
  · cases h

/-- The registers whose write carries out a command of its own (R10, R45). -/
def commandRegs : List Nat :=
  [Reg.SYS_SWRST, Reg.SYS_C1CTL, Reg.SYS_BOOTGOOD, Reg.SYS_UPDCMD, Reg.SYS_SAFECTL, Reg.SYS_PADCTL, Reg.PWR_CMD, Reg.PWR_WAKEAT_LO,
    Reg.PWR_WAKEAT_HI, Reg.CFG_CMD, Reg.CFG_WIGN, Reg.CFG_LAGLIM, Reg.RTC_CMD, Reg.TBASE_CTL, Reg.EVL_PUBSW, Reg.ICOL_EOI 0, Reg.ICOL_EOI 1,
    Reg.ICOL_SWPOST 0, Reg.ICOL_SWPOST 1, Reg.FLC_CMD, Reg.MEMC_TCMD, Reg.CIPH_CTL, Reg.CIPH_ALMEN, Reg.CIPH_KSEL, Reg.CIPH_KCMD,
    Reg.CIPH_QPUT 0, Reg.CIPH_QPUT 1, Reg.CIPH_QCTL 0, Reg.CIPH_QCTL 1, Reg.RFE_CMD, Reg.ENV_GHOLD_SET, Reg.ENV_GHOLD_CLR, Reg.REEL_E16CTL,
    Reg.REEL_CRST, Reg.REEL_LDCMD, Reg.REEL_TXQBASE, Reg.LINK_CMD, Reg.LINK_ADJ, Reg.LINK_RTAKE 0, Reg.LINK_RTAKE 1, Reg.GPIO_OUTSET 1,
    Reg.GPIO_OUTCLR 0, Reg.GPIO_OUTCLR 1, Reg.SPIC_CMD 0, Reg.SPIC_CMD 1, Reg.SPIC_DATA 0, Reg.SPIC_DATA 1, Reg.UART_DATA 0, Reg.UART_DATA 1,
    Reg.I2C_CMD 0, Reg.I2C_CMD 1, Reg.I2C_DATA 0, Reg.I2C_DATA 1, Reg.SADC_CMD, Reg.WDT_CTL 0, Reg.WDT_CTL 1, Reg.WDT_KICK 0, Reg.WDT_KICK 1,
    Reg.HOSTIF_CMD]

/-- The rows of registers of that kind: first address, stride and count. -/
def commandRows : List (Nat × Nat × Nat) :=
  [(Reg.EVL_LINECFG 0, 4, 96), (Reg.CIPH_KDATA 0, 4, 8), (Reg.TMR_CMD 0, 16, 8), (Reg.HOSTIF_TXBUF 0, 4, 256)]

/-- A write of the register at `a` carries no command. -/
abbrev plainReg (a : Nat) : Prop := a ∉ commandRegs ∧ ∀ r ∈ commandRows, idxIn a r.1 r.2.1 r.2.2 = none

theorem regRow?_ne_none {r : RegRow} (hr : r ∈ regRows) (hs : 0 < r.stride) {i : Nat} (hi : i < r.count) :
    regRow? (r.base + r.stride * i) ≠ none := by
  intro h
  refine List.find?_eq_none.1 h r hr ?_
  simp [Nat.mul_div_cancel_left i hs, hi]

/-- Every register whose write carries a command is one of the register map. -/
theorem plainReg_of_unassigned {a : Nat} (h : regRow? a = none) : plainReg a := by
  have h1 : ∀ b ∈ commandRegs, (regRow? b).isSome := by decide +kernel
  have h2 : ∀ r ∈ commandRows, ∃ q ∈ regRows, q.base = r.1 ∧ q.stride = r.2.1 ∧ q.count = r.2.2 ∧ 0 < q.stride := by decide +kernel
  refine ⟨fun hm => by simpa [h] using h1 a hm, fun r hr => Option.eq_none_iff_forall_ne_some.2 fun i hi => ?_⟩
  obtain ⟨hlt, he⟩ := eq_of_idxIn hi
  obtain ⟨q, hq, hb, hs, hc, h0⟩ := h2 r hr
  rw [← hb, ← hs] at he
  exact regRow?_ne_none hq h0 (hc ▸ hlt) (he ▸ h)

section
variable {s : State} {a : Nat} (v : Word) (h : plainReg a)
include h

theorem State.sysWrite_plain : s.sysWrite a v = none := by
  obtain ⟨hc, hr⟩ := h
  have hi : idxIn a (Reg.EVL_LINECFG 0) 4 96 = none := hr (Reg.EVL_LINECFG 0, 4, 96) (by simp [commandRows])
  simp only [commandRegs, List.mem_cons, List.not_mem_nil, or_false, not_or] at hc
  simp [State.sysWrite, hi, hc]

theorem State.coreUnitWrite_plain : s.coreUnitWrite a v = none := by
  obtain ⟨hc, hr⟩ := h
  have hi : idxIn a (Reg.CIPH_KDATA 0) 4 8 = none := hr (Reg.CIPH_KDATA 0, 4, 8) (by simp [commandRows])
  simp only [commandRegs, List.mem_cons, List.not_mem_nil, or_false, not_or] at hc
  simp [State.coreUnitWrite, hi, hc]

theorem State.radioWrite_plain : s.radioWrite a v = none := by
  obtain ⟨hc, hr⟩ := h
  simp only [commandRegs, List.mem_cons, List.not_mem_nil, or_false, not_or] at hc
  simp [State.radioWrite, hc]

theorem State.periphWrite_plain : s.periphWrite a v = none := by
  obtain ⟨hc, hr⟩ := h
  have hi : idxIn a (Reg.TMR_CMD 0) 16 8 = none := hr (Reg.TMR_CMD 0, 16, 8) (by simp [commandRows])
  have hj : idxIn a (Reg.HOSTIF_TXBUF 0) 4 256 = none := hr (Reg.HOSTIF_TXBUF 0, 4, 256) (by simp [commandRows])
  simp only [commandRegs, List.mem_cons, List.not_mem_nil, or_false, not_or] at hc
  simp [State.periphWrite, hi, hj, hc]

/-- A write without a command takes its fields by class (R45 to R47). -/
theorem State.regWrite_plain (hr : region a = .periph) : s.regWrite a v = s.writeReg a v := by
  have hlt : a < 0x4F000000 := by
    by_contra hge
    have : region a ≠ .periph := by
      unfold region
      iterate 8 rw [if_neg (by omega)]
      split <;> [simp; (split <;> simp)]
    exact this hr
  unfold State.regWrite
  rw [if_neg (by omega), if_neg (by omega), State.sysWrite_plain v h, State.coreUnitWrite_plain v h, State.radioWrite_plain v h,
    State.periphWrite_plain v h]
  simp

end

/-! ### A write by the class of the register's fields -/

/-- The register at `a` has fields of class S alone, with the mask `m`. -/
def onlyS (a : Nat) (m : Word) : Bool :=
  match regRow? a with
  | some r => r.rwK = 0 && (r.w1c ||| r.w1s) = 0 && r.rwS = m && m != 0 && r.rwL = 0
  | none => false

/-- The register at `a` has fields of class K alone, with the mask `m`. -/
def onlyK (a : Nat) (m : Word) : Bool :=
  match regRow? a with
  | some r => r.rwK = m && m != 0 && (r.w1c ||| r.w1s) = 0 && r.rwS = 0 && r.rwL = 0
  | none => false

/-- The register at `a` has fields of class L alone, with the mask `m`. -/
def onlyL (a : Nat) (m : Word) : Bool :=
  match regRow? a with
  | some r => r.rwK = 0 && (r.w1c ||| r.w1s) = 0 && r.rwS = 0 && r.rwL = m && m != 0
  | none => false

/-- The register at `a` has no field that a write changes. -/
def readOnly (a : Nat) : Bool :=
  match regRow? a with
  | some r => r.rwK = 0 && (r.w1c ||| r.w1s) = 0 && r.rwS = 0 && r.rwL = 0
  | none => true

theorem sMask_of_onlyS {a : Nat} {m : Word} (h : onlyS a m = true) : sMask a = m := by
  unfold onlyS at h
  unfold sMask
  split at h
  · rename_i r hr
    simp_all
  · simp at h

theorem kMask_of_onlyK {a : Nat} {m : Word} (h : onlyK a m = true) : kMask a = m := by
  unfold onlyK at h
  unfold kMask
  split at h
  · rename_i r hr
    simp_all
  · simp at h

theorem State.writeReg_of_row {a : Nat} {r : RegRow} (hr : regRow? a = some r) (s : State) (v : Word) :
    s.writeReg a v =
      let s := if r.rwK = 0 then s else s.writeK a v
      let s := if r.w1c ||| r.w1s = 0 then s else s.setReg a ((s.reg a &&& ~~~(v &&& r.w1c)) ||| (v &&& r.w1s))
      let s := if r.rwS = 0 then s else s.writeS a v
      if r.rwL = 0 then s else s.writeL a r.rwL v := by
  unfold State.writeReg
  rw [hr]

theorem State.writeReg_onlyS {a : Nat} {m : Word} (h : onlyS a m = true) (s : State) (v : Word) : s.writeReg a v = s.writeS a v := by
  unfold onlyS at h
  split at h
  · rename_i r hr
    simp only [Bool.and_eq_true, decide_eq_true_eq, bne_iff_ne] at h
    obtain ⟨⟨⟨⟨hk, hw⟩, hs⟩, hm⟩, hl⟩ := h
    simp only [State.writeReg_of_row hr, hk, hw, hs, hl, hm, ↓reduceIte]
  · simp at h

theorem State.writeReg_onlyK {a : Nat} {m : Word} (h : onlyK a m = true) (s : State) (v : Word) : s.writeReg a v = s.writeK a v := by
  unfold onlyK at h
  split at h
  · rename_i r hr
    simp only [Bool.and_eq_true, decide_eq_true_eq, bne_iff_ne] at h
    obtain ⟨⟨⟨⟨hk, hm⟩, hw⟩, hs⟩, hl⟩ := h
    simp only [State.writeReg_of_row hr, hk, hw, hs, hl, hm, ↓reduceIte]
  · simp at h

theorem State.writeReg_onlyL {a : Nat} {m : Word} (h : onlyL a m = true) (s : State) (v : Word) : s.writeReg a v = s.writeL a m v := by
  unfold onlyL at h
  split at h
  · rename_i r hr
    simp only [Bool.and_eq_true, decide_eq_true_eq, bne_iff_ne] at h
    obtain ⟨⟨⟨⟨hk, hw⟩, hs⟩, hl⟩, hm⟩ := h
    simp only [State.writeReg_of_row hr, hk, hw, hs, hl, hm, ↓reduceIte]
  · simp at h

theorem State.writeReg_readOnly {a : Nat} (h : readOnly a = true) (s : State) (v : Word) : s.writeReg a v = s := by
  unfold readOnly at h
  split at h
  · rename_i r hr
    simp only [Bool.and_eq_true, decide_eq_true_eq] at h
    obtain ⟨⟨⟨hk, hw⟩, hs⟩, hl⟩ := h
    simp only [State.writeReg_of_row hr, hk, hw, hs, hl, ↓reduceIte]
  · rename_i hr
    unfold State.writeReg
    rw [hr]

end Sys2Proof.Machine
end

section
/-! SUPPORT. How a unit takes its waiting writes and its armed set in one step (R45, R49), and what its new values set off where no register
with an effect of its own is among them (R118, R434). -/

namespace Sys2Proof.Machine

/-! ### Registers take values one after another -/

/-- Writes of registers one after another change the registers alone, and each register by the writes of its own address. -/
theorem foldl_setReg {α : Type} (key : α → Nat) (f : Nat → α → Word → Word) (l : List α) (s : State) (h : Swf regReset s.regs) :
    ∃ r, l.foldl (fun s x => s.setReg (key x) (f (key x) x (s.reg (key x)))) s = { s with regs := r } ∧ Swf regReset r ∧
      ∀ a, sget regReset r a = (l.filter fun x => key x = a).foldl (fun w x => f a x w) (s.reg a) := by
  induction l generalizing s with
  | nil => exact ⟨s.regs, rfl, h, fun _ => rfl⟩
  | cons x l ih =>
    obtain ⟨r, hr, hw, hg⟩ := ih _ (s.setReg_Swf h (key x) (f (key x) x (s.reg (key x))))
    refine ⟨r, hr, hw, fun a => (hg a).trans ?_⟩
    by_cases ha : key x = a
    · subst ha
      rw [s.setReg_reg_self h, List.filter_cons_of_pos (by simp)]
      rfl
    · rw [s.setReg_reg_ne _ (Ne.symm ha), List.filter_cons_of_neg (by simpa using ha)]

/-- The value of the register at `a` after its waiting writes and then its armed bits. -/
def State.goes (v : State) (a : Nat) : Word :=
  (v.armed.filter fun p => p.1 = a).foldl (fun w p => mergeBits w (sMask a) p.2)
    ((v.waits.filter fun x => x.addr = a).foldl (fun w x => mergeBits w x.mask x.val) (v.reg a))

theorem State.goes_untouched {v : State} {a : Nat} (hw : ∀ x ∈ v.waits, x.addr ≠ a) (ha : ∀ p ∈ v.armed, p.1 ≠ a) : v.goes a = v.reg a := by
  unfold State.goes
  rw [List.filter_eq_nil_iff.2 (by simpa using hw), List.filter_eq_nil_iff.2 (by simpa using ha)]
  rfl

/-- Writes and an armed set of unit n wait, and none of another unit. -/
structure State.DueAt (v : State) (n : Nat) : Prop where
  regs : Swf regReset v.regs
  unit : n < 31
  waits : ∀ x ∈ v.waits, unitOf x.addr = n
  armed : ∀ p ∈ v.armed, unitOf p.1 = n
  pend : v.pend = if v.armed = [] then 0 else (1 : Word) <<< n

/-- `m` is `v` with the waiting writes and the armed set of unit n taken, and nothing else changed but the lag and the digests. -/
structure Taken (v m : State) (n : Nat) : Prop where
  rest : m = { v with waits := [], armed := [], regs := m.regs, cfg := { v.cfg with lag := m.cfg.lag, digBusy := m.cfg.digBusy } }
  swf : Swf regReset m.regs
  reg : ∀ a, a ≠ Reg.CFG_PEND → m.reg a = v.goes a
  pend : m.pend = 0
  lag : v.armed ≠ [] → m.cfg.lag = sput (fun _ => 0) v.cfg.lag n (v.now - v.cfg.switchT)

/-- A unit to which every waiting write belongs takes them all. -/
theorem State.mergeWaits_all {v : State} {n : Nat} (hv : Swf regReset v.regs) (h : ∀ x ∈ v.waits, unitOf x.addr = n) :
    ∃ r, v.mergeWaits n = { v with waits := [], regs := r } ∧ Swf regReset r ∧
      ∀ a, sget regReset r a = (v.waits.filter fun x => x.addr = a).foldl (fun w x => mergeBits w x.mask x.val) (v.reg a) := by
  have hmine : v.waitsFor n = v.waits := List.filter_eq_self.2 fun x hx => by simp [h x hx]
  have hrest : (v.waits.filter fun x => unitOf x.addr != n) = [] := List.filter_eq_nil_iff.2 fun x hx => by simp [h x hx]
  unfold State.mergeWaits
  rw [hmine, hrest]
  exact foldl_setReg WaitW.addr (fun _ x w => mergeBits w x.mask x.val) v.waits { v with waits := [] } hv

/-- The register `CFG_PEND` belongs to unit 31. -/
theorem unitOf_CFG_PEND : unitOf Reg.CFG_PEND = 31 := by decide

theorem ne_CFG_PEND {a n : Nat} (hn : n < 31) (ha : unitOf a = n) : a ≠ Reg.CFG_PEND := by
  rintro rfl
  rw [unitOf_CFG_PEND] at ha
  omega

theorem bitOf_shiftLeft_one {n u : Nat} (hn : n < 32) : bitOf ((1 : Word) <<< n) u = decide (u = n) := by
  unfold bitOf
  rw [BitVec.getLsbD_shiftLeft]
  by_cases hu : u = n
  · subst hu
    simp [hn]
  · have : (1 : Word).getLsbD (u - n) = decide (u - n = 0) := by simp [BitVec.getLsbD_one]
    rw [this]
    by_cases hlt : u < n
    · simp [hlt, hu]
    · simp [show u - n ≠ 0 by omega, hu]

theorem State.DueAt.taken {v : State} {n : Nat} (h : v.DueAt n) : Taken v ((v.mergeWaits n).mergeArmed n) n := by
  obtain ⟨r, hr, hw, hg⟩ := State.mergeWaits_all h.regs h.waits
  have hpend : ({ v with waits := [], regs := r } : State).pend = v.pend := by
    refine (hg Reg.CFG_PEND).trans ?_
    rw [List.filter_eq_nil_iff.2 fun x hx => by simpa using ne_CFG_PEND h.unit (h.waits x hx)]
    rfl
  rw [hr]
  unfold State.mergeArmed
  rw [hpend, h.pend]
  by_cases ha : v.armed = []
  · rw [if_pos ha, if_neg (by simp [bitOf])]
    refine ⟨by rw [← ha], hw, fun a _ => (hg a).trans ?_, hpend.trans (by rw [h.pend, if_pos ha]), fun hn => absurd ha hn⟩
    unfold State.goes
    rw [ha]
    rfl
  · have hmine : (v.armed.filter fun p => unitOf p.1 = n) = v.armed := List.filter_eq_self.2 fun p hp => by simp [h.armed p hp]
    have hrest : (v.armed.filter fun p => unitOf p.1 != n) = [] := List.filter_eq_nil_iff.2 fun p hp => by simp [h.armed p hp]
    obtain ⟨r', hr', hw', hg'⟩ := foldl_setReg Prod.fst (fun a (p : Nat × Word) w => mergeBits w (sMask a) p.2) v.armed
      { v with waits := [], armed := [], regs := r } hw
    have hpend' : ({ v with waits := [], armed := [], regs := r' } : State).pend = (1 : Word) <<< n := by
      refine (hg' Reg.CFG_PEND).trans ?_
      rw [List.filter_eq_nil_iff.2 fun p hp => by simpa using ne_CFG_PEND h.unit (h.armed p hp)]
      exact hpend.trans (by rw [h.pend, if_neg ha])
    have hbit : bitOf ((1 : Word) <<< n) n = true := by
      rw [bitOf_shiftLeft_one (by have := h.unit; omega)]
      simp
    rw [if_neg ha, if_pos hbit]
    dsimp only
    rw [hmine, hrest]
    have hfold : v.armed.foldl (fun s p => s.setReg p.1 (mergeBits (s.reg p.1) (sMask p.1) p.2))
        { v with waits := [], armed := [], regs := r } = { v with waits := [], armed := [], regs := r' } := hr'
    rw [hfold, hpend']
    refine ⟨rfl, Swf_sput hw' _ _, fun a hne => ?_, ?_, fun _ => rfl⟩
    · exact (sget_sput_ne _ _ _ hne).trans ((hg' a).trans (by rw [show State.reg _ a = sget regReset r a from rfl, hg a]; rfl))
    · refine (sget_sput_self hw'.1 _ _).trans ?_
      simp

end Sys2Proof.Machine
end

section
/-! SUPPORT. What the values that a unit has taken set off: nothing, the states of a group's idle lanes (R110, R118, R119), or the loss of
what a new `ENV_SVBASE` overlaps (R434). -/

namespace Sys2Proof.Machine

/-! ### Lanes, memory and nothing else -/

/-- `t` is `s` but for lanes and memory. -/
def Beside (s t : State) : Prop := t = { s with lanes := t.lanes, mem := t.mem, lost := t.lost, free := t.free }

theorem Beside.refl (s : State) : Beside s s := rfl

theorem Beside.trans {s t u : State} (h : Beside s t) (k : Beside t u) : Beside s u := by
  unfold Beside at *
  rw [k, h]

theorem beside_foldl {α : Type} {f : State → α → State} (h : ∀ s i, Beside s (f s i)) (l : List α) (s : State) : Beside s (l.foldl f s) := by
  induction l generalizing s with
  | nil => exact .refl s
  | cons i l ih => exact (h s i).trans (ih _)

theorem State.setBytes_beside (s : State) (a : Nat) (bs : List Byte) : Beside s (s.setBytes a bs) := by
  induction bs generalizing s a with
  | nil => exact .refl s
  | cons b bs ih => exact Beside.trans (show Beside s (s.setByte a b) from rfl) (ih _ _)

theorem State.setWords_beside (s : State) (a : Nat) (ws : List Word) : Beside s (s.setWords a ws) := by
  induction ws generalizing s a with
  | nil => exact .refl s
  | cons w ws ih => exact (s.setBytes_beside a _).trans (ih _ _)

theorem State.muddy_beside (s : State) (a n : Nat) : Beside s (s.muddy a n) := by
  unfold State.muddy
  dsimp only
  split
  · rfl
  · exact .refl s

theorem State.txqOverlap_beside (s : State) : Beside s s.txqOverlap := by
  unfold State.txqOverlap
  split
  · rfl
  · exact .refl s

theorem State.updLane_beside (s : State) (k : Nat) (l : Lane) : Beside s (s.updLane k l) :=
  (show Beside s (s.setLane k l) from rfl).trans ((State.setWords_beside _ _ _).trans (State.muddy_beside _ _ _))

/-- One step of `groupRest`: a lane that is neither in an attempt nor in a frame takes its state. -/
def State.idleRest (s : State) (k : Nat) : State :=
  let l := s.lane k
  if l.st = .preamble || l.st = .frame then s else s.updLane k (s.restLane k)

theorem State.groupRest_eq (s : State) (g : Nat) : s.groupRest g = (List.range 8).foldl (fun s i => s.idleRest (8 * g + i)) s := rfl

theorem State.idleRest_beside (s : State) (k : Nat) : Beside s (s.idleRest k) := by
  unfold State.idleRest
  dsimp only
  split
  · exact .refl s
  · exact s.updLane_beside _ _

theorem State.groupRest_beside (s : State) (g : Nat) : Beside s (s.groupRest g) := by
  rw [State.groupRest_eq]
  exact beside_foldl (fun s i => s.idleRest_beside (8 * g + i)) _ s

/-! ### The state that its group leaves a lane -/

theorem Beside.restState {s t : State} (h : Beside s t) (k : Nat) : t.restState k = s.restState k := by
  rw [h]
  rfl

theorem State.restState_idle (s : State) (k : Nat) : s.restState k ≠ .preamble ∧ s.restState k ≠ .frame := by
  unfold State.restState
  split_ifs <;> simp

theorem State.muddy_lanes (s : State) (a n : Nat) : (s.muddy a n).lanes = s.lanes := by
  unfold State.muddy
  exact ite_same State.lanes rfl rfl

theorem State.setWords_lanes (s : State) (a : Nat) (ws : List Word) : (s.setWords a ws).lanes = s.lanes := by
  induction ws generalizing s a with
  | nil => rfl
  | cons w ws ih => exact (ih _ _).trans (s.setBytes_lanes a _)

theorem State.updLane_lanes (s : State) (k : Nat) (l : Lane) : (s.updLane k l).lanes = sput (fun _ => Lane.reset) s.lanes k l :=
  (State.muddy_lanes _ _ _).trans (State.setWords_lanes _ _ _)

theorem State.idleRest_lane_ne (s : State) {k j : Nat} (h : j ≠ k) : (s.idleRest k).lane j = s.lane j := by
  unfold State.idleRest
  dsimp only
  split
  · rfl
  · unfold State.lane
    rw [State.updLane_lanes, sget_sput_ne _ _ _ h]

theorem State.idleRest_lane_self {s : State} (hs : Swf (fun _ => Lane.reset) s.lanes) {k : Nat} (hp : (s.lane k).st ≠ .preamble)
    (hf : (s.lane k).st ≠ .frame) : ((s.idleRest k).lane k).st = s.restState k := by
  unfold State.idleRest
  dsimp only
  rw [if_neg (by simp [hp, hf])]
  unfold State.lane
  rw [State.updLane_lanes, sget_sput_self hs.1]
  rfl

theorem State.idleRest_swf {s : State} (hs : Swf (fun _ => Lane.reset) s.lanes) (k : Nat) :
    Swf (fun _ => Lane.reset) (s.idleRest k).lanes := by
  unfold State.idleRest
  dsimp only
  split
  · exact hs
  · rw [State.updLane_lanes]
    exact Swf_sput hs _ _

/-- A lane that is in no attempt and no frame ends in its group's state, whether it has it already or is one of those that take it. -/
theorem foldl_idleRest_lane (g : Nat) {k : Nat} (l : List Nat) (s : State) (hs : Swf (fun _ => Lane.reset) s.lanes)
    (hp : (s.lane k).st ≠ .preamble) (hf : (s.lane k).st ≠ .frame) (h : (∃ i ∈ l, k = 8 * g + i) ∨ (s.lane k).st = s.restState k) :
    ((l.foldl (fun s i => s.idleRest (8 * g + i)) s).lane k).st = s.restState k := by
  induction l generalizing s with
  | nil => exact h.resolve_left (by simp)
  | cons i l ih =>
    have hr := (s.idleRest_beside (8 * g + i)).restState k
    rw [List.foldl_cons, ← hr]
    by_cases hk : k = 8 * g + i
    · subst hk
      have hst := (s.idleRest_lane_self hs hp hf).trans hr.symm
      exact ih _ (State.idleRest_swf hs _) (hst ▸ (State.restState_idle _ _).1) (hst ▸ (State.restState_idle _ _).2) (.inr hst)
    · have hl := s.idleRest_lane_ne hk
      refine ih _ (State.idleRest_swf hs _) (hl ▸ hp) (hl ▸ hf) ?_
      rcases h with ⟨j, hj, rfl⟩ | h
      · rcases List.mem_cons.1 hj with rfl | hj
        · exact absurd rfl hk
        · exact .inl ⟨j, hj, rfl⟩
      · exact .inr (by rw [hl, hr, h])

theorem State.groupRest_lane {s : State} (hs : Swf (fun _ => Lane.reset) s.lanes) {g i : Nat} (hi : i < 8)
    (hp : (s.lane (8 * g + i)).st ≠ .preamble) (hf : (s.lane (8 * g + i)).st ≠ .frame) :
    ((s.groupRest g).lane (8 * g + i)).st = s.restState (8 * g + i) := by
  rw [State.groupRest_eq]
  exact foldl_idleRest_lane g _ s hs hp hf (.inl ⟨i, List.mem_range.2 hi, rfl⟩)

theorem Settles.restState {v u : State} (h : Settles v u) (k : Nat) : u.restState k = v.restState k := by
  have hm : u.laneMuted k = v.laneMuted k := by
    unfold State.laneMuted
    dsimp only
    rcases h.ctx (engOf k) (ctxOf k) with hc | ⟨hw, g, hc⟩
    · rw [hc]
    · rw [hc, hw]
      rfl
  have hm' : k = 128 → u.laneMuted 128 = v.laneMuted 128 := fun hk => hk ▸ hm
  unfold State.restState
  rw [hm]
  by_cases hk : k = 128
  · rw [if_pos hk, if_pos hk, hm' hk, h.rfe]
  · rw [if_neg hk, if_neg hk]
    unfold State.held State.laneEnabled State.std State.flag State.eng State.get State.reg
    rw [h.regs, h.engs, h.env, h.rfe]

/-! ### What applying sets off -/

theorem State.onApply_group (s old : State) {n : Nat} (h : n < 16) :
    s.onApply old n = if s.reg (Reg.ENV_GCFG n) != old.reg (Reg.ENV_GCFG n) then s.groupRest n else s := if_pos h

theorem State.onApply_rfe (s old : State) (hc : s.reg Reg.RFE_CTL = old.reg Reg.RFE_CTL) (hs : s.reg Reg.RFE_SPCTL = old.reg Reg.RFE_SPCTL) :
    s.onApply old 16 = s := by
  have he : ∀ w : Word, (w != w) = false := fun w => by simp
  show (if s.reg Reg.RFE_SPCTL != old.reg Reg.RFE_SPCTL then State.spApply (if s.reg Reg.RFE_CTL != old.reg Reg.RFE_CTL then _ else s) _
    else if s.reg Reg.RFE_CTL != old.reg Reg.RFE_CTL then _ else s) = s
  rw [hc, hs, he, he]
  rfl

theorem State.onApply_env (s old : State) (hc : s.reg Reg.ENV_CTL = old.reg Reg.ENV_CTL) :
    s.onApply old 17 = if s.reg Reg.ENV_SVBASE != old.reg Reg.ENV_SVBASE then s.txqOverlap else s := by
  have he : ∀ w : Word, (w != w) = false := fun w => by simp
  show (if s.reg Reg.ENV_SVBASE != old.reg Reg.ENV_SVBASE then
    State.txqOverlap (if s.reg Reg.ENV_CTL != old.reg Reg.ENV_CTL then s.envApply (old.reg Reg.ENV_CTL) else s)
    else if s.reg Reg.ENV_CTL != old.reg Reg.ENV_CTL then s.envApply (old.reg Reg.ENV_CTL) else s) = _
  rw [hc, he]
  rfl

theorem State.onApply_periph (s old : State) (h0 : s.reg (Reg.WDT_CTL 0) = old.reg (Reg.WDT_CTL 0))
    (h1 : s.reg (Reg.WDT_CTL 1) = old.reg (Reg.WDT_CTL 1)) (ht : s.reg Reg.TRNG_CTL = old.reg Reg.TRNG_CTL) : s.onApply old 30 = s := by
  have hw : ∀ n, s.reg (Reg.WDT_CTL n) = old.reg (Reg.WDT_CTL n) → s.wdtApply old n = s := fun n h => by
    have hf : s.flag (Reg.WDT_CTL_EN n) = old.flag (Reg.WDT_CTL_EN n) := congrArg (fun w => fget w (Reg.WDT_CTL_EN n) != 0) h
    unfold State.wdtApply
    rw [hf]
    simp
  show ((s.wdtApply old 0).wdtApply old 1).trngApply old = s
  rw [hw 0 h0, hw 1 h1]
  exact if_pos (congrArg (fun w => fget w Reg.TRNG_CTL_EN != 0) ht)

/-- The registers whose new value sets off more than this (R61, R65, R105, R262, R350, R409). -/
def ownRegs : List Nat := [Reg.RFE_CTL, Reg.RFE_SPCTL, Reg.ENV_CTL, Reg.PWR_DVFS, Reg.TRNG_CTL, Reg.WDT_CTL 0, Reg.WDT_CTL 1]

/-- The units that come to their boundary by a command of their own row. -/
def applyUnits : List Nat := [19, 24, 26, 27, 30]

/-- With no register of `ownRegs` changed, a unit that takes its values changes nothing more than lanes and memory. -/
theorem State.onApply_beside {m v : State} (h : ∀ a ∈ ownRegs, m.reg a = v.reg a) {n : Nat} (hn : n < 18 ∨ n ∈ applyUnits) :
    Beside m (m.onApply v n) ∧ (n = 16 ∨ 18 ≤ n → m.onApply v n = m) := by
  have hu : n < 16 ∨ n = 16 ∨ n = 17 ∨ n ∈ applyUnits := by
    rcases hn with hn | hn
    · omega
    · exact .inr (.inr (.inr hn))
  rcases hu with hn | rfl | rfl | hn
  · rw [State.onApply_group _ _ hn]
    refine ⟨?_, fun h => by omega⟩
    split
    · exact m.groupRest_beside n
    · exact .refl m
  · rw [State.onApply_rfe _ _ (h _ (by simp [ownRegs])) (h _ (by simp [ownRegs]))]
    exact ⟨.refl m, fun _ => rfl⟩
  · rw [State.onApply_env _ _ (h _ (by simp [ownRegs]))]
    refine ⟨?_, fun h => by omega⟩
    split
    · exact m.txqOverlap_beside
    · exact .refl m
  · have he : m.onApply v n = m := by
      simp only [applyUnits, List.mem_cons, List.not_mem_nil, or_false] at hn
      rcases hn with rfl | rfl | rfl | rfl | rfl
      · rfl
      · rfl
      · rfl
      · rw [State.onApply_pwr, h _ (by simp [ownRegs])]
        simp
      · exact State.onApply_periph _ _ (h _ (by simp [ownRegs])) (h _ (by simp [ownRegs])) (h _ (by simp [ownRegs]))
    rw [he]
    exact ⟨.refl m, fun _ => rfl⟩

end Sys2Proof.Machine
end

section
/-! SUPPORT. UNIT_SAFE_BOUNDARY (R43 to R45, R49, R50): at its boundary a unit takes all that waits for it, off its boundary nothing. -/

namespace Sys2Proof.Machine

/-- No register whose new value sets off more is among those that wait or are armed. -/
def State.sparesOwn (v : State) : Prop := ∀ a ∈ ownRegs, (∀ x ∈ v.waits, x.addr ≠ a) ∧ ∀ p ∈ v.armed, p.1 ≠ a

theorem Taken.own {v m : State} {n : Nat} (h : Taken v m n) (ho : v.sparesOwn) : ∀ a ∈ ownRegs, m.reg a = v.reg a := by
  have hne : ∀ a ∈ ownRegs, a ≠ Reg.CFG_PEND := by decide
  exact fun a ha => (h.reg a (hne a ha)).trans (State.goes_untouched (ho a ha).1 (ho a ha).2)

theorem Taken.still {v m : State} {n : Nat} (h : Taken v m n) (ho : v.sparesOwn) (hs : v.Still) : m.Still := by
  refine hs.of ?_ ?_ (h.own ho _ (by simp [ownRegs])) ?_ ?_ <;> rw [h.rest]

theorem Beside.still {s t : State} (h : Beside s t) (hs : s.Still) : t.Still := by
  rw [h]
  exact ⟨hs.held, hs.single, hs.awake, hs.entry, hs.wake, hs.cores, hs.got, hs.req⟩

theorem Beside.regs {s t : State} (h : Beside s t) : t.regs = s.regs := by rw [h]
theorem Beside.waits {s t : State} (h : Beside s t) : t.waits = s.waits := by rw [h]
theorem Beside.armed {s t : State} (h : Beside s t) : t.armed = s.armed := by rw [h]
theorem Beside.cfg {s t : State} (h : Beside s t) : t.cfg = s.cfg := by rw [h]

theorem Taken.waits {v m : State} {n : Nat} (h : Taken v m n) : m.waits = [] := by rw [h.rest]
theorem Taken.armed {v m : State} {n : Nat} (h : Taken v m n) : m.armed = [] := by rw [h.rest]

/-- What `applyUnit` leaves: the values taken, beside them lanes and memory, and nothing more due. -/
structure UnitApplied (v t : State) (n : Nat) : Prop where
  taken : ∃ m, Taken v m n ∧ t = m.onApply v n ∧ Beside m t ∧ (n = 16 ∨ 18 ≤ n → t = m)
  quiet : t.Quiet

theorem State.DueAt.applies {v : State} {n : Nat} (h : v.DueAt n) (ho : v.sparesOwn) (hs : v.Still) (hn : n < 18 ∨ n ∈ applyUnits) :
    UnitApplied v (v.applyUnit n) n := by
  have hm := h.taken
  obtain ⟨hb, he⟩ := State.onApply_beside (hm.own ho) hn
  have hp : (v.applyUnit n).pend = 0 := (congrArg (fun r => sget regReset r Reg.CFG_PEND) hb.regs).trans hm.pend
  exact ⟨⟨_, hm, rfl, hb, he⟩, (hb.still (hm.still ho hs)).quiet (hb.waits.trans hm.waits) hp⟩

theorem State.Quiet.afterPend {s : State} (q : s.Quiet) (here : Option Nat) : s.afterPend here = s := by
  unfold State.afterPend
  rw [q.held]

/-- Unit 32, the REEL registers of engine 16, takes nothing where nothing of it waits; `CFG_PEND` has no bit for it. -/
theorem State.applyUnit_reel {s : State} (hw : ∀ x ∈ s.waits, unitOf x.addr ≠ 32) : s.applyUnit 32 = s := by
  have hmine : s.waitsFor 32 = [] := List.filter_eq_nil_iff.2 fun x hx => by simpa using hw x hx
  have hrest : (s.waits.filter fun x => unitOf x.addr != 32) = s.waits := List.filter_eq_self.2 fun x hx => by simpa using hw x hx
  have hm : s.mergeWaits 32 = s := by
    unfold State.mergeWaits
    rw [hmine, hrest]
    rfl
  have hb : bitOf s.pend 32 = false := BitVec.getLsbD_of_ge _ _ (Nat.le_refl 32)
  have ha : s.mergeArmed 32 = s := if_neg (by simp [hb])
  show (((s.mergeWaits 32).mergeArmed 32).onApply s 32) = s
  rw [hm, ha]
  rfl

/-! ### At the boundary -/

/-- What holds once the writes and the set of unit n are applied. -/
structure AllApplied (v u : State) (n : Nat) : Prop where
  waits : u.waits = []
  armed : u.armed = []
  pend : u.pend = 0
  reg : ∀ a, a ≠ Reg.CFG_PEND → u.reg a = v.goes a
  lag : v.armed ≠ [] → (∀ p ∈ v.cfg.lag, p.1 ≠ n) → u.lagOf n = min 0xFFFFFFFF ((v.now - v.cfg.switchT) / 40)

theorem sget_sput_fresh {α : Type} [DecidableEq α] {d : Nat → α} {m : List (Nat × α)} {a : Nat} (v : α) (h : ∀ p ∈ m, p.1 ≠ a) :
    sget d (sput d m a v) a = v := by
  induction m with
  | nil => by_cases hv : v = d a <;> simp [sput, sget, hv]
  | cons p r ih =>
    have hp : a ≠ p.1 := Ne.symm (h p (by simp))
    have hr : ∀ q ∈ r, q.1 ≠ a := fun q hq => h q (List.mem_cons_of_mem _ hq)
    have hd : sget d r a = d a := by
      clear ih h
      induction r with
      | nil => rfl
      | cons q r ih => simp [sget, Ne.symm (hr q (by simp)), ih fun x hx => hr x (List.mem_cons_of_mem _ hx)]
    by_cases hl : a < p.1
    · by_cases hv : v = d a
      · simp [sput, sget, hp, hl, hv, hd]
      · simp [sput, sget, hp, hl, hv]
    · simp [sput, sget, hp, hl, ih hr]

theorem Taken.allApplied {v m u : State} {n : Nat} (h : Taken v m n) (hr : u.regs = m.regs) (hw : u.waits = m.waits)
    (ha : u.armed = m.armed) (hc : u.cfg = m.cfg) : AllApplied v u n := by
  have hreg : ∀ a, u.reg a = m.reg a := fun a => congrArg (fun r => sget regReset r a) hr
  have hp : u.pend = 0 := (hreg _).trans h.pend
  refine ⟨hw.trans h.waits, ha.trans h.armed, hp, fun a hne => (hreg a).trans (h.reg a hne), fun hne hl => ?_⟩
  unfold State.lagOf
  rw [hp, hc, h.lag hne, if_neg (by simp [bitOf])]
  exact congrArg (fun d => min 0xFFFFFFFF (d / 40)) (sget_sput_fresh _ hl)

/-- At its boundary the unit applies all that waits for it. -/
theorem unitSafeBoundary_applies {s : State} {t n : Nat} (h : (s.at_ t).DueAt n) (ho : (s.at_ t).sparesOwn) (hs : (s.at_ t).Still)
    (hn : n < 18 ∨ n ∈ applyUnits) (hb : (s.at_ t).atBoundary n = true) :
    ∃ w u, UnitApplied (s.at_ t) w n ∧ exec (.unitSafeBoundary n t) s = .next u ∧ Settles w u := by
  have hw := h.applies ho hs hn
  obtain ⟨u, hu, hset⟩ := doneW_settles hw.quiet
  refine ⟨_, u, hw, ?_, hset⟩
  have hx : ((s.at_ t).applyUnit n).applyUnit 32 = (s.at_ t).applyUnit n := State.applyUnit_reel (by simp [hw.quiet.waits])
  rw [← hu]
  show execUnitSafeBoundary n t s = _
  unfold execUnitSafeBoundary
  dsimp only
  rw [hb, Bool.true_or, if_pos rfl, hw.quiet.afterPend, hx, ite_self]

/-! ### Off the boundary -/

theorem State.DueAt.hasWork {v : State} {n u : Nat} (h : v.DueAt n) (hw : v.hasWork u = true) : u = n := by
  unfold State.hasWork at hw
  rcases Bool.or_eq_true _ _ ▸ hw with hw | hw
  · have hne : v.waitsFor u ≠ [] := by simpa using hw
    obtain ⟨x, hx⟩ := List.exists_mem_of_ne_nil _ hne
    obtain ⟨hm, hu⟩ := List.mem_filter.1 hx
    exact (by simpa using hu : unitOf x.addr = u) ▸ h.waits x hm
  · rw [h.pend] at hw
    by_cases ha : v.armed = []
    · rw [if_pos ha] at hw
      simp [bitOf] at hw
    · rw [if_neg ha, bitOf_shiftLeft_one (by have := h.unit; omega)] at hw
      simpa using hw

/-- Off its boundary the unit applies nothing. -/
theorem unitSafeBoundary_waits {s : State} {t n : Nat} (h : (s.at_ t).DueAt n) (hs : (s.at_ t).Still) (hn : n < 19)
    (hb : (s.at_ t).atBoundary n = false) : ∃ u, exec (.unitSafeBoundary n t) s = .next u ∧ Settles (s.at_ t) u := by
  obtain ⟨u, hu, hset⟩ := hs.doneW fun k hk => (h.hasWork hk) ▸ hb
  refine ⟨u, ?_, hset⟩
  have hx : (s.at_ t).applyUnit 32 = s.at_ t := State.applyUnit_reel fun x hx => by
    rw [h.waits x hx]
    omega
  rw [← hu]
  show execUnitSafeBoundary n t s = _
  unfold execUnitSafeBoundary
  dsimp only
  rw [hb, decide_eq_false (show n ≠ 30 by omega), Bool.false_and, Bool.false_or, if_neg Bool.false_ne_true, hx, ite_self]

end Sys2Proof.Machine
end

section
/-! SUPPORT. What the turn of the 1 ms interval (R113 to R116) changes among the registers: noise floors, the count of snapshots, banks
that it wakes and the watch flag of SURVEY_DONE's line. -/

namespace Sys2Proof.Machine

/-- The registers that the turn of an interval writes. -/
def turnReg (a : Nat) : Prop :=
  (∃ k < 128, a = Reg.ENV_NF k) ∨ a = Reg.ENV_SVSTAT ∨ a = Reg.MEMC_BANKCTL ∨ a = Reg.MEMC_RBANKCTL ∨ ∃ i < 3, a = Reg.EVL_WATCH i

/-- `t` is `s` for all that the registers of unit 17 and the end of the command look at. -/
structure Turned (s t : State) : Prop where
  now : t.now = s.now
  waits : t.waits = s.waits
  armed : t.armed = s.armed
  cfg : t.cfg = s.cfg
  pwr : t.pwr = s.pwr
  start : t.start = s.start
  env : t.env.st = s.env.st
  reg : ∀ a, ¬turnReg a → t.reg a = s.reg a

theorem Turned.refl (s : State) : Turned s s := ⟨rfl, rfl, rfl, rfl, rfl, rfl, rfl, fun _ _ => rfl⟩

theorem Turned.trans {s t u : State} (h : Turned s t) (k : Turned t u) : Turned s u :=
  ⟨k.now.trans h.now, k.waits.trans h.waits, k.armed.trans h.armed, k.cfg.trans h.cfg, k.pwr.trans h.pwr, k.start.trans h.start,
    k.env.trans h.env, fun a ha => (k.reg a ha).trans (h.reg a ha)⟩

theorem turned_foldl {α : Type} {f : State → α → State} (l : List α) (h : ∀ i ∈ l, ∀ s, Turned s (f s i)) (s : State) :
    Turned s (l.foldl f s) := by
  induction l generalizing s with
  | nil => exact .refl s
  | cons i l ih => exact (h i (by simp) s).trans (ih (fun j hj => h j (List.mem_cons_of_mem _ hj)) _)

theorem Beside.turned {s t : State} (h : Beside s t) : Turned s t := by
  rw [h]
  exact ⟨rfl, rfl, rfl, rfl, rfl, rfl, rfl, fun _ _ => rfl⟩

theorem State.setReg_turned (s : State) {a : Nat} (w : Word) (h : turnReg a) : Turned s (s.setReg a w) :=
  ⟨rfl, rfl, rfl, rfl, rfl, rfl, rfl, fun _ hb => s.setReg_reg_ne w fun he => hb (he ▸ h)⟩

theorem State.put_turned (s : State) {f : Field} (x : Nat) (h : turnReg f.addr) : Turned s (s.put f x) := s.setReg_turned _ h

theorem Turned.get {s t : State} (h : Turned s t) {f : Field} (hf : ¬turnReg f.addr) : t.get f = s.get f :=
  congrArg (fun w => fget w f) (h.reg _ hf)

/-! ### The parts of the turn -/

theorem State.floorUpd_turned (s : State) {k : Nat} (hk : k < 128) (pow : List ChanPow) : Turned s (s.floorUpd k pow) := by
  have hr : turnReg (Reg.ENV_NF k) := .inl ⟨k, hk, rfl⟩
  unfold State.floorUpd
  dsimp only
  split
  · exact s.put_turned _ hr
  · exact (s.put_turned _ hr).trans ((State.put_turned _ _ hr).trans (State.put_turned _ _ hr))

theorem State.floorsUpd_turned (s : State) (pow : List ChanPow) : Turned s (s.floorsUpd pow) := by
  unfold State.floorsUpd forN
  exact turned_foldl (List.range 128) (fun k hk t => t.floorUpd_turned (List.mem_range.1 hk) _) s

theorem State.wakeBank_turned (s : State) (a : Nat) : Turned s (s.wakeBank a) := by
  unfold State.wakeBank
  split
  · rename_i b _
    split
    · have hs : ∀ m : Memc, Turned s { s with memc := m } := fun _ => ⟨rfl, rfl, rfl, rfl, rfl, rfl, rfl, fun _ _ => rfl⟩
      dsimp only
      split
      · exact (hs _).trans (State.put_turned _ _ (.inr (.inr (.inl rfl))))
      · exact (hs _).trans (State.put_turned _ _ (.inr (.inr (.inr (.inl rfl)))))
    · exact .refl s
  · exact .refl s

theorem State.devWrite_turned (s : State) (a : Nat) (bs : List Byte) : Turned s (s.devWrite a bs) := by
  have hw : Turned s (s.wakeRange a bs.length) := turned_foldl _ (fun b _ t => by
    split
    · exact t.wakeBank_turned _
    · exact .refl t) s
  have hsnoop : ∀ t : State, Turned t (t.snoopBoth a bs.length) := fun t => ⟨rfl, rfl, rfl, rfl, rfl, rfl, rfl, fun _ _ => rfl⟩
  have hput : ∀ t : State, Turned t (if t.takes a && t.takes (a + bs.length - 1) then t.setBytes a bs
      else bs.zipIdx.foldl (fun s p => if s.takes (a + p.2) then s.setByte (a + p.2) p.1 else s) t) := fun t => by
    split
    · exact (t.setBytes_beside a bs).turned
    · refine turned_foldl _ (fun p _ t => ?_) t
      split
      · exact (show Beside t (t.setByte (a + p.2) p.1) from rfl).turned
      · exact .refl t
  exact hw.trans ((hput _).trans ((hsnoop _).trans (State.muddy_beside _ _ _).turned))

theorem not_turnReg_PUBCFG : ¬turnReg (Reg.EVL_PUBCFG 1) := by
  unfold turnReg Reg.EVL_PUBCFG Reg.ENV_NF Reg.ENV_SVSTAT Reg.MEMC_BANKCTL Reg.MEMC_RBANKCTL Reg.EVL_WATCH
  omega

theorem not_turnReg_LINECFG {l : Nat} (h : l < 128) : ¬turnReg (Reg.EVL_LINECFG l) := by
  unfold turnReg Reg.EVL_LINECFG Reg.ENV_NF Reg.ENV_SVSTAT Reg.MEMC_BANKCTL Reg.MEMC_RBANKCTL Reg.EVL_WATCH
  omega

theorem State.outLine_lt (s : State) (p : Nat) : s.outLine p < 128 := Nat.mod_lt _ (show 0 < 2 ^ 7 by decide)

theorem State.input_none (s : State) (l hop : Nat) : s.input l 0 hop = s := rfl

theorem State.publish_turned {s : State} {l : Nat} (hl : l < 96) (h : s.get (Reg.EVL_LINECFG_SUB l) = 0) : Turned s (s.publish l 0) := by
  have hw : turnReg (Reg.EVL_WATCH (l / 32)) := .inr (.inr (.inr (.inr ⟨l / 32, by omega, rfl⟩)))
  have hpost : ∀ (t : State) n x y, Turned t (t.postBoth n x y) := fun t n x y => ⟨rfl, rfl, rfl, rfl, rfl, rfl, rfl, fun _ _ => rfl⟩
  have hs : Turned s (if s.flag (watchBit l) then s
      else
        let s := s.put (watchBit l) 1
        if bitOf (s.reg (Reg.EVL_WATCHEN (l / 32))) (l % 32) then s.postBoth 147 (BitVec.ofNat 32 l) 1 else s) := by
    split
    · exact .refl s
    · dsimp only
      split
      · exact (s.put_turned 1 hw).trans (hpost _ _ _ _)
      · exact s.put_turned 1 hw
  unfold State.publish
  rw [if_neg (by omega), if_neg (by omega)]
  dsimp only at hs ⊢
  rw [hs.get (not_turnReg_LINECFG (by omega)), h, State.input_none]
  exact hs

theorem State.publishHw_turned {s : State} {l : Nat} (h : s.get (Reg.EVL_LINECFG_SUB l) = 0) : Turned s (s.publishHw l 0) := by
  have ho : s.inputOpen 0 = false := rfl
  have hp : s.publishHw l 0 = s.publish l 0 := by
    unfold State.publishHw
    dsimp only
    rw [h, ho]
    simp
  rw [hp]
  by_cases hl : 96 ≤ l
  · unfold State.publish
    rw [if_pos hl]
    exact .refl s
  · exact State.publish_turned (by omega) h

theorem State.survWrite_turned {s : State} (pow : List ChanPow) (h : s.get (Reg.EVL_LINECFG_SUB (s.outLine 1)) = 0) :
    Turned s (s.survWrite pow) := by
  unfold State.survWrite
  dsimp only
  generalize hd : s.devWrite _ _ = t
  have ht : Turned s t := hd ▸ s.devWrite_turned _ _
  have hu := ht.trans (t.setReg_turned (t.reg Reg.ENV_SVSTAT + 1) (.inr (.inl rfl)))
  have hl : (t.setReg Reg.ENV_SVSTAT (t.reg Reg.ENV_SVSTAT + 1)).outLine 1 = s.outLine 1 := hu.get not_turnReg_PUBCFG
  refine hu.trans ?_
  unfold State.output
  rw [hl]
  exact State.publishHw_turned ((hu.get (not_turnReg_LINECFG (State.outLine_lt s 1))).trans h)

theorem State.msTurn_turned {s : State} (pow : List ChanPow) (h : s.env.st ≠ .survey ∨ s.get (Reg.EVL_LINECFG_SUB (s.outLine 1)) = 0) :
    Turned s (s.msTurn pow) := by
  have hf : Turned s (if s.env.st = .off then s else s.floorsUpd pow) := by
    split
    · exact .refl s
    · exact s.floorsUpd_turned pow
  unfold State.msTurn
  dsimp only
  generalize (if s.env.st = .off then s else s.floorsUpd pow) = t at hf
  have hs : Turned t (if t.env.st = .survey && t.env.interval + 40000 ≤ t.now then t.survWrite pow else t) := by
    split
    · rename_i hc
      have hst : s.env.st = .survey := hf.env ▸ of_decide_eq_true (Bool.and_eq_true _ _ ▸ hc).1
      have hl : t.outLine 1 = s.outLine 1 := hf.get not_turnReg_PUBCFG
      refine t.survWrite_turned pow ?_
      rw [hl]
      exact (hf.get (not_turnReg_LINECFG (State.outLine_lt s 1))).trans (h.resolve_left (not_not_intro hst))
    · exact .refl t
  exact hf.trans (hs.trans ⟨rfl, rfl, rfl, rfl, rfl, rfl, rfl, fun _ _ => rfl⟩)

end Sys2Proof.Machine
end

section
/-! SUPPORT. MS_BOUNDARY (R113 to R116): the interval turns, then epoch unit 17 takes all that waits for it. -/

namespace Sys2Proof.Machine

theorem Turned.goes {v w : State} (h : Turned v w) {a : Nat} (ha : ¬turnReg a) : w.goes a = v.goes a := by
  unfold State.goes
  rw [h.armed, h.waits, h.reg a ha]

theorem not_turnReg_CFG_PEND : ¬turnReg Reg.CFG_PEND := by
  unfold turnReg Reg.CFG_PEND Reg.ENV_NF Reg.ENV_SVSTAT Reg.MEMC_BANKCTL Reg.MEMC_RBANKCTL Reg.EVL_WATCH
  omega

theorem not_turnReg_RFE_SPCTL : ¬turnReg Reg.RFE_SPCTL := by
  unfold turnReg Reg.RFE_SPCTL Reg.ENV_NF Reg.ENV_SVSTAT Reg.MEMC_BANKCTL Reg.MEMC_RBANKCTL Reg.EVL_WATCH
  omega

theorem Turned.still {v w : State} (h : Turned v w) (hs : v.Still) : w.Still :=
  hs.of (congrArg Cfg.held h.cfg) h.env (h.reg _ not_turnReg_RFE_SPCTL) h.pwr h.start

theorem Turned.dueAt {v w : State} {n : Nat} (h : Turned v w) (hd : v.DueAt n) (hr : Swf regReset w.regs) : w.DueAt n where
  regs := hr
  unit := hd.unit
  waits := h.waits ▸ hd.waits
  armed := h.armed ▸ hd.armed
  pend := by
    rw [h.armed]
    exact (h.reg _ not_turnReg_CFG_PEND).trans hd.pend

theorem Turned.sparesOwn {v w : State} (h : Turned v w) (ho : v.sparesOwn) : w.sparesOwn := by
  unfold State.sparesOwn
  rw [h.waits, h.armed]
  exact ho

/-- What turns the lanes off at the boundary after SURVEY was set (R114) changes no register and leaves nothing due. -/
def State.survTurn (s : State) : State :=
  if s.flag Reg.ENV_CTL_SURVEY && s.env.st = .run && !s.env.survWait then
    forN 16 State.groupRest { s with env := { s.env with survWait := true } } else s

theorem State.survTurn_eq (s : State) :
    ∃ e, e.st = s.env.st ∧ Beside { s with env := e } s.survTurn := by
  unfold State.survTurn forN
  split
  · exact ⟨{ s.env with survWait := true }, rfl, beside_foldl (fun t g => t.groupRest_beside g) (List.range 16) _⟩
  · exact ⟨s.env, rfl, .refl s⟩

/-- The boundary of an interval applies all that waits for unit 17, and the registers that the turn itself does not write take nothing else. -/
theorem msBoundary_applies {s : State} {t : Nat} {pow : List ChanPow} (hc : (s.at_ t).canonical) (h : (s.at_ t).DueAt 17)
    (ho : (s.at_ t).sparesOwn) (hs : (s.at_ t).Still)
    (hq : (s.at_ t).env.st ≠ .survey ∨ (s.at_ t).get (Reg.EVL_LINECFG_SUB ((s.at_ t).outLine 1)) = 0) :
    ∃ w u, exec (.msBoundary pow t) s = .next u ∧ Turned (s.at_ t) w ∧ AllApplied w u 17 := by
  generalize hv : s.at_ t = v at *
  have ht := v.msTurn_turned pow hq
  have hw := (ht.dueAt h ((v.msTurn_keeps pow).canonical hc).regs).applies (ht.sparesOwn ho) (ht.still hs) (.inl (by omega))
  obtain ⟨m, hm, -, hb, -⟩ := hw.taken
  obtain ⟨e, he, hx⟩ := ((v.msTurn pow).applyUnit 17).survTurn_eq
  have hqx : ((v.msTurn pow).applyUnit 17).survTurn.Quiet := by
    have hst : ({ (v.msTurn pow).applyUnit 17 with env := e } : State).Still := hw.quiet.still.of rfl he rfl rfl rfl
    exact (hx.still hst).quiet (hx.waits.trans hw.quiet.waits)
      ((congrArg (fun r => sget regReset r Reg.CFG_PEND) hx.regs).trans hw.quiet.pend)
  obtain ⟨u, hu, hset⟩ := doneW_settles hqx
  refine ⟨_, u, ?_, ht, hm.allApplied (hset.regs.trans (hx.regs.trans hb.regs)) (hset.waits.trans (hx.waits.trans hb.waits))
    (hset.armed.trans (hx.armed.trans hb.armed)) (hset.cfg.trans (hx.cfg.trans hb.cfg))⟩
  show doneW ((((s.at_ t).msTurn pow).applyUnit 17).afterPend (some 17)).survTurn = _
  rw [hv, hw.quiet.afterPend]
  exact hu

end Sys2Proof.Machine
end

section
/-! SUPPORT. How a register write ends for its agent, by the class of the register (R6, R45 to R47). -/

namespace Sys2Proof.Machine

/-! ### The access -/

theorem region_periph_bounds {a : Nat} (h : region a = .periph) : 0x40000000 ≤ a ∧ a < 0x4001D000 := by
  by_contra hn
  unfold region at h
  rw [if_neg hn] at h
  split_ifs at h

/-- A register write that no trigger and no PMP region stops does what the register's write does. -/
theorem registerWrite_exec {s : State} {ag : Agent} {a : Nat} (data : Word) (hr : region a = .periph) (h4 : a % 4 = 0)
    (ht : s.agentTrig ag .store a = none) (hp : s.agentPmp ag .store a 4 = true) :
    exec (.registerWrite ag (BitVec.ofNat 32 a) data) s = doneW ((s.regWrite a data).respond ag .done) := by
  obtain ⟨hlo, hhi⟩ := region_periph_bounds hr
  have hn : (BitVec.ofNat 32 a).toNat = a := Nat.mod_eq_of_lt (by omega)
  have ho : accessOk .store .w32 a = true := by simp [accessOk, hr, h4, widthBytes]
  have hst : s.storeAt ag .w32 (BitVec.ofNat 32 a) data .clean = (s.regWrite a data).respond ag .done := by
    simp only [State.storeAt, hn, hr]
  show doneW (if 0x40000000 ≤ (BitVec.ofNat 32 a).toNat then s.access ag .store .w32 (BitVec.ofNat 32 a) data .clean else s) = _
  rw [if_pos (by omega), State.access_store data .clean (by rwa [hn]) (by rwa [hn]) (agentMakes_of (fun _ => rfl) (by simp)) (by rwa [hn]),
    hst]

/-- `u` is `t` in registers, shadow, waiting writes and memory. -/
structure SameRegs (t u : State) : Prop where
  regs : u.regs = t.regs
  shadow : u.shadow = t.shadow
  waits : u.waits = t.waits

theorem SameRegs.reg {t u : State} (h : SameRegs t u) (a : Nat) : u.reg a = t.reg a := congrArg (fun r => sget regReset r a) h.regs

theorem SameRegs.shadowOf {t u : State} (h : SameRegs t u) (a : Nat) : u.shadowOf a = t.shadowOf a :=
  congrArg (fun r => sget regReset r a) h.shadow

theorem SameRegs.last {t u : State} (h : SameRegs t u) (a : Nat) : u.last a = t.last a := by
  unfold State.last State.waitOf
  rw [h.reg, h.shadowOf, h.waits]

/-- A write whose effect is `t`, after which no unit with work is at its boundary, completes as `t`. -/
theorem registerWrite_ends {s t : State} {ag : Agent} {a : Nat} {data : Word} (hr : region a = .periph) (h4 : a % 4 = 0)
    (hw : s.regWrite a data = t) (hm : t.mem = s.mem) (hl : t.lost = s.lost) (hs : t.Still)
    (hb : ∀ u, t.hasWork u = true → t.atBoundary u = false) (ht : s.agentTrig ag .store a = none) (hp : s.agentPmp ag .store a 4 = true) :
    ∃ u, exec (.registerWrite ag (BitVec.ofNat 32 a) data) s = .next u ∧ u.heard ag = .done ∧ u.mem = s.mem ∧ u.lost = s.lost ∧
      SameRegs t u := by
  have hs' : (t.respond ag .done).Still := hs.of (by simp) (by simp) (by simp) (by simp) (by simp)
  have hwork : ∀ u, (t.respond ag .done).hasWork u = t.hasWork u := fun u => by cases ag <;> rfl
  have hbound : ∀ u, (t.respond ag .done).atBoundary u = t.atBoundary u := fun u => by cases ag <;> rfl
  obtain ⟨u, hu, hset⟩ := hs'.doneW fun k hk => (hbound k).trans (hb k ((hwork k).symm.trans hk))
  refine ⟨u, ?_, (hset.heard ag).trans (State.respond_heard _ _ _), ?_, ?_, ?_, ?_, ?_⟩
  · rw [registerWrite_exec data hr h4 ht hp, hw, hu]
  · rw [hset.mem, State.respond_mem, hm]
  · rw [hset.lost, State.respond_lost, hl]
  · rw [hset.regs, State.respond_regs]
  · rw [hset.shadow, State.respond_shadow]
  · rw [hset.waits, State.respond_waits]

/-! ### What a write by class leaves -/

theorem mergeBits_and (w m v : Word) : mergeBits w m v &&& m = v &&& m := by
  ext i hi
  simp only [mergeBits, BitVec.getElem_and, BitVec.getElem_or, BitVec.getElem_not]
  cases m[i] <;> simp

/-- A write that leaves `t`: nothing due, memory as it was. -/
structure QuietWrite (s t : State) : Prop where
  quiet : t.Quiet
  mem : t.mem = s.mem
  lost : t.lost = s.lost

theorem State.Quiet.digDirty {s : State} (q : s.Quiet) : s.digDirty.Quiet :=
  q.still.of (t := s.digDirty) rfl rfl rfl rfl rfl |>.quiet q.waits q.pend

theorem State.writeS_quiet {s : State} (q : s.Quiet) (a : Nat) (v : Word) : QuietWrite s (s.writeS a v) := by
  unfold State.writeS
  dsimp only
  split
  · exact ⟨q, rfl, rfl⟩
  · exact ⟨State.Quiet.digDirty (q.of rfl rfl rfl rfl rfl rfl rfl), rfl, rfl⟩

theorem State.writeS_regs (s : State) (a : Nat) (v : Word) : (s.writeS a v).regs = s.regs := by
  unfold State.writeS
  exact ite_same State.regs rfl rfl

theorem State.writeS_shadowOf {s : State} (h : Swf regReset s.shadow) (a : Nat) (v : Word) :
    (s.writeS a v).shadowOf a = mergeBits (s.shadowOf a) (sMask a) v ∧ ∀ x, x ≠ a → (s.writeS a v).shadowOf x = s.shadowOf x := by
  unfold State.writeS
  dsimp only
  split
  · rename_i he
    exact ⟨he.symm, fun _ _ => rfl⟩
  · exact ⟨sget_sput_self h.1 _ _, fun x hx => sget_sput_ne _ _ _ hx⟩

/-- A write to a class K register whose unit is stopped sets its writable bits (R46). -/
theorem State.writeK_open {s : State} (hc : s.canonical) (q : s.Quiet) {a : Nat} {v : Word} (h : s.kOpen a v = true)
    (hp : Reg.CFG_PEND ≠ a) (hs : Reg.RFE_SPCTL ≠ a) :
    QuietWrite s (s.writeK a v) ∧ (s.writeK a v).reg a = mergeBits (s.reg a) (kMask a) v ∧
      ∀ x, x ≠ a → (s.writeK a v).reg x = s.reg x := by
  unfold State.writeK
  rw [if_pos h]
  dsimp only
  split
  · rename_i he
    exact ⟨⟨q, rfl, rfl⟩, he.symm, fun _ _ => rfl⟩
  · exact ⟨⟨(State.setReg_quiet q _ hp hs).digDirty, rfl, rfl⟩, s.setReg_reg_self hc.regs _ _, fun x hx => s.setReg_reg_ne _ hx⟩

/-- A write to a class K register whose unit runs sets the unit's WRITE_IGNORED alone (R46). -/
theorem State.writeK_closed {s : State} (hc : s.canonical) (q : s.Quiet) {a : Nat} {v : Word} {f : Field} (h : s.kOpen a v = false)
    (hf : wignField a = f) (hw : f.width = 1) (hl : f.lo < 32) (hp : Reg.CFG_PEND ≠ f.addr) (hs : Reg.RFE_SPCTL ≠ f.addr) :
    QuietWrite s (s.writeK a v) ∧ (s.writeK a v).flag f = true ∧ ∀ x, x ≠ f.addr → (s.writeK a v).reg x = s.reg x := by
  unfold State.writeK
  rw [h, hf, if_neg Bool.false_ne_true]
  refine ⟨⟨State.setReg_quiet q _ hp hs, rfl, rfl⟩, ?_, fun x hx => s.put_reg_ne f 1 hx⟩
  unfold State.flag
  rw [s.put_get_self hc.regs f 1 (by omega), hw]
  rfl

end Sys2Proof.Machine
end

section
/-! SUPPORT. How a write of a register of class S, K or L, or of one without writable fields, completes (R6, R45 to R47). -/

namespace Sys2Proof.Machine

/-! ### Class S -/

/-- Registers of class S of CFG, ENV and LINK, with their writable bits. -/
def shadowFew : List (Nat × Word) :=
  [(Reg.CFG_WIN, 0xFF), (Reg.ENV_NFCFG, 1), (Reg.LINK_SLOTCFG, 0xFFFF), (Reg.LINK_PPM, 0x7F), (Reg.LINK_DWCFG, 0xFFFF3F01), (Reg.LINK_FFCFG, 7)]

/-- The class S registers of identity i. -/
def shadowIds (i : Nat) : List (Nat × Word) :=
  [(Reg.LINK_IDEXTLO i, 0xFFFFFFFF), (Reg.LINK_IDEXTHI i, 0xFFFFFFFF), (Reg.LINK_IDSPAN i, 0xFFFFFFFF), (Reg.LINK_IDCTL i, 3)]

/-- With the rows of registers of class S of LINK. -/
def shadowRegs : List (Nat × Word) :=
  shadowFew ++ (((List.range 128).map fun i => (Reg.LINK_MAP i, 0xFFFFFFFF)) ++ (((List.range 32).map fun i => (Reg.LINK_MAPCTL i, 0x7F01)) ++
    (List.range 4).flatMap shadowIds))

theorem mem_shadowRegs_map {i : Nat} (h : i < 128) : (Reg.LINK_MAP i, 0xFFFFFFFF) ∈ shadowRegs :=
  List.mem_append_right _ (List.mem_append_left _ (List.mem_map.2 ⟨i, List.mem_range.2 h, rfl⟩))

theorem mem_shadowRegs_mapctl {i : Nat} (h : i < 32) : (Reg.LINK_MAPCTL i, 0x7F01) ∈ shadowRegs :=
  List.mem_append_right _ (List.mem_append_right _ (List.mem_append_left _ (List.mem_map.2 ⟨i, List.mem_range.2 h, rfl⟩)))

theorem mem_shadowRegs_id {i : Nat} (h : i < 4) {p : Nat × Word} (hp : p ∈ shadowIds i) : p ∈ shadowRegs :=
  List.mem_append_right _ (List.mem_append_right _ (List.mem_append_right _ (List.mem_flatMap.2 ⟨i, List.mem_range.2 h, hp⟩)))

/-- A register of the peripheral region whose write carries no command. -/
abbrev busReg (a : Nat) : Prop := region a = .periph ∧ a % 4 = 0 ∧ plainReg a

theorem shadowRegs_regmap : ∀ p ∈ shadowRegs, onlyS p.1 p.2 = true ∧ busReg p.1 := by decide +kernel

section
variable {s : State} {ag : Agent} {data : Word} {a : Nat} (ht : s.agentTrig ag .store a = none) (hp : s.agentPmp ag .store a 4 = true)
include ht hp

/-- A write whose effect leaves nothing due completes as that effect. -/
theorem quietWrite_ends {t : State} (hb : busReg a) (hw : s.writeReg a data = t) (hq : QuietWrite s t) :
    ∃ u, exec (.registerWrite ag (BitVec.ofNat 32 a) data) s = .next u ∧ u.heard ag = .done ∧ u.mem = s.mem ∧ u.lost = s.lost ∧
      SameRegs t u := by
  obtain ⟨hr, h4, hplain⟩ := hb
  exact registerWrite_ends hr h4 ((State.regWrite_plain data hplain hr).trans hw) hq.mem hq.lost hq.quiet.still
    (fun u hu => by simp [hq.quiet.hasWork] at hu) ht hp

/-- A write of a register without writable fields, or of none, changes nothing (R6). -/
theorem ignoredWrite_ends (q : s.Quiet) (hr : readOnly a = true) (hb : busReg a) :
    ∃ u, exec (.registerWrite ag (BitVec.ofNat 32 a) data) s = .next u ∧ u.heard ag = .done ∧ u.mem = s.mem ∧ u.lost = s.lost ∧
      u.regs = s.regs ∧ u.shadow = s.shadow ∧ u.waits = s.waits := by
  obtain ⟨u, hu, hh, hme, hl, hsame⟩ := quietWrite_ends ht hp hb (State.writeReg_readOnly hr s data) ⟨q, rfl, rfl⟩
  exact ⟨u, hu, hh, hme, hl, hsame.regs, hsame.shadow, hsame.waits⟩

variable (hc : s.canonical) (q : s.Quiet)
include hc q

/-- A class S write goes to the shadow alone (R47). -/
theorem shadowWrite_ends {m : Word} (hm : (a, m) ∈ shadowRegs) :
    ∃ u, exec (.registerWrite ag (BitVec.ofNat 32 a) data) s = .next u ∧ u.heard ag = .done ∧ u.mem = s.mem ∧ u.lost = s.lost ∧
      u.regs = s.regs ∧ u.shadowOf a &&& m = data &&& m ∧ ∀ x, x ≠ a → u.shadowOf x = s.shadowOf x := by
  obtain ⟨hs, hb⟩ := shadowRegs_regmap _ hm
  obtain ⟨u, hu, hh, hme, hl, hsame⟩ := quietWrite_ends ht hp hb (State.writeReg_onlyS hs s data) (State.writeS_quiet q a data)
  obtain ⟨hself, hother⟩ := State.writeS_shadowOf hc.shadow a data
  refine ⟨u, hu, hh, hme, hl, hsame.regs.trans (s.writeS_regs a data), ?_, fun x hx => (hsame.shadowOf x).trans (hother x hx)⟩
  rw [hsame.shadowOf, hself, sMask_of_onlyS hs, mergeBits_and]

/-! ### Class K -/

/-- A class K write takes effect while the unit is stopped, and sets WRITE_IGNORED while it runs (R46). -/
theorem stoppedWrite_ends {m : Word} {f : Field} {stopped : Prop} [Decidable stopped] (hk : onlyK a m = true) (hb : busReg a)
    (hf : wignField a = f) (hw : f.width = 1 ∧ f.lo < 32) (ho : s.kOpen a data = decide stopped)
    (hne : Reg.CFG_PEND ≠ a ∧ Reg.RFE_SPCTL ≠ a ∧ Reg.CFG_PEND ≠ f.addr ∧ Reg.RFE_SPCTL ≠ f.addr) :
    ∃ u, exec (.registerWrite ag (BitVec.ofNat 32 a) data) s = .next u ∧ u.heard ag = .done ∧ u.mem = s.mem ∧ u.lost = s.lost ∧
      if stopped then u.reg a &&& m = data &&& m ∧ ∀ x, x ≠ a → u.reg x = s.reg x
      else u.flag f = true ∧ ∀ x, x ≠ f.addr → u.reg x = s.reg x := by
  obtain ⟨hpa, hsa, hpf, hsf⟩ := hne
  by_cases hst : stopped
  · obtain ⟨hq, hself, hother⟩ := State.writeK_open hc q (ho.trans (decide_eq_true hst)) hpa hsa
    obtain ⟨u, hu, hh, hme, hl, hsame⟩ := quietWrite_ends ht hp hb (State.writeReg_onlyK hk s data) hq
    refine ⟨u, hu, hh, hme, hl, ?_⟩
    rw [if_pos hst]
    exact ⟨by rw [hsame.reg, hself, kMask_of_onlyK hk, mergeBits_and], fun x hx => (hsame.reg x).trans (hother x hx)⟩
  · obtain ⟨hq, hflag, hother⟩ := State.writeK_closed hc q (ho.trans (decide_eq_false hst)) hf hw.1 hw.2 hpf hsf
    obtain ⟨u, hu, hh, hme, hl, hsame⟩ := quietWrite_ends ht hp hb (State.writeReg_onlyK hk s data) hq
    refine ⟨u, hu, hh, hme, hl, ?_⟩
    rw [if_neg hst]
    exact ⟨(congrArg (fun w => fget w f != 0) (hsame.reg f.addr)).trans hflag, fun x hx => (hsame.reg x).trans (hother x hx)⟩

end

/-! ### Class L -/

/-- The waiting write of `v` under the mask `m` to the register at `a`, and none beside it. -/
def State.waitOne (s : State) (a : Nat) (m v : Word) : State := { s with waits := [⟨a, m, mergeBits 0 m v⟩] }

theorem State.addWait_eq {s : State} (h : s.waits = []) (a : Nat) (m v : Word) : s.addWait a m v = s.waitOne a m v := by
  unfold State.addWait State.waitOf State.waitOne
  rw [h]
  simp

theorem State.writeL_eq {s : State} (h : s.waits = []) {a : Nat} (hi : immediateReg a = false) (h3 : threeKeeps a = []) (m v : Word) :
    s.writeL a m v = if (s.waitOne a m v).atBoundary (unitOf a) then ((s.waitOne a m v).applyUnit (unitOf a)).afterPend (some (unitOf a))
      else s.waitOne a m v := by
  have hm : m &&& ~~~threeMask a v = m := by
    have h0 : threeMask a v = 0 := by
      unfold threeMask
      rw [h3]
      rfl
    rw [h0]
    exact BitVec.and_allOnes
  unfold State.writeL
  dsimp only
  rw [hi, hm, State.addWait_eq h]
  rfl

theorem State.waitOne_last {s : State} {a : Nat} (m v : Word) (h : sMask a = 0) : (s.waitOne a m v).last a &&& m = v &&& m := by
  have hw : (s.waitOne a m v).waitOf a = (m, mergeBits 0 m v) := by simp [State.waitOf, State.waitOne]
  unfold State.last
  rw [hw, h]
  exact (congrArg (· &&& m) (mergeBits_zero _ _)).trans ((mergeBits_and _ _ _).trans (mergeBits_and _ _ _))

/-- What unit 27 leaves that takes one waiting write at once. -/
theorem State.waitOne_applied {s : State} (hc : s.canonical) (q : s.Quiet) {a : Nat} (m v : Word) (ha : unitOf a = 27)
    (hd : a ≠ Reg.PWR_DVFS) (hs : a ≠ Reg.RFE_SPCTL) :
    ∃ r, (s.waitOne a m v).applyUnit 27 = { s with regs := r } ∧ ({ s with regs := r } : State).Quiet ∧
      sget regReset r a = mergeBits (s.reg a) m (mergeBits 0 m v) ∧ ∀ x, x ≠ a → sget regReset r x = s.reg x := by
  obtain ⟨r, hr, -, hg⟩ := State.mergeWaits_all (v := s.waitOne a m v) (n := 27) hc.regs fun x hx => by
    rw [List.mem_singleton.1 hx]
    exact ha
  have hself : sget regReset r a = mergeBits (s.reg a) m (mergeBits 0 m v) := by
    refine (hg a).trans ?_
    unfold State.waitOne
    rw [List.filter_cons_of_pos (by simp)]
    rfl
  have hother : ∀ x, x ≠ a → sget regReset r x = s.reg x := fun x hx => by
    refine (hg x).trans ?_
    unfold State.waitOne
    rw [List.filter_cons_of_neg (by simpa using Ne.symm hx)]
    rfl
  have hm : (s.waitOne a m v).mergeWaits 27 = { s with regs := r } := by
    rw [hr]
    unfold State.waitOne
    rw [← q.waits]
  have hpend : ({ s with regs := r } : State).pend = 0 := (hother _ (ne_CFG_PEND (by omega) ha).symm).trans q.pend
  have harm : ({ s with regs := r } : State).mergeArmed 27 = { s with regs := r } := if_neg (by simp [hpend, bitOf])
  refine ⟨r, ?_, (q.still.of (t := { s with regs := r }) rfl rfl (hother _ hs.symm) rfl rfl).quiet q.waits hpend, hself, hother⟩
  unfold State.applyUnit
  rw [hm, harm, State.onApply_pwr]
  exact if_neg (by simp [show State.reg { s with regs := r } Reg.PWR_DVFS = s.reg Reg.PWR_DVFS from hother _ hd.symm,
    show (s.waitOne a m v).reg Reg.PWR_DVFS = s.reg Reg.PWR_DVFS from rfl])

end Sys2Proof.Machine
end

section
/-! O19: what a register write does by its class, and what a unit's boundary applies. One entry of its list of read-only registers,
`SYS_BOOTSTAT`, has W1C fields, which refutes it; the rest of the statement holds. -/

namespace Sys2Proof.Machine

/-! ### Writes by class -/

theorem antcfg_regmap : onlyK Reg.RFE_ANTCFG 0x13 = true ∧ busReg Reg.RFE_ANTCFG := by decide +kernel

theorem gmode_regmap : ∀ g < 16, onlyK (Reg.ENV_GMODE g) 1 = true ∧ busReg (Reg.ENV_GMODE g) ∧ unitOf (Reg.ENV_GMODE g) = g ∧
    wignField (Reg.ENV_GMODE g) = Reg.ENV_GSTAT_WRITE_IGNORED g ∧ Reg.CFG_PEND ≠ Reg.ENV_GMODE g ∧ Reg.RFE_SPCTL ≠ Reg.ENV_GMODE g ∧
    Reg.CFG_PEND ≠ Reg.ENV_GSTAT g ∧ Reg.RFE_SPCTL ≠ Reg.ENV_GSTAT g := by decide +kernel

theorem qbase_regmap : ∀ q < 2, onlyK (Reg.CIPH_QBASE q) 0xFFFFFFE0 = true ∧ busReg (Reg.CIPH_QBASE q) ∧
    wignField (Reg.CIPH_QBASE q) = Reg.CIPH_STATUS_WRITE_IGNORED ∧ unitOf (Reg.CIPH_QBASE q) = 26 ∧ Reg.CFG_PEND ≠ Reg.CIPH_QBASE q ∧
    Reg.RFE_SPCTL ≠ Reg.CIPH_QBASE q := by decide +kernel

theorem parent_regmap : onlyL Reg.LINK_PARENT 0x83FFFFFF = true ∧ busReg Reg.LINK_PARENT ∧ sMask Reg.LINK_PARENT = 0 := by decide +kernel

theorem hscfg_regmap : onlyL Reg.PWR_HSCFG 0xFF = true ∧ busReg Reg.PWR_HSCFG := by decide +kernel

/-- Registers of O19's list that no write changes: all of it but `SYS_BOOTSTAT`, four of whose fields are W1C (Table 16-13). -/
def ignoredRegs : List Nat := [Reg.SYS_ID, Reg.CFG_DIGEST, Reg.CFG_EPOCH, Reg.CFG_PEND, Reg.LINK_EVC_LO, Reg.PWR_HSRES]

theorem ignoredRegs_regmap : ∀ a ∈ ignoredRegs, readOnly a = true ∧ busReg a := by decide +kernel

theorem readOnly_of_unassigned {a : Nat} (h : regRow? a = none) : readOnly a = true := by
  unfold readOnly
  rw [h]

theorem State.kOpen_antcfg {s : State} (h : s.awake = true) (v : Word) :
    s.kOpen Reg.RFE_ANTCFG v = decide (s.rfe.st = .off ∧ s.flag Reg.RFE_CTL_EN = false) := by
  show s.rfeStopped = _
  unfold State.rfeStopped
  rw [h]
  cases s.flag Reg.RFE_CTL_EN <;> simp

theorem gmode_ne {g : Nat} (hg : g < 16) : Reg.ENV_GMODE g ≠ Reg.REEL_TXQBASE ∧ Reg.ENV_GMODE g ≠ Reg.REEL_TID 16 := by
  unfold Reg.ENV_GMODE Reg.REEL_TXQBASE Reg.REEL_TID
  omega

theorem State.kOpen_gmode (s : State) {g : Nat} (hg : g < 16) (v : Word) :
    s.kOpen (Reg.ENV_GMODE g) v = decide ((s.eng g).run = false) := by
  obtain ⟨-, -, hu, -⟩ := gmode_regmap g hg
  unfold State.kOpen
  rw [hu]
  dsimp only
  rw [if_neg (gmode_ne hg).1, if_neg (gmode_ne hg).2, if_pos hg]
  cases (s.eng g).run <;> rfl

theorem State.kOpen_qbase {s : State} (h : s.awake = true) {q : Nat} (hq : q < 2) (v : Word) :
    s.kOpen (Reg.CIPH_QBASE q) v = decide (s.flag Reg.CIPH_CTL_EN = false ∧ s.ciph.cur = none) := by
  have hk : s.kOpen (Reg.CIPH_QBASE q) v = (!s.awake || (!s.flag Reg.CIPH_CTL_EN && s.ciph.cur.isNone)) := by
    match q, hq with
    | 0, _ => rfl
    | 1, _ => rfl
  rw [hk, h]
  cases s.flag Reg.CIPH_CTL_EN <;> cases s.ciph.cur <;> simp

section
variable {s : State} {ag : Agent} {data : Word} (q : s.Quiet)
include q

/-- A write of `LINK_PARENT` waits for a slot start (R45, R202). -/
theorem parentWrite_ends (ht : s.agentTrig ag .store Reg.LINK_PARENT = none) (hp : s.agentPmp ag .store Reg.LINK_PARENT 4 = true) :
    ∃ u, exec (.registerWrite ag (BitVec.ofNat 32 Reg.LINK_PARENT) data) s = .next u ∧ u.heard ag = .done ∧ u.mem = s.mem ∧
      u.lost = s.lost ∧ u.regs = s.regs ∧ u.last Reg.LINK_PARENT &&& 0x83FFFFFF = data &&& 0x83FFFFFF := by
  obtain ⟨hm, ⟨hr, h4, hplain⟩, hs⟩ := parent_regmap
  have hu18 : unitOf Reg.LINK_PARENT = 18 := by decide
  have hst : (s.waitOne Reg.LINK_PARENT 0x83FFFFFF data).Still := q.still.of rfl rfl rfl rfl rfl
  have hb : (s.waitOne Reg.LINK_PARENT 0x83FFFFFF data).atBoundary 18 = false := by
    show (!(s.waitOne Reg.LINK_PARENT 0x83FFFFFF data).awake) = false
    rw [hst.isAwake]
    rfl
  have hw : s.regWrite Reg.LINK_PARENT data = s.waitOne Reg.LINK_PARENT 0x83FFFFFF data := by
    rw [State.regWrite_plain data hplain hr, State.writeReg_onlyL hm, State.writeL_eq q.waits (by decide) (by decide), hu18, hb]
    rfl
  have hwork : ∀ u, (s.waitOne Reg.LINK_PARENT 0x83FFFFFF data).hasWork u = true → u = 18 := fun u hu => by
    unfold State.hasWork at hu
    rw [show (s.waitOne Reg.LINK_PARENT 0x83FFFFFF data).pend = 0 from q.pend] at hu
    by_contra hne
    have hf : (s.waitOne Reg.LINK_PARENT 0x83FFFFFF data).waitsFor u = [] := List.filter_eq_nil_iff.2 fun x hx => by
      rw [List.mem_singleton.1 hx, hu18]
      simpa using Ne.symm hne
    rw [hf] at hu
    simp [bitOf] at hu
  obtain ⟨u, hu, hh, hme, hl, hsame⟩ := registerWrite_ends hr h4 hw rfl rfl hst (fun k hk => hwork k hk ▸ hb) ht hp
  exact ⟨u, hu, hh, hme, hl, hsame.regs, (congrArg (· &&& _) (hsame.last _)).trans (State.waitOne_last _ data hs)⟩

/-- A write of `PWR_HSCFG` takes effect at once: no handshake is in progress (R45, Table 2-1). -/
theorem hscfgWrite_ends (hc : s.canonical) (ht : s.agentTrig ag .store Reg.PWR_HSCFG = none) (hp : s.agentPmp ag .store Reg.PWR_HSCFG 4 = true) :
    ∃ u, exec (.registerWrite ag (BitVec.ofNat 32 Reg.PWR_HSCFG) data) s = .next u ∧ u.heard ag = .done ∧ u.mem = s.mem ∧
      u.lost = s.lost ∧ u.reg Reg.PWR_HSCFG &&& 0xFF = data &&& 0xFF ∧ (∀ x, x ≠ Reg.PWR_HSCFG → u.reg x = s.reg x) ∧ u.waits = [] := by
  obtain ⟨hm, hb⟩ := hscfg_regmap
  have hu27 : unitOf Reg.PWR_HSCFG = 27 := by decide
  obtain ⟨r, happ, hq, hself, hother⟩ := State.waitOne_applied hc q (a := Reg.PWR_HSCFG) 0xFF data hu27 (by decide) (by decide)
  have hbd : (s.waitOne Reg.PWR_HSCFG 0xFF data).atBoundary 27 = true := by
    show s.pwr.hs.isNone = true
    rw [q.entry]
    rfl
  have hw : s.writeReg Reg.PWR_HSCFG data = { s with regs := r } := by
    rw [State.writeReg_onlyL hm, State.writeL_eq q.waits (by decide) (by decide), hu27, hbd, if_pos rfl, happ, hq.afterPend]
  obtain ⟨u, hu, hh, hme, hl, hsame⟩ := quietWrite_ends ht hp hb hw ⟨hq, rfl, rfl⟩
  refine ⟨u, hu, hh, hme, hl, ?_, fun x hx => (hsame.reg x).trans (hother x hx), hsame.waits.trans q.waits⟩
  exact (congrArg (· &&& _) ((hsame.reg _).trans hself)).trans ((mergeBits_and _ _ _).trans (mergeBits_and _ _ _))

end

/-! ### Boundaries -/

theorem turnRegs_regmap : (∀ k < 128, readOnly (Reg.ENV_NF k) = true) ∧ readOnly Reg.ENV_SVSTAT = true ∧ unitOf Reg.MEMC_BANKCTL ≠ 17 ∧
    unitOf Reg.MEMC_RBANKCTL ≠ 17 ∧ ∀ i < 3, unitOf (Reg.EVL_WATCH i) ≠ 17 := by decide +kernel

/-- No register of unit 17 that the turn of an interval writes has a writable field. -/
theorem readOnly_of_turnReg {a : Nat} (h : turnReg a) (hu : unitOf a = 17) : readOnly a = true := by
  obtain ⟨hnf, hsv, hb, hr, hw⟩ := turnRegs_regmap
  rcases h with ⟨k, hk, rfl⟩ | rfl | rfl | rfl | ⟨i, hi, rfl⟩
  · exact hnf k hk
  · exact hsv
  · exact absurd hu hb
  · exact absurd hu hr
  · exact absurd hu (hw i hi)

theorem rwL_of_readOnly {a : Nat} {r : RegRow} (h : readOnly a = true) (hr : regRow? a = some r) : r.rwL = 0 := by
  unfold readOnly at h
  rw [hr] at h
  exact of_decide_eq_true (Bool.and_eq_true _ _ ▸ h).2

theorem sMask_of_readOnly {a : Nat} (h : readOnly a = true) : sMask a = 0 := by
  unfold readOnly at h
  unfold sMask
  split
  · rename_i r hr
    rw [hr] at h
    exact of_decide_eq_true (Bool.and_eq_true _ _ ▸ (Bool.and_eq_true _ _ ▸ h).1).2
  · rfl

theorem Taken.lane {v m : State} {n : Nat} (h : Taken v m n) (k : Nat) : m.lane k = v.lane k := by
  rw [h.rest]
  rfl

/-- A group whose configuration has changed gives its idle lanes their states (R110, R118, R119). -/
theorem UnitApplied.lane {v w u : State} {n i : Nat} (h : UnitApplied v w n) (hc : v.canonical) (hset : Settles w u) (hi : i < 8) (hn : n < 16)
    (hp : (v.lane (8 * n + i)).st ≠ .preamble) (hf : (v.lane (8 * n + i)).st ≠ .frame)
    (hg : v.goes (Reg.ENV_GCFG n) ≠ v.reg (Reg.ENV_GCFG n)) : (u.lane (8 * n + i)).st = u.restState (8 * n + i) := by
  obtain ⟨m, hm, rfl, hb, -⟩ := h.taken
  have hne : Reg.ENV_GCFG n ≠ Reg.CFG_PEND := by
    show 0x4000C100 + 4 * n ≠ 0x40002020
    omega
  have hch : (m.reg (Reg.ENV_GCFG n) != v.reg (Reg.ENV_GCFG n)) = true := by simpa [hm.reg _ hne] using hg
  have hlanes : Swf (fun _ => Lane.reset) m.lanes := by
    rw [hm.rest]
    exact hc.lanes
  have hu : u.lane (8 * n + i) = (m.onApply v n).lane (8 * n + i) := congrArg (fun l => sget (fun _ => Lane.reset) l (8 * n + i)) hset.lanes
  rw [hset.restState, hb.restState, hu, State.onApply_group _ _ hn, if_pos hch]
  exact State.groupRest_lane hlanes hi ((hm.lane _) ▸ hp) ((hm.lane _) ▸ hf)

/-- The first half of O19, what a write does by its class, with the registers that no write changes as a parameter. -/
def WriteRules (ignored : List Nat) : Prop :=
  ∀ (s : State) (ag : Agent) (data : Word), s.canonical → s.Quiet →
    let after := fun (a : Nat) (P : State → Prop) => s.agentTrig ag .store a = none → s.agentPmp ag .store a 4 = true →
      ∃ u, exec (.registerWrite ag (BitVec.ofNat 32 a) data) s = .next u ∧ u.heard ag = .done ∧ u.mem = s.mem ∧ u.lost = s.lost ∧ P u
    let shadows := fun (a : Nat) (m : Word) => after a fun u => u.regs = s.regs ∧ u.shadowOf a &&& m = data &&& m ∧
      ∀ x, x ≠ a → u.shadowOf x = s.shadowOf x
    let kept := fun (a : Nat) (u : State) => ∀ x, x ≠ a → u.reg x = s.reg x
    (∀ p ∈ [(Reg.CFG_WIN, (0xFF : Word)), (Reg.ENV_NFCFG, 1), (Reg.LINK_SLOTCFG, 0xFFFF), (Reg.LINK_PPM, 0x7F), (Reg.LINK_DWCFG, 0xFFFF3F01),
      (Reg.LINK_FFCFG, 7)], shadows p.1 p.2) ∧
    (∀ i, (i < 128 → shadows (Reg.LINK_MAP i) 0xFFFFFFFF) ∧ (i < 32 → shadows (Reg.LINK_MAPCTL i) 0x7F01) ∧
      (i < 4 → shadows (Reg.LINK_IDEXTLO i) 0xFFFFFFFF ∧ shadows (Reg.LINK_IDEXTHI i) 0xFFFFFFFF ∧ shadows (Reg.LINK_IDSPAN i) 0xFFFFFFFF ∧
        shadows (Reg.LINK_IDCTL i) 3)) ∧
    (after Reg.RFE_ANTCFG fun u =>
      if s.rfe.st = .off ∧ s.flag Reg.RFE_CTL_EN = false then
        u.reg Reg.RFE_ANTCFG &&& 0x13 = data &&& 0x13 ∧ kept Reg.RFE_ANTCFG u
      else u.flag Reg.RFE_STATUS_WRITE_IGNORED = true ∧ kept Reg.RFE_STATUS u) ∧
    (∀ g, g < 16 → after (Reg.ENV_GMODE g) fun u =>
      if (s.eng g).run = false then u.reg (Reg.ENV_GMODE g) &&& 1 = data &&& 1 ∧ kept (Reg.ENV_GMODE g) u
      else u.flag (Reg.ENV_GSTAT_WRITE_IGNORED g) = true ∧ kept (Reg.ENV_GSTAT g) u) ∧
    (∀ q, q < 2 → after (Reg.CIPH_QBASE q) fun u =>
      if s.flag Reg.CIPH_CTL_EN = false ∧ s.ciph.cur = none then
        u.reg (Reg.CIPH_QBASE q) &&& 0xFFFFFFE0 = data &&& 0xFFFFFFE0 ∧ kept (Reg.CIPH_QBASE q) u
      else u.flag Reg.CIPH_STATUS_WRITE_IGNORED = true ∧ kept Reg.CIPH_STATUS u) ∧
    (after Reg.LINK_PARENT fun u => u.regs = s.regs ∧ u.last Reg.LINK_PARENT &&& 0x83FFFFFF = data &&& 0x83FFFFFF) ∧
    (after Reg.PWR_HSCFG fun u => u.reg Reg.PWR_HSCFG &&& 0xFF = data &&& 0xFF ∧ kept Reg.PWR_HSCFG u ∧ u.waits = []) ∧
    (∀ a ∈ ignored, after a fun u => u.regs = s.regs ∧ u.shadow = s.shadow ∧ u.waits = s.waits) ∧
    (∀ a, a % 4 = 0 → region a = .periph → regRow? a = none → after a fun u => u.regs = s.regs ∧ u.shadow = s.shadow ∧ u.waits = s.waits)

/-- The second half of O19: what a unit's boundary applies. -/
def BoundaryRules : Prop :=
  ∀ (s : State) (t n : Nat), let v := s.at_ t
    let goes := fun a => (v.armed.filter fun p => p.1 = a).foldl (fun w p => mergeBits w (sMask a) p.2)
      ((v.waits.filter fun x => x.addr = a).foldl (fun w x => mergeBits w x.mask x.val) (v.reg a))
    let own := [Reg.RFE_CTL, Reg.RFE_SPCTL, Reg.ENV_CTL, Reg.PWR_DVFS, Reg.TRNG_CTL, Reg.WDT_CTL 0, Reg.WDT_CTL 1]
    let applied := fun u : State => u.waits = [] ∧ u.armed = [] ∧ u.pend = 0 ∧
      (∀ a, a ∈ v.waits.map (fun x => x.addr) ∨ a ∈ v.armed.map Prod.fst → u.reg a = goes a) ∧
      (v.armed ≠ [] → (∀ p ∈ v.cfg.lag, p.1 ≠ n) → u.lagOf n = min 0xFFFFFFFF ((v.now - v.cfg.switchT) / 40))
    v.canonical → (({ v with waits := [], armed := [] } : State).setReg Reg.CFG_PEND 0).Quiet →
    (∀ x ∈ v.waits, unitOf x.addr = n ∧ x.addr ∉ own ∧ ∃ r, regRow? x.addr = some r ∧ r.rwL ≠ 0) →
    (∀ p ∈ v.armed, unitOf p.1 = n ∧ p.1 ∉ own ∧ sMask p.1 ≠ 0) →
    v.pend = (if v.armed = [] then 0 else (1 : Word) <<< n) →
    (n < 18 ∨ n ∈ [19, 24, 26, 27, 30] → v.atBoundary n = true → ∃ u, exec (.unitSafeBoundary n t) s = .next u ∧ applied u ∧
      (∀ a, a ≠ Reg.CFG_PEND → u.reg a = goes a) ∧ (n = 16 ∨ 18 ≤ n → u.mem = v.mem) ∧
      ∀ i, i < 8 → n < 16 → let l := v.lane (8 * n + i)
        l.st ≠ .preamble → l.st ≠ .frame → goes (Reg.ENV_GCFG n) ≠ v.reg (Reg.ENV_GCFG n) →
        (u.lane (8 * n + i)).st = u.restState (8 * n + i)) ∧
    (n = 17 → v.env.st ≠ .survey ∨ v.get (Reg.EVL_LINECFG_SUB (v.outLine 1)) = 0 →
      ∀ pow, ∃ u, exec (.msBoundary pow t) s = .next u ∧ applied u) ∧
    (n = 18 ∨ n < 18 ∧ v.atBoundary n = false →
      ∃ u, exec (.unitSafeBoundary n t) s = .next u ∧ u.regs = v.regs ∧ u.waits = v.waits ∧ u.armed = v.armed)

theorem registerWritesAndBoundaries_eq : Obligations.RegisterWritesAndBoundaries =
    (WriteRules [Reg.SYS_ID, Reg.SYS_BOOTSTAT, Reg.CFG_DIGEST, Reg.CFG_EPOCH, Reg.CFG_PEND, Reg.LINK_EVC_LO, Reg.PWR_HSRES] ∧ BoundaryRules) :=
  rfl

/-- The first half of O19 holds once `SYS_BOOTSTAT` is not counted as read-only. -/
theorem writeRules_ignoredRegs : WriteRules ignoredRegs := by
  intro s ag data hc q after shadows kept
  have hs : ∀ a m, (a, m) ∈ shadowRegs → shadows a m := fun a m hm ht hp => shadowWrite_ends ht hp hc q hm
  have haw := q.still.isAwake
  refine ⟨fun p hp => hs p.1 p.2 (List.mem_append_left _ hp), fun i => ⟨fun hi => hs _ _ (mem_shadowRegs_map hi),
    fun hi => hs _ _ (mem_shadowRegs_mapctl hi), fun hi => ?_⟩, ?_, ?_, ?_, ?_, ?_, ?_, ?_⟩
  · have hid : ∀ p ∈ shadowIds i, shadows p.1 p.2 := fun p hp => hs p.1 p.2 (mem_shadowRegs_id hi hp)
    simpa [shadowIds] using hid
  · intro ht hp
    exact stoppedWrite_ends ht hp hc q antcfg_regmap.1 antcfg_regmap.2 (f := Reg.RFE_STATUS_WRITE_IGNORED) rfl ⟨rfl, by decide⟩
      (State.kOpen_antcfg haw data) ⟨by decide, by decide, by decide, by decide⟩
  · intro g hg ht hp
    obtain ⟨hk, hb, -, hf, h1, h2, h3, h4⟩ := gmode_regmap g hg
    exact stoppedWrite_ends ht hp hc q hk hb hf ⟨rfl, show 3 < 32 by decide⟩ (s.kOpen_gmode hg data) ⟨h1, h2, h3, h4⟩
  · intro i hi ht hp
    obtain ⟨hk, hb, hf, -, h1, h2⟩ := qbase_regmap i hi
    exact stoppedWrite_ends ht hp hc q hk hb hf ⟨rfl, by decide⟩ (State.kOpen_qbase haw hi data) ⟨h1, h2, by decide, by decide⟩
  · exact fun ht hp => parentWrite_ends q ht hp
  · exact fun ht hp => hscfgWrite_ends q hc ht hp
  · intro a ha ht hp
    obtain ⟨hr, hb⟩ := ignoredRegs_regmap a ha
    exact ignoredWrite_ends ht hp q hr hb
  · intro a h4 hr hrow ht hp
    exact ignoredWrite_ends ht hp q (readOnly_of_unassigned hrow) ⟨hr, h4, plainReg_of_unassigned hrow⟩

/-- The second half of O19 holds. -/
theorem boundaryRules : BoundaryRules := by
  intro s t n v goes own applied hc q hw ha hp
  have hst : v.Still := q.still.of rfl rfl (State.setReg_reg_ne _ _ (by decide)).symm rfl rfl
  have hown : v.sparesOwn := by
    refine fun a hm => ⟨fun x hx he => ?_, fun p hp' he => ?_⟩
    · obtain ⟨-, hnot, -⟩ := hw x hx
      exact hnot (he ▸ hm)
    · obtain ⟨-, hnot, -⟩ := ha p hp'
      exact hnot (he ▸ hm)
  have hdue : n < 31 → v.DueAt n := fun hn => ⟨hc.regs, hn, fun x hx => (hw x hx).1, fun p hp' => (ha p hp').1, hp⟩
  have hne : n < 31 → ∀ a, a ∈ v.waits.map (fun x => x.addr) ∨ a ∈ v.armed.map Prod.fst → a ≠ Reg.CFG_PEND := by
    rintro hn a (hm | hm)
    · obtain ⟨x, hx, rfl⟩ := List.mem_map.1 hm
      exact ne_CFG_PEND hn (hw x hx).1
    · obtain ⟨p, hp', rfl⟩ := List.mem_map.1 hm
      exact ne_CFG_PEND hn (ha p hp').1
  refine ⟨fun hn hb => ?_, fun hn hq pow => ?_, fun hn => ?_⟩
  · have hlt : n < 31 := by
      simp only [List.mem_cons, List.not_mem_nil, or_false] at hn
      omega
    obtain ⟨w, u, hwu, hu, hset⟩ := unitSafeBoundary_applies (hdue hlt) hown hst hn hb
    obtain ⟨m, hm, -, hbm, heq⟩ := hwu.taken
    have hall := hm.allApplied (hset.regs.trans hbm.regs) (hset.waits.trans hbm.waits) (hset.armed.trans hbm.armed) (hset.cfg.trans hbm.cfg)
    refine ⟨u, hu, ⟨hall.waits, hall.armed, hall.pend, fun a hm' => hall.reg a (hne hlt a hm'), hall.lag⟩, hall.reg, fun h => ?_,
      fun i hi hn' => hwu.lane hc hset hi hn'⟩
    rw [hset.mem, heq h, hm.rest]
  · subst hn
    obtain ⟨w, u, hu, ht, hall⟩ := msBoundary_applies (pow := pow) hc (hdue (by omega)) hown hst hq
    have hturn : ∀ a, a ∈ v.waits.map (fun x => x.addr) ∨ a ∈ v.armed.map Prod.fst → ¬turnReg a := by
      rintro a (hm | hm) htr
      · obtain ⟨x, hx, rfl⟩ := List.mem_map.1 hm
        obtain ⟨hu17, -, r, hr, hl⟩ := hw x hx
        exact hl (rwL_of_readOnly (readOnly_of_turnReg htr hu17) hr)
      · obtain ⟨p, hp', rfl⟩ := List.mem_map.1 hm
        obtain ⟨hu17, -, hsm⟩ := ha p hp'
        exact hsm (sMask_of_readOnly (readOnly_of_turnReg htr hu17))
    refine ⟨u, hu, hall.waits, hall.armed, hall.pend,
      fun a hm => (hall.reg a (hne (by omega) a hm)).trans (ht.goes (hturn a hm)), fun hna hl => ?_⟩
    rw [hall.lag (ht.armed ▸ hna) (ht.cfg ▸ hl), ht.now, ht.cfg]
  · have hb : v.atBoundary n = false := by
      rcases hn with rfl | ⟨-, hb⟩
      · show (!v.awake) = false
        rw [hst.isAwake]
        rfl
      · exact hb
    obtain ⟨u, hu, hset⟩ := unitSafeBoundary_waits (hdue (by omega)) hst (by omega) hb
    exact ⟨u, hu, hset.regs, hset.waits, hset.armed⟩

/-! ### The register that the statement counts as read-only -/

/-- The W1C fields of `SYS_BOOTSTAT` (Table 16-13) are all that a write of it changes. -/
theorem State.writeReg_bootstat (s : State) (v : Word) :
    s.writeReg Reg.SYS_BOOTSTAT v = s.setReg Reg.SYS_BOOTSTAT (s.reg Reg.SYS_BOOTSTAT &&& ~~~(v &&& 0x6A00)) := by
  obtain ⟨r, hr, hk, hc, hset, hs, hl⟩ : ∃ r, regRow? Reg.SYS_BOOTSTAT = some r ∧ r.rwK = 0 ∧ r.w1c = 0x6A00 ∧ r.w1s = 0 ∧ r.rwS = 0 ∧
    r.rwL = 0 := ⟨_, rfl, rfl, rfl, rfl, rfl, rfl⟩
  rw [State.writeReg_of_row hr, hk, hc, hset, hs, hl]
  show s.setReg Reg.SYS_BOOTSTAT ((s.reg Reg.SYS_BOOTSTAT &&& ~~~(v &&& 0x6A00)) ||| (v &&& 0)) = _
  simp

theorem bootstat_busReg : busReg Reg.SYS_BOOTSTAT := by decide +kernel

/-- A device at which a swap was skipped because the selector's count was exhausted: BSELEXH is set. -/
def bselexhState : State := State.reset.setReg Reg.SYS_BOOTSTAT 0x200

theorem bselexhState_canonical : bselexhState.canonical :=
  ⟨Swf_nil _, State.setReg_Swf State.reset (Swf_nil _) _ _, Swf_nil _, Swf_nil _, Swf_nil _, Swf_nil _, Swf_nil _, Swf_nil _⟩

theorem bselexhState_quiet : bselexhState.Quiet :=
  State.setReg_quiet ⟨rfl, by decide, rfl, .inl rfl, rfl, rfl, rfl, rfl, rfl, rfl⟩ _ (by decide) (by decide)

/-- Refutes O19: `SYS_BOOTSTAT` is not read-only. Its bits 14, 13, 11 and 9 are W1C (Table 16-13, R9), so that a write of 0x200 clears
BSELEXH. -/
theorem not_registerWritesAndBoundaries : ¬ Obligations.RegisterWritesAndBoundaries := by
  rw [registerWritesAndBoundaries_eq]
  rintro ⟨h, -⟩
  obtain ⟨-, -, -, -, -, -, -, hro, -⟩ := h bselexhState .debug 0x200 bselexhState_canonical bselexhState_quiet
  obtain ⟨u, hu, -, -, -, hregs, -, -⟩ := hro Reg.SYS_BOOTSTAT (by simp) rfl rfl
  obtain ⟨u', hu', -, -, -, hsame⟩ := quietWrite_ends (s := bselexhState) (ag := .debug) (data := 0x200) rfl rfl bootstat_busReg
    (State.writeReg_bootstat _ _) ⟨State.setReg_quiet bselexhState_quiet _ (by decide) (by decide), rfl, rfl⟩
  have he : u' = u := Host.Outcome.next.inj (hu'.symm.trans hu)
  have hcleared : u.reg Reg.SYS_BOOTSTAT = 0 := he ▸ (hsame.reg _).trans (State.setReg_reg_self _ bselexhState_canonical.regs _ _)
  have hkept : u.reg Reg.SYS_BOOTSTAT = 0x200 := congrArg (fun r => sget regReset r Reg.SYS_BOOTSTAT) hregs
  rw [hcleared] at hkept
  exact absurd hkept (by decide)

end Sys2Proof.Machine
end

section
/-! SUPPORT. What every command and every step keeps: the queue, the canonical form and legal modes. -/

namespace Sys2Proof.Machine

/-- Each command's meaning keeps them, so `exec` does. -/
theorem exec_keeps (i : Instr) (s : State) : KeepsO s (exec i s) :=
  match i with
  | .softwareResetDevice _ => execSoftwareResetDevice_keeps _ _
  | .core0Reset _ => execCore0Reset_keeps _ _
  | .core1Reset _ => execCore1Reset_keeps _ _
  | .doubleFault _ _ => execDoubleFault_keeps _ _ _
  | .watchdogExpiry _ _ => execWatchdogExpiry_keeps _ _ _
  | .wdtHalfTimeout _ _ => execWdtHalfTimeout_keeps _ _ _
  | .wdtKick _ _ => execWdtKick_keeps _ _ _
  | .core0Release _ _ => execCore0Release_keeps _ _ _
  | .startCalibrationDone _ => execStartCalibrationDone_keeps _ _
  | .safeExit _ => execSafeExit_keeps _ _
  | .c1ctlRunWrite _ => execC1ctlRunWrite_keeps _ _
  | .bootGood _ => execBootGood_keeps _ _
  | .memoryAccess _ _ _ _ _ _ _ => execMemoryAccess_keeps _ _ _ _ _ _ _ _
  | .stepMemoryStore _ _ _ => execStepMemoryStore_keeps _ _ _ _
  | .fenceI _ => execFenceI_keeps _ _
  | .wfi _ _ => execWfi_keeps _ _ _
  | .illegalCsr _ _ => execIllegalCsr_keeps _ _ _
  | .timeCsrRead _ _ => execTimeCsrRead_keeps _ _ _
  | .dcinv _ _ => execDcinv_keeps _ _ _
  | .icinv _ _ => execIcinv_keeps _ _ _
  | .debugHaltRequest _ => execDebugHaltRequest_keeps _ _
  | .registerWrite _ _ _ => execRegisterWrite_keeps _ _ _ _
  | .unitSafeBoundary _ _ => execUnitSafeBoundary_keeps _ _ _
  | .lagLimitExpiry _ => execLagLimitExpiry_keeps _ _
  | .rfeStartupDone _ => execRfeStartupDone_keeps _ _
  | .autoRecal _ => execAutoRecal_keeps _ _
  | .calStepDone _ => execCalStepDone_keeps _ _
  | .synthLockDone _ => execSynthLockDone_keeps _ _
  | .txClaim _ => execTxClaim_keeps _ _
  | .coexReqAssert _ => execCoexReqAssert_keeps _ _
  | .txStart _ _ => execTxStart_keeps _ _ _
  | .txFirstChip _ => execTxFirstChip_keeps _ _
  | .txLastChip _ => execTxLastChip_keeps _ _
  | .txTailEnd _ => execTxTailEnd_keeps _ _
  | .blankEnd _ => execBlankEnd_keeps _ _
  | .txLateCancel _ => execTxLateCancel_keeps _ _
  | .synthTimeout _ => execSynthTimeout_keeps _ _
  | .coexGntRevoke _ => execCoexGntRevoke_keeps _ _
  | .ackCommit _ _ => execAckCommit_keeps _ _ _
  | .coexCntRead _ => execCoexCntRead_keeps _ _
  | .envelopeStart _ => execEnvelopeStart_keeps _ _
  | .envelopeXwaitEnd _ => execEnvelopeXwaitEnd_keeps _ _
  | .envelopeRun _ => execEnvelopeRun_keeps _ _
  | .msBoundary _ _ => execMsBoundary_keeps _ _ _
  | .envelopeStopped _ => execEnvelopeStopped_keeps _ _
  | .surveyBegin _ => execSurveyBegin_keeps _ _
  | .agcGainDown _ _ _ _ => execAgcGainDown_keeps _ _ _ _ _
  | .agcGainUp _ _ => execAgcGainUp_keeps _ _ _
  | .preambleDetect _ _ _ _ _ => execPreambleDetect_keeps _ _ _ _ _ _
  | .spPreambleDetect _ _ _ => execSpPreambleDetect_keeps _ _ _ _
  | .chainChoice _ _ _ _ _ => execChainChoice_keeps _ _ _ _ _ _
  | .sfdRecognised _ _ _ => execSfdRecognised_keeps _ _ _ _
  | .sfdTimeout _ _ => execSfdTimeout_keeps _ _ _
  | .phrReceived _ _ _ _ => execPhrReceived_keeps _ _ _ _ _
  | .addrReached _ _ => execAddrReached_keeps _ _ _
  | .frameEnd _ _ _ => execFrameEnd_keeps _ _ _ _
  | .groupHold _ => execGroupHold_keeps _ _
  | .groupStopped _ _ => execGroupStopped_keeps _ _ _
  | .groupRelease _ => execGroupRelease_keeps _ _
  | .envLerrRead _ _ => execEnvLerrRead_keeps _ _ _
  | .nop _ _ => execNop_keeps _ _ _
  | .movi _ _ => execMovi_keeps _ _ _
  | .addOp _ _ => execAddOp_keeps _ _ _
  | .subOp _ _ => execSubOp_keeps _ _ _
  | .andOp _ _ => execAndOp_keeps _ _ _
  | .orOp _ _ => execOrOp_keeps _ _ _
  | .xorOp _ _ => execXorOp_keeps _ _ _
  | .shl _ _ => execShl_keeps _ _ _
  | .shr _ _ => execShr_keeps _ _ _
  | .cmp _ _ => execCmp_keeps _ _ _
  | .ld _ _ => execLd_keeps _ _ _
  | .st _ _ => execSt_keeps _ _ _
  | .lookup _ _ => execLookup_keeps _ _ _
  | .readf _ _ => execReadf_keeps _ _ _
  | .txq _ _ => execTxq_keeps _ _ _
  | .txack _ _ => execTxack_keeps _ _ _
  | .deliv _ _ => execDeliv_keeps _ _ _
  | .dropFrame _ _ => execDropFrame_keeps _ _ _
  | .postEvent _ _ => execPostEvent_keeps _ _ _
  | .irq _ _ => execIrq_keeps _ _ _
  | .syncEpoch _ _ => execSyncEpoch_keeps _ _ _
  | .timer _ _ => execTimer_keeps _ _ _
  | .waitev _ _ => execWaitev_keeps _ _ _
  | .waitt _ _ => execWaitt_keeps _ _ _
  | .yield _ _ => execYield_keeps _ _ _
  | .jmp _ _ => execJmp_keeps _ _ _
  | .call _ _ => execCall_keeps _ _ _
  | .ret _ _ => execRet_keeps _ _ _
  | .halt _ _ => execHalt_keeps _ _ _
  | .txgo _ _ => execTxgo_keeps _ _ _
  | .txhold _ _ => execTxhold_keeps _ _ _
  | .txrel _ _ => execTxrel_keeps _ _ _
  | .hop _ _ => execHop_keeps _ _ _
  | .guard _ _ => execGuard_keeps _ _ _
  | .resync _ _ => execResync_keeps _ _ _
  | .sprx _ _ => execSprx_keeps _ _ _
  | .spoff _ _ => execSpoff_keeps _ _ _
  | .sped _ _ => execSped_keeps _ _ _
  | .spedDone _ _ _ => execSpedDone_keeps _ _ _ _
  | .armSadc _ _ => execArmSadc_keeps _ _ _
  | .armWake _ _ => execArmWake_keeps _ _ _
  | .contextTimerExpiry _ _ _ => execContextTimerExpiry_keeps _ _ _ _
  | .waittWake _ _ _ => execWaittWake_keeps _ _ _ _
  | .contextDispatch _ _ _ => execContextDispatch_keeps _ _ _ _
  | .contextRestart _ => execContextRestart_keeps _ _
  | .engine16Stopped _ => execEngine16Stopped_keeps _ _
  | .txqRelease _ => execTxqRelease_keeps _ _
  | .txqbaseWrite _ => execTxqbaseWrite_keeps _ _
  | .loadTable _ => execLoadTable_keeps _ _
  | .loadVerifyDone _ => execLoadVerifyDone_keeps _ _
  | .loadQuietStop _ => execLoadQuietStop_keeps _ _
  | .loadSoftWaitExpiry _ => execLoadSoftWaitExpiry_keeps _ _
  | .loadComplete _ => execLoadComplete_keeps _ _
  | .xtalReady _ => execXtalReady_keeps _ _
  | .timebaseSwitch _ => execTimebaseSwitch_keeps _ _
  | .lfcalMeasure _ _ => execLfcalMeasure_keeps _ _ _
  | .lfCrystalStart _ => execLfCrystalStart_keeps _ _
  | .lfCrystalStop _ => execLfCrystalStop_keeps _ _
  | .vbkpLow _ _ _ => execVbkpLow_keeps _ _ _ _
  | .fioBurstStart _ => execFioBurstStart_keeps _ _
  | .tbaseNowRead _ => execTbaseNowRead_keeps _ _
  | .slotStart _ => execSlotStart_keeps _ _
  | .linkAdjWrite _ => execLinkAdjWrite_keeps _ _
  | .linkEvcRead _ => execLinkEvcRead_keeps _ _
  | .linkSstartRead _ => execLinkSstartRead_keeps _ _
  | .supervisionExpiry _ _ => execSupervisionExpiry_keeps _ _ _
  | .dwellBucketRoll _ => execDwellBucketRoll_keeps _ _
  | .linkDwstatRead _ => execLinkDwstatRead_keeps _ _
  | .ballastWriteThrough _ _ => execBallastWriteThrough_keeps _ _ _
  | .deliveryWrite _ _ => execDeliveryWrite_keeps _ _ _
  | .rtakeWrite _ _ => execRtakeWrite_keeps _ _ _
  | .linkRputRead _ _ => execLinkRputRead_keeps _ _ _
  | .cipherSubmit _ _ => execCipherSubmit_keeps _ _ _
  | .ccmEnc _ => execCcmEnc_keeps _ _
  | .ccmDec _ => execCcmDec_keeps _ _
  | .gcmEnc _ => execGcmEnc_keeps _ _
  | .gcmDec _ => execGcmDec_keeps _ _
  | .ctr _ => execCtr_keeps _ _
  | .cmacGen _ => execCmacGen_keeps _ _
  | .cmacVer _ => execCmacVer_keeps _ _
  | .sha256 _ => execSha256_keeps _ _
  | .ecdsaVer _ => execEcdsaVer_keeps _ _
  | .unwrap _ => execUnwrap_keeps _ _
  | .wrap _ => execWrap_keeps _ _
  | .rng _ _ => execRng_keeps _ _ _
  | .cipherComplete _ => execCipherComplete_keeps _ _
  | .queueFlush _ => execQueueFlush_keeps _ _
  | .kselWrite _ => execKselWrite_keeps _ _
  | .alarmTrip _ _ => execAlarmTrip_keeps _ _ _
  | .almactClear _ => execAlmactClear_keeps _ _
  | .trngStartupDone _ _ => execTrngStartupDone_keeps _ _ _
  | .trngDataRead _ _ => execTrngDataRead_keeps _ _ _
  | .bankPowerRequest _ _ => execBankPowerRequest_keeps _ _ _
  | .bankTransitionDone _ _ => execBankTransitionDone_keeps _ _ _
  | .bankTestStart _ => execBankTestStart_keeps _ _
  | .bankTestEnd _ _ => execBankTestEnd_keeps _ _ _
  | .memcBcntRead _ => execMemcBcntRead_keeps _ _
  | .flashProg _ _ => execFlashProg_keeps _ _ _
  | .flashErase _ _ => execFlashErase_keeps _ _ _
  | .progComplete _ _ _ => execProgComplete_keeps _ _ _ _
  | .eraseComplete _ _ => execEraseComplete_keeps _ _ _
  | .marginComplete _ _ _ => execMarginComplete_keeps _ _ _ _
  | .eraseSuspended _ => execEraseSuspended_keeps _ _
  | .eraseResume _ => execEraseResume_keeps _ _
  | .flcEcntRead _ => execFlcEcntRead_keeps _ _
  | .flcRrstatRead _ => execFlcRrstatRead_keeps _ _
  | .evlPubsw _ => execEvlPubsw_keeps _ _
  | .linecfgWrite _ _ => execLinecfgWrite_keeps _ _ _
  | .evlLoopRead _ => execEvlLoopRead_keeps _ _
  | .evlCoalRead _ _ => execEvlCoalRead_keeps _ _ _
  | .icolRecordWrite _ _ => execIcolRecordWrite_keeps _ _ _
  | .frompendWrite _ _ => execFrompendWrite_keeps _ _ _
  | .icolTake _ _ => execIcolTake_keeps _ _ _
  | .icolEoi _ => execIcolEoi_keeps _ _
  | .icolSwpost _ _ => execIcolSwpost_keeps _ _ _
  | .icolEnset _ _ _ => execIcolEnset_keeps _ _ _ _
  | .icolEnclr _ _ _ => execIcolEnclr_keeps _ _ _ _
  | .icolPset _ _ _ => execIcolPset_keeps _ _ _ _
  | .icolPclr _ _ _ => execIcolPclr_keeps _ _ _ _
  | .icolNlx5pset _ _ => execIcolNlx5pset_keeps _ _ _
  | .moderationExpiry _ _ => execModerationExpiry_keeps _ _ _
  | .icolOvfcntRead _ _ => execIcolOvfcntRead_keeps _ _ _
  | .pwrEnter _ _ => execPwrEnter_keeps _ _ _
  | .pwrCancel _ => execPwrCancel_keeps _ _
  | .handshakeDelayClear _ => execHandshakeDelayClear_keeps _ _
  | .handshakeTimeout _ => execHandshakeTimeout_keeps _ _
  | .sleepEntryDone _ => execSleepEntryDone_keeps _ _
  | .prewake _ => execPrewake_keeps _ _
  | .wakePinEdge _ _ _ => execWakePinEdge_keeps _ _ _ _
  | .vcoreSettled _ => execVcoreSettled_keeps _ _
  | .hoverCrystalStart _ => execHoverCrystalStart_keeps _ _
  | .hoverSubstateChange _ => execHoverSubstateChange_keeps _ _
  | .pwrHovstatRead _ => execPwrHovstatRead_keeps _ _
  | .pwrHovtimeRead _ => execPwrHovtimeRead_keeps _ _
  | .secondBoundary _ => execSecondBoundary_keeps _ _
  | .rtcSet _ => execRtcSet_keeps _ _
  | .calset _ => execCalset_keeps _ _
  | .hourplus _ => execHourplus_keeps _ _
  | .hourminus _ => execHourminus_keeps _ _
  | .hourcancel _ => execHourcancel_keeps _ _
  | .cal2cnt _ => execCal2cnt_keeps _ _
  | .cnt2cal _ => execCnt2cal_keeps _ _
  | .rtcConversionDone _ => execRtcConversionDone_keeps _ _
  | .rtcSnapshotWrite _ => execRtcSnapshotWrite_keeps _ _
  | .rtcSecRead _ _ => execRtcSecRead_keeps _ _ _
  | .rtcNowdateRead _ => execRtcNowdateRead_keeps _ _
  | .activate _ => execActivate_keeps _ _
  | .activateLive _ => execActivateLive_keeps _ _
  | .updateAbort _ => execUpdateAbort_keeps _ _
  | .updateVerifyDone _ => execUpdateVerifyDone_keeps _ _
  | .quietInstant _ => execQuietInstant_keeps _ _
  | .quiesceSoftExpiry _ => execQuiesceSoftExpiry_keeps _ _
  | .quiesceTimeout _ => execQuiesceTimeout_keeps _ _
  | .pauseEnd _ => execPauseEnd_keeps _ _
  | .hostCsAssert _ => execHostCsAssert_keeps _ _
  | .hostStatus _ => execHostStatus_keeps _ _
  | .hostPut _ => execHostPut_keeps _ _
  | .hostGet _ => execHostGet_keeps _ _
  | .loaderPing _ => execLoaderPing_keeps _ _
  | .loaderInfo _ => execLoaderInfo_keeps _ _
  | .loaderErase _ => execLoaderErase_keeps _ _
  | .loaderProg _ => execLoaderProg_keeps _ _
  | .bootsel _ => execBootsel_keeps _ _
  | .resetcount _ => execResetcount_keeps _ _
  | .reboot _ => execReboot_keeps _ _
  | .uartRxByte _ _ _ _ _ _ => execUartRxByte_keeps _ _ _ _ _ _ _
  | .uartDataWrite _ _ => execUartDataWrite_keeps _ _ _
  | .uartDataRead _ _ => execUartDataRead_keeps _ _ _
  | .uartTxIdle _ _ => execUartTxIdle_keeps _ _ _
  | .spicTransferStart _ _ => execSpicTransferStart_keeps _ _ _
  | .spicTransferEnd _ _ _ => execSpicTransferEnd_keeps _ _ _ _
  | .i2cTransferStart _ _ => execI2cTransferStart_keeps _ _ _
  | .i2cTransferEnd _ _ _ _ _ => execI2cTransferEnd_keeps _ _ _ _ _ _
  | .gpioEdge _ _ _ => execGpioEdge_keeps _ _ _ _
  | .sadcConversionDone _ _ => execSadcConversionDone_keeps _ _ _
  | .sadcResultRead _ => execSadcResultRead_keeps _ _
  | .monitorUpdate _ _ _ _ => execMonitorUpdate_keeps _ _ _ _ _
  | .tmrStart _ => execTmrStart_keeps _ _
  | .tmrStop _ => execTmrStop_keeps _ _
  | .tmrExpiry _ _ => execTmrExpiry_keeps _ _ _
  | .samplePllLock _ => execSamplePllLock_keeps _ _
  | .vioValidChange _ _ => execVioValidChange_keeps _ _ _
  | .debugResumeRequest _ => execDebugResumeRequest_keeps _ _
  | .dmcontrolDmactive _ => execDmcontrolDmactive_keeps _ _
  | .tckCycle _ _ => execTckCycle_keeps _ _ _
  | .powerOnReset => execPowerOnReset_keeps _
  | .nrstLow => execNrstLow_keeps _
  | .brownout => execBrownout_keeps _
  | .backupDomainReset => execBackupDomainReset_keeps _
  | .debugNdmreset => execDebugNdmreset_keeps _
  | .replayMirrorLoadDone => execReplayMirrorLoadDone_keeps _
  | .epochNow => execEpochNow_keeps _
  | .epochAt => execEpochAt_keeps _
  | .epochCancel => execEpochCancel_keeps _
  | .digestRecomputeDone => execDigestRecomputeDone_keeps _
  | .recalAll => execRecalAll_keeps _
  | .recalStale => execRecalStale_keeps _
  | .stopCal => execStopCal_keeps _
  | .engine16Run => execEngine16Run_keeps _
  | .engine16Stop => execEngine16Stop_keeps _
  | .loadAbort => execLoadAbort_keeps _
  | .tbaseRefOn => execTbaseRefOn_keeps _
  | .tbaseRefOff => execTbaseRefOff_keeps _
  | .tbaseAutoOn => execTbaseAutoOn_keeps _
  | .setevc => execSetevc_keeps _
  | .cancelset => execCancelset_keeps _
  | .keyCommit => execKeyCommit_keeps _
  | .keyErase => execKeyErase_keeps _
  | .eraseall => execEraseall_keeps _
  | .almclr => execAlmclr_keeps _
  | .deviceKeyLoadDone => execDeviceKeyLoadDone_keeps _
  | .trngHealthFail => execTrngHealthFail_keeps _
  | .margin0 => execMargin0_keeps _
  | .margin1 => execMargin1_keeps _
  | .flashBsel => execFlashBsel_keeps _
  | .padRelease => execPadRelease_keeps _
  | .memrd => execMemrd_keeps _
  | .memwr => execMemwr_keeps _
  | .rxdone => execRxdone_keeps _
  | .hostTxgo => execHostTxgo_keeps _
  | .txcancel => execTxcancel_keeps _
  | .sadcStart => execSadcStart_keeps _

/-- A step that answers a next state keeps a legal mode: it takes a command off the queue and runs it. -/
theorem step_legalMode {s t : State} (hs : s.legalMode) (h : step s = .next t) : t.legalMode := by
  unfold step at h
  split at h
  · cases h
    exact hs
  · rename_i c rest _
    exact (exec_keeps c { s with pending := rest } t h).legal ⟨hs.mode, hs.prev, hs.forced, hs.cmd, hs.hs⟩

/-- A read of `SYS_MODE` shows the two modes, PREV above MODE (R334). -/
theorem peek_SYS_MODE (s : State) : s.peek Reg.SYS_MODE = numAt s.pwr.prev 8 ||| numAt s.pwr.mode 0 := rfl

/-- MODE is the low field of `SYS_MODE`: four bits that PREV, eight bits above, does not touch. -/
theorem fget_SYS_MODE_MODE (p m : Nat) (hm : m < 16) : fget (numAt p 8 ||| numAt m 0) Reg.SYS_MODE_MODE = m := by
  have h : (numAt p 8 ||| numAt m 0).toNat % 2 ^ 4 = m := by
    rw [BitVec.toNat_or, Nat.or_mod_two_pow]
    simp only [numAt, BitVec.toNat_shiftLeft, BitVec.toNat_ofNat, Nat.shiftLeft_eq]
    rw [show p % 2 ^ 32 * 2 ^ 8 % 2 ^ 32 % 2 ^ 4 = 0 by omega, Nat.zero_or]
    omega
  simpa [fget] using h

/-- Settles O6: `exec_keeps` is the invariant's step, and `SYS_MODE` reads the mode that the invariant bounds. -/
theorem everyStepKeepsTheModeLegal : Obligations.EveryStepKeepsTheModeLegal := by
  unfold Obligations.EveryStepKeepsTheModeLegal
  intro s hs
  have hm := hs.mode
  refine ⟨⟨?_, by omega⟩, fun t h => step_legalMode hs h⟩
  rw [peek_SYS_MODE, fget_SYS_MODE_MODE _ _ (by omega)]

/-- The state after reset lists nothing in any sparse map. -/
theorem State.reset_canonical : State.reset.canonical := by
  constructor <;> exact Swf_nil _

/-- The state after reset has nothing due. -/
theorem State.reset_quiet : State.reset.Quiet :=
  ⟨rfl, by decide +kernel, rfl, .inl rfl, rfl, rfl, rfl, rfl, rfl, rfl⟩

/-- Settles O4: every map of `State.reset` is empty, and its power controller runs core 0 (mode 5) with nothing asked for. -/
theorem resetIsCanonicalAndLegal : Obligations.ResetIsCanonicalAndLegal := by
  unfold Obligations.ResetIsCanonicalAndLegal
  exact ⟨State.reset_canonical, ⟨by decide, by decide, by decide, by decide, by decide⟩, rfl, rfl, rfl, State.reset_quiet⟩

end Sys2Proof.Machine
end

section
/-! SUPPORT. The cores: restarts of one core (R39), caches and CSRs (R15 to R23). -/

namespace Sys2Proof.Machine

/-! ### Core-scope resets -/

/-- A command whose effect is `v` but for the note that automatic sleep attempts are blocked, which settling may change anyway. -/
theorem does_done_blocked {c : Instr} {s v w : State} (h : exec c s = done w)
    (e : w = { v with pwr := { v.pwr with autoBlocked := w.pwr.autoBlocked } }) : Does c s v :=
  ⟨_, h, w.settle_settles.mono e⟩

/-- Where nothing holds the cores, a core-scope reset starts its core at its vector. -/
theorem State.coreReset_starts {s : State} {c : CoreId} (hb : s.start.busy = false) (ha : s.awake = true) (hq : s.quiesced 2 = false)
    (hr : c = .c1 → s.flag Reg.SYS_C1CTL_RUN = true) : s.coreReset c = s.coreStart c (s.coreVec c) := by
  unfold State.coreReset
  refine if_neg ?_
  simpa [hb, ha, hq] using hr

/-- Core 1 is not restarted while `SYS_C1CTL.RUN` is 0. -/
theorem State.coreReset_c1_stopped {s : State} (hr : s.flag Reg.SYS_C1CTL_RUN = false) : s.coreReset .c1 = s := by
  unfold State.coreReset
  exact if_pos (by simp [hr])

theorem State.swrst_key (s : State) {key : BitVec 16} (h : key = 0x5AFE) :
    s.swrst key 1 = s.coreReset .c0 ∧ s.swrst key 2 = s.coreReset .c1 := by
  subst h
  exact ⟨rfl, rfl⟩

theorem State.swrst_wrong_key (s : State) {key : BitVec 16} (h : key ≠ 0x5AFE) (scope : Nat) : s.swrst key scope = s := by
  unfold State.swrst
  exact if_pos (by simpa using h)

/-- Settles O10: a reset that nothing holds back is `coreStart`, any other leaves the state. -/
theorem coreResetsRestartOneCore : Obligations.CoreResetsRestartOneCore := by
  unfold Obligations.CoreResetsRestartOneCore
  refine ⟨fun s key hk hb ha hq => ⟨?_, fun hr => ?_⟩, fun s key hr => ?_, fun s key hk => ⟨?_, ?_⟩⟩
  · refine does_done_blocked (w := s.coreStart .c0 (s.coreVec .c0)) (congrArg done ?_) rfl
    rw [(s.swrst_key hk).1, State.coreReset_starts hb ha hq (by simp)]
  · refine does_done_blocked (w := s.coreStart .c1 (s.coreVec .c1)) (congrArg done ?_) rfl
    rw [(s.swrst_key hk).2, State.coreReset_starts hb ha hq fun _ => hr]
  · refine does_done (congrArg done ?_)
    by_cases hk : key = 0x5AFE
    · rw [(s.swrst_key hk).2, State.coreReset_c1_stopped hr]
    · exact s.swrst_wrong_key hk 2
  · exact does_done (congrArg done (s.swrst_wrong_key hk 1))
  · exact does_done (congrArg done (s.swrst_wrong_key hk 2))

/-! ### Caches, CSRs and exceptions -/

/-- A change of one core leaves the state quiet. -/
theorem State.setCore_quiet {s : State} (q : s.Quiet) (c : CoreId) (x : Core) : (s.setCore c x).Quiet := by
  cases c <;> exact q.of rfl rfl rfl rfl rfl rfl rfl

/-- The custom numbers that Table 1-4 does not list, as the model tells them. -/
theorem customCsr_unlisted_iff (n : BitVec 12) : (customCsr n.toNat && !listedCsr n.toNat) = true ↔
    ((0x800 ≤ n.toNat ∧ n.toNat < 0x900) ∨ (0x500 ≤ n.toNat ∧ n.toNat / 64 % 4 = 3)) ∧ ¬(n = 0x7C0 ∨ n = 0xFC0 ∨ n = 0xFC1) := by
  simp [customCsr, listedCsr, BitVec.toNat_eq, and_assoc]

/-- An exception of a core that runs, in a command that ends with `done`. -/
theorem traps_done {i : Instr} {s v w : State} {c : CoreId} {cause : Nat} {tval : Word} (ha : (w.core c).active = true)
    (hw : w = { v with free := w.free }) (hx : exec i s = done (w.trap c cause tval)) : Traps i s v c cause tval := by
  obtain ⟨h, ht, htr⟩ := w.trap_active c cause tval ha
  refine ⟨h, w.free + 64, does_done (hx.trans (congrArg done (ht.trans ?_))), htr⟩
  rw [hw]

/-- The same in a command that may set more off, in a state where nothing is due. -/
theorem traps_doneW {i : Instr} {s v : State} {c : CoreId} {cause : Nat} {tval : Word} (q : v.Quiet) (ha : (v.core c).active = true)
    (hx : exec i s = doneW (v.trap c cause tval)) : Traps i s v c cause tval := by
  obtain ⟨h, ht, htr⟩ := v.trap_active c cause tval ha
  refine ⟨h, v.free + 64, does_doneW (hx.trans (congrArg doneW ht)) ?_, htr⟩
  exact State.setCore_quiet (s := { v with free := v.free + 64 }) (q.of rfl rfl rfl rfl rfl rfl rfl) c _

/-- What an illegal instruction answers before the exception: the core is told, and a free value is used. -/
theorem State.illegal_told (s : State) (c : CoreId) : s.fresh.setCore c { s.core c with resp := .illegal } =
    { s.setCore c { s.core c with resp := .illegal } with free := s.free + 1 } := by
  cases c <;> rfl

/-- Settles O14: each command is the change of one core, and an illegal CSR number raises `State.illegal`. -/
theorem coreCachesAndCsrs : Obligations.CoreCachesAndCsrs := by
  unfold Obligations.CoreCachesAndCsrs
  intro s c
  refine ⟨does_done rfl, fun d => ⟨does_done rfl, does_done rfl⟩, fun n => ?_, fun t q => ?_⟩
  · have hx : ∀ b, (customCsr n.toNat && !listedCsr n.toNat) = b → exec (.illegalCsr c n) s = done (if b then s.illegal c else s) :=
      fun b hb => by subst hb; rfl
    have hi : ∀ a, ((s.fresh.setCore c { s.core c with resp := .illegal }).core c).active = a → (s.core c).active = a := fun a h => by
      rw [← h, State.setCore_self]
      rfl
    refine ⟨fun hc hl ha => ⟨Config.freeWord s.free, ?_⟩, fun hc hl ha => ⟨s.free + 1, does_done ?_⟩, fun h => does_done ?_⟩
    · refine traps_done (w := s.fresh.setCore c { s.core c with resp := .illegal }) ?_ ?_
        (hx true ((customCsr_unlisted_iff n).2 ⟨hc, hl⟩))
      · rw [← ha, State.setCore_self]
        rfl
      · exact (s.illegal_told c).trans (by cases c <;> rfl)
    · rw [hx true ((customCsr_unlisted_iff n).2 ⟨hc, hl⟩)]
      refine congrArg done ((State.trap_idle _ c 2 _ ?_).trans (s.illegal_told c))
      rw [← ha, State.setCore_self]
      rfl
    · refine hx false (Bool.eq_false_iff.2 fun hb => ?_)
      obtain ⟨hc, hl⟩ := (customCsr_unlisted_iff n).1 hb
      exact h.elim (fun hn => hn hc) hl
  · exact does_doneW rfl (State.setCore_quiet q c _)

end Sys2Proof.Machine
end

section
/-! SUPPORT. Accesses that the address map or a core's protection does not allow (R15, R24, R32, R33), and stores to step memory (R35). -/

namespace Sys2Proof.Machine

/-! ### Accesses that are not made -/

/-- What Table 1-6, the debug module and the PMP regions do not let through. -/
def State.disallowed (v : State) (ag : Agent) (k : AccKind) (w : Width) (a : Nat) : Prop :=
  let r := region a
  let small := r = .step ∨ r = .periph ∨ r = .window0 ∨ r = .window1
  r = .hole ∨ (k ≠ .fetch ∧ a % widthBytes w ≠ 0) ∨ (k = .fetch ∧ (r = .radio ∨ r = .ballast ∨ small)) ∨
    (k = .store ∧ (r = .rom ∨ r = .flash ∨ r = .window)) ∨ (w ≠ .w32 ∧ small) ∨ (ag = .debug ∧ w ≠ .w32) ∨
    v.agentPmp ag k a (widthBytes w) = false

/-- Table 1-6 lets no access through in a hole, off its alignment, of the wrong kind or too narrow. -/
theorem accessOk_eq_false {k : AccKind} {w : Width} {a : Nat}
    (h : region a = .hole ∨ (k ≠ .fetch ∧ a % widthBytes w ≠ 0) ∨
      (k = .fetch ∧ (region a = .radio ∨ region a = .ballast ∨ region a = .step ∨ region a = .periph ∨ region a = .window0 ∨
        region a = .window1)) ∨
      (k = .store ∧ (region a = .rom ∨ region a = .flash ∨ region a = .window)) ∨
      (w ≠ .w32 ∧ (region a = .step ∨ region a = .periph ∨ region a = .window0 ∨ region a = .window1))) :
    accessOk k w a = false := by
  rcases h with hr | ⟨hk, ha⟩ | ⟨rfl, hr⟩ | ⟨rfl, hr⟩ | ⟨hw, hr⟩
  · cases k <;> simp [accessOk, hr]
  · cases k
    · simp [accessOk, ha]
    · simp [accessOk, ha]
    · exact absurd rfl hk
  · rcases hr with hr | hr | hr | hr | hr | hr <;> simp [accessOk, hr]
  · rcases hr with hr | hr | hr <;> simp [accessOk, hr]
  · rcases hr with hr | hr | hr | hr <;> cases k <;> simp [accessOk, hr, hw]

/-- An access that is not allowed, and meets no trigger, is refused. -/
theorem State.access_disallowed {v : State} {ag : Agent} {k : AccKind} {w : Width} {addr : Word} (data : Word) (e : Ecc)
    (ht : v.agentTrig ag k addr.toNat = none) (h : v.disallowed ag k w addr.toNat) :
    v.access ag k w addr data e = v.refuse ag k addr.toNat := by
  have hm : (!agentMakes ag k w || !accessOk k w addr.toNat || !v.agentPmp ag k addr.toNat (widthBytes w)) = true := by
    rcases h with h | h | h | h | h | ⟨rfl, hw⟩ | h
    · simp [accessOk_eq_false (.inl h)]
    · simp [accessOk_eq_false (.inr (.inl h))]
    · simp [accessOk_eq_false (.inr (.inr (.inl h)))]
    · simp [accessOk_eq_false (.inr (.inr (.inr (.inl h))))]
    · simp [accessOk_eq_false (.inr (.inr (.inr (.inr h))))]
    · simp [agentMakes, hw]
    · simp [h]
  unfold State.access
  rw [ht]
  exact if_pos hm

/-- A command that is such an access ends in an answer of failure, and for a core that runs in an access fault. -/
theorem refused_command {i : Instr} {s v : State} {ag : Agent} {k : AccKind} {addr : Word} (hx : exec i s = doneW (v.refuse ag k addr.toNat))
    (q : v.Quiet) : match agentCore ag with
      | none => Does i s (v.respond ag (failOf ag k))
      | some c => ((v.core c).active = false → Does i s (v.respond ag (failOf ag k))) ∧
          ((v.core c).active = true → Traps i s (v.respond ag (failOf ag k)) c (faultCause k) addr) := by
  have hq := State.respond_quiet q ag (failOf ag k)
  split
  · rename_i hc
    rw [State.refuse_other _ _ _ _ hc] at hx
    exact does_doneW hx hq
  · rename_i c hc
    rw [State.refuse_core _ _ _ _ _ hc] at hx
    refine ⟨fun hi => does_doneW (hx.trans (congrArg doneW ?_)) hq, fun hr => traps_doneW hq ((State.respond_active _ _ _ _).trans hr) hx⟩
    exact State.trap_idle _ _ _ _ ((State.respond_active _ _ _ _).trans hi)

/-- Settles O16: every such access ends in `State.refuse`, an answer and for a core that runs an access fault. -/
theorem disallowedAccessesFault : Obligations.DisallowedAccessesFault := by
  unfold Obligations.DisallowedAccessesFault
  intro s ag k w addr data ecc t
  have hx : exec (.memoryAccess ag k w addr data ecc t) s = doneW ((s.at_ t).access ag k w addr data ecc) := rfl
  generalize s.at_ t = v at hx ⊢
  intro v r small answer q ht h
  rw [State.access_disallowed data ecc ht h] at hx
  have hr := refused_command hx q
  cases ag <;> cases k <;> exact hr

/-! ### Step memory -/

theorem region_step {a : Nat} (h : 0x30000000 ≤ a) (h' : a < 0x30022000) : region a = .step := by
  unfold region
  iterate 6 rw [if_neg (by omega)]
  exact if_pos ⟨h, h'⟩

/-- Setting a one-bit field to 1 sets its bit. -/
theorem fset_bit_one (w : Word) (a i : Nat) (h : i < 32) : fset w ⟨a, i, 1⟩ 1 = w ||| (1 : Word) <<< i := by
  refine BitVec.eq_of_getLsbD_eq fun j hj => ?_
  rw [fset_getLsbD w ⟨a, i, 1⟩ 1 j (by simpa using h), BitVec.getLsbD_or, show (1 : Word) <<< i = BitVec.twoPow 32 i from rfl, BitVec.getLsbD_twoPow]
  by_cases hij : i = j
  · subst hij
    simp [h]
  · rw [if_neg (by dsimp only; omega)]
    simp [hij]

/-- A word store that is let through to step memory. -/
theorem State.access_step {v : State} {ag : Agent} {addr : Word} (data : Word) (h : region addr.toNat = .step)
    (h4 : addr.toNat % 4 = 0) (ht : v.agentTrig ag .store addr.toNat = none) (hp : v.agentPmp ag .store addr.toNat 4 = true) :
    v.access ag .store .w32 addr data .clean = v.stepStore ag addr.toNat data := by
  have ho : accessOk .store .w32 addr.toNat = true := by simp [accessOk, h, h4, widthBytes]
  rw [State.access_store (w := .w32) data .clean ht hp (agentMakes_of (fun _ => rfl) nofun) ho]
  unfold State.storeAt
  dsimp only
  rw [h]

/-- The step memory of an engine that is stopped and under no load takes the word. -/
theorem State.stepStore_taken {v : State} (ag : Agent) {a : Nat} (data : Word)
    (hr : (v.eng (stepEng a)).run = false) (hl : v.loading (stepEng a) = false) :
    v.stepStore ag a data = (v.setWord a data).respond ag .done := by
  unfold State.stepStore
  dsimp only
  rw [if_neg (by simp [hr, hl])]

/-- That of an engine that runs or is under a load takes none, and says so in `REEL_WIGN`. -/
theorem State.stepStore_ignored {v : State} (ag : Agent) {a : Nat} (data : Word)
    (h : (v.eng (stepEng a)).run = true ∨ v.loading (stepEng a) = true) :
    v.stepStore ag a data = (v.put ⟨Reg.REEL_WIGN, stepEng a, 1⟩ 1).respond ag .done := by
  unfold State.stepStore
  dsimp only
  rw [if_pos (by rcases h with h | h <;> simp [h])]

/-- A command that is a word store to step memory (R35, R190). -/
theorem stepStore_command {i : Instr} {s v : State} {ag : Agent} {a : Nat} {data : Word} (hx : exec i s = doneW (v.stepStore ag a data))
    (he : stepEng a < 32) (hc : v.canonical) (q : v.Quiet) :
    ((v.eng (stepEng a)).run = false → v.loading (stepEng a) = false →
      ∃ u, exec i s = .next u ∧ u.word a = data ∧ (∀ x, x < a ∨ a + 4 ≤ x → u.byte x = v.byte x) ∧ u.regs = v.regs ∧
        u.heard ag = .done) ∧
    ((v.eng (stepEng a)).run = true ∨ v.loading (stepEng a) = true →
      ∃ u, exec i s = .next u ∧ v.sameBytes u ∧ v.regsBut u [Reg.REEL_WIGN] ∧
        u.reg Reg.REEL_WIGN = v.reg Reg.REEL_WIGN ||| (1 : Word) <<< stepEng a ∧ u.heard ag = .done) := by
  refine ⟨fun hr hl => ?_, fun h => ?_⟩
  · rw [State.stepStore_taken ag data hr hl] at hx
    have hq : (v.setWord a data).Quiet :=
      q.of (State.setWord_waits _ _ _) (State.setWord_pend _ _ _) (State.setWord_cfg _ _ _) (congrArg Env.st (State.setWord_env _ _ _))
        (State.setWord_flag _ _ _ _) (State.setWord_pwr _ _ _) (State.setWord_start _ _ _)
    obtain ⟨u, hu, hs⟩ := doneW_settles (State.respond_quiet hq ag .done)
    refine ⟨u, hx.trans hu, ?_, fun x hb => ?_, ?_, ?_⟩
    · rw [hs.word, State.respond_word, State.setWord_word _ hc.mem]
    · rw [hs.byte, State.respond_byte, State.setWord_byte_out _ _ _ hb]
    · rw [hs.regs, State.respond_regs, State.setWord_regs]
    · rw [hs.heard, State.respond_heard]
  · rw [State.stepStore_ignored ag data h] at hx
    have hq : (v.put ⟨Reg.REEL_WIGN, stepEng a, 1⟩ 1).Quiet := State.setReg_quiet (a := Reg.REEL_WIGN) q _ (by decide) (by decide)
    obtain ⟨u, hu, hs⟩ := doneW_settles (State.respond_quiet hq ag .done)
    refine ⟨u, hx.trans hu, fun x => ?_, fun x hb => ?_, ?_, ?_⟩
    · rw [hs.byte, State.respond_byte]
      rfl
    · rw [hs.reg, State.respond_reg]
      exact State.put_reg_ne _ _ _ (by simpa using hb)
    · rw [hs.reg, State.respond_reg]
      exact (State.setReg_reg_self _ hc.regs _ _).trans (fset_bit_one _ _ _ he)
    · rw [hs.heard, State.respond_heard]

/-- Settles O18: both commands are `State.stepStore` at the state of their time. -/
theorem stepMemoryStoresNeedAStoppedEngine : Obligations.StepMemoryStoresNeedAStoppedEngine := by
  unfold Obligations.StepMemoryStoresNeedAStoppedEngine
  intro s ag addr data t a e store h1 h2 h4
  have hr : region addr.toNat = .step := region_step h1 h2
  have he : stepEng addr.toNat < 32 := by
    unfold stepEng
    omega
  have hs : exec (.stepMemoryStore ag addr data) s = doneW (s.access ag .store .w32 addr data .clean) := congrArg doneW (if_pos hr)
  have hm : exec (.memoryAccess ag .store .w32 addr data .clean t) s = doneW ((s.at_ t).access ag .store .w32 addr data .clean) := rfl
  refine ⟨fun hc q ht hp => ?_, fun hc q ht hp => ?_⟩
  · rw [State.access_step data hr h4 ht hp] at hs
    exact stepStore_command hs he hc q
  · rw [State.access_step data hr h4 ht hp] at hm
    exact stepStore_command hm he hc q

end Sys2Proof.Machine
end

section
/-! SUPPORT. Debug requests (R24, R25) and WFI (R22, R329, R335). -/

namespace Sys2Proof.Machine

/-! ### Which cores settling resumes -/

theorem Settles.eligible {v u : State} (h : Settles v u) (c : CoreId) : u.eligible c = v.eligible c := by
  have hr : (u.icol c).recs = (v.icol c).recs ∧ (u.icol c).run = (v.icol c).run := by
    cases c
    · exact ⟨h.icol0_recs, h.icol0_run⟩
    · exact ⟨h.icol1_recs, h.icol1_run⟩
  unfold State.eligible
  simp only [h.flag, h.get, hr]

theorem Settles.core_halted {v u : State} (h : Settles v u) (c : CoreId) : (u.core c).halted = (v.core c).halted := by
  cases c
  · exact h.core0_halted
  · exact h.core1_halted

/-- A core that does not wait in WFI stays as it runs. -/
theorem Settles.core_run {v u : State} (h : Settles v u) (c : CoreId) (hr : (v.core c).run ≠ .wfi) : (u.core c).run = (v.core c).run := by
  cases c
  · exact h.run0 hr
  · exact h.run1 hr

/-- Settling makes no core quiescent. -/
theorem Settles.not_quiescent {v u : State} (h : Settles v u) {c : CoreId} (hq : (v.core c).quiescent = false) :
    (u.core c).quiescent = false := by
  unfold Core.quiescent at hq ⊢
  rw [h.core_halted]
  by_cases hw : (v.core c).run = .wfi
  · simp only [hw, decide_true, Bool.true_or, Bool.and_true] at hq
    rw [hq]
    rfl
  · rw [h.core_run c hw]
    exact hq

/-- Settling ends with the two cores in WFI and the mode; what comes before leaves the cores. -/
theorem State.settle_split (s : State) : ∃ m, Settles s m ∧ (∀ c, m.core c = s.core c) ∧ s.settle = ((m.wfiStep .c0).wfiStep .c1).modeStep := by
  have hw : ∀ (t : State) (e c : Nat) (d : CoreId), (t.wakeCtx e c).core d = t.core d := fun t e c d => by
    unfold State.wakeCtx
    dsimp only
    split
    · split <;> cases d <;> rfl
    · rfl
  have he : ∀ (t : State) (e : Nat) (d : CoreId), (t.wakeEng e).core d = t.core d := fun t e d => by
    unfold State.wakeEng
    split
    · exact forN_same (fun t : State => t.core d) (fun t c => hw t e c d) _ t
    · rfl
  have hm : ∀ (t : State) (c d : CoreId), (t.modStep c).core d = t.core d := fun t c d => by cases c <;> cases d <;> rfl
  refine ⟨_, ((settles_foldl (fun s e => s.wakeEng_settles e) (s.engs.map Prod.fst) s).trans (State.modStep_settles _ .c0)).trans
    (State.modStep_settles _ .c1), fun d => ?_, rfl⟩
  rw [hm, hm]
  exact foldl_same (fun t : State => t.core d) (fun t e => he t e d) _ s

theorem State.modeStep_core (s : State) (c : CoreId) : s.modeStep.core c = s.core c := by
  unfold State.modeStep
  dsimp only
  split <;> cases c <;> rfl

/-- MEIP is not asserted without an eligible record. -/
theorem State.wfiStep_idle {s : State} {c : CoreId} (h : s.eligible c = []) : s.wfiStep c = s := by
  unfold State.wfiStep State.meip
  simp [h]

theorem State.wfiStep_core_other (s : State) {c d : CoreId} (h : c ≠ d) : (s.wfiStep d).core c = s.core c := by
  have hr : (s.resumeCore d).core c = s.core c := by
    unfold State.resumeCore
    dsimp only
    split
    · cases c <;> cases d
      · exact absurd rfl h
      · rfl
      · rfl
      · exact absurd rfl h
    · rfl
  unfold State.wfiStep
  split
  · exact hr
  · rfl

/-- With an eligible record and moderation off, a core that waits in WFI goes on (R335). -/
theorem State.wfiStep_resumes {s : State} {c : CoreId} (ha : s.awake = true) (hh : s.pwr.hs = none) (he : s.eligible c ≠ [])
    (hn : s.get (Reg.ICOL_MOD_N (coreNum c)) = 0) (hw : (s.core c).run = .wfi) (hd : (s.core c).halted = false) :
    ((s.wfiStep c).core c).run = .running := by
  have hm : s.meip c = true := by
    unfold State.meip
    simp [he, hn]
  unfold State.wfiStep State.resumeCore
  rw [if_pos (by simp [ha, hh, hm])]
  dsimp only
  rw [if_pos (by simp [hw, hd])]
  cases c <;> rfl

/-- Without an eligible record settling leaves a core as it runs or waits. -/
theorem State.settle_run_idle {s : State} {c : CoreId} (h : s.eligible c = []) : (s.settle.core c).run = (s.core c).run := by
  obtain ⟨m, hm, hc, hs⟩ := s.settle_split
  have h0 : m.eligible c = [] := (hm.eligible c).trans h
  rw [hs, State.modeStep_core]
  cases c
  · rw [State.wfiStep_core_other _ (by decide), State.wfiStep_idle h0, hc]
  · rw [State.wfiStep_idle (((m.wfiStep_settles .c0).eligible .c1).trans h0), State.wfiStep_core_other _ (by decide), hc]

/-- With an eligible record, moderation off and the device awake, settling resumes a core that waits in WFI. -/
theorem State.settle_run_wakes {s : State} {c : CoreId} (q : s.Quiet) (he : s.eligible c ≠ [])
    (hn : s.get (Reg.ICOL_MOD_N (coreNum c)) = 0) (hw : (s.core c).run = .wfi) (hd : (s.core c).halted = false) :
    (s.settle.core c).run = .running := by
  obtain ⟨m, hm, hc, hs⟩ := s.settle_split
  have key : ∀ t : State, Settles s t → t.core c = s.core c → ((t.wfiStep c).core c).run = .running := fun t ht htc => by
    have qt := ht.quiet q
    refine State.wfiStep_resumes ?_ qt.entry (by rwa [ht.eligible]) ((ht.get _).trans hn) (htc ▸ hw) (htc ▸ hd)
    unfold State.awake
    rw [qt.awake]
  rw [hs, State.modeStep_core]
  cases c
  · rw [State.wfiStep_core_other _ (by decide)]
    exact key m hm (hc _)
  · exact key (m.wfiStep .c0) (hm.trans (m.wfiStep_settles _)) ((State.wfiStep_core_other _ (by decide)).trans (hc _))

/-- Where nothing is due the longest ending settles twice. -/
theorem doneW_quiet {s : State} (q : s.Quiet) : doneW s = .next s.settle.settle := by
  have q1 := s.settle_settles.quiet q
  unfold doneW done
  rw [q.boundaries, q1.hoverStep, q1.fioStep, q1.wakeStep, q1.ripStep]

/-! ### WFI -/

/-- The device tries no sleep while a core is not quiescent. -/
theorem State.sleepTry_busy {s : State} {c : CoreId} (h : (s.core c).quiescent = false) : s.sleepTry = s := by
  have hq : s.quiet = false := by
    unfold State.quiet
    cases c
    · rw [show s.core0.quiescent = false from h]
      rfl
    · rw [show s.core1.quiescent = false from h, Bool.and_false]
  unfold State.sleepTry
  rw [hq]
  rfl

/-- Nor does it where no sleep is asked for and automatic entries are off. -/
theorem State.sleepTry_unasked {s : State} (hc : s.pwr.cmd = none) (he : s.flag Reg.PWR_SLEEPCFG_EN = false) : s.sleepTry = s := by
  unfold State.sleepTry
  rw [hc, he]
  simp

/-- The other core. -/
def otherCore : CoreId → CoreId
  | .c0 => .c1
  | .c1 => .c0

theorem State.setCore_other (s : State) (c : CoreId) (x : Core) : (s.setCore c x).core (otherCore c) = s.core (otherCore c) := by cases c <;> rfl

section
variable {v : State} {c : CoreId}

/-- The core waits in WFI. -/
def State.inWfi (v : State) (c : CoreId) : State := v.setCore c { v.core c with run := .wfi }

theorem State.inWfi_core (v : State) (c : CoreId) : (v.inWfi c).core c = { v.core c with run := .wfi } := v.setCore_self c _

theorem State.inWfi_quiet (q : v.Quiet) : (v.inWfi c).Quiet := State.setCore_quiet q c _

theorem State.inWfi_eligible (d : CoreId) : (v.inWfi c).eligible d = v.eligible d := by cases c <;> rfl

/-- WFI of a core that runs, where it leads to no try of a sleep mode. -/
theorem State.wfi_command {s : State} {t : Nat} (hv : v = s.at_ t) (q : v.Quiet) (hr : (v.core c).run = .running)
    (hh : (v.core c).halted = false) (hs : (v.inWfi c).settle.sleepTry = (v.inWfi c).settle) :
    exec (.wfi c t) s = .next (v.inWfi c).settle.settle.settle := by
  subst hv
  refine Eq.trans (congrArg doneW ?_) (doneW_quiet ((State.settle_settles _).quiet (State.inWfi_quiet q)))
  unfold State.wfiExec
  dsimp only
  rw [if_pos (by simp [hr, hh])]
  exact hs

theorem State.inWfi_regs_mem (u : State) (h : Settles (v.inWfi c) u) : u.regs = v.regs ∧ u.mem = v.mem :=
  ⟨h.regs.trans (by cases c <;> rfl), h.mem.trans (by cases c <;> rfl)⟩

end

/-! ### Debug requests -/

/-- A halt request to a core that is neither held nor halted: it halts, and one that waited in WFI no longer does (R25). -/
theorem State.debugHalt_halts {s : State} {c : CoreId} (q : s.Quiet) (hr : (s.core c).run ≠ .held) (hh : (s.core c).halted = false) :
    (s.debugHalt c).Quiet ∧ ((s.debugHalt c).core c).halted = true ∧ ((s.debugHalt c).core c).run = .running ∧
      (s.debugHalt c).regs = s.regs ∧ (s.debugHalt c).mem = s.mem := by
  have hd : s.debugHalt c = (s.resumeCore c).coreHalt c 3 := by
    unfold State.debugHalt State.hsDebug
    rw [if_neg (by simp [hr, hh]), q.entry]
  have hs := s.resumeCore_settles c
  have hrun : ((s.resumeCore c).core c).run = .running := by
    unfold State.resumeCore
    dsimp only
    cases hw : (s.core c).run with
    | held => exact absurd hw hr
    | running => rw [if_neg (by simp), hw]
    | wfi =>
      rw [if_pos (by simp [hh])]
      cases c <;> rfl
  rw [hd]
  unfold State.coreHalt
  refine ⟨State.setCore_quiet (s := { s.resumeCore c with free := (s.resumeCore c).free + 64 })
    ((hs.quiet q).of rfl rfl rfl rfl rfl rfl rfl) c _, ?_, ?_, ?_, ?_⟩
  · rw [State.setCore_self]
  · rw [State.setCore_self]
    exact hrun
  · cases c <;> exact hs.regs
  · cases c <;> exact hs.mem

/-- A resume request to a halted core that is not single-stepped (R24). -/
theorem State.debugResume_resumes {s : State} {c : CoreId} (hh : (s.core c).halted = true) (hw : (s.core c).wait = none)
    (hs : bitOf (s.core c).hart.dcsr 2 = false) (hd : s.start.dump = none) :
    s.debugResume c = ({ s with dbg := { s.dbg with resumed := s.dbg.resumed.set (coreNum c) true } } : State).setCore c
      { s.core c with halted := false, hart := (s.core c).hart.leaveDebug } := by
  have hdump : ∀ t : State, t.start.dump = none → t.dumpStep = t := fun t ht => by
    unfold State.dumpStep State.dumpSteps
    rw [ht]
  unfold State.debugResume
  dsimp only
  rw [if_pos (by simp [Core.stopped, Core.stepping, hh, hw]), hs]
  exact hdump _ (by cases c <;> exact hd)

theorem State.debugResume_running {s : State} {c : CoreId} (hh : (s.core c).halted = false) : s.debugResume c = s := by
  unfold State.debugResume
  dsimp only
  exact if_neg (by simp [Core.stopped, hh])

theorem State.Quiet.isAwake {s : State} (q : s.Quiet) : s.awake = true := by
  unfold State.awake
  rw [q.awake]

/-- What the debug module serves while it is active in a device that is awake. -/
theorem State.dmOn_eq {s : State} (q : s.Quiet) : s.dmOn = s.dbg.dmactive := by
  unfold State.dmOn
  rw [q.isAwake, Bool.and_true]

theorem debug_served {s : State} {c : CoreId} (h : s.dmOn = true) :
    exec (.debugHaltRequest c) s = doneW (s.debugHalt c) ∧ exec (.debugResumeRequest c) s = doneW (s.debugResume c) :=
  ⟨congrArg doneW (if_pos h), congrArg doneW (if_pos h)⟩

theorem debug_ignored {s : State} {c : CoreId} (h : s.dmOn = false) :
    exec (.debugHaltRequest c) s = doneW s ∧ exec (.debugResumeRequest c) s = doneW s :=
  ⟨congrArg doneW (if_neg (Bool.eq_false_iff.1 h)), congrArg doneW (if_neg (Bool.eq_false_iff.1 h))⟩

/-- Settles O15: the debug requests are `debugHalt` and `debugResume`, and WFI is `inWfi`, settled. -/
theorem debugAndWfi : Obligations.DebugAndWfi := by
  unfold Obligations.DebugAndWfi
  refine ⟨fun s c q hd => ?_, fun s c q hd => ?_, fun s on q => ?_, fun s c t q => ?_⟩
  · obtain ⟨hhalt, hres⟩ := debug_served (c := c) ((State.dmOn_eq q).trans hd)
    refine ⟨fun hr hh => ?_, fun h => does_doneW (hhalt.trans (congrArg doneW ?_)) q, fun hh hw hst hdump => ?_,
      fun hh => does_doneW (hres.trans (congrArg doneW (State.debugResume_running hh))) q⟩
    · obtain ⟨hq, hhalted, hrun, hregs, hmem⟩ := State.debugHalt_halts q hr hh
      obtain ⟨u, hu, hs⟩ := doneW_settles hq
      refine ⟨u, hhalt.trans hu, (hs.core_halted c).trans hhalted, (hs.core_run c (by rw [hrun]; nofun)).trans hrun,
        hs.regs.trans hregs, hs.mem.trans hmem⟩
    · unfold State.debugHalt
      exact if_pos (by simpa using h)
    · refine does_doneW (hres.trans (congrArg doneW (State.debugResume_resumes hh hw hst hdump))) ?_
      exact State.setCore_quiet (s := { s with dbg := { s.dbg with resumed := s.dbg.resumed.set (coreNum c) true } })
        (q.of rfl rfl rfl rfl rfl rfl rfl) c _
  · obtain ⟨hhalt, hres⟩ := debug_ignored (c := c) ((State.dmOn_eq q).trans hd)
    exact ⟨does_doneW hhalt q, does_doneW hres q⟩
  · refine does_doneW (congrArg doneW ?_) (q.of rfl rfl rfl rfl rfl rfl rfl)
    unfold State.dmactive State.hsDebug
    rw [q.isAwake]
    cases on
    · rfl
    · simp [q.entry]
  · generalize hv : s.at_ t = v at q ⊢
    have hset := (v.inWfi c).settle_settles
    have hall := (hset.trans (State.settle_settles _)).trans (State.settle_settles _)
    refine ⟨fun hr hh he ho => ?_, fun hr hh he hn => ?_, fun h => ?_⟩
    · refine ⟨_, State.wfi_command hv.symm q hr hh ?_, ?_, State.inWfi_regs_mem _ hall⟩
      · rcases ho with ho | ⟨hc, hen⟩
        · have ho : (v.core (otherCore c)).quiescent = false := by cases c <;> exact ho
          refine State.sleepTry_busy (c := (otherCore c)) (hset.not_quiescent ?_)
          unfold State.inWfi
          rwa [State.setCore_other]
        · refine State.sleepTry_unasked (hset.pwr_cmd.trans ?_) ((hset.flag _).trans ?_)
          · cases c <;> exact hc
          · cases c <;> exact hen
      · have he0 : (v.inWfi c).eligible c = [] := (State.inWfi_eligible c).trans he
        have he1 := (hset.eligible c).trans he0
        rw [State.settle_run_idle (((State.settle_settles _).eligible c).trans he1), State.settle_run_idle he1,
          State.settle_run_idle he0, State.inWfi_core]
    · have hrun : ((v.inWfi c).settle.core c).run = .running := by
        refine State.settle_run_wakes (State.inWfi_quiet q) (by rwa [State.inWfi_eligible]) ?_ ?_ ?_
        · cases c <;> exact hn
        · rw [State.inWfi_core]
        · rw [State.inWfi_core]
          exact hh
      refine ⟨_, State.wfi_command hv.symm q hr hh (State.sleepTry_busy (c := c) ?_), ?_, State.inWfi_regs_mem _ hall⟩
      · unfold Core.quiescent
        rw [hrun]
        simp
      · rw [((State.settle_settles _).trans (State.settle_settles _)).core_run c (by rw [hrun]; nofun), hrun]
    · subst hv
      refine does_doneW (congrArg doneW ?_) q
      unfold State.wfiExec
      dsimp only
      exact if_neg (by rcases h with h | h <;> simp [h])

end Sys2Proof.Machine
end

section
/-! SUPPORT. Ripcord causes (R37, R392, R393, R409): no part of a warm start changes the record of the start sequence before
`warmBegin` writes it, and what a freeze copies. -/

namespace Sys2Proof.Machine

/-! ### The start sequence across the parts of a warm start -/

theorem State.setWords_start (s : State) (a : Nat) (ws : List Word) : (s.setWords a ws).start = s.start := by
  induction ws generalizing s a with
  | nil => rfl
  | cons w r ih => exact (ih _ _).trans (s.setWord_start a w)

theorem State.muddy_start (s : State) (a n : Nat) : (s.muddy a n).start = s.start := ite_same State.start rfl rfl

theorem State.updLane_start (s : State) (k : Nat) (l : Lane) : (s.updLane k l).start = s.start :=
  (State.muddy_start _ _ _).trans (State.setWords_start _ _ _)

theorem State.wakeBank_start (s : State) (a : Nat) : (s.wakeBank a).start = s.start := by
  unfold State.wakeBank
  split
  · exact ite_same State.start (ite_same State.start rfl rfl) rfl
  · rfl

theorem State.wakeRange_start (s : State) (a n : Nat) : (s.wakeRange a n).start = s.start :=
  foldl_same State.start (fun t _ => by exact ite_same State.start (t.wakeBank_start _) rfl) (List.range 20) s

theorem State.flashInval_start (s : State) (a n : Nat) : (s.flashInval a n).start = s.start := ite_same State.start rfl rfl

theorem State.pagePut_start (s : State) (o : FlcOp) : (s.pagePut o).start = s.start :=
  (State.flashInval_start _ _ _).trans (s.setBytes_start _ _)

/-- Abandoning a flash operation: one case for a program, an erase and any other. -/
theorem State.flcAbandon_start (s : State) (keep : Bool) : (s.flcAbandon keep).start = s.start := by
  unfold State.flcAbandon
  cases s.flc.op with
  | none => rfl
  | some o =>
    exact ite_same State.start (ite_same State.start rfl (ite_same State.start (State.pagePut_start _ _) rfl))
      (ite_same State.start (ite_same State.start rfl rfl) rfl)

theorem State.carryThru_start (s : State) (n : Nat) : (s.carryThru n).start = s.start :=
  s.setWord_start (rxWord n) (s.word (0x21020000 + 64 * n + 0x10))

theorem State.haltFill_start (s : State) (e : Nat) : (s.haltFill e).start = s.start := ite_same State.start rfl rfl

theorem State.flashEcc_start (s : State) (x : Nat) (e : Ecc) : (s.flashEcc x e).start = s.start := by
  unfold State.flashEcc
  cases e with
  | corrected => exact ite_same State.start rfl rfl
  | clean => rfl
  | retried k => rfl
  | uncorrectable => rfl

theorem State.rcode_start (p : State × List Nat) (x : Nat) : (State.rcode p x).1.start = p.1.start :=
  ite_same (fun q : State × List Nat => q.1.start) rfl (State.flashEcc_start _ _ _)

theorem State.rscan_start (s : State) (a n : Nat) : (s.rscan a n).1.start = s.start :=
  ite_same (fun q : State × List Nat => q.1.start) rfl (foldl_same (fun p : State × List Nat => p.1.start) State.rcode_start _ _)

theorem State.rtouch_start (s : State) (a n : Nat) : (s.rtouch a n).start = s.start := by
  refine ite_same State.start rfl ?_
  dsimp only
  split
  · exact ite_same State.start (s.wakeRange_start a n) (ite_same State.start (s.wakeRange_start a n) (s.wakeRange_start a n))
  · exact s.wakeRange_start a n

theorem State.rscans_start (s : State) (rs : List (Nat × Nat)) : (s.rscans rs).1.start = s.start :=
  foldl_same (fun p : State × List Nat => p.1.start)
    (fun p r => by exact (State.rscan_start _ _ _).trans (State.rtouch_start p.1 r.1 r.2)) rs (s, [])

theorem State.digDirty_start (s : State) : s.digDirty.start = s.start := rfl

theorem State.imgCopy_start (s : State) (e : Nat) (h : List Word) (body : List Byte) (whole : Bool) :
    (s.imgCopy e h body whole).2.start = s.start := by
  have hk : (if imgKeep h then s else s.haltFill e).start = s.start := ite_same State.start rfl (s.haltFill_start e)
  unfold State.imgCopy
  dsimp only
  generalize (if imgKeep h then s else s.haltFill e) = t at hk ⊢
  rw [State.digDirty_start]
  split
  · rw [State.setReg_start, State.setBytes_start, hk]
  · rw [State.haltFill_start, State.setReg_start, State.setBytes_start, hk]

theorem State.loadEntry_start (s : State) (e : Nat) (c : SetCopy) : (s.loadEntry e c).2.start = s.start := by
  unfold State.loadEntry
  split
  · dsimp only
    split
    · rw [State.digDirty_start, State.haltFill_start, State.rscans_start]
    · rw [State.imgCopy_start, State.rscans_start]
  · rw [State.digDirty_start, State.haltFill_start]

theorem State.partCopy_start (s : State) (e a : Nat) (h : List Word) : (s.partCopy e a h).start = s.start := by
  have htid : ∀ t : State, t.start = s.start → ∀ (c : Prop) [Decidable c],
      (if c then t.setReg (Reg.REEL_TID e) (h.getD 3 0) else t).start = s.start := fun t ht c _ => ite_same State.start ht ht
  unfold State.partCopy
  dsimp only
  refine htid _ (forN_same State.start (fun t _ => ?_) 1024 s) (Config.freeNat (s.free + 1024) % 2 = 1)
  exact ite_same _ rfl (ite_same _ (t.setBytes_start _ _) (ite_same _ rfl (t.setBytes_start _ _)))

theorem State.loadAbandon_start (s old : State) : (s.loadAbandon old).start = s.start := by
  unfold State.loadAbandon
  dsimp only
  split
  · have hl : ∀ l : List Nat, (l.foldl (fun t e => (t.loadEntry e old.live).2) s).start = s.start :=
      fun l => foldl_same State.start (fun t e => State.loadEntry_start t e _) l s
    rw [State.fresh_start]
    split
    · exact (State.haltFill_start _ _).trans (hl _)
    · exact hl _
  · split
    · exact s.haltFill_start _
    · exact ite_same State.start (s.partCopy_start _ _ _) rfl

theorem State.mergeWaits_start (s : State) (u : Nat) : (s.mergeWaits u).start = s.start :=
  foldl_same State.start (fun _ _ => by rfl) (s.waitsFor u) { s with waits := s.waits.filter fun x => unitOf x.addr != u }

theorem State.onApply_rtc_start (s old : State) : (s.onApply old 28).start = s.start := by
  have ht : (s.trimApply old).start = s.start := ite_same State.start rfl (ite_same State.start rfl rfl)
  rw [State.onApply_rtc]
  exact ite_same State.start ht rfl

theorem State.onApply_link_start (s old : State) : (s.onApply old 18).start = s.start := by
  have hr : ∀ (t : State) c, (t.ringApply old c).start = t.start := fun t c => ite_same State.start rfl rfl
  rw [State.onApply_link]
  exact ite_same State.start ((hr _ 1).trans (hr s 0)) ((hr _ 1).trans (hr s 0))

theorem State.onApply_pwr_start (s old : State) : (s.onApply old 27).start = s.start := by
  rw [State.onApply_pwr]
  exact ite_same State.start rfl rfl

theorem State.rtcMerge_start (s : State) : s.rtcMerge.start = s.start := by
  rw [State.rtcMerge_eq, foldl_same State.start (fun _ _ => by rfl), State.onApply_rtc_start, State.mergeWaits_start]

theorem State.keptArmed_start (t : State) (ps : List (Nat × Word)) : (t.keptArmed ps).start = t.start :=
  foldl_same State.start (fun _ _ => by rfl) _ t

theorem State.keptWrites_start (s : State) : s.keptWrites.start = s.start := by
  have hr : (if s.waits.any (fun x => x.addr = Reg.RTC_TRIM) then s.rtcSync else s).start = s.start := ite_same State.start rfl rfl
  have hk : ∀ t : State, t.keptWaits.start = t.start := fun t => foldl_same State.start (fun _ _ => by rfl) _ t
  unfold State.keptWrites
  dsimp only
  rw [State.keptArmed_start, State.onApply_pwr_start, State.onApply_link_start, hk, State.rtcMerge_start, hr]

theorem State.warmRegs_start (s : State) : s.warmRegs.start = s.start := by
  have hw : s.warmWrites.start = s.start := by
    rw [State.warmWrites_eq]
    exact ite_same State.start ((State.keptArmed_start _ _).trans s.keptWrites_start) s.keptWrites_start
  exact hw

theorem State.testAbort_start (s old : State) : (s.testAbort old).start = s.start := by
  unfold State.testAbort
  split <;> rfl

theorem State.lanesGone_start (s : State) : s.lanesGone.start = s.start := foldl_same State.start (fun t _ => t.updLane_start _ _) _ s

theorem State.warmBase_start (s : State) : s.warmBase.start = s.start := by
  unfold State.warmBase
  rw [State.lanesGone_start, State.loadAbandon_start, State.testAbort_start, State.warmRegs_start,
    foldl_same State.start (fun t _ => t.carryThru_start _), State.flcAbandon_start]

/-! ### What a warm start shows of its causes -/

/-- What a warm start gives, whether it leads to SAFE or not. -/
structure RipBegun (s : State) (causes : Word) (toSafe : Bool) (u : State) : Prop where
  busy : u.start.busy = true
  cold : u.start.cold = false
  toSafe : u.start.toSafe = toSafe
  freezes : u.start.freezes = s.start.freezes
  run0 : u.core0.run = .held
  run1 : u.core1.run = .held
  snap : u.snap = s.snap
  cause : u.reg Reg.SYS_RSTCAUSE &&& causes = causes

theorem State.warmBegin_ripBegun (s : State) {causes : Word} (h0 : causes ≠ 0) (toSafe : Bool) :
    RipBegun s causes toSafe (s.warmBegin causes toSafe) where
  busy := rfl
  cold := rfl
  toSafe := rfl
  freezes := (congrArg Start.freezes s.warmBase_start :)
  run0 := rfl
  run1 := rfl
  snap := s.warmBase_snap
  cause := by
    have hd : s.warmBase.reg Reg.SYS_RSTCAUSE ||| causes ≠ regReset Reg.SYS_RSTCAUSE := by
      rw [show regReset Reg.SYS_RSTCAUSE = 0 by decide +kernel]
      exact fun hz => h0 (BitVec.or_eq_zero_iff.1 hz).2
    have hr : (s.warmBegin causes toSafe).reg Reg.SYS_RSTCAUSE = s.warmBase.reg Reg.SYS_RSTCAUSE ||| causes :=
      sget_sput_ne_default _ _ hd
    rw [hr]
    ext i hi
    simp
    tauto

theorem RipBegun.settles {s v u : State} {causes : Word} {b : Bool} (h : RipBegun s causes b v) (k : Settles v u) : RipBegun s causes b u where
  busy := (congrArg Start.busy k.start).trans h.busy
  cold := (congrArg Start.cold k.start).trans h.cold
  toSafe := (congrArg Start.toSafe k.start).trans h.toSafe
  freezes := (congrArg Start.freezes k.start).trans h.freezes
  run0 := (k.run0 (by rw [h.run0]; exact nofun)).trans h.run0
  run1 := (k.run1 (by rw [h.run1]; exact nofun)).trans h.run1
  snap := k.snap.trans h.snap
  cause := by rw [k.reg]; exact h.cause

/-! ### The snapshot (Table 16-9) -/

theorem State.snapCore_length (s : State) (c : CoreId) (b : Bool) : (s.snapCore c b).length = 16 := rfl

/-- The words of a freeze before its causes: header, the two cores, the registers, the contexts. -/
theorem State.freezeShot_length (s : State) : s.freezeShot.length = 256 := by
  unfold State.freezeShot
  simp [State.snapCore_length, State.snapRegs]

theorem shotCauses_length (w : List Word) (causes : Word) : (shotCauses w causes).length = w.length := by
  simp [shotCauses]

/-- The header of a snapshot: SNAP, the count, the causes, the network time. -/
theorem State.freeze_header (s : State) (causes : Word) : (s.freeze causes).snap.take 6 =
    [0x50414E53, BitVec.ofNat 32 (s.start.freezes + 1), causes, BitVec.ofNat 32 s.us, BitVec.ofNat 32 (s.us / 2 ^ 32),
      BitVec.ofNat 32 (s.net % 40)] := rfl

/-- Its words from 40 on are the register words, as the registers read. -/
theorem State.freeze_regs (s : State) (causes : Word) : ((s.freeze causes).snap.drop 40).take 24 = s.snapRegs := rfl

end Sys2Proof.Machine
end

section
/-! SUPPORT. The Ripcord commands DOUBLE_FAULT and WATCHDOG_EXPIRY (R37, R392, R393, R409). -/

namespace Sys2Proof.Machine

/-! ### Which causes may come -/

theorem flagAt_getLsbD (b : Bool) {i : Nat} (hi : i < 32) (j : Nat) : (flagAt b i).getLsbD j = (b && decide (i = j)) := by
  have h : flagAt b i = if b then BitVec.twoPow 32 i else 0 := by
    rfl
  rw [h]
  cases b
  · simp
  · simp only [if_true, BitVec.getLsbD_twoPow, Bool.true_and]
    by_cases hj : i = j <;> simp [hj]
    omega

theorem State.ripCould_twoPow (s : State) (k : Nat) : s.ripCould (BitVec.twoPow 32 k) = s.couldRip.getLsbD k := by
  unfold State.ripCould
  rw [BitVec.and_twoPow]
  by_cases hk : k < 32
  · have h0 : BitVec.twoPow 32 k ≠ 0 := fun h => by
      have := congrArg (fun w : Word => w.getLsbD k) h
      simp [hk] at this
    cases hb : s.couldRip.getLsbD k
    · simp
    · simpa using h0
  · rw [BitVec.getLsbD_of_ge _ _ (by omega)]
    simp

/-- While no start is in progress the causes that may come are: watchdogs that have counted, cores that run. -/
theorem State.couldRip_getLsbD {s : State} (hb : s.start.busy = false) (j : Nat) : s.couldRip.getLsbD j =
    ((s.wdtReached 0 10 && decide (6 = j)) || (s.wdtReached 1 10 && decide (7 = j)) || (s.core0.active && decide (8 = j)) ||
      (s.core1.active && decide (9 = j))) := by
  unfold State.couldRip
  rw [hb]
  simp [flagAt_getLsbD]

theorem State.ripCould_core {s : State} (hb : s.start.busy = false) (c : CoreId) :
    s.ripCould (0x100 <<< coreNum c) = (s.core c).active := by
  cases c
  · exact (s.ripCould_twoPow 8).trans (by rw [State.couldRip_getLsbD hb]; simp [State.core])
  · exact (s.ripCould_twoPow 9).trans (by rw [State.couldRip_getLsbD hb]; simp [State.core])

theorem State.ripCould_wdt {s : State} (hb : s.start.busy = false) (c : CoreId) :
    s.ripCould (0x40 <<< coreNum c) = s.wdtReached (coreNum c) 10 := by
  cases c
  · exact (s.ripCould_twoPow 6).trans (by rw [State.couldRip_getLsbD hb]; simp [coreNum])
  · exact (s.ripCould_twoPow 7).trans (by rw [State.couldRip_getLsbD hb]; simp [coreNum])

/-- An enabled watchdog has expired once it has counted nine tenths of its timeout, or had before a kick of this instant (R409). -/
theorem State.wdtReached_of {s : State} {n : Nat} (he : s.flag (Reg.WDT_CTL_EN n) = true)
    (h : 36000 * max 1 (s.get (Reg.WDT_CTL_TO n)) ≤ (s.wdt n).ticks ∨
      ∃ k, (s.wdt n).kick = some (s.now, k) ∧ 36000 * max 1 (s.get (Reg.WDT_CTL_TO n)) ≤ k) : s.wdtReached n 10 = true := by
  unfold State.wdtReached State.wdtTo
  rw [he]
  simp only [Bool.true_and, decide_eq_true_eq]
  rcases h with h | ⟨k, hk, h⟩
  · split
    · split <;> omega
    · omega
  · rw [hk]
    simp
    omega

/-! ### The commands -/

/-- What R392 and R393 say of a Ripcord cause: a warm start in progress, with the freeze and SAFE ahead unless the device is in SAFE. -/
def RipStarts (i : Instr) (s v : State) (cause : Word) : Prop :=
  ∃ u, exec i s = .next u ∧ u.start.busy = true ∧ u.start.cold = false ∧ u.core0.run = .held ∧ u.core1.run = .held ∧
    u.reg Reg.SYS_RSTCAUSE &&& cause = cause ∧
    (v.start.safe = true → u.start.toSafe = false ∧ u.start.freezes = v.start.freezes ∧ u.snap = v.snap) ∧
    (v.start.safe = false → u.start.toSafe = true ∧ u.start.freezes = v.start.freezes + 1 ∧ u.snap.length = 256 ∧
      u.snap.take 6 = [0x50414E53, BitVec.ofNat 32 (v.start.freezes + 1), cause, BitVec.ofNat 32 v.us,
        BitVec.ofNat 32 (v.us / 2 ^ 32), BitVec.ofNat 32 (v.net % 40)] ∧
      (u.snap.drop 40).take 24 = v.snapRegs)

/-- A Ripcord cause of a device in SAFE makes a warm start alone. -/
theorem State.startBegin_rip_safe {s : State} (hb : s.start.busy = false) (hs : s.start.safe = true) (cause : Word) :
    s.startBegin false cause true = s.warmBegin cause false := by
  unfold State.startBegin
  simp [hb, hs]

/-- Outside SAFE it freezes first. -/
theorem State.startBegin_rip {s : State} (hb : s.start.busy = false) (hs : s.start.safe = false) (cause : Word) :
    s.startBegin false cause true = (s.freeze cause).warmBegin cause true := by
  unfold State.startBegin
  simp [hb, hs]

theorem ripStarts_of {i : Instr} {s v : State} {cause : Word} (hx : exec i s = done (v.startBegin false cause true))
    (hb : v.start.busy = false) (h0 : cause ≠ 0) : RipStarts i s v cause := by
  cases hs : v.start.safe with
  | true =>
    rw [State.startBegin_rip_safe hb hs] at hx
    obtain ⟨u, hu, hset⟩ := done_settles (v.warmBegin cause false)
    obtain ⟨busy, cold, toSafe, freezes, run0, run1, snap, hc⟩ := (v.warmBegin_ripBegun h0 false).settles hset
    exact ⟨u, hx.trans hu, busy, cold, run0, run1, hc, fun _ => ⟨toSafe, freezes, snap⟩, fun h => Bool.noConfusion (hs.symm.trans h)⟩
  | false =>
    rw [State.startBegin_rip hb hs] at hx
    obtain ⟨u, hu, hset⟩ := done_settles ((v.freeze cause).warmBegin cause true)
    obtain ⟨busy, cold, toSafe, freezes, run0, run1, snap, hc⟩ := ((v.freeze cause).warmBegin_ripBegun h0 true).settles hset
    refine ⟨u, hx.trans hu, busy, cold, run0, run1, hc, fun h => Bool.noConfusion (hs.symm.trans h), fun _ => ⟨toSafe, freezes, ?_⟩⟩
    rw [snap]
    exact ⟨(shotCauses_length _ _).trans v.freezeShot_length, v.freeze_header cause, v.freeze_regs cause⟩

/-- Settles O9: `ripCould` tells which causes may come, and `startBegin` takes them with the freeze. -/
theorem ripcordCausesFreezeTheSnapshot : Obligations.RipcordCausesFreezeTheSnapshot := by
  unfold Obligations.RipcordCausesFreezeTheSnapshot
  intro s c t v starts hb
  have hx : ∀ b, v.ripCould (0x100 <<< coreNum c) = b →
      exec (.doubleFault c t) s = done (if b then v.startBegin false (0x100 <<< coreNum c) true else v) := fun b h => by
    subst h; rfl
  have hw : ∀ b, v.ripCould (0x40 <<< coreNum c) = b →
      exec (.watchdogExpiry c t) s = done (if b then v.startBegin false (0x40 <<< coreNum c) true else v) := fun b h => by
    subst h; rfl
  refine ⟨fun hr hh => ?_, fun he ht => ?_, fun h => does_done (hx false ?_)⟩
  · have ha : (v.core c).active = true := by simp [Core.active, hr, hh]
    exact ripStarts_of (hx true ((State.ripCould_core hb c).trans ha)) hb (by cases c <;> decide)
  · exact ripStarts_of (hw true ((State.ripCould_wdt hb c).trans (State.wdtReached_of he ht))) hb (by cases c <;> decide)
  · rw [State.ripCould_core hb]
    rcases h with h | h <;> simp [Core.active, h]

end Sys2Proof.Machine
end

section
/-! SUPPORT. States that refute statements of the family: in each stands one thing that the statement does not leave out (a word that
cannot be read, an abstract command in progress, a request that waits, a transmit about to start). -/

namespace Sys2Proof.Machine

/-- The state that a command ends in, for what is evaluated at concrete states. -/
def endOf (o : Host.Outcome State Fault Refusal) : Option State :=
  match o with
  | .next u => some u
  | _ => none

/-! ### BOOT_GOOD on an unreadable word -/

/-- SWAPS of the boot-attempt word is 1, and the word has become uncorrectable. -/
def badAttemptWord : State :=
  { State.reset with mem := [(0x2207D006, 1)], memc := { State.reset.memc with bad := [0x2207D004] } }

theorem badAttemptWord_canonical : badAttemptWord.canonical :=
  { State.reset_canonical with mem := by decide +kernel, banks := Swf_nil _ }

/-- BOOT_GOOD leaves SWAPS 0. -/
theorem badAttemptWord_ends : (endOf (exec (.bootGood 0x600D) badAttemptWord)).map (fun u => u.word 0x2207D004) = some 0 := by
  decide +kernel

/-- Refutes O13: BOOT_GOOD reads an uncorrectable boot-attempt word as 0, as R377 does (log entry 26), and so does not keep its SWAPS. -/
theorem not_bootGoodCore1AndBackupReset : ¬ Obligations.BootGoodCore1AndBackupReset := by
  unfold Obligations.BootGoodCore1AndBackupReset
  rintro ⟨h, -⟩
  obtain ⟨u, hu, hw, -⟩ := h badAttemptWord 0x600D rfl badAttemptWord_canonical rfl
  have hends := badAttemptWord_ends
  rw [hu] at hends
  have h0 : u.word 0x2207D004 = 0 := Option.some.inj hends
  rw [hw] at h0
  exact absurd h0 (by decide +kernel)

/-! ### A dmi write while an abstract command waits -/

/-- A debugger's TAP is about to hand over a dmi write of 1 to data0, while the program buffer of an abstract command on the halted
core 0 waits for the flash. -/
def busyDebugger : State :=
  { State.reset with
    core0 := { Core.reset with run := .running, halted := true, wait := some ⟨false, false, [], 0, 0, 0, 0⟩ }
    dbg := { Debug.reset with dmactive := true }
    tap := { Tap.reset with st := .exit1Dr, ir := 0x11, sr := (List.range 41).map fun i => Nat.testBit (4 * 2 ^ 34 + 4 * 1 + 2) i }
    pins := { State.reset.pins with vio := true } }

theorem busyDebugger_calm : busyDebugger.Calm :=
  ⟨{ State.reset_canonical with }, { State.reset_quiet with }, rfl⟩

/-- The write sets cmderr and leaves data0. -/
theorem busyDebugger_ends : (endOf (exec (.tckCycle true false) busyDebugger)).map (fun u => (u.dbg.data0, u.dbg.cmderr)) = some (0, 1) := by
  decide +kernel

/-- Refutes O60: while an abstract command is in progress a dmi write to data0 sets cmderr to 1 (busy) and does not write. -/
theorem not_convertersTimersAndPins : ¬ Obligations.ConvertersTimersAndPins := by
  unfold Obligations.ConvertersTimersAndPins
  rintro ⟨h, -, -⟩
  obtain ⟨-, -, -, htap⟩ := h busyDebugger busyDebugger_calm
  obtain ⟨u, hu, -, -, hdmi, -⟩ := (htap true false).2 rfl
  obtain ⟨hwrite, -⟩ := hdmi rfl rfl rfl rfl (by decide) (by decide)
  obtain ⟨hdata, -⟩ := hwrite (by decide +kernel) (by decide +kernel)
  have hends := busyDebugger_ends
  rw [hu] at hends
  have h0 : u.dbg.data0 = 0 := congrArg Prod.fst (Option.some.inj hends)
  rw [hdata] at h0
  exact absurd h0 (by decide +kernel)

/-! ### An entry into sleep that the debug module ends, with a request waiting -/

/-- An entry into STANDBY is in progress while the debug module is active, and an explicit request for HOVER has come meanwhile. -/
def entryWithRequest : State :=
  { State.reset with
    core0 := { Core.reset with run := .wfi }
    dbg := { Debug.reset with dmactive := true }
    pwr := { Pwr.reset with cmd := some 3, hs := some ⟨2, false, 1, none, 0, 0, false⟩ } }

theorem entryWithRequest_at_zero : entryWithRequest.at_ 0 = entryWithRequest := rfl

/-- Whichever unit the core cluster's refusal names, the request is tried at once and refused by the radio cluster: code 4, engine 16. -/
theorem entryWithRequest_ends (n : Nat) : (endOf (doneW ((entryWithRequest.hsEnd 6 (n % 32) 2 2 1 false).fresh.cmdTry))).map
    (fun u => bitsOf (u.reg Reg.PWR_HSRES) 0 8) = some 4 := by
  have hall : ∀ k < 32, (endOf (doneW ((entryWithRequest.hsEnd 6 k 2 2 1 false).fresh.cmdTry))).map
      (fun u => bitsOf (u.reg Reg.PWR_HSRES) 0 8) = some 4 := by decide +kernel
  exact hall _ (Nat.mod_lt _ (by decide))

/-- Refutes O54: the entry ends with DEBUG (6), but a request that came meanwhile is tried in the same command (R338), and its own
refusal is what `PWR_HSRES` then holds. -/
theorem not_sleepModesAreEnteredAndLeft : ¬ Obligations.SleepModesAreEnteredAndLeft := by
  unfold Obligations.SleepModesAreEnteredAndLeft
  rintro ⟨h, -, -⟩
  have h0 := h entryWithRequest 0
  rw [entryWithRequest_at_zero] at h0
  obtain ⟨-, hentry, -⟩ := h0 { State.reset_canonical with }
    rfl State.reset_quiet.pend rfl rfl rfl rfl (by decide +kernel) (by decide +kernel)
  obtain ⟨hdebug, -, -⟩ := hentry _ rfl rfl rfl rfl (by decide)
  obtain ⟨u, hu, -, -, hcode, -⟩ := hdebug rfl
  have hends := entryWithRequest_ends (Config.freeNat 0)
  have hx : exec (.sleepEntryDone 0) entryWithRequest = doneW ((entryWithRequest.hsEnd 6 (Config.freeNat 0 % 32) 2 2 1 false).fresh.cmdTry) := rfl
  rw [← hx, hu] at hends
  have h4 : bitsOf (u.reg Reg.PWR_HSRES) 0 8 = 4 := Option.some.inj hends
  rw [hcode] at h4
  exact absurd h4 (by decide)

/-! ### The crystal stopped under a transmit -/

/-- A transmit of slot 0 of queue 0. -/
def queuedTx : Tx :=
  ⟨.queue ⟨0, 0, [], 0, 0, 0, 0, 0, false, false, false⟩ 0 0, 0, 0, false, 0, 0, false, 0, 0, false, [], 0, 0, none, none, [], 0⟩

/-- The crystal runs, and a transmit is about to start. -/
def startingTx : State :=
  { State.reset with
    tb := { Tbase.reset with src := .xtal, xtalOn := true, ready := true, lfok := false }
    rfe := { Rfe.reset with st := .txStart, holder := some queuedTx } }

theorem startingTx_calm : startingTx.Calm :=
  ⟨{ State.reset_canonical with }, { State.reset_quiet with }, rfl⟩

/-- What the stop of the crystal still does once a transmit has ended. -/
def State.xtalStopped (s : State) : State :=
  let t := if s.tb.src = .carry then s else if s.tb.lfok then s.carryOn else { s with tb := { s.tb with src := .fio, fio := true } }
  let t := ({ t with tb := { t.tb with xtalOn := false, ready := false, move := false, pll := false } } : State).spStop
  ((t.lanes.map Prod.fst).foldl (fun t k => t.abortLane k 1 true) t).tbNotify s

theorem State.xtalStop_eq (s : State) : s.xtalStop = s.txStop.xtalStopped := rfl

/-- The code that the transmit ends with is free among those of a transmit before its first chip. -/
theorem startingTx_txStop : startingTx.txStop = (startingTx.txCut queuedTx ([1, 2, 3, 6].getD (Config.freeNat 0 % 4) 6) 0).fresh := rfl

/-- Whichever code that is, the slot of the queue entry then holds a STAT word. -/
theorem startingTx_ends (n : Nat) : (endOf (doneW (startingTx.txCut queuedTx ([1, 2, 3, 6].getD (n % 4) 6) 0).fresh.xtalStopped)).map
    (fun u => u.mem.isEmpty) = some false := by
  have hall : ∀ k < 4, (endOf (doneW (startingTx.txCut queuedTx ([1, 2, 3, 6].getD k 6) 0).fresh.xtalStopped)).map
    (fun u => u.mem.isEmpty) = some false := by decide +kernel
  exact hall _ (Nat.mod_lt _ (by decide))

/-- Refutes O42: stopping the crystal ends a transmit that is about to start (R42, log entry 87), and its completion writes the STAT word of
the queue entry, so the memory changes with no lane in use. -/
theorem not_timebaseFollowsItsCrystals : ¬ Obligations.TimebaseFollowsItsCrystals := by
  unfold Obligations.TimebaseFollowsItsCrystals
  rintro ⟨h, -, -⟩
  obtain ⟨-, -, -, -, -, hstop, -⟩ := h startingTx startingTx_calm
  obtain ⟨u, hu, -, -, -, hmem⟩ := hstop rfl (by decide +kernel)
  have hx : exec .tbaseRefOff startingTx = doneW startingTx.xtalStop := rfl
  have hends := startingTx_ends (Config.freeNat 0)
  rw [← startingTx_txStop, ← State.xtalStop_eq, ← hx, hu] at hends
  have h1 : u.mem.isEmpty = false := Option.some.inj hends
  rw [hmem rfl] at h1
  exact absurd h1 (by decide)

end Sys2Proof.Machine
end

section
/-! SUPPORT. The refutation of O20 (the configuration epochs). -/
namespace Sys2Proof.Machine

/-! ### STUCK, cleared by software while MIXED stays 1 -/

/-- LINK has been pending for 200 ms; STUCK was set for this event already and has been cleared by a write of 1 since. -/
def stuckCleared : State :=
  ({ State.reset with now := 8000000, cfg := { Cfg.reset with stuckDone := true } } : State).setReg Reg.CFG_PEND 0x40000

theorem stuckCleared_quiet : (stuckCleared.setReg Reg.CFG_PEND 0).Quiet :=
  ⟨rfl, by decide +kernel, rfl, .inl rfl, rfl, rfl, rfl, rfl, rfl, rfl⟩

theorem stuckCleared_canonical : stuckCleared.canonical :=
  (State.setReg_keeps _ _ _).canonical { State.reset_canonical with }

/-- The expiry leaves STUCK at 0. -/
theorem stuckCleared_expires :
    (endOf (exec (.lagLimitExpiry 8000000) stuckCleared)).map (·.flag Reg.CFG_STATUS_STUCK) = some false := by decide +kernel

/-- Refutes O20: STUCK is set once for each time that MIXED becomes 1 (R53, log entry 20), so with STUCK cleared by software while MIXED
stays 1 the expiry sets and posts nothing, although the flag reads 0. -/
theorem not_epochSwitchesAndDigests : ¬ Obligations.EpochSwitchesAndDigests := by
  unfold Obligations.EpochSwitchesAndDigests
  rintro ⟨-, -, hlag, -⟩
  have h := hlag stuckCleared 8000000 (by decide +kernel) stuckCleared_quiet stuckCleared_canonical
  rw [if_pos (by decide +kernel)] at h
  obtain ⟨u, hu, hstuck, -⟩ := h
  have hends := stuckCleared_expires
  rw [hu] at hends
  exact Bool.noConfusion (hstuck.symm.trans (Option.some.inj hends))

end Sys2Proof.Machine
end

section
/-! SUPPORT. What the start of the lane groups (R110, R119, R144) gives one group: the steps for the other groups touch nothing of it. -/

namespace Sys2Proof.Machine

/-! ### One step of a fold -/

theorem forN_succ {α : Type} (n : Nat) (f : α → Nat → α) (a : α) : forN (n + 1) f a = f (forN n f a) n := by
  simp [forN, List.range_succ]

/-- What every step but that of `g` leaves is left up to that step, and from it on. -/
theorem forN_at {α : Type} {R : α → α → Prop} (hrefl : ∀ a, R a a) (htrans : ∀ {a b c}, R a b → R b c → R a c) {f : α → Nat → α} {g : Nat}
    (h : ∀ i, i ≠ g → ∀ a, R a (f a i)) {n : Nat} (hg : g < n) (a : α) : ∃ m, R a m ∧ R (f m g) (forN n f a) := by
  have hbefore : ∀ n ≤ g, R a (forN n f a) := fun n => by
    induction n with
    | zero => exact fun _ => hrefl a
    | succ n ih =>
      intro hn
      rw [forN_succ]
      exact htrans (ih (by omega)) (h n (by omega) _)
  induction n with
  | zero => omega
  | succ n ih =>
    rw [forN_succ]
    by_cases hn : n = g
    · exact ⟨forN n f a, hbefore n (by omega), by rw [hn]; exact hrefl _⟩
    · obtain ⟨m, hm, hr⟩ := ih (by omega)
      exact ⟨m, hm, htrans hr (h n hn _)⟩

/-! ### The groups beside one -/

/-- `t` is `s` for group g and for all but the engines, contexts and lanes of the others and what they present in memory. -/
structure GroupKept (g : Nat) (s t : State) : Prop where
  rest : t = { s with engs := t.engs, ctxs := t.ctxs, lanes := t.lanes, mem := t.mem, lost := t.lost, free := t.free }
  eng : t.eng g = s.eng g
  ctx : ∀ c < 8, t.ctx g c = s.ctx g c
  lane : ∀ i < 8, t.lane (8 * g + i) = s.lane (8 * g + i)
  keeps : Keeps s t

theorem GroupKept.refl (g : Nat) (s : State) : GroupKept g s s := ⟨rfl, rfl, fun _ _ => rfl, fun _ _ => rfl, .refl s⟩

theorem GroupKept.trans {g : Nat} {s t u : State} (h : GroupKept g s t) (k : GroupKept g t u) : GroupKept g s u :=
  ⟨by rw [k.rest, h.rest], k.eng.trans h.eng, fun c hc => (k.ctx c hc).trans (h.ctx c hc), fun i hi => (k.lane i hi).trans (h.lane i hi),
    h.keeps.transS k.keeps⟩

theorem State.setCtx_ctx_ne (s : State) {e c e' c' : Nat} (x : Ctx) (h : 8 * e' + c' ≠ 8 * e + c) : (s.setCtx e c x).ctx e' c' = s.ctx e' c' :=
  sget_sput_ne _ _ _ h

theorem State.setCtx_groupKept (s : State) {e g c : Nat} (x : Ctx) (he : e ≠ g) (hc : c < 8) : GroupKept g s (s.setCtx e c x) :=
  ⟨rfl, rfl, fun d hd => s.setCtx_ctx_ne x (by omega), fun _ _ => rfl, s.setCtx_keeps e c x⟩

theorem State.setEng_groupKept (s : State) {e g : Nat} (x : Engine) (he : e ≠ g) : GroupKept g s (s.setEng e x) :=
  ⟨rfl, sget_sput_ne _ _ _ (Ne.symm he), fun _ _ => rfl, fun _ _ => rfl, s.setEng_keeps e x⟩

theorem groupKept_foldl {α : Type} {g : Nat} {f : State → α → State} (l : List α) (h : ∀ i ∈ l, ∀ s, GroupKept g s (f s i)) (s : State) :
    GroupKept g s (l.foldl f s) := by
  induction l generalizing s with
  | nil => exact .refl g s
  | cons i l ih => exact (h i (by simp) s).trans (ih (fun j hj => h j (List.mem_cons_of_mem _ hj)) _)

theorem nctx_le (e : Nat) : nctx e ≤ 8 := by
  unfold nctx
  split_ifs <;> omega

theorem State.engStart_groupKept (s : State) {e g : Nat} (he : e ≠ g) : GroupKept g s (s.engStart e) := by
  unfold State.engStart
  split
  · exact s.setEng_groupKept _ he
  · exact (s.setEng_groupKept _ he).trans
      (groupKept_foldl _ (fun c hc t => t.setCtx_groupKept _ he (Nat.lt_of_lt_of_le (List.mem_range.1 hc) (nctx_le e))) _)

theorem Beside.eng {s t : State} (h : Beside s t) (e : Nat) : t.eng e = s.eng e := by
  rw [h]
  rfl

theorem Beside.ctx {s t : State} (h : Beside s t) (e c : Nat) : t.ctx e c = s.ctx e c := by
  rw [h]
  rfl

theorem Beside.rest {s t : State} (h : Beside s t) :
    t = { s with engs := t.engs, ctxs := t.ctxs, lanes := t.lanes, mem := t.mem, lost := t.lost, free := t.free } := by
  rw [h]

theorem State.groupRest_groupKept (s : State) {e g : Nat} (he : e ≠ g) : GroupKept g s (s.groupRest e) := by
  have hb := s.groupRest_beside e
  refine ⟨hb.rest, hb.eng g, fun c _ => hb.ctx g c, fun i hi => ?_, s.groupRest_keeps e⟩
  · rw [State.groupRest_eq]
    have hj : ∀ l : List Nat, (∀ j ∈ l, j < 8) → ∀ t : State,
        (l.foldl (fun s i => s.idleRest (8 * e + i)) t).lane (8 * g + i) = t.lane (8 * g + i) := fun l => by
      induction l with
      | nil => exact fun _ _ => rfl
      | cons j l ih =>
        intro hl t
        have := hl j (by simp)
        exact (ih (fun x hx => hl x (List.mem_cons_of_mem _ hx)) _).trans (t.idleRest_lane_ne (by omega))
    exact hj _ (fun j hj => List.mem_range.1 hj) s

/-- One step of `groupsStart`. -/
def State.groupTry (s : State) (g : Nat) : State := if s.inSpan g && !s.held g && !(s.eng g).run then s.groupStart g else s

theorem State.groupsStart_eq (s : State) : s.groupsStart = forN 16 State.groupTry s := rfl

theorem State.groupTry_groupKept (s : State) {e g : Nat} (he : e ≠ g) : GroupKept g s (s.groupTry e) := by
  unfold State.groupTry State.groupStart
  split
  · exact (s.engStart_groupKept he).trans (State.groupRest_groupKept _ he)
  · exact .refl g s

/-! ### The group that starts -/

/-- The state in which a start of group g leaves its engine, its contexts and those of its lanes that were OFF in `s`. -/
structure GroupBegun (g : Nat) (s t : State) : Prop where
  rest : t = { s with engs := t.engs, ctxs := t.ctxs, lanes := t.lanes, mem := t.mem, lost := t.lost, free := t.free }
  eng : (t.eng g).run = true
  ctx : ∀ c < 8, (t.ctx g c).st = .ready ∧ (t.ctx g c).pc = 0
  lane : ∀ i < 8, (s.lane (8 * g + i)).st = .off →
    (t.lane (8 * g + i)).st = if s.laneEnabled (8 * g + i) = false then .off else if s.rfe.blank = true then .blank else .hunt

theorem GroupBegun.after {g : Nat} {s t u : State} (h : GroupBegun g s t) (k : GroupKept g t u) : GroupBegun g s u :=
  ⟨by rw [k.rest, h.rest], by rw [k.eng]; exact h.eng, fun c hc => by rw [k.ctx c hc]; exact h.ctx c hc,
    fun i hi ho => by rw [k.lane i hi]; exact h.lane i hi ho⟩

theorem GroupBegun.before {g : Nat} {s t u : State} (k : GroupKept g s t) (h : GroupBegun g t u) : GroupBegun g s u := by
  refine ⟨by rw [h.rest, k.rest], h.eng, h.ctx, fun i hi ho => ?_⟩
  rw [h.lane i hi (by rw [k.lane i hi]; exact ho), k.rest]
  rfl

theorem restOf {s t u : State} (h : t = { s with engs := t.engs, ctxs := t.ctxs })
    (k : u = { t with engs := u.engs, ctxs := u.ctxs, lanes := u.lanes, mem := u.mem, lost := u.lost, free := u.free }) :
    u = { s with engs := u.engs, ctxs := u.ctxs, lanes := u.lanes, mem := u.mem, lost := u.lost, free := u.free } := by
  rw [k, h]

/-- What the start of an engine gives. -/
theorem State.engStart_begins {s : State} {g : Nat} (hg : g < 16) (hb : s.start.rxbusy = false) (hs : s.pwr.hs = none) :
    s.engStart g = { s with engs := (s.engStart g).engs, ctxs := (s.engStart g).ctxs } ∧ ((s.engStart g).eng g).run = true ∧
      ∀ c < 8, ((s.engStart g).ctx g c).st = .ready ∧ ((s.engStart g).ctx g c).pc = 0 := by
  have hq : (s.start.rxbusy || s.quiesced 1) = false := by
    unfold State.quiesced
    rw [hb, hs]
    rfl
  have hn : nctx g = 8 := by
    unfold nctx
    rw [if_neg (by omega), if_pos hg]
  unfold State.engStart
  rw [hq, if_neg Bool.false_ne_true]
  dsimp only
  have hrest : ∀ t : State, ∀ n, forN n (fun s c => s.setCtx g c ((s.ctx g c).fresh g c)) t =
      { t with ctxs := (forN n (fun s c => s.setCtx g c ((s.ctx g c).fresh g c)) t).ctxs } := fun t n => by
    induction n with
    | zero => rfl
    | succ n ih => rw [forN_succ, ih]; rfl
  refine ⟨by rw [hrest]; rfl, ?_, fun c hc => ?_⟩
  · rw [hrest]
    unfold State.eng
    exact congrArg Engine.run (sget_sput_ne_default _ _ (by simp [Engine.reset]))
  · obtain ⟨m, -, hm⟩ := forN_at (R := fun s t : State => t.ctx g c = s.ctx g c) (fun _ => rfl) (fun h k => k.trans h)
      (f := fun s c => s.setCtx g c ((s.ctx g c).fresh g c)) (g := c) (fun i hi t => t.setCtx_ctx_ne _ (by omega))
      (n := nctx g) (by omega) (s.setEng g ⟨true, false, false, nctx g - 1⟩)
    rw [hm, show (m.setCtx g c ((m.ctx g c).fresh g c)).ctx g c = (m.ctx g c).fresh g c from sget_sput_ne_default _ _ (by simp [Ctx.fresh, Ctx.reset])]
    exact ⟨rfl, rfl⟩

/-- A group in the span that is not held begins while the Envelope runs. -/
theorem State.groupStart_begins {s : State} {g : Nat} (hg : g < 16) (hc : s.canonical) (hb : s.start.rxbusy = false) (hs : s.pwr.hs = none)
    (hr : s.env.st = .run) (hw : s.env.survWait = false) (hh : s.held g = false) : GroupBegun g s (s.groupStart g) := by
  obtain ⟨hrest, heng, hctx⟩ := State.engStart_begins hg hb hs
  have hb := (s.engStart g).groupRest_beside g
  have hcanon := (s.engStart_keeps g).canonical hc
  unfold State.groupStart
  refine ⟨restOf hrest hb.rest, (congrArg Engine.run (hb.eng g)).trans heng, fun c hc => by rw [hb.ctx]; exact hctx c hc, fun i hi ho => ?_⟩
  have hl : (s.engStart g).lane (8 * g + i) = s.lane (8 * g + i) := by
    rw [hrest]
    rfl
  rw [State.groupRest_lane hcanon.lanes hi (by rw [hl, ho]; decide) (by rw [hl, ho]; decide)]
  have hd : (8 * g + i) / 8 = g := by omega
  have hm : (s.engStart g).laneMuted (8 * g + i) = false := by
    have he : engOf (8 * g + i) = g ∧ ctxOf (8 * g + i) = i := by
      unfold engOf ctxOf
      rw [if_neg (by omega), if_neg (by omega)]
      omega
    unfold State.laneMuted
    dsimp only
    rw [he.1, he.2, (hctx i hi).1]
    rfl
  have hother : (s.engStart g).env = s.env ∧ (s.engStart g).held = s.held ∧ (s.engStart g).laneEnabled = s.laneEnabled ∧
      (s.engStart g).rfe = s.rfe := by
    rw [hrest]
    exact ⟨rfl, rfl, rfl, rfl⟩
  obtain ⟨h1, h2, h3, h4⟩ := hother
  unfold State.restState
  rw [if_neg (by omega), hd, heng, hm, h1, h2, h3, h4, hr, hw, hh]
  cases s.laneEnabled (8 * g + i) <;> simp

/-- Every group that the run starts has begun. -/
theorem State.groupsStart_begins {s : State} {g : Nat} (hg : g < 16) (hc : s.canonical) (hb : s.start.rxbusy = false) (hs : s.pwr.hs = none)
    (hr : s.env.st = .run) (hw : s.env.survWait = false) (hi : s.inSpan g = true) (hh : s.held g = false) (hn : (s.eng g).run = false) :
    GroupBegun g s s.groupsStart := by
  obtain ⟨m, hm, hlast⟩ := forN_at (R := GroupKept g) (.refl g) .trans (f := State.groupTry) (g := g)
    (fun i hi t => t.groupTry_groupKept hi) hg s
  have hkept : m.inSpan g = true ∧ m.held g = false ∧ m.start = s.start ∧ m.pwr = s.pwr ∧ m.env = s.env := by
    rw [hm.rest]
    exact ⟨hi, hh, rfl, rfl, rfl⟩
  obtain ⟨mi, mh, ms, mp, me⟩ := hkept
  have htry : m.groupTry g = m.groupStart g := by
    unfold State.groupTry
    rw [mi, mh, hm.eng, hn]
    rfl
  rw [htry] at hlast
  exact .before hm (.after (State.groupStart_begins hg (hm.keeps.canonical hc) (ms ▸ hb) (mp ▸ hs) (me ▸ hr) (me ▸ hw) mh) hlast)

theorem State.groupsStart_groupKept (s : State) : GroupKept 16 s s.groupsStart := by
  rw [State.groupsStart_eq]
  unfold forN
  exact groupKept_foldl _ (fun e he t => t.groupTry_groupKept (Nat.ne_of_lt (List.mem_range.1 he))) s

end Sys2Proof.Machine
end

section
/-! SUPPORT. The Envelope's start and stop (R110 to R112): what a write of `ENV_CTL` sets off, and what is lost at OFF. -/

namespace Sys2Proof.Machine

/-! ### The commands -/

theorem envelopeXwaitEnd_exec (t : Nat) (s : State) : exec (.envelopeXwaitEnd t) s =
    doneW (if (s.at_ t).env.st = .xwait && (s.at_ t).airClock then (s.at_ t).envOn else s.at_ t) := rfl

theorem envelopeRun_exec (t : Nat) (s : State) : exec (.envelopeRun t) s =
    doneW (if (s.at_ t).env.st = .starting then (s.at_ t).envRun else s.at_ t) := rfl

theorem surveyBegin_exec (t : Nat) (s : State) : exec (.surveyBegin t) s =
    doneW (if (s.at_ t).env.survWait && (s.at_ t).env.st = .run && (s.at_ t).lanesOff && (s.at_ t).env.interval = (s.at_ t).now then
      { s.at_ t with env := { (s.at_ t).env with st := .survey, survWait := false } } else s.at_ t) := rfl

theorem envelopeStopped_exec (t : Nat) (s : State) : exec (.envelopeStopped t) s =
    doneW (if (s.at_ t).env.st = .stopping && (List.range 16).all (fun g => !((s.at_ t).eng g).run) then
      (if (s.at_ t).envOff.flag Reg.ENV_CTL_EN then (s.at_ t).envOff.envOn else (s.at_ t).envOff) else s.at_ t) := rfl

/-! ### ENVELOPE_START -/

theorem env_ctl_regmap : onlyL Reg.ENV_CTL 3 = true ∧ immediateReg Reg.ENV_CTL = false ∧ threeKeeps Reg.ENV_CTL = [] ∧
    unitOf Reg.ENV_CTL = 17 := by decide +kernel

/-- The Envelope, off, takes a write of `ENV_CTL` at once: `r` are the registers then. -/
structure CtlTaken (s : State) (data : Word) (m : State) : Prop where
  rest : m = { s with regs := m.regs, cfg := { s.cfg with lag := m.cfg.lag, digBusy := m.cfg.digBusy } }
  self : m.reg Reg.ENV_CTL = mergeBits (s.reg Reg.ENV_CTL) 3 (mergeBits 0 3 data)
  other : ∀ a, a ≠ Reg.ENV_CTL → m.reg a = s.reg a

theorem State.envCtl_taken {s : State} (h : s.Calm) (data : Word) (ho : s.env.st = .off) :
    ∃ m, CtlTaken s data m ∧ s.writeReg Reg.ENV_CTL data = (m.onApply (s.waitOne Reg.ENV_CTL 3 data) 17).afterPend (some 17) := by
  obtain ⟨hl, hi, h3, hu⟩ := env_ctl_regmap
  have harm : (s.waitOne Reg.ENV_CTL 3 data).armed = [] := h.armed
  have hdue : (s.waitOne Reg.ENV_CTL 3 data).DueAt 17 :=
    ⟨h.canonical.regs, by decide, fun x hx => by rw [List.mem_singleton.1 hx]; exact hu, fun p hp => absurd (h.armed ▸ hp) (List.not_mem_nil),
      by rw [if_pos harm]; exact h.quiet.pend⟩
  have ht := hdue.taken
  refine ⟨((s.waitOne Reg.ENV_CTL 3 data).mergeWaits 17).mergeArmed 17, ⟨?_, ?_, fun a ha => ?_⟩, ?_⟩
  · refine ht.rest.trans ?_
    unfold State.waitOne
    rw [← h.quiet.waits, ← h.armed]
  · refine (ht.reg _ (by decide)).trans ?_
    unfold State.goes State.waitOne
    rw [List.filter_cons_of_pos (by simp)]
    simp [h.armed]
    rfl
  · by_cases hp : a = Reg.CFG_PEND
    · subst hp
      exact ht.pend.trans h.quiet.pend.symm
    · exact (ht.reg a hp).trans (State.goes_untouched (fun x hx => by rw [List.mem_singleton.1 hx]; exact Ne.symm ha)
        fun p hp => absurd (h.armed ▸ hp) (List.not_mem_nil))
  · have hb : (s.waitOne Reg.ENV_CTL 3 data).atBoundary 17 = true := decide_eq_true ho
    rw [State.writeReg_onlyL hl, State.writeL_eq h.quiet.waits hi h3, hu, if_pos hb]
    rfl

/-- A 1 in EN while the Envelope is off: the start waits for the start calibration, or is made. -/
theorem State.envApply_on {m : State} (old : Word) (he : m.flag Reg.ENV_CTL_EN = true) (ho : m.env.st = .off) (hs : m.pwr.hs = none) :
    m.envApply old = if m.start.rcalT then { m with start := { m.start with deferEnv := true } } else m.envOn := by
  have hq : m.quiesced 1 = false := by
    unfold State.quiesced
    rw [hs]
  have hrest : ∀ t : State, t.env.st ≠ .run → t.env.st ≠ .survey →
      (if t.flag Reg.ENV_CTL_SURVEY then
        (if t.env.st = .run then forN 16 State.groupRest { t with env := { t.env with survWait := true } } else t)
      else if bitOf old 1 && (t.env.st = .run || t.env.st = .survey) then
        forN 16 State.groupRest { t with env := { t.env with st := .run, survWait := false } }
      else t) = t := fun t hr hv => by
    simp [hr, hv]
  unfold State.envApply
  dsimp only
  rw [if_pos he, if_pos ho, hq, if_neg Bool.false_ne_true]
  refine hrest _ ?_ ?_ <;> unfold State.envOn <;> dsimp only <;> split_ifs <;> simp [ho]

/-- What an Envelope switched on shows: STARTING on the crystal, else XWAIT; nothing else changes but the tap. -/
structure EnvBegun (m t : State) : Prop where
  rest : t = { m with env := t.env, pwr := { m.pwr with stap := t.pwr.stap } }
  starts : m.airClock = true → t.env.st = .starting ∧ t.env.active = m.chains ∧ t.pwr.stap = m.tapOf
  waits : m.airClock = false → t.env.st = .xwait ∧ t.env.active = 0

theorem State.envOn_begins (m : State) : EnvBegun m m.envOn := by
  unfold State.envOn
  cases h : m.airClock
  · exact ⟨rfl, fun hn => absurd (h.symm.trans hn) (by decide), fun _ => ⟨rfl, rfl⟩⟩
  · exact ⟨rfl, fun _ => ⟨rfl, rfl, rfl⟩, fun hn => absurd (h.symm.trans hn) (by decide)⟩

/-- A flag is its bit. -/
theorem State.flag_eq_bitOf (s : State) (a i : Nat) : s.flag ⟨a, i, 1⟩ = bitOf (s.reg a) i := by
  have hbit := fget_testBit (s.reg a) ⟨a, i, 1⟩ 0
  have hlt : fget (s.reg a) ⟨a, i, 1⟩ < 2 := Nat.mod_lt _ (show 0 < 2 ^ 1 by decide)
  have hb : ∀ n < 2, (n != 0) = n.testBit 0 := by decide
  exact (hb _ hlt).trans (hbit.trans (by simp [bitOf]))

theorem bitOf_of_and {w x m : Word} {i : Nat} (h : w &&& m = x &&& m) (hm : bitOf m i = true) : bitOf w i = bitOf x i := by
  have hbit := congrArg (fun y => BitVec.getLsbD y i) h
  unfold bitOf at hm ⊢
  simpa [BitVec.getLsbD_and, hm] using hbit

/-- What a start makes of the Envelope: it waits for the start calibration, for the crystal, or goes on to STARTING. -/
def EnvAsked (s : State) (data : Word) (u : State) : Prop :=
  u.reg Reg.ENV_CTL &&& 3 = data &&& 3 ∧ s.regsBut u [Reg.ENV_CTL] ∧ u.mem = s.mem ∧
    if s.start.rcalT then u.env.st = .off ∧ u.start.deferEnv = true
    else if s.tb.src = .xtal ∧ s.tb.pll = true then u.env.st = .starting ∧ u.env.active = s.chains ∧ u.pwr.stap = s.tapOf
    else u.env.st = .xwait ∧ u.env.active = 0

section
variable {s m : State} {data : Word} (h : CtlTaken s data m)
include h

theorem CtlTaken.get {f : Field} (hf : f.addr ≠ Reg.ENV_CTL) : m.get f = s.get f := congrArg (fun w => fget w f) (h.other _ hf)

theorem CtlTaken.flag {f : Field} (hf : f.addr ≠ Reg.ENV_CTL) : m.flag f = s.flag f := congrArg (· != 0) (h.get hf)

theorem CtlTaken.same : m.env = s.env ∧ m.start = s.start ∧ m.pwr = s.pwr ∧ m.tb = s.tb ∧ m.mem = s.mem ∧ m.waits = s.waits ∧
    m.cfg.held = s.cfg.held := by
  rw [h.rest]
  exact ⟨rfl, rfl, rfl, rfl, rfl, rfl, rfl⟩

theorem CtlTaken.chains : m.chains = s.chains := by
  unfold State.chains State.fitted
  rw [h.get (by decide), h.get (by decide)]

theorem CtlTaken.tapOf : m.tapOf = s.tapOf := by
  unfold State.tapOf
  rw [h.get (by decide)]

theorem CtlTaken.airClock : m.airClock = decide (s.tb.src = .xtal ∧ s.tb.pll = true) := by
  obtain ⟨-, -, -, htb, -⟩ := h.same
  unfold State.airClock
  rw [htb]
  simp

theorem CtlTaken.quiet (q : s.Quiet) (hsp : s.flag Reg.RFE_SPCTL_EN = false) : m.Quiet := by
  obtain ⟨-, hst, hp, -, -, hw, hc⟩ := h.same
  exact ⟨hw.trans q.waits, (h.other _ (by decide)).trans q.pend, hc.trans q.held, .inr ((h.flag (by decide)).trans hsp), by rw [hp]; exact q.awake,
    by rw [hp]; exact q.entry, by rw [hp]; exact q.wake, by rw [hp]; exact q.cores, by rw [hp]; exact q.got, by rw [hst]; exact q.req⟩

/-- EN has become 1. -/
theorem CtlTaken.enabled (hd : bitOf data 0 = true) : m.flag Reg.ENV_CTL_EN = true ∧ m.reg Reg.ENV_CTL &&& 3 = data &&& 3 := by
  have hand : m.reg Reg.ENV_CTL &&& 3 = data &&& 3 := by
    rw [h.self, mergeBits_and, mergeBits_and]
  exact ⟨(m.flag_eq_bitOf _ 0).trans ((bitOf_of_and hand (by decide)).trans hd), hand⟩

/-- The start in every case, as the command leaves it. -/
theorem CtlTaken.asked (q : s.Quiet) (hsp : s.flag Reg.RFE_SPCTL_EN = false) (ho : s.env.st = .off) (he : s.flag Reg.ENV_CTL_EN = false)
    (hd : bitOf data 0 = true) :
    (m.onApply (s.waitOne Reg.ENV_CTL 3 data) 17).Quiet ∧ EnvAsked s data (m.onApply (s.waitOne Reg.ENV_CTL 3 data) 17) := by
  obtain ⟨henv, hst, hp, -, hm, -, -⟩ := h.same
  obtain ⟨hen, hand⟩ := h.enabled hd
  have hne : (m.reg Reg.ENV_CTL != (s.waitOne Reg.ENV_CTL 3 data).reg Reg.ENV_CTL) = true := by
    refine bne_iff_ne.2 fun heq => ?_
    have h0 : m.flag Reg.ENV_CTL_EN = s.flag Reg.ENV_CTL_EN := congrArg (fun w => fget w Reg.ENV_CTL_EN != 0) heq
    rw [hen, he] at h0
    exact absurd h0 (by decide)
  have hsv : (m.reg Reg.ENV_SVBASE != (s.waitOne Reg.ENV_CTL 3 data).reg Reg.ENV_SVBASE) = false := by
    rw [h.other _ (by decide), bne_eq_false_iff_eq]
    rfl
  have happly : m.onApply (s.waitOne Reg.ENV_CTL 3 data) 17 =
      if s.start.rcalT then { m with start := { m.start with deferEnv := true } } else m.envOn := by
    have hx : m.onApply (s.waitOne Reg.ENV_CTL 3 data) 17 =
      let t := if m.reg Reg.ENV_CTL != (s.waitOne Reg.ENV_CTL 3 data).reg Reg.ENV_CTL then m.envApply (s.reg Reg.ENV_CTL) else m
      if m.reg Reg.ENV_SVBASE != (s.waitOne Reg.ENV_CTL 3 data).reg Reg.ENV_SVBASE then t.txqOverlap else t := rfl
    rw [hx, hne, hsv, State.envApply_on _ hen (by rw [henv]; exact ho) (by rw [hp]; exact q.entry), hst]
    rfl
  have q' := h.quiet q hsp
  have hregs : s.regsBut m [Reg.ENV_CTL] := fun x hx => h.other x (by simpa using hx)
  rw [happly]
  unfold EnvAsked
  cases hr : s.start.rcalT
  · have hb := m.envOn_begins
    rw [if_neg Bool.false_ne_true, if_neg Bool.false_ne_true]
    refine ⟨?_, ?_, ?_, ?_, ?_⟩
    · rw [hb.rest]
      exact { q' with single := .inr ((h.flag (by decide)).trans hsp) }
    · rw [hb.rest]; exact hand
    · rw [hb.rest]; exact hregs
    · rw [hb.rest]; exact hm
    · by_cases hx : s.tb.src = .xtal ∧ s.tb.pll = true
      · rw [if_pos hx, ← h.chains, ← h.tapOf]
        exact hb.starts (h.airClock.trans (decide_eq_true hx))
      · rw [if_neg hx]
        exact hb.waits (h.airClock.trans (decide_eq_false hx))
  · exact ⟨{ q' with }, hand, hregs, hm, by rw [henv]; exact ho, rfl⟩

end

theorem EnvAsked.settles {s t u : State} {data : Word} (h : EnvAsked s data t) (hu : Settles t u) : EnvAsked s data u := by
  unfold EnvAsked State.regsBut
  simp only [hu.reg, hu.mem, hu.env, hu.start, hu.pwr_stap]
  exact h

/-- ENVELOPE_START. -/
theorem envelopeStart_asks {s : State} {data : Word} (h : s.Calm) (hsp : s.flag Reg.RFE_SPCTL_EN = false) (ho : s.env.st = .off)
    (he : s.flag Reg.ENV_CTL_EN = false) (hd : bitOf data 0 = true) : ∃ u, exec (.envelopeStart data) s = .next u ∧ EnvAsked s data u := by
  obtain ⟨m, hm, hw⟩ := State.envCtl_taken h data ho
  obtain ⟨hq, hasked⟩ := hm.asked h.quiet hsp ho he hd
  obtain ⟨u, hu, hset⟩ := doneW_settles hq
  have hx : exec (.envelopeStart data) s = doneW (s.writeReg Reg.ENV_CTL data) := rfl
  exact ⟨u, by rw [hx, hw, hq.afterPend, hu], hasked.settles hset⟩

/-! ### ENVELOPE_STOPPED -/

theorem State.deposit_beside (s : State) (k : Nat) : Beside s (s.deposit k) := by
  unfold State.deposit
  dsimp only
  split
  · split
    · exact .refl s
    · exact (s.setBytes_beside _ _).trans ((State.muddy_beside _ _ _).trans (State.updLane_beside _ _ _))
  · exact .refl s

theorem State.depositAll_beside (s : State) : Beside s s.depositAll := beside_foldl State.deposit_beside _ s

theorem Beside.engs {s t : State} (h : Beside s t) : t.engs = s.engs := by rw [h]

/-- Time moves no engine. -/
theorem State.engs_at (s : State) (t : Nat) : (s.at_ t).engs = s.engs := (State.depositAll_beside _).engs

/-- VALID of every channel falls. -/
def State.validLost (s : State) : State := forN 128 (fun s k => s.put (Reg.ENV_NF_VALID k) 0) s

theorem State.validLost_rest (s : State) : s.validLost = { s with regs := s.validLost.regs } := by
  have h : ∀ n, forN n (fun s k => s.put (Reg.ENV_NF_VALID k) 0) s =
      { s with regs := (forN n (fun s k => s.put (Reg.ENV_NF_VALID k) 0) s).regs } := fun n => by
    induction n with
    | zero => rfl
    | succ n ih => rw [forN_succ, ih]; rfl
  exact h 128

theorem State.validLost_turned (s : State) : Turned s s.validLost := by
  unfold State.validLost forN
  exact turned_foldl (List.range 128) (fun k hk t => t.put_turned 0 (.inl ⟨k, List.mem_range.1 hk, rfl⟩)) s

theorem State.validLost_flag {s : State} (hs : Swf regReset s.regs) {k : Nat} (hk : k < 128) :
    s.validLost.flag (Reg.ENV_NF_VALID k) = false := by
  obtain ⟨m, hm, hlast⟩ := forN_at (R := fun s t : State => (Swf regReset s.regs → Swf regReset t.regs) ∧ t.reg (Reg.ENV_NF k) = s.reg (Reg.ENV_NF k))
    (fun _ => ⟨id, rfl⟩) (fun h k => ⟨k.1 ∘ h.1, k.2.trans h.2⟩) (f := fun s k => s.put (Reg.ENV_NF_VALID k) 0) (g := k)
    (fun i hi t => ⟨fun h => Swf_sput h _ _, t.put_reg_ne _ 0 (show Reg.ENV_NF k ≠ Reg.ENV_NF i by unfold Reg.ENV_NF; omega)⟩) hk s
  have hz := m.put_get_self (hm.1 hs) (Reg.ENV_NF_VALID k) 0 (show 31 + 1 ≤ 32 by decide)
  have hg : s.validLost.get (Reg.ENV_NF_VALID k) = (m.put (Reg.ENV_NF_VALID k) 0).get (Reg.ENV_NF_VALID k) :=
    congrArg (fun w => fget w (Reg.ENV_NF_VALID k)) hlast.2
  unfold State.flag
  rw [hg, hz]
  rfl

/-- The Envelope switched off, but for its noise floors and its lanes. -/
def State.envDown (s : State) : State :=
  { s with
    env := { s.env with st := .off, active := 0, survWait := false, clips := 0, busy := [], blankMask := 0, expA := 0, expB := 0 }
    pwr := { s.pwr with stap := 3 } }

theorem State.envOff_beside (s : State) : Beside s.envDown.validLost s.envOff := by
  have hx : s.envOff = forN 16 State.groupRest s.envDown.validLost := rfl
  rw [hx]
  unfold forN
  exact beside_foldl (fun t g => t.groupRest_beside g) (List.range 16) s.envDown.validLost

/-- What the end of a stop leaves. -/
structure EnvEnded (s u : State) : Prop where
  env : u.env = s.envDown.env
  pwr : u.pwr = s.envDown.pwr
  valid : ∀ k < 128, u.flag (Reg.ENV_NF_VALID k) = false
  engs : u.engs = s.engs
  reg : ∀ a, ¬turnReg a → u.reg a = s.reg a
  waits : u.waits = s.waits
  cfg : u.cfg = s.cfg
  start : u.start = s.start

theorem EnvEnded.of {s v t : State} (hr : v = { s.envDown with regs := v.regs }) (ht : Turned s.envDown v)
    (hf : ∀ k < 128, v.flag (Reg.ENV_NF_VALID k) = false) (hb : Beside v t) : EnvEnded s t := by
  rw [hb]
  exact ⟨by rw [hr], by rw [hr], hf, by rw [hr]; rfl, ht.reg, ht.waits, ht.cfg, ht.start⟩

theorem State.envOff_ends {s : State} (hs : Swf regReset s.regs) : EnvEnded s s.envOff :=
  .of s.envDown.validLost_rest s.envDown.validLost_turned (fun _ hk => s.envDown.validLost_flag hs hk) s.envOff_beside

theorem not_turnReg_ENV_CTL : ¬turnReg Reg.ENV_CTL := by
  rintro (⟨k, hk, he⟩ | he | he | he | ⟨i, hi, he⟩) <;> simp only [Reg.ENV_CTL, Reg.ENV_NF, Reg.ENV_SVSTAT, Reg.MEMC_BANKCTL, Reg.MEMC_RBANKCTL, Reg.EVL_WATCH] at he <;>
    omega

theorem EnvEnded.quiet {s u : State} (h : EnvEnded s u) (q : s.Quiet) : u.Quiet := by
  refine ⟨h.waits.trans q.waits, (h.reg _ not_turnReg_CFG_PEND).trans q.pend, by rw [h.cfg]; exact q.held, .inl (by rw [h.env]; rfl), ?_, ?_, ?_, ?_, ?_,
    by rw [h.start]; exact q.req⟩ <;> rw [h.pwr]
  · exact q.awake
  · exact q.entry
  · exact q.wake
  · exact q.cores
  · exact q.got

/-- ENVELOPE_STOPPED, once every group has stopped. -/
theorem envelopeStopped_ends {s : State} {t : Nat} (h : (s.at_ t).Calm) (hst : (s.at_ t).env.st = .stopping)
    (hall : ∀ g < 16, ((s.at_ t).eng g).run = false) (he : (s.at_ t).flag Reg.ENV_CTL_EN = false) :
    ∃ w u, exec (.envelopeStopped t) s = .next u ∧ EnvEnded (s.at_ t) w ∧ Settles w u := by
  have hends := State.envOff_ends h.canonical.regs
  have hgroups : ((s.at_ t).env.st = .stopping && (List.range 16).all fun g => !((s.at_ t).eng g).run) = true := by
    rw [hst]
    exact List.all_eq_true.2 fun g hg => by rw [hall g (List.mem_range.1 hg)]; rfl
  have hflag : (s.at_ t).envOff.flag Reg.ENV_CTL_EN = false :=
    (congrArg (fun w => fget w Reg.ENV_CTL_EN != 0) (hends.reg _ not_turnReg_ENV_CTL)).trans he
  have hx := envelopeStopped_exec t s
  rw [if_pos hgroups, hflag, if_neg Bool.false_ne_true] at hx
  obtain ⟨u, hu, hset⟩ := doneW_settles (hends.quiet h.quiet)
  exact ⟨_, u, hx.trans hu, hends, hset⟩

/-! ### ENVELOPE_RUN -/

/-- The Envelope in RUN before its groups start. -/
def State.envRunning (s : State) : State :=
  { s with env := { s.env with
      st := .run, interval := s.now / 40000 * 40000, busy := []
      blankMask := if s.now = s.now / 40000 * 40000 then 0 else subMask (s.now / 40000 * 40000) (s.now / 40000 * 40000) s.now } }

theorem State.envRun_eq (s : State) : s.envRun = s.envRunning.groupsStart := rfl

theorem GroupKept.quiet {g : Nat} {s t : State} (h : GroupKept g s t) (q : s.Quiet) : t.Quiet := by
  rw [h.rest]
  exact { q with }

/-- A context that is READY stays as it is when a command settles. -/
theorem Settles.ctx_ready {v u : State} (h : Settles v u) {e c : Nat} (hr : (v.ctx e c).st = .ready) : u.ctx e c = v.ctx e c :=
  (h.ctx e c).resolve_right fun hw => by rw [hr] at hw; exact absurd hw.1 (by decide)

theorem GroupBegun.settles {g : Nat} {s t u : State} (h : GroupBegun g s t) (hu : Settles t u) :
    (u.eng g).run = true ∧ (∀ c < 8, (u.ctx g c).st = .ready ∧ (u.ctx g c).pc = 0) ∧
      ∀ i < 8, (s.lane (8 * g + i)).st = .off →
        (u.lane (8 * g + i)).st = if s.laneEnabled (8 * g + i) = false then .off else if s.rfe.blank = true then .blank else .hunt :=
  ⟨by rw [hu.eng]; exact h.eng, fun c hc => by rw [hu.ctx_ready (h.ctx c hc).1]; exact h.ctx c hc,
    fun i hi ho => by rw [hu.lane]; exact h.lane i hi ho⟩

/-- ENVELOPE_RUN out of STARTING. -/
theorem envelopeRun_starts {s : State} {t : Nat} (h : (s.at_ t).Calm) (hsp : (s.at_ t).flag Reg.RFE_SPCTL_EN = false)
    (hst : (s.at_ t).env.st = .starting) (hb : (s.at_ t).start.rxbusy = false) (hw : (s.at_ t).env.survWait = false) :
    ∃ w u, exec (.envelopeRun t) s = .next u ∧ GroupKept 16 (s.at_ t).envRunning w ∧ Settles w u ∧
      ∀ g < 16, (s.at_ t).inSpan g = true → (s.at_ t).held g = false → ((s.at_ t).eng g).run = false → GroupBegun g (s.at_ t).envRunning w := by
  have hq : (s.at_ t).envRunning.Quiet := { h.quiet with single := .inr hsp }
  have hc : (s.at_ t).envRunning.canonical := { h.canonical with }
  have hkept := (s.at_ t).envRunning.groupsStart_groupKept
  have hx := envelopeRun_exec t s
  rw [if_pos hst, State.envRun_eq] at hx
  obtain ⟨u, hu, hset⟩ := doneW_settles (hkept.quiet hq)
  exact ⟨_, u, hx.trans hu, hkept, hset, fun g hg hi hh hn => State.groupsStart_begins hg hc hb h.quiet.entry rfl hw hi hh hn⟩

/-- Settles O27: each command by the lemma about it; where its condition fails it only advances time. -/
theorem envelopeStartsAndStops : Obligations.EnvelopeStartsAndStops := by
  unfold Obligations.EnvelopeStartsAndStops
  refine ⟨fun s data h hsp ho he hd => ?_, fun s t => ?_⟩
  · obtain ⟨u, hu, hasked⟩ := envelopeStart_asks h hsp ho he hd
    exact ⟨u, hu, hasked⟩
  · dsimp only
    intro h hsp
    refine ⟨fun hst hx hp => ?_, fun hn => ?_, fun hst hb hw => ?_, fun hn => ?_, fun hst hw hl hi => ?_, fun hn => ?_, fun hst hall he => ?_, ?_⟩
    · have hair : (s.at_ t).airClock = true := by simp [State.airClock, hx, hp]
      have hon : (s.at_ t).envOn = { s.at_ t with
          env := { (s.at_ t).env with
            st := .starting, active := (s.at_ t).chains
            expA := if (s.at_ t).env.agcHeld then 15 else 0, expB := if (s.at_ t).env.agcHeld then 15 else 0 }
          pwr := { (s.at_ t).pwr with stap := (s.at_ t).tapOf } } := if_pos hair
      exact does_doneW ((envelopeXwaitEnd_exec t s).trans (congrArg doneW ((if_pos (by simp [hst, hair])).trans hon))) { h.quiet with single := .inr hsp }
    · refine does_doneW ((envelopeXwaitEnd_exec t s).trans (congrArg doneW (if_neg ?_))) h.quiet
      rcases hn with hn | hn | hn <;> simp [State.airClock, hn]
    · obtain ⟨w, u, hu, hkept, hset, hbegun⟩ := envelopeRun_starts h hsp hst hb hw
      refine ⟨u, hu, ?_, ?_, fun g hg hi hh hn => (hbegun g hg hi hh hn).settles hset⟩
      · rw [hset.env, hkept.rest]; rfl
      · rw [hset.regs, hkept.rest]; rfl
    · exact does_doneW ((envelopeRun_exec t s).trans (congrArg doneW (if_neg hn))) h.quiet
    · exact does_doneW ((surveyBegin_exec t s).trans (congrArg doneW (if_pos (by simp [hst, hw, hl, hi])))) { h.quiet with single := .inr hsp }
    · refine does_doneW ((surveyBegin_exec t s).trans (congrArg doneW (if_neg ?_))) h.quiet
      rcases hn with hn | hn | hn <;> simp [hn]
    · obtain ⟨w, u, hu, hends, hset⟩ := envelopeStopped_ends h hst hall he
      refine ⟨u, hu, ?_, ?_, ?_, fun k hk => ?_, ?_⟩
      · rw [hset.env, hends.env]; rfl
      · rw [hset.env, hends.env]; rfl
      · rw [hset.pwr_stap, hends.pwr]; rfl
      · rw [hset.flag]; exact hends.valid k hk
      · rw [hset.engs, hends.engs]
        exact (s.engs_at t).symm
    · rintro ⟨g, hg, hrun⟩
      refine does_doneW ((envelopeStopped_exec t s).trans (congrArg doneW (if_neg ?_))) h.quiet
      rw [Bool.and_eq_true, not_and]
      exact fun _ hall => absurd (List.all_eq_true.1 hall g (List.mem_range.2 hg)) (by rw [hrun]; decide)

end Sys2Proof.Machine
end

section
/-! SUPPORT. Shadows against the values applied (R47 to R49): what the registers that differ are, and what a set of shadows makes of a
register. -/

namespace Sys2Proof.Machine

/-! ### Merging twice -/

theorem mergeBits_getElem (w m v : Word) (i : Nat) (h : i < 32) : (mergeBits w m v)[i] = if m[i] then v[i] else w[i] := by
  unfold mergeBits
  simp only [BitVec.getElem_or, BitVec.getElem_and, BitVec.getElem_not]
  cases m[i] <;> simp

theorem mergeBits_mergeBits (w m x y : Word) : mergeBits (mergeBits w m x) m y = mergeBits w m y := by
  ext i hi
  simp only [mergeBits_getElem]
  cases m[i] <;> rfl

theorem mergeBits_of_agree {w m v : Word} (h : (v ^^^ w) &&& m = 0) : mergeBits w m v = w := by
  ext i hi
  rw [mergeBits_getElem]
  have hb : ((v ^^^ w) &&& m)[i] = (0 : Word)[i] := by rw [h]
  simp only [BitVec.getElem_and, BitVec.getElem_xor] at hb
  cases hm : m[i] <;> simp_all

/-- Values that are all the same merge like one of them. -/
theorem foldl_mergeBits_same {m v : Word} {l : List (Nat × Word)} (h : ∀ p ∈ l, p.2 = v) (hl : l ≠ []) (w : Word) :
    l.foldl (fun w p => mergeBits w m p.2) w = mergeBits w m v := by
  induction l generalizing w with
  | nil => exact absurd rfl hl
  | cons p l ih =>
    rw [List.foldl_cons, h p (by simp)]
    by_cases he : l = []
    · rw [he]
      rfl
    · rw [ih (fun q hq => h q (List.mem_cons_of_mem _ hq)) he, mergeBits_mergeBits]

/-! ### The registers with a shadow -/

theorem sRegs_masks : ∀ p ∈ sRegs, sMask p.1 = p.2 ∧ p.2 ≠ 0 := by decide +kernel

theorem regRow?_base {a : Nat} {r : RegRow} (h : regRow? a = some r) : r ∈ regRows ∧ ∃ i < r.count, a = r.base + r.stride * i := by
  have hp := List.find?_some h
  simp only [Bool.and_eq_true, decide_eq_true_eq, beq_iff_eq] at hp
  obtain ⟨⟨hb, hm⟩, hc⟩ := hp
  refine ⟨List.mem_of_find?_eq_some h, _, hc, ?_⟩
  have := Nat.div_add_mod (a - r.base) r.stride
  omega

theorem mem_sRegs {a : Nat} (h : sMask a ≠ 0) : (a, sMask a) ∈ sRegs := by
  unfold sMask at h ⊢
  cases hr : regRow? a with
  | none => rw [hr] at h; exact absurd rfl h
  | some r =>
    rw [hr] at h
    obtain ⟨hmem, i, hi, ha⟩ := regRow?_base hr
    refine List.mem_flatMap.2 ⟨r, hmem, ?_⟩
    rw [if_neg h]
    exact List.mem_map.2 ⟨i, List.mem_range.2 hi, by rw [← ha]⟩

/-- What the register at `a` applies once it has taken its shadow. -/
def State.target (s : State) (a : Nat) : Word := mergeBits (s.reg a) (sMask a) (s.shadowOf a)

theorem mem_shadowDiff {s : State} {p : Nat × Word} : p ∈ s.shadowDiff ↔
    sMask p.1 ≠ 0 ∧ p.2 = s.shadowOf p.1 ∧ (s.shadowOf p.1 ^^^ s.reg p.1) &&& sMask p.1 ≠ 0 := by
  unfold State.shadowDiff
  rw [List.mem_filterMap]
  constructor
  · rintro ⟨q, hq, he⟩
    obtain ⟨hm, h0⟩ := sRegs_masks q hq
    split at he
    · cases he
    · rename_i hd
      obtain rfl := Option.some.inj he
      exact ⟨hm ▸ h0, rfl, hm ▸ hd⟩
  · rintro ⟨h0, hv, hd⟩
    refine ⟨_, mem_sRegs h0, ?_⟩
    rw [if_neg hd, ← hv]

/-- The set of the shadows that differ gives each register its target. -/
theorem State.foldl_shadowDiff (s : State) {a : Nat} (h : sMask a ≠ 0) :
    (s.shadowDiff.filter fun p => p.1 = a).foldl (fun w p => mergeBits w (sMask a) p.2) (s.reg a) = s.target a := by
  by_cases hd : (s.shadowOf a ^^^ s.reg a) &&& sMask a = 0
  · rw [List.filter_eq_nil_iff.2 fun p hp => ?_]
    · exact (mergeBits_of_agree hd).symm
    · rintro ha
      obtain rfl := of_decide_eq_true ha
      exact (mem_shadowDiff.1 hp).2.2 hd
  · refine foldl_mergeBits_same (fun p hp => ?_) (fun hn => ?_) _
    · obtain ⟨hmem, ha⟩ := List.mem_filter.1 hp
      obtain rfl := of_decide_eq_true ha
      exact (mem_shadowDiff.1 hmem).2.1
    · have hmem : (a, s.shadowOf a) ∈ s.shadowDiff.filter fun p => p.1 = a :=
        List.mem_filter.2 ⟨mem_shadowDiff.2 ⟨h, rfl, hd⟩, by simp⟩
      rw [hn] at hmem
      exact absurd hmem (List.not_mem_nil)

theorem State.shadowDiff_congr {s t : State} (hs : t.shadow = s.shadow) (hr : ∀ a, sMask a ≠ 0 → t.reg a = s.reg a) :
    t.shadowDiff = s.shadowDiff := by
  unfold State.shadowDiff
  refine List.filterMap_congr fun p hp => ?_
  obtain ⟨hm, h0⟩ := sRegs_masks p hp
  have hsh : t.shadowOf p.1 = s.shadowOf p.1 := congrArg (fun m => sget regReset m p.1) hs
  rw [hsh, hr p.1 (by rw [hm]; exact h0)]

end Sys2Proof.Machine
end

section
/-! SUPPORT. LINK takes what waits for it at a slot start, its writes and its armed set, and an epoch switch that fires there (R45, R48,
R49, R51, R202). -/

namespace Sys2Proof.Machine

/-- The registers of LINK whose writes may wait here: none has a shadow. -/
def slotRegs : List Nat :=
  [Reg.LINK_PARENT, Reg.LINK_RCFG 0, Reg.LINK_RCFG 1, Reg.LINK_RBASE 0, Reg.LINK_RBASE 1, Reg.LINK_EVCSET_LO, Reg.LINK_EVCSET_HI,
    Reg.LINK_DWSEL, Reg.LINK_LSEL]

/-- The registers that LINK's own hook clears (R241). -/
def ringRegs : List Nat := [Reg.LINK_RPUT 0, Reg.LINK_RTAKE 0, Reg.LINK_RPUT 1, Reg.LINK_RTAKE 1]

theorem slotRegs_regmap : ∀ a ∈ slotRegs, unitOf a = 18 ∧ sMask a = 0 ∧ a ∉ ringRegs := by decide +kernel

theorem ringRegs_regmap : ∀ a ∈ ringRegs, unitOf a = 18 ∧ sMask a = 0 := by decide +kernel

/-- The registers that a switch itself writes, beside the shadows it applies. -/
def switchRegs : List Nat := [Reg.CFG_PEND, Reg.CFG_EPOCH, Reg.CFG_STATUS]

theorem switchRegs_regmap : ∀ a ∈ switchRegs, unitOf a = 31 ∧ sMask a = 0 := by decide +kernel

/-- The value of the register at `a` once its waiting writes are taken. -/
def State.waited (s : State) (a : Nat) : Word := (s.waits.filter fun x => x.addr = a).foldl (fun w x => mergeBits w x.mask x.val) (s.reg a)

/-- The value of the register at `a` once its armed bits are taken. -/
def State.taken (s : State) (a : Nat) : Word := (s.armed.filter fun p => p.1 = a).foldl (fun w p => mergeBits w (sMask a) p.2) (s.reg a)

/-- Writes, an armed set and shadows wait for LINK, and for no other unit. -/
structure LinkWaits (s : State) : Prop where
  regs : Swf regReset s.regs
  waits : ∀ x ∈ s.waits, x.addr ∈ slotRegs
  armed : ∀ p ∈ s.armed, unitOf p.1 = 18 ∧ sMask p.1 ≠ 0
  diff : ∀ p ∈ s.shadowDiff, unitOf p.1 = 18
  pend : s.pend = if s.armed = [] then 0 else 0x40000

/-- `t` is `s` but for what LINK takes and an epoch switch does. -/
structure LinkSteps (s t : State) : Prop where
  rest : t = { s with
    regs := t.regs, waits := t.waits, armed := t.armed, cfg := t.cfg, ctxs := t.ctxs, link := { s.link with dwell := t.link.dwell } }
  swf : Swf regReset s.regs → Swf regReset t.regs
  other : ∀ a, unitOf a ≠ 18 → a ∉ switchRegs → t.reg a = s.reg a
  waited : ∀ a ∈ slotRegs, t.waited a = s.waited a
  target : ∀ a, sMask a ≠ 0 → unitOf a = 18 → t.target a = s.target a
  sub : ∀ x ∈ t.waits, x ∈ s.waits

theorem LinkSteps.refl (s : State) : LinkSteps s s :=
  ⟨rfl, id, fun _ _ _ => rfl, fun _ _ => rfl, fun _ _ _ => rfl, fun _ h => h⟩

theorem LinkSteps.trans {s t u : State} (h : LinkSteps s t) (k : LinkSteps t u) : LinkSteps s u :=
  ⟨by rw [k.rest, h.rest], k.swf ∘ h.swf, fun a hu hc => (k.other a hu hc).trans (h.other a hu hc),
    fun a ha => (k.waited a ha).trans (h.waited a ha), fun a hm hu => (k.target a hm hu).trans (h.target a hm hu),
    fun x hx => h.sub x (k.sub x hx)⟩

theorem LinkSteps.shadow {s t : State} (h : LinkSteps s t) : t.shadow = s.shadow := by rw [h.rest]

/-- The registers that differ from their shadows stay those of LINK. -/
theorem LinkSteps.diff {s t : State} (h : LinkSteps s t) (hs : ∀ p ∈ s.shadowDiff, unitOf p.1 = 18) : ∀ p ∈ t.shadowDiff, unitOf p.1 = 18 := by
  intro p hp
  obtain ⟨hm, hv, hd⟩ := mem_shadowDiff.1 hp
  by_contra hu
  have hr : t.reg p.1 = s.reg p.1 := h.other _ hu fun hc => hm (switchRegs_regmap _ hc).2
  have hsh : t.shadowOf p.1 = s.shadowOf p.1 := congrArg (fun m => sget regReset m p.1) h.shadow
  exact hu (hs p (mem_shadowDiff.2 ⟨hm, hv.trans hsh, by rw [← hsh, ← hr]; exact hd⟩))

/-! ### LINK takes -/

theorem State.ringApply_reg (s old : State) (c : Nat) (a : Nat) (h : a ≠ Reg.LINK_RPUT c ∧ a ≠ Reg.LINK_RTAKE c) :
    (s.ringApply old c).reg a = s.reg a := by
  unfold State.ringApply
  split
  · rfl
  · exact (State.put_reg_ne _ _ _ h.2).trans (State.put_reg_ne _ _ _ h.1)

theorem State.ringApply_rest (s old : State) (c : Nat) : s.ringApply old c = { s with regs := (s.ringApply old c).regs } := by
  unfold State.ringApply
  split <;> rfl

theorem State.ringApply_swf {s : State} (old : State) (c : Nat) (h : Swf regReset s.regs) : Swf regReset (s.ringApply old c).regs := by
  unfold State.ringApply
  split
  · exact h
  · exact Swf_sput (Swf_sput h _ _) _ _

/-- What LINK's hook changes: the indices of the rings and the charges of the dwell windows. -/
structure HookRest (s t : State) : Prop where
  rest : t = { s with regs := t.regs, link := { s.link with dwell := t.link.dwell } }
  swf : Swf regReset s.regs → Swf regReset t.regs
  reg : ∀ a, a ∉ ringRegs → t.reg a = s.reg a

theorem State.onApply_hookRest (s old : State) : HookRest s (s.onApply old 18) := by
  have h0 := s.ringApply_rest old 0
  have h1 := (s.ringApply old 0).ringApply_rest old 1
  have hreg : ∀ a, a ∉ ringRegs → ((s.ringApply old 0).ringApply old 1).reg a = s.reg a := fun a ha => by
    simp only [ringRegs, List.mem_cons, List.not_mem_nil, or_false, not_or] at ha
    obtain ⟨p0, t0, p1, t1⟩ := ha
    exact (State.ringApply_reg _ _ _ _ ⟨p1, t1⟩).trans (State.ringApply_reg _ _ _ _ ⟨p0, t0⟩)
  have hs : Swf regReset s.regs → Swf regReset ((s.ringApply old 0).ringApply old 1).regs := fun h => State.ringApply_swf _ _ (State.ringApply_swf _ _ h)
  rw [State.onApply_link]
  generalize ((s.ringApply old 0).ringApply old 1) = t at *
  generalize s.ringApply old 0 = r at *
  split
  · exact ⟨by rw [h1, h0], hs, hreg⟩
  · exact ⟨by rw [h1, h0], hs, hreg⟩

end Sys2Proof.Machine
end

section
/-! SUPPORT. What LINK has taken, and what an epoch switch that fires at a slot start does (R48, R49, R51, R54). -/

namespace Sys2Proof.Machine

theorem foldl_mergeBits_absorb (m y : Word) (l : List (Nat × Word)) (w : Word) :
    mergeBits (l.foldl (fun w p => mergeBits w m p.2) w) m y = mergeBits w m y := by
  induction l generalizing w with
  | nil => rfl
  | cons p l ih => rw [List.foldl_cons, ih, mergeBits_mergeBits]

theorem filter_addr_nil {α : Type} {l : List α} {key : α → Nat} {a : Nat} (h : ∀ x ∈ l, key x ≠ a) : (l.filter fun x => key x = a) = [] :=
  List.filter_eq_nil_iff.2 fun x hx => by simpa using h x hx

section
variable {s : State} (h : LinkWaits s)
include h

theorem LinkWaits.dueAt : s.DueAt 18 where
  regs := h.regs
  unit := by decide
  waits := fun x hx => (slotRegs_regmap _ (h.waits x hx)).1
  armed := fun p hp => (h.armed p hp).1
  pend := h.pend

theorem LinkWaits.goes_slot {a : Nat} (ha : a ∈ slotRegs) : s.goes a = s.waited a := by
  unfold State.goes
  rw [filter_addr_nil (key := Prod.fst) fun p hp he => (h.armed p hp).2 (he ▸ (slotRegs_regmap a ha).2.1)]
  rfl

theorem LinkWaits.goes_shadowed {a : Nat} (ha : sMask a ≠ 0) : s.goes a = s.taken a := by
  unfold State.goes
  have hne : ∀ x ∈ s.waits, x.addr ≠ a := fun x hx he => ha (he ▸ (slotRegs_regmap _ (h.waits x hx)).2.1)
  rw [filter_addr_nil hne]
  rfl

theorem LinkWaits.goes_other {a : Nat} (ha : unitOf a ≠ 18) : s.goes a = s.reg a :=
  State.goes_untouched (fun x hx he => ha (he ▸ (slotRegs_regmap _ (h.waits x hx)).1)) fun p hp he => ha (he ▸ (h.armed p hp).1)

end

/-- What LINK leaves that has taken all that waited for it. -/
structure LinkTaken (s t : State) : Prop where
  steps : LinkSteps s t
  waits : t.waits = []
  armed : t.armed = []
  pend : t.pend = 0
  cfg : t.cfg = { s.cfg with lag := t.cfg.lag, digBusy := t.cfg.digBusy }
  switch : ∀ a ∈ switchRegs, a ≠ Reg.CFG_PEND → t.reg a = s.reg a
  taken : ∀ a, sMask a ≠ 0 → unitOf a = 18 → t.reg a = s.taken a

theorem Taken.link {s m t : State} (ht : Taken s m 18) (h : LinkWaits s) (hh : HookRest m t) : LinkTaken s t := by
  have hreg : ∀ a, a ∉ ringRegs → a ≠ Reg.CFG_PEND → t.reg a = s.goes a := fun a hr hp => (hh.reg a hr).trans (ht.reg a hp)
  have hring : ∀ a, unitOf a ≠ 18 ∨ sMask a ≠ 0 → a ∉ ringRegs := fun a ha hr => by
    obtain ⟨h1, h2⟩ := ringRegs_regmap a hr
    exact ha.elim (· h1) (· h2)
  have hpend : ∀ a, unitOf a = 18 → a ≠ Reg.CFG_PEND := fun a ha => ne_CFG_PEND (by decide) ha
  have htaken : ∀ a, sMask a ≠ 0 → unitOf a = 18 → t.reg a = s.taken a := fun a hm hu =>
    (hreg a (hring a (.inr hm)) (hpend a hu)).trans (h.goes_shadowed hm)
  have hwaits : t.waits = [] := by rw [hh.rest]; exact ht.waits
  have hshadow : t.shadow = s.shadow := by rw [hh.rest, ht.rest]
  refine ⟨⟨?_, fun _ => hh.swf ht.swf, fun a hu hc => ?_, fun a ha => ?_, fun a hm hu => ?_, fun x hx => ?_⟩, hwaits, ?_, ?_, ?_, fun a ha hp => ?_,
    htaken⟩
  · rw [hh.rest, ht.rest]
  · exact (hreg a (hring a (.inl hu)) fun he => hc (by simp [he, switchRegs])).trans (h.goes_other hu)
  · obtain ⟨hu, -, hr⟩ := slotRegs_regmap a ha
    have hw : t.waited a = t.reg a := by
      unfold State.waited
      rw [hwaits]
      rfl
    rw [hw, hreg a hr (hpend a hu), h.goes_slot ha]
  · have hsh : t.shadowOf a = s.shadowOf a := congrArg (fun m => sget regReset m a) hshadow
    unfold State.target
    rw [htaken a hm hu, hsh]
    exact foldl_mergeBits_absorb _ _ _ _
  · rw [hwaits] at hx
    exact absurd hx (List.not_mem_nil)
  · rw [hh.rest]; exact ht.armed
  · exact (hh.reg _ (by decide)).trans ht.pend
  · rw [hh.rest, ht.rest]
  · obtain ⟨hu, -⟩ := switchRegs_regmap a ha
    have hn : unitOf a ≠ 18 := by rw [hu]; decide
    exact (hreg a (hring a (.inl hn)) hp).trans (h.goes_other hn)

theorem LinkWaits.applyUnit {s : State} (h : LinkWaits s) : LinkTaken s (s.applyUnit 18) :=
  h.dueAt.taken.link h (State.onApply_hookRest _ _)

/-! ### The switch -/

theorem unitMask_link {ps : List (Nat × Word)} (h : ∀ p ∈ ps, unitOf p.1 = 18) : unitMask ps = if ps = [] then 0 else 0x40000 := by
  have hacc : ∀ qs : List (Nat × Word), (∀ p ∈ qs, unitOf p.1 = 18) →
      qs.foldl (fun w p => w ||| ((1 : Word) <<< unitOf p.1)) 0x40000 = 0x40000 := fun qs => by
    induction qs with
    | nil => exact fun _ => rfl
    | cons q qs ih =>
      intro hq
      rw [List.foldl_cons, hq q (by simp), show (0x40000 : Word) ||| (1 : Word) <<< 18 = 0x40000 by decide]
      exact ih fun p hp => hq p (List.mem_cons_of_mem _ hp)
  cases ps with
  | nil => rfl
  | cons p ps =>
    unfold unitMask
    rw [List.foldl_cons, h p (by simp), show (0 : Word) ||| (1 : Word) <<< 18 = 0x40000 by decide, if_neg (by simp)]
    exact hacc ps fun q hq => h q (List.mem_cons_of_mem _ hq)

theorem State.latchAll_rest (s : State) (code : Nat) : s.latchAll code = { s with ctxs := (s.latchAll code).ctxs } := by
  have hin : ∀ (t : State) (e n : Nat), forN n (fun s c => s.latch e c code) t = { t with ctxs := (forN n (fun s c => s.latch e c code) t).ctxs } :=
    fun t e n => by
      induction n with
      | zero => rfl
      | succ n ih => rw [forN_succ, ih]; rfl
  have hout : ∀ n, forN n (fun s e => if (s.eng e).run then forN (nctx e) (fun s c => s.latch e c code) s else s) s =
      { s with ctxs := (forN n (fun s e => if (s.eng e).run then forN (nctx e) (fun s c => s.latch e c code) s else s) s).ctxs } := fun n => by
    induction n with
    | zero => rfl
    | succ n ih =>
      rw [forN_succ]
      generalize forN n (fun s e => if (s.eng e).run then forN (nctx e) (fun s c => s.latch e c code) s else s) s = t at *
      split
      · rw [hin, ih]
      · exact ih
  exact hout 17

theorem State.setReg_linkSteps (s : State) {a : Nat} (w : Word) (ha : a ∈ switchRegs) : LinkSteps s (s.setReg a w) := by
  obtain ⟨hu, -⟩ := switchRegs_regmap a ha
  have hne : ∀ b, unitOf b = 18 → (s.setReg a w).reg b = s.reg b := fun b hb => s.setReg_reg_ne w fun he => by
    rw [he, hu] at hb
    exact absurd hb (by decide)
  refine ⟨rfl, fun h => Swf_sput h _ _, fun b _ hc => s.setReg_reg_ne w fun he => hc (he ▸ ha), fun b hb => ?_, fun b _ hb => ?_, fun _ h => h⟩
  · unfold State.waited
    rw [hne b (slotRegs_regmap b hb).1]
    rfl
  · unfold State.target
    rw [hne b hb]
    rfl

theorem LinkSteps.of_ctxs {s t : State} (h : t = { s with ctxs := t.ctxs }) : LinkSteps s t := by
  rw [h]
  exact ⟨rfl, id, fun _ _ _ => rfl, fun _ _ => rfl, fun _ _ _ => rfl, fun _ h => h⟩

/-- The switch as it stands before LINK applies its set. -/
def State.switchArmed (s : State) : State :=
  let s := s.put Reg.CFG_EPOCH_CUR ((s.get Reg.CFG_EPOCH_CUR + 1) % 65536)
  let armed := s.shadowDiff
  let s := ({ s with armed := armed, cfg := { s.cfg with switchT := s.now, lag := [] } } : State).setReg Reg.CFG_PEND (unitMask armed)
  s.latchAll 28

/-- One step of the units that apply at a switch. -/
def State.switchStep (here : Option Nat) (s : State) (u : Nat) : State :=
  if bitOf s.pend u && (s.atBoundary u || here == some u) then s.applyUnit u else s

/-- The switch once its units have applied: the acceptance window opens. -/
def State.switchClosed (s : State) : State :=
  { s with cfg := { s.cfg with
      window := s.get Reg.CFG_WIN_WINDOW
      stuckDone := false
      mixedAt := if s.pend = 0 then s.cfg.mixedAt else s.now } }

theorem State.epochSwitch_eq (s : State) (here : Option Nat) :
    s.epochSwitch here = (forN 32 (State.switchStep here) s.switchArmed).switchClosed := by
  unfold State.epochSwitch State.switchArmed State.switchStep State.switchClosed
  rfl

/-- A step of the units that apply at a switch: where LINK alone is pending, it alone applies. -/
theorem State.switchStep_skips {s : State} {here : Option Nat} {u : Nat} (h : bitOf s.pend u = false) : s.switchStep here u = s := by
  unfold State.switchStep
  rw [h]
  rfl

theorem forN_switchStep {s : State} (h : s.pend = if s.armed = [] then 0 else 0x40000) (ht : (s.applyUnit 18).pend = 0) :
    forN 32 (State.switchStep (some 18)) s = if s.armed = [] then s else s.applyUnit 18 := by
  have hzero : ∀ n, ∀ t : State, t.pend = 0 → forN n (State.switchStep (some 18)) t = t := fun n t h0 => by
    induction n with
    | zero => rfl
    | succ n ih => rw [forN_succ, ih, State.switchStep_skips (by rw [h0]; simp [bitOf])]
  by_cases ha : s.armed = []
  · rw [if_pos ha] at h ⊢
    exact hzero 32 s h
  · rw [if_neg ha] at h ⊢
    have hbit : ∀ u, bitOf s.pend u = decide (u = 18) := fun u => by rw [h]; exact bitOf_shiftLeft_one (n := 18) (by decide)
    have hlow : ∀ n ≤ 18, forN n (State.switchStep (some 18)) s = s := fun n => by
      induction n with
      | zero => exact fun _ => rfl
      | succ n ih =>
        intro hn
        rw [forN_succ, ih (by omega), State.switchStep_skips (by rw [hbit]; simp; omega)]
    have hhigh : ∀ n, forN (19 + n) (State.switchStep (some 18)) s = s.applyUnit 18 := fun n => by
      induction n with
      | zero =>
        rw [forN_succ, hlow 18 (by decide)]
        unfold State.switchStep
        rw [hbit]
        simp
      | succ n ih => rw [show 19 + (n + 1) = 19 + n + 1 from rfl, forN_succ, ih, State.switchStep_skips (by rw [ht]; simp [bitOf])]
    exact hhigh 13

/-- What the switch does before LINK applies its set. -/
structure SwitchArmed (s t : State) : Prop where
  steps : LinkSteps s t
  armed : t.armed = s.shadowDiff
  pend : t.pend = if s.shadowDiff = [] then 0 else 0x40000
  cur : t.get Reg.CFG_EPOCH_CUR = (s.get Reg.CFG_EPOCH_CUR + 1) % 65536
  status : t.reg Reg.CFG_STATUS = s.reg Reg.CFG_STATUS
  shadowed : ∀ a, sMask a ≠ 0 → t.reg a = s.reg a
  held : t.cfg.held = s.cfg.held
  sched : t.cfg.sched = s.cfg.sched

theorem SwitchArmed.of_ctxs {s t u : State} (h : SwitchArmed s t) (k : u = { t with ctxs := u.ctxs }) : SwitchArmed s u := by
  have hsteps := h.steps.trans (.of_ctxs k)
  rw [k] at hsteps ⊢
  exact ⟨hsteps, h.armed, h.pend, h.cur, h.status, h.shadowed, h.held, h.sched⟩

theorem State.switchArmed_arms {s : State} (hs : Swf regReset s.regs) (hd : ∀ p ∈ s.shadowDiff, unitOf p.1 = 18) : SwitchArmed s s.switchArmed := by
  have hput := s.setReg_linkSteps (fset (s.reg Reg.CFG_EPOCH) Reg.CFG_EPOCH_CUR ((s.get Reg.CFG_EPOCH_CUR + 1) % 65536))
    (show Reg.CFG_EPOCH ∈ switchRegs by decide)
  obtain ⟨p, hp⟩ : ∃ p, p = s.put Reg.CFG_EPOCH_CUR ((s.get Reg.CFG_EPOCH_CUR + 1) % 65536) := ⟨_, rfl⟩
  have hreg : ∀ a, a ≠ Reg.CFG_EPOCH → p.reg a = s.reg a := fun a ha => by rw [hp]; exact s.put_reg_ne _ _ ha
  have hshadow : ∀ a, sMask a ≠ 0 → ∀ b ∈ switchRegs, a ≠ b := fun a ha b hb he => ha (he ▸ (switchRegs_regmap b hb).2)
  have hdiff : p.shadowDiff = s.shadowDiff :=
    State.shadowDiff_congr (by rw [hp]; rfl) fun a ha => hreg a (hshadow a ha _ (by decide))
  have hcur : p.get Reg.CFG_EPOCH_CUR = (s.get Reg.CFG_EPOCH_CUR + 1) % 65536 := by
    rw [hp, s.put_get_self hs _ _ (by decide)]
    exact Nat.mod_mod _ _
  have hx : s.switchArmed =
      (({ p with armed := p.shadowDiff, cfg := { p.cfg with switchT := p.now, lag := [] } } : State).setReg Reg.CFG_PEND
        (unitMask p.shadowDiff)).latchAll 28 := by
    rw [hp]
    rfl
  rw [hx]
  refine .of_ctxs ?_ (State.latchAll_rest _ 28)
  obtain ⟨q, hq⟩ : ∃ q : State, q = { p with armed := p.shadowDiff, cfg := { p.cfg with switchT := p.now, lag := [] } } := ⟨_, rfl⟩
  have hpq : LinkSteps p q := by
    rw [hq]
    exact ⟨rfl, id, fun _ _ _ => rfl, fun _ _ => rfl, fun _ _ _ => rfl, fun _ h => h⟩
  have hqr : ∀ a, q.reg a = p.reg a := fun a => by rw [hq]; rfl
  have hswf : Swf regReset q.regs := hpq.swf (by rw [hp]; exact hput.swf hs)
  have hset := q.setReg_linkSteps (unitMask p.shadowDiff) (show Reg.CFG_PEND ∈ switchRegs by decide)
  rw [← hq]
  refine ⟨LinkSteps.trans (by rw [hp]; exact hput) (hpq.trans hset), ?_, ?_, ?_, ?_, fun a ha => ?_, ?_, ?_⟩
  · rw [State.setReg_armed, hq]
    exact hdiff
  · refine (q.setReg_reg_self hswf _ _).trans ?_
    rw [hdiff]
    exact unitMask_link hd
  · refine (congrArg (fun w => fget w Reg.CFG_EPOCH_CUR) ((q.setReg_reg_ne _ (by decide)).trans (hqr _))).trans hcur
  · exact (q.setReg_reg_ne _ (by decide)).trans ((hqr _).trans (hreg _ (by decide)))
  · exact (q.setReg_reg_ne _ (hshadow a ha _ (by decide))).trans ((hqr a).trans (hreg a (hshadow a ha _ (by decide))))
  · rw [State.setReg_cfg, hq, hp]
    rfl
  · rw [State.setReg_cfg, hq, hp]
    rfl

/-- What a switch leaves that LINK alone takes, at once. -/
structure Switched (s t : State) : Prop where
  steps : LinkSteps s t
  armed : t.armed = []
  pend : t.pend = 0
  cur : t.get Reg.CFG_EPOCH_CUR = (s.get Reg.CFG_EPOCH_CUR + 1) % 65536
  status : t.reg Reg.CFG_STATUS = s.reg Reg.CFG_STATUS
  held : t.cfg.held = s.cfg.held
  sched : t.cfg.sched = s.cfg.sched
  window : t.cfg.window = s.get Reg.CFG_WIN_WINDOW
  shadowed : ∀ a, sMask a ≠ 0 → unitOf a = 18 → t.reg a = s.target a

theorem LinkSteps.linkWaits {s t : State} (h : LinkSteps s t) (k : LinkWaits s) (ha : ∀ p ∈ t.armed, unitOf p.1 = 18 ∧ sMask p.1 ≠ 0)
    (hp : t.pend = if t.armed = [] then 0 else 0x40000) : LinkWaits t :=
  ⟨h.swf k.regs, fun x hx => k.waits x (h.sub x hx), ha, h.diff k.diff, hp⟩

/-- The switch before its window opens. -/
theorem Switched.close {s t : State} (hs : LinkSteps s t) (ha : t.armed = []) (hp : t.pend = 0)
    (hc : t.get Reg.CFG_EPOCH_CUR = (s.get Reg.CFG_EPOCH_CUR + 1) % 65536) (hst : t.reg Reg.CFG_STATUS = s.reg Reg.CFG_STATUS)
    (hh : t.cfg.held = s.cfg.held) (hsc : t.cfg.sched = s.cfg.sched) (ht : ∀ a, sMask a ≠ 0 → unitOf a = 18 → t.reg a = s.target a) :
    Switched s t.switchClosed := by
  have hclosed : LinkSteps t t.switchClosed := ⟨rfl, id, fun _ _ _ => rfl, fun _ _ => rfl, fun _ _ _ => rfl, fun _ h => h⟩
  exact ⟨hs.trans hclosed, ha, hp, hc, hst, hh, hsc,
    congrArg (fun w => fget w Reg.CFG_WIN_WINDOW) (hs.other Reg.CFG_WIN (by decide +kernel) (by decide)), ht⟩

section
variable {s m : State} (ha : SwitchArmed s m)
include ha

theorem SwitchArmed.linkWaits (h : LinkWaits s) : LinkWaits m :=
  ha.steps.linkWaits h (fun p hp => by rw [ha.armed] at hp; exact ⟨h.diff p hp, (mem_shadowDiff.1 hp).1⟩) (by rw [ha.pend, ha.armed])

theorem SwitchArmed.taken {a : Nat} (hm : sMask a ≠ 0) : m.taken a = s.target a := by
  unfold State.taken
  rw [ha.armed, ha.shadowed a hm]
  exact s.foldl_shadowDiff hm

/-- Nothing differs: no unit has anything to apply. -/
theorem SwitchArmed.closes_empty (hn : m.armed = []) : Switched s m.switchClosed := by
  refine .close ha.steps hn (by rw [ha.pend, ← ha.armed, if_pos hn]) ha.cur ha.status ha.held ha.sched fun a hm _ => ?_
  rw [← ha.taken hm]
  unfold State.taken
  rw [hn]
  rfl

theorem SwitchArmed.closes {t : State} (ht : LinkTaken m t) : Switched s t.switchClosed := by
  have hc : t.cfg.held = m.cfg.held ∧ t.cfg.sched = m.cfg.sched := by
    rw [ht.cfg]
    exact ⟨rfl, rfl⟩
  exact .close (ha.steps.trans ht.steps) ht.armed ht.pend
    ((congrArg (fun w => fget w Reg.CFG_EPOCH_CUR) (ht.switch _ (by decide) (by decide))).trans ha.cur)
    ((ht.switch _ (by decide) (by decide)).trans ha.status) (hc.1.trans ha.held) (hc.2.trans ha.sched)
    fun a hm hu => (ht.taken a hm hu).trans (ha.taken hm)

end

theorem LinkWaits.epochSwitch {s : State} (h : LinkWaits s) : Switched s (s.epochSwitch (some 18)) := by
  have ha := State.switchArmed_arms h.regs h.diff
  have ht := (ha.linkWaits h).applyUnit
  rw [State.epochSwitch_eq, forN_switchStep (ha.linkWaits h).pend ht.pend]
  by_cases hn : s.switchArmed.armed = []
  · rw [if_pos hn]
    exact ha.closes_empty hn
  · rw [if_neg hn]
    exact ha.closes ht

end Sys2Proof.Machine
end

section
/-! SUPPORT. The epoch side of a slot start (R51, R52, R202, R204): a switch that is due, LINK's boundary, a held switch. -/

namespace Sys2Proof.Machine

/-- LATE is set where `b` holds. -/
def State.lateIf (s : State) (b : Bool) : State := if b then s.put Reg.CFG_STATUS_LATE 1 else s

theorem State.lateIf_linkSteps (s : State) (b : Bool) : LinkSteps s (s.lateIf b) := by
  cases b
  · exact .refl s
  · exact s.setReg_linkSteps _ (by decide)

theorem State.lateIf_rest (s : State) (b : Bool) : s.lateIf b = { s with regs := (s.lateIf b).regs } := by cases b <;> rfl

theorem State.lateIf_reg (s : State) (b : Bool) {a : Nat} (h : a ≠ Reg.CFG_STATUS) : (s.lateIf b).reg a = s.reg a := by
  cases b
  · rfl
  · exact s.put_reg_ne _ _ h

theorem State.lateIf_flag {s : State} (hs : Swf regReset s.regs) (b : Bool) :
    (s.lateIf b).flag Reg.CFG_STATUS_LATE = (b || s.flag Reg.CFG_STATUS_LATE) := by
  cases b
  · rfl
  · exact congrArg (· != 0) (s.put_get_self hs Reg.CFG_STATUS_LATE 1 (by decide))

/-- Nothing waits for LINK any more, nor does a switch. -/
structure SlotEnd (c w : State) : Prop where
  steps : LinkSteps c w
  waits : w.waits = []
  armed : w.armed = []
  pend : w.pend = 0
  held : w.cfg.held = none

/-- A switch has fired at this slot start. -/
structure SlotSwitched (c w : State) (late : Bool) : Prop where
  cur : w.get Reg.CFG_EPOCH_CUR = (c.get Reg.CFG_EPOCH_CUR + 1) % 65536
  window : w.cfg.window = c.get Reg.CFG_WIN_WINDOW
  shadowed : ∀ a, sMask a ≠ 0 → unitOf a = 18 → w.reg a = c.target a
  late : w.flag Reg.CFG_STATUS_LATE = (late || c.flag Reg.CFG_STATUS_LATE)

/-- No switch has fired at this slot start. -/
structure SlotPlain (c w : State) : Prop where
  epoch : w.reg Reg.CFG_EPOCH = c.reg Reg.CFG_EPOCH
  window : w.cfg.window = c.cfg.window
  status : w.reg Reg.CFG_STATUS = c.reg Reg.CFG_STATUS
  taken : ∀ a, sMask a ≠ 0 → unitOf a = 18 → w.reg a = c.taken a

theorem LinkSteps.get_win {s t : State} (h : LinkSteps s t) : t.get Reg.CFG_WIN_WINDOW = s.get Reg.CFG_WIN_WINDOW :=
  congrArg (fun w => fget w Reg.CFG_WIN_WINDOW) (h.other Reg.CFG_WIN (by decide +kernel) (by decide))

theorem LinkTaken.held {s t : State} (h : LinkTaken s t) : t.cfg.held = s.cfg.held := by rw [h.cfg]

theorem LinkTaken.sched {s t : State} (h : LinkTaken s t) : t.cfg.sched = s.cfg.sched := by rw [h.cfg]

theorem LinkTaken.window {s t : State} (h : LinkTaken s t) : t.cfg.window = s.cfg.window := by rw [h.cfg]

theorem LinkTaken.switch_get {s t : State} (h : LinkTaken s t) {f : Field} (hf : f.addr ∈ switchRegs) (hp : f.addr ≠ Reg.CFG_PEND) : t.get f = s.get f :=
  congrArg (fun w => fget w f) (h.switch _ hf hp)

/-- No switch is due and none is held. -/
theorem LinkTaken.plain {c t : State} (h : LinkTaken c t) (hh : c.cfg.held = none) :
    SlotEnd c (t.afterPend (some 18)) ∧ SlotPlain c (t.afterPend (some 18)) ∧ (t.afterPend (some 18)).cfg.sched = c.cfg.sched := by
  have hx : t.afterPend (some 18) = t := by
    unfold State.afterPend
    rw [h.held, hh]
  rw [hx]
  exact ⟨⟨h.steps, h.waits, h.armed, h.pend, h.held.trans hh⟩,
    ⟨h.switch _ (by decide) (by decide), h.window, h.switch _ (by decide) (by decide), h.taken⟩, h.sched⟩

/-- A switch that has fired, with LATE as it may set it. -/
theorem Switched.lateIf {s t : State} (h : Switched s t) (hs : Swf regReset s.regs) (b : Bool) :
    SlotSwitched s (t.lateIf b) b ∧ (t.lateIf b).armed = [] ∧ (t.lateIf b).pend = 0 ∧ (t.lateIf b).cfg = t.cfg ∧ LinkSteps s (t.lateIf b) := by
  have hr := t.lateIf_rest b
  have harm : (t.lateIf b).armed = t.armed := by rw [hr]
  have hcfg : (t.lateIf b).cfg = t.cfg := by rw [hr]
  have hreg := fun a ha => t.lateIf_reg b (a := a) ha
  have hflag : t.flag Reg.CFG_STATUS_LATE = s.flag Reg.CFG_STATUS_LATE := congrArg (fun w => fget w Reg.CFG_STATUS_LATE != 0) h.status
  refine ⟨⟨(congrArg (fun w => fget w Reg.CFG_EPOCH_CUR) (hreg _ (by decide))).trans h.cur, by rw [hcfg]; exact h.window, fun a hm hu => ?_, ?_⟩,
    harm.trans h.armed, (hreg _ (by decide)).trans h.pend, hcfg, h.steps.trans (t.lateIf_linkSteps b)⟩
  · exact (hreg a fun he => hm (he ▸ (switchRegs_regmap _ (by decide)).2)).trans (h.shadowed a hm hu)
  · rw [State.lateIf_flag (h.steps.swf hs), hflag]

/-- A switch is due while no unit is pending: it fires, and LINK takes its writes after it. -/
theorem LinkTaken.after_switch {c e t : State} {b : Bool} (h : LinkTaken e t) (hs : SlotSwitched c e b) (ha : e.armed = []) (hst : LinkSteps c e)
    (hh : e.cfg.held = none) : SlotEnd c (t.afterPend (some 18)) ∧ SlotSwitched c (t.afterPend (some 18)) b ∧
      (t.afterPend (some 18)).cfg.sched = e.cfg.sched := by
  obtain ⟨hend, hplain, hsched⟩ := h.plain hh
  refine ⟨⟨hst.trans hend.steps, hend.waits, hend.armed, hend.pend, hend.held⟩,
    ⟨(congrArg (fun w => fget w Reg.CFG_EPOCH_CUR) hplain.epoch).trans hs.cur, hplain.window.trans hs.window, fun a hm hu => ?_,
      (congrArg (fun w => fget w Reg.CFG_STATUS_LATE != 0) hplain.status).trans hs.late⟩, hsched⟩
  rw [hplain.taken a hm hu, ← hs.shadowed a hm hu]
  unfold State.taken
  rw [ha]
  rfl

/-- A switch is held: it fires once LINK has taken its armed set. -/
theorem LinkTaken.held_fires {c t : State} {late : Bool} (h : LinkTaken c t) (hc : LinkWaits c) (hh : c.cfg.held = some late) :
    SlotEnd c (t.afterPend (some 18)) ∧ SlotSwitched c (t.afterPend (some 18)) late ∧ (t.afterPend (some 18)).cfg.sched = c.cfg.sched := by
  have hx : t.afterPend (some 18) = (({ t with cfg := { t.cfg with held := none } } : State).epochSwitch (some 18)).lateIf late := by
    unfold State.afterPend
    rw [h.held, hh]
    dsimp only
    rw [if_pos h.pend]
    rfl
  obtain ⟨f, hf⟩ : ∃ f : State, f = { t with cfg := { t.cfg with held := none } } := ⟨_, rfl⟩
  have htf : LinkSteps t f := by
    rw [hf]
    exact ⟨rfl, id, fun _ _ _ => rfl, fun _ _ => rfl, fun _ _ _ => rfl, fun _ h => h⟩
  have hcf := h.steps.trans htf
  have hsame : f.waits = [] ∧ f.armed = [] ∧ f.pend = 0 ∧ f.cfg.held = none ∧ f.cfg.sched = c.cfg.sched ∧
      (∀ a, f.reg a = t.reg a) := by
    rw [hf]
    exact ⟨h.waits, h.armed, h.pend, rfl, h.sched, fun _ => rfl⟩
  obtain ⟨hw, ha, hp, hheld, hsched, hreg⟩ := hsame
  have hf18 : LinkWaits f := hcf.linkWaits hc (by rw [ha]; simp) (by rw [ha, hp]; rfl)
  have hsw := hf18.epochSwitch
  rw [hx, ← hf]
  generalize f.epochSwitch (some 18) = e at *
  obtain ⟨hs, harm, hpend, hcfg, hsteps⟩ := hsw.lateIf hf18.regs late
  refine ⟨⟨hcf.trans hsteps, ?_, harm, hpend, by rw [hcfg, hsw.held, hheld]⟩, ⟨?_, ?_, fun a hm hu => ?_, ?_⟩, by rw [hcfg, hsw.sched, hsched]⟩
  · exact List.eq_nil_iff_forall_not_mem.2 fun x hx => by simpa [hw] using hsteps.sub x hx
  · rw [hs.cur]
    exact congrArg (fun n => (n + 1) % 65536) ((congrArg (fun w => fget w Reg.CFG_EPOCH_CUR) (hreg _)).trans (h.switch_get (by decide) (by decide)))
  · rw [hs.window, hcf.get_win]
  · rw [hs.shadowed a hm hu, hcf.target a hm hu]
  · rw [hs.late]
    exact congrArg (late || ·) (congrArg (fun w => fget w Reg.CFG_STATUS_LATE != 0) ((hreg _).trans (h.switch _ (by decide) (by decide))))

end Sys2Proof.Machine
end

section
/-! SUPPORT. A slot start as a whole (R202, R204 to R206): the count, the switch, LINK's boundary, the layout of the next slot. -/

namespace Sys2Proof.Machine

/-- The switch scheduled for `n` is due when the counter goes from `was` to its present value. -/
def State.slotDue (c : State) (was n : Nat) : Prop := c.cfg.sched = some n ∧ (n = c.link.evc ∨ (was < n ∧ n < c.link.evc))

theorem State.slotSwitch_none {c : State} {was : Nat} (h : ¬∃ n, c.slotDue was n) : c.slotSwitch was = c := by
  unfold State.slotSwitch
  split
  · rfl
  · rename_i n hn
    refine if_neg fun hd => h ⟨n, hn, ?_⟩
    unfold passedOver at hd
    simp only [Bool.or_eq_true, Bool.and_eq_true, decide_eq_true_eq] at hd
    exact hd.imp Eq.symm id

theorem State.slotSwitch_due {c : State} {was n : Nat} (h : c.slotDue was n) : c.slotSwitch was =
    (({ c with cfg := { c.cfg with sched := none } } : State).switchDue true (some 18)).lateIf (passedOver was c.link.evc n) := by
  obtain ⟨hn, hd⟩ := h
  have hp : (decide (c.link.evc = n) || passedOver was c.link.evc n) = true := by
    unfold passedOver
    simp only [Bool.or_eq_true, Bool.and_eq_true, decide_eq_true_eq]
    exact hd.imp Eq.symm id
  unfold State.slotSwitch
  rw [hn]
  dsimp only
  rw [if_pos hp]
  rfl

theorem passedOver_iff {c : State} {was n : Nat} (h : c.slotDue was n) : passedOver was c.link.evc n = true ↔ n ≠ c.link.evc := by
  unfold passedOver
  simp only [Bool.and_eq_true, decide_eq_true_eq]
  rcases h.2 with rfl | ⟨h1, h2⟩ <;> omega

/-- How the switches stand after a slot start. -/
structure SlotTurned (c : State) (was : Nat) (w : State) : Prop where
  ends : SlotEnd c w
  fired : (∃ n, c.slotDue was n) ∨ c.cfg.held ≠ none → ∃ late, SlotSwitched c w late ∧
    (late = true ↔ c.cfg.held = some true ∨ ∃ n, c.slotDue was n ∧ (n ≠ c.link.evc ∨ c.pend ≠ 0))
  plain : ¬((∃ n, c.slotDue was n) ∨ c.cfg.held ≠ none) → SlotPlain c w
  gone : (∃ n, c.slotDue was n) → w.cfg.sched = none
  kept : (¬∃ n, c.slotDue was n) → w.cfg.sched = c.cfg.sched

theorem LinkWaits.of_cfg {c d : State} (h : LinkWaits c) (e : d = { c with cfg := d.cfg }) : LinkWaits d ∧ LinkSteps c d := by
  rw [e]
  exact ⟨{ h with }, ⟨rfl, id, fun _ _ _ => rfl, fun _ _ => rfl, fun _ _ _ => rfl, fun _ h => h⟩⟩

theorem SlotEnd.before {c d w : State} (h : SlotEnd d w) (k : LinkSteps c d) : SlotEnd c w :=
  ⟨k.trans h.steps, h.waits, h.armed, h.pend, h.held⟩

/-- A switch is due and no unit is pending. -/
theorem LinkWaits.slot_fires {c : State} {was n : Nat} (h : LinkWaits c) (hd : c.slotDue was n) (hp : c.pend = 0) (hh : c.cfg.held = none) :
    SlotEnd c (((c.slotSwitch was).applyUnit 18).afterPend (some 18)) ∧
      SlotSwitched c (((c.slotSwitch was).applyUnit 18).afterPend (some 18)) (passedOver was c.link.evc n) ∧
      (((c.slotSwitch was).applyUnit 18).afterPend (some 18)).cfg.sched = none := by
  obtain ⟨d, hdx⟩ : ∃ d : State, d = { c with cfg := { c.cfg with sched := none } } := ⟨_, rfl⟩
  obtain ⟨hdw, hcd⟩ := h.of_cfg (d := d) (by rw [hdx])
  have hdue : d.switchDue true (some 18) = d.epochSwitch (some 18) := if_pos (by rw [hdx]; exact hp)
  have hsame : d.cfg.held = none ∧ d.cfg.sched = none := by
    rw [hdx]
    exact ⟨hh, rfl⟩
  rw [State.slotSwitch_due hd, ← hdx, hdue]
  have hsw := hdw.epochSwitch
  generalize d.epochSwitch (some 18) = e at *
  obtain ⟨hs, harm, hpend, hcfg, hsteps⟩ := hsw.lateIf hdw.regs (passedOver was c.link.evc n)
  have he : LinkWaits (e.lateIf (passedOver was c.link.evc n)) := hsteps.linkWaits hdw (by rw [harm]; simp) (by rw [harm, hpend]; rfl)
  have ht := he.applyUnit
  generalize (e.lateIf (passedOver was c.link.evc n)).applyUnit 18 = t at *
  obtain ⟨hend, hsf, hsched⟩ := ht.after_switch hs harm hsteps (by rw [hcfg, hsw.held]; exact hsame.1)
  refine ⟨hend.before hcd, ?_, by rw [hsched, hcfg, hsw.sched]; exact hsame.2⟩
  rw [hdx] at hsf
  exact ⟨hsf.cur, hsf.window, hsf.shadowed, hsf.late⟩

/-- A switch is due while MIXED is 1: it is held, and fires once LINK has applied. -/
theorem LinkWaits.slot_holds {c : State} {was n : Nat} (h : LinkWaits c) (hd : c.slotDue was n) (hp : c.pend ≠ 0) :
    SlotEnd c (((c.slotSwitch was).applyUnit 18).afterPend (some 18)) ∧
      SlotSwitched c (((c.slotSwitch was).applyUnit 18).afterPend (some 18)) true ∧
      (((c.slotSwitch was).applyUnit 18).afterPend (some 18)).cfg.sched = none := by
  obtain ⟨d, hdx⟩ : ∃ d : State, d = { c with cfg := { c.cfg with sched := none, held := some true } } := ⟨_, rfl⟩
  obtain ⟨hdw, hcd⟩ := h.of_cfg (d := d) (by rw [hdx])
  have hdue : ({ c with cfg := { c.cfg with sched := none } } : State).switchDue true (some 18) = d := by
    rw [hdx]
    refine (if_neg hp).trans ?_
    rw [Bool.or_true]
  have hsame : d.cfg.held = some true ∧ d.cfg.sched = none ∧ (∀ f, d.get f = c.get f) ∧ d.armed = c.armed ∧ d.pend = c.pend := by
    rw [hdx]
    exact ⟨rfl, rfl, fun _ => rfl, rfl, rfl⟩
  obtain ⟨hheld, hsched, hget, harm, hpend⟩ := hsame
  rw [State.slotSwitch_due hd, hdue]
  have hsteps := d.lateIf_linkSteps (passedOver was c.link.evc n)
  have hrest := d.lateIf_rest (passedOver was c.link.evc n)
  have hcur : (d.lateIf (passedOver was c.link.evc n)).get Reg.CFG_EPOCH_CUR = d.get Reg.CFG_EPOCH_CUR :=
    congrArg (fun w => fget w Reg.CFG_EPOCH_CUR) (d.lateIf_reg _ (by decide))
  have hep : (d.lateIf (passedOver was c.link.evc n)).pend = d.pend := d.lateIf_reg _ (by decide)
  generalize d.lateIf (passedOver was c.link.evc n) = e at *
  have hearm : e.armed = d.armed := by rw [hrest]
  have hecfg : e.cfg = d.cfg := by rw [hrest]
  have he : LinkWaits e := hsteps.linkWaits hdw (by rw [hearm]; exact hdw.armed) (by rw [hearm, hep]; exact hdw.pend)
  have ht := he.applyUnit
  generalize e.applyUnit 18 = t at *
  obtain ⟨hend, hs, hts⟩ := ht.held_fires he (by rw [hecfg]; exact hheld)
  have hce := hcd.trans hsteps
  exact ⟨hend.before hce, ⟨by rw [hs.cur, hcur, hget], by rw [hs.window, hce.get_win], fun a hm hu => by rw [hs.shadowed a hm hu, hce.target a hm hu],
    by rw [hs.late]; rfl⟩, by rw [hts, hecfg]; exact hsched⟩

/-- The switches and LINK's boundary at a slot start, in every case. -/
theorem LinkWaits.slotTurned {c : State} (h : LinkWaits c) (hh : c.cfg.held ≠ none → c.pend ≠ 0) (was : Nat) :
    SlotTurned c was (((c.slotSwitch was).applyUnit 18).afterPend (some 18)) := by
  by_cases hd : ∃ n, c.slotDue was n
  · obtain ⟨n, hn⟩ := hd
    have huniq : ∀ m, c.slotDue was m → m = n := fun m hm => Option.some.inj (hm.1.symm.trans hn.1)
    by_cases hp : c.pend = 0
    · have hnone : c.cfg.held = none := by
        by_contra hc
        exact hh hc hp
      obtain ⟨hend, hs, hsched⟩ := h.slot_fires hn hp hnone
      refine ⟨hend, fun _ => ⟨_, hs, ?_⟩, fun hx => absurd (.inl ⟨n, hn⟩) hx, fun _ => hsched, fun hx => absurd ⟨n, hn⟩ hx⟩
      rw [passedOver_iff hn]
      constructor
      · exact fun hne => .inr ⟨n, hn, .inl hne⟩
      · rintro (hx | ⟨m, hm, hx | hx⟩)
        · rw [hnone] at hx
          cases hx
        · exact huniq m hm ▸ hx
        · exact absurd hp hx
    · obtain ⟨hend, hs, hsched⟩ := h.slot_holds hn hp
      exact ⟨hend, fun _ => ⟨true, hs, ⟨fun _ => .inr ⟨n, hn, .inr hp⟩, fun _ => rfl⟩⟩, fun hx => absurd (.inl ⟨n, hn⟩) hx, fun _ => hsched,
        fun hx => absurd ⟨n, hn⟩ hx⟩
  · rw [State.slotSwitch_none hd]
    have ht := h.applyUnit
    generalize c.applyUnit 18 = t at *
    cases hc : c.cfg.held with
    | none =>
      obtain ⟨hend, hplain, hsched⟩ := ht.plain hc
      exact ⟨hend, fun hx => by rw [hc] at hx; exact absurd (hx.resolve_left hd) (fun hn => hn rfl), fun _ => hplain, fun hx => absurd hx hd, fun _ => hsched⟩
    | some late =>
      obtain ⟨hend, hs, hsched⟩ := ht.held_fires h hc
      refine ⟨hend, fun _ => ⟨late, hs, ?_⟩, fun hx => absurd (.inr (by rw [hc]; exact Option.some_ne_none late)) hx, fun hx => absurd hx hd, fun _ => hsched⟩
      rw [hc]
      constructor
      · exact fun hl => .inl (by rw [hl])
      · rintro (hx | ⟨m, hm, -⟩)
        · exact Option.some.inj hx
        · exact absurd ⟨m, hm⟩ hd

end Sys2Proof.Machine
end

section
/-! SUPPORT. How a slot start ends (R201, R202, R205, R206): the next slot is laid out, SLOT is latched, the event goes out, a wake is asked. -/

namespace Sys2Proof.Machine

/-! ### The next slot -/

/-- `t` is `s` with the next slot start laid out. -/
structure Laid (s t : State) : Prop where
  rest : t = { s with
    regs := t.regs
    link := { s.link with nextT := t.link.nextT, nextShift := t.link.nextShift, nextSum := t.link.nextSum, after := 0, adj := none } }
  swf : Swf regReset s.regs → Swf regReset t.regs
  reg : ∀ a, a ≠ Reg.LINK_STATUS → t.reg a = s.reg a
  next : s.link.after + s.link.adj.getD 0 ≤ ((10 * s.slotLen : Nat) : Int) → -((10 * s.slotLen : Nat) : Int) ≤ s.link.after + s.link.adj.getD 0 →
    (t.link.nextT : Int) = s.link.slotT + 40 * s.slotLen + (s.link.after + s.link.adj.getD 0)

theorem State.shiftClamp_rest (s : State) (x : Int) : (s.shiftClamp x).1 = { s with regs := (s.shiftClamp x).1.regs } := by
  unfold State.shiftClamp
  dsimp only
  split <;> rfl

theorem State.shiftClamp_reg (s : State) (x : Int) {a : Nat} (h : a ≠ Reg.LINK_STATUS) : (s.shiftClamp x).1.reg a = s.reg a := by
  unfold State.shiftClamp
  dsimp only
  split
  · rfl
  · exact s.put_reg_ne _ _ h

theorem State.shiftClamp_swf (s : State) (x : Int) (h : Swf regReset s.regs) : Swf regReset (s.shiftClamp x).1.regs := by
  unfold State.shiftClamp
  dsimp only
  split
  · exact h
  · exact Swf_sput h _ _

theorem State.shiftClamp_within (s : State) {x : Int} (h : x ≤ ((10 * s.slotLen : Nat) : Int)) (h' : -((10 * s.slotLen : Nat) : Int) ≤ x) :
    (s.shiftClamp x).2 = x := by
  unfold State.shiftClamp clampI
  push_cast at h h' ⊢
  omega

theorem State.slotLen_pos (s : State) : 1000 ≤ s.slotLen := le_max_left _ _

theorem State.slotLay_laid (s : State) : Laid s s.slotLay := by
  have hr := s.shiftClamp_rest (s.link.after + s.link.adj.getD 0)
  have hreg := fun a ha => s.shiftClamp_reg (s.link.after + s.link.adj.getD 0) (a := a) ha
  have hswf := s.shiftClamp_swf (s.link.after + s.link.adj.getD 0)
  have hin := s.shiftClamp_within (x := s.link.after + s.link.adj.getD 0)
  have hlen : (s.shiftClamp (s.link.after + s.link.adj.getD 0)).1.slotLen = s.slotLen := by
    unfold State.slotLen
    exact congrArg (fun w => clampN 1000 65000 (fget w Reg.LINK_SLOTCFG_SLOTLEN)) (hreg _ (by decide))
  unfold State.slotLay
  dsimp only
  generalize s.shiftClamp (s.link.after + s.link.adj.getD 0) = p at *
  obtain ⟨t, c⟩ := p
  dsimp only at *
  have hlink : t.link = s.link := by rw [hr]
  refine ⟨by rw [hr], hswf, hreg, fun h h' => ?_⟩
  have hpos := s.slotLen_pos
  unfold State.slotTicks
  rw [hlen, hlink, hin h h']
  push_cast at h h' ⊢
  omega

/-! ### The latch -/

/-- What a latch of `code` in some context keeps: canonical contexts, the engines, and the condition where it is latched already. -/
def Latches (code : Nat) (s t : State) : Prop :=
  Swf (fun _ => Ctx.reset) s.ctxs → Swf (fun _ => Ctx.reset) t.ctxs ∧ t.engs = s.engs ∧
    ∀ e c, bitOf (s.ctx e c).lat code = true → bitOf (t.ctx e c).lat code = true

theorem Latches.refl (code : Nat) (s : State) : Latches code s s := fun h => ⟨h, rfl, fun _ _ hb => hb⟩

theorem Latches.trans {code : Nat} {s t u : State} (h : Latches code s t) (k : Latches code t u) : Latches code s u := fun hs => by
  obtain ⟨ht, he, hb⟩ := h hs
  obtain ⟨hu, he', hb'⟩ := k ht
  exact ⟨hu, he'.trans he, fun e c hx => hb' e c (hb e c hx)⟩

theorem Ctx.latch_bit (x : Ctx) {code : Nat} (h : code < 32) : bitOf (x.latch code).lat code = true := by
  have hb : ((1 : Word) <<< code).getLsbD code = true := (bitOf_shiftLeft_one h).trans (by simp)
  unfold Ctx.latch bitOf
  rw [BitVec.getLsbD_or]
  exact (congrArg (_ || ·) hb).trans (Bool.or_true _)

theorem State.latch_self {s : State} (hs : Swf (fun _ => Ctx.reset) s.ctxs) (e c : Nat) {code : Nat} (h : code < 32) :
    bitOf ((s.latch e c code).ctx e c).lat code = true := by
  unfold State.latch State.setCtx State.ctx
  rw [sget_sput_self hs.1]
  exact Ctx.latch_bit _ h

theorem State.latch_latches (s : State) (e c : Nat) {code : Nat} (h : code < 32) : Latches code s (s.latch e c code) := fun hs => by
  refine ⟨Swf_sput hs _ _, rfl, fun e' c' hb => ?_⟩
  by_cases hk : 8 * e' + c' = 8 * e + c
  · have hsame : ∀ t : State, t.ctx e' c' = t.ctx e c := fun t => by
      unfold State.ctx
      rw [hk]
    rw [hsame]
    exact State.latch_self hs e c h
  · rw [show (s.latch e c code).ctx e' c' = s.ctx e' c' from s.setCtx_ctx_ne _ hk]
    exact hb

/-- The latch in the contexts of one engine, if it runs. -/
def State.latchEng (code : Nat) (s : State) (e : Nat) : State :=
  if (s.eng e).run then forN (nctx e) (fun s c => s.latch e c code) s else s

theorem latches_foldl {code : Nat} {f : State → Nat → State} (h : ∀ s i, Latches code s (f s i)) (l : List Nat) (s : State) :
    Latches code s (l.foldl f s) := by
  induction l generalizing s with
  | nil => exact .refl code s
  | cons i l ih => exact (h s i).trans (ih _)

theorem State.latchEng_latches (s : State) (e : Nat) {code : Nat} (h : code < 32) : Latches code s (State.latchEng code s e) := by
  unfold State.latchEng forN
  split
  · exact latches_foldl (fun t c => t.latch_latches e c h) _ s
  · exact .refl code s

theorem State.latchAll_sets {s : State} (hs : Swf (fun _ => Ctx.reset) s.ctxs) {code : Nat} (hcode : code < 32) {e c : Nat} (he : e < 17)
    (hc : c < nctx e) (hr : (s.eng e).run = true) : bitOf ((s.latchAll code).ctx e c).lat code = true := by
  obtain ⟨m, hm, hlast⟩ := forN_at (R := Latches code) (.refl code) .trans (f := State.latchEng code) (g := e)
    (fun i _ t => t.latchEng_latches i hcode) he s
  obtain ⟨hmc, hme, -⟩ := hm hs
  have hrun : (m.eng e).run = true := (congrArg (fun l => (sget (fun _ => Engine.reset) l e).run) hme).trans hr
  obtain ⟨k, hk, hin⟩ := forN_at (R := Latches code) (.refl code) .trans (f := fun s c => s.latch e c code) (g := c)
    (fun i _ t => t.latch_latches e i hcode) hc m
  obtain ⟨hkc, -, -⟩ := hk hmc
  obtain ⟨hec, -, hbit⟩ := hin (Swf_sput hkc _ _)
  have heng : State.latchEng code m e = forN (nctx e) (fun s c => s.latch e c code) m := if_pos hrun
  rw [heng] at hlast
  exact (hlast hec).2.2 e c (hbit e c (State.latch_self hkc e c hcode))

/-! ### The event -/

/-- A change of registers and of what the collectors hold. -/
def Posted (s t : State) : Prop := t = { s with regs := t.regs, icol0 := t.icol0, icol1 := t.icol1 }

theorem State.publishHw_posted {s : State} {l : Nat} (h : s.get (Reg.EVL_LINECFG_SUB l) = 0) : Posted s (s.publishHw l 0) := by
  have ho : s.inputOpen 0 = false := rfl
  have hp : s.publishHw l 0 = s.publish l 0 := by
    unfold State.publishHw
    dsimp only
    rw [h, ho]
    simp
  rw [hp]
  unfold State.publish
  split
  · rfl
  · rename_i hl
    rw [if_neg (Nat.not_lt_zero _)]
    have hw : Reg.EVL_LINECFG l ≠ Reg.EVL_WATCH (l / 32) := by
      unfold Reg.EVL_LINECFG Reg.EVL_WATCH
      omega
    have hsub : (s.put (watchBit l) 1).get (Reg.EVL_LINECFG_SUB l) = 0 := (s.put_get_ne _ _ _ hw).trans h
    dsimp only
    split
    · rw [h]
      rfl
    · split
      · rw [State.postBoth_get, hsub]
        rfl
      · rw [hsub]
        rfl

/-! ### The wake request -/

/-- Boundaries do nothing where no unit has work, no switch is held and the single path is not in the Envelope's way. -/
theorem State.boundaries_idle {s : State} (hw : ∀ u, s.hasWork u = false) (hs : s.env.st = .off ∨ s.flag Reg.RFE_SPCTL_EN = false)
    (hh : s.cfg.held = none) : s.boundaries = s := by
  have hf : ∀ l : List Nat, l.foldl (fun s u => if s.hasWork u && s.atBoundary u then s.applyUnit u else s) s = s := fun l => by
    induction l with
    | nil => rfl
    | cons u l ih =>
      rw [List.foldl_cons, hw u]
      exact ih
  have hb : s.spBlock = s := by
    unfold State.spBlock
    rcases hs with h | h <;> simp [h]
  unfold State.boundaries
  rw [hf, hb]
  unfold State.afterPend
  rw [hh]

/-- Awake and in no sleep entry, the wake sources met are forgotten. -/
theorem State.wakeStep_awake {s : State} (ha : s.pwr.forced = none) (hh : s.pwr.hs = none) :
    s.wakeStep = { s with pwr := { s.pwr with wakeReq := 0, wakeCores := 0, wakeGot := 0 } } := by
  have has : s.pwr.asleep = none := by
    unfold Pwr.asleep
    rw [ha]
  unfold State.wakeStep
  dsimp only
  split
  · rename_i hm
    exact nomatch has.symm.trans hm
  · rename_i hm
    exact nomatch hh.symm.trans hm
  · rfl

/-- Settling after a wake request that goes unheard. -/
theorem Settles.unheard {s x : State} {w : Word} (q : s.Quiet) (h : Settles { s with pwr := { s.pwr with wakeReq := w } } x) :
    Settles s { x with pwr := { x.pwr with wakeReq := 0, wakeCores := 0, wakeGot := 0 } } := by
  refine ⟨?_, h.ctx, h.run0, h.run1⟩
  have hpwr : s.pwr = { s.pwr with wakeReq := 0, wakeCores := 0, wakeGot := 0 } := (Pwr.wake_cleared q.wake q.cores q.got).symm
  rw [h.rest]
  conv_rhs => rw [hpwr]

/-- While the device is awake and enters no sleep mode, a wake request goes unheard (R345). -/
theorem doneW_woken {s : State} (q : s.Quiet) (w : Word) : ∃ u, doneW { s with pwr := { s.pwr with wakeReq := w } } = .next u ∧ Settles s u := by
  have hb : ({ s with pwr := { s.pwr with wakeReq := w } } : State).boundaries = { s with pwr := { s.pwr with wakeReq := w } } :=
    State.boundaries_idle q.hasWork q.single q.held
  refine ⟨_, rfl, ?_⟩
  rw [hb]
  have hset := State.settle_settles { s with pwr := { s.pwr with wakeReq := w } }
  generalize ({ s with pwr := { s.pwr with wakeReq := w } } : State).settle = x at *
  have hf : x.pwr.forced = none := hset.pwr_forced.trans q.awake
  have haw : x.awake = true := by
    unfold State.awake
    rw [hf]
  have hs := hset.unheard q
  rw [show x.hoverStep = x from if_neg (by simp [hf]), show x.fioStep = x from if_neg (by simp [haw]),
    State.wakeStep_awake hf (hset.pwr_hs.trans q.entry)]
  generalize ({ x with pwr := { x.pwr with wakeReq := 0, wakeCores := 0, wakeGot := 0 } } : State) = y at *
  rw [show y.ripStep = y from if_pos (by rw [hs.start]; exact q.req)]
  exact hs.trans y.settle_settles

end Sys2Proof.Machine
end

section
/-! SUPPORT. SLOT_START as a command (R201 to R206, R49, R51, R52). -/

namespace Sys2Proof.Machine

/-- The slot has begun: the counter and the acceptance window have moved on. -/
def State.slotCounted (s : State) : State := { s.slotCount with cfg := { s.slotCount.cfg with window := s.slotCount.cfg.window - 1 } }

/-- The switches and LINK's boundary have come after it. -/
def State.slotTurn (s : State) : State := ((s.slotCounted.slotSwitch s.link.evc).applyUnit 18).afterPend (some 18)

/-- The slot start but for its wake request. -/
def State.slotDone (s : State) : State := (s.slotTurn.slotLay.latchAll 23).output 0 0

/-- A wake request of the slot start. -/
def State.wakeAsked (s : State) : State := { s with pwr := { s.pwr with wakeReq := s.pwr.wakeReq ||| 2 } }

theorem State.slotStart_eq (s : State) : s.slotStart = s.slotDone.wakeAsked := by
  unfold State.slotStart
  extract_lets was counted cfg opened laid ended pwr
  exact congrArg State.wakeAsked (show ended = s.slotDone from rfl)

theorem State.slotCount_link (s : State) : s.slotCount.link =
    { s.link with evc := s.link.setPend.getD ((s.link.evc + 1) % 2 ^ 40), setPend := none, slotT := s.link.nextT, past := s.link.slotT :: s.link.past } := by
  unfold State.slotCount
  dsimp only
  cases s.link.setPend <;> rfl

/-- The registers that a slot start changes beside those of LINK and of the switch: the flag of a watched line. -/
theorem turnReg_unit {a : Nat} (h : turnReg a) : unitOf a ≠ 18 ∧ unitOf a ≠ 31 ∧ unitOf a ≠ 16 := by
  have hnf : ∀ k < 128, unitOf (Reg.ENV_NF k) ≠ 18 ∧ unitOf (Reg.ENV_NF k) ≠ 31 ∧ unitOf (Reg.ENV_NF k) ≠ 16 := by decide +kernel
  have hother : ∀ b ∈ [Reg.ENV_SVSTAT, Reg.MEMC_BANKCTL, Reg.MEMC_RBANKCTL, Reg.EVL_WATCH 0, Reg.EVL_WATCH 1, Reg.EVL_WATCH 2],
      unitOf b ≠ 18 ∧ unitOf b ≠ 31 ∧ unitOf b ≠ 16 := by decide +kernel
  rcases h with ⟨k, hk, rfl⟩ | rfl | rfl | rfl | ⟨i, hi, rfl⟩
  · exact hnf k hk
  · exact hother _ (by simp)
  · exact hother _ (by simp)
  · exact hother _ (by simp)
  · interval_cases i <;> exact hother _ (by simp)

/-- What is left of the slot start after the switches: `u` is `w` with the next slot laid out, SLOT latched and the event out. -/
structure SlotEnded (w u : State) : Prop where
  laid : ∃ l, Laid w l ∧ u = { l with regs := u.regs, ctxs := (l.latchAll 23).ctxs, icol0 := u.icol0, icol1 := u.icol1 } ∧
    ∀ a, ¬turnReg a → u.reg a = l.reg a

theorem State.slotEnded {w : State} (h : w.get (Reg.EVL_LINECFG_SUB (w.outLine 0)) = 0) : SlotEnded w ((w.slotLay.latchAll 23).output 0 0) := by
  have hlaid := w.slotLay_laid
  generalize w.slotLay = l at *
  have hget : ∀ f : Field, f.addr ≠ Reg.LINK_STATUS → l.get f = w.get f := fun f hf => congrArg (fun x => fget x f) (hlaid.reg _ hf)
  have hrest := l.latchAll_rest 23
  obtain ⟨n, hn⟩ : ∃ n, n = l.latchAll 23 := ⟨_, rfl⟩
  rw [← hn] at hrest ⊢
  have hnget : ∀ f, n.get f = l.get f := fun f => by rw [hrest]; rfl
  have hline : n.outLine 0 = w.outLine 0 := (hnget _).trans (hget _ (by decide))
  have hne : Reg.EVL_LINECFG (w.outLine 0) ≠ Reg.LINK_STATUS := by
    have := w.outLine_lt 0
    unfold Reg.EVL_LINECFG Reg.LINK_STATUS
    omega
  have hsub : n.get (Reg.EVL_LINECFG_SUB (w.outLine 0)) = 0 := (hnget _).trans ((hget _ hne).trans h)
  unfold State.output
  rw [hline]
  have hp := State.publishHw_posted hsub
  have ht := State.publishHw_turned hsub
  refine ⟨l, hlaid, ?_, fun a ha => ?_⟩
  · rw [← hn]
    refine hp.trans ?_
    rw [hrest]
  · exact (ht.reg a ha).trans (congrArg (fun m => sget regReset m a) (show n.regs = l.regs by rw [hrest]))

theorem State.slotTurn_keeps (s : State) : Keeps s s.slotTurn :=
  ((((s.slotCount_keeps).upd (t := s.slotCount) (u := s.slotCounted) rfl).transS (State.slotSwitch_keeps _ _)).transS
    (State.applyUnit_keeps _ _)).transS (State.afterPend_keeps _ _)

/-- What the statement asks of the state at a slot start: only LINK has writes, an armed set and shadows, and nothing else is due. -/
structure State.SlotReady (v : State) : Prop where
  canonical : v.canonical
  quiet : (({ v with waits := [], armed := [], cfg := { v.cfg with held := none } } : State).setReg Reg.CFG_PEND 0).Quiet
  waits : ∀ x ∈ v.waits, x.addr ∈ slotRegs
  sets : ∀ p, p ∈ v.armed ∨ p ∈ v.shadowDiff → unitOf p.1 = 18 ∧ sMask p.1 ≠ 0
  pend : v.pend = if v.armed = [] then 0 else 0x40000
  held : v.cfg.held ≠ none → v.pend ≠ 0
  sub : v.get (Reg.EVL_LINECFG_SUB (v.outLine 0)) = 0

theorem State.SlotReady.linkWaits {v : State} (h : v.SlotReady) : LinkWaits v.slotCounted :=
  ⟨h.canonical.regs, h.waits, fun p hp => h.sets p (.inl hp), fun p hp => (h.sets p (.inr hp)).1, h.pend⟩

theorem State.SlotReady.turned {v : State} (h : v.SlotReady) : SlotTurned v.slotCounted v.link.evc v.slotTurn :=
  h.linkWaits.slotTurned h.held v.link.evc

/-- How the whole command stands: after the switches `w`, after the layout `l`, at the end `u`. -/
structure SlotCommand (v w u : State) : Prop where
  canonical : w.canonical
  turned : SlotTurned v.slotCounted v.link.evc w
  laid : ∃ l, Laid w l ∧ u.link = l.link ∧ ∀ e c, (bitOf ((l.latchAll 23).ctx e c).lat 23 = true → bitOf (u.ctx e c).lat 23 = true)
  mem : u.mem = v.mem
  waits : u.waits = []
  armed : u.armed = []
  cfg : u.cfg = w.cfg
  reg : ∀ a, unitOf a = 18 ∨ unitOf a = 31 → a ≠ Reg.LINK_STATUS → u.reg a = w.reg a

theorem SlotEnd.quiet {v w u : State} (h : SlotEnd v.slotCounted w) (hv : v.SlotReady) (he : SlotEnded w u) : u.Quiet := by
  obtain ⟨l, hl, hrest, hreg⟩ := he.laid
  have hq := hv.quiet
  have hsp : u.flag Reg.RFE_SPCTL_EN = v.flag Reg.RFE_SPCTL_EN := congrArg (fun x => fget x Reg.RFE_SPCTL_EN != 0)
    ((hreg _ not_turnReg_RFE_SPCTL).trans ((hl.reg _ (by decide)).trans (h.steps.other _ (by decide +kernel) (by decide))))
  have hsame : u.waits = w.waits ∧ u.cfg = w.cfg ∧ u.env = v.env ∧ u.pwr = v.pwr ∧ u.start = v.start := by
    rw [hrest, hl.rest, h.steps.rest]
    exact ⟨rfl, rfl, rfl, rfl, rfl⟩
  obtain ⟨hw, hc, henv, hp, hst⟩ := hsame
  refine ⟨hw.trans h.waits, (hreg _ not_turnReg_CFG_PEND).trans ((hl.reg _ (by decide)).trans h.pend), by rw [hc]; exact h.held, ?_, by rw [hp]; exact hq.awake,
    by rw [hp]; exact hq.entry, by rw [hp]; exact hq.wake, by rw [hp]; exact hq.cores, by rw [hp]; exact hq.got, by rw [hst]; exact hq.req⟩
  rw [henv, hsp]
  exact hq.single.imp id fun hf => (congrArg (fun w => fget w Reg.RFE_SPCTL_EN != 0) (State.setReg_reg_ne _ _ (by decide))).symm.trans hf

theorem SlotEnded.command {v w x u : State} (he : SlotEnded w x) (hk : w.canonical) (ht : SlotTurned v.slotCounted v.link.evc w) (hu : Settles x u) :
    SlotCommand v w u := by
  obtain ⟨l, hl, hrest, hreg⟩ := he.laid
  have hctxs : x.ctxs = (l.latchAll 23).ctxs := by rw [hrest]
  have hctx : ∀ e c, x.ctx e c = (l.latchAll 23).ctx e c := fun e c => congrArg (fun m => sget (fun _ => Ctx.reset) m (8 * e + c)) hctxs
  have hsame : x.mem = v.mem ∧ x.waits = w.waits ∧ x.armed = w.armed ∧ x.cfg = w.cfg ∧ x.link = l.link := by
    have hm : l.mem = v.mem := by rw [hl.rest, ht.ends.steps.rest]; rfl
    have hw : l.waits = w.waits ∧ l.armed = w.armed ∧ l.cfg = w.cfg := by
      rw [hl.rest]
      exact ⟨rfl, rfl, rfl⟩
    rw [hrest]
    exact ⟨hm, hw.1, hw.2.1, hw.2.2, rfl⟩
  obtain ⟨hm, hw, ha, hc, hlink⟩ := hsame
  refine ⟨hk, ht, ⟨l, hl, hu.link.trans hlink, fun e c hb => ?_⟩, hu.mem.trans hm, hu.waits.trans (hw.trans ht.ends.waits),
    hu.armed.trans (ha.trans ht.ends.armed), hu.cfg.trans hc, fun a ha hn => ?_⟩
  · rw [← hctx] at hb
    rcases hu.ctx e c with hk | ⟨-, g, hk⟩ <;> rw [hk] <;> exact hb
  · have hturn : ¬turnReg a := fun hx => by
      obtain ⟨h1, h2, -⟩ := turnReg_unit hx
      exact ha.elim h1 h2
    exact (hu.reg a).trans ((hreg a hturn).trans (hl.reg a hn))

theorem lineCfg_regmap : ∀ l < 128, unitOf (Reg.EVL_LINECFG l) ≠ 18 ∧ Reg.EVL_LINECFG l ∉ switchRegs := by decide +kernel

/-- SLOT_START, once the slot's time has come. -/
theorem slotStart_starts {s : State} {t : Nat} (h : (s.at_ t).SlotReady) (ht : (s.at_ t).link.nextT ≤ (s.at_ t).now) :
    ∃ w u, exec (.slotStart t) s = .next u ∧ SlotCommand (s.at_ t) w u := by
  have hx : exec (.slotStart t) s =
      doneW (if (s.at_ t).gridOn && (s.at_ t).link.nextT ≤ (s.at_ t).now then (s.at_ t).slotStart else s.at_ t) := rfl
  generalize s.at_ t = v at *
  have hgrid : v.gridOn = true := by
    unfold State.gridOn
    rw [show v.pwr.forced = none from h.quiet.awake]
    rfl
  rw [hgrid, if_pos (by simpa using ht), State.slotStart_eq] at hx
  have hturned := h.turned
  have hcanon := v.slotTurn_keeps.canonical h.canonical
  have hsub : v.slotTurn.get (Reg.EVL_LINECFG_SUB (v.slotTurn.outLine 0)) = 0 := by
    have hst := hturned.ends.steps
    have hpub : v.slotTurn.outLine 0 = v.outLine 0 :=
      congrArg (fun w => fget w (Reg.EVL_PUBCFG_LINE 0)) (hst.other (Reg.EVL_PUBCFG 0) (by decide +kernel) (by decide))
    rw [hpub]
    obtain ⟨h18, hsw⟩ := lineCfg_regmap _ (v.outLine_lt 0)
    exact (congrArg (fun w => fget w (Reg.EVL_LINECFG_SUB (v.outLine 0))) (hst.other _ h18 hsw)).trans h.sub
  have hended : SlotEnded v.slotTurn v.slotDone := State.slotEnded hsub
  generalize v.slotTurn = w at *
  generalize v.slotDone = x at *
  have hq := hturned.ends.quiet h hended
  obtain ⟨u, hu, hset⟩ := doneW_woken hq (x.pwr.wakeReq ||| 2)
  exact ⟨w, u, hx.trans hu, hended.command hcanon hturned hset⟩

end Sys2Proof.Machine
end

section
/-! SUPPORT. What SLOT_START shows once it is over, as the statement words it. -/

namespace Sys2Proof.Machine

/-- The counter of the slot that begins. -/
def State.slotEvc (v : State) : Nat := v.link.setPend.getD ((v.link.evc + 1) % 2 ^ 40)

/-- The switch scheduled for `n` fires at the slot that begins. -/
def State.fires (v : State) (n : Nat) : Prop := v.cfg.sched = some n ∧ (n = v.slotEvc ∨ (v.link.evc < n ∧ n < v.slotEvc))

/-- The slot grid of `u` after a slot start out of `v`. -/
structure SlotGrid (v u : State) : Prop where
  slotT : u.link.slotT = v.link.nextT
  evc : u.link.evc = v.slotEvc
  setPend : u.link.setPend = none
  adj : u.link.adj = none
  next :
    let len := max 1000 (min 65000 (u.get Reg.LINK_SLOTCFG_SLOTLEN))
    let sum := v.link.after + v.link.adj.getD 0
    sum ≤ ((10 * len : Nat) : Int) → -((10 * len : Nat) : Int) ≤ sum → (u.link.nextT : Int) = v.link.nextT + 40 * len + sum

section
variable {v w u : State} (h : SlotCommand v w u)
include h

theorem SlotCommand.get {f : Field} (hf : unitOf f.addr = 18 ∨ unitOf f.addr = 31) (hn : f.addr ≠ Reg.LINK_STATUS) : u.get f = w.get f :=
  congrArg (fun x => fget x f) (h.reg _ hf hn)

theorem SlotCommand.grid : SlotGrid v u := by
  obtain ⟨l, hl, hlink, -⟩ := h.laid
  have hc : v.slotCounted.link = _ := v.slotCount_link
  have hw : w.link = { v.slotCounted.link with dwell := w.link.dwell } := congrArg State.link h.turned.ends.steps.rest
  have hll : l.link = _ := congrArg State.link hl.rest
  have hlen : w.slotLen = max 1000 (min 65000 (u.get Reg.LINK_SLOTCFG_SLOTLEN)) := by
    rw [h.get (.inl (by decide +kernel)) (by decide)]
    rfl
  have hnext := hl.next
  rw [hlen] at hnext
  rw [hc] at hw
  generalize w.link.dwell = d at *
  rw [hw] at hnext hll
  refine ⟨by rw [hlink, hll], by rw [hlink, hll]; rfl, by rw [hlink, hll], by rw [hlink, hll], fun hs hs' => ?_⟩
  rw [hlink]
  exact_mod_cast hnext hs hs'

theorem SlotCommand.waited {a : Nat} (ha : a ∈ slotRegs) : u.reg a = v.waited a := by
  have hends := h.turned.ends
  have hself : w.waited a = w.reg a := by
    unfold State.waited
    rw [hends.waits]
    rfl
  have hne : a ≠ Reg.LINK_STATUS := fun he => absurd (he ▸ ha) (by decide)
  rw [h.reg a (.inl (slotRegs_regmap a ha).1) hne, ← hself, hends.steps.waited a ha]
  rfl

theorem SlotCommand.shadowed {a : Nat} (hm : sMask a ≠ 0) (hu : unitOf a = 18) : u.reg a = w.reg a :=
  h.reg a (.inl hu) fun he => hm (by rw [he]; decide +kernel)

theorem SlotCommand.switchReg {a : Nat} (ha : a ∈ switchRegs) : u.reg a = w.reg a := by
  refine h.reg a (.inr (switchRegs_regmap a ha).1) fun he => ?_
  rw [he] at ha
  exact absurd ha (by decide)

theorem SlotCommand.latched {e c : Nat} (he : e < 17) (hc : c < nctx e) (hr : (v.eng e).run = true) :
    bitOf (u.ctx e c).lat 23 = true := by
  obtain ⟨l, hl, -, hctx⟩ := h.laid
  have hsame : l.ctxs = w.ctxs ∧ l.engs = v.engs := by
    rw [hl.rest, h.turned.ends.steps.rest]
    exact ⟨rfl, rfl⟩
  refine hctx e c (State.latchAll_sets ?_ (by decide) he hc ?_)
  · rw [hsame.1]
    exact h.canonical.ctxs
  · exact (congrArg (fun m => (sget (fun _ => Engine.reset) m e).run) hsame.2).trans hr

end

theorem State.slotDue_iff (v : State) (n : Nat) : v.slotCounted.slotDue v.link.evc n ↔ v.fires n := by
  have hc : v.slotCounted.link = _ := v.slotCount_link
  unfold State.slotDue State.fires State.slotEvc
  rw [hc]
  rfl

/-- The epoch side of a slot start. -/
structure SlotEpoch (v u : State) : Prop where
  fired : (∃ n, v.fires n) ∨ v.cfg.held ≠ none →
    u.get Reg.CFG_EPOCH_CUR = (v.get Reg.CFG_EPOCH_CUR + 1) % 65536 ∧ u.cfg.window = v.get Reg.CFG_WIN_WINDOW ∧
      (∀ a, sMask a ≠ 0 → unitOf a = 18 → u.reg a = v.target a) ∧
      (u.flag Reg.CFG_STATUS_LATE = true ↔ v.flag Reg.CFG_STATUS_LATE = true ∨ v.cfg.held = some true ∨
        ∃ n, v.fires n ∧ (n ≠ v.slotEvc ∨ v.pend ≠ 0))
  plain : ¬((∃ n, v.fires n) ∨ v.cfg.held ≠ none) →
    u.reg Reg.CFG_EPOCH = v.reg Reg.CFG_EPOCH ∧ u.cfg.window = v.cfg.window - 1 ∧ u.reg Reg.CFG_STATUS = v.reg Reg.CFG_STATUS ∧
      ∀ a, sMask a ≠ 0 → unitOf a = 18 → u.reg a = v.taken a
  gone : (∃ n, v.fires n) → u.cfg.sched = none
  kept : (¬∃ n, v.fires n) → u.cfg.sched = v.cfg.sched

theorem SlotCommand.epoch {v w u : State} (h : SlotCommand v w u) : SlotEpoch v u := by
  have ht := h.turned
  have hdue : (∃ n, v.slotCounted.slotDue v.link.evc n) ↔ ∃ n, v.fires n := exists_congr v.slotDue_iff
  have hlink : v.slotCounted.link.evc = v.slotEvc := congrArg Link.evc v.slotCount_link
  have hcur : u.get Reg.CFG_EPOCH_CUR = w.get Reg.CFG_EPOCH_CUR := congrArg (fun x => fget x Reg.CFG_EPOCH_CUR) (h.switchReg (by decide))
  have hlate : u.flag Reg.CFG_STATUS_LATE = w.flag Reg.CFG_STATUS_LATE :=
    congrArg (fun x => fget x Reg.CFG_STATUS_LATE != 0) (h.switchReg (by decide))
  refine ⟨?_, ?_, ?_, ?_⟩ <;> simp only [h.cfg]
  · intro hf
    obtain ⟨late, hs, hl⟩ := ht.fired (hf.imp hdue.2 id)
    refine ⟨hcur.trans hs.cur, hs.window, fun a hm hu => (h.shadowed hm hu).trans (hs.shadowed a hm hu), ?_⟩
    rw [hlate, hs.late, Bool.or_eq_true, hl, or_comm, hlink]
    simp only [State.slotDue_iff]
    rfl
  · intro hn
    have hp := ht.plain fun hf => hn (hf.imp hdue.1 id)
    exact ⟨(h.switchReg (by decide)).trans hp.epoch, hp.window, (h.switchReg (by decide)).trans hp.status,
      fun a hm hu => (h.shadowed hm hu).trans (hp.taken a hm hu)⟩
  · exact fun hf => ht.gone (hdue.2 hf)
  · exact fun hf => ht.kept fun hx => hf (hdue.1 hx)

end Sys2Proof.Machine
end

section
/-! SUPPORT. What a device agent's write leaves (R17, R267, R434): the bytes it writes where the banks accept them, every other byte, and all
of the state but the banks and the cores' caches. -/

namespace Sys2Proof.Machine

/-! ### The state beside memory -/

/-- A change of registers, memory, banks and cores. -/
def DevRest (s t : State) : Prop :=
  t = { s with regs := t.regs, mem := t.mem, lost := t.lost, free := t.free, memc := t.memc, core0 := t.core0, core1 := t.core1 }

theorem DevRest.refl (s : State) : DevRest s s := rfl

theorem DevRest.trans {s t u : State} (h : DevRest s t) (k : DevRest t u) : DevRest s u := by
  unfold DevRest at *
  rw [k, h]

theorem devRest_foldl {α : Type} {f : State → α → State} (h : ∀ s i, DevRest s (f s i)) (l : List α) (s : State) : DevRest s (l.foldl f s) := by
  induction l generalizing s with
  | nil => exact .refl s
  | cons i l ih => exact (h s i).trans (ih _)

theorem State.wakeBank_devRest (s : State) (a : Nat) : DevRest s (s.wakeBank a) := by
  unfold State.wakeBank
  split
  · split
    · dsimp only
      split <;> rfl
    · exact .refl s
  · exact .refl s

/-- One step of `wakeRange`. -/
def State.wakeStepOf (a n : Nat) (s : State) (b : Nat) : State :=
  if a < bankBase b + 0x10000 && bankBase b < a + n then s.wakeBank (bankBase b) else s

theorem State.wakeRange_eq (s : State) (a n : Nat) : s.wakeRange a n = (List.range 20).foldl (State.wakeStepOf a n) s := rfl

theorem State.wakeRange_devRest (s : State) (a n : Nat) : DevRest s (s.wakeRange a n) := by
  rw [State.wakeRange_eq]
  refine devRest_foldl (fun t b => ?_) _ s
  unfold State.wakeStepOf
  split
  · exact t.wakeBank_devRest _
  · exact .refl t

theorem Beside.devRest_of_lanes {s t : State} (h : Beside s t) (hl : t.lanes = s.lanes) : DevRest s t := by
  unfold DevRest
  unfold Beside at h
  rw [hl] at h
  rw [h]

/-- What a device write stores, before the caches and the shared bytes follow. -/
def State.devPut (s : State) (a : Nat) (bs : List Byte) : State :=
  if s.takes a && s.takes (a + bs.length - 1) then s.setBytes a bs
  else bs.zipIdx.foldl (fun s p => if s.takes (a + p.2) then s.setByte (a + p.2) p.1 else s) s

theorem State.devWrite_eq (s : State) (a : Nat) (bs : List Byte) :
    s.devWrite a bs = (((s.wakeRange a bs.length).devPut a bs).snoopBoth a bs.length).muddy a bs.length := rfl

theorem State.setBytes_devRest (s : State) (a : Nat) (bs : List Byte) : DevRest s (s.setBytes a bs) :=
  (s.setBytes_beside a bs).devRest_of_lanes (s.setBytes_lanes a bs)

theorem State.devPut_devRest (s : State) (a : Nat) (bs : List Byte) : DevRest s (s.devPut a bs) := by
  unfold State.devPut
  split
  · exact s.setBytes_devRest a bs
  · refine devRest_foldl (fun t p => ?_) _ s
    split
    · exact rfl
    · exact .refl t

theorem State.devWrite_devRest (s : State) (a : Nat) (bs : List Byte) : DevRest s (s.devWrite a bs) := by
  rw [State.devWrite_eq]
  have hsnoop : ∀ t : State, DevRest t (t.snoopBoth a bs.length) := fun _ => rfl
  exact (s.wakeRange_devRest _ _).trans ((State.devPut_devRest _ _ _).trans ((hsnoop _).trans
    ((State.muddy_beside _ _ _).devRest_of_lanes (State.muddy_lanes _ _ _))))

/-! ### The bytes -/

theorem State.wakeBank_mem (s : State) (a : Nat) : (s.wakeBank a).mem = s.mem ∧ (s.wakeBank a).lost = s.lost := by
  unfold State.wakeBank
  split
  · split
    · dsimp only
      split <;> exact ⟨rfl, rfl⟩
    · exact ⟨rfl, rfl⟩
  · exact ⟨rfl, rfl⟩

theorem State.wakeRange_mem (s : State) (a n : Nat) : (s.wakeRange a n).mem = s.mem ∧ (s.wakeRange a n).lost = s.lost := by
  rw [State.wakeRange_eq]
  have hf : ∀ l : List Nat, (l.foldl (State.wakeStepOf a n) s).mem = s.mem ∧ (l.foldl (State.wakeStepOf a n) s).lost = s.lost := fun l => by
    have hstep : ∀ (t : State) b, (State.wakeStepOf a n t b).mem = t.mem ∧ (State.wakeStepOf a n t b).lost = t.lost := fun t b => by
      unfold State.wakeStepOf
      split
      · exact t.wakeBank_mem _
      · exact ⟨rfl, rfl⟩
    exact ⟨foldl_same State.mem (fun t b => (hstep t b).1) l s, foldl_same State.lost (fun t b => (hstep t b).2) l s⟩
  exact hf _

theorem State.byte_congr {s t : State} (h : t.mem = s.mem ∧ t.lost = s.lost) (x : Nat) : t.byte x = s.byte x := by
  unfold State.byte
  rw [h.1, h.2]

theorem State.wakeRange_byte (s : State) (a n x : Nat) : (s.wakeRange a n).byte x = s.byte x := State.byte_congr (s.wakeRange_mem a n) x

theorem State.wakeRange_turned (s : State) (a n : Nat) : Turned s (s.wakeRange a n) := by
  rw [State.wakeRange_eq]
  refine turned_foldl _ (fun b _ t => ?_) s
  unfold State.wakeStepOf
  split
  · exact t.wakeBank_turned _
  · exact .refl t

/-- No bank register is one that places the transmit queues. -/
theorem not_turnReg_TXQBASE : ¬turnReg Reg.REEL_TXQBASE ∧ ¬turnReg Reg.ENV_SVBASE ∧ ¬turnReg Reg.MEMC_BAD := by
  unfold turnReg Reg.REEL_TXQBASE Reg.ENV_SVBASE Reg.MEMC_BAD Reg.ENV_NF Reg.ENV_SVSTAT Reg.MEMC_BANKCTL Reg.MEMC_RBANKCTL Reg.EVL_WATCH
  omega

theorem Turned.txqOver {s t : State} (h : Turned s t) : t.txqOver = s.txqOver := by
  unfold State.txqOver
  rw [h.get not_turnReg_TXQBASE.1, h.get not_turnReg_TXQBASE.2.1]

theorem State.muddy_apart {s : State} (h : s.txqOver = false) (a n : Nat) : s.muddy a n = s := if_neg (by simp [h])

theorem State.devPut_byte_out (s : State) {a x : Nat} {bs : List Byte} (h : x < a ∨ a + bs.length ≤ x) : (s.devPut a bs).byte x = s.byte x := by
  unfold State.devPut
  split
  · exact s.setBytes_byte_out a bs h
  · have hl : ∀ l : List (Byte × Nat), (∀ p ∈ l, x ≠ a + p.2) → ∀ t : State,
        (l.foldl (fun s p => if s.takes (a + p.2) then s.setByte (a + p.2) p.1 else s) t).byte x = t.byte x := fun l => by
      induction l with
      | nil => exact fun _ _ => rfl
      | cons p l ih =>
        intro hp t
        refine (ih (fun q hq => hp q (List.mem_cons_of_mem _ hq)) _).trans ?_
        dsimp only
        split
        · exact t.setByte_byte_ne _ (hp p (by simp))
        · rfl
    refine hl _ (fun p hp => ?_) s
    have := List.snd_lt_of_mem_zipIdx hp
    omega

/-- Where the transmit queues lie over no other area, a device write changes no byte but its own. -/
theorem State.devWrite_byte_out {s : State} (ho : s.txqOver = false) {a x : Nat} {bs : List Byte} (h : x < a ∨ a + bs.length ≤ x) :
    (s.devWrite a bs).byte x = s.byte x := by
  have hover : (((s.wakeRange a bs.length).devPut a bs).snoopBoth a bs.length).txqOver = false := by
    refine Eq.trans (Turned.txqOver (s := s) ?_) ho
    refine (s.wakeRange_turned a bs.length).trans (.trans (t := (s.wakeRange a bs.length).devPut a bs) ?_ ⟨rfl, rfl, rfl, rfl, rfl, rfl, rfl, fun _ _ => rfl⟩)
    unfold State.devPut
    split
    · exact (State.setBytes_beside _ _ _).turned
    · refine turned_foldl _ (fun p _ t => ?_) _
      split
      · exact (show Beside t (t.setByte (a + p.2) p.1) from rfl).turned
      · exact .refl t
  rw [State.devWrite_eq, State.muddy_apart hover]
  exact (State.devPut_byte_out _ h).trans (s.wakeRange_byte _ _ _)

/-! ### The banks -/

/-- A bank that wakes refuses no more and no less. -/
theorem State.wakeBank_refuses {s : State} (hs : s.canonical) (a x : Nat) : (s.wakeBank a).bankRefuses x = s.bankRefuses x := by
  have hbad : ∀ b, (s.wakeBank a).bankBad b = s.bankBad b := fun b =>
    congrArg (fun w => bitOf w b) ((s.wakeBank_turned a).reg _ not_turnReg_TXQBASE.2.2)
  have hbank : ∀ b, (s.wakeBank a).bank b = s.bank b ∨ (s.bank b = .ret ∧ (s.wakeBank a).bank b = .on) := fun b => by
    unfold State.wakeBank
    split
    · rename_i c _
      split
      · rename_i hret
        have hset : ∀ t : State, t.memc.banks = sput (fun _ => BankSt.on) s.memc.banks c .on →
            t.bank b = s.bank b ∨ (s.bank b = .ret ∧ t.bank b = .on) := fun t ht => by
          unfold State.bank
          rw [ht]
          by_cases hb : b = c
          · subst hb
            exact .inr ⟨hret, sget_sput_self hs.banks.1 _ _⟩
          · exact .inl (sget_sput_ne _ _ _ hb)
        dsimp only
        split <;> exact hset _ rfl
      · exact .inl rfl
    · exact .inl rfl
  unfold State.bankRefuses
  split
  · rename_i b _
    rw [hbad b]
    rcases hbank b with h | ⟨hr, ho⟩
    · rw [h]
    · rw [hr, ho]
      simp
  · rfl

theorem State.wakeRange_refuses {s : State} (hs : s.canonical) (a n x : Nat) : (s.wakeRange a n).bankRefuses x = s.bankRefuses x := by
  rw [State.wakeRange_eq]
  have hl : ∀ l : List Nat, ∀ t : State, t.canonical → (l.foldl (State.wakeStepOf a n) t).bankRefuses x = t.bankRefuses x := fun l => by
    induction l with
    | nil => exact fun _ _ => rfl
    | cons b l ih =>
      intro t ht
      have hk : Keeps t (State.wakeStepOf a n t b) := by
        unfold State.wakeStepOf
        split
        · exact t.wakeBank_keeps _
        · exact .refl t
      refine (ih _ (hk.canonical ht)).trans ?_
      unfold State.wakeStepOf
      split
      · exact State.wakeBank_refuses ht _ _
      · rfl
  exact hl _ s hs

/-- What a device write to memory whose bank accepts it stores. -/
theorem State.devWrite_bytes {s : State} (hs : s.canonical) (ho : s.txqOver = false) {a : Nat} {bs : List Byte}
    (h0 : s.takes a = true) (h1 : s.takes (a + bs.length - 1) = true) : (s.devWrite a bs).bytes a bs.length = bs := by
  have hw := s.wakeRange_turned a bs.length
  have htakes : ∀ x, (s.wakeRange a bs.length).takes x = s.takes x := fun x => by
    unfold State.takes
    rw [State.wakeRange_refuses hs]
  have hput : (s.wakeRange a bs.length).devPut a bs = (s.wakeRange a bs.length).setBytes a bs := by
    unfold State.devPut
    rw [htakes, htakes, h0, h1]
    rfl
  have hover : (((s.wakeRange a bs.length).setBytes a bs).snoopBoth a bs.length).txqOver = false := by
    refine Eq.trans (Turned.txqOver (s := s) ?_) ho
    exact hw.trans ((State.setBytes_beside _ _ _).turned.trans ⟨rfl, rfl, rfl, rfl, rfl, rfl, rfl, fun _ _ => rfl⟩)
  rw [State.devWrite_eq, hput, State.muddy_apart hover]
  exact State.setBytes_bytes _ ((s.wakeRange_keeps a bs.length).canonical hs).mem a bs

theorem State.bytes_congr {s t : State} {a n : Nat} (h : ∀ x, a ≤ x → x < a + n → t.byte x = s.byte x) : t.bytes a n = s.bytes a n :=
  List.map_congr_left fun i hi => h _ (by omega) (by have := List.mem_range.1 hi; omega)

theorem State.word_congr {s t : State} {a : Nat} (h : ∀ x, a ≤ x → x < a + 4 → t.byte x = s.byte x) : t.word a = s.word a :=
  congrArg (fun bs => BitVec.ofNat 32 (leNat bs)) (State.bytes_congr h)

/-- A word written by the device reads back where its bank accepts it. -/
theorem State.devWrite_word {s : State} (hs : s.canonical) (ho : s.txqOver = false) {a : Nat} (w : Word)
    (h0 : s.takes a = true) (h1 : s.takes (a + 3) = true) : (s.devWrite a (leBytes 4 w.toNat)).word a = w := by
  have hb := State.devWrite_bytes hs ho (bs := leBytes 4 w.toNat) h0 (by rw [leBytes_length]; exact h1)
  rw [leBytes_length] at hb
  unfold State.word
  rw [hb, leNat_leBytes, Nat.mod_eq_of_lt (show w.toNat < 256 ^ 4 from w.isLt), BitVec.ofNat_toNat, BitVec.setWidth_eq]

end Sys2Proof.Machine
end

section
/-! SUPPORT. SUPERVISION_EXPIRY (R218): the entry, the transmits that are held, the record. -/

namespace Sys2Proof.Machine

theorem DevRest.txq {s t : State} (h : DevRest s t) : t.txq = s.txq := by rw [h]

theorem State.supExpired_iff (v : State) (n : Nat) : v.supExpired n = true ↔ bitOf (v.nbr n 0x34) 28 = true ∧ bitOf (v.nbr n 0x34) 29 = false ∧
    0 ≤ (BitVec.ofNat 32 (v.us / 1024) - v.nbr n 0x3C).toInt := by
  have hmsb : ∀ x : Word, x.getLsbD 31 = false ↔ 0 ≤ x.toInt := fun x => by
    rw [show x.getLsbD 31 = x.msb from rfl, BitVec.msb_eq_toInt]
    simp
  unfold State.supExpired
  dsimp only
  rw [Bool.and_eq_true, Bool.and_eq_true, Bool.not_eq_true', Bool.not_eq_true', hmsb, and_assoc]

/-- A transmit for neighbour n that TXGO has not taken. -/
def TxEntry.isFor (e : TxEntry) (n : Nat) : Bool := !e.taken && bitOf (e.words.getD 3 0) 26 && bitsOf (e.words.getD 3 0) 16 10 = n % 1024

/-- The hold of one transmit, in its slot. -/
def State.holdSlot (on : Bool) (s : State) (e : TxEntry) : State :=
  s.devWrite (s.slotAddr e.q e.slot + 8) (leBytes 4 (wput (s.word (s.slotAddr e.q e.slot + 8)) 27 1 (b2n on)).toNat)

theorem State.holdNbr_eq (s : State) (n : Nat) (on : Bool) : s.holdNbr n on =
    (s.txq.filter fun e => e.isFor n).foldl (State.holdSlot on)
      { s with txq := s.txq.map fun e => if e.isFor n then e.setHold on else e } := rfl

/-- What the hold of a neighbour's transmits leaves. -/
structure Held (s t : State) (n : Nat) (on : Bool) : Prop where
  rest : DevRest { s with txq := s.txq.map fun e => if e.isFor n then e.setHold on else e } t
  turned : Turned s t

theorem State.holdSlots_held (on : Bool) (l : List TxEntry) (s : State) :
    DevRest s (l.foldl (State.holdSlot on) s) ∧ Turned s (l.foldl (State.holdSlot on) s) :=
  ⟨devRest_foldl (fun t _ => t.devWrite_devRest _ _) l s, turned_foldl l (fun _ _ t => t.devWrite_turned _ _) s⟩

theorem State.holdNbr_held (s : State) (n : Nat) (on : Bool) : Held s (s.holdNbr n on) n on := by
  rw [State.holdNbr_eq]
  obtain ⟨hr, ht⟩ := State.holdSlots_held on (s.txq.filter fun e => e.isFor n) { s with txq := s.txq.map fun e => if e.isFor n then e.setHold on else e }
  have hmap : Turned s { s with txq := s.txq.map fun e => if e.isFor n then e.setHold on else e } :=
    ⟨rfl, rfl, rfl, rfl, rfl, rfl, rfl, fun _ _ => rfl⟩
  exact ⟨hr, hmap.trans ht⟩

/-- The slots of the transmit queues lie in their area. -/
theorem State.holdSlots_byte (on : Bool) {x : Nat} (l : List TxEntry) {s : State} (ho : s.txqOver = false)
    (hl : ∀ e ∈ l, e.q < 4 ∧ e.slot < 32) (hx : x < 4096 * s.get Reg.REEL_TXQBASE_ADDR ∨ 4096 * s.get Reg.REEL_TXQBASE_ADDR + 4096 ≤ x) :
    (l.foldl (State.holdSlot on) s).byte x = s.byte x := by
  induction l generalizing s with
  | nil => rfl
  | cons e l ih =>
    have ht : Turned s (s.holdSlot on e) := s.devWrite_turned _ _
    obtain ⟨hq, hs⟩ := hl e (by simp)
    refine (ih (ht.txqOver.trans ho) (fun y hy => hl y (List.mem_cons_of_mem _ hy)) (by rw [ht.get not_turnReg_TXQBASE.1]; exact hx)).trans ?_
    refine State.devWrite_byte_out ho ?_
    rw [leBytes_length]
    unfold State.slotAddr
    omega

/-- The transmit queues do not lie over the neighbour table. -/
theorem State.txqOver_nbr {s : State} (h : s.txqOver = false) : 4096 * s.get Reg.REEL_TXQBASE_ADDR + 4096 ≤ 0x21020000 ∨
    0x21030000 ≤ 4096 * s.get Reg.REEL_TXQBASE_ADDR := by
  unfold State.txqOver overlaps at h
  dsimp only at h
  generalize s.get Reg.REEL_TXQBASE_ADDR = q at *
  simp only [Bool.or_eq_false_iff, Bool.and_eq_false_iff, decide_eq_false_iff_not] at h
  obtain ⟨⟨⟨-, h⟩, -⟩, -⟩ := h
  rcases h with ((h | h) | h) | h
  · omega
  · omega
  · exact absurd h (by decide)
  · exact absurd h (by decide)

theorem nbrAddr_bounds (n : Nat) : 0x21020000 ≤ nbrAddr n ∧ nbrAddr n + 64 ≤ 0x21030000 := by
  unfold nbrAddr
  omega

/-- The bank of the neighbour table accepts every byte of an entry or none. -/
theorem State.takes_nbr {s : State} {n : Nat} (h : s.bankRefuses (nbrAddr n) = false) {i : Nat} (hi : i < 64) : s.takes (nbrAddr n + i) = true := by
  obtain ⟨h0, h1⟩ := nbrAddr_bounds n
  have hb : bankOf (nbrAddr n + i) = bankOf (nbrAddr n) := by
    have hsame : (nbrAddr n + i - 0x21000000) / 0x10000 = (nbrAddr n - 0x21000000) / 0x10000 := by
      unfold nbrAddr
      omega
    rw [bankOf_radio (by omega) (by omega), bankOf_radio (by omega) (by omega), hsame]
  have hr : s.bankRefuses (nbrAddr n + i) = false := by
    rw [← h]
    unfold State.bankRefuses
    rw [hb]
  unfold State.takes
  rw [hr, region_radio (by omega) (by omega)]
  rfl

/-- The marks of an expired entry. -/
theorem expired_marks (w : Word) : wput (wput w 29 1 1) 27 1 1 = w ||| 0x28000000 := by
  unfold wput
  rw [fset_bit_one _ _ _ (by decide), fset_bit_one _ _ _ (by decide), BitVec.or_assoc]
  rfl

/-- The state of an expired entry and of the transmits for it, before the record. -/
def State.supMarked (v : State) (n : Nat) : State := (v.setNbr n 0x34 (wput (wput (v.nbr n 0x34) 29 1 1) 27 1 1)).holdNbr n true

theorem State.supExpire_eq (v : State) (n : Nat) : v.supExpire n =
    ((v.supMarked n).put Reg.LINK_STATUS_SUPVX 1).postTo .c0 138 (BitVec.ofNat 32 (n % 1024)) 2 := rfl

theorem State.supMarked_turned (v : State) (n : Nat) : Turned v (v.supMarked n) := (v.devWrite_turned _ _).trans (State.holdNbr_held _ _ _).turned

theorem State.supMarked_rest (v : State) (n : Nat) :
    DevRest { v with txq := v.txq.map fun e => if e.isFor n then e.setHold true else e } (v.supMarked n) := by
  have h0 : DevRest v (v.setNbr n 0x34 (wput (wput (v.nbr n 0x34) 29 1 1) 27 1 1)) := v.devWrite_devRest _ _
  have h1 : Held _ (v.supMarked n) n true := State.holdNbr_held (v.setNbr n 0x34 (wput (wput (v.nbr n 0x34) 29 1 1) 27 1 1)) n true
  generalize v.setNbr n 0x34 (wput (wput (v.nbr n 0x34) 29 1 1) 27 1 1) = s at *
  generalize v.supMarked n = t at *
  have hr := h1.rest
  unfold DevRest at *
  rw [hr, h0]

theorem State.supMarked_nbr {v : State} (hv : v.canonical) {n : Nat} (ho : v.txqOver = false) (hb : v.bankRefuses (nbrAddr n) = false)
    (hq : ∀ x ∈ v.txq, x.q < 4 ∧ x.slot < 32) : (v.supMarked n).nbr n 0x34 = v.nbr n 0x34 ||| 0x28000000 := by
  rw [← expired_marks]
  have hw : (v.setNbr n 0x34 (wput (wput (v.nbr n 0x34) 29 1 1) 27 1 1)).nbr n 0x34 = wput (wput (v.nbr n 0x34) 29 1 1) 27 1 1 :=
    State.devWrite_word hv ho _ (State.takes_nbr hb (by decide)) (State.takes_nbr (i := 0x37) hb (by decide))
  have ht : Turned v (v.setNbr n 0x34 (wput (wput (v.nbr n 0x34) 29 1 1) 27 1 1)) := v.devWrite_turned _ _
  have hrest : DevRest v (v.setNbr n 0x34 (wput (wput (v.nbr n 0x34) 29 1 1) 27 1 1)) := v.devWrite_devRest _ _
  unfold State.supMarked
  generalize v.setNbr n 0x34 (wput (wput (v.nbr n 0x34) 29 1 1) 27 1 1) = s at *
  have htxq : s.txq = v.txq := hrest.txq
  have hso := ht.txqOver.trans ho
  refine Eq.trans ?_ hw
  refine State.word_congr fun x h0 h1 => ?_
  obtain ⟨b0, b1⟩ := nbrAddr_bounds n
  rw [State.holdNbr_eq]
  refine State.holdSlots_byte true _ (s := { s with txq := _ }) hso (fun e he => ?_) ?_
  · exact hq e (by rw [← htxq]; exact List.mem_of_mem_filter he)
  · have := State.txqOver_nbr hso
    change x < 4096 * s.get Reg.REEL_TXQBASE_ADDR ∨ 4096 * s.get Reg.REEL_TXQBASE_ADDR + 4096 ≤ x
    omega

theorem Turned.quiet {s t : State} (h : Turned s t) (q : s.Quiet) : t.Quiet :=
  (h.still q.still).quiet (h.waits.trans q.waits) ((h.reg _ not_turnReg_CFG_PEND).trans q.pend)

/-- What an expiry leaves. -/
structure Expired (v u : State) (n : Nat) : Prop where
  flag : u.flag Reg.LINK_STATUS_SUPVX = true
  nbr : v.txqOver = false → v.bankRefuses (nbrAddr n) = false → (∀ x ∈ v.txq, x.q < 4 ∧ x.slot < 32) →
    u.nbr n 0x34 = v.nbr n 0x34 ||| 0x28000000
  buf : u.icol0.buf = v.icol0.buf ++ [⟨138, v.icolPri .c0 138, false, BitVec.ofNat 32 (n % 1024), 2, v.us⟩]
  txq : u.txq = v.txq.map fun e => if e.isFor n then e.setHold true else e

theorem not_turnReg_ICOL_PRI : ¬turnReg (Reg.ICOL_PRI 0 17) := by
  unfold turnReg Reg.ICOL_PRI Reg.ENV_NF Reg.ENV_SVSTAT Reg.MEMC_BANKCTL Reg.MEMC_RBANKCTL Reg.EVL_WATCH
  omega

theorem supervisionExpiry_expires {s : State} {t n : Nat} (h : (s.at_ t).Calm) (hn : n < 1024) (he : (s.at_ t).supExpired n = true) :
    ∃ u, exec (.supervisionExpiry n t) s = .next u ∧ Expired (s.at_ t) u n := by
  have hx : exec (.supervisionExpiry n t) s = doneW (if n < 1024 && (s.at_ t).supExpired n then (s.at_ t).supExpire n else s.at_ t) := rfl
  generalize s.at_ t = v at *
  rw [he, if_pos (by simp [hn]), State.supExpire_eq] at hx
  have hturned := v.supMarked_turned n
  have hrest := v.supMarked_rest n
  have hnbr := fun ho hb hq => State.supMarked_nbr (n := n) h.canonical ho hb hq
  have hcanon : (v.supMarked n).canonical := ((State.setNbr_keeps _ _ _ _).transS (State.holdNbr_keeps _ _ _)).canonical h.canonical
  generalize v.supMarked n = m at *
  have hq : ((m.put Reg.LINK_STATUS_SUPVX 1).postTo .c0 138 (BitVec.ofNat 32 (n % 1024)) 2).Quiet :=
    (State.setReg_quiet (hturned.quiet h.quiet) _ (by decide) (by decide)).of rfl rfl rfl rfl rfl rfl rfl
  obtain ⟨u, hu, hset⟩ := doneW_settles hq
  refine ⟨u, hx.trans hu, ⟨?_, fun ho hb hq => ?_, ?_, ?_⟩⟩
  · rw [hset.flag]
    exact congrArg (· != 0) (m.put_get_self hcanon.regs Reg.LINK_STATUS_SUPVX 1 (by decide))
  · exact (hset.word _).trans (hnbr ho hb hq)
  · have hpri : m.icolPri .c0 138 = v.icolPri .c0 138 := hturned.get (f := ⟨Reg.ICOL_PRI 0 17, 8, 3⟩) not_turnReg_ICOL_PRI
    have hbuf : m.icol0.buf = v.icol0.buf ∧ m.us = v.us := by
      rw [hrest]
      exact ⟨rfl, rfl⟩
    have hput : (m.put Reg.LINK_STATUS_SUPVX 1).icolPri .c0 138 = m.icolPri .c0 138 := State.put_get_ne m _ ⟨Reg.ICOL_PRI 0 17, 8, 3⟩ _ (by decide)
    rw [hset.icol0_buf]
    refine (State.postTo_buf _ .c0 138 _ _).trans ?_
    rw [hput, hpri, ← hbuf.2]
    exact congrArg (· ++ _) hbuf.1
  · rw [hset.txq]
    exact hrest.txq

end Sys2Proof.Machine
end

section
/-! O43: the slot grid's commands, supervision and the dwell buckets. -/

namespace Sys2Proof.Machine

theorem slotAdjust_ticks (d : Word) : toSigned 16 (bitsOf d 0 16) = (d.setWidth 16).toInt := by
  unfold toSigned bitsOf
  rw [BitVec.toInt_eq_toNat_cond, BitVec.toNat_setWidth]
  simp only [BitVec.ushiftRight_zero, Nat.mod_mod]
  split_ifs <;> omega

/-- Settles O43: each command by the lemma about it. -/
theorem slotsCountersAndSupervision : Obligations.SlotsCountersAndSupervision := by
  unfold Obligations.SlotsCountersAndSupervision
  refine ⟨fun s d => ⟨does_done rfl, does_done rfl, ?_⟩, fun s t => ?_⟩
  · rw [← slotAdjust_ticks]
    exact does_done rfl
  dsimp only
  refine ⟨fun hc hq hw hs hp hh hsub hdue => ?_, fun h => ⟨fun hearly => ?_, fun n hn => ⟨fun h28 h29 hlate => ?_, fun hno => ?_⟩, does_done rfl⟩⟩
  · obtain ⟨w, u, hu, hcmd⟩ := slotStart_starts ⟨hc, hq, hw, hs, hp, hh, hsub⟩ hdue
    have hgrid := hcmd.grid
    have hepoch := hcmd.epoch
    refine ⟨u, hu, hgrid.slotT, hgrid.evc, hgrid.setPend, hgrid.adj, hcmd.mem, hcmd.waits, hcmd.armed, ?_, ?_, hgrid.next, fun a ha => ?_, ?_, hepoch.gone,
      hepoch.kept, fun e c he hc hr => hcmd.latched he hc hr⟩
    · exact (hcmd.switchReg (by decide)).trans hcmd.turned.ends.pend
    · rw [hcmd.cfg]
      exact hcmd.turned.ends.held
    · obtain ⟨x, hx, rfl⟩ := List.mem_map.1 ha
      exact hcmd.waited (hw x hx)
    · split
      · rename_i hf
        exact hepoch.fired hf
      · rename_i hf
        exact hepoch.plain hf
  · have hx : exec (.slotStart t) s =
        doneW (if (s.at_ t).gridOn && (s.at_ t).link.nextT ≤ (s.at_ t).now then (s.at_ t).slotStart else s.at_ t) := rfl
    exact does_doneW (hx.trans (congrArg doneW (if_neg (by simp; omega)))) h.quiet
  · obtain ⟨u, hu, hexp⟩ := supervisionExpiry_expires h hn (((s.at_ t).supExpired_iff n).2 ⟨h28, h29, hlate⟩)
    have hbuf := hexp.buf
    have htxq := hexp.txq
    unfold TxEntry.isFor at htxq
    rw [Nat.mod_eq_of_lt hn] at hbuf htxq
    exact ⟨u, hu, hexp.flag, hexp.nbr, hbuf, htxq⟩
  · have hx : exec (.supervisionExpiry n t) s = doneW (if n < 1024 && (s.at_ t).supExpired n then (s.at_ t).supExpire n else s.at_ t) := rfl
    have hf : (s.at_ t).supExpired n = false := by
      rw [← Bool.not_eq_true, State.supExpired_iff]
      rintro ⟨h1, h2, h3⟩
      rcases hno with hno | hno | hno
      · exact absurd (hno.symm.trans h1) (by decide)
      · exact absurd (hno.symm.trans h2) (by decide)
      · omega
    exact does_doneW (hx.trans (congrArg doneW (if_neg (by rw [hf]; simp)))) h.quiet

end Sys2Proof.Machine
end

section
/-! SUPPORT. How a step of a RUNNING context runs: on to the next step (R149, R152, R153), or into a context fault (R177). -/

namespace Sys2Proof.Machine

/-! ### Changes that leave a quiet state quiet -/

theorem State.Quiet.setCtx {s : State} (q : s.Quiet) (e c : Nat) (x : Ctx) : (s.setCtx e c x).Quiet := q.of rfl rfl rfl rfl rfl rfl rfl

theorem State.Quiet.setLane {s : State} (q : s.Quiet) (k : Nat) (l : Lane) : (s.setLane k l).Quiet := q.of rfl rfl rfl rfl rfl rfl rfl

theorem State.Quiet.postRaw {s : State} (q : s.Quiet) (d : CoreId) (src pri : Nat) (sw : Bool) (lo hi : Word) :
    (s.postRaw d src pri sw lo hi).Quiet := by
  cases d <;> exact q.of rfl rfl rfl rfl rfl rfl rfl

theorem State.Quiet.postTo {s : State} (q : s.Quiet) (d : CoreId) (src : Nat) (lo hi : Word) : (s.postTo d src lo hi).Quiet :=
  q.postRaw d src _ false lo hi

theorem quiet_foldl {α : Type} {f : State → α → State} (h : ∀ s i, s.Quiet → (f s i).Quiet) (l : List α) (s : State) (q : s.Quiet) :
    (l.foldl f s).Quiet := by
  induction l generalizing s with
  | nil => exact q
  | cons i l ih => exact ih _ (h s i q)

theorem State.setCtx_ctx_self {s : State} (hs : Swf (fun _ => Ctx.reset) s.ctxs) (e c : Nat) (x : Ctx) : (s.setCtx e c x).ctx e c = x :=
  sget_sput_self hs.1 _ _

theorem State.setLane_lane_self {s : State} (hs : Swf (fun _ => Lane.reset) s.lanes) (k : Nat) (l : Lane) : (s.setLane k l).lane k = l :=
  sget_sput_self hs.1 _ _

/-! ### On to the next step -/

/-- `y` is `x` on its way: its place, its count of steps, its latched conditions and its hop counts may have changed. -/
def Ctx.Goes (x y : Ctx) : Prop :=
  y = { x with pc := y.pc, steps := y.steps, lat := y.lat, evtHop := y.evtHop, evHop := y.evHop, turnHop := y.turnHop }

section
variable {x y : Ctx} (h : x.Goes y)
include h

theorem Ctx.Goes.st : y.st = x.st := by rw [h]
theorem Ctx.Goes.v : y.v = x.v := by rw [h]
theorem Ctx.Goes.hit : y.hit = x.hit := by rw [h]
theorem Ctx.Goes.acc : y.acc = x.acc := by rw [h]
theorem Ctx.Goes.pend : y.pend = x.pend := by rw [h]
theorem Ctx.Goes.z : y.z = x.z := by rw [h]

end

theorem State.takeCond_rest (s : State) (e c code : Nat) : (s.takeCond e c code).2 = { s with ctxs := (s.takeCond e c code).2.ctxs } := by
  unfold State.takeCond
  dsimp only
  split <;> rfl

theorem State.takeCond_goes {s : State} (hs : Swf (fun _ => Ctx.reset) s.ctxs) (e c code : Nat) :
    Ctx.Goes (s.ctx e c) ((s.takeCond e c code).2.ctx e c) := by
  unfold State.takeCond
  dsimp only
  split
  · rw [State.setCtx_ctx_self hs]
    split <;> rfl
  · rfl

theorem State.stepNext_eq (s : State) (e c : Nat) (w : StepWord) : s.stepNext e c w =
    (s.takeCond e c w.cond).2.setCtx e c { (s.takeCond e c w.cond).2.ctx e c with
      pc := if (s.takeCond e c w.cond).1 then w.tgt else (((s.takeCond e c w.cond).2.ctx e c).pc + 1) % 1024
      steps := ((s.takeCond e c w.cond).2.ctx e c).steps + 1 } := rfl

/-- Going to the next step changes nothing but the context. -/
theorem State.stepNext_rest (s : State) (e c : Nat) (w : StepWord) : s.stepNext e c w = { s with ctxs := (s.stepNext e c w).ctxs } := by
  have h := s.takeCond_rest e c w.cond
  rw [State.stepNext_eq]
  generalize (s.takeCond e c w.cond).2 = t at *
  rw [h]
  rfl

theorem State.stepNext_goes {s : State} (hs : Swf (fun _ => Ctx.reset) s.ctxs) (e c : Nat) (w : StepWord) :
    Ctx.Goes (s.ctx e c) ((s.stepNext e c w).ctx e c) := by
  have ht : Swf (fun _ => Ctx.reset) (s.takeCond e c w.cond).2.ctxs := by
    unfold State.takeCond
    dsimp only
    split
    · exact Swf_sput hs _ _
    · exact hs
  have h := State.takeCond_goes hs e c w.cond
  rw [State.stepNext_eq, State.setCtx_ctx_self ht]
  generalize (s.takeCond e c w.cond).2.ctx e c = y at *
  unfold Ctx.Goes at *
  rw [h]

theorem State.Quiet.stepNext {s : State} (q : s.Quiet) (e c : Nat) (w : StepWord) : (s.stepNext e c w).Quiet := by
  rw [State.stepNext_rest]
  exact q.of rfl rfl rfl rfl rfl rfl rfl

/-- `u` is the state after a step with the effect `t`: the context of the step is on its way, and the rest is `t`'s but for what every
command ends with. -/
structure StepEnds (t u : State) (e c : Nat) : Prop where
  regs : u.regs = t.regs
  mem : u.mem = t.mem
  lost : u.lost = t.lost
  lanes : u.lanes = t.lanes
  link : u.link = t.link
  txq : u.txq = t.txq
  goes : Ctx.Goes (t.ctx e c) (u.ctx e c)

namespace StepEnds

variable {t u : State} {e c : Nat} (h : StepEnds t u e c)
include h

theorem v : (u.ctx e c).v = (t.ctx e c).v := h.goes.v
theorem acc : (u.ctx e c).acc = (t.ctx e c).acc := h.goes.acc
theorem reg (a : Nat) : u.reg a = t.reg a := congrArg (fun r => sget regReset r a) h.regs
theorem get (f : Field) : u.get f = t.get f := congrArg (fun w => fget w f) (h.reg f.addr)
theorem lane (k : Nat) : u.lane k = t.lane k := congrArg (fun l => sget (fun _ => Lane.reset) l k) h.lanes
theorem byte (a : Nat) : u.byte a = t.byte a := State.byte_congr ⟨h.mem, h.lost⟩ a
theorem word (a : Nat) : u.word a = t.word a := State.word_congr fun x _ _ => h.byte x

end StepEnds

theorem Settles.stepEnds {t u : State} {e c : Nat} {w : StepWord} (h : Settles (t.stepNext e c w) u)
    (hs : Swf (fun _ => Ctx.reset) t.ctxs) (hr : (t.ctx e c).st = .running) : StepEnds t u e c := by
  have hg := State.stepNext_goes hs e c w
  have hst : ((t.stepNext e c w).ctx e c).st = .running := hg.st.trans hr
  have hu : u.ctx e c = (t.stepNext e c w).ctx e c := (h.ctx e c).resolve_right fun hw => nomatch hst.symm.trans hw.1
  have hrest := t.stepNext_rest e c w
  generalize t.stepNext e c w = n at *
  have hr := h.rest
  rw [hrest] at hr
  exact {
    regs := by rw [hr]
    mem := by rw [hr]
    lost := by rw [hr]
    lanes := by rw [hr]
    link := by rw [hr]
    txq := by rw [hr]
    goes := by rw [hu]; exact hg }

/-- The state after a command that ends with a step's effect `t` and the next step. -/
theorem stepEnds_of_exec {s t : State} {i : Instr} {e c : Nat} {w : StepWord} (hx : exec i s = doneW (t.stepNext e c w)) (q : t.Quiet)
    (hs : Swf (fun _ => Ctx.reset) t.ctxs) (hr : (t.ctx e c).st = .running) : ∃ u, exec i s = .next u ∧ StepEnds t u e c := by
  obtain ⟨u, hu, hset⟩ := doneW_settles (q.stepNext e c w)
  exact ⟨u, hx.trans hu, hset.stepEnds hs hr⟩

/-! ### The step that runs -/

section
variable {s : State} {e c : Nat} {w : StepWord} (h : s.At e c w) {op : Nat}
include h

/-- The next step of a RUNNING context, a listed one within its stretch, runs the body of its OP. -/
theorem State.At.runStep_ok {is : StepWord → Bool} (hi : is w = true) {body : State → StepWord → Except Nat State}
    {fin : State → Host.Outcome State Fault Refusal} {t : State} (hb : body s w = .ok t) : s.runStep e c is body fin = fin t := by
  unfold State.runStep
  dsimp only
  rw [h.fetch, h.eng, h.st, h.listed, hi, if_neg (by simp), if_neg (by have := h.steps; omega), if_neg (by simp), if_neg (by simp), hb]

theorem State.At.runStep_error {is : StepWord → Bool} (hi : is w = true) {body : State → StepWord → Except Nat State}
    {fin : State → Host.Outcome State Fault Refusal} {k : Nat} (hb : body s w = .error k) :
    s.runStep e c is body fin = doneW (s.faultCtx e c k) := by
  unfold State.runStep
  dsimp only
  rw [h.fetch, h.eng, h.st, h.listed, hi, if_neg (by simp), if_neg (by have := h.steps; omega), if_neg (by simp), if_neg (by simp), hb]

theorem State.At.dataStep_ok (ho : w.op = op) {eff : State → StepWord → Except Nat State} {t : State} (he : eff s w = .ok t) :
    s.dataStep e c op eff = doneW (t.stepNext e c w) :=
  h.runStep_ok (decide_eq_true ho) (by rw [he])

theorem State.At.dataStep_error (ho : w.op = op) {eff : State → StepWord → Except Nat State} {k : Nat} (he : eff s w = .error k) :
    s.dataStep e c op eff = doneW (s.faultCtx e c k) :=
  h.runStep_error (decide_eq_true ho) (by rw [he])

theorem State.At.plainStep (ho : w.op = op) (eff : State → StepWord → State) :
    s.plainStep e c op eff = done ((eff s w).stepNext e c w) :=
  h.runStep_ok (decide_eq_true ho) rfl

/-- A step that goes on: its effect, and the next step. -/
theorem State.At.goes (ho : w.op = op) {i : Instr} {eff : State → StepWord → Except Nat State} (hx : exec i s = s.dataStep e c op eff)
    {t : State} (he : eff s w = .ok t) (q : t.Quiet) : Does i s (t.stepNext e c w) :=
  does_doneW (hx.trans (h.dataStep_ok ho he)) (q.stepNext e c w)

/-- The state after a step that goes on. -/
theorem State.At.ends (ho : w.op = op) {i : Instr} {eff : State → StepWord → Except Nat State} (hx : exec i s = s.dataStep e c op eff)
    {t : State} (he : eff s w = .ok t) (q : t.Quiet) (hs : Swf (fun _ => Ctx.reset) t.ctxs) (hr : (t.ctx e c).st = .running) :
    ∃ u, exec i s = .next u ∧ StepEnds t u e c :=
  stepEnds_of_exec (hx.trans (h.dataStep_ok ho he)) q hs hr

end

/-! ### Lanes that go to rest -/

/-- `t` is `s` but for lanes, memory, the sub-windows of SURVEY and the single path's switch. -/
def LaneTurned (s t : State) : Prop :=
  t = { s with
    lanes := t.lanes, mem := t.mem, lost := t.lost, free := t.free
    env := { s.env with busy := t.env.busy }
    rfe := { s.rfe with divst := t.rfe.divst } }

theorem LaneTurned.refl (s : State) : LaneTurned s s := rfl

theorem LaneTurned.trans {s t u : State} (h : LaneTurned s t) (k : LaneTurned t u) : LaneTurned s u := by
  unfold LaneTurned at *
  rw [k, h]

theorem Beside.laneTurned {s t : State} (h : Beside s t) : LaneTurned s t := by
  unfold LaneTurned
  unfold Beside at h
  rw [h]

theorem LaneTurned.quiet {s t : State} (h : LaneTurned s t) (q : s.Quiet) : t.Quiet := by
  rw [h]
  exact q.of rfl rfl rfl rfl rfl rfl rfl

theorem LaneTurned.regs {s t : State} (h : LaneTurned s t) : t.regs = s.regs := by rw [h]
theorem LaneTurned.ctxs {s t : State} (h : LaneTurned s t) : t.ctxs = s.ctxs := by rw [h]
theorem LaneTurned.ctx {s t : State} (h : LaneTurned s t) (e c : Nat) : t.ctx e c = s.ctx e c := by
  unfold State.ctx
  rw [h.ctxs]

theorem LaneTurned.restState {s t : State} (h : LaneTurned s t) (k : Nat) : t.restState k = s.restState k := by
  rw [h]
  rfl

theorem State.markBusy_turned (s : State) (k : Nat) : LaneTurned s (s.markBusy k) := by
  unfold State.markBusy
  dsimp only
  split <;> rfl

theorem State.spHunt_turned (s : State) (k : Nat) : LaneTurned s (s.spHunt k) := by
  unfold State.spHunt
  split <;> rfl

theorem State.markBusy_lanes (s : State) (k : Nat) : (s.markBusy k).lanes = s.lanes := by
  unfold State.markBusy
  exact ite_same State.lanes rfl rfl

theorem State.spHunt_lanes (s : State) (k : Nat) : (s.spHunt k).lanes = s.lanes := by
  unfold State.spHunt
  exact ite_same State.lanes rfl rfl

theorem State.silence_turned (s : State) (k : Nat) : LaneTurned s (s.silence k) :=
  (s.markBusy_turned k).trans ((State.spHunt_turned _ k).trans (State.updLane_beside _ _ _).laneTurned)

/-! ### A context fault -/

theorem State.muteLane_turned {s : State} (hh : s.rfe.holder = none) (e c : Nat) : LaneTurned s (s.muteLane e c) := by
  unfold State.muteLane
  split
  · exact .refl s
  · rw [hh]
    exact s.silence_turned _

theorem State.Quiet.peerFault {s : State} (q : s.Quiet) (e c : Nat) : (s.peerFault e c).Quiet :=
  quiet_foldl (fun t d qt => by
    split
    · exact qt
    · exact qt.setCtx _ _ _) _ s q

theorem State.peerFault_ctx (s : State) (e c : Nat) : (s.peerFault e c).ctx e c = s.ctx e c :=
  foldl_same (fun t : State => t.ctx e c) (fun t d => by
    split
    · rfl
    · exact State.setCtx_ctx_ne _ _ (by omega)) _ s

/-- A context whose engine's faults are not fatal becomes FAULTED, with its cause, at its step. -/
theorem faults_of_exec {s : State} (hc : s.Calm) (hh : s.rfe.holder = none) (hf : s.reg Reg.REEL_FATALC = 0) {i : Instr} {e c k : Nat}
    (hx : exec i s = doneW (s.faultCtx e c k)) : Faults i s e c k := by
  have hbit : bitOf (0 : Word) k = false := by
    unfold bitOf
    simp
  have hfatal : (((s.get Reg.REEL_FATALE_ENG).testBit e) && bitOf (s.reg Reg.REEL_FATALC) k) = false := by
    rw [hf, hbit, Bool.and_false]
  set x : Ctx := { s.ctx e c with
    st := .faulted, cause := k, fatal := false, timer := none, act := .none, wait := .none, urg := false, resume := false } with hxd
  set m : State := (s.setCtx e c x).muteLane e c with hm
  have hmt : LaneTurned (s.setCtx e c x) m := State.muteLane_turned (s := s.setCtx e c x) hh e c
  have hmq : m.Quiet := hmt.quiet (hc.quiet.setCtx e c x)
  have heq : ∃ w, s.faultCtx e c k = (((m.peerFault e c).setReg Reg.REEL_LASTF w).postTo .c0 136 w 0) := by
    unfold State.faultCtx
    dsimp only
    rw [hfatal]
    exact ⟨_, rfl⟩
  obtain ⟨w, hw⟩ := heq
  have hq : (s.faultCtx e c k).Quiet := hw ▸ (State.setReg_quiet (hmq.peerFault e c) w (by decide) (by decide)).postTo _ _ _ _
  have hctx : (s.faultCtx e c k).ctx e c = x := by
    rw [hw, State.postTo_ctx, State.setReg_ctx, State.peerFault_ctx, hmt.ctx, State.setCtx_ctx_self hc.canonical.ctxs]
  obtain ⟨u, hu, hset⟩ := doneW_settles hq
  have hue : u.ctx e c = x := ((hset.ctx e c).resolve_right fun hwt => nomatch (hctx ▸ hwt.1 : x.st = .waiting)).trans hctx
  exact ⟨u, hx.trans hu, by rw [hue], by rw [hue], by rw [hue], by rw [hue], by rw [hue]⟩

end Sys2Proof.Machine
end

section
/-! SUPPORT. LOOKUP (R162, R228, R267): the entry that it finds, the bank that wakes, what it writes. -/

namespace Sys2Proof.Machine

/-! ### The lowest valid match -/

theorem find?_range_eq_some_iff {n i : Nat} {p : Nat → Bool} :
    (List.range n).find? p = some i ↔ i < n ∧ p i = true ∧ ∀ j, j < i → ¬p j = true := by
  rw [List.find?_range_eq_some]
  simp only [List.mem_range, Bool.not_eq_true', Bool.not_eq_true]
  tauto

/-- Two words are the same if their halves are. -/
theorem halves_eq_iff (x y : Word) : (bitsOf x 0 16 = bitsOf y 0 16 ∧ bitsOf x 16 16 = bitsOf y 16 16) ↔ x = y := by
  refine ⟨fun ⟨h0, h1⟩ => ?_, fun h => h ▸ ⟨rfl, rfl⟩⟩
  unfold bitsOf at h0 h1
  rw [BitVec.toNat_ushiftRight, BitVec.toNat_ushiftRight, Nat.shiftRight_eq_div_pow, Nat.shiftRight_eq_div_pow] at h0 h1
  have hx := x.isLt
  have hy := y.isLt
  refine BitVec.eq_of_toNat_eq ?_
  omega

theorem bitsOf_low16 (x : Word) : bitsOf x 0 16 = x.toNat % 65536 := by
  unfold bitsOf
  rw [BitVec.ushiftRight_zero]
  rfl

theorem State.findShort_iff (s : State) (a : Word) (n : Nat) : s.findShort (bitsOf a 16 16) (bitsOf a 0 16) = some n ↔
    n < 1024 ∧ (bitOf (s.nbr n 12) 31 = true ∧ a.toNat % 65536 ≠ 0xFFFE ∧ a.toNat % 65536 ≠ 0xFFFF ∧ s.nbr n 8 = a) ∧
      ∀ m, m < n → ¬(bitOf (s.nbr m 12) 31 = true ∧ a.toNat % 65536 ≠ 0xFFFE ∧ a.toNat % 65536 ≠ 0xFFFF ∧ s.nbr m 8 = a) := by
  unfold State.findShort
  rw [bitsOf_low16]
  split
  · rename_i hx
    constructor
    · exact nofun
    · rintro ⟨-, ⟨-, h0, h1, -⟩, -⟩
      exact absurd hx (not_or.2 ⟨h0, h1⟩)
  · rename_i hx
    obtain ⟨h0, h1⟩ := not_or.1 hx
    have hp : ∀ m, (bitOf (s.nbr m 12) 31 && decide (bitsOf (s.nbr m 8) 0 16 = a.toNat % 65536) &&
          decide (bitsOf (s.nbr m 8) 16 16 = bitsOf a 16 16)) = true ↔
        (bitOf (s.nbr m 12) 31 = true ∧ a.toNat % 65536 ≠ 0xFFFE ∧ a.toNat % 65536 ≠ 0xFFFF ∧ s.nbr m 8 = a) := fun m => by
      rw [← halves_eq_iff (s.nbr m 8) a, bitsOf_low16 a]
      simp only [Bool.and_eq_true, decide_eq_true_eq]
      tauto
    simp only [find?_range_eq_some_iff, hp]

theorem State.findExt_iff (s : State) (lo hi : Word) (n : Nat) : s.findExt lo hi = some n ↔
    n < 1024 ∧ (bitOf (s.nbr n 12) 31 = true ∧ s.nbr n 0 = lo ∧ s.nbr n 4 = hi) ∧
      ∀ m, m < n → ¬(bitOf (s.nbr m 12) 31 = true ∧ s.nbr m 0 = lo ∧ s.nbr m 4 = hi) := by
  unfold State.findExt
  simp only [find?_range_eq_some_iff, Bool.and_eq_true, decide_eq_true_eq, and_assoc]

/-! ### The table's bank wakes -/

/-- Only the bank of the neighbour table lies in the table's range. -/
theorem nbr_bank : ∀ b ∈ List.range 20, (nbrAddr 0 < bankBase b + 0x10000 && bankBase b < nbrAddr 0 + 0x10000) = true → b = 18 := by decide

theorem State.wakeBank_radio_reg (s : State) {a b x : Nat} (hb : bankOf a = some b) (h : 16 ≤ b) (hx : x ≠ Reg.MEMC_RBANKCTL) :
    (s.wakeBank a).reg x = s.reg x := by
  unfold State.wakeBank
  rw [hb]
  dsimp only
  split
  · rw [if_neg (Nat.not_lt.2 h)]
    exact State.setReg_reg_ne _ _ hx
  · rfl

theorem State.wakeNbr_reg (s : State) {x : Nat} (hx : x ≠ Reg.MEMC_RBANKCTL) : (s.wakeRange (nbrAddr 0) 0x10000).reg x = s.reg x := by
  have hstep : ∀ b ∈ List.range 20, ∀ t : State, (State.wakeStepOf (nbrAddr 0) 0x10000 t b).reg x = t.reg x := fun b hb t => by
    unfold State.wakeStepOf
    split
    · rename_i hin
      rw [nbr_bank b hb hin]
      exact t.wakeBank_radio_reg (b := 18) (by decide) (by decide) hx
    · rfl
  rw [State.wakeRange_eq]
  generalize State.wakeStepOf (nbrAddr 0) 0x10000 = f at *
  generalize List.range 20 = l at *
  induction l generalizing s with
  | nil => rfl
  | cons b l ih =>
    rw [List.foldl_cons, ih _ fun d hd => hstep d (List.mem_cons_of_mem _ hd), hstep b (by simp)]

/-! ### The search reads the bytes alone -/

theorem not_turnReg_GMODE {g : Nat} (h : g < 16) : ¬turnReg (Reg.ENV_GMODE g) := by
  unfold turnReg Reg.ENV_GMODE Reg.ENV_NF Reg.ENV_SVSTAT Reg.MEMC_BANKCTL Reg.MEMC_RBANKCTL Reg.EVL_WATCH
  omega

theorem DevRest.ctx {s t : State} (h : DevRest s t) (e c : Nat) : t.ctx e c = s.ctx e c := by
  unfold State.ctx
  rw [h]

theorem DevRest.lane {s t : State} (h : DevRest s t) (k : Nat) : t.lane k = s.lane k := by
  unfold State.lane
  rw [h]


theorem Turned.laneOf {s t : State} (h : Turned s t) (e c : Nat) : t.laneOf e c = s.laneOf e c := by
  have hstd : t.std e = s.std e := by
    unfold State.std
    by_cases he : e < 16
    · unfold State.flag
      rw [h.get (not_turnReg_GMODE he)]
    · rw [decide_eq_false he, Bool.false_and, Bool.false_and]
  unfold State.laneOf
  rw [hstd]

theorem Turned.curFrame {s t : State} (h : Turned s t) (hd : DevRest s t) (e c : Nat) : t.curFrame e c = s.curFrame e c := by
  unfold State.curFrame
  rw [h.laneOf]
  split
  · rw [hd.lane]
  · rfl

theorem State.wakeRange_nbr (s : State) (a n m off : Nat) : (s.wakeRange a n).nbr m off = s.nbr m off :=
  State.word_congr fun x _ _ => s.wakeRange_byte a n x

theorem State.wakeRange_lookupKey (s : State) (a n e c : Nat) (w : StepWord) : (s.wakeRange a n).lookupKey e c w = s.lookupKey e c w := by
  have hd := s.wakeRange_devRest a n
  have hn : ∀ m off, (s.wakeRange a n).nbr m off = s.nbr m off := s.wakeRange_nbr a n
  have hshort : ∀ p q, (s.wakeRange a n).findShort p q = s.findShort p q := fun p q => by
    unfold State.findShort
    simp only [hn]
  have hext : ∀ p q, (s.wakeRange a n).findExt p q = s.findExt p q := fun p q => by
    unfold State.findExt
    simp only [hn]
  unfold State.lookupKey
  dsimp only
  rw [hd.ctx, (s.wakeRange_turned a n).curFrame hd]
  simp only [hshort, hext]

/-! ### What LOOKUP writes -/

/-- The context after a LOOKUP with the result `r`. -/
def Ctx.looked (x : Ctx) (dst : Nat) (fp : Bool) : Option Nat → Ctx
  | some n => { x.setV dst (BitVec.ofNat 32 n) with hit := true, pend := fp }
  | none => { x.setV dst 0xFFFFFFFF with hit := false }

/-- The pending bit of the entry found. -/
def State.foundPend (s : State) : Option Nat → Bool
  | some n => bitOf (s.nbr n 12) 30
  | none => false

theorem State.lookupEff_eq (s : State) (e c : Nat) {w : StepWord} (h : w.mod % 4 ≠ 3) : s.lookupEff e c w =
    .ok (if w.m 2 then
        (s.setCtx e c ((s.ctx e c).looked w.dst (s.foundPend (s.lookupKey e c w)) (s.lookupKey e c w))).latchPend e c
          (s.foundPend (s.lookupKey e c w))
      else s.setCtx e c ((s.ctx e c).looked w.dst (s.foundPend (s.lookupKey e c w)) (s.lookupKey e c w))) := by
  unfold State.lookupEff
  rw [if_neg h]
  cases s.lookupKey e c w <;> rfl

theorem State.latchPend_rest (s : State) (e c : Nat) (fp : Bool) : s.latchPend e c fp = { s with lanes := (s.latchPend e c fp).lanes } := by
  unfold State.latchPend
  split
  · split <;> rfl
  · split <;> rfl
  · rfl

theorem State.updFrame_frames {s : State} (hs : Swf (fun _ => Lane.reset) s.lanes) (k b : Nat) (g : Frame → Frame) :
    ((s.updFrame k b g).lane k).frames = (s.lane k).frames.map fun f => if f.buf = b then g f else f := by
  unfold State.updFrame
  dsimp only
  rw [State.setLane_lane_self hs]

theorem State.latchPend_frames {s : State} (hs : Swf (fun _ => Lane.reset) s.lanes) {e c k : Nat} {f : Frame} (hf : s.curFrame e c = some (k, f))
    (ha : f.ack = .none ∨ f.ack = .requested) (fp : Bool) :
    ((s.latchPend e c fp).lane k).frames = (s.lane k).frames.map fun g => if g.buf = f.buf then { g with latchFp := fp } else g := by
  unfold State.latchPend
  rw [hf]
  dsimp only
  rw [if_pos (by simpa using ha), State.updFrame_frames hs]

/-- What a LOOKUP leaves: the context, the frames of the lane with MOD[2], and the register of the table's bank. -/
structure LookedUp (s u : State) (e c : Nat) (w : StepWord) : Prop where
  ctx : Ctx.Goes ((s.ctx e c).looked w.dst (s.foundPend (s.lookupKey e c w)) (s.lookupKey e c w)) (u.ctx e c)
  mem : u.mem = s.mem
  regs : s.regsBut u [Reg.MEMC_RBANKCTL]
  frames : ∀ k f, w.mod.testBit 2 = true → s.curFrame e c = some (k, f) → f.ack = .none ∨ f.ack = .requested →
    (u.lane k).frames = (s.lane k).frames.map fun g => if g.buf = f.buf then { g with latchFp := s.foundPend (s.lookupKey e c w) } else g

/-- The effect of LOOKUP on a state `t` that is `s` but for the banks. -/
theorem State.lookupEff_looked {t : State} (hq : t.Quiet) (hcan : t.canonical) (e c : Nat) {w : StepWord} (hm : w.mod % 4 ≠ 3) :
    ∃ p, t.lookupEff e c w = .ok p ∧ p.Quiet ∧ Swf (fun _ => Ctx.reset) p.ctxs ∧ p.mem = t.mem ∧ p.regs = t.regs ∧
      p.ctx e c = (t.ctx e c).looked w.dst (t.foundPend (t.lookupKey e c w)) (t.lookupKey e c w) ∧
      ∀ k f, w.mod.testBit 2 = true → t.curFrame e c = some (k, f) → f.ack = .none ∨ f.ack = .requested →
        (p.lane k).frames = (t.lane k).frames.map fun g => if g.buf = f.buf then { g with latchFp := t.foundPend (t.lookupKey e c w) } else g := by
  have heff := t.lookupEff_eq e c hm
  generalize t.foundPend (t.lookupKey e c w) = fp at *
  generalize (t.ctx e c).looked w.dst fp (t.lookupKey e c w) = y at *
  have hself : (t.setCtx e c y).ctx e c = y := State.setCtx_ctx_self hcan.ctxs e c y
  have hswf : Swf (fun _ => Ctx.reset) (t.setCtx e c y).ctxs := Swf_sput hcan.ctxs _ _
  refine ⟨_, heff, ?_⟩
  split
  · have hfr : ∀ k f, (t.setCtx e c y).curFrame e c = some (k, f) → f.ack = .none ∨ f.ack = .requested → _ :=
      fun k f hf ha => State.latchPend_frames (s := t.setCtx e c y) hcan.lanes hf ha fp
    have hrest := (t.setCtx e c y).latchPend_rest e c fp
    have hq' := hq.setCtx e c y
    generalize (t.setCtx e c y).latchPend e c fp = p at *
    refine ⟨?_, ?_, ?_, ?_, ?_, fun k f _ hf ha => hfr k f hf ha⟩
    · rw [hrest]
      exact hq'.of rfl rfl rfl rfl rfl rfl rfl
    all_goals rw [hrest]
    · exact hswf
    · rfl
    · rfl
    · exact hself
  · rename_i hbit
    exact ⟨hq.setCtx e c y, hswf, rfl, rfl, hself, fun _ _ h => absurd h hbit⟩

theorem State.At.lookup {s : State} {e c : Nat} {w : StepWord} (h : s.At e c w) (hc : s.Calm) (ho : w.op = 0x19) (hm : w.mod % 4 ≠ 3) :
    ∃ u, exec (.lookup e c) s = .next u ∧ LookedUp s u e c w := by
  have hx : ∀ p, (s.wakeRange (nbrAddr 0) 0x10000).lookupEff e c w = .ok p → exec (.lookup e c) s = doneW (p.stepNext e c w) := fun p hp =>
    (show exec (.lookup e c) s = s.dataStep e c 0x19 fun s w => (s.wakeRange (nbrAddr 0) 0x10000).lookupEff e c w from rfl).trans
      (h.dataStep_ok ho hp)
  have hd := s.wakeRange_devRest (nbrAddr 0) 0x10000
  have ht := s.wakeRange_turned (nbrAddr 0) 0x10000
  have hmem := (s.wakeRange_mem (nbrAddr 0) 0x10000).1
  have hreg : ∀ x, x ∉ [Reg.MEMC_RBANKCTL] → (s.wakeRange (nbrAddr 0) 0x10000).reg x = s.reg x := fun x hx => s.wakeNbr_reg (by simpa using hx)
  have hk := s.wakeRange_lookupKey (nbrAddr 0) 0x10000 e c w
  have hfp : (s.wakeRange (nbrAddr 0) 0x10000).foundPend (s.lookupKey e c w) = s.foundPend (s.lookupKey e c w) := by
    cases s.lookupKey e c w with
    | none => rfl
    | some n => exact congrArg (fun x => bitOf x 30) (s.wakeRange_nbr _ _ _ _)
  have hcan := (s.wakeRange_keeps (nbrAddr 0) 0x10000).canonical hc.canonical
  generalize s.wakeRange (nbrAddr 0) 0x10000 = t at *
  obtain ⟨p, hp, hpq, hps, hpm, hpr, hpc, hpf⟩ := State.lookupEff_looked (ht.quiet hc.quiet) hcan e c hm
  rw [hk, hfp, hd.ctx] at hpc
  rw [hk, hfp] at hpf
  have hst : (p.ctx e c).st = .running := by
    rw [hpc, ← h.st]
    cases s.lookupKey e c w <;> rfl
  obtain ⟨u, hu, hend⟩ := stepEnds_of_exec (hx p hp) hpq hps hst
  refine ⟨u, hu, hpc ▸ hend.goes, hend.mem.trans (hpm.trans hmem), fun x hxn => ?_, fun k f hb hf ha => ?_⟩
  · rw [hend.reg, ← hreg x hxn]
    exact congrArg (fun r => sget regReset r x) hpr
  · rw [hend.lane, hpf k f hb ((ht.curFrame hd e c).trans hf) ha, hd.lane]

end Sys2Proof.Machine
end

section
/-! SUPPORT. READF (R161, Table 6-8): the fields and what a read of each gives. -/

namespace Sys2Proof.Machine

section
variable {s : State} {e c : Nat}

/-- A field of the current frame, or of the attempt, as `frameField` gives it. -/
theorem State.readField_frame {n : Nat} (h1 : 1 ≤ n) (h15 : n ≤ 15) : s.readField e c n = some (s.frameField e c n, s.ctx e c) := by
  unfold State.readField
  dsimp only
  iterate 17 rw [if_neg (by omega)]
  exact if_pos ⟨h1, h15⟩

/-- Table 6-8 lists no field from 0x20 on. -/
theorem State.readField_unlisted {n : Nat} (h : 0x20 ≤ n) : s.readField e c n = none := by
  unfold State.readField
  dsimp only
  iterate 17 rw [if_neg (by omega)]
  exact if_neg (by omega)

theorem State.frameField_frame {n k : Nat} {f : Frame} (hf : s.curFrame e c = some (k, f)) : s.frameField e c n = f.field k n := by
  unfold State.frameField
  rw [hf]

theorem State.frameField_none {n : Nat} (hf : s.curFrame e c = none) (hl : s.laneOf e c = none) : s.frameField e c n = 0 := by
  unfold State.frameField
  rw [hf, hl]

theorem State.frameField_lane {n k : Nat} (hf : s.curFrame e c = none) (hl : s.laneOf e c = some k) : s.frameField e c n =
    if (s.lane k).st = .preamble then (s.lane k).attemptField n else if n = 0x0D then BitVec.ofNat 32 (s.lane k).lastAbort else 0 := by
  unfold State.frameField
  rw [hf, hl]

end

/-- The fields that an attempt before its SFD has. -/
theorem Lane.attemptField_eq (l : Lane) (n : Nat) : l.attemptField n =
    if n = 0x03 then BitVec.ofNat 32 l.fmt else if n = 0x09 then BitVec.ofNat 32 (l.chain.getD 0)
    else if n = 0x0C then BitVec.ofInt 32 l.nfpre else if n = 0x0E then 0x400 else 0 := by
  unfold Lane.attemptField
  split
  · rfl
  · rfl
  · rfl
  · rfl
  · rename_i h3 h9 hc he
    rw [if_neg h3, if_neg h9, if_neg hc, if_neg he]

theorem bitsOf_low8 (x : Word) : bitsOf x 0 8 = x.toNat % 256 := by
  unfold bitsOf
  rw [BitVec.ushiftRight_zero]
  rfl

/-- READF of a listed field writes what `readField` gives and goes on. -/
theorem State.At.readf {s : State} {e c : Nat} {w : StepWord} (h : s.At e c w) (hc : s.Calm) (ho : w.op = 0x1A) {r : Word} {y : Ctx}
    (hr : s.readField e c (w.imm.toNat % 256) = some (r, y)) : Does (.readf e c) s ((s.setCtx e c (y.setV w.dst r)).stepNext e c w) := by
  refine h.goes ho (i := .readf e c) (eff := fun s w => match s.readField e c (bitsOf w.imm 0 8) with
    | some (v, x) => .ok (s.setCtx e c (x.setV w.dst v))
    | none => .error 2) rfl ?_ (hc.quiet.setCtx e c _)
  rw [bitsOf_low8, hr]

theorem State.At.readf_unlisted {s : State} {e c : Nat} {w : StepWord} (h : s.At e c w) (ho : w.op = 0x1A) (hn : 0x20 ≤ w.imm.toNat % 256) :
    exec (.readf e c) s = doneW (s.faultCtx e c 2) := by
  refine Eq.trans (b := s.dataStep e c 0x1A fun s w => match s.readField e c (bitsOf w.imm 0 8) with
    | some (v, x) => .ok (s.setCtx e c (x.setV w.dst v))
    | none => .error 2) rfl (h.dataStep_error ho ?_)
  rw [bitsOf_low8, State.readField_unlisted hn]

end Sys2Proof.Machine
end

section
/-! SUPPORT. TXQ (R165, R176): the faults in their order, the slot, the entry and its words in memory. -/

namespace Sys2Proof.Machine

/-- The words of the descriptor that TXQ reads from the scratch. -/
def Ctx.descr (x : Ctx) (o : Nat) : List Word := (List.range 8).map fun i => x.sword (o + 4 * i)

section
variable {s : State} {e c : Nat} {w : StepWord}

theorem State.txqEff_eq (s : State) (e c : Nat) (w : StepWord) : s.txqEff e c w =
    match firstFault [(!((s.srcV e c w).toNat % 4 = 0 && (s.srcV e c w).toNat ≤ 96), 3), (!txOk ((s.ctx e c).descr (s.srcV e c w).toNat), 7),
      (s.noXtal, 6)] with
    | some k => .error k
    | none => .ok (s.txqPut e c (w.mod % 4) w ((s.ctx e c).descr (s.srcV e c w).toNat)) := rfl

theorem State.txqEff_offset (h : (s.srcV e c w).toNat % 4 ≠ 0 ∨ 96 < (s.srcV e c w).toNat) : s.txqEff e c w = .error 3 := by
  have hb : (!(decide ((s.srcV e c w).toNat % 4 = 0) && decide ((s.srcV e c w).toNat ≤ 96))) = true := by
    rcases h with h | h
    · simp [h]
    · simp [Nat.not_le.2 h]
  rw [State.txqEff_eq, hb]
  rfl

theorem State.offsetOk {a : Nat} (h : a % 4 = 0) (h' : a ≤ 96) : (!(decide (a % 4 = 0) && decide (a ≤ 96))) = false := by simp [h, h']

theorem State.txqEff_descr (h : (s.srcV e c w).toNat % 4 = 0) (h' : (s.srcV e c w).toNat ≤ 96)
    (hd : txOk ((s.ctx e c).descr (s.srcV e c w).toNat) = false) : s.txqEff e c w = .error 7 := by
  rw [State.txqEff_eq, State.offsetOk h h', hd]
  rfl

theorem State.txqEff_noXtal (h : (s.srcV e c w).toNat % 4 = 0) (h' : (s.srcV e c w).toNat ≤ 96)
    (hd : txOk ((s.ctx e c).descr (s.srcV e c w).toNat) = true) (hx : s.noXtal = true) : s.txqEff e c w = .error 6 := by
  rw [State.txqEff_eq, State.offsetOk h h', hd, hx]
  rfl

theorem State.txqEff_put (h : (s.srcV e c w).toNat % 4 = 0) (h' : (s.srcV e c w).toNat ≤ 96)
    (hd : txOk ((s.ctx e c).descr (s.srcV e c w).toNat) = true) (hx : s.noXtal = false) :
    s.txqEff e c w = .ok (s.txqPut e c (w.mod % 4) w ((s.ctx e c).descr (s.srcV e c w).toNat)) := by
  rw [State.txqEff_eq, State.offsetOk h h', hd, hx]
  rfl

end

theorem State.freeSlot_some {s : State} {q i : Nat} (hi : i < 32) (hfree : ∀ y ∈ s.txq, ¬(y.q = q ∧ y.slot = i))
    (hlow : ∀ j, j < i → ∃ y ∈ s.txq, y.q = q ∧ y.slot = j) : s.freeSlot q = some i := by
  unfold State.freeSlot
  rw [find?_range_eq_some_iff]
  refine ⟨hi, by simpa using hfree, fun j hj => ?_⟩
  simpa using hlow j hj

theorem State.freeSlot_none {s : State} {q : Nat} (h : ∀ i, i < 32 → ∃ y ∈ s.txq, y.q = q ∧ y.slot = i) : s.freeSlot q = none := by
  unfold State.freeSlot
  rw [List.find?_eq_none]
  intro i hi
  simpa using h i (List.mem_range.1 hi)

/-! ### The words at the slot -/

theorem flatMap_leBytes_getElem? (ws : List Word) {j i : Nat} (hi : i < 4) :
    (ws.flatMap fun v => leBytes 4 v.toNat)[4 * j + i]? = (ws[j]?).map fun v => BitVec.ofNat 8 (v.toNat / 256 ^ i) := by
  induction ws generalizing j with
  | nil => simp
  | cons v ws ih =>
    rw [List.flatMap_cons]
    cases j with
    | zero =>
      rw [List.getElem?_append_left (by rw [leBytes_length]; omega)]
      simp [leBytes, hi]
    | succ j =>
      rw [List.getElem?_append_right (by rw [leBytes_length]; omega), leBytes_length, show 4 * (j + 1) + i - 4 = 4 * j + i by omega, ih]
      simp

theorem flatMap_leBytes_length (ws : List Word) : (ws.flatMap fun v => leBytes 4 v.toNat).length = 4 * ws.length := by
  induction ws with
  | nil => rfl
  | cons v ws ih =>
    rw [List.flatMap_cons, List.length_append, leBytes_length, ih, List.length_cons]
    omega

/-- Memory that holds the bytes of words holds the words. -/
theorem State.word_of_bytes {s : State} {a : Nat} {ws : List Word}
    (h : s.bytes a (ws.flatMap fun v => leBytes 4 v.toNat).length = ws.flatMap fun v => leBytes 4 v.toNat) {j : Nat} (hj : j < ws.length) :
    s.word (a + 4 * j) = ws.getD j 0 := by
  have hb : ∀ i, i < 4 → s.byte (a + 4 * j + i) = BitVec.ofNat 8 ((ws.getD j 0).toNat / 256 ^ i) := fun i hi => by
    have hlt : 4 * j + i < (ws.flatMap fun v => leBytes 4 v.toNat).length := by
      rw [flatMap_leBytes_length]
      omega
    have h1 : (s.bytes a (ws.flatMap fun v => leBytes 4 v.toNat).length)[4 * j + i]? = some (s.byte (a + 4 * j + i)) := by
      unfold State.bytes
      rw [List.getElem?_map, List.getElem?_range hlt, Option.map_some, Nat.add_assoc]
    rw [h, flatMap_leBytes_getElem? ws hi, List.getElem?_eq_getElem hj] at h1
    rw [List.getD_eq_getElem?_getD, List.getElem?_eq_getElem hj]
    exact (Option.some.inj h1).symm
  have hbytes : s.bytes (a + 4 * j) 4 = leBytes 4 (ws.getD j 0).toNat :=
    List.map_congr_left fun i hi => hb i (List.mem_range.1 hi)
  unfold State.word
  rw [hbytes, leNat_leBytes, Nat.mod_eq_of_lt (show (ws.getD j 0).toNat < 256 ^ 4 from (ws.getD j 0).isLt), BitVec.ofNat_toNat, BitVec.setWidth_eq]

/-- The transmit queues' area lies in one bank of the radio memory: where the bank accepts the queue's first byte it accepts every slot's. -/
theorem State.takes_slot {s : State} {q i k : Nat} (hq : q < 4) (hi : i < 32) (hk : k < 32) (h0 : 0x21000 ≤ s.get Reg.REEL_TXQBASE_ADDR)
    (h1 : s.get Reg.REEL_TXQBASE_ADDR < 0x21040) (hr : s.bankRefuses (s.slotAddr q 0) = false) : s.takes (s.slotAddr q i + k) = true := by
  unfold State.slotAddr at hr ⊢
  generalize s.get Reg.REEL_TXQBASE_ADDR = b at *
  have hb : bankOf (4096 * b + 1024 * q + 32 * i + k) = bankOf (4096 * b + 1024 * q + 32 * 0) := by
    have hsame : (4096 * b + 1024 * q + 32 * i + k - 0x21000000) / 0x10000 = (4096 * b + 1024 * q + 32 * 0 - 0x21000000) / 0x10000 := by omega
    rw [bankOf_radio (by omega) (by omega), bankOf_radio (by omega) (by omega), hsame]
  have hr' : s.bankRefuses (4096 * b + 1024 * q + 32 * i + k) = false := by
    rw [← hr]
    unfold State.bankRefuses
    rw [hb]
  unfold State.takes
  rw [hr', region_radio (by omega) (by omega)]
  rfl

/-! ### What TXQ leaves -/

theorem txWords_length (e c : Nat) {ws : List Word} (h : ws.length = 8) : (txWords e c ws).length = 8 := by
  unfold txWords
  rw [List.length_set, List.length_set, h]

/-- The slot's memory as TXQ writes it. -/
def State.txqStored (s : State) (e c q i : Nat) (ws : List Word) : State :=
  s.devWrite (s.slotAddr q i) ((txWords e c ws).flatMap fun v => leBytes 4 v.toNat)

theorem State.txqPut_free {s : State} {e c q i : Nat} (h : s.freeSlot q = some i) (w : StepWord) (ws : List Word) :
    ∃ en r, s.txqPut e c q w ws = (({ s.txqStored e c q i ws with txq := (s.txqStored e c q i ws).txq ++ [en], txOrder := r } : State).setCtx e c
        { (s.ctx e c).setV w.dst (BitVec.ofNat 32 (32 * q + i)) with acc := true }) ∧
      en.q = q ∧ en.slot = i ∧ en.eng = e ∧ en.ctx = c ∧ en.order = (s.txqStored e c q i ws).txOrder ∧ en.taken = false := by
  unfold State.txqPut
  rw [h]
  exact ⟨_, _, rfl, rfl, rfl, rfl, rfl, rfl, rfl⟩

theorem State.txqPut_full {s : State} {e c q : Nat} (h : s.freeSlot q = none) (w : StepWord) (ws : List Word) :
    s.txqPut e c q w ws = s.setCtx e c { (s.ctx e c).setV w.dst 0xFFFFFFFF with acc := false } := by
  unfold State.txqPut
  rw [h]

/-- What TXQ leaves when slot i of queue q is the lowest free one. -/
structure TxPut (s u : State) (e c q i : Nat) (w : StepWord) (ws : List Word) : Prop where
  v : (u.ctx e c).v = (s.ctx e c).v.set w.dst (BitVec.ofNat 32 (32 * q + i))
  acc : (u.ctx e c).acc = true
  entry : ∃ en, u.txq = s.txq ++ [en] ∧ en.q = q ∧ en.slot = i ∧ en.eng = e ∧ en.ctx = c ∧ en.order = s.txOrder ∧ en.taken = false
  words : s.txqOver = false → 0x21000 ≤ s.get Reg.REEL_TXQBASE_ADDR → s.get Reg.REEL_TXQBASE_ADDR < 0x21040 →
    s.bankRefuses (s.slotAddr q 0) = false → ∀ j, j < 8 → u.word (s.slotAddr q i + 4 * j) = (txWords e c ws).getD j 0

theorem State.At.txq_put {s : State} {e c : Nat} {w : StepWord} (h : s.At e c w) (hc : s.Calm) (ho : w.op = 0x20) {i : Nat} (hi : i < 32)
    {ws : List Word} (hws : ws.length = 8) (he : s.txqEff e c w = .ok (s.txqPut e c (w.mod % 4) w ws)) (hf : s.freeSlot (w.mod % 4) = some i) :
    ∃ u, exec (.txq e c) s = .next u ∧ TxPut s u e c (w.mod % 4) i w ws := by
  have hq4 : w.mod % 4 < 4 := Nat.mod_lt _ (by decide)
  have hx : exec (.txq e c) s = doneW ((s.txqPut e c (w.mod % 4) w ws).stepNext e c w) :=
    (show exec (.txq e c) s = s.dataStep e c 0x20 fun s w => s.txqEff e c w from rfl).trans (h.dataStep_ok ho he)
  generalize w.mod % 4 = q at *
  obtain ⟨en, r, hput, hen⟩ := State.txqPut_free (e := e) (c := c) hf w ws
  have hwords : s.txqOver = false → 0x21000 ≤ s.get Reg.REEL_TXQBASE_ADDR → s.get Reg.REEL_TXQBASE_ADDR < 0x21040 →
      s.bankRefuses (s.slotAddr q 0) = false → ∀ j, j < 8 →
        (s.txqStored e c q i ws).word (s.slotAddr q i + 4 * j) = (txWords e c ws).getD j 0 :=
    fun hover h0 h1 hr j hj => by
      have hlen := txWords_length e c hws
      have hfl : ((txWords e c ws).flatMap fun v => leBytes 4 v.toNat).length = 32 := by rw [flatMap_leBytes_length, hlen]
      refine State.word_of_bytes (State.devWrite_bytes hc.canonical hover ?_ ?_) (by omega)
      · exact State.takes_slot (k := 0) hq4 hi (by decide) h0 h1 hr
      · rw [hfl]
        exact State.takes_slot (k := 31) hq4 hi (by decide) h0 h1 hr
  have hd : DevRest s (s.txqStored e c q i ws) := s.devWrite_devRest _ _
  have ht : Turned s (s.txqStored e c q i ws) := s.devWrite_turned _ _
  generalize s.txqStored e c q i ws = t at *
  rw [hput] at hx
  have hswf : Swf (fun _ => Ctx.reset) t.ctxs := by
    rw [hd]
    exact hc.canonical.ctxs
  have hself := fun x => State.setCtx_ctx_self (s := { t with txq := t.txq ++ [en], txOrder := r }) hswf e c x
  have hquiet : ({ t with txq := t.txq ++ [en], txOrder := r } : State).Quiet := (ht.quiet hc.quiet).of rfl rfl rfl rfl rfl rfl rfl
  obtain ⟨u, hu, hend⟩ := stepEnds_of_exec hx (hquiet.setCtx _ _ _) (Swf_sput hswf _ _) (by rw [hself]; exact h.st)
  obtain ⟨h1, h2, h3, h4, h5, h6⟩ := hen
  refine ⟨u, hu, ?_, ?_, ⟨en, ?_, h1, h2, h3, h4, ?_, h6⟩, fun hover h0 hlt hr j hj => ?_⟩
  · rw [hend.v, hself]
    rfl
  · rw [hend.acc, hself]
  · rw [hend.txq, ← hd.txq]
    rfl
  · rw [h5, hd]
  · exact (hend.word _).trans (hwords hover h0 hlt hr j hj)

theorem State.At.txq_full {s : State} {e c : Nat} {w : StepWord} (h : s.At e c w) (hc : s.Calm) (ho : w.op = 0x20) {ws : List Word}
    (he : s.txqEff e c w = .ok (s.txqPut e c (w.mod % 4) w ws)) (hf : s.freeSlot (w.mod % 4) = none) :
    ∃ u, exec (.txq e c) s = .next u ∧ (u.ctx e c).v = (s.ctx e c).v.set w.dst 0xFFFFFFFF ∧ (u.ctx e c).acc = false ∧
      u.txq = s.txq ∧ u.mem = s.mem := by
  rw [State.txqPut_full hf] at he
  have hself := fun x => State.setCtx_ctx_self hc.canonical.ctxs e c x
  obtain ⟨u, hu, hend⟩ := h.ends ho (i := .txq e c) (eff := fun s w => s.txqEff e c w) rfl he (hc.quiet.setCtx _ _ _)
    (Swf_sput hc.canonical.ctxs _ _) (by rw [hself]; exact h.st)
  refine ⟨u, hu, ?_, ?_, hend.txq, hend.mem⟩
  · rw [hend.v, hself]
    rfl
  · rw [hend.acc, hself]

end Sys2Proof.Machine
end

section
/-! SUPPORT. TXACK (R169): the faults, and how the acknowledgement of the current frame stands after it. -/

namespace Sys2Proof.Machine

section
variable {s : State} {e c : Nat} {w : StepWord}

theorem State.txackEff_none (h : s.curFrame e c = none) : s.txackEff e c w = .error 5 := by
  unfold State.txackEff
  rw [h]

theorem State.txackEff_noPhr {k : Nat} {f : Frame} (h : s.curFrame e c = some (k, f)) (hp : f.phr = none) : s.txackEff e c w = .error 5 := by
  unfold State.txackEff
  rw [h]
  dsimp only
  rw [hp]
  rfl

theorem State.txackEff_phr {k : Nat} {f : Frame} (h : s.curFrame e c = some (k, f)) (hp : f.phr.isSome = true) : s.txackEff e c w =
    if s.noXtal then .error 6 else .ok (if f.ack = .none then s.ackRequest e c k f (w.m 0) else s) := by
  unfold State.txackEff
  rw [h]
  dsimp only
  rw [if_neg (by cases hf : f.phr <;> simp_all)]

end

/-- A frame whose acknowledgement TXACK has set. -/
def Frame.acked (g : Frame) (fp : Bool) (a : Ack) (isDone : Bool) : Frame := { g with ackFp := fp, ack := a, ackDone := isDone || g.ackDone }

/-- A frame that keeps the pending bit of a TXACK. -/
def Frame.withFp (fp : Bool) (g : Frame) : Frame := { g with ackFp := fp }

/-- A frame whose acknowledgement comes to stand otherwise. -/
def Frame.withAck (a : Ack) (isDone : Bool) (g : Frame) : Frame := { g with ack := a, ackDone := isDone || g.ackDone }

theorem State.updFrame_acked {s t : State} {k b : Nat} {fp : Bool} (hl : t.lanes = (s.updFrame k b (Frame.withFp fp)).lanes)
    (hs : Swf (fun _ => Lane.reset) s.lanes) (a : Ack) (isDone : Bool) :
    ((t.updFrame k b (Frame.withAck a isDone)).lane k).frames = (s.lane k).frames.map fun g => if g.buf = b then g.acked fp a isDone else g := by
  have ht : Swf (fun _ => Lane.reset) t.lanes := hl ▸ Swf_sput hs _ _
  have hlane : t.lane k = (s.updFrame k b (Frame.withFp fp)).lane k := congrArg (fun l => sget (fun _ => Lane.reset) l k) hl
  rw [State.updFrame_frames ht, hlane, State.updFrame_frames hs, List.map_map]
  refine List.map_congr_left fun f _ => ?_
  by_cases hb : f.buf = b
  · simp only [Function.comp, if_pos hb]
    exact if_pos hb
  · simp only [Function.comp, if_neg hb]

/-- Latching a condition somewhere leaves a context on its way. -/
theorem State.latch_goes {s : State} (hs : Swf (fun _ => Ctx.reset) s.ctxs) (e' c' code e c : Nat) :
    Ctx.Goes (s.ctx e c) ((s.latch e' c' code).ctx e c) := by
  by_cases h : 8 * e + c = 8 * e' + c'
  · have hx : ∀ t : State, t.ctx e c = t.ctx e' c' := fun t => by
      unfold State.ctx
      rw [h]
    rw [hx, hx, show (s.latch e' c' code).ctx e' c' = (s.ctx e' c').latch code from State.setCtx_ctx_self hs e' c' _]
    rfl
  · rw [show (s.latch e' c' code).ctx e c = s.ctx e c from State.setCtx_ctx_ne _ _ h]
    rfl

/-- TXACK of a frame for which none was issued: what it makes of the frames, and the registers. -/
structure Acked (s t : State) (e c k : Nat) (f : Frame) (fp : Bool) (a : Ack) (isDone : Bool) : Prop where
  quiet : t.Quiet
  ctxs : Swf (fun _ => Ctx.reset) t.ctxs
  goes : Ctx.Goes (s.ctx e c) (t.ctx e c)
  frames : (t.lane k).frames = (s.lane k).frames.map fun g => if g.buf = f.buf then g.acked fp a isDone else g

section
variable {s : State} (hc : s.Calm) (e c k : Nat) {f : Frame} (fp : Bool)
include hc

theorem State.ackRequest_requested (ha : f.abort = 0) (h : f.fend = true → f.fcsok = true ∧ s.now ≤ f.tend + 320) :
    Acked s (s.ackRequest e c k f fp) e c k f fp .requested false ∧ (s.ackRequest e c k f fp).regs = s.regs := by
  have heq : s.ackRequest e c k f fp =
      (s.updFrame k f.buf (Frame.withFp fp)).updFrame k f.buf (Frame.withAck .requested false) := by
    unfold State.ackRequest
    dsimp only
    rw [if_neg, if_neg]
    · rfl
    · rw [Bool.and_eq_true]
      rintro ⟨hf, hl⟩
      exact absurd (h hf).2 (Nat.not_le.2 (of_decide_eq_true hl))
    · rw [Bool.or_eq_true, Bool.and_eq_true]
      rintro (hn | ⟨hf, hbad⟩)
      · simp [ha] at hn
      · simp [(h hf).1] at hbad
  rw [heq]
  exact ⟨⟨(hc.quiet.setLane _ _).setLane _ _, hc.canonical.ctxs, rfl, State.updFrame_acked (fp := fp) rfl hc.canonical.lanes _ _⟩, rfl⟩

theorem State.ackRequest_withdrawn (h : f.abort ≠ 0 ∨ (f.fend = true ∧ f.fcsok = false)) :
    Acked s (s.ackRequest e c k f fp) e c k f fp .withdrawn true ∧ (s.ackRequest e c k f fp).regs = s.regs := by
  have heq : s.ackRequest e c k f fp = ((s.updFrame k f.buf (Frame.withFp fp)).updFrame k f.buf (Frame.withAck .withdrawn true)).latch e c 18 := by
    unfold State.ackRequest
    dsimp only
    rw [if_pos]
    · rfl
    · rw [Bool.or_eq_true, Bool.and_eq_true]
      rcases h with h | ⟨hf, hbad⟩
      · exact .inl (by simp [h])
      · exact .inr ⟨hf, by simp [hbad]⟩
  rw [heq]
  exact ⟨⟨((hc.quiet.setLane _ _).setLane _ _).setCtx _ _ _, Swf_sput hc.canonical.ctxs _ _, State.latch_goes hc.canonical.ctxs e c 18 e c,
    State.updFrame_acked (fp := fp) rfl hc.canonical.lanes _ _⟩, rfl⟩

theorem State.ackRequest_late (ha : f.abort = 0) (hf : f.fend = true) (hok : f.fcsok = true) (hl : f.tend + 320 < s.now) :
    Acked s (s.ackRequest e c k f fp) e c k f fp (.done 1) true ∧
      ∃ p, (s.ackRequest e c k f fp).regs = (s.setReg Reg.RFE_TXSTAT (BitVec.ofNat 32 (0 * 2 ^ 16 + p * 2 ^ 8 + 1))).regs := by
  have heq : ∃ p, s.ackRequest e c k f fp = (((s.updFrame k f.buf (Frame.withFp fp)).setReg Reg.RFE_TXSTAT
      (BitVec.ofNat 32 (0 * 2 ^ 16 + p * 2 ^ 8 + 1))).updFrame k f.buf (Frame.withAck (.done 1) true)).latch e c 18 := by
    unfold State.ackRequest
    dsimp only
    rw [if_neg (by simp [ha, hok]), if_pos (by rw [hf]; exact decide_eq_true hl)]
    exact ⟨_, rfl⟩
  obtain ⟨p, hp⟩ := heq
  rw [hp]
  refine ⟨⟨?_, Swf_sput hc.canonical.ctxs _ _, State.latch_goes hc.canonical.ctxs e c 18 e c, ?_⟩, p, rfl⟩
  · exact ((State.setReg_quiet (hc.quiet.setLane _ _) _ (by decide) (by decide)).setLane _ _).setCtx _ _ _
  · refine State.updFrame_acked (fp := fp) rfl hc.canonical.lanes _ _

end

theorem State.At.txack {s : State} {e c : Nat} {w : StepWord} (h : s.At e c w) (ho : w.op = 0x21) (hx : s.tb.src = .xtal)
    {k : Nat} {f : Frame} (hf : s.curFrame e c = some (k, f)) (hp : f.phr.isSome = true) (hn : f.ack = .none) {a : Ack} {isDone : Bool}
    (ha : Acked s (s.ackRequest e c k f (w.m 0)) e c k f (w.m 0) a isDone) :
    ∃ u, exec (.txack e c) s = .next u ∧ (u.ctx e c).v = (s.ctx e c).v ∧ u.regs = (s.ackRequest e c k f (w.m 0)).regs ∧
      (u.lane k).frames = (s.lane k).frames.map fun g => if g.buf = f.buf then g.acked (w.m 0) a isDone else g := by
  have he : s.txackEff e c w = .ok (s.ackRequest e c k f (w.m 0)) := by
    rw [State.txackEff_phr hf hp, if_neg (by unfold State.noXtal; rw [hx]; decide), if_pos hn]
  obtain ⟨u, hu, hend⟩ := h.ends ho (i := .txack e c) (eff := fun s w => s.txackEff e c w) rfl he ha.quiet ha.ctxs (ha.goes.st.trans h.st)
  exact ⟨u, hu, hend.v.trans ha.goes.v, hend.regs, by rw [hend.lane, ha.frames]⟩

/-- The code that a late acknowledgement leaves in `RFE_TXSTAT`. -/
theorem txstat_late (p : Nat) : bitsOf (BitVec.ofNat 32 (0 * 2 ^ 16 + p * 2 ^ 8 + 1)) 0 8 = 1 := by
  rw [bitsOf_low8, BitVec.toNat_ofNat]
  omega

end Sys2Proof.Machine
end

section
/-! SUPPORT. DELIV and DROP (R171, R239): the faults, the delivery that begins, the lane that goes to rest. -/

namespace Sys2Proof.Machine

/-! ### DELIV -/

section
variable {s : State} {e c : Nat} {w : StepWord}

theorem State.thruFlush_idle (h : s.link.thru = []) : s.thruFlush e c = s := by
  unfold State.thruFlush
  rw [h]
  rfl

theorem State.delivEff_none (h : s.curFrame e c = none) : s.delivEff e c w = .error 5 := by
  unfold State.delivEff
  rw [h]

theorem State.delivEff_receiving {k : Nat} {f : Frame} (h : s.curFrame e c = some (k, f)) (hf : f.fend = false) (ha : f.abort ≠ 2) :
    s.delivEff e c w = .error 5 := by
  unfold State.delivEff
  rw [h]
  dsimp only
  rw [if_pos (by simp [hf, ha])]

theorem State.delivEff_over {k : Nat} {f : Frame} (h : s.curFrame e c = some (k, f)) (hf : f.fend = true ∨ f.abort = 2)
    (ht : s.link.thru = []) : s.delivEff e c w =
      .ok (if s.ringRoom (w.mod % 2) then s.deliver e c k (w.mod % 2) f (w.imm.toNat % 256) (s.srcV e c w)
        else (s.count (Reg.LINK_RPUT_FULL (w.mod % 2))).setCtx e c { s.ctx e c with acc := false }) := by
  unfold State.delivEff
  rw [h]
  dsimp only
  rw [if_neg (by rcases hf with hf | hf <;> simp [hf]), State.thruFlush_idle ht, bitsOf_low8]

end

/-- A frame that leaves. -/
def Frame.left (g : Frame) : Frame := { g with leaving := true }

theorem State.present_beside (s : State) (k : Nat) : Beside s (s.present k) := by
  unfold State.present
  dsimp only
  exact (State.setWords_beside _ _ _).trans (State.muddy_beside _ _ _)

theorem State.present_lanes (s : State) (k : Nat) : (s.present k).lanes = s.lanes := by
  unfold State.present
  dsimp only
  exact (State.muddy_lanes _ _ _).trans (State.setWords_lanes _ _ _)

/-- What a delivery that begins leaves. -/
structure Delivering (s t : State) (e c k : Nat) (f : Frame) (d : Delivery) : Prop where
  quiet : t.Quiet
  ctxs : Swf (fun _ => Ctx.reset) t.ctxs
  ctx : t.ctx e c = { s.ctx e c with acc := true }
  regs : t.regs = s.regs
  deliv : t.link.deliv = s.link.deliv ++ [d]
  frames : (t.lane k).frames = (s.lane k).frames.map fun g => if g.buf = f.buf then g.left else g

theorem State.deliver_begins {s : State} (hc : s.Calm) (e c k r : Nat) (f : Frame) (status : Nat) (attach : Word) :
    Delivering s (s.deliver e c k r f status attach) e c k f
      ⟨r, k, f.buf, if f.phr.isSome then f.len else 0, s.recHead e c k f status attach⟩ := by
  generalize hd : (⟨r, k, f.buf, if f.phr.isSome then f.len else 0, s.recHead e c k f status attach⟩ : Delivery) = d
  set m : State := ({ s with link := { s.link with deliv := s.link.deliv ++ [d] } } : State).updFrame k f.buf Frame.left with hm
  have heq : s.deliver e c k r f status attach = (m.present k).setCtx e c { (m.present k).ctx e c with acc := true } := by
    rw [hm, ← hd]
    rfl
  have hb := m.present_beside k
  have hl := m.present_lanes k
  have hframes : (m.lane k).frames = (s.lane k).frames.map fun g => if g.buf = f.buf then g.left else g :=
    State.updFrame_frames (s := { s with link := { s.link with deliv := s.link.deliv ++ [d] } }) hc.canonical.lanes k f.buf Frame.left
  have hmq : m.Quiet := hc.quiet.of rfl rfl rfl rfl rfl rfl rfl
  rw [heq]
  generalize m.present k = p at *
  have hpc : p.ctxs = s.ctxs := by
    rw [hb]
    rfl
  have hswf : Swf (fun _ => Ctx.reset) p.ctxs := hpc ▸ hc.canonical.ctxs
  exact {
    quiet := (hb.turned.quiet hmq).setCtx _ _ _
    ctxs := Swf_sput hswf _ _
    ctx := by
      rw [State.setCtx_ctx_self hswf]
      unfold State.ctx
      rw [hpc]
    regs := by
      show p.regs = s.regs
      rw [hb]
      rfl
    deliv := by
      show p.link.deliv = _
      rw [hb]
      rfl
    frames := by
      rw [State.setCtx_lane, ← hframes]
      unfold State.lane
      rw [hl] }

/-- A full ring counts the record that it cannot take. -/
theorem State.count_full {s : State} (hc : s.Calm) {r : Nat} (hr : r < 2) : (s.count (Reg.LINK_RPUT_FULL r)).Quiet ∧
    (s.count (Reg.LINK_RPUT_FULL r)).get (Reg.LINK_RPUT_FULL r) = min 65535 (s.get (Reg.LINK_RPUT_FULL r) + 1) := by
  have ha : Reg.CFG_PEND ≠ (Reg.LINK_RPUT_FULL r).addr ∧ Reg.RFE_SPCTL ≠ (Reg.LINK_RPUT_FULL r).addr := by
    interval_cases r <;> decide
  refine ⟨State.setReg_quiet hc.quiet _ ha.1 ha.2, ?_⟩
  unfold State.count
  rw [State.put_get_self s hc.canonical.regs _ _ (show 16 + 16 ≤ 32 by decide)]
  exact Nat.mod_eq_of_lt (show min 65535 _ < 65536 by omega)

/-! ### A lane that goes to rest -/

theorem State.updLane_lane_self {s : State} (hs : Swf (fun _ => Lane.reset) s.lanes) (k : Nat) (l : Lane) : (s.updLane k l).lane k = l := by
  unfold State.lane
  rw [State.updLane_lanes, sget_sput_self hs.1]

theorem State.updLane_swf {s : State} (hs : Swf (fun _ => Lane.reset) s.lanes) (k : Nat) (l : Lane) :
    Swf (fun _ => Lane.reset) (s.updLane k l).lanes := by
  rw [State.updLane_lanes]
  exact Swf_sput hs _ _

theorem State.laneRest_turned (s : State) (k : Nat) : LaneTurned s (s.laneRest k) :=
  (s.markBusy_turned k).trans ((State.spHunt_turned _ k).trans (State.updLane_beside _ _ _).laneTurned)

theorem State.laneRest_lane {s : State} (hs : Swf (fun _ => Lane.reset) s.lanes) (k : Nat) :
    ((s.laneRest k).lane k).st = s.restState k ∧ ((s.laneRest k).lane k).frames = (s.lane k).frames := by
  have hl : ((s.markBusy k).spHunt k).lanes = s.lanes := (State.spHunt_lanes _ k).trans (s.markBusy_lanes k)
  have ht : LaneTurned s ((s.markBusy k).spHunt k) := (s.markBusy_turned k).trans (State.spHunt_turned _ k)
  have heq : s.laneRest k = ((s.markBusy k).spHunt k).updLane k (((s.markBusy k).spHunt k).restLane k) := rfl
  have hlane : ((s.markBusy k).spHunt k).lane k = s.lane k := congrArg (fun l => sget (fun _ => Lane.reset) l k) hl
  rw [heq]
  generalize (s.markBusy k).spHunt k = t at *
  rw [State.updLane_lane_self (hl ▸ hs)]
  refine ⟨ht.restState k, ?_⟩
  show (t.lane k).frames = _
  rw [hlane]

/-- A lane that is given up: OFF, and then as its group leaves it. -/
theorem State.laneGivenUp {s : State} (hs : Swf (fun _ => Lane.reset) s.lanes) (k : Nat) :
    let t := (s.setLane k { s.lane k with st := .off }).laneRest k
    LaneTurned s t ∧ (t.lane k).st = s.restState k ∧ (t.lane k).frames = (s.lane k).frames := by
  intro t
  have hb : LaneTurned s (s.setLane k { s.lane k with st := .off }) := (show Beside s (s.setLane k { s.lane k with st := .off }) from rfl).laneTurned
  have hr := State.laneRest_lane (s := s.setLane k { s.lane k with st := .off }) (Swf_sput hs _ _) k
  rw [hb.restState, State.setLane_lane_self hs] at hr
  exact ⟨hb.trans (State.laneRest_turned _ k), hr⟩

/-! ### DROP -/

/-- What a DROP leaves. -/
structure Dropped (s t : State) (e c : Nat) : Prop where
  quiet : t.Quiet
  ctxs : Swf (fun _ => Ctx.reset) t.ctxs
  goes : Ctx.Goes (s.ctx e c) (t.ctx e c)
  regs : t.regs = s.regs

theorem LaneTurned.dropped {s m t : State} (h : LaneTurned m t) (hm : Dropped s m e c) : Dropped s t e c where
  quiet := h.quiet hm.quiet
  ctxs := h.ctxs ▸ hm.ctxs
  goes := h.ctx e c ▸ hm.goes
  regs := h.regs.trans hm.regs

theorem State.Calm.dropped {s : State} (hc : s.Calm) (e c : Nat) : Dropped s s e c := ⟨hc.quiet, hc.canonical.ctxs, rfl, rfl⟩

theorem State.dropEff_free {s : State} {e c : Nat} (hf : s.curFrame e c = none) (hl : s.laneOf e c = none) : s.dropEff e c = .error 5 := by
  unfold State.dropEff
  rw [hf, hl]

theorem State.dropEff_noAttempt {s : State} {e c k : Nat} (hf : s.curFrame e c = none) (hl : s.laneOf e c = some k)
    (hp : (s.lane k).st ≠ .preamble) : s.dropEff e c = .error 5 := by
  unfold State.dropEff
  rw [hf, hl]
  exact if_neg hp

theorem State.dropEff_attempt {s : State} (hc : s.Calm) {e c k : Nat} (ht : s.link.thru = []) (hf : s.curFrame e c = none)
    (hl : s.laneOf e c = some k) (hp : (s.lane k).st = .preamble) :
    ∃ t, s.dropEff e c = .ok t ∧ Dropped s t e c ∧ (t.lane k).st = s.restState k ∧ (t.lane k).frames = (s.lane k).frames := by
  have heq : s.dropEff e c = .ok (s.dropAttempt k) := by
    unfold State.dropEff
    rw [hf, hl]
    dsimp only
    rw [if_pos hp, State.thruFlush_idle ht]
  have hm := s.markBusy_turned k
  have hml := s.markBusy_lanes k
  refine ⟨_, heq, ?_⟩
  unfold State.dropAttempt
  dsimp only
  generalize s.markBusy k = m at *
  obtain ⟨hg, hst, hfr⟩ := State.laneGivenUp (s := m) (hml ▸ hc.canonical.lanes) k
  refine ⟨(hm.trans hg).dropped (hc.dropped e c), hst.trans (hm.restState k), hfr.trans ?_⟩
  unfold State.lane
  rw [hml]

/-- Withdrawing the acknowledgement of a frame changes nothing that a DROP leaves, and keeps the frame's buffer and its end. -/
theorem State.ackWithdraw_dropped {s : State} (hc : s.Calm) (e c k : Nat) (f : Frame) : Dropped s (s.ackWithdraw k f).1 e c ∧
    (s.ackWithdraw k f).1.lanes = s.lanes ∧ (s.ackWithdraw k f).1.restState k = s.restState k ∧ (s.ackWithdraw k f).2.buf = f.buf ∧
    (s.ackWithdraw k f).2.open_ = f.open_ := by
  unfold State.ackWithdraw
  split
  · rename_i hreq
    have hg := fun e c => State.latch_goes hc.canonical.ctxs (engOf k) (ctxOf k) 18 e c
    have hmuted : ∀ j, (s.latch (engOf k) (ctxOf k) 18).laneMuted j = s.laneMuted j := fun j => by
      unfold State.laneMuted
      dsimp only
      rw [(hg _ _).st]
    refine ⟨⟨hc.quiet.setCtx _ _ _, Swf_sput hc.canonical.ctxs _ _, hg e c, rfl⟩, rfl, ?_, ?_, ?_⟩
    · unfold State.restState
      rw [hmuted, hmuted]
      rfl
    · unfold Frame.withdraw
      rw [if_pos hreq]
    · unfold Frame.withdraw
      rw [if_pos hreq]
      rfl
  · exact ⟨hc.dropped e c, rfl, rfl, rfl, rfl⟩

theorem State.dropEff_frame {s : State} (hc : s.Calm) {e c k : Nat} {f : Frame} (ht : s.link.thru = []) (hf : s.curFrame e c = some (k, f)) :
    ∃ t, s.dropEff e c = .ok t ∧ Dropped s t e c ∧ (t.lane k).frames = (s.lane k).frames.filter (fun g => g.buf != f.buf) ∧
      (f.fend = false → f.abort = 0 → (t.lane k).st = s.restState k) := by
  have heq : s.dropEff e c = .ok (let m := ((s.ackWithdraw k f).1.markBusy k).release k (s.ackWithdraw k f).2
      if (s.ackWithdraw k f).2.open_ then (m.setLane k { m.lane k with st := .off }).laneRest k else m) := by
    unfold State.dropEff
    rw [hf]
    dsimp only
    rw [State.thruFlush_idle ht]
  refine ⟨_, heq, ?_⟩
  obtain ⟨hdrop, hlanes, hrest, hbuf, hopen⟩ := s.ackWithdraw_dropped hc e c k f
  dsimp only
  generalize (s.ackWithdraw k f).1 = a at *
  generalize (s.ackWithdraw k f).2 = f' at *
  have hb := a.markBusy_turned k
  have hbl := a.markBusy_lanes k
  generalize a.markBusy k = b at *
  have hswf : Swf (fun _ => Lane.reset) b.lanes := by
    rw [hbl, hlanes]
    exact hc.canonical.lanes
  have hlane : b.lane k = s.lane k := by
    unfold State.lane
    rw [hbl, hlanes]
  have hm : LaneTurned b (b.release k f') := (b.updLane_beside k _).laneTurned
  have hml : Swf (fun _ => Lane.reset) (b.release k f').lanes := State.updLane_swf hswf k _
  have hmf : ((b.release k f').lane k).frames = (s.lane k).frames.filter (fun g => g.buf != f.buf) := by
    unfold State.release
    rw [State.updLane_lane_self hswf, ← hlane, ← hbuf]
  generalize b.release k f' = m at *
  have hsm : LaneTurned a m := hb.trans hm
  rw [hopen]
  split
  · obtain ⟨hg, hst, hfr⟩ := State.laneGivenUp hml k
    exact ⟨(hsm.trans hg).dropped hdrop, hfr.trans hmf, fun _ _ => hst.trans ((hsm.restState k).trans hrest)⟩
  · rename_i hno
    refine ⟨hsm.dropped hdrop, hmf, fun h0 h1 => absurd ?_ hno⟩
    unfold Frame.open_
    rw [h0, h1]
    rfl

end Sys2Proof.Machine
end

section
/-! SUPPORT. POST, IRQ, SYNC and TIMER (R172 to R174, R313): an event published anywhere leaves a quiet state quiet. -/

namespace Sys2Proof.Machine

/-! ### What an event reaches -/

theorem State.Quiet.put {s : State} (q : s.Quiet) (f : Field) (x : Nat) (hp : Reg.CFG_PEND ≠ f.addr) (hs : Reg.RFE_SPCTL ≠ f.addr) :
    (s.put f x).Quiet := State.setReg_quiet q _ hp hs

theorem State.Quiet.postBoth {s : State} (q : s.Quiet) (src : Nat) (lo hi : Word) : (s.postBoth src lo hi).Quiet :=
  (q.postTo .c0 src lo hi).postTo .c1 src lo hi

theorem State.Quiet.coalesce {s : State} (q : s.Quiet) {l : Nat} (h : l < 96) : (s.coalesce l).Quiet :=
  q.put _ _ (show 0x40002020 ≠ 0x40005300 + 4 * l by omega) (show 0x4000B010 ≠ 0x40005300 + 4 * l by omega)

theorem State.Quiet.sadcServe {s : State} (q : s.Quiet) : s.sadcServe.Quiet := by
  unfold State.sadcServe
  split
  · exact q.of rfl rfl rfl rfl rfl rfl rfl
  · exact q

theorem State.Quiet.sadcRequest {s : State} (q : s.Quiet) (hop : Option Nat) : (s.sadcRequest hop).2.Quiet := by
  unfold State.sadcRequest
  split
  · exact q.of rfl rfl rfl rfl rfl rfl rfl
  · exact State.Quiet.sadcServe (q.of rfl rfl rfl rfl rfl rfl rfl)

theorem State.Quiet.gpioToggle {s : State} (q : s.Quiet) (j : Nat) : (s.gpioToggle j).Quiet := by
  unfold State.gpioToggle
  split
  · exact q.put _ _ (by unfold gpioBit Reg.GPIO_OUTSET Reg.CFG_PEND; dsimp only; omega)
      (by unfold gpioBit Reg.GPIO_OUTSET Reg.RFE_SPCTL; dsimp only; omega)
  · exact q

theorem State.Quiet.resumeCore {s : State} (q : s.Quiet) (c : CoreId) : (s.resumeCore c).Quiet := (s.resumeCore_settles c).quiet q

/-- A quiet device is awake: a wake task resumes cores and asks for no wake. -/
theorem State.Quiet.wakeTask {s : State} (q : s.Quiet) (cores : Nat) : (s.wakeTask cores).Quiet := by
  unfold State.wakeTask
  rw [if_pos (by rw [q.isAwake, q.entry]; rfl)]
  dsimp only
  have h0 : (if cores.testBit 0 then s.resumeCore .c0 else s).Quiet := by
    split
    · exact q.resumeCore .c0
    · exact q
  split
  · exact h0.resumeCore .c1
  · exact h0

theorem State.Quiet.input {s : State} (q : s.Quiet) {l : Nat} (hl : l < 96) (sub hop : Nat) : (s.input l sub hop).Quiet := by
  unfold State.input
  split_ifs with h1 h2 h3 h4 h5 h6 h7 h8 h9
  · dsimp only
    split_ifs
    · exact q
    · exact (q.setCtx _ _ _).coalesce hl
    · exact q.setCtx _ _ _
  · unfold State.tmrStartTask
    split
    · exact q
    · exact q.of rfl rfl rfl rfl rfl rfl rfl
  · exact q
  · exact q.of rfl rfl rfl rfl rfl rfl rfl
  · exact q
  · dsimp only
    split
    · exact (q.sadcRequest (some hop)).coalesce hl
    · exact q.sadcRequest (some hop)
  · exact q
  · exact q.gpioToggle _
  · exact q
  · exact q.wakeTask _
  · exact q

theorem State.Quiet.publish {s : State} (q : s.Quiet) (l hop : Nat) : (s.publish l hop).Quiet := by
  unfold State.publish
  split
  · exact q
  · rename_i hl
    have hw : Reg.CFG_PEND ≠ (watchBit l).addr ∧ Reg.RFE_SPCTL ≠ (watchBit l).addr := by
      unfold watchBit Reg.EVL_WATCH Reg.CFG_PEND Reg.RFE_SPCTL
      dsimp only
      omega
    split
    · exact ((((q.put _ _ (by decide) (by decide)).put _ _ (by decide) (by decide)).put _ _ (by decide) (by decide)).put _ _ (by decide)
        (by decide)).postBoth _ _ _
    · refine State.Quiet.input ?_ (Nat.not_le.1 hl) _ _
      dsimp only
      split_ifs
      · exact q
      · exact (q.put _ _ hw.1 hw.2).postBoth _ _ _
      · exact q.put _ _ hw.1 hw.2

/-! ### The steps -/

theorem bitsOf_low7 (x : Word) : bitsOf x 0 7 = x.toNat % 128 := by
  unfold bitsOf
  rw [BitVec.ushiftRight_zero]
  rfl

section
variable {s : State} {e c : Nat} {w : StepWord} (h : s.At e c w) (hc : s.Calm)
include h

include hc in
theorem State.At.postEvent (ho : w.op = 0x2A) (hl : w.imm.toNat % 128 < 96) : Does (.postEvent e c) s
    ((s.publish (w.imm.toNat % 128) (match (s.ctx e c).turnHop with | some h => h + 1 | none => 0)).stepNext e c w) := by
  refine h.goes ho (i := .postEvent e c) (eff := fun s w =>
    let l := bitsOf w.imm 0 7
    if 96 ≤ l then .error 2
    else .ok (s.publish l (match (s.ctx e c).turnHop with | some h => h + 1 | none => 0))) rfl ?_ (hc.quiet.publish _ _)
  dsimp only
  rw [bitsOf_low7, if_neg (Nat.not_le.2 hl)]

theorem State.At.postEvent_noLine (ho : w.op = 0x2A) (hl : 96 ≤ w.imm.toNat % 128) :
    exec (.postEvent e c) s = doneW (s.faultCtx e c 2) := by
  refine Eq.trans (b := s.dataStep e c 0x2A fun s w =>
    let l := bitsOf w.imm 0 7
    if 96 ≤ l then .error 2
    else .ok (s.publish l (match (s.ctx e c).turnHop with | some h => h + 1 | none => 0))) rfl (h.dataStep_error ho ?_)
  dsimp only
  rw [bitsOf_low7, if_pos hl]

include hc in
theorem State.At.irq (ho : w.op = 0x2B) : Does (.irq e c) s
    ((s.postRaw (if w.m 0 then .c1 else .c0) (ident e c) (w.mod / 2 % 8) false w.imm (s.srcV e c w)).stepNext e c w) :=
  h.goes ho (i := .irq e c) (eff := fun s w =>
    .ok (s.postRaw (if w.m 0 then .c1 else .c0) (ident e c) (w.mod / 2 % 8) false w.imm (s.srcV e c w))) rfl rfl (hc.quiet.postRaw _ _ _ _ _ _)

theorem State.At.syncEpoch (ho : w.op = 0x30) : Does (.syncEpoch e c) s
    ((s.setCtx e c (({ s.ctx e c with epr := s.epochCheck (bitsOf (s.srcV e c w) 0 16) } : Ctx).setV w.dst
      (BitVec.ofNat 32 (s.get Reg.CFG_EPOCH_CUR)))).stepNext e c w) :=
  does_done (h.plainStep ho fun s w => s.setCtx e c (({ s.ctx e c with epr := s.epochCheck (bitsOf (s.srcV e c w) 0 16) } : Ctx).setV w.dst
    (BitVec.ofNat 32 (s.get Reg.CFG_EPOCH_CUR))))

end

/-- What TIMER does by the low bits of MOD. -/
def State.timerEff (s : State) (e c : Nat) (w : StepWord) : Except Nat State :=
  match w.mod % 4 with
  | 0 => .ok (s.setCtx e c ((s.ctx e c).timerStart s.now w.imm.toNat))
  | 1 => .ok (s.setCtx e c ((s.ctx e c).timerStart s.now (s.srcV e c w).toNat))
  | 2 => .ok (s.setCtx e c { s.ctx e c with timer := none })
  | _ => .error 2

theorem execTimer_eq (e c : Nat) (s : State) : exec (.timer e c) s = s.dataStep e c 0x31 fun s w => s.timerEff e c w := rfl

theorem State.At.timer {s : State} {e c : Nat} {w : StepWord} (h : s.At e c w) (hc : s.Calm) (ho : w.op = 0x31) {y : Ctx}
    (he : s.timerEff e c w = .ok (s.setCtx e c y)) :
    Does (.timer e c) s ((s.setCtx e c y).stepNext e c w) :=
  h.goes ho (execTimer_eq e c s) he (hc.quiet.setCtx e c y)

theorem Ctx.timerStart_pos (x : Ctx) (now : Nat) {us : Nat} (h : us ≠ 0) : x.timerStart now us = { x with timer := some (now + 40 * us) } :=
  if_neg h

end Sys2Proof.Machine
end

section
/-! SUPPORT. The statement about LOOKUP, READF, TXQ, TXACK, DELIV, DROP, POST, IRQ, SYNC and TIMER (R161 to R174), put together. -/

namespace Sys2Proof.Machine

theorem numAt_zero (v : Nat) : numAt v 0 = BitVec.ofNat 32 v := BitVec.shiftLeft_zero _

/-- The head words of Table 9-4, without DSEQ: ACKRES as READF gives it, the two flags as their masks. -/
theorem State.recHead_eq (s : State) (e c k : Nat) (f : Frame) (i : Nat) (a : Word) : s.recHead e c k f (i % 256) a =
    [numAt (i % 256) 24 ||| numAt (if f.phr.isSome then f.len else 0) 16 ||| numAt (ident e c) 8 ||| numAt f.rxoct 0,
      numAt (f.phr.getD 0).toNat 16 ||| numAt (s.get Reg.CFG_EPOCH_CUR) 0, f.field k 0x05, f.field k 0x06, f.field k 0x07, f.field k 0x08,
      numAt (ofSigned 8 f.rssi) 24 ||| numAt (f.field k 0x0B).toNat 16 ||| numAt (ofSigned 16 f.nfpre) 0,
      numAt f.fmt 15 ||| numAt f.chain 14 ||| (if f.fcsok then 0x2000 else 0) ||| (if f.ackDone then 0x1000 else 0) ||| f.field k 0x0E, a] ++
      f.parse ++ [0, 0, 0] := by
  unfold State.recHead
  rw [Nat.mod_mod, numAt_zero f.ack.res]
  rfl

/-- The entry that a LOOKUP by address finds is the lowest valid match (R228). -/
theorem State.lookupKey_iff (s : State) (e c : Nat) {w : StepWord} (h : w.mod % 4 < 2) (n : Nat) :
    let x := s.ctx e c
    let a := x.v.getD w.src 0
    let key := fun (m : Nat) => bitOf (s.nbr m 12) 31 = true ∧
      if w.mod % 4 = 0 then a.toNat % 65536 ≠ 0xFFFE ∧ a.toNat % 65536 ≠ 0xFFFF ∧ s.nbr m 8 = a
      else s.nbr m 0 = a ∧ s.nbr m 4 = x.v.getD ((w.src + 1) % 8) 0
    s.lookupKey e c w = some n ↔ n < 1024 ∧ key n ∧ ∀ m, m < n → ¬key m := by
  intro x a key
  unfold State.lookupKey
  rcases (by omega : w.mod % 4 = 0 ∨ w.mod % 4 = 1) with hm | hm
  · have hkey : key = fun m => bitOf (s.nbr m 12) 31 = true ∧ a.toNat % 65536 ≠ 0xFFFE ∧ a.toNat % 65536 ≠ 0xFFFF ∧ s.nbr m 8 = a := by
      funext m
      exact congrArg (bitOf (s.nbr m 12) 31 = true ∧ ·) (if_pos hm)
    rw [hm, hkey]
    exact s.findShort_iff a n
  · have hkey : key = fun m => bitOf (s.nbr m 12) 31 = true ∧ s.nbr m 0 = a ∧ s.nbr m 4 = x.v.getD ((w.src + 1) % 8) 0 := by
      funext m
      exact congrArg (bitOf (s.nbr m 12) 31 = true ∧ ·) (if_neg (by omega))
    rw [hm, hkey]
    exact s.findExt_iff a _ n

section
variable {s : State} {e c : Nat} {w : StepWord}

theorem State.timerEff_imm (h : w.mod % 4 = 0) : s.timerEff e c w = .ok (s.setCtx e c ((s.ctx e c).timerStart s.now w.imm.toNat)) := by
  unfold State.timerEff
  rw [h]
  rfl

theorem State.timerEff_src (h : w.mod % 4 = 1) : s.timerEff e c w = .ok (s.setCtx e c ((s.ctx e c).timerStart s.now (s.srcV e c w).toNat)) := by
  unfold State.timerEff
  rw [h]
  rfl

theorem State.timerEff_cancel (h : w.mod % 4 = 2) : s.timerEff e c w = .ok (s.setCtx e c { s.ctx e c with timer := none }) := by
  unfold State.timerEff
  rw [h]
  rfl

theorem State.timerEff_bad (h : w.mod % 4 = 3) : s.timerEff e c w = .error 2 := by
  unfold State.timerEff
  rw [h]
  rfl

end

/-- Field 0x1B: the slot of the offered transmit, engine 16's alone. -/
theorem State.readField_slot (s : State) {e c n : Nat} (h : n = 0x1B) : s.readField e c n =
    some (if e = 16 then (match s.offered with | some q => BitVec.ofNat 32 (s.slotAddr q.q q.slot) | none => 0) else 0, s.ctx e c) := by
  rw [h]
  rfl

end Sys2Proof.Machine

open Sys2Proof Sys2Proof.Machine

/-- Settles O37: each step's effect with the next step, or its fault in the order of R435. -/
theorem frameAndEventSteps : Obligations.FrameAndEventSteps := by
  unfold Obligations.FrameAndEventSteps
  refine ⟨fun s e c w hc hh hf hx h => ?_, fun s e c w hc hh hf hx hthru h => ?_⟩
  · have hno : s.noXtal = true := by
      unfold State.noXtal
      simpa using hx
    intro a
    exact ⟨fun ho h4 h96 hok => faults_of_exec hc hh hf
        (h.dataStep_error ho (eff := fun s w => s.txqEff e c w) (State.txqEff_noXtal h4 h96 hok hno)),
      fun k f ho hcur hp => faults_of_exec hc hh hf (h.dataStep_error ho (eff := fun s w => s.txackEff e c w)
        (by rw [State.txackEff_phr hcur hp, if_pos hno]))⟩
  · have hfault : ∀ {i : Instr} {k : Nat}, exec i s = doneW (s.faultCtx e c k) → Faults i s e c k := faults_of_exec hc hh hf
    have hyes : s.noXtal = false := by
      unfold State.noXtal
      rw [hx]
      decide
    intro x a goes after on key
    refine ⟨?lookup, ?lookupBad, ?lookupKey, ?readfIdent, ?readfNow, ?readf, ?readfBad, ?txq, ?txackNone, ?txackNoPhr,
      ?txack, ?delivReceiving, ?deliv, ?delivNone, ?drop, ?dropAttempt, ?dropFree, ?post, ?postBad, ?irq, ?sync, ?timerImm, ?timerSrc,
      ?timerZero, ?timerCancel, ?timerBad⟩
    case lookup =>
      intro ho hm
      obtain ⟨u, hu, hl⟩ := h.lookup hc ho hm
      have hctx := hl.ctx
      have hframes := hl.frames
      refine ⟨fun n hn => ⟨u, hu, ?_⟩, fun hn => ⟨u, hu, ?_⟩⟩
      · rw [hn] at hctx hframes
        exact ⟨hctx.v, hctx.hit, hctx.pend, hctx.z, hl.mem, hl.regs, hframes⟩
      · rw [hn] at hctx
        exact ⟨hctx.v, hctx.hit, hctx.pend, hl.mem⟩
    case lookupBad =>
      exact fun ho hm => hfault (h.dataStep_error ho (eff := fun s w => (s.wakeRange (nbrAddr 0) 0x10000).lookupEff e c w) (if_pos hm))
    case lookupKey =>
      exact fun n hm => s.lookupKey_iff e c hm n
    case readfIdent => exact fun ho hn => h.readf hc ho (by rw [hn]; rfl)
    case readfNow =>
      exact fun ho hn => h.readf hc ho (y := { x with nowHi := BitVec.ofNat 32 (s.us / 2 ^ 32), nowF := s.net % 40 }) (by rw [hn]; rfl)
    case readf =>
      intro ho n gives head
      have hread : ∀ {y : Ctx} {r : Word}, s.readField e c n = some (r, y) → y.v = x.v → gives y r := fun {y r} hr hy => by
        have hdoes := h.readf hc ho hr
        unfold Ctx.setV at hdoes
        rw [hy] at hdoes
        exact hdoes
      have hlisted : ∀ {m : Nat} {y : Ctx} {r : Word}, n = m → s.readField e c m = some (r, y) → y.v = x.v → gives y r :=
        fun hn hr hy => hread (hn ▸ hr) hy
      refine ⟨fun h1 h15 => ⟨fun k f hcur => ?_, fun hcur hl => ?_, fun k hcur hl => ?_⟩,
        (hlisted · rfl rfl), (hlisted · rfl rfl), (hlisted · rfl rfl), (hlisted · rfl rfl), (hlisted · rfl rfl), (hlisted · rfl rfl),
        (hlisted · rfl rfl), (hlisted · rfl rfl), (hlisted · rfl rfl), (hlisted · rfl rfl), fun hn => ⟨fun he => ?_, fun he hof => ?_, fun en he hof => ?_⟩,
        (hlisted · rfl rfl), (hlisted · rfl rfl),
        (hlisted · rfl rfl), (hlisted · rfl rfl)⟩
      · exact hread ((State.readField_frame h1 h15).trans (by rw [State.frameField_frame hcur])) rfl
      · exact hread ((State.readField_frame h1 h15).trans (by rw [State.frameField_none hcur hl])) rfl
      · exact hread ((State.readField_frame h1 h15).trans (by rw [State.frameField_lane hcur hl, Lane.attemptField_eq])) rfl
      · exact hread ((s.readField_slot hn).trans (by rw [if_neg he])) rfl
      · exact hread ((s.readField_slot hn).trans (by rw [if_pos he, hof])) rfl
      · exact hread ((s.readField_slot hn).trans (by rw [if_pos he, hof])) rfl
    case readfBad => exact fun ho hn => hfault (h.readf_unlisted ho hn)
    case txq =>
      intro ws q ho
      refine ⟨fun hbad => hfault (h.dataStep_error ho (eff := fun s w => s.txqEff e c w) (State.txqEff_offset hbad)),
        fun h4 h96 hbad => hfault (h.dataStep_error ho (eff := fun s w => s.txqEff e c w) (State.txqEff_descr h4 h96 hbad)),
        fun h4 h96 hok => ⟨fun i hi hfree hlow => ?_, fun hfull => ?_⟩⟩
      · obtain ⟨u, hu, hp⟩ := h.txq_put hc ho hi (by simp [Ctx.descr]) (State.txqEff_put h4 h96 hok hyes) (State.freeSlot_some hi hfree hlow)
        obtain ⟨en, htx, h1, h2, h3, h4, h5, h6⟩ := hp.entry
        exact ⟨u, hu, hp.v, hp.acc, en, htx, h1, h2, h3, h4, h5, h6, fun ⟨hno, hlo, hhi, _, hr⟩ => hp.words hno hlo hhi hr⟩
      · exact h.txq_full hc ho (State.txqEff_put h4 h96 hok hyes) (State.freeSlot_none hfull)
    case txackNone => exact fun ho hcur => hfault (h.dataStep_error ho (eff := fun s w => s.txackEff e c w) (State.txackEff_none hcur))
    case txackNoPhr => exact fun k f ho hcur hp => hfault (h.dataStep_error ho (eff := fun s w => s.txackEff e c w) (State.txackEff_noPhr hcur hp))
    case txack =>
      intro k f ho hcur hp acks
      refine ⟨fun hn ha hfin => ?_, fun hn ha hend hok hlate => ?_, fun hn hbad => ?_, fun hn => ?_⟩
      · obtain ⟨hack, hregs⟩ := State.ackRequest_requested hc e c k (w.m 0) ha hfin
        obtain ⟨u, hu, hv, hr, hfr⟩ := h.txack ho hx hcur hp hn hack
        exact ⟨u, hu, hfr, hv, fun _ => hr.trans hregs, nofun⟩
      · obtain ⟨hack, p, hregs⟩ := State.ackRequest_late hc e c k (w.m 0) ha hend hok hlate
        obtain ⟨u, hu, hv, hr, hfr⟩ := h.txack ho hx hcur hp hn hack
        have hreg : ∀ b, u.reg b = (s.setReg Reg.RFE_TXSTAT (BitVec.ofNat 32 (0 * 2 ^ 16 + p * 2 ^ 8 + 1))).reg b :=
          fun b => congrArg (fun r => sget regReset r b) (hr.trans hregs)
        refine ⟨u, hu, hfr, hv, fun hne => absurd rfl hne, fun _ => ⟨?_, fun b hb => ?_⟩⟩
        · rw [hreg, s.setReg_reg_self hc.canonical.regs, txstat_late]
        · rw [hreg, s.setReg_reg_ne _ (by simpa using hb)]
      · obtain ⟨hack, hregs⟩ := State.ackRequest_withdrawn hc e c k (w.m 0) hbad
        obtain ⟨u, hu, hv, hr, hfr⟩ := h.txack ho hx hcur hp hn hack
        exact ⟨u, hu, hfr, hv, fun _ => hr.trans hregs, nofun⟩
      · exact h.goes ho (i := .txack e c) (eff := fun s w => s.txackEff e c w) rfl
          (by rw [State.txackEff_phr hcur hp, hyes, if_neg (by decide), if_neg hn]) hc.quiet
    case delivReceiving =>
      exact fun k f ho hcur hf ha => hfault (h.dataStep_error ho (eff := fun s w => s.delivEff e c w) (State.delivEff_receiving hcur hf ha))
    case deliv =>
      intro k f ho hcur hover r n len head
      have heff := State.delivEff_over (w := w) hcur hover hthru
      refine ⟨fun hroom => ?_, fun hroom => ?_⟩
      · rw [if_pos hroom] at heff
        have hd := State.deliver_begins hc e c k r f (w.imm.toNat % 256) (s.srcV e c w)
        obtain ⟨u, hu, hend⟩ := h.ends ho (i := .deliv e c) (eff := fun s w => s.delivEff e c w) rfl heff hd.quiet hd.ctxs
          (by rw [hd.ctx]; exact h.st)
        exact ⟨u, hu, by rw [hend.acc, hd.ctx], hend.regs.trans hd.regs,
          ⟨_, by rw [hend.link, hd.deliv], rfl, rfl, rfl, rfl, s.recHead_eq e c k f _ _⟩, by rw [hend.lane, hd.frames]; rfl⟩
      · rw [if_neg (by rw [show s.ringRoom (w.mod % 2) = false from hroom]; decide)] at heff
        obtain ⟨hq, hget⟩ := State.count_full hc (r := r) (Nat.mod_lt _ (by decide))
        have hself := State.setCtx_ctx_self (s := s.count (Reg.LINK_RPUT_FULL r)) hc.canonical.ctxs e c { s.ctx e c with acc := false }
        obtain ⟨u, hu, hend⟩ := h.ends ho (i := .deliv e c) (eff := fun s w => s.delivEff e c w) rfl heff (hq.setCtx _ _ _)
          (Swf_sput hc.canonical.ctxs _ _) (by rw [hself]; exact h.st)
        exact ⟨u, hu, by rw [hend.acc, hself], hend.lanes, hend.link, (hend.get _).trans hget⟩
    case delivNone => exact fun ho hcur => hfault (h.dataStep_error ho (eff := fun s w => s.delivEff e c w) (State.delivEff_none hcur))
    case drop =>
      intro k f ho hcur
      obtain ⟨t, heff, hd, hfr, hst⟩ := State.dropEff_frame hc hthru hcur
      obtain ⟨u, hu, hend⟩ := h.ends ho (i := .dropFrame e c) (eff := fun s _ => s.dropEff e c) rfl heff hd.quiet hd.ctxs (hd.goes.st.trans h.st)
      exact ⟨u, hu, by rw [hend.lane, hfr], hend.v.trans hd.goes.v, hend.regs.trans hd.regs, fun h0 h1 => by rw [hend.lane, hst h0 h1]⟩
    case dropAttempt =>
      intro k ho hcur hl
      refine ⟨fun hp => ?_, fun hp => hfault (h.dataStep_error ho (eff := fun s _ => s.dropEff e c) (State.dropEff_noAttempt hcur hl hp))⟩
      obtain ⟨t, heff, hd, hst, hfr⟩ := State.dropEff_attempt hc hthru hcur hl hp
      obtain ⟨u, hu, hend⟩ := h.ends ho (i := .dropFrame e c) (eff := fun s _ => s.dropEff e c) rfl heff hd.quiet hd.ctxs (hd.goes.st.trans h.st)
      exact ⟨u, hu, by rw [hend.lane, hst], by rw [hend.lane, hfr], hend.v.trans hd.goes.v, hend.regs.trans hd.regs⟩
    case dropFree =>
      intro ho hl
      have hcur : s.curFrame e c = none := by
        unfold State.curFrame
        rw [hl]
      exact hfault (h.dataStep_error ho (eff := fun s _ => s.dropEff e c) (State.dropEff_free hcur hl))
    case post => exact fun ho hl => h.postEvent hc ho hl
    case postBad => exact fun ho hl => hfault (h.postEvent_noLine ho hl)
    case irq => exact fun ho => h.irq hc ho
    case sync =>
      intro ho
      have := h.syncEpoch ho
      rw [bitsOf_low16] at this
      exact this
    case timerImm =>
      exact fun ho hm hi => h.timer hc ho ((State.timerEff_imm hm).trans (by rw [Ctx.timerStart_pos _ _ (BitVec.toNat_ne_iff_ne.2 hi)]))
    case timerSrc =>
      exact fun ho hm ha => h.timer hc ho ((State.timerEff_src hm).trans
        (by rw [Ctx.timerStart_pos _ _ ((BitVec.toNat_ne_iff_ne (x := s.srcV e c w)).2 ha)]; rfl))
    case timerZero =>
      rintro ho (⟨hm, hi⟩ | ⟨hm, ha⟩)
      · exact h.timer hc ho ((State.timerEff_imm hm).trans (by rw [hi]; rfl))
      · exact h.timer hc ho ((State.timerEff_src hm).trans (by rw [show s.srcV e c w = 0 from ha]; rfl))
    case timerCancel => exact fun ho hm => h.timer hc ho (State.timerEff_cancel hm)
    case timerBad => exact fun ho hm => hfault ((execTimer_eq e c s).trans (h.dataStep_error ho (State.timerEff_bad hm)))

end

section
/-! SUPPORT. The synthesizer that serves no transmit (R66 to R71): what it does once nothing waits for it, and the steps of background
calibration. -/

namespace Sys2Proof.Machine

/-! ### Changes of the RFE's own state -/

/-- The synthesizer serves nothing. -/
def Rfe.idled (r : Rfe) : Rfe := { r with st := .idle, locked := false, tune := none, calib := none, forTx := false }

/-- A background step of channel k, with what is still asked for after it. -/
def Rfe.calStep (k : Nat) (b : BgCal) (r : Rfe) : Rfe :=
  { r with st := .cal, calib := some (k, true), forTx := false, locked := false, tune := none, bg := b }

theorem State.Quiet.rf {s : State} (q : s.Quiet) (f : Rfe → Rfe) : (s.rf f).Quiet := q.of rfl rfl rfl rfl rfl rfl rfl

@[simp] theorem State.rf_regs (s : State) (f : Rfe → Rfe) : (s.rf f).regs = s.regs := rfl
@[simp] theorem State.rf_free (s : State) (f : Rfe → Rfe) : (s.rf f).free = s.free := rfl

/-! ### Nothing waits -/

/-- Without a waiting write the value of `RFE_CTL.EN` applied is the value last written, so that no stop of the RFE is due. -/
theorem State.Quiet.rfeStopping {s : State} (q : s.Quiet) : s.rfeStopping = false := by
  have hlast : s.lastGet Reg.RFE_CTL_EN = s.get Reg.RFE_CTL_EN :=
    congrArg (fget · Reg.RFE_CTL_EN) (State.last_eq_reg q (by decide +kernel))
  unfold State.rfeStopping State.flag
  rw [hlast]
  by_cases h : s.get Reg.RFE_CTL_EN = 0 <;> simp [h]

theorem State.claimWaiting_none {s : State} (h : s.rfe.waiting = []) : s.claimWaiting = s := by
  unfold State.claimWaiting
  rw [h]
  rfl

theorem State.spMay_off {s : State} (h : s.flag Reg.RFE_SPCTL_EN = false) : s.spMay = false := by
  unfold State.spMay
  rw [h]
  rfl

/-- Nothing but background calibration asks for the synthesizer. -/
structure State.SynthAlone (s : State) : Prop where
  quiet : s.Quiet
  single : s.flag Reg.RFE_SPCTL_EN = false
  holder : s.rfe.holder = none
  waiting : s.rfe.waiting = []

theorem State.SynthAlone.synthFree {s : State} (h : s.SynthAlone) : s.synthFree = (s.rf Rfe.idled).bgNext := by
  have hclaim : (s.rf Rfe.idled).claimWaiting = s.rf Rfe.idled := State.claimWaiting_none h.waiting
  have hhold : (s.rf Rfe.idled).rfe.holder.isSome = false := congrArg Option.isSome h.holder
  have hstop : (s.rf Rfe.idled).rfeStopping = false := (h.quiet.rf _).rfeStopping
  have hmay : (s.rf Rfe.idled).spMay = false := State.spMay_off h.single
  have heq : s.synthFree = if (s.rf Rfe.idled).claimWaiting.rfe.holder.isSome || (s.rf Rfe.idled).claimWaiting.rfeStopping
      then (s.rf Rfe.idled).claimWaiting else (s.rf Rfe.idled).claimWaiting.spOrIdle := rfl
  rw [heq, hclaim, hhold, hstop, if_neg (by decide)]
  unfold State.spOrIdle
  rw [if_neg (by rw [hmay]; decide)]
  rfl

theorem State.SynthAlone.synthNext {s : State} (h : s.SynthAlone) : s.synthNext = s.synthFree := by
  unfold State.synthNext
  rw [h.holder]

/-! ### Background steps -/

theorem State.bgNext_none {s : State} (h : s.rfe.bg = .none) : s.bgNext = s := by
  unfold State.bgNext
  rw [h]

theorem State.bgNext_all {s : State} {n : Nat} (h : s.rfe.bg = .all n) (hn : n < 128) : s.bgNext = s.rf (Rfe.calStep n (.all (n + 1))) := by
  unfold State.bgNext
  rw [h]
  exact if_pos hn

theorem State.bgNext_stale_some {s : State} {k : Nat} (h : s.rfe.bg = .stale) (hk : s.unusable? = some k) :
    s.bgNext = s.rf (Rfe.calStep k .stale) := by
  unfold State.bgNext
  rw [h, hk]
  rfl

theorem State.bgNext_stale_none {s : State} (h : s.rfe.bg = .stale) (hk : s.unusable? = none) :
    s.bgNext = s.rf fun r => { r with bg := .none } := by
  unfold State.bgNext
  rw [h, hk]

theorem State.bgStart_idle {s : State} (h : s.rfe.st = .idle) (b : BgCal) : s.bgStart b = (s.rf fun r => { r with bg := b }).bgNext :=
  if_pos h

theorem State.bgStart_busy {s : State} (h : s.rfe.st ≠ .idle) (b : BgCal) : s.bgStart b = s.rf fun r => { r with bg := b } := if_neg h

theorem State.bgStart_stale {s : State} {k : Nat} (h : s.rfe.st = .idle) (hk : s.unusable? = some k) :
    s.bgStart .stale = s.rf (Rfe.calStep k .stale) := by
  rw [State.bgStart_idle h]
  exact State.bgNext_stale_some (s := s.rf fun r => { r with bg := .stale }) rfl hk

/-! ### The entry of a calibration step -/

/-- What a step writes to entry k of the calibration table (R66). -/
def State.calWord (s : State) (k : Nat) : Word :=
  BitVec.ofNat 32 (2 ^ 31 + ofSigned 8 s.dieTemp * 2 ^ 16 + (Config.calBand s.free k).toNat * 2 ^ 8 + (Config.calFine s.free k).toNat)

theorem ofSigned_lt (n : Nat) (x : Int) : ofSigned n x < 2 ^ n := by
  have h := Int.emod_lt_of_pos x (b := ((2 ^ n : Nat) : Int)) (by positivity)
  have h0 := Int.emod_nonneg x (b := ((2 ^ n : Nat) : Int)) (by positivity)
  unfold ofSigned
  omega

/-- VALID, and the temperature at [23:16]: the two codes lie below. -/
theorem State.calWord_fields (s : State) (k : Nat) :
    bitOf (s.calWord k) 31 = true ∧ bitsOf (s.calWord k) 16 8 = ofSigned 8 s.dieTemp := by
  have ht := ofSigned_lt 8 s.dieTemp
  have hb := (Config.calBand s.free k).isLt
  have hf := (Config.calFine s.free k).isLt
  unfold State.calWord
  generalize ofSigned 8 s.dieTemp = t at *
  generalize (Config.calBand s.free k).toNat = b at *
  generalize (Config.calFine s.free k).toNat = f at *
  constructor
  · unfold bitOf
    rw [BitVec.getLsbD_ofNat, Nat.testBit_eq_decide_div_mod_eq]
    simp only [Bool.and_eq_true, decide_eq_true_eq]
    omega
  · unfold bitsOf
    rw [BitVec.toNat_ushiftRight, BitVec.toNat_ofNat, Nat.shiftRight_eq_div_pow]
    omega

theorem caltab_ne {k : Nat} (hk : k < 128) : Reg.CFG_PEND ≠ Reg.RFE_CALTAB k ∧ Reg.RFE_SPCTL ≠ Reg.RFE_CALTAB k ∧
    Reg.RFE_STATUS ≠ Reg.RFE_CALTAB k := by
  unfold Reg.CFG_PEND Reg.RFE_SPCTL Reg.RFE_STATUS Reg.RFE_CALTAB
  omega

theorem State.SynthAlone.calEntry {s : State} (h : s.SynthAlone) {k : Nat} (hk : k < 128) : (s.calEntry k).SynthAlone where
  quiet := (State.setReg_quiet h.quiet _ (caltab_ne hk).1 (caltab_ne hk).2.1).of rfl rfl rfl rfl rfl rfl rfl
  single := (congrArg (fun w => fget w Reg.RFE_SPCTL_EN != 0) (s.setReg_reg_ne _ (caltab_ne hk).2.1)).trans h.single
  holder := h.holder
  waiting := h.waiting

end Sys2Proof.Machine
end

section
/-! SUPPORT. The commands of the RFE's start and of background calibration (R66 to R71). -/

namespace Sys2Proof.Machine

variable {s : State} {t : Nat}

/-- The start ends in IDLE; nothing waits to go on (R71). -/
theorem rfeStartupDone_does (h : (s.at_ t).SynthAlone) (hst : (s.at_ t).rfe.st = .starting) (hbg : (s.at_ t).rfe.bg = .none) :
    Does (.rfeStartupDone t) s ((s.at_ t).rf Rfe.idled) := by
  have hx : exec (.rfeStartupDone t) s = execRfeStartupDone t s := rfl
  unfold execRfeStartupDone at hx
  dsimp only at hx
  generalize s.at_ t = v at *
  have hfree : v.synthFree = v.rf Rfe.idled := h.synthFree.trans (State.bgNext_none hbg)
  rw [if_pos hst, hfree] at hx
  refine does_doneB (hx.trans (congrArg doneB (if_neg ?_))) (h.quiet.rf _)
  rw [show (v.rf Rfe.idled).pwr.forced = none from h.quiet.awake]
  simp

theorem autoRecal_does {k : Nat} (q : (s.at_ t).Quiet) (ha : (s.at_ t).flag Reg.RFE_CALCTL_AUTO = true) (hst : (s.at_ t).rfe.st = .idle)
    (hbg : (s.at_ t).rfe.bg = .none) (hk : (s.at_ t).unusable? = some k) : Does (.autoRecal t) s ((s.at_ t).rf (Rfe.calStep k .stale)) := by
  have hx : exec (.autoRecal t) s = execAutoRecal t s := rfl
  unfold execAutoRecal at hx
  dsimp only at hx
  generalize s.at_ t = v at *
  rw [if_pos (by rw [ha, hst, hbg, hk]; rfl), State.bgStart_stale hst hk] at hx
  exact does_doneB hx (q.rf _)

theorem autoRecal_off (q : (s.at_ t).Quiet) (ha : (s.at_ t).flag Reg.RFE_CALCTL_AUTO = false) : Does (.autoRecal t) s (s.at_ t) := by
  have hx : exec (.autoRecal t) s = execAutoRecal t s := rfl
  unfold execAutoRecal at hx
  dsimp only at hx
  exact does_doneB (hx.trans (congrArg doneB (if_neg (by rw [ha]; simp)))) q

/-- A background step updates the entry of its channel and no other register, and the synthesizer goes on to what is asked for next (R67,
R68). -/
theorem calStepDone_background {k : Nat} (hc : (s.at_ t).canonical) (h : (s.at_ t).SynthAlone) (hk : k < 128) (hst : (s.at_ t).rfe.st = .cal)
    (hcal : (s.at_ t).rfe.calib = some (k, true)) {f : Rfe → Rfe}
    (hf : (((s.at_ t).calEntry k).rf Rfe.idled).bgNext = ((s.at_ t).calEntry k).rf f) :
    ∃ u, exec (.calStepDone t) s = .next u ∧ bitOf (u.reg (Reg.RFE_CALTAB k)) 31 = true ∧
      bitsOf (u.reg (Reg.RFE_CALTAB k)) 16 8 = ofSigned 8 (s.at_ t).dieTemp ∧ (∀ a, a ≠ Reg.RFE_CALTAB k → u.reg a = (s.at_ t).reg a) ∧
      u.mem = (s.at_ t).mem ∧ u.rfe = f (s.at_ t).rfe := by
  have hx : exec (.calStepDone t) s = execCalStepDone t s := rfl
  unfold execCalStepDone at hx
  dsimp only at hx
  generalize s.at_ t = v at *
  rw [hst, hcal] at hx
  have halone := h.calEntry hk
  obtain ⟨u, hu, hs⟩ := doneB_settles (halone.quiet.rf f)
  have hentry : u.reg (Reg.RFE_CALTAB k) = v.calWord k := (hs.reg _).trans (v.setReg_reg_self hc.regs _ _)
  exact ⟨u, hx.trans ((congrArg doneB (halone.synthNext.trans (halone.synthFree.trans hf))).trans hu), hentry ▸ (v.calWord_fields k).1,
    hentry ▸ (v.calWord_fields k).2, fun a ha => (hs.reg a).trans (v.setReg_reg_ne _ ha), hs.mem, hs.rfe⟩

end Sys2Proof.Machine
end

section
/-! O21: the start of the RFE and its background calibration. -/

namespace Sys2Proof.Machine

/-- Settles O21: a step's end is `calStepDone_background`, a request on an idle synthesizer `State.bgNext`. -/
theorem rfeStartsAndCalibrates : Obligations.RfeStartsAndCalibrates := by
  unfold Obligations.RfeStartsAndCalibrates
  dsimp only
  refine ⟨fun s t ⟨hc, q, hsp, hh, hw⟩ => ?_, fun s ⟨_, q, _, _, _⟩ => ?_⟩
  · have halone : (s.at_ t).SynthAlone := ⟨q, hsp, hh, hw⟩
    refine ⟨rfeStartupDone_does halone, fun hst => ?_, autoRecal_off q, fun k ha hst hbg hk => autoRecal_does q ha hst hbg hk,
      fun k n hk hst hcal hbg hn => ?_⟩
    · have hx : exec (.rfeStartupDone t) s = execRfeStartupDone t s := rfl
      unfold execRfeStartupDone at hx
      exact does_doneB (hx.trans (congrArg doneB (if_neg hst))) q
    · rcases hbg with hb | hb
      · obtain ⟨u, hu, hv, ht, ho, hm, hr⟩ := calStepDone_background hc halone hk hst hcal (State.bgNext_none hb)
        exact ⟨u, hu, hv, ht, ho, hm, fun _ => by rw [hr]; rfl, fun ha => (nomatch hb.symm.trans ha)⟩
      · obtain ⟨u, hu, hv, ht, ho, hm, hr⟩ := calStepDone_background hc halone hk hst hcal (f := fun r => Rfe.calStep n (.all (n + 1)) r.idled)
          (State.bgNext_all hb hn)
        exact ⟨u, hu, hv, ht, ho, hm, fun ha => (nomatch hb.symm.trans ha), fun _ => by rw [hr]; exact ⟨rfl, rfl⟩⟩
  · have hx : ∀ c b, exec c s = doneB (s.bgStart b) → ∀ f, s.bgStart b = s.rf f → Does c s (s.rf f) := fun c b hx f hf =>
      does_doneB (hx.trans (congrArg doneB hf)) (q.rf f)
    refine ⟨fun hst => hx .recalAll (.all 0) rfl (Rfe.calStep 0 (.all 1)) ?_, fun hst => hx .recalAll (.all 0) rfl _ (State.bgStart_busy hst _),
      fun hst => hx .recalStale .stale rfl _ (State.bgStart_busy hst _), fun k hst hk => hx .recalStale .stale rfl _ (State.bgStart_stale hst hk),
      fun hst hk => hx .recalStale .stale rfl (fun r => { r with bg := .none }) ?_, does_done rfl⟩
    · rw [State.bgStart_idle hst]
      exact State.bgNext_all (s := s.rf fun r => { r with bg := .all 0 }) rfl (by decide)
    · rw [State.bgStart_idle hst]
      exact State.bgNext_stale_none (s := s.rf fun r => { r with bg := .stale }) rfl hk

end Sys2Proof.Machine
end

section
/-! SUPPORT. A lane whose attempt or frame is given up (R81, R82, R96): its context hears of it, and nothing else of the state changes. -/

namespace Sys2Proof.Machine

/-- `t` is `s` but for lanes, memory, contexts, the sub-windows of SURVEY and the single path's switch. -/
def LaneGone (s t : State) : Prop :=
  t = { s with
    lanes := t.lanes, mem := t.mem, lost := t.lost, free := t.free, ctxs := t.ctxs
    env := { s.env with busy := t.env.busy }
    rfe := { s.rfe with divst := t.rfe.divst } }

theorem LaneGone.trans {s t u : State} (h : LaneGone s t) (k : LaneGone t u) : LaneGone s u := by
  unfold LaneGone at *
  rw [k, h]

theorem LaneTurned.gone {s t : State} (h : LaneTurned s t) : LaneGone s t := by
  unfold LaneGone
  unfold LaneTurned at h
  rw [h]

theorem LaneGone.quiet {s t : State} (h : LaneGone s t) (q : s.Quiet) : t.Quiet := by
  rw [h]
  exact q.of rfl rfl rfl rfl rfl rfl rfl

theorem LaneGone.regs {s t : State} (h : LaneGone s t) : t.regs = s.regs := by rw [h]

theorem LaneGone.st {s t : State} (h : LaneGone s t) : t.rfe.st = s.rfe.st := by rw [h]
theorem LaneGone.holder {s t : State} (h : LaneGone s t) : t.rfe.holder = s.rfe.holder := by rw [h]
theorem LaneGone.waiting {s t : State} (h : LaneGone s t) : t.rfe.waiting = s.rfe.waiting := by rw [h]
theorem LaneGone.locked {s t : State} (h : LaneGone s t) : t.rfe.locked = s.rfe.locked := by rw [h]
theorem LaneGone.tune {s t : State} (h : LaneGone s t) : t.rfe.tune = s.rfe.tune := by rw [h]
theorem LaneGone.calib {s t : State} (h : LaneGone s t) : t.rfe.calib = s.rfe.calib := by rw [h]

theorem State.deposit_gone (s : State) (k : Nat) : LaneGone s (s.deposit k) := by
  unfold State.deposit
  dsimp only
  split
  · split
    · exact (LaneTurned.refl s).gone
    · exact ((s.setBytes_beside _ _).trans ((State.muddy_beside _ _ _).trans (State.updLane_beside _ _ _))).laneTurned.gone
  · exact (LaneTurned.refl s).gone

theorem State.ackWithdraw_gone (s : State) (k : Nat) (f : Frame) : LaneGone s (s.ackWithdraw k f).1 := by
  unfold State.ackWithdraw
  split <;> exact rfl

/-- The lane goes OFF, its context hears LABORT, and the lane rests. -/
theorem State.laneOff_gone (s : State) (k : Nat) (l : Lane) : LaneGone s (((s.setLane k l).latch (engOf k) (ctxOf k) 17).laneRest k) :=
  (show LaneGone s ((s.setLane k l).latch (engOf k) (ctxOf k) 17) from rfl).trans (State.laneRest_turned _ k).gone

theorem State.abortLane_gone (s : State) (k why : Nat) (keep : Bool) : LaneGone s (s.abortLane k why keep) := by
  have hm : LaneGone s ((s.deposit k).markBusy k) := (s.deposit_gone k).trans (State.markBusy_turned _ k).gone
  unfold State.abortLane
  dsimp only
  generalize (s.deposit k).markBusy k = m at *
  split
  · exact hm.trans ((m.ackWithdraw_gone k _).trans (State.laneOff_gone _ k _))
  · split
    · exact hm.trans (State.laneOff_gone _ k _)
    · exact hm

end Sys2Proof.Machine
end

section
/-! SUPPORT. A transmit that claims the free transmitter (R66, R69, R72, R79, R83). -/

namespace Sys2Proof.Machine

/-! ### The synthesizer goes to a channel -/

/-- The synthesizer on its way to channel k, for a transmit or not: the lock, or an in-place step where the entry is not usable (R69). -/
def Rfe.tuned (k : Nat) (tx usable : Bool) (r : Rfe) : Rfe :=
  { r with
    st := if usable then .locking else .cal, tune := some k, locked := false
    calib := if usable then none else some (k, false), forTx := tx }

theorem State.tuneTo_eq (s : State) (k : Nat) (tx : Bool) : s.tuneTo k tx = s.readDie.rf (Rfe.tuned k tx (s.readDie.usable k)) := by
  unfold State.tuneTo
  dsimp only
  cases s.readDie.usable k <;> rfl

/-- Whether a lock needs an in-place step is told by the entry and by what the sensor reads then (R66). -/
theorem State.readDie_usable {s u : State} {k : Nat} (hr : u.reg (Reg.RFE_CALTAB k) = s.reg (Reg.RFE_CALTAB k)) (hf : u.free = s.free) :
    u.readDie.usable k = s.readDie.usable k := by
  have hreg : u.readDie.reg (Reg.RFE_CALTAB k) = s.readDie.reg (Reg.RFE_CALTAB k) := hr
  have hdie : u.readDie.die = s.readDie.die := congrArg Config.sensor hf
  unfold State.usable State.calStale State.dieTemp State.flag State.get
  rw [hreg, hdie]

theorem tuneOf_lt (fmt chan : Nat) : tuneOf fmt chan < 128 := by
  unfold tuneOf
  split <;> omega

/-! ### The power -/

/-- PWR_CLAMP is set if a power has to be clamped (R83). -/
def State.clamped (s : State) (p : Int) : State := if clampI (-20) 12 p = p then s else s.put Reg.RFE_STATUS_PWR_CLAMP 1

theorem State.clamped_rfe (s : State) (p : Int) : (s.clamped p).rfe = s.rfe := ite_same State.rfe rfl rfl
theorem State.clamped_tb (s : State) (p : Int) : (s.clamped p).tb = s.tb := ite_same State.tb rfl rfl
theorem State.clamped_now (s : State) (p : Int) : (s.clamped p).now = s.now := ite_same State.now rfl rfl
theorem State.clamped_free (s : State) (p : Int) : (s.clamped p).free = s.free := ite_same State.free rfl rfl

theorem State.clamped_reg_ne (s : State) (p : Int) {a : Nat} (h : a ≠ Reg.RFE_STATUS) : (s.clamped p).reg a = s.reg a :=
  ite_same (State.reg · a) rfl (s.put_reg_ne _ _ h)

theorem State.clamped_usable (s : State) (p : Int) {k : Nat} (hk : k < 128) : (s.clamped p).readDie.usable k = s.readDie.usable k :=
  State.readDie_usable (s.clamped_reg_ne p (caltab_ne hk).2.2.symm) (s.clamped_free p)

theorem State.clamped_flag {s : State} (hs : Swf regReset s.regs) {p : Int} (h : p < -20 ∨ 12 < p) :
    (s.clamped p).flag Reg.RFE_STATUS_PWR_CLAMP = true := by
  have hne : clampI (-20) 12 p ≠ p := by
    unfold clampI
    omega
  unfold State.clamped
  rw [if_neg hne]
  exact congrArg (· != 0) (s.put_get_self hs Reg.RFE_STATUS_PWR_CLAMP 1 (by decide))

theorem State.Quiet.clamped {s : State} (q : s.Quiet) (p : Int) : (s.clamped p).Quiet := by
  unfold State.clamped
  split
  · exact q
  · exact q.put _ _ (by decide) (by decide)

/-! ### The claim -/

/-- A transmit as it holds the transmitter from `now` on (R72, R83). -/
def Tx.claimed (x : Tx) (now : Nat) : Tx :=
  { x with claim := now, due := if x.asap then now + 1280 else x.due, pwr := clampI (-20) 12 x.pwr }

theorem State.reqFor_rf (s : State) (x : Tx) : ∃ a b, s.reqFor x = s.rf fun r => { r with req := a, pri := b } := by
  unfold State.reqFor
  split
  · exact ⟨_, _, rfl⟩
  · exact ⟨s.rfe.req, s.rfe.pri, rfl⟩

/-- A claim of a transmit that is not late, while the RFE is up and its synthesizer in no step and no lock. -/
structure State.CanClaim (s : State) (x : Tx) : Prop where
  up : s.rfeUp = true
  xtal : s.tb.src = .xtal
  free : s.rfe.st = .idle ∨ s.rfe.st = .spRx
  early : x.asap = true ∨ s.now < x.deadline

theorem State.CanClaim.claimNow_eq {s : State} {x : Tx} (h : s.CanClaim x) :
    s.claimNow x = (((((s.clamped x.pwr).reqFor (x.claimed s.now)).rf fun r => { r with holder := some (x.claimed s.now) }).tuneTo
      (tuneOf x.fmt x.chan) true).abortLane 128 1 true).laneRest 128 := by
  have heq : s.claimNow x =
      if !(s.clamped x.pwr).rfeUp then (s.clamped x.pwr).complete (x.claimed s.now) 6
      else if (s.clamped x.pwr).tb.src != .xtal || (!x.asap && (x.claimed s.now).deadline ≤ (s.clamped x.pwr).now) then
        (s.clamped x.pwr).complete (x.claimed s.now) 1
      else
        let w := (s.clamped x.pwr).reqFor (x.claimed s.now)
        let t := w.rf fun r => { r with holder := some (x.claimed s.now) }
        if w.rfe.st = .cal || w.rfe.st = .locking then t.rf fun r => { r with forTx := false }
        else ((t.tuneTo (tuneOf x.fmt x.chan) true).abortLane 128 1 true).laneRest 128 := rfl
  have hup : (s.clamped x.pwr).rfeUp = true := by
    rw [← h.up]
    unfold State.rfeUp State.flag State.get
    rw [s.clamped_reg_ne x.pwr (by decide), s.clamped_rfe]
  have hearly : (!x.asap && decide ((x.claimed s.now).deadline ≤ s.now)) = false := by
    cases ha : x.asap
    · have hd : (x.claimed s.now).deadline = x.deadline := by
        unfold Tx.deadline Tx.claimed
        rw [ha]
        rfl
      have hlt := h.early.resolve_left (by rw [ha]; decide)
      simp [hd, hlt]
    · rfl
  obtain ⟨a, b, hreq⟩ := (s.clamped x.pwr).reqFor_rf (x.claimed s.now)
  have hbusy : (((s.clamped x.pwr).reqFor (x.claimed s.now)).rfe.st = .cal || ((s.clamped x.pwr).reqFor (x.claimed s.now)).rfe.st = .locking) = false := by
    rw [hreq, show ((s.clamped x.pwr).rf fun r => { r with req := a, pri := b }).rfe.st = s.rfe.st from (congrArg Rfe.st (s.clamped_rfe x.pwr) :)]
    rcases h.free with hf | hf <;> rw [hf] <;> rfl
  rw [heq, hup, s.clamped_tb, h.xtal, s.clamped_now, hearly]
  dsimp only
  rw [hbusy]
  rfl

/-- What a claim leaves: the holder, and the synthesizer on its way to channel k. -/
structure State.Claims (s t : State) (c : Tx) (k : Nat) : Prop where
  quiet : t.Quiet
  regs : t.regs = s.regs
  holder : t.rfe.holder = some c
  waiting : t.rfe.waiting = s.rfe.waiting
  locked : t.rfe.locked = false
  tune : t.rfe.tune = some k
  synth : if s.readDie.usable k = true then t.rfe.st = .locking ∧ t.rfe.calib = none else t.rfe.st = .cal ∧ t.rfe.calib = some (k, false)

/-- The synthesizer turns to a transmit, and the single path's lane is given up (R72, R82). -/
theorem State.tuneTo_claims {s m : State} {c : Tx} (k : Nat) (q : m.Quiet) (hr : m.regs = s.regs) (hh : m.rfe.holder = some c)
    (hw : m.rfe.waiting = s.rfe.waiting) (hf : m.free = s.free) :
    s.Claims (((m.tuneTo k true).abortLane 128 1 true).laneRest 128) c k := by
  have hg : LaneGone (m.tuneTo k true) (((m.tuneTo k true).abortLane 128 1 true).laneRest 128) :=
    (State.abortLane_gone _ _ _ _).trans (State.laneRest_turned _ _).gone
  have hu : m.readDie.usable k = s.readDie.usable k := State.readDie_usable (congrArg (sget regReset · (Reg.RFE_CALTAB k)) hr) hf
  rw [State.tuneTo_eq, hu] at hg ⊢
  generalize ((m.readDie.rf (Rfe.tuned k true (s.readDie.usable k))).abortLane 128 1 true).laneRest 128 = t at *
  have hq : m.readDie.Quiet := q.of rfl rfl rfl rfl rfl rfl rfl
  refine ⟨hg.quiet (hq.rf _), hg.regs.trans hr, hg.holder.trans hh, hg.waiting.trans hw, hg.locked, hg.tune, ?_⟩
  rw [hg.st, hg.calib]
  cases s.readDie.usable k
  · exact ⟨rfl, rfl⟩
  · exact ⟨rfl, rfl⟩

theorem State.CanClaim.claims {s : State} {x : Tx} (h : s.CanClaim x) (q : s.Quiet) :
    (s.clamped x.pwr).Claims (s.claimNow x) (x.claimed s.now) (tuneOf x.fmt x.chan) := by
  obtain ⟨a, b, hreq⟩ := (s.clamped x.pwr).reqFor_rf (x.claimed s.now)
  have hq := q.clamped x.pwr
  rw [h.claimNow_eq, hreq]
  generalize s.clamped x.pwr = w at hq ⊢
  exact State.tuneTo_claims _ ((hq.rf _).rf _) (by simp) rfl rfl (by simp)

/-- Of one transmit that waits, whose time to claim has come, the claim (R79). -/
theorem State.claimWaiting_one {s : State} {x : Tx} (q : s.Quiet) (hw : s.rfe.waiting = [x]) (hh : s.rfe.holder = none)
    (hx : s.tb.src = .xtal) (hd : x.asap = true ∨ x.due ≤ s.now + 1280) :
    s.claimWaiting = (s.rf fun r => { r with waiting := [] }).claimNow x := by
  have hnext : s.nextTx = some x := by
    unfold State.nextTx
    rw [hw, List.filter_cons_of_pos (by simpa using hd)]
    rfl
  have hquiesced : s.quiesced 1 = false := by
    unfold State.quiesced
    rw [q.entry]
  have hrest : (s.rf fun r => { r with waiting := r.waiting.filter fun y => y.order != x.order }) = s.rf fun r => { r with waiting := [] } := by
    have hnone : s.rfe.waiting.filter (fun y => y.order != x.order) = [] := by simp [hw]
    exact congrArg (fun l => s.rf fun r => { r with waiting := l }) hnone
  have hloop : s.claimLoop 1 =
      if s.rfe.holder.isSome || s.tb.src != .xtal || s.rfeStopping || s.quiesced 1 then s
      else match s.nextTx with
        | none => s
        | some x => (s.rf fun r => { r with waiting := r.waiting.filter fun y => y.order != x.order }).claimNow x := rfl
  unfold State.claimWaiting
  rw [hw, show [x].length = 1 from rfl, hloop, hh, hx, q.rfeStopping, hquiesced, hnext, if_neg (by decide)]
  exact congrArg (·.claimNow x) hrest

end Sys2Proof.Machine
end

section
/-! SUPPORT. How a transmit ends before its first chip (R74, R88, R167, R170): its completion, and the synthesizer that served it alone. -/

namespace Sys2Proof.Machine

/-! ### The completion -/

/-- `t` is `s` for all that the RFE, the end of the command and the registers but those of the banks look at. -/
structure Sent (s t : State) : Prop where
  turned : Turned s t
  rfe : t.rfe = s.rfe

theorem Sent.refl (s : State) : Sent s s := ⟨.refl s, rfl⟩

theorem Sent.trans {s t u : State} (h : Sent s t) (k : Sent t u) : Sent s u := ⟨h.turned.trans k.turned, k.rfe.trans h.rfe⟩

theorem State.setCtx_sent (s : State) (e c : Nat) (x : Ctx) : Sent s (s.setCtx e c x) := ⟨⟨rfl, rfl, rfl, rfl, rfl, rfl, rfl, fun _ _ => rfl⟩, rfl⟩

theorem State.setLane_sent (s : State) (k : Nat) (l : Lane) : Sent s (s.setLane k l) := ⟨⟨rfl, rfl, rfl, rfl, rfl, rfl, rfl, fun _ _ => rfl⟩, rfl⟩

theorem State.link_sent (s : State) (l : Link) : Sent s { s with link := l } := ⟨⟨rfl, rfl, rfl, rfl, rfl, rfl, rfl, fun _ _ => rfl⟩, rfl⟩

theorem State.txq_sent (s : State) (q : List TxEntry) : Sent s { s with txq := q } := ⟨⟨rfl, rfl, rfl, rfl, rfl, rfl, rfl, fun _ _ => rfl⟩, rfl⟩

theorem State.devWrite_sent (s : State) (a : Nat) (bs : List Byte) : Sent s (s.devWrite a bs) :=
  ⟨s.devWrite_turned a bs, by rw [s.devWrite_devRest a bs]⟩

theorem State.notify_sent (s : State) (e : TxEntry) (w : Word) : Sent s (s.notify e w) := by
  unfold State.notify
  dsimp only
  split
  · exact .refl s
  · split
    · exact s.setCtx_sent _ _ _
    · exact s.setCtx_sent _ _ _

theorem State.ackEnds_sent (s : State) (k : Nat) (a : Ack) : Sent s (s.ackEnds k a) := (s.setLane_sent _ _).trans (State.setCtx_sent _ _ _ _)

/-- S − T of a transmit that ends with a code: of none that has not gone out in full (R75). -/
def Tx.lateBy (tx : Tx) (code : Nat) : Nat :=
  match code, tx.start with
  | 0, some st => (st - tx.due) / 40
  | _, _ => 0

theorem Tx.lateBy_cancelled (tx : Tx) {code : Nat} (h : code ≠ 0) : tx.lateBy code = 0 := by
  unfold Tx.lateBy
  split
  · exact absurd rfl h
  · rfl

/-- The charge of a transmit that ends before its first chip is given back (R222). -/
def State.paidBack (s : State) (tx : Tx) (code : Nat) : State :=
  if (code = 1 || code = 2 || code = 3 || code = 6) && !(tx.start.isSome && s.rfe.air.isSome) then s.refund tx else s

/-- The engine-16 context whose TXGO took the entry hears of the end (R167). -/
def State.takerHears (s : State) (c life : Nat) (stat : Word) : State :=
  if (s.ctx 16 c).life = life && (s.ctx 16 c).act = .txgo then
    s.setCtx 16 c ({ s.ctx 16 c with act := .none, txgoStat := stat }.latch 31)
  else s

/-- The end of a transmit is told to where it came from (R88, R167, R170). -/
def State.sourceHears (s : State) (tx : Tx) (code late : Nat) : State :=
  match tx.src with
  | .ack k life => if (s.ctx (engOf k) (ctxOf k)).life = life then s.ackEnds k (.done code) else s
  | .queue e taker life =>
    let stat := statWord e.eng e.ctx tx.port code
    let w := s.devWrite (s.slotAddr e.q e.slot + 0x18) (leBytes 4 stat.toNat ++ leBytes 4 late)
    (({ w with txq := w.txq.filter fun x => !(x.q = e.q && x.slot = e.slot) } : State).takerHears taker life stat).notify e stat

theorem State.complete_eq (s : State) (tx : Tx) (code : Nat) :
    s.complete tx code = ((s.txstat tx.port code (tx.lateBy code)).paidBack tx code).sourceHears tx code (tx.lateBy code) := rfl

theorem State.paidBack_sent (s : State) (tx : Tx) (code : Nat) : Sent s (s.paidBack tx code) := by
  unfold State.paidBack
  split
  · exact s.link_sent _
  · exact .refl s

theorem State.takerHears_sent (s : State) (c life : Nat) (stat : Word) : Sent s (s.takerHears c life stat) := by
  unfold State.takerHears
  split
  · exact s.setCtx_sent _ _ _
  · exact .refl s

theorem State.sourceHears_sent (s : State) (tx : Tx) (code late : Nat) : Sent s (s.sourceHears tx code late) := by
  unfold State.sourceHears
  split
  · split
    · exact s.ackEnds_sent _ _
    · exact .refl s
  · exact (s.devWrite_sent _ _).trans ((State.txq_sent _ _).trans ((State.takerHears_sent _ _ _ _).trans (State.notify_sent _ _ _)))

/-- A transmit that ends with a code other than 0 leaves `RFE_TXSTAT` with its port and the code. -/
theorem State.complete_sent (s : State) (tx : Tx) {code : Nat} (h : code ≠ 0) : Sent (s.txstat tx.port code 0) (s.complete tx code) := by
  rw [State.complete_eq, tx.lateBy_cancelled h]
  exact (State.paidBack_sent _ _ _).trans (State.sourceHears_sent _ _ _ _)

theorem not_turnReg_RFE : ¬turnReg Reg.RFE_TXSTAT ∧ ¬turnReg Reg.RFE_SPCTL := by
  unfold turnReg Reg.RFE_TXSTAT Reg.RFE_SPCTL Reg.ENV_NF Reg.ENV_SVSTAT Reg.MEMC_BANKCTL Reg.MEMC_RBANKCTL Reg.EVL_WATCH
  omega

/-! ### A cancelled transmit -/

/-- The transmitter and its wires are released. -/
def Rfe.released (r : Rfe) : Rfe := { r with holder := none, req := false, pri := false, air := none }

/-- Nothing but the transmit that holds the transmitter and is on its way to its lock asks for the synthesizer. -/
structure State.Locks (s : State) : Prop where
  canonical : s.canonical
  quiet : s.Quiet
  single : s.flag Reg.RFE_SPCTL_EN = false
  waiting : s.rfe.waiting = []
  bg : s.rfe.bg = .none
  forTx : s.rfe.forTx = true

/-- What a command leaves that cancels the holder: `RFE_TXSTAT` with its port and the code, the synthesizer idle. -/
structure State.Cancelled (s t : State) (tx : Tx) (code : Nat) : Prop where
  quiet : t.Quiet
  rfe : t.rfe = s.rfe.released.idled
  txstat : t.reg Reg.RFE_TXSTAT = BitVec.ofNat 32 (tx.port * 2 ^ 8 + code)

/-- A lock that served the cancelled transmit alone is abandoned, and nothing follows (R74, log entry 83). -/
theorem State.Locks.cancelHolder {s : State} (h : s.Locks) (tx : Tx) {code : Nat} (hcode : code ≠ 0) :
    s.Cancelled (s.cancelHolder tx code) tx code := by
  have hs := s.complete_sent tx hcode
  have hq : (s.txstat tx.port code 0).Quiet := State.setReg_quiet h.quiet _ (by decide) (by decide)
  have hsingle : (s.complete tx code).flag Reg.RFE_SPCTL_EN = false :=
    (congrArg (· != 0) (hs.turned.get (f := Reg.RFE_SPCTL_EN) not_turnReg_RFE.2)).trans
      ((congrArg (fget · Reg.RFE_SPCTL_EN != 0) (s.setReg_reg_ne _ (by decide))).trans h.single)
  have hstat : (s.complete tx code).reg Reg.RFE_TXSTAT = BitVec.ofNat 32 (tx.port * 2 ^ 8 + code) := by
    rw [hs.turned.reg _ not_turnReg_RFE.1]
    refine (s.setReg_reg_self h.canonical.regs _ _).trans ?_
    rw [Nat.zero_mul, Nat.zero_add]
  have hrfe : (s.complete tx code).rfe = s.rfe := hs.rfe
  have hcq := hs.turned.quiet hq
  unfold State.cancelHolder
  dsimp only
  generalize s.complete tx code = m at *
  have halone : m.txRelease.SynthAlone := ⟨hcq.rf _, hsingle, rfl, (congrArg Rfe.waiting hrfe).trans h.waiting⟩
  have hfree : m.txRelease.synthFree = (m.rf Rfe.released).rf Rfe.idled :=
    halone.synthFree.trans (State.bgNext_none (congrArg Rfe.bg hrfe |>.trans h.bg))
  have hfor : m.txRelease.rfe.forTx = true := (congrArg Rfe.forTx hrfe).trans h.forTx
  rw [hfor, Bool.true_or, if_pos rfl, hfree]
  exact ⟨(hcq.rf _).rf _, congrArg (fun r => r.released.idled) hrfe, hstat⟩

theorem State.lateWaiting_none {s : State} (h : s.rfe.waiting = []) : s.lateWaiting = s := by
  have hsame : (s.rf fun r => { r with waiting := [] }) = s := by
    unfold State.rf
    rw [← h]
  unfold State.lateWaiting
  rw [h]
  refine Eq.trans ?_ hsame
  exact congrArg (fun l => s.rf fun r => { r with waiting := l }) (congrArg (List.filter _) h)

end Sys2Proof.Machine
end

section
/-! SUPPORT. The commands from the claim to the lock (R72 to R74, R84). -/

namespace Sys2Proof.Machine

variable {s : State} {t : Nat} {tx : Tx}

/-- The one waiting transmit claims the transmitter. -/
theorem txClaim_claims (q : (s.at_ t).Quiet) (hw : (s.at_ t).rfe.waiting = [tx]) (hh : (s.at_ t).rfe.holder = none)
    (hst : (s.at_ t).rfe.st = .idle ∨ (s.at_ t).rfe.st = .spRx) (hen : (s.at_ t).flag Reg.RFE_CTL_EN = true) (hx : (s.at_ t).tb.src = .xtal)
    (hdue : tx.asap = true ∨ (tx.due ≤ (s.at_ t).now + 1280 ∧ (s.at_ t).now < tx.deadline)) :
    ∃ w u, exec (.txClaim t) s = .next u ∧ Settles w u ∧
      (((s.at_ t).rf fun r => { r with waiting := [] }).clamped tx.pwr).Claims w (tx.claimed (s.at_ t).now) (tuneOf tx.fmt tx.chan) := by
  have hexec : exec (.txClaim t) s = doneW (s.at_ t).claimWaiting := rfl
  generalize s.at_ t = v at *
  rw [State.claimWaiting_one q hw hh hx (hdue.imp_right And.left)] at hexec
  have hup : (v.rf fun r => { r with waiting := [] }).rfeUp = true := by
    have hon : v.rfe.st ≠ .off ∧ v.rfe.st ≠ .starting := by rcases hst with h | h <;> rw [h] <;> decide
    have heq : (v.rf fun r => { r with waiting := [] }).rfeUp = (v.flag Reg.RFE_CTL_EN && v.rfe.st != .off && v.rfe.st != .starting) := rfl
    rw [heq, hen]
    simpa using hon
  have hcan : (v.rf fun r => { r with waiting := [] }).CanClaim tx := ⟨hup, hx, hst, hdue.imp_right And.right⟩
  have hclaims := hcan.claims (q.rf _)
  obtain ⟨u, hu, hs⟩ := doneW_settles hclaims.quiet
  exact ⟨_, u, hexec.trans hu, hs, hclaims⟩

/-- The single path's own lock ends in reception (R63, R71). -/
theorem synthLockDone_single (q : (s.at_ t).Quiet) (hh : (s.at_ t).rfe.holder = none) (hst : (s.at_ t).rfe.st = .locking)
    (hmay : (s.at_ t).spMay = true) :
    ∃ u, exec (.synthLockDone t) s = .next u ∧ u.rfe.st = .spRx ∧ u.rfe.locked = true ∧ u.regs = (s.at_ t).regs := by
  have hx : exec (.synthLockDone t) s = execSynthLockDone t s := rfl
  unfold execSynthLockDone at hx
  dsimp only at hx
  generalize s.at_ t = v at *
  rw [if_pos hst, hh, if_pos hmay] at hx
  have hg : LaneGone (v.rf fun r => { r with st := .spRx, locked := true, divst := v.huntDiv }) v.spStart := (State.laneRest_turned _ _).gone
  obtain ⟨u, hu, hs⟩ := doneB_settles (hg.quiet (q.rf _))
  exact ⟨u, hx.trans hu, by rw [hs.rfe, hg.st]; rfl, by rw [hs.rfe, hg.locked]; rfl, hs.regs.trans hg.regs⟩

/-- A holder's lock ends: in time it waits locked, too late it ends with the code that the deadline gives it (R73, R74). -/
theorem synthLockDone_holder (hh : (s.at_ t).rfe.holder = some tx) (hst : (s.at_ t).rfe.st = .locking) (hfor : (s.at_ t).rfe.forTx = true) :
    exec (.synthLockDone t) s = doneB (match (s.at_ t).lockLate tx with
      | some code => (s.at_ t).cancelHolder tx code
      | none => (s.at_ t).rf fun r => { r with st := .txWait, locked := true, holder := some { tx with lockT := some (s.at_ t).now } }) := by
  have hx : exec (.synthLockDone t) s = execSynthLockDone t s := rfl
  unfold execSynthLockDone at hx
  dsimp only at hx
  rw [if_pos hst, hh] at hx
  dsimp only at hx
  rw [if_neg (by rw [hfor]; decide)] at hx
  exact hx

theorem txLateCancel_holder (hh : (s.at_ t).rfe.holder = some tx) (hst : (s.at_ t).rfe.st = .locking) :
    exec (.txLateCancel t) s =
      doneW (if tx.asap = false ∧ tx.deadline ≤ (s.at_ t).now then (s.at_ t).cancelHolder tx 1 else s.at_ t).lateWaiting := by
  have hx : exec (.txLateCancel t) s = execTxLateCancel t s := rfl
  unfold execTxLateCancel State.locking at hx
  dsimp only at hx
  rw [hh, hst] at hx
  refine hx.trans (congrArg (fun w : State => doneW w.lateWaiting) (if_congr ?_ rfl rfl))
  simp

theorem synthTimeout_holder (hh : (s.at_ t).rfe.holder = some tx) (hst : (s.at_ t).rfe.st = .locking) :
    exec (.synthTimeout t) s = doneW (if tx.asap = true ∧ tx.claim + 4000 ≤ (s.at_ t).now then (s.at_ t).cancelHolder tx 2 else s.at_ t) := by
  have hx : exec (.synthTimeout t) s = execSynthTimeout t s := rfl
  unfold execSynthTimeout State.locking at hx
  dsimp only at hx
  rw [hh, hst] at hx
  refine hx.trans (congrArg doneW (if_congr ?_ rfl rfl))
  simp

/-- COEX_REQ of the holder (R84). -/
theorem coexReqAssert_does (hh : (s.at_ t).rfe.holder = some tx) :
    Does (.coexReqAssert t) s
      (if (s.at_ t).flag Reg.COEX_CTL_EN = true ∧ (tx.isAck = true ∨ tx.due ≤ (s.at_ t).now + 40 * max 8 ((s.at_ t).get Reg.COEX_CTL_LEAD)) then
        (s.at_ t).rf fun r => { r with req := true, pri := tx.pri } else s.at_ t) := by
  have hx : exec (.coexReqAssert t) s = execCoexReqAssert t s := rfl
  unfold execCoexReqAssert at hx
  dsimp only at hx
  rw [hh] at hx
  unfold State.reqFor at hx
  exact does_done (hx.trans (congrArg done (if_congr (by simp) rfl rfl)))

/-- A command that cancels the holder, once it has settled. -/
theorem State.Cancelled.ended {v w u : State} {code : Nat} (h : v.Cancelled w tx code) (hs : Settles w u) :
    u.rfe.holder = none ∧ u.rfe.req = false ∧ u.rfe.st = .idle ∧ u.reg Reg.RFE_TXSTAT = BitVec.ofNat 32 (tx.port * 2 ^ 8 + code) := by
  rw [hs.rfe, h.rfe, hs.reg]
  exact ⟨rfl, rfl, rfl, h.txstat⟩

theorem State.Cancelled.doneB {v w : State} {code : Nat} {c : Instr} (h : v.Cancelled w tx code) (hx : exec c s = doneB w) :
    ∃ u, exec c s = .next u ∧ u.rfe.holder = none ∧ u.rfe.req = false ∧ u.rfe.st = .idle ∧
      u.reg Reg.RFE_TXSTAT = BitVec.ofNat 32 (tx.port * 2 ^ 8 + code) := by
  obtain ⟨u, hu, hs⟩ := doneB_settles h.quiet
  exact ⟨u, hx.trans hu, h.ended hs⟩

theorem State.Cancelled.doneW {v w : State} {code : Nat} {c : Instr} (h : v.Cancelled w tx code) (hx : exec c s = doneW w) :
    ∃ u, exec c s = .next u ∧ u.rfe.holder = none ∧ u.rfe.req = false ∧ u.rfe.st = .idle ∧
      u.reg Reg.RFE_TXSTAT = BitVec.ofNat 32 (tx.port * 2 ^ 8 + code) := by
  obtain ⟨u, hu, hs⟩ := doneW_settles h.quiet
  exact ⟨u, hx.trans hu, h.ended hs⟩

/-- A lock that comes too late cancels the holder (R74). -/
theorem State.Locks.late (h : (s.at_ t).Locks) (hh : (s.at_ t).rfe.holder = some tx) (hst : (s.at_ t).rfe.st = .locking) {code : Nat}
    (hcode : code ≠ 0) (hlate : (s.at_ t).lockLate tx = some code) :
    ∃ u, exec (.synthLockDone t) s = .next u ∧ u.rfe.holder = none ∧ u.rfe.req = false ∧ u.rfe.st = .idle ∧
      u.reg Reg.RFE_TXSTAT = BitVec.ofNat 32 (tx.port * 2 ^ 8 + code) := by
  have hx := synthLockDone_holder hh hst h.forTx
  rw [hlate] at hx
  exact (h.cancelHolder tx hcode).doneB hx

theorem State.Locks.inTime (h : (s.at_ t).Locks) (hh : (s.at_ t).rfe.holder = some tx) (hst : (s.at_ t).rfe.st = .locking)
    (hlate : (s.at_ t).lockLate tx = none) : Does (.synthLockDone t) s
      ((s.at_ t).rf fun r => { r with st := .txWait, locked := true, holder := some { tx with lockT := some (s.at_ t).now } }) := by
  have hx := synthLockDone_holder hh hst h.forTx
  rw [hlate] at hx
  exact does_doneB hx (h.quiet.rf _)

theorem State.lockLate_timed {v : State} (h : tx.asap = false) : v.lockLate tx = if tx.deadline < v.now then some 1 else none := by
  unfold State.lockLate
  rw [h]
  rfl

theorem State.lockLate_asap {v : State} (h : tx.asap = true) : v.lockLate tx = if tx.claim + 4000 < v.now then some 2 else none := by
  unfold State.lockLate
  rw [h]
  rfl

end Sys2Proof.Machine
end

section
/-! O22: a transmit from its claim to its lock. -/

namespace Sys2Proof.Machine

/-- Settles O22: the claim by `State.CanClaim.claims`, every end before the lock by `State.Locks.cancelHolder`. -/
theorem transmitClaimsAndLocks : Obligations.TransmitClaimsAndLocks := by
  unfold Obligations.TransmitClaimsAndLocks
  dsimp only
  intro s t tx hc q hx hbg
  refine ⟨fun hw hh hst hen hdue => ?_, coexReqAssert_does, synthLockDone_single q, fun hh hw hst hfor hsp => ?_⟩
  · obtain ⟨w, u, hu, hs, hcl⟩ := txClaim_claims q hw hh hst hen hx hdue
    have hsynth := hcl.synth
    rw [State.clamped_usable _ _ (tuneOf_lt _ _)] at hsynth
    refine ⟨u, hu, ?_, ?_, ?_, ?_, fun hp => ?_, ?_⟩
    · rw [hs.rfe, hcl.waiting, State.clamped_rfe]
      rfl
    · rw [hs.rfe, hcl.locked]
    · rw [hs.rfe, hcl.tune]
    · rw [hs.rfe, hcl.holder]
      rfl
    · rw [hs.flag]
      have hflag := State.clamped_flag (s := (s.at_ t).rf fun r => { r with waiting := [] }) hc.regs hp
      unfold State.flag State.get State.reg at hflag ⊢
      rw [hcl.regs]
      exact hflag
    · rw [hs.rfe]
      exact hsynth
  · have h : (s.at_ t).Locks := ⟨hc, q, hsp, hw, hbg, hfor⟩
    have hcancelled := txLateCancel_holder hh hst
    have htimeout := synthTimeout_holder hh hst
    refine ⟨fun ha => ?_, fun ha => ?_⟩
    · have hlate := State.lockLate_timed (v := s.at_ t) ha
      refine ⟨fun hin => h.inTime hh hst (hlate.trans (if_neg (Nat.not_lt.2 hin))), fun hl => h.late hh hst (by decide) (hlate.trans (if_pos hl)),
        fun hl => ?_, fun he => ?_, ?_⟩
      · rw [if_pos ⟨ha, hl⟩] at hcancelled
        have hend := h.cancelHolder tx (code := 1) (by decide)
        rw [State.lateWaiting_none (by rw [hend.rfe]; exact hw)] at hcancelled
        exact hend.doneW hcancelled
      · rw [if_neg fun hn => Nat.not_le.2 he hn.2, State.lateWaiting_none hw] at hcancelled
        exact does_doneW hcancelled q
      · rw [if_neg (by simp [ha])] at htimeout
        exact does_doneW htimeout q
    · have hlate := State.lockLate_asap (v := s.at_ t) ha
      refine ⟨fun hin => h.inTime hh hst (hlate.trans (if_neg (Nat.not_lt.2 hin))), fun hl => h.late hh hst (by decide) (hlate.trans (if_pos hl)),
        fun hl => ?_, fun he => ?_, ?_⟩
      · rw [if_pos ⟨ha, hl⟩] at htimeout
        exact (h.cancelHolder tx (by decide)).doneW htimeout
      · rw [if_neg fun hn => Nat.not_le.2 he hn.2] at htimeout
        exact does_doneW htimeout q
      · rw [if_neg (by simp [ha]), State.lateWaiting_none hw] at hcancelled
        exact does_doneW hcancelled q

end Sys2Proof.Machine
end

section
/-! SUPPORT. An acknowledgement that claims the free transmitter at its commit point (R76, R138, R231, R232). -/

namespace Sys2Proof.Machine

/-- The FCS on air takes 2 octets in S-mode and with CRCT, else 4 (R129, R130). -/
theorem fcsOf_length (fmt : Nat) (crct : Bool) (phr : Nat) (pl : List Byte) :
    (fcsOf fmt crct phr pl).length = if fmt = 1 ∨ crct = true then 2 else 4 := by
  unfold fcsOf
  by_cases hf : fmt = 1
  · simp [hf, leBytes_length]
  · cases crct <;> simp [hf, leBytes_length]

theorem ackOctets_length (f : Frame) : (ackOctets f).length = 3 + if f.fmt = 1 ∨ f.crct = true then 2 else 4 := by
  unfold ackOctets
  dsimp only
  rw [List.length_append, fcsOf_length]
  rfl

theorem State.dwellRoom_off {s : State} (h : s.flag Reg.LINK_DWCFG_EN = false) (fmt chan air : Nat) : s.dwellRoom fmt chan air = true := by
  unfold State.dwellRoom
  rw [h]
  rfl

theorem State.setAck_beside (s : State) (k : Nat) (f : Frame) (a : Ack) (d : Bool) : Beside s (s.setAck k f a d) := by
  unfold State.setAck
  dsimp only
  split <;> exact rfl

/-- Where dwell accounting is off, a requested acknowledgement claims the free transmitter at its commit point, for 40 µs after the last
chip (R76, R78). -/
theorem State.commitAck_claims {s : State} (hh : s.rfe.holder = none) (hdw : s.flag Reg.LINK_DWCFG_EN = false) (k : Nat) (f : Frame) :
    ∃ l m x, Beside { s with link := l } m ∧ s.commitAck k f = m.claimNow x ∧ x.octets = ackOctets f ∧ x.deadline = f.tend + 1280 := by
  unfold State.commitAck
  dsimp only
  rw [hh, if_neg (by decide), State.dwellRoom_off hdw, if_neg (by decide)]
  refine ⟨_, _, _, State.setAck_beside (s.charge _ _) _ _ _ _, rfl, rfl, ?_⟩
  show f.tend + 1600 + 40 * 0 - 320 = f.tend + 1280
  omega

/-- An RFE that is enabled and idle lets a transmit claim whose time of lock has not come. -/
theorem State.canClaim_beside {s m : State} {l : Link} {x : Tx} (h : Beside { s with link := l } m) (hx : s.tb.src = .xtal) (hst : s.rfe.st = .idle)
    (hen : s.flag Reg.RFE_CTL_EN = true) (hlate : s.now < x.deadline) : m.CanClaim x := by
  have hup : ({ s with link := l } : State).rfeUp = true := by
    have heq : ({ s with link := l } : State).rfeUp = (s.flag Reg.RFE_CTL_EN && s.rfe.st != .off && s.rfe.st != .starting) := rfl
    rw [heq, hen, hst]
    rfl
  rw [h]
  exact ⟨hup, hx, .inl hst, .inr hlate⟩

/-- ACK_COMMIT of the one frame at its commit point, the RFE idle and dwell accounting off: the acknowledgement that holds the transmitter. -/
theorem ackCommit_holder {s : State} {t k : Nat} {f : Frame} (q : (s.at_ t).Quiet) (hx : (s.at_ t).tb.src = .xtal)
    (hst : (s.at_ t).rfe.st = .idle) (hen : (s.at_ t).flag Reg.RFE_CTL_EN = true) (hh : (s.at_ t).rfe.holder = none)
    (hdw : (s.at_ t).flag Reg.LINK_DWCFG_EN = false) (hc : (s.at_ t).commitOf k = some f) (hf : ∀ j < k, (s.at_ t).commitOf j = none) :
    ∃ u x, exec (.ackCommit k t) s = .next u ∧ u.rfe.holder = some x ∧ x.octets = ackOctets f := by
  have hexec : exec (.ackCommit k t) s = execAckCommit k t s := rfl
  unfold execAckCommit at hexec
  dsimp only at hexec
  generalize s.at_ t = v at *
  have hfirst : v.lanes.all (fun p => k ≤ p.1 || (v.commitOf p.1).isNone) = true := by
    rw [List.all_eq_true]
    intro p _
    rcases Nat.lt_or_ge p.1 k with hlt | hge
    · simp [hf p.1 hlt]
    · simp [hge]
  have hdue : v.now = f.tend + 320 := by
    have hp := List.find?_some hc
    unfold Frame.commits at hp
    simp only [Bool.and_eq_true, decide_eq_true_eq] at hp
    exact hp.2.symm
  obtain ⟨l, m, x, hm, hclaim, ho, hdl⟩ := State.commitAck_claims hh hdw k f
  rw [hc] at hexec
  dsimp only at hexec
  rw [if_pos hfirst, hclaim] at hexec
  have hmq : m.Quiet := by
    rw [hm]
    exact q.of rfl rfl rfl rfl rfl rfl rfl
  have hcl := (State.canClaim_beside hm hx hst hen (by omega : v.now < x.deadline)).claims hmq
  obtain ⟨u, hu, hs⟩ := doneW_settles hcl.quiet
  exact ⟨u, x.claimed m.now, hexec.trans hu, by rw [hs.rfe]; exact hcl.holder, ho⟩

end Sys2Proof.Machine
end

section
/-! O24: a frame whose format code is neither that of N-mode nor that of S-mode. -/

namespace Sys2Proof.Machine

/-- A received frame without CRCT whose acknowledgement is requested. Its format code is 2, which no run gives a frame. -/
def oddFrame : Frame :=
  ⟨0, 2, 5, 0, 0, 0, 0, some 0, 5, [0, 0, 0, 0, 0], 5, true, 5, true, 1000, true, 0, 0, ⟨0, []⟩, .requested, false, false, false, false⟩

/-- Lane 0 holds that frame at its commit point, the RFE is idle, dwell accounting off. -/
def oddAck : State :=
  { State.reset with
    now := 1320
    tb := { Tbase.reset with src := .xtal }
    rfe := { Rfe.reset with st := .idle }
    lanes := [(0, { Lane.reset with frames := [oddFrame] })]
    regs := [(Reg.RFE_CTL, 1)] }

/-- The commit comes at the state's own time, and the frame is complete. -/
theorem oddAck_at : oddAck.at_ 1320 = oddAck := by decide +kernel

theorem oddAck_canonical : oddAck.canonical :=
  { State.reset_canonical with regs := by decide +kernel, lanes := by decide +kernel }

theorem oddAck_quiet : oddAck.Quiet := ⟨rfl, by decide +kernel, rfl, .inl rfl, rfl, rfl, rfl, rfl, rfl, rfl⟩

/-- Refutes O24: `fcsOf` puts an FCS of 2 octets on air for format code 1 or with CRCT and of 4 otherwise, while `Frame.fcs` counts 4 for
format code 0 alone. The statement takes a frame of any format code, so that one of code 2 without CRCT, as the state here holds, has an
acknowledgement of 3 + 4 octets, not of 3 + 2. -/
theorem not_coexRevocationAndAckTurn : ¬ Obligations.CoexRevocationAndAckTurn := by
  unfold Obligations.CoexRevocationAndAckTurn
  intro h
  have h0 := h oddAck 1320
  rw [oddAck_at] at h0
  obtain ⟨-, -, -, hack⟩ := h0 oddAck_canonical oddAck_quiet rfl rfl rfl (by decide +kernel)
  obtain ⟨hcommit, -⟩ := hack 0 oddFrame (by decide) rfl rfl rfl rfl
  obtain ⟨-, -, hclaim⟩ := hcommit rfl (by simp)
  obtain ⟨u, x, hu, hx, -, -, -, hlen, -⟩ := hclaim rfl (by decide +kernel) rfl (by decide +kernel)
  obtain ⟨u', x', hu', hx', ho⟩ := ackCommit_holder (s := oddAck) (t := 1320) (k := 0) (f := oddFrame) (oddAck_at ▸ oddAck_quiet)
    (by rw [oddAck_at]; rfl) (by rw [oddAck_at]; rfl) (by rw [oddAck_at]; decide +kernel) (by rw [oddAck_at]; rfl)
    (by rw [oddAck_at]; decide +kernel) (by rw [oddAck_at]; rfl) (by simp)
  have hsame : u = u' := Host.Outcome.next.inj (hu.symm.trans hu')
  subst hsame
  have hxx : x = x' := Option.some.inj (hx.symm.trans hx')
  subst hxx
  rw [ho, ackOctets_length] at hlen
  exact absurd hlen (by decide)

end Sys2Proof.Machine
end

section
/-! SUPPORT. The lanes of a group that take the state that their group leaves them (R118, R119), as whole lanes. -/

namespace Sys2Proof.Machine

/-- `t` is `s` but for lanes and memory, lane k among those that stay. -/
def LaneKept (k : Nat) (s t : State) : Prop := Beside s t ∧ Keeps s t ∧ t.lane k = s.lane k

theorem LaneKept.refl (k : Nat) (s : State) : LaneKept k s s := ⟨.refl s, .refl s, rfl⟩

theorem LaneKept.trans {k : Nat} {s t u : State} (h : LaneKept k s t) (h' : LaneKept k t u) : LaneKept k s u :=
  ⟨h.1.trans h'.1, h.2.1.transS h'.2.1, h'.2.2.trans h.2.2⟩

theorem State.idleRest_keeps (s : State) (k : Nat) : Keeps s (s.idleRest k) := by
  unfold State.idleRest
  exact keepsS_ite (.refl s) (s.updLane_keeps _ _)

theorem State.idleRest_laneKept (s : State) {j k : Nat} (h : k ≠ j) : LaneKept k s (s.idleRest j) :=
  ⟨s.idleRest_beside j, s.idleRest_keeps j, s.idleRest_lane_ne h⟩

theorem State.idleRest_busy {s : State} {k : Nat} (h : (s.lane k).st = .preamble ∨ (s.lane k).st = .frame) : s.idleRest k = s := by
  unfold State.idleRest
  exact if_pos (by simpa using h)

theorem State.idleRest_idle {s : State} (hs : s.canonical) {k : Nat} (hp : (s.lane k).st ≠ .preamble) (hf : (s.lane k).st ≠ .frame) :
    (s.idleRest k).lane k = s.restLane k := by
  unfold State.idleRest
  dsimp only
  rw [if_neg (by simp [hp, hf]), State.updLane_lane_self hs.lanes]

theorem Beside.restLane {s t : State} (h : Beside s t) {k : Nat} (hl : t.lane k = s.lane k) : t.restLane k = s.restLane k := by
  have hn : t.now = s.now := by rw [h]
  unfold State.restLane
  rw [h.restState, hl, hn]

/-- Of the lanes of a group, one takes its state between changes of the others. -/
theorem State.groupRest_at (s : State) (g : Nat) {i : Nat} (hi : i < 8) :
    ∃ m, LaneKept (8 * g + i) s m ∧ LaneKept (8 * g + i) (m.idleRest (8 * g + i)) (s.groupRest g) :=
  forN_at (R := LaneKept (8 * g + i)) (.refl _) .trans (f := fun s j => s.idleRest (8 * g + j)) (g := i)
    (fun j hj t => t.idleRest_laneKept (by omega)) hi s

theorem State.groupRest_lane_busy (s : State) (g : Nat) {i : Nat} (hi : i < 8)
    (h : (s.lane (8 * g + i)).st = .preamble ∨ (s.lane (8 * g + i)).st = .frame) :
    (s.groupRest g).lane (8 * g + i) = s.lane (8 * g + i) := by
  obtain ⟨m, ⟨-, -, hm⟩, ⟨-, -, hl⟩⟩ := s.groupRest_at g hi
  rw [hl, State.idleRest_busy (by rw [hm]; exact h), hm]

theorem State.groupRest_lane_idle {s : State} (hs : s.canonical) (g : Nat) {i : Nat} (hi : i < 8)
    (hp : (s.lane (8 * g + i)).st ≠ .preamble) (hf : (s.lane (8 * g + i)).st ≠ .frame) :
    (s.groupRest g).lane (8 * g + i) = s.restLane (8 * g + i) := by
  obtain ⟨m, ⟨hb, hk, hm⟩, ⟨-, -, hl⟩⟩ := s.groupRest_at g hi
  rw [hl, State.idleRest_idle (hk.canonical hs) (by rw [hm]; exact hp) (by rw [hm]; exact hf), hb.restLane hm]

theorem State.restState_of_held {s : State} {k : Nat} (hk : k < 128) (h : s.held (k / 8) = true) : s.restState k = .off := by
  unfold State.restState
  rw [if_neg (by omega), h]
  simp

theorem State.restState_of_stopped {s : State} {k : Nat} (hk : k < 128) (h : (s.eng (k / 8)).run = false) : s.restState k = .off := by
  unfold State.restState
  rw [if_neg (by omega), h]
  simp

/-- While the Envelope runs and no SURVEY waits, an enabled lane of a running group that is not held hunts, or waits for a blank's end. -/
theorem State.restState_of_run {s : State} {k : Nat} (hk : k < 128) (hst : s.env.st = .run) (hw : s.env.survWait = false)
    (he : (s.eng (k / 8)).run = true) (hh : s.held (k / 8) = false) (hen : s.laneEnabled k = true) :
    s.restState k = if s.laneMuted k = true then .off else if s.rfe.blank = true then .blank else .hunt := by
  unfold State.restState
  rw [if_neg (by omega), hst, hw, he, hh, hen]
  simp

theorem State.restLane_off {s : State} {k : Nat} (h : s.restState k = .off) : s.restLane k = { s.lane k with st := .off } := by
  unfold State.restLane
  rw [h]
  rfl

end Sys2Proof.Machine
end

section
/-! SUPPORT. GROUP_HOLD, GROUP_STOPPED and GROUP_RELEASE (R118, R119, R145): what each leaves one group, the steps for the others beside. -/

namespace Sys2Proof.Machine

/-! ### GROUP_HOLD -/

/-- One step of `holdGroups`. -/
def State.holdOne (m : Nat) (s : State) (g : Nat) : State := if m.testBit g then s.groupRest g else s

theorem State.holdOne_beside (m : Nat) (s : State) (g : Nat) : Beside s (s.holdOne m g) := by
  unfold State.holdOne
  split
  · exact s.groupRest_beside g
  · exact .refl s

theorem State.holdOne_groupKept (m : Nat) (s : State) {e g : Nat} (he : e ≠ g) : GroupKept g s (s.holdOne m e) := by
  unfold State.holdOne
  split
  · exact s.groupRest_groupKept he
  · exact .refl g s

/-- A mask of the sixteen groups, as the register takes it. -/
theorem groupMask (m : BitVec 16) : BitVec.ofNat 32 (m.toNat % 65536) = m.setWidth 32 := by
  rw [Nat.mod_eq_of_lt m.isLt, BitVec.ofNat_toNat]

theorem groupMask_bit (m : BitVec 16) (g : Nat) : m.toNat.testBit g = m.getLsbD g := rfl

/-- `s` with the HOLD bits of a mask set. -/
def State.holdSet (s : State) (m : BitVec 16) : State := s.setReg Reg.ENV_GHOLD_SET (s.reg Reg.ENV_GHOLD_SET ||| m.setWidth 32)

theorem State.holdGroups_eq (s : State) (m : BitVec 16) : s.holdGroups m.toNat = forN 16 (State.holdOne m.toNat) (s.holdSet m) := by
  unfold State.holdSet
  rw [← groupMask]
  rfl

theorem State.holdSet_held {s : State} (hs : s.canonical) {m : BitVec 16} {g : Nat} (hm : m.getLsbD g = true) (hg : g < 16) :
    (s.holdSet m).held g = true := by
  unfold State.held bitOf State.holdSet
  rw [s.setReg_reg_self hs.regs, BitVec.getLsbD_or, BitVec.getLsbD_setWidth, hm, decide_eq_true (show g < 32 by omega)]
  simp

/-- A lane of a held group as HOLD leaves it: OFF, unless it is in an attempt or a frame. -/
theorem State.groupRest_held {s : State} (hs : s.canonical) {g i : Nat} (hg : g < 16) (hi : i < 8) (h : s.held g = true) :
    (s.groupRest g).lane (8 * g + i) =
      if (s.lane (8 * g + i)).st ≠ .preamble ∧ (s.lane (8 * g + i)).st ≠ .frame then { s.lane (8 * g + i) with st := .off }
      else s.lane (8 * g + i) := by
  split
  · rename_i hn
    have hd : (8 * g + i) / 8 = g := by omega
    rw [State.groupRest_lane_idle hs g hi hn.1 hn.2, State.restLane_off (State.restState_of_held (by omega) (by rw [hd]; exact h))]
  · rename_i hn
    refine s.groupRest_lane_busy g hi ?_
    by_cases hp : (s.lane (8 * g + i)).st = .preamble
    · exact .inl hp
    · exact .inr (not_not.1 fun hf => hn ⟨hp, hf⟩)

theorem State.holdGroups_lane {s : State} (hs : s.canonical) (m : BitVec 16) {g i : Nat} (hg : g < 16) (hi : i < 8) :
    (s.holdGroups m.toNat).lane (8 * g + i) =
      if m.getLsbD g = true ∧ (s.lane (8 * g + i)).st ≠ .preamble ∧ (s.lane (8 * g + i)).st ≠ .frame then { s.lane (8 * g + i) with st := .off }
      else s.lane (8 * g + i) := by
  rw [State.holdGroups_eq]
  obtain ⟨p, hp, hlast⟩ := forN_at (R := GroupKept g) (.refl g) .trans (f := State.holdOne m.toNat) (g := g)
    (fun j hj t => t.holdOne_groupKept m.toNat hj) hg (s.holdSet m)
  have hl : p.lane (8 * g + i) = s.lane (8 * g + i) := hp.lane i hi
  rw [hlast.lane i hi, State.holdOne, groupMask_bit]
  by_cases hm : m.getLsbD g = true
  · have hheld : p.held g = true := by
      rw [hp.rest]
      exact State.holdSet_held hs hm hg
    rw [if_pos hm, State.groupRest_held (hp.keeps.canonical ((s.setReg_keeps _ _).canonical hs)) hg hi hheld, hl]
    simp only [hm, true_and]
  · rw [if_neg hm, if_neg fun h => hm h.1, hl]

/-! ### GROUP_STOPPED -/

/-- A context as the stop of its engine leaves it (R145). -/
def Ctx.ended (x : Ctx) : Ctx :=
  if x.st = .faulted || x.st = .halted then x
  else { x with st := .stopped, timer := none, wait := .none, act := .none, urg := false }

/-- One step of `engStop`. -/
def State.ctxStop (e : Nat) (s : State) (c : Nat) : State :=
  let x := s.ctx e c
  if x.st = .faulted || x.st = .halted then s
  else s.setCtx e c { x with st := .stopped, timer := none, wait := .none, act := .none, urg := false }

theorem State.engStop_eq (s : State) (e : Nat) : s.engStop e =
    forN (nctx e) (State.ctxStop e) (s.setEng e { s.eng e with run := false, stopping := false, wantStart := false }) := rfl

/-- `t` is `s` but for contexts, context c of engine e among those that stay. -/
def CtxKept (e c : Nat) (s t : State) : Prop := t = { s with ctxs := t.ctxs } ∧ Keeps s t ∧ t.ctx e c = s.ctx e c

theorem CtxKept.refl (e c : Nat) (s : State) : CtxKept e c s s := ⟨rfl, .refl s, rfl⟩

theorem CtxKept.trans {e c : Nat} {s t u : State} (h : CtxKept e c s t) (h' : CtxKept e c t u) : CtxKept e c s u := by
  obtain ⟨hr, hk, hx⟩ := h
  obtain ⟨hr', hk', hx'⟩ := h'
  exact ⟨by rw [hr', hr], hk.transS hk', hx'.trans hx⟩

theorem State.ctxStop_kept (s : State) {e c d : Nat} (h : d ≠ c) : CtxKept e c s (s.ctxStop e d) := by
  unfold State.ctxStop
  dsimp only
  split
  · exact .refl e c s
  · exact ⟨rfl, s.setCtx_keeps _ _ _, s.setCtx_ctx_ne _ (by omega)⟩

theorem State.ctxStop_rest (s : State) (e c : Nat) : s.ctxStop e c = { s with ctxs := (s.ctxStop e c).ctxs } := by
  unfold State.ctxStop
  dsimp only
  split <;> rfl

theorem State.ctxStop_ends {s : State} (hs : s.canonical) (e c : Nat) : (s.ctxStop e c).ctx e c = (s.ctx e c).ended := by
  unfold State.ctxStop Ctx.ended
  dsimp only
  split
  · rfl
  · exact State.setCtx_ctx_self hs.ctxs e c _

theorem nctx_group {g : Nat} (hg : g < 16) : nctx g = 8 := by
  unfold nctx
  rw [if_neg (by omega), if_pos hg]

/-- What the stop of a group's engine leaves. -/
structure EngEnded (g : Nat) (s t : State) : Prop where
  rest : t = { s with engs := t.engs, ctxs := t.ctxs }
  eng : (t.eng g).run = false
  ctx : ∀ c < 8, t.ctx g c = (s.ctx g c).ended

theorem State.engStop_ends {s : State} (hs : s.canonical) {g : Nat} (hg : g < 16) : EngEnded g s (s.engStop g) := by
  rw [State.engStop_eq, nctx_group hg]
  set r := s.setEng g { s.eng g with run := false, stopping := false, wantStart := false } with hr
  have hrc : r.canonical := (s.setEng_keeps _ _).canonical hs
  have hat : ∀ c < 8, ∃ p, CtxKept g c r p ∧ CtxKept g c (p.ctxStop g c) (forN 8 (State.ctxStop g) r) := fun c hc =>
    forN_at (R := CtxKept g c) (.refl g c) .trans (fun d hd t => t.ctxStop_kept hd) hc r
  have hrest : forN 8 (State.ctxStop g) r = { r with ctxs := (forN 8 (State.ctxStop g) r).ctxs } := by
    obtain ⟨p, ⟨hp, -, -⟩, ⟨hl, -, -⟩⟩ := hat 0 (by omega)
    rw [hl, p.ctxStop_rest, hp]
  generalize forN 8 (State.ctxStop g) r = e at *
  refine ⟨by rw [hrest]; rfl, ?_, fun c hc => ?_⟩
  · have he : r.eng g = { s.eng g with run := false, stopping := false, wantStart := false } := sget_sput_self hs.engs.1 _ _
    rw [hrest]
    exact congrArg Engine.run he
  · obtain ⟨p, ⟨-, hk, hx⟩, ⟨-, -, hl⟩⟩ := hat c hc
    rw [hl, State.ctxStop_ends (hk.canonical hrc), hx]
    rfl

theorem State.groupDone_quiet {s : State} {g : Nat} (h : s.groupDone g = true) {i : Nat} (hi : i < 8) :
    (s.lane (8 * g + i)).st ≠ .preamble ∧ (s.lane (8 * g + i)).st ≠ .frame := by
  unfold State.groupDone State.groupQuiet at h
  rw [Bool.and_eq_true, Bool.and_eq_true, List.all_eq_true] at h
  have hq := h.2.2 i (List.mem_range.2 hi)
  simp only [Bool.and_eq_true, bne_iff_ne] at hq
  exact hq.1

/-- What the stop of a group leaves: its engine stopped, its contexts too unless they have faulted or halted, its idle lanes OFF. -/
structure GroupEnded (g : Nat) (s t : State) : Prop where
  rest : t = { s with engs := t.engs, ctxs := t.ctxs, lanes := t.lanes, mem := t.mem, lost := t.lost, free := t.free }
  eng : (t.eng g).run = false
  ctx : ∀ c < 8, t.ctx g c = (s.ctx g c).ended
  lane : ∀ i < 8, (s.lane (8 * g + i)).st ≠ .preamble → (s.lane (8 * g + i)).st ≠ .frame → (t.lane (8 * g + i)).st = .off

theorem State.groupStop_ends {s : State} (hs : s.canonical) {g : Nat} (hg : g < 16) : GroupEnded g s (s.groupStop g) := by
  obtain ⟨hrest, heng, hctx⟩ := State.engStop_ends hs hg
  have hcanon := (s.engStop_keeps g).canonical hs
  have hb := (s.engStop g).groupRest_beside g
  have hlane : ∀ k, (s.engStop g).lane k = s.lane k := fun k => by
    rw [hrest]
    rfl
  unfold State.groupStop
  refine ⟨restOf hrest hb.rest, (congrArg Engine.run (hb.eng g)).trans heng, fun c hc => (hb.ctx g c).trans (hctx c hc), fun i hi hp hf => ?_⟩
  have hd : (8 * g + i) / 8 = g := by omega
  rw [State.groupRest_lane hcanon.lanes hi (by rw [hlane]; exact hp) (by rw [hlane]; exact hf)]
  exact State.restState_of_stopped (by omega) (by rw [hd]; exact heng)

theorem GroupEnded.quiet {g : Nat} {s t : State} (h : GroupEnded g s t) (q : s.Quiet) : t.Quiet := by
  rw [h.rest]
  exact q.of rfl rfl rfl rfl rfl rfl rfl

theorem Ctx.ended_st {x : Ctx} (hf : x.st ≠ .faulted) (hh : x.st ≠ .halted) : x.ended.st = .stopped := by
  unfold Ctx.ended
  rw [if_neg (by simp [hf, hh])]

theorem Ctx.ended_of_over {x : Ctx} (h : x.st = .faulted ∨ x.st = .halted) : x.ended = x := if_pos (by simpa using h)

/-- A context that does not wait stays as it is when a command settles. -/
theorem Settles.ctx_still {v u : State} (h : Settles v u) {e c : Nat} (hw : (v.ctx e c).st ≠ .waiting) : u.ctx e c = v.ctx e c :=
  (h.ctx e c).resolve_right fun hx => hw hx.1

theorem groupStopped_exec (g t : Nat) (s : State) : exec (.groupStopped g t) s =
    doneW (if g < 16 && (s.at_ t).groupLeaving g && (s.at_ t).groupDone g then ((s.at_ t).groupStop g).ldrFollow g else s.at_ t) := rfl

theorem State.ldrFollow_idle {s : State} (h : s.ldr.phase = .idle) (e : Nat) : s.ldrFollow e = s := by
  unfold State.ldrFollow
  rw [h]
  rfl

/-- GROUP_STOPPED of a held group in which nothing is in progress, no load under way. -/
theorem groupStopped_ends {s : State} {t g : Nat} (h : (s.at_ t).Calm) (hg : g < 16) (hl : (s.at_ t).ldr.phase = .idle)
    (hh : (s.at_ t).held g = true) (hd : (s.at_ t).groupDone g = true) :
    ∃ w u, exec (.groupStopped g t) s = .next u ∧ GroupEnded g (s.at_ t) w ∧ Settles w u := by
  have hends := State.groupStop_ends h.canonical hg
  have hcond : (g < 16 && (s.at_ t).groupLeaving g && (s.at_ t).groupDone g) = true := by
    unfold State.groupLeaving
    rw [hh, hd, decide_eq_true hg]
    rfl
  have hx := groupStopped_exec g t s
  rw [if_pos hcond, State.ldrFollow_idle (by rw [hends.rest]; exact hl)] at hx
  obtain ⟨u, hu, hset⟩ := doneW_settles (hends.quiet h.quiet)
  exact ⟨_, u, hx.trans hu, hends, hset⟩

/-! ### GROUP_RELEASE -/

/-- One step of `freeGroups`: the release of a group that was held and is named. -/
def State.freeOne (m old : Nat) (s : State) (g : Nat) : State := if m.testBit g && old.testBit g then s.groupFree g else s

/-- `s` with the HOLD bits of a mask cleared. -/
def State.holdCleared (s : State) (m : BitVec 16) : State := s.setReg Reg.ENV_GHOLD_SET (s.reg Reg.ENV_GHOLD_SET &&& ~~~m.setWidth 32)

theorem State.freeGroups_eq (s : State) (m : BitVec 16) : s.freeGroups m.toNat =
    forN 16 (State.freeOne m.toNat (s.get Reg.ENV_GHOLD_SET_HOLD)) (s.holdCleared m) := by
  unfold State.holdCleared
  rw [← groupMask]
  rfl

theorem State.holdCleared_held {s : State} (hs : s.canonical) {m : BitVec 16} {g : Nat} (hm : m.getLsbD g = true) (hg : g < 16) :
    (s.holdCleared m).held g = false := by
  unfold State.held bitOf State.holdCleared
  rw [s.setReg_reg_self hs.regs, BitVec.getLsbD_and, BitVec.getLsbD_not, BitVec.getLsbD_setWidth, hm, decide_eq_true (show g < 32 by omega)]
  simp

/-- The settings of a lane are in `ENV_GCFG` and `ENV_GMODE` of its group. -/
theorem State.laneEnabled_of_regs {s t : State} {k : Nat} (hc : t.reg (Reg.ENV_GCFG (k / 8)) = s.reg (Reg.ENV_GCFG (k / 8)))
    (hm : t.reg (Reg.ENV_GMODE (k / 8)) = s.reg (Reg.ENV_GMODE (k / 8))) : t.laneEnabled k = s.laneEnabled k := by
  unfold State.laneEnabled State.std State.flag State.get
  rw [hc, hm]

theorem State.inSpan_of_reg {s t : State} (h : t.reg Reg.ENV_CFG = s.reg Reg.ENV_CFG) (g : Nat) : t.inSpan g = s.inSpan g := by
  unfold State.inSpan State.get
  rw [h]

theorem State.holdCleared_laneEnabled (s : State) (m : BitVec 16) (k : Nat) : (s.holdCleared m).laneEnabled k = s.laneEnabled k :=
  State.laneEnabled_of_regs (s.setReg_reg_ne _ (by unfold Reg.ENV_GCFG Reg.ENV_GHOLD_SET; omega))
    (s.setReg_reg_ne _ (by unfold Reg.ENV_GMODE Reg.ENV_GHOLD_SET; omega))

theorem State.holdCleared_inSpan (s : State) (m : BitVec 16) (g : Nat) : (s.holdCleared m).inSpan g = s.inSpan g :=
  State.inSpan_of_reg (s.setReg_reg_ne _ (by decide)) g

theorem State.groupStart_groupKept (s : State) {e g : Nat} (he : e ≠ g) : GroupKept g s (s.groupStart e) :=
  (s.engStart_groupKept he).trans (State.groupRest_groupKept _ he)

theorem State.freeOne_groupKept (m old : Nat) (s : State) {e g : Nat} (he : e ≠ g) : GroupKept g s (s.freeOne m old e) := by
  unfold State.freeOne State.groupFree
  split
  · split
    · split
      · exact s.groupRest_groupKept he
      · exact s.groupStart_groupKept he
    · exact .refl g s
  · exact .refl g s

/-- With the Envelope off a release starts nothing. -/
theorem State.freeOne_off {s : State} (h : s.env.st = .off) (m old g : Nat) : s.freeOne m old g = s := by
  have hf : s.groupFree g = s := if_neg (by simp [h])
  unfold State.freeOne
  rw [hf, ite_self]

theorem State.freeGroups_off {s : State} (h : s.env.st = .off) (m : BitVec 16) : s.freeGroups m.toNat = s.holdCleared m := by
  rw [State.freeGroups_eq]
  have hall : ∀ n, forN n (State.freeOne m.toNat (s.get Reg.ENV_GHOLD_SET_HOLD)) (s.holdCleared m) = s.holdCleared m := fun n => by
    induction n with
    | zero => rfl
    | succ n ih => rw [forN_succ, ih, State.freeOne_off (s := s.holdCleared m) h]
  exact hall 16

/-- What a release leaves a group that was held: it runs again from the start, or its stop is cancelled and its engine goes on. -/
structure Freed (g : Nat) (s t : State) : Prop where
  starts : (s.eng g).run = false → GroupBegun g s t
  goes : (s.eng g).run = true → t.eng g = s.eng g ∧ (∀ c < 8, t.ctx g c = s.ctx g c) ∧ ∀ i < 8,
    ((s.lane (8 * g + i)).st = .preamble ∨ (s.lane (8 * g + i)).st = .frame → t.lane (8 * g + i) = s.lane (8 * g + i)) ∧
    ((s.lane (8 * g + i)).st = .off → s.laneEnabled (8 * g + i) = true →
      (t.lane (8 * g + i)).st = if s.laneMuted (8 * g + i) = true then .off else if s.rfe.blank = true then .blank else .hunt)

theorem GroupKept.laneMuted {g : Nat} {s t : State} (h : GroupKept g s t) {i : Nat} (hg : g < 16) (hi : i < 8) :
    t.laneMuted (8 * g + i) = s.laneMuted (8 * g + i) := by
  have he : engOf (8 * g + i) = g ∧ ctxOf (8 * g + i) = i := by
    unfold engOf ctxOf
    rw [if_neg (by omega), if_neg (by omega)]
    omega
  unfold State.laneMuted
  rw [he.1, he.2, h.ctx i hi]

/-- What the release of a group finds: the Envelope runs, and its HOLD bit has been cleared. -/
structure State.CanFree (s : State) (g : Nat) : Prop where
  group : g < 16
  canonical : s.canonical
  rxbusy : s.start.rxbusy = false
  entry : s.pwr.hs = none
  run : s.env.st = .run
  survey : s.env.survWait = false
  held : s.held g = false
  span : s.inSpan g = true

theorem State.CanFree.kept {s t : State} {g : Nat} (h : s.CanFree g) (k : GroupKept g s t) : t.CanFree g := by
  have hc := k.keeps.canonical h.canonical
  rw [k.rest] at hc ⊢
  exact ⟨h.group, hc, h.rxbusy, h.entry, h.run, h.survey, h.held, h.span⟩

theorem State.CanFree.frees {s : State} {g : Nat} (h : s.CanFree g) : Freed g s (s.groupFree g) := by
  have hfree : s.groupFree g = if (s.eng g).run then s.groupRest g else s.groupStart g := if_pos (by rw [h.run, h.span]; rfl)
  rw [hfree]
  refine ⟨fun hr => ?_, fun hr => ?_⟩
  · rw [hr]
    exact State.groupStart_begins h.group h.canonical h.rxbusy h.entry h.run h.survey h.held
  · rw [hr, if_pos rfl]
    have hb := s.groupRest_beside g
    refine ⟨hb.eng g, fun c _ => hb.ctx g c, fun i hi => ⟨s.groupRest_lane_busy g hi, fun ho hen => ?_⟩⟩
    have hg := h.group
    have hd : (8 * g + i) / 8 = g := by omega
    rw [State.groupRest_lane h.canonical.lanes hi (by rw [ho]; decide) (by rw [ho]; decide)]
    exact State.restState_of_run (by omega) h.run h.survey (by rw [hd]; exact hr) (by rw [hd]; exact h.held) hen

theorem Freed.before {g : Nat} {s t u : State} (hg : g < 16) (k : GroupKept g s t) (h : Freed g t u) : Freed g s u := by
  have henv : t.laneEnabled = s.laneEnabled ∧ t.rfe = s.rfe := by
    rw [k.rest]
    exact ⟨rfl, rfl⟩
  refine ⟨fun hr => .before k (h.starts (by rw [k.eng]; exact hr)), fun hr => ?_⟩
  obtain ⟨he, hc, hl⟩ := h.goes (by rw [k.eng]; exact hr)
  refine ⟨he.trans k.eng, fun c hlt => (hc c hlt).trans (k.ctx c hlt), fun i hi => ?_⟩
  have hx := hl i hi
  rwa [k.lane i hi, henv.1, henv.2, k.laneMuted hg hi] at hx

theorem Freed.after {g : Nat} {s t u : State} (h : Freed g s t) (k : GroupKept g t u) : Freed g s u := by
  refine ⟨fun hr => (h.starts hr).after k, fun hr => ?_⟩
  obtain ⟨he, hc, hl⟩ := h.goes hr
  exact ⟨k.eng.trans he, fun c hlt => (k.ctx c hlt).trans (hc c hlt), fun i hi => by rw [k.lane i hi]; exact hl i hi⟩

/-- Every named group that was held is released. -/
theorem State.freeGroups_frees {s : State} {m : BitVec 16} {g : Nat} (h : (s.holdCleared m).CanFree g) (hm : m.getLsbD g = true)
    (hh : s.held g = true) : Freed g (s.holdCleared m) (s.freeGroups m.toNat) := by
  have hold : (s.get Reg.ENV_GHOLD_SET_HOLD).testBit g = true := by
    unfold State.get
    rw [fget_testBit, decide_eq_true (show g < 16 from h.group), Nat.zero_add]
    exact hh
  rw [State.freeGroups_eq]
  obtain ⟨p, hp, hlast⟩ := forN_at (R := GroupKept g) (.refl g) .trans (f := State.freeOne m.toNat (s.get Reg.ENV_GHOLD_SET_HOLD)) (g := g)
    (fun j hj t => t.freeOne_groupKept m.toNat _ hj) h.group (s.holdCleared m)
  have hone : p.freeOne m.toNat (s.get Reg.ENV_GHOLD_SET_HOLD) g = p.groupFree g := if_pos (by rw [groupMask_bit, hm, hold]; rfl)
  rw [hone] at hlast
  exact .before h.group hp (.after (h.kept hp).frees hlast)

theorem State.freeGroups_groupKept (s : State) (m : BitVec 16) : GroupKept 16 (s.holdCleared m) (s.freeGroups m.toNat) := by
  rw [State.freeGroups_eq]
  unfold forN
  exact groupKept_foldl _ (fun e he t => t.freeOne_groupKept m.toNat _ (Nat.ne_of_lt (List.mem_range.1 he))) _

theorem groupRelease_exec {s : State} (m : BitVec 16) (h : s.ldr.phase = .idle) : exec (.groupRelease m) s = doneW (s.freeGroups m.toNat) := by
  have hl : s.loading s.ldr.eng = false := by
    unfold State.loading
    rw [h]
    rfl
  have hr : s.releaseGroups m.toNat = s.freeGroups m.toNat := by
    unfold State.releaseGroups
    dsimp only
    rw [hl]
    rfl
  exact congrArg doneW hr

end Sys2Proof.Machine
end

section
/-! O31: the hold, the stop and the release of lane groups. -/

namespace Sys2Proof.Machine

theorem State.setHold_quiet {s : State} (q : s.Quiet) (w : Word) : (s.setReg Reg.ENV_GHOLD_SET w).Quiet :=
  State.setReg_quiet q w (by decide) (by decide)

/-- The end of a command that leaves the registers of `s` but for HOLD. -/
theorem hold_regs {s t u : State} {w : Word} (hs : s.canonical) (ht : t.regs = (s.setReg Reg.ENV_GHOLD_SET w).regs) (hu : Settles t u) :
    u.reg Reg.ENV_GHOLD_SET = w ∧ s.regsBut u [Reg.ENV_GHOLD_SET] := by
  have hreg : ∀ x, u.reg x = (s.setReg Reg.ENV_GHOLD_SET w).reg x := fun x => congrArg (fun r => sget regReset r x) (hu.regs.trans ht)
  exact ⟨(hreg _).trans (s.setReg_reg_self hs.regs _ _), fun x hx => (hreg x).trans (s.setReg_reg_ne _ (by simpa using hx))⟩

/-- GROUP_HOLD. -/
theorem groupHold_holds {s : State} (h : s.Calm) (m : BitVec 16) : ∃ u, exec (.groupHold m) s = .next u ∧
    u.reg Reg.ENV_GHOLD_SET = s.reg Reg.ENV_GHOLD_SET ||| m.setWidth 32 ∧ s.regsBut u [Reg.ENV_GHOLD_SET] ∧ u.engs = s.engs ∧
    ∀ k, u.lane k = (s.holdGroups m.toNat).lane k := by
  have hb : Beside (s.holdSet m) (s.holdGroups m.toNat) := by
    rw [State.holdGroups_eq]
    exact beside_foldl (fun t g => t.holdOne_beside m.toNat g) (List.range 16) _
  obtain ⟨u, hu, hset⟩ := doneW_settles (hb.laneTurned.quiet (State.setHold_quiet h.quiet _))
  obtain ⟨hself, hother⟩ := hold_regs h.canonical hb.regs hset
  exact ⟨u, hu, hself, hother, hset.engs.trans hb.engs, hset.lane⟩

/-- What a release shows of a group that was held, once the command has settled: it runs; it has begun anew, or it goes on as it was. -/
theorem Freed.settles {s w u : State} {m : BitVec 16} {g : Nat} (h : Freed g (s.holdCleared m) w) (hset : Settles w u) :
    (u.eng g).run = true ∧ ((s.eng g).run = false → ∀ c < 8, (u.ctx g c).st = .ready ∧ (u.ctx g c).pc = 0) ∧
      ((s.eng g).run = true → u.eng g = s.eng g ∧ (∀ c < 8, (s.ctx g c).st ≠ .waiting → u.ctx g c = s.ctx g c) ∧
        ∀ i < 8, (s.lane (8 * g + i)).st = .preamble ∨ (s.lane (8 * g + i)).st = .frame → u.lane (8 * g + i) = s.lane (8 * g + i)) ∧
      ∀ i < 8, (s.lane (8 * g + i)).st = .off → s.laneEnabled (8 * g + i) = true →
        (u.lane (8 * g + i)).st =
          if (s.eng g).run = true ∧ s.laneMuted (8 * g + i) = true then .off else if s.rfe.blank = true then .blank else .hunt := by
  cases hrun : (s.eng g).run
  · obtain ⟨he, hctx, hlane⟩ := (h.starts hrun).settles hset
    refine ⟨he, fun _ => hctx, nofun, fun i hi ho hen => (hlane i hi ho).trans ?_⟩
    rw [State.holdCleared_laneEnabled, hen]
    rfl
  · obtain ⟨he, hctx, hlane⟩ := h.goes hrun
    refine ⟨by rw [hset.eng, he]; exact hrun, nofun, fun _ => ⟨(hset.eng g).trans he, fun c hc hn => ?_, fun i hi hp => ?_⟩,
      fun i hi ho hen => ?_⟩
    · have hs : w.ctx g c = s.ctx g c := hctx c hc
      rw [hset.ctx_still (by rw [hs]; exact hn), hs]
    · rw [hset.lane]
      exact (hlane i hi).1 hp
    · rw [hset.lane, (hlane i hi).2 ho ((s.holdCleared_laneEnabled m _).trans hen)]
      simp only [true_and]
      rfl

/-- Settles O31: a hold by `State.holdGroups_lane`, a stop by `State.groupStop_ends`, a release group by group by `State.freeGroups_frees`. -/
theorem groupsHoldStopAndStart : Obligations.GroupsHoldStopAndStart := by
  unfold Obligations.GroupsHoldStopAndStart
  refine ⟨fun s m h => ?_, fun s t g => ?_, fun s m h hl hw hb _ => ?_⟩
  · obtain ⟨u, hu, hself, hother, hengs, hlane⟩ := groupHold_holds h m
    refine ⟨u, hu, hself, hother, hengs, fun k hk => ?_⟩
    have hx := State.holdGroups_lane h.canonical m (g := k / 8) (i := k % 8) (by omega) (by omega)
    rw [show 8 * (k / 8) + k % 8 = k by omega, ← hlane] at hx
    rw [hx]
    split_ifs <;> rfl
  · dsimp only
    intro h hg hl hh
    refine ⟨fun hd => ?_, fun hd => ?_⟩
    · obtain ⟨w, u, hu, hends, hset⟩ := groupStopped_ends h hg hl hh hd
      refine ⟨u, hu, by rw [hset.eng]; exact hends.eng, hset.regs.trans (by rw [hends.rest]), fun c hc hf hx => ?_, fun c hc hx => ?_, fun i hi => ?_⟩
      · have hs := (congrArg Ctx.st (hends.ctx c hc)).trans (Ctx.ended_st hf hx)
        rw [hset.ctx_still (by rw [hs]; decide), hs]
      · have hs := (hends.ctx c hc).trans (Ctx.ended_of_over hx)
        rw [hset.ctx_still (by rw [hs]; rcases hx with hx | hx <;> rw [hx] <;> decide), hs]
      · obtain ⟨hp, hf⟩ := State.groupDone_quiet hd hi
        rw [hset.lane]
        exact hends.lane i hi hp hf
    · exact does_doneW ((groupStopped_exec g t s).trans (congrArg doneW (if_neg (by simp [hd])))) h.quiet
  · have hkept := s.freeGroups_groupKept m
    obtain ⟨u, hu, hset⟩ := doneW_settles (hkept.quiet (State.setHold_quiet h.quiet _))
    obtain ⟨hself, hother⟩ := hold_regs h.canonical (by rw [hkept.rest]; rfl) hset
    refine ⟨u, (groupRelease_exec m hl).trans hu, hself, hother, fun ho => ?_, fun hr g hg hm hh hi => ?_⟩
    · rw [State.freeGroups_off ho] at hset
      exact ⟨hset.engs, fun e c => (hset.ctx e c).imp_right And.left, fun k _ hk => by rw [hset.lane]; exact hk⟩
    · have hcan : (s.holdCleared m).CanFree g :=
        ⟨hg, (s.setReg_keeps _ _).canonical h.canonical, hb, h.quiet.entry, hr, hw, State.holdCleared_held h.canonical hm hg,
          (s.holdCleared_inSpan m g).trans hi⟩
      exact (State.freeGroups_frees hcan hm hh).settles hset

end Sys2Proof.Machine
end

section
/-! SUPPORT. The noise floor of one channel at the end of an interval (R113). -/

namespace Sys2Proof.Machine

/-! ### The powers that count -/

theorem lowest_eq_min? (ps : List Int) : lowest ps = ps.min? := by
  have hf : ∀ (l : List Int) (q : Int), l.foldl (fun o p => match o with
      | none => some p
      | some q => some (min p q)) (some q) = some (l.foldl min q) := fun l => by
    induction l with
    | nil => exact fun _ => rfl
    | cons p l ih =>
      intro q
      rw [List.foldl_cons, List.foldl_cons, min_comm q p]
      exact ih _
  cases ps with
  | nil => rfl
  | cons p l => exact hf l p

/-- Where no sub-window is left out, all count. -/
theorem counted_zero (ps : List Int) : counted 0 ps = ps := by
  unfold counted
  rw [List.filter_eq_self.2 (by simp), List.zipIdx_map_fst]

/-- The sub-windows that do not count for channel k. -/
def State.subsOut (s : State) (k : Nat) : Nat := s.blankSubs ||| (match s.coverLane k with | some j => s.busySubs j | none => 0)

/-- Without a blank and without a busy lane no sub-window is left out. -/
theorem State.subsOut_none {s : State} (hf : s.env.blankFrom = none) (hm : s.env.blankMask = 0) (hb : s.env.busy = [])
    (hl : ∀ j, (s.lane j).st ≠ .preamble ∧ (s.lane j).st ≠ .frame) (k : Nat) : s.subsOut k = 0 := by
  have hbusy : ∀ j, s.busySubs j = 0 := fun j => by
    unfold State.busySubs
    dsimp only
    rw [if_neg (by simp [hl j]), hb]
    rfl
  unfold State.subsOut State.blankSubs
  rw [hf, hm]
  cases s.coverLane k <;> simp [hbusy]

/-! ### One channel -/

/-- The floor that channel k takes from a lowest power (R113). -/
def State.floorOf (s : State) (k : Nat) (x : Int) : Int :=
  if s.flag Reg.ENV_NFCFG_AVG && s.flag (Reg.ENV_NF_VALID k) then
    toSigned 16 (s.get (Reg.ENV_NF_FLOOR k)) + (x - toSigned 16 (s.get (Reg.ENV_NF_FLOOR k))).tdiv 8
  else x

/-- The powers of channel k that count. -/
def State.powsOf (s : State) (k : Nat) (pow : List ChanPow) : List Int :=
  match pow.find? (fun p => p.chan = k) with
  | some p => (s.chainPows p).flatMap (counted (s.subsOut k))
  | none => []

theorem State.floorUpd_eq (s : State) (k : Nat) (pow : List ChanPow) : s.floorUpd k pow = (lowest (s.powsOf k pow)).elim
    (s.put (Reg.ENV_NF_AGE k) (satInc 255 (s.get (Reg.ENV_NF_AGE k))))
    fun x => ((s.put (Reg.ENV_NF_FLOOR k) (ofSigned 16 (s.floorOf k x))).put (Reg.ENV_NF_AGE k) 0).put (Reg.ENV_NF_VALID k) 1 := by
  show (match lowest (s.powsOf k pow) with | none => _ | some x => _) = _
  cases lowest (s.powsOf k pow) <;> rfl

theorem State.powsOf_none {s : State} {k : Nat} {pow : List ChanPow} (h : pow.find? (fun p => p.chan = k) = none) : s.powsOf k pow = [] := by
  unfold State.powsOf
  rw [h]

/-- On chain A alone, with every sub-window counted, the powers are those of chain A. -/
theorem State.powsOf_some {s : State} {k : Nat} {pow : List ChanPow} {p : ChanPow} (h : pow.find? (fun p => p.chan = k) = some p)
    (ha : s.env.active = 1) (he : s.subsOut k = 0) : s.powsOf k pow = p.chainA := by
  have hpows : s.chainPows p = [p.chainA] := by
    unfold State.chainPows
    rw [ha]
    rfl
  unfold State.powsOf
  rw [h]
  dsimp only
  rw [hpows, he, List.flatMap_singleton, counted_zero]

theorem State.floorUpd_rest (s : State) (k : Nat) (pow : List ChanPow) : s.floorUpd k pow = { s with regs := (s.floorUpd k pow).regs } := by
  rw [State.floorUpd_eq]
  cases lowest (s.powsOf k pow) <;> rfl

theorem State.floorUpd_reg (s : State) {k a : Nat} (pow : List ChanPow) (h : a ≠ Reg.ENV_NF k) : (s.floorUpd k pow).reg a = s.reg a := by
  rw [State.floorUpd_eq]
  cases lowest (s.powsOf k pow) with
  | none => exact s.put_reg_ne _ _ h
  | some x => exact (State.put_reg_ne _ _ _ h).trans ((State.put_reg_ne _ _ _ h).trans (State.put_reg_ne _ _ _ h))

/-- What an interval without a power that counts makes of a channel. -/
structure FloorAged (k : Nat) (s t : State) : Prop where
  age : t.get (Reg.ENV_NF_AGE k) = min 255 (s.get (Reg.ENV_NF_AGE k) + 1)
  floor : t.get (Reg.ENV_NF_FLOOR k) = s.get (Reg.ENV_NF_FLOOR k)
  valid : t.get (Reg.ENV_NF_VALID k) = s.get (Reg.ENV_NF_VALID k)

/-- What a lowest power x makes of a channel. -/
structure FloorTaken (k : Nat) (x : Int) (s t : State) : Prop where
  floor : t.get (Reg.ENV_NF_FLOOR k) = ofSigned 16 (s.floorOf k x)
  age : t.get (Reg.ENV_NF_AGE k) = 0
  valid : t.flag (Reg.ENV_NF_VALID k) = true

theorem State.floorUpd_ages {s : State} (hs : Swf regReset s.regs) {k : Nat} {pow : List ChanPow}
    (h : pow.find? (fun p => p.chan = k) = none) : FloorAged k s (s.floorUpd k pow) := by
  rw [State.floorUpd_eq, State.powsOf_none h]
  change FloorAged k s (s.put (Reg.ENV_NF_AGE k) (satInc 255 (s.get (Reg.ENV_NF_AGE k))))
  refine ⟨?_, s.put_get_other hs _ _ _ (show 16 + 8 ≤ 32 by decide) (.inr (.inl (show 0 + 16 ≤ 16 by decide))),
    s.put_get_other hs _ _ _ (show 16 + 8 ≤ 32 by decide) (.inr (.inr (show 16 + 8 ≤ 31 by decide)))⟩
  rw [s.put_get_self hs _ _ (show 16 + 8 ≤ 32 by decide)]
  exact Nat.mod_eq_of_lt (show min 255 _ < 256 by omega)

theorem State.floorUpd_takes {s : State} (hs : Swf regReset s.regs) {k : Nat} {pow : List ChanPow} {p : ChanPow} {x : Int}
    (h : pow.find? (fun p => p.chan = k) = some p) (ha : s.env.active = 1) (he : s.subsOut k = 0) (hx : p.chainA.min? = some x) :
    FloorTaken k x s (s.floorUpd k pow) := by
  rw [State.floorUpd_eq, State.powsOf_some h ha he, lowest_eq_min?, hx, Option.elim_some]
  set f := s.put (Reg.ENV_NF_FLOOR k) (ofSigned 16 (s.floorOf k x)) with hf
  have hfs : Swf regReset f.regs := s.put_Swf hs _ _
  set g := f.put (Reg.ENV_NF_AGE k) 0 with hg
  have hgs : Swf regReset g.regs := f.put_Swf hfs _ _
  refine ⟨?_, ?_, ?_⟩
  · rw [g.put_get_other hgs _ _ _ (show 31 + 1 ≤ 32 by decide) (.inr (.inl (show 0 + 16 ≤ 31 by decide))),
      f.put_get_other hfs _ _ _ (show 16 + 8 ≤ 32 by decide) (.inr (.inl (show 0 + 16 ≤ 16 by decide))),
      s.put_get_self hs _ _ (show 0 + 16 ≤ 32 by decide)]
    exact Nat.mod_eq_of_lt (ofSigned_lt 16 _)
  · rw [g.put_get_other hgs _ _ _ (show 31 + 1 ≤ 32 by decide) (.inr (.inl (show 16 + 8 ≤ 31 by decide))),
      f.put_get_self hfs _ _ (show 16 + 8 ≤ 32 by decide)]
    rfl
  · exact congrArg (· != 0) (g.put_get_self hgs (Reg.ENV_NF_VALID k) 1 (show 31 + 1 ≤ 32 by decide))

/-! ### All channels -/

/-- One step of `floorsUpd`. -/
def State.floorStep (runs : Bool) (pow : List ChanPow) (s : State) (k : Nat) : State :=
  s.floorUpd k (if runs && s.inSpan (k / 8) then pow else [])

theorem State.floorsUpd_eq (s : State) (pow : List ChanPow) : s.floorsUpd pow =
    forN 128 (State.floorStep (s.env.st = .run || s.env.st = .survey) pow) s := rfl

/-- `t` is `s` but for noise floors. -/
structure FloorsOnly (s t : State) : Prop where
  rest : t = { s with regs := t.regs }
  keeps : Keeps s t
  other : s.regsBut t ((List.range 128).map Reg.ENV_NF)

theorem FloorsOnly.refl (s : State) : FloorsOnly s s := ⟨rfl, .refl s, fun _ _ => rfl⟩

theorem FloorsOnly.trans {s t u : State} (h : FloorsOnly s t) (h' : FloorsOnly t u) : FloorsOnly s u :=
  ⟨by rw [h'.rest, h.rest], h.keeps.transS h'.keeps, fun a ha => (h'.other a ha).trans (h.other a ha)⟩

/-- `t` is `s` but for noise floors of channels other than k. -/
structure FloorKept (k : Nat) (s t : State) : Prop where
  only : FloorsOnly s t
  self : t.reg (Reg.ENV_NF k) = s.reg (Reg.ENV_NF k)

theorem FloorKept.refl (k : Nat) (s : State) : FloorKept k s s := ⟨.refl s, rfl⟩

theorem FloorKept.trans {k : Nat} {s t u : State} (h : FloorKept k s t) (h' : FloorKept k t u) : FloorKept k s u :=
  ⟨h.only.trans h'.only, h'.self.trans h.self⟩

theorem not_ENV_NF {a : Nat} (h : a < 0x4000C600 ∨ 0x4000C800 ≤ a) : a ∉ (List.range 128).map Reg.ENV_NF := by
  intro hm
  obtain ⟨j, hj, rfl⟩ := List.mem_map.1 hm
  have := List.mem_range.1 hj
  unfold Reg.ENV_NF at h
  omega

theorem FloorsOnly.get {s t : State} (h : FloorsOnly s t) {f : Field} (hf : f.addr < 0x4000C600 ∨ 0x4000C800 ≤ f.addr) : t.get f = s.get f :=
  congrArg (fun w => fget w f) (h.other _ (not_ENV_NF hf))

theorem State.floorStep_only (runs : Bool) (pow : List ChanPow) (s : State) {j : Nat} (hj : j < 128) :
    FloorsOnly s (State.floorStep runs pow s j) :=
  ⟨s.floorUpd_rest j _, s.floorUpd_keeps j _,
    fun _ ha => s.floorUpd_reg _ fun he => ha (List.mem_map.2 ⟨j, List.mem_range.2 hj, he.symm⟩)⟩

theorem State.floorStep_kept (runs : Bool) (pow : List ChanPow) (s : State) {j k : Nat} (hj : j < 128) (hk : j ≠ k) :
    FloorKept k s (State.floorStep runs pow s j) :=
  ⟨s.floorStep_only runs pow hj, s.floorUpd_reg _ (by unfold Reg.ENV_NF; omega)⟩

/-- A fold whose steps are related relates its ends. -/
theorem forN_steps {α : Type} {R : α → α → Prop} (hrefl : ∀ a, R a a) (htrans : ∀ {a b c}, R a b → R b c → R a c) {f : α → Nat → α} {n : Nat}
    (h : ∀ i < n, ∀ a, R a (f a i)) (a : α) : R a (forN n f a) := by
  induction n with
  | zero => exact hrefl a
  | succ n ih =>
    rw [forN_succ]
    exact htrans (ih fun i hi => h i (by omega)) (h n (by omega) _)

/-- What the steps other than that of `g` leave is left up to that step, and from it on. -/
theorem forN_around {α : Type} {R : α → α → Prop} (hrefl : ∀ a, R a a) (htrans : ∀ {a b c}, R a b → R b c → R a c) {f : α → Nat → α}
    {g n : Nat} (hg : g < n) (h : ∀ i < n, i ≠ g → ∀ a, R a (f a i)) (a : α) : ∃ m, R a m ∧ R (f m g) (forN n f a) := by
  induction n with
  | zero => omega
  | succ n ih =>
    rw [forN_succ]
    by_cases hn : g = n
    · subst hn
      exact ⟨forN g f a, forN_steps hrefl htrans (fun i hi => h i (by omega) (by omega)) a, hrefl _⟩
    · obtain ⟨m, hm, hr⟩ := ih (by omega) fun i hi => h i (by omega)
      exact ⟨m, hm, htrans hr (h n (by omega) (Ne.symm hn) _)⟩

theorem State.floorsUpd_only (s : State) (pow : List ChanPow) : FloorsOnly s (s.floorsUpd pow) := by
  rw [State.floorsUpd_eq]
  exact forN_steps .refl .trans (fun j hj t => t.floorStep_only _ pow hj) s

/-- The floor of channel k after the interval is what its own step makes of it. -/
theorem State.floorsUpd_at (s : State) (pow : List ChanPow) {k : Nat} (hk : k < 128) :
    ∃ m, FloorKept k s m ∧ FloorKept k (State.floorStep (s.env.st = .run || s.env.st = .survey) pow m k) (s.floorsUpd pow) := by
  rw [State.floorsUpd_eq]
  exact forN_around (.refl k) .trans hk (fun j hj hne t => t.floorStep_kept _ pow hj hne) s

theorem FloorKept.get {k : Nat} {s t : State} (h : FloorKept k s t) {f : Field} (hf : f.addr = Reg.ENV_NF k) : t.get f = s.get f := by
  unfold State.get
  rw [hf, h.self]

section
variable {s t u : State} {k : Nat}

theorem FloorAged.around (h : FloorAged k t u) {u' : State} (hs : FloorKept k s t) (hu : FloorKept k u u') : FloorAged k s u' :=
  ⟨(hu.get rfl).trans (h.age.trans (by rw [hs.get rfl])), (hu.get rfl).trans (h.floor.trans (hs.get rfl)),
    (hu.get rfl).trans (h.valid.trans (hs.get rfl))⟩

theorem FloorTaken.around {x : Int} (h : FloorTaken k x t u) {u' : State} (hs : FloorKept k s t) (hu : FloorKept k u u') : FloorTaken k x s u' := by
  have hf : t.floorOf k x = s.floorOf k x := by
    unfold State.floorOf State.flag
    rw [hs.get (f := Reg.ENV_NF_FLOOR k) rfl, hs.get (f := Reg.ENV_NF_VALID k) rfl, hs.only.get (f := Reg.ENV_NFCFG_AVG) (by decide)]
  exact ⟨(hu.get rfl).trans (hf ▸ h.floor), (hu.get rfl).trans h.age, (congrArg (· != 0) (hu.get (f := Reg.ENV_NF_VALID k) rfl)).trans h.valid⟩

end

theorem FloorsOnly.inSpan {s t : State} (h : FloorsOnly s t) (g : Nat) : t.inSpan g = s.inSpan g := by
  unfold State.inSpan
  rw [h.get (by decide)]

theorem State.floorsUpd_ages {s : State} (hs : s.canonical) {pow : List ChanPow} {k : Nat} (hk : k < 128)
    (h : s.inSpan (k / 8) = false ∨ pow.find? (fun p => p.chan = k) = none) : FloorAged k s (s.floorsUpd pow) := by
  obtain ⟨m, hm, hu⟩ := s.floorsUpd_at pow hk
  refine FloorAged.around ?_ hm hu
  refine State.floorUpd_ages (hm.only.keeps.canonical hs).regs ?_
  rw [hm.only.inSpan]
  rcases h with h | h
  · rw [h, Bool.and_false]
    rfl
  · split
    · exact h
    · rfl

theorem State.floorsUpd_takes {s : State} (hs : s.canonical) {pow : List ChanPow} {k : Nat} {p : ChanPow} {x : Int} (hk : k < 128)
    (hrun : s.env.st = .run) (ha : s.env.active = 1) (hf : s.env.blankFrom = none) (hb : s.env.blankMask = 0) (hy : s.env.busy = [])
    (hl : ∀ j, (s.lane j).st ≠ .preamble ∧ (s.lane j).st ≠ .frame) (hspan : s.inSpan (k / 8) = true)
    (hp : pow.find? (fun p => p.chan = k) = some p) (hx : p.chainA.min? = some x) : FloorTaken k x s (s.floorsUpd pow) := by
  obtain ⟨m, hm, hu⟩ := s.floorsUpd_at pow hk
  have henv : m.env = s.env := by rw [hm.only.rest]
  have hlanes : ∀ j, m.lane j = s.lane j := by rw [hm.only.rest]; exact fun _ => rfl
  refine FloorTaken.around ?_ hm hu
  have hstep : State.floorStep (s.env.st = .run || s.env.st = .survey) pow m k = m.floorUpd k pow := by
    unfold State.floorStep
    rw [hm.only.inSpan, hspan, hrun]
    rfl
  rw [hstep]
  exact State.floorUpd_takes (hm.only.keeps.canonical hs).regs hp (henv ▸ ha)
    (State.subsOut_none (henv ▸ hf) (henv ▸ hb) (henv ▸ hy) (fun j => hlanes j ▸ hl j) k) hx

end Sys2Proof.Machine
end

section
/-! SUPPORT. The end of an interval (R113, R115) where nothing waits for unit 17. -/

namespace Sys2Proof.Machine

theorem State.Quiet.applyUnit_env {s : State} (q : s.Quiet) : s.applyUnit 17 = s := by
  have ha : s.mergeArmed 17 = s := if_neg (by rw [q.pend]; decide)
  unfold State.applyUnit
  rw [State.mergeWaits_none q.waits, ha, State.onApply_env s s rfl]
  exact if_neg (by simp)

/-- The boundary of an interval is the turn alone, where no lane is to be turned off for a SURVEY. -/
theorem msBoundary_turns {s : State} {t : Nat} {pow : List ChanPow} (h : (s.at_ t).Calm)
    (hq : (s.at_ t).env.st ≠ .survey ∨ (s.at_ t).get (Reg.EVL_LINECFG_SUB ((s.at_ t).outLine 1)) = 0)
    (hs : (s.at_ t).flag Reg.ENV_CTL_SURVEY = false ∨ (s.at_ t).env.st ≠ .run) : Does (.msBoundary pow t) s ((s.at_ t).msTurn pow) := by
  have hx : exec (.msBoundary pow t) s = doneW ((((s.at_ t).msTurn pow).applyUnit 17).afterPend (some 17)).survTurn := rfl
  have ht := (s.at_ t).msTurn_turned pow hq
  have hw := ht.quiet h.quiet
  have hsurv : ((s.at_ t).msTurn pow).survTurn = (s.at_ t).msTurn pow := by
    refine if_neg ?_
    rw [ht.env, State.flag, ht.get (f := Reg.ENV_CTL_SURVEY) not_turnReg_ENV_CTL]
    rcases hs with hs | hs
    · rw [show ((s.at_ t).get Reg.ENV_CTL_SURVEY != 0) = false from hs]
      simp
    · simp [hs]
  rw [hw.applyUnit_env, hw.afterPend, hsurv] at hx
  exact does_doneW hx hw

/-- The next interval begins. -/
def State.nextInterval (s : State) : State := { s with env := { s.env with interval := s.now, busy := [], blankMask := 0, clips := 0 } }

theorem State.msTurn_run {s : State} (pow : List ChanPow) (h : s.env.st = .run) : s.msTurn pow = (s.floorsUpd pow).nextInterval := by
  have hf : (s.floorsUpd pow).env = s.env := by rw [(s.floorsUpd_only pow).rest]
  have hoff : ¬ s.env.st = .off := by simp [h]
  have hsurv : ¬ ((s.floorsUpd pow).env.st = .survey && (s.floorsUpd pow).env.interval + 40000 ≤ (s.floorsUpd pow).now) = true := by
    simp [hf, h]
  unfold State.msTurn
  dsimp only
  rw [if_neg hoff, if_neg hsurv]
  rfl

theorem State.msTurn_survey {s : State} (pow : List ChanPow) (h : s.env.st = .survey) (hn : s.env.interval + 40000 ≤ s.now) :
    s.msTurn pow = ((s.floorsUpd pow).survWrite pow).nextInterval := by
  have hf : (s.floorsUpd pow).env = s.env ∧ (s.floorsUpd pow).now = s.now := by
    rw [(s.floorsUpd_only pow).rest]
    exact ⟨rfl, rfl⟩
  have hoff : ¬ s.env.st = .off := by simp [h]
  have hsurv : ((s.floorsUpd pow).env.st = .survey && (s.floorsUpd pow).env.interval + 40000 ≤ (s.floorsUpd pow).now) = true := by
    simp [hf, h, hn]
  unfold State.msTurn
  dsimp only
  rw [if_neg hoff, if_pos hsurv]
  rfl

end Sys2Proof.Machine
end

section
/-! SUPPORT. The bytes of a SURVEY snapshot (R115, R116) and what writing it changes beside them. -/

namespace Sys2Proof.Machine

/-! ### Slices -/

theorem State.bytes_slice (s : State) (a : Nat) {i j n : Nat} (h : i + j ≤ n) : ((s.bytes a n).drop i).take j = s.bytes (a + i) j := by
  unfold State.bytes
  refine List.ext_getElem (by simp; omega) fun k _ _ => ?_
  simp [Nat.add_assoc]

/-- Blocks of one length are cut out of their concatenation by their number. -/
theorem flatMap_slice {α β : Type} {f : α → List β} {n : Nat} (hf : ∀ a, (f a).length = n) (l : List α) {k : Nat} (hk : k < l.length) :
    ((l.flatMap f).drop (n * k)).take n = f l[k] := by
  induction l generalizing k with
  | nil => simp at hk
  | cons a l ih =>
    rw [List.flatMap_cons]
    cases k with
    | zero => exact List.take_left' (hf a)
    | succ k =>
      rw [Nat.mul_succ, Nat.add_comm, ← List.drop_drop, List.drop_left' (hf a)]
      exact ih (by simpa using hk)

theorem flatMap_length_of {α β : Type} {f : α → List β} {n : Nat} (hf : ∀ a, (f a).length = n) (l : List α) :
    (l.flatMap f).length = n * l.length := by
  rw [List.length_flatMap, List.map_congr_left fun a _ => hf a]
  simp [Nat.mul_comm]

/-! ### The snapshot -/

/-- The two bytes of head that flags fill, and the two that stand empty. -/
def State.survFlags (s : State) : List Byte :=
  [BitVec.ofNat 8 (b2n (s.blankSubs != 0) + 2 * (s.env.clips % 4)), BitVec.ofNat 8 (s.tapOf + 4 * s.env.active), 0, 0]

theorem State.survBytes_eq (s : State) (pow : List ChanPow) : s.survBytes pow =
    (leBytes 8 (s.env.interval / 40) ++ leBytes 4 (s.reg Reg.ENV_SVSTAT).toNat) ++
      (s.survFlags ++ (List.range 128).flatMap fun k => s.survHalves k pow) := by
  unfold State.survBytes State.survFlags
  simp only [List.append_assoc]

theorem State.survHalves_length (s : State) (pow : List ChanPow) (k : Nat) : (s.survHalves k pow).length = 4 := by
  unfold State.survHalves
  dsimp only
  split
  · split
    · rw [List.length_append, leBytes_length, leBytes_length]
    · rfl
  · rfl

/-- A channel outside the span, or without a power, has no halves. -/
theorem State.survHalves_none {s : State} {pow : List ChanPow} {k : Nat}
    (h : s.inSpan (k / 8) = false ∨ pow.find? (fun p => p.chan = k) = none) : s.survHalves k pow = [0, 0x80, 0, 0x80] := by
  unfold State.survHalves
  dsimp only
  rcases h with h | h
  · rw [h]
    split <;> rfl
  · rw [h]
    rfl

theorem State.survBytes_length (s : State) (pow : List ChanPow) : (s.survBytes pow).length = 528 := by
  rw [State.survBytes_eq]
  simp [State.survFlags, flatMap_length_of (s.survHalves_length pow), -List.length_flatMap]

/-- The snapshot stands at `a`. -/
structure SnapAt (s u : State) (a : Nat) (pow : List ChanPow) : Prop where
  bytes : u.bytes a 528 = s.survBytes pow

theorem SnapAt.head {s u : State} {a : Nat} {pow : List ChanPow} (h : SnapAt s u a pow) :
    u.bytes a 12 = leBytes 8 (s.env.interval / 40) ++ leBytes 4 (s.reg Reg.ENV_SVSTAT).toNat := by
  have hs := u.bytes_slice a (show 0 + 12 ≤ 528 by decide)
  rw [h.bytes, State.survBytes_eq] at hs
  exact hs.symm.trans (List.take_left' (by simp))

theorem SnapAt.halves {s u : State} {a : Nat} {pow : List ChanPow} (h : SnapAt s u a pow) {k : Nat} (hk : k < 128) :
    u.bytes (a + 16 + 4 * k) 4 = s.survHalves k pow := by
  have hs := u.bytes_slice a (show (16 + 4 * k) + 4 ≤ 528 by omega)
  have hhead : (leBytes 8 (s.env.interval / 40) ++ leBytes 4 (s.reg Reg.ENV_SVSTAT).toNat ++ s.survFlags).length = 16 := by
    simp [State.survFlags]
  rw [h.bytes, State.survBytes_eq, ← List.append_assoc, ← List.drop_drop, List.drop_left' hhead,
    flatMap_slice (s.survHalves_length pow) (List.range 128) (by simpa using hk), List.getElem_range, ← Nat.add_assoc] at hs
  exact hs.symm

theorem SnapAt.empty {s u : State} {a : Nat} {pow : List ChanPow} (h : SnapAt s u a pow) {k : Nat} (hk : k < 128)
    (hn : s.inSpan (k / 8) = false ∨ pow.find? (fun p => p.chan = k) = none) : u.word (a + 16 + 4 * k) = 0x80008000 := by
  unfold State.word
  rw [h.halves hk, State.survHalves_none hn]
  decide

end Sys2Proof.Machine
end

section
/-! SUPPORT. Registers that a device write to radio memory, and an event that feeds no task, leave. -/

namespace Sys2Proof.Machine

/-- A bank that overlaps a range in radio memory is one of radio memory. -/
theorem radio_bank {a b : Nat} (h : 0x21000000 ≤ a) (hb : a < bankBase b + 0x10000) : 16 ≤ b := by
  unfold bankBase at hb
  split at hb <;> omega

theorem State.wakeRange_radio_reg (s : State) {a n x : Nat} (h : 0x21000000 ≤ a) (hx : x ≠ Reg.MEMC_RBANKCTL) :
    (s.wakeRange a n).reg x = s.reg x := by
  have hstep : ∀ b ∈ List.range 20, ∀ t : State, (State.wakeStepOf a n t b).reg x = t.reg x := fun b hb t => by
    unfold State.wakeStepOf
    split
    · rename_i hin
      simp only [Bool.and_eq_true, decide_eq_true_eq] at hin
      exact t.wakeBank_radio_reg (bankOf_of_mem (List.mem_range.1 hb) (Nat.le_refl _) (by omega)) (radio_bank h hin.1) hx
    · rfl
  rw [State.wakeRange_eq]
  generalize State.wakeStepOf a n = f at *
  generalize List.range 20 = l at *
  induction l generalizing s with
  | nil => rfl
  | cons b l ih => rw [List.foldl_cons, ih _ fun d hd => hstep d (List.mem_cons_of_mem _ hd), hstep b (by simp)]

theorem State.devPut_regs (s : State) (a : Nat) (bs : List Byte) : (s.devPut a bs).regs = s.regs := by
  unfold State.devPut
  split
  · exact s.setBytes_regs a bs
  · refine foldl_same State.regs (fun t p => ?_) _ s
    split <;> rfl

theorem State.devWrite_radio_reg (s : State) {a x : Nat} (bs : List Byte) (h : 0x21000000 ≤ a) (hx : x ≠ Reg.MEMC_RBANKCTL) :
    (s.devWrite a bs).reg x = s.reg x := by
  rw [State.devWrite_eq]
  have hm := (State.muddy_beside (((s.wakeRange a bs.length).devPut a bs).snoopBoth a bs.length) a bs.length).regs
  have hregs : ((((s.wakeRange a bs.length).devPut a bs).snoopBoth a bs.length).muddy a bs.length).regs = (s.wakeRange a bs.length).regs :=
    hm.trans (State.devPut_regs _ _ _)
  exact (congrArg (fun r => sget regReset r x) hregs).trans (s.wakeRange_radio_reg h hx)

/-- An event on a line that feeds no task writes no register but the watch flags. -/
theorem State.publishHw_reg {s : State} {l x : Nat} (h : s.get (Reg.EVL_LINECFG_SUB l) = 0) (hx : ∀ i < 3, x ≠ Reg.EVL_WATCH i) :
    (s.publishHw l 0).reg x = s.reg x := by
  have hp : s.publishHw l 0 = s.publish l 0 := by
    unfold State.publishHw
    dsimp only
    rw [h, show s.inputOpen 0 = false from rfl]
    simp
  rw [hp]
  unfold State.publish
  split
  · rfl
  · rename_i hl
    rw [if_neg (Nat.not_lt_zero _)]
    have hw : x ≠ Reg.EVL_WATCH (l / 32) := hx _ (by omega)
    have hline : Reg.EVL_LINECFG l ≠ Reg.EVL_WATCH (l / 32) := by
      unfold Reg.EVL_LINECFG Reg.EVL_WATCH
      omega
    have hsub : (s.put (watchBit l) 1).get (Reg.EVL_LINECFG_SUB l) = 0 := (s.put_get_ne _ _ _ hline).trans h
    dsimp only
    split
    · rw [h]
      rfl
    · split
      · rw [State.postBoth_get, hsub]
        exact s.put_reg_ne _ _ hw
      · rw [hsub]
        exact s.put_reg_ne _ _ hw

theorem Posted.byte {s t : State} (h : Posted s t) (x : Nat) : t.byte x = s.byte x := by
  unfold State.byte
  rw [h]

end Sys2Proof.Machine
end

section
/-! SUPPORT. SURVEY (R115, R117): the snapshot is written and the sequence advances. -/

namespace Sys2Proof.Machine

/-- The buffer of the next snapshot (R115). -/
def State.survAddr (s : State) : Nat := 16 * s.get Reg.ENV_SVBASE_ADDR + 0x210 * ((s.reg Reg.ENV_SVSTAT).toNat % 2)

/-- What a snapshot leaves. -/
structure Surveyed (s u : State) (pow : List ChanPow) : Prop where
  snap : SnapAt s u s.survAddr pow
  stat : u.reg Reg.ENV_SVSTAT = s.reg Reg.ENV_SVSTAT + 1
  byte : ∀ b, b < s.survAddr ∨ s.survAddr + 528 ≤ b → u.byte b = s.byte b
  env : u.env = s.env
  now : u.now = s.now

/-- Where every bank of the radio memory is ON and not bad, it takes what is written. -/
theorem State.takes_radio {s : State} (hb : ∀ b, 16 ≤ b → b < 20 → s.bank b = .on ∧ s.bankBad b = false) {x : Nat} (h : 0x21000000 ≤ x)
    (h' : x < 0x21040000) : s.takes x = true := by
  obtain ⟨hon, hbad⟩ := hb (16 + (x - 0x21000000) / 0x10000) (by omega) (by omega)
  unfold State.takes State.bankRefuses
  rw [region_radio h h', bankOf_radio h h']
  dsimp only
  rw [hon, hbad]
  rfl

theorem svstat_ne_rbankctl_watch : Reg.ENV_SVSTAT ≠ Reg.MEMC_RBANKCTL ∧ ∀ i < 3, Reg.ENV_SVSTAT ≠ Reg.EVL_WATCH i := by decide

theorem State.survWrite_surveyed {s : State} (hs : s.canonical) (pow : List ChanPow) (hl : s.get (Reg.EVL_LINECFG_SUB (s.outLine 1)) = 0)
    (h0 : 0x21000000 ≤ s.survAddr) (h1 : s.survAddr + 528 ≤ 0x21040000) (ho : s.txqOver = false)
    (hb : ∀ b, 16 ≤ b → b < 20 → s.bank b = .on ∧ s.bankBad b = false) : Surveyed s (s.survWrite pow) pow := by
  have hlen := s.survBytes_length pow
  have hx : s.survWrite pow = (let t := s.devWrite s.survAddr (s.survBytes pow)
    (t.setReg Reg.ENV_SVSTAT (t.reg Reg.ENV_SVSTAT + 1)).output 1 0) := rfl
  have hbytes := State.devWrite_bytes hs ho (State.takes_radio hb h0 (by omega)) (bs := s.survBytes pow)
    (State.takes_radio hb (x := s.survAddr + (s.survBytes pow).length - 1) (by omega) (by omega))
  have hout := fun x => State.devWrite_byte_out ho (a := s.survAddr) (x := x) (bs := s.survBytes pow)
  have hstat := s.devWrite_radio_reg (s.survBytes pow) h0 svstat_ne_rbankctl_watch.1
  have ht := s.devWrite_turned s.survAddr (s.survBytes pow)
  have hd := s.devWrite_devRest s.survAddr (s.survBytes pow)
  have hcanon := (s.devWrite_keeps s.survAddr (s.survBytes pow)).canonical hs
  rw [hlen] at hbytes hout
  generalize s.devWrite s.survAddr (s.survBytes pow) = t at *
  have hu := ht.trans (t.setReg_turned (t.reg Reg.ENV_SVSTAT + 1) (.inr (.inl rfl)))
  have hself : (t.setReg Reg.ENV_SVSTAT (t.reg Reg.ENV_SVSTAT + 1)).reg Reg.ENV_SVSTAT = t.reg Reg.ENV_SVSTAT + 1 :=
    t.setReg_reg_self hcanon.regs _ _
  have hbyte : ∀ x, (t.setReg Reg.ENV_SVSTAT (t.reg Reg.ENV_SVSTAT + 1)).byte x = t.byte x := fun _ => rfl
  have henv : (t.setReg Reg.ENV_SVSTAT (t.reg Reg.ENV_SVSTAT + 1)).env = s.env := by rw [hd]; rfl
  have hnow : (t.setReg Reg.ENV_SVSTAT (t.reg Reg.ENV_SVSTAT + 1)).now = s.now := hu.now
  dsimp only at hx
  rw [hx]
  generalize t.setReg Reg.ENV_SVSTAT (t.reg Reg.ENV_SVSTAT + 1) = w at *
  have hline : w.get (Reg.EVL_LINECFG_SUB (w.outLine 1)) = 0 := by
    rw [show w.outLine 1 = s.outLine 1 from hu.get not_turnReg_PUBCFG, hu.get (not_turnReg_LINECFG (State.outLine_lt s 1)), hl]
  have hp : Posted w (w.output 1 0) := State.publishHw_posted hline
  have hreg : (w.output 1 0).reg Reg.ENV_SVSTAT = w.reg Reg.ENV_SVSTAT := State.publishHw_reg hline svstat_ne_rbankctl_watch.2
  refine ⟨⟨?_⟩, ?_, fun x hx => ?_, ?_, ?_⟩
  · exact (State.bytes_congr fun x _ _ => (hp.byte x).trans (hbyte x)).trans hbytes
  · rw [hreg, hself, hstat]
  · rw [hp.byte, hbyte, hout x hx]
  · rw [hp]; exact henv
  · rw [hp]; exact hnow

/-! ### The two ends of an interval -/

section
variable {v u : State} {pow : List ChanPow} (hset : Settles (v.msTurn pow) u)
include hset

theorem Settles.floors (hrun : v.env.st = .run) : u.env.interval = v.now ∧ v.regsBut u ((List.range 128).map Reg.ENV_NF) ∧ u.mem = v.mem := by
  have hf := v.floorsUpd_only pow
  rw [State.msTurn_run pow hrun] at hset
  generalize v.floorsUpd pow = m at *
  have hrest : m.now = v.now ∧ m.mem = v.mem := by
    rw [hf.rest]
    exact ⟨rfl, rfl⟩
  refine ⟨?_, fun a ha => (hset.reg a).trans (hf.other a ha), hset.mem.trans hrest.2⟩
  rw [hset.env]
  exact hrest.1

variable (hv : v.canonical)
include hv

theorem Settles.floorAged (hrun : v.env.st = .run) {k : Nat} (hk : k < 128)
    (h : v.inSpan (k / 8) = false ∨ pow.find? (fun p => p.chan = k) = none) : FloorAged k v u := by
  rw [State.msTurn_run pow hrun] at hset
  obtain ⟨hage, hfloor, hvalid⟩ := State.floorsUpd_ages hv hk h
  generalize v.floorsUpd pow = m at *
  exact ⟨(hset.get _).trans hage, (hset.get _).trans hfloor, (hset.get _).trans hvalid⟩

theorem Settles.floorTaken (hrun : v.env.st = .run) {k : Nat} {p : ChanPow} {x : Int} (hk : k < 128) (ha : v.env.active = 1)
    (hf : v.env.blankFrom = none) (hb : v.env.blankMask = 0) (hy : v.env.busy = [])
    (hl : ∀ j, (v.lane j).st ≠ .preamble ∧ (v.lane j).st ≠ .frame) (hspan : v.inSpan (k / 8) = true)
    (hp : pow.find? (fun p => p.chan = k) = some p) (hx : p.chainA.min? = some x) : FloorTaken k x v u := by
  rw [State.msTurn_run pow hrun] at hset
  obtain ⟨hfloor, hage, hvalid⟩ := State.floorsUpd_takes hv hk hrun ha hf hb hy hl hspan hp hx
  generalize v.floorsUpd pow = m at *
  exact ⟨(hset.get _).trans hfloor, (hset.get _).trans hage, (hset.flag _).trans hvalid⟩

theorem Settles.surveyed (hst : v.env.st = .survey) (hn : v.env.interval + 40000 ≤ v.now)
    (hl : v.get (Reg.EVL_LINECFG_SUB (v.outLine 1)) = 0) (h0 : 0x21000000 ≤ v.survAddr) (h1 : v.survAddr + 528 ≤ 0x21040000)
    (ho : v.txqOver = false) (hb : ∀ b, 16 ≤ b → b < 20 → v.bank b = .on ∧ v.bankBad b = false) :
    u.env.st = .survey ∧ u.env.interval = v.now ∧ SnapAt (v.floorsUpd pow) u v.survAddr pow ∧
      u.reg Reg.ENV_SVSTAT = v.reg Reg.ENV_SVSTAT + 1 ∧ ∀ b, b < v.survAddr ∨ v.survAddr + 528 ≤ b → u.byte b = v.byte b := by
  rw [State.msTurn_survey pow hst hn] at hset
  have hf := v.floorsUpd_only pow
  have hturned := v.floorsUpd_turned pow
  generalize v.floorsUpd pow = m at *
  have hsvstat : m.reg Reg.ENV_SVSTAT = v.reg Reg.ENV_SVSTAT := hf.other _ (not_ENV_NF (by decide))
  have haddr : m.survAddr = v.survAddr := by
    unfold State.survAddr
    rw [hsvstat, hf.get (by decide)]
  have hrest : m.env = v.env ∧ m.now = v.now ∧ (∀ b, m.bank b = v.bank b) ∧ ∀ b, m.byte b = v.byte b := by
    rw [hf.rest]
    exact ⟨rfl, rfl, fun _ => rfl, fun _ => rfl⟩
  obtain ⟨henv, hnow, hbank, hbyte⟩ := hrest
  have hline : m.get (Reg.EVL_LINECFG_SUB (m.outLine 1)) = 0 := by
    rw [show m.outLine 1 = v.outLine 1 from hturned.get not_turnReg_PUBCFG, hturned.get (not_turnReg_LINECFG (State.outLine_lt v 1)), hl]
  have hsv : Surveyed m (m.survWrite pow) pow :=
    State.survWrite_surveyed (hf.keeps.canonical hv) pow hline (haddr ▸ h0) (haddr ▸ h1) (hturned.txqOver.trans ho) fun b hlo hhi =>
      ⟨(hbank b).trans (hb b hlo hhi).1, (congrArg (fun w => bitOf w b) (hturned.reg _ not_turnReg_TXQBASE.2.2)).trans (hb b hlo hhi).2⟩
  obtain ⟨⟨hbytes⟩, hstat, hout, henv', hnow'⟩ := hsv
  rw [haddr] at hbytes hout
  generalize m.survWrite pow = w at *
  refine ⟨?_, ?_, ⟨(State.bytes_congr fun x _ _ => hset.byte x).trans hbytes⟩, ?_, fun x hx => ?_⟩
  · rw [hset.env]
    exact (congrArg Env.st (henv'.trans henv)).trans hst
  · rw [hset.env]
    exact hnow'.trans hnow
  · exact (hset.reg _).trans (hstat.trans (by rw [hsvstat]))
  · exact (hset.byte x).trans ((hout x hx).trans (hbyte x))

end

end Sys2Proof.Machine
end

section
/-! OBLIGATIONS. The noise floors and the snapshot at the 1 ms boundary. -/

open Sys2Proof Sys2Proof.Machine

/-- Settles O28: the turn of the interval is a fold over the channels in which the step for one channel writes its own register alone
(`State.floorsUpd_at`), and in SURVEY one device write of 528 bytes (`State.survWrite_surveyed`). -/
theorem noiseFloorsAndSnapshots : Obligations.NoiseFloorsAndSnapshots := by
  unfold Obligations.NoiseFloorsAndSnapshots
  intro s t pow
  have hturn := msBoundary_turns (s := s) (t := t) (pow := pow)
  generalize s.at_ t = v at *
  intro _ hv _
  refine ⟨fun hrun hsurv hact hfrom hmask hbusy hlanes => ?_, fun hst _ hn hl h0 h1 ho hb => ?_⟩
  · obtain ⟨u, hu, hset⟩ := hturn hv (.inl (by rw [hrun]; decide)) (.inl hsurv)
    obtain ⟨hival, hregs, hmem⟩ := hset.floors hrun
    refine ⟨u, hu, hival, hregs, hmem, fun k hk => ⟨fun h => ?_, fun p x hspan hp _ hx => ?_⟩⟩
    · obtain ⟨hage, hfloor, hvalid⟩ := hset.floorAged hv.canonical hrun hk h
      exact ⟨hage, hfloor, hvalid⟩
    · obtain ⟨hfloor, hage, hvalid⟩ := hset.floorTaken hv.canonical hrun hk hact hfrom hmask hbusy hlanes hspan hp hx
      refine ⟨hfloor.trans ?_, hage, hvalid⟩
      simp only [State.floorOf, Bool.and_eq_true]
      rfl
  · obtain ⟨u, hu, hset⟩ := hturn hv (.inr hl) (.inr (by rw [hst]; decide))
    obtain ⟨hst', hival, hsnap, hstat, hout⟩ := hset.surveyed hv.canonical hst hn hl h0 h1 ho hb
    have hf := v.floorsUpd_only pow
    refine ⟨u, hu, hst', hival, ?_, fun k hk h => hsnap.empty hk ((hf.inSpan _).symm ▸ h), hstat, hout⟩
    refine hsnap.head.trans ?_
    rw [hf.other _ (not_ENV_NF (by decide)), hf.rest]

end

section
/-! SUPPORT. A count at a lane, and a lane that returns to rest with what it keeps (R94 to R96, R99). -/

namespace Sys2Proof.Machine

/-! ### Counts -/

/-- A count rises by one and stops at the highest value of its field. -/
theorem State.count_get {s : State} (hs : Swf regReset s.regs) (f : Field) (h : f.lo + f.width ≤ 32) :
    (s.count f).get f = min (2 ^ f.width - 1) (s.get f + 1) := by
  unfold State.count
  rw [s.put_get_self hs f _ h]
  refine Nat.mod_eq_of_lt ?_
  have := Nat.two_pow_pos f.width
  unfold satInc
  omega

/-- A lane's state at rest hangs on no register from the lanes' errors on. -/
theorem State.restState_of_regs {s t : State} (h : t = { s with regs := t.regs }) {k : Nat}
    (hr : ∀ a, a < Reg.ENV_LERR 0 → t.reg a = s.reg a) (hk : k < 128) : t.restState k = s.restState k := by
  have hheld : t.held (k / 8) = s.held (k / 8) := congrArg (fun w => bitOf w (k / 8)) (hr Reg.ENV_GHOLD_SET (by decide))
  have hen : t.laneEnabled k = s.laneEnabled k := by
    refine State.laneEnabled_of_regs (hr _ ?_) (hr _ ?_)
    · unfold Reg.ENV_GCFG Reg.ENV_LERR
      omega
    · unfold Reg.ENV_GMODE Reg.ENV_LERR
      omega
  have hrest : t.env = s.env ∧ t.rfe = s.rfe ∧ t.eng (k / 8) = s.eng (k / 8) ∧ t.laneMuted k = s.laneMuted k := by
    rw [h]
    exact ⟨rfl, rfl, rfl, rfl⟩
  obtain ⟨henv, hrfe, heng, hmuted⟩ := hrest
  have hne : ¬ k = 128 := by omega
  unfold State.restState
  rw [if_neg hne, if_neg hne, henv, hrfe, heng, hmuted, hheld, hen]

section
variable {k : Nat} (s : State) (f : Field) (hf : f.addr = Reg.ENV_LERR k)
include hf

theorem State.count_lerr_reg {a : Nat} (h : a ≠ Reg.ENV_LERR k) : (s.count f).reg a = s.reg a := s.put_reg_ne f _ (hf ▸ h)

theorem State.count_lerr_restState {j : Nat} (hj : j < 128) : (s.count f).restState j = s.restState j :=
  State.restState_of_regs rfl (fun _ h => s.count_lerr_reg f hf (by unfold Reg.ENV_LERR at h ⊢; omega)) hj

theorem State.count_lerr_quiet {s : State} (q : s.Quiet) : (s.count f).Quiet :=
  State.setReg_quiet q _ (by rw [hf]; unfold Reg.ENV_LERR Reg.CFG_PEND; omega) (by rw [hf]; unfold Reg.ENV_LERR Reg.RFE_SPCTL; omega)

end

/-! ### A lane at rest -/

/-- A lane at rest has its state, and the time of its HUNT; it keeps all else. -/
theorem State.laneRest_keeps_lane {s : State} (hs : Swf (fun _ => Lane.reset) s.lanes) (k : Nat) :
    ∃ n, (s.laneRest k).lane k = { s.lane k with st := s.restState k, since := n } := by
  have hl : ((s.markBusy k).spHunt k).lanes = s.lanes := (State.spHunt_lanes _ k).trans (s.markBusy_lanes k)
  have ht : LaneTurned s ((s.markBusy k).spHunt k) := (s.markBusy_turned k).trans (State.spHunt_turned _ k)
  have heq : s.laneRest k = ((s.markBusy k).spHunt k).updLane k (((s.markBusy k).spHunt k).restLane k) := rfl
  have hlane : ((s.markBusy k).spHunt k).lane k = s.lane k := congrArg (fun l => sget (fun _ => Lane.reset) l k) hl
  rw [heq]
  generalize (s.markBusy k).spHunt k = t at *
  rw [State.updLane_lane_self (hl ▸ hs), ← hlane, ← ht.restState k]
  exact ⟨_, rfl⟩

theorem State.latch_restState {s : State} (hs : Swf (fun _ => Ctx.reset) s.ctxs) (e c code j : Nat) :
    (s.latch e c code).restState j = s.restState j := by
  have hmuted : ∀ j, (s.latch e c code).laneMuted j = s.laneMuted j := fun j => by
    unfold State.laneMuted
    dsimp only
    rw [(State.latch_goes hs e c code _ _).st]
  unfold State.restState
  rw [hmuted, hmuted]
  rfl

/-- A lane that something took out of its attempt or frame: `l` is what stays of it. -/
structure LaneAborted (k : Nat) (l : Lane) (s t : State) : Prop where
  lane : ∃ n, t.lane k = { l with st := s.restState k, since := n }
  bit : bitOf (t.ctx (engOf k) (ctxOf k)).lat 17 = true

theorem State.laneOff_aborts {s : State} (hl : Swf (fun _ => Lane.reset) s.lanes) (hc : Swf (fun _ => Ctx.reset) s.ctxs) (k : Nat) (l : Lane) :
    LaneAborted k l s (((s.setLane k l).latch (engOf k) (ctxOf k) 17).laneRest k) := by
  have hrest : ((s.setLane k l).latch (engOf k) (ctxOf k) 17).restState k = s.restState k :=
    (State.latch_restState (s := s.setLane k l) hc _ _ 17 k).trans ((show Beside s (s.setLane k l) from rfl).restState k)
  have hlane : ((s.setLane k l).latch (engOf k) (ctxOf k) 17).lane k = l := State.setLane_lane_self hl k l
  refine ⟨?_, ?_⟩
  · obtain ⟨n, hn⟩ := State.laneRest_keeps_lane (s := (s.setLane k l).latch (engOf k) (ctxOf k) 17) (Swf_sput hl _ _) k
    exact ⟨n, by rw [hn, hlane, hrest]⟩
  · rw [(State.laneRest_turned _ k).ctx]
    exact State.latch_self (s := s.setLane k l) hc _ _ (by decide)

/-- An attempt before its SFD is given up: the lane's frames stay. -/
theorem State.abortLane_attempt {s : State} (hs : s.canonical) {k : Nat} (why : Nat) (keep : Bool)
    (hf : (s.lane k).frames.find? Frame.open_ = none) (hp : (s.lane k).st = .preamble) :
    LaneAborted k { s.lane k with lastAbort := why } s (s.abortLane k why keep) := by
  have hd : s.deposit k = s := by
    unfold State.deposit
    dsimp only
    rw [hf]
  have hm := s.markBusy_turned k
  have hml := s.markBusy_lanes k
  unfold State.abortLane
  rw [hd]
  generalize s.markBusy k = m at *
  have hlane : m.lane k = s.lane k := congrArg (fun l => sget (fun _ => Lane.reset) l k) hml
  have ha := State.laneOff_aborts (s := m) (hml ▸ hs.lanes) (hm.ctxs ▸ hs.ctxs) k { m.lane k with st := .off, lastAbort := why }
  dsimp only
  rw [hlane, hf]
  dsimp only
  rw [if_pos hp]
  obtain ⟨⟨n, hn⟩, hbit⟩ := ha
  rw [hlane] at hn hbit
  exact ⟨⟨n, by rw [hn, hm.restState]⟩, hbit⟩

/-! ### An attempt or a frame abandoned -/

/-- What abandoning leaves (R96): `l` is what stays of the lane. -/
structure Abandoned (k : Nat) (l : Lane) (s t : State) : Prop where
  quiet : t.Quiet
  aborted : LaneAborted k l s t
  count : t.get (Reg.ENV_LERR_ABANDON k) = min 255 (s.get (Reg.ENV_LERR_ABANDON k) + 1)
  other : s.regsBut t [Reg.ENV_LERR k]

/-- Abandoning counts, and then takes the lane out of its attempt or frame. -/
theorem State.abandon_of_abort {s : State} (h : s.Calm) {k : Nat} (hk : k < 128) {l : Lane}
    (ha : LaneAborted k l (s.count (Reg.ENV_LERR_ABANDON k)) ((s.count (Reg.ENV_LERR_ABANDON k)).abortLane k 3 false)) :
    Abandoned k l s (s.abandon k) := by
  have hx : s.abandon k = (s.count (Reg.ENV_LERR_ABANDON k)).abortLane k 3 false := by
    unfold State.abandon
    rw [if_neg (by omega)]
  have hg := (s.count (Reg.ENV_LERR_ABANDON k)).abortLane_gone k 3 false
  have hrest := s.count_lerr_restState (Reg.ENV_LERR_ABANDON k) rfl hk
  have hreg : ∀ a, ((s.count (Reg.ENV_LERR_ABANDON k)).abortLane k 3 false).reg a = (s.count (Reg.ENV_LERR_ABANDON k)).reg a :=
    fun a => congrArg (fun r => sget regReset r a) hg.regs
  rw [hx]
  refine ⟨hg.quiet (State.count_lerr_quiet _ rfl h.quiet), ⟨?_, ha.bit⟩, ?_, fun a hn => ?_⟩
  · obtain ⟨n, hn⟩ := ha.lane
    exact ⟨n, by rw [hn, hrest]⟩
  · exact (congrArg (fun w => fget w (Reg.ENV_LERR_ABANDON k)) (hreg _)).trans
      (State.count_get h.canonical.regs _ (show 24 + 8 ≤ 32 by decide))
  · exact (hreg a).trans (s.count_lerr_reg _ rfl (by simpa using hn))

/-- A count keeps the canonical form. -/
theorem State.count_canonical {s : State} (h : s.canonical) (f : Field) : (s.count f).canonical :=
  ⟨h.mem, s.put_Swf h.regs f _, h.shadow, h.ctxs, h.engs, h.lanes, h.tmrs, h.banks⟩

theorem State.abandon_attempt {s : State} (h : s.Calm) {k : Nat} (hk : k < 128) (hf : (s.lane k).frames.find? Frame.open_ = none)
    (hp : (s.lane k).st = .preamble) : Abandoned k { s.lane k with lastAbort := 3 } s (s.abandon k) :=
  State.abandon_of_abort h hk
    (State.abortLane_attempt (s := s.count (Reg.ENV_LERR_ABANDON k)) (State.count_canonical h.canonical _) 3 false hf hp)

theorem Settles.lat {v u : State} (h : Settles v u) (e c : Nat) : (u.ctx e c).lat = (v.ctx e c).lat := by
  rcases h.ctx e c with hc | ⟨-, g, hc⟩ <;> rw [hc]

/-- What abandoning leaves is there after the command. -/
theorem Abandoned.settles {k : Nat} {l : Lane} {s t u : State} (hk : k < 128) (h : Abandoned k l s t) (hset : Settles t u) :
    (u.lane k).st = s.restState k ∧ (u.lane k).frames = l.frames ∧ (u.lane k).lastAbort = l.lastAbort ∧
      bitOf (u.ctx (k / 8) (k % 8)).lat 17 = true ∧
      u.get (Reg.ENV_LERR_ABANDON k) = min 255 (s.get (Reg.ENV_LERR_ABANDON k) + 1) ∧ s.regsBut u [Reg.ENV_LERR k] := by
  obtain ⟨n, hn⟩ := h.aborted.lane
  have hbit := h.aborted.bit
  rw [show engOf k = k / 8 from if_neg (by omega), show ctxOf k = k % 8 from if_neg (by omega), ← hset.lat] at hbit
  rw [hset.lane, hn]
  exact ⟨rfl, rfl, rfl, hbit, (hset.get _).trans h.count, fun a ha => (hset.reg a).trans (h.other a ha)⟩

end Sys2Proof.Machine
end

section
/-! SUPPORT. AGC (R90 to R92), preamble detection (R95, R433) and chain choice (R97) as changes of the state. -/

namespace Sys2Proof.Machine

/-! ### AGC -/

theorem Env.setExp_exp (e : Env) (c v : Nat) : (e.setExp c v).exp c = v := by
  unfold Env.setExp Env.exp
  split <;> rfl

theorem Env.setExp_exp_other (e : Env) {c : Nat} (hc : c < 2) (v : Nat) : (e.setExp c v).exp (1 - c) = e.exp (1 - c) := by
  unfold Env.setExp Env.exp
  interval_cases c <;> rfl

/-- The exponent of a chain rises to the value found. -/
def State.gainDown (s : State) (c e : Nat) : State := { s with env := s.env.setExp c (max (s.env.exp c) (min 15 e)) }

theorem agcGainDown_free {s : State} {t c e : Nat} {clip : Bool} (hc : c < 2) (hs : (s.at_ t).sampling = true)
    (ha : (s.at_ t).env.active.testBit c = true) (hh : (s.at_ t).env.agcHeld = false) :
    exec (.agcGainDown c e clip t) s =
      done (if clip && ((s.at_ t).gainDown c e).env.exp c = 15 then ((s.at_ t).gainDown c e).clipSet c else (s.at_ t).gainDown c e) := by
  show done (if (s.at_ t).sampling && (s.at_ t).env.active.testBit (c % 2) then _ else _) = _
  rw [Nat.mod_eq_of_lt hc, hs, ha, hh]
  rfl

theorem agcGainDown_held {s : State} {t c e : Nat} (hh : (s.at_ t).env.agcHeld = true) :
    Does (.agcGainDown c e false t) s (s.at_ t) := by
  refine does_done ?_
  show done (if (s.at_ t).sampling && (s.at_ t).env.active.testBit (c % 2) then _ else _) = _
  rw [hh]
  exact congrArg done (ite_self _)

theorem agcGainUp_free {s : State} {t c : Nat} (hc : c < 2) (hs : (s.at_ t).sampling = true)
    (ha : (s.at_ t).env.active.testBit c = true) (hh : (s.at_ t).env.agcHeld = false) :
    exec (.agcGainUp c t) s = done { s.at_ t with env := (s.at_ t).env.setExp c ((s.at_ t).env.exp c - 1) } := by
  show done (if (s.at_ t).sampling && (s.at_ t).env.active.testBit (c % 2) && !(s.at_ t).env.agcHeld then _ else _) = _
  rw [Nat.mod_eq_of_lt hc, hs, ha, hh]
  rfl

theorem agcGainUp_held {s : State} {t c : Nat} (hh : (s.at_ t).env.agcHeld = true) : Does (.agcGainUp c t) s (s.at_ t) := by
  refine does_done ?_
  show done (if (s.at_ t).sampling && (s.at_ t).env.active.testBit (c % 2) && !(s.at_ t).env.agcHeld then _ else _) = _
  rw [hh, Bool.not_true, Bool.and_false]
  rfl

theorem State.clipSet_flag {s : State} (hs : Swf regReset s.regs) (c : Nat) :
    (s.clipSet c).flag (if c = 0 then Reg.ENV_STATUS_CLIPA else Reg.ENV_STATUS_CLIPB) = true := by
  have h := fun f hf => State.put_get_self { s with env := { s.env with clips := s.env.clips ||| 2 ^ (c % 2) } } hs f 1 hf
  unfold State.clipSet
  split
  · exact congrArg (· != 0) (h Reg.ENV_STATUS_CLIPA (by decide))
  · exact congrArg (· != 0) (h Reg.ENV_STATUS_CLIPB (by decide))

theorem State.clipSet_reg (s : State) (c : Nat) {a : Nat} (h : a ≠ Reg.ENV_STATUS) : (s.clipSet c).reg a = s.reg a :=
  State.put_reg_ne _ _ _ (by split <;> exact h)

/-! ### Preamble detection -/

theorem State.laneFmt_lane (s : State) {k : Nat} (hk : k < 128) :
    s.laneFmt k = (if s.std (k / 8) then 1 else 0, if s.std (k / 8) then k / 8 else k) := by
  unfold State.laneFmt
  rw [if_neg (by omega)]
  split <;> rfl

theorem State.spPhase_lane (s : State) {k : Nat} (hk : k < 128) (d : Nat) : s.spPhase k d = s := by
  unfold State.spPhase
  rw [decide_eq_false (by omega)]
  rfl

theorem State.mayDetect_of {s : State} {k : Nat} (hx : s.tb.src = .xtal) (hp : s.tb.pll = true) (hh : (s.lane k).st = .hunt)
    (ht : (s.lane k).since + 2 * symTicks (s.laneFmt k).1 ≤ s.now) : s.mayDetect k = true := by
  unfold State.mayDetect State.airClock
  rw [hx, hp, hh, decide_eq_true ht]
  rfl

theorem preambleDetect_detects {s : State} {t k ch c0 c1 : Nat} (hk : k < 128) (hc : ch < 2) (hm : (s.at_ t).mayDetect k = true)
    (ha : (s.at_ t).env.active.testBit ch = true) (h0 : (s.at_ t).get (Reg.ENV_GCFG_PTHR (k / 8)) ≤ c0)
    (h1 : (s.at_ t).get (Reg.ENV_GCFG_PTHR (k / 8)) ≤ c1) : exec (.preambleDetect k ch c0 c1 t) s = doneW ((s.at_ t).detect k) := by
  refine congrArg doneW (if_pos ?_)
  rw [Nat.mod_eq_of_lt hc, hm, ha, decide_eq_true h0, decide_eq_true h1, decide_eq_true hk]
  rfl

theorem preambleDetect_below {s : State} {t k ch c0 c1 : Nat} (hq : (s.at_ t).Quiet)
    (h : c0 < (s.at_ t).get (Reg.ENV_GCFG_PTHR (k / 8)) ∨ c1 < (s.at_ t).get (Reg.ENV_GCFG_PTHR (k / 8))) :
    Does (.preambleDetect k ch c0 c1 t) s (s.at_ t) := by
  refine does_doneW (congrArg doneW (if_neg ?_)) hq
  simp only [Bool.and_eq_true, decide_eq_true_eq]
  omega

theorem spPreambleDetect_detects {s : State} {t c0 c1 : Nat} (hm : (s.at_ t).mayDetect 128 = true) (h0 : 96 ≤ c0) (h1 : 96 ≤ c1) :
    exec (.spPreambleDetect c0 c1 t) s = doneW ((s.at_ t).detect 128) := by
  refine congrArg doneW (if_pos ?_)
  rw [hm, decide_eq_true h0, decide_eq_true h1]
  rfl

theorem spPreambleDetect_below {s : State} {t c0 c1 : Nat} (hq : (s.at_ t).Quiet) (h : c0 < 96 ∨ c1 < 96) :
    Does (.spPreambleDetect c0 c1 t) s (s.at_ t) := by
  refine does_doneW (congrArg doneW (if_neg ?_)) hq
  simp only [Bool.and_eq_true, decide_eq_true_eq]
  omega

/-- The lane of an attempt that begins (R95, R101). -/
def State.attemptOf (s : State) (k : Nat) : Lane :=
  { s.lane k with
    st := .preamble, since := s.now, fmt := (s.laneFmt k).1, chan := (s.laneFmt k).2, chain := s.onlyChain k
    nfpre := toSigned 16 (s.get (Reg.ENV_NF_FLOOR (tuneOf (s.laneFmt k).1 (s.laneFmt k).2))), lastAbort := 0, fp := false }

theorem State.detect_takes {s : State} {k : Nat} (hb : s.noBuf k = false) : s.detect k = (s.setLane k (s.attemptOf k)).spPhase k 1 := by
  unfold State.detect
  rw [hb]
  rfl

theorem State.detect_noBuf {s : State} {k : Nat} (hk : k < 128) (hb : s.noBuf k = true) :
    s.detect k = (s.count (Reg.ENV_LERR_NOBUF k)).setLane k { s.lane k with since := s.now } := by
  unfold State.detect
  rw [hb, if_neg (show ¬ k = 128 by omega)]
  rfl

theorem State.spPhase_single (s : State) (d : Nat) : s.spPhase 128 d = s.rf fun r => { r with divst := if s.rfe.divst = 3 then 3 else d } := by
  unfold State.spPhase
  by_cases h : s.rfe.divst = 3
  · rw [h]
    show s = { s with rfe := { s.rfe with divst := 3 } }
    rw [← h]
  · rw [if_pos (by simp [h]), if_neg h]

/-! ### Chain choice -/

theorem chainChoice_does {s : State} {t k n a b : Nat} (hk : k < 128) (hp : ((s.at_ t).lane k).st = .preamble)
    (hc : ((s.at_ t).lane k).chain = none) :
    Does (.chainChoice k n a b t) s ((s.at_ t).setLane k { (s.at_ t).lane k with chain := some (if a < b then 1 else 0) }) := by
  refine does_done ?_
  show done (if ((s.at_ t).lane k).st = .preamble && ((s.at_ t).lane k).chain.isNone then State.spPhase (State.setLane _ k
    { (s.at_ t).lane k with chain := some (if k = 128 && n ≤ 1 then 0 else if a < b then 1 else 0) }) k 2 else _) = _
  rw [hp, hc, State.spPhase_lane _ hk, decide_eq_false (show ¬ k = 128 by omega)]
  rfl

end Sys2Proof.Machine
end

section
/-! SUPPORT. The SFD (R94, R96, R99, R160): the buffer that a frame takes, and what taking it leaves. -/

namespace Sys2Proof.Machine

theorem Lane.freeBuf_lt (l : Lane) : l.freeBuf < 2 := by
  unfold Lane.freeBuf
  split <;> decide

theorem State.setWords_byte_below (s : State) (a : Nat) (ws : List Word) {x : Nat} (h : x < a) : (s.setWords a ws).byte x = s.byte x := by
  induction ws generalizing s a with
  | nil => rfl
  | cons w ws ih => exact (ih _ _ (by omega)).trans (s.setWord_byte_out a w (.inl h))

theorem Beside.txqOver {s t : State} (h : Beside s t) : t.txqOver = s.txqOver := h.turned.txqOver

/-- The parse record is written where it stands and nowhere below. -/
theorem State.updLane_byte_below {s : State} (ho : s.txqOver = false) (k : Nat) (l : Lane) {x : Nat} (h : x < parseAddr k) :
    (s.updLane k l).byte x = s.byte x := by
  unfold State.updLane State.present
  rw [State.muddy_apart]
  · exact State.setWords_byte_below _ _ _ h
  · exact ((show Beside s (s.setLane k l) from rfl).trans (State.setWords_beside _ _ _)).txqOver.trans ho

/-- The state in which the buffer is clear. -/
def State.bufCleared (s : State) (k b : Nat) : State :=
  (((s.wakeRange (bufAddr k b) 320).wakeRange (parseAddr k) 16).setBytes (bufAddr k b) (List.replicate 256 0)).muddy (bufAddr k b) 256

/-- `t` is `s` but for a clear buffer and the banks that woke for it. -/
structure BufCleared (k b : Nat) (s t : State) : Prop where
  rest : DevRest s t
  turned : Turned s t
  keeps : Keeps s t
  zero : s.canonical → s.txqOver = false → ∀ i, i < 256 → t.byte (bufAddr k b + i) = 0
  regs : s.regsBut t [Reg.MEMC_RBANKCTL]

theorem State.bufCleared_clears (s : State) (k b : Nat) : BufCleared k b s (s.bufCleared k b) := by
  unfold State.bufCleared
  have hbuf : 0x21000000 ≤ bufAddr k b := by unfold bufAddr; omega
  have hparse : 0x21000000 ≤ parseAddr k := by unfold parseAddr; omega
  have hrest := (s.wakeRange_devRest (bufAddr k b) 320).trans (State.wakeRange_devRest _ (parseAddr k) 16)
  have hturned := (s.wakeRange_turned (bufAddr k b) 320).trans (State.wakeRange_turned _ (parseAddr k) 16)
  have hkeeps := (s.wakeRange_keeps (bufAddr k b) 320).transS (State.wakeRange_keeps _ (parseAddr k) 16)
  have hreg : ∀ a, a ≠ Reg.MEMC_RBANKCTL → ((s.wakeRange (bufAddr k b) 320).wakeRange (parseAddr k) 16).reg a = s.reg a := fun a ha =>
    (State.wakeRange_radio_reg _ hparse ha).trans (State.wakeRange_radio_reg _ hbuf ha)
  generalize (s.wakeRange (bufAddr k b) 320).wakeRange (parseAddr k) 16 = t at *
  have hs := t.setBytes_beside (bufAddr k b) (List.replicate 256 0)
  have hm := State.muddy_beside (t.setBytes (bufAddr k b) (List.replicate 256 0)) (bufAddr k b) 256
  refine ⟨?_, ?_, ?_, fun hc ho i hi => ?_, fun a ha => ?_⟩
  · exact hrest.trans ((t.setBytes_devRest _ _).trans (hm.devRest_of_lanes (State.muddy_lanes _ _ _)))
  · exact hturned.trans (hs.turned.trans hm.turned)
  · exact hkeeps.transS ((t.setBytes_keeps _ _).transS (State.muddy_keeps _ _ _))
  · rw [State.muddy_apart ((hturned.trans hs.turned).txqOver.trans ho),
      State.setBytes_byte_in t (hkeeps.canonical hc).mem _ _ i (by rw [List.length_replicate]; exact hi), List.getElem_replicate]
  · have hreg' : ∀ x, ((t.setBytes (bufAddr k b) (List.replicate 256 0)).muddy (bufAddr k b) 256).reg x = t.reg x := fun x =>
      congrArg (fun r => sget regReset r x) (hs.trans hm).regs
    exact (hreg' a).trans (hreg a (by simpa using ha))

/-- The lane once its frame has begun. -/
def Lane.begun (l : Lane) (f : Frame) : Lane := { l with st := .frame, frames := l.frames ++ [f] }

theorem State.sfd_takes {s : State} {k : Nat} (rssi : Int) (hb : s.noBuf k = false) : s.sfd k rssi =
    (s.bufCleared k (s.lane k).freeBuf).updLane k
      ((s.lane k).begun ((s.bufCleared k (s.lane k).freeBuf).newFrame k (s.lane k).freeBuf rssi)) := by
  unfold State.sfd
  rw [hb]
  rfl

theorem State.sfd_noBuf {s : State} {k : Nat} (hk : k < 128) (rssi : Int) (hb : s.noBuf k = true) :
    s.sfd k rssi = (s.count (Reg.ENV_LERR_NOBUF k)).laneRest k := by
  unfold State.sfd
  rw [hb, if_neg (show ¬ k = 128 by omega)]
  rfl

/-- What a frame that begins has. -/
structure FrameBegun (s : State) (k : Nat) (rssi : Int) (f : Frame) : Prop where
  buf : f.buf = (s.lane k).freeBuf
  tsfd : f.tsfd = s.now - rxDelay k (s.lane k).fmt
  rssi : f.rssi = clampI (-128) 20 rssi
  chain : f.chain = (s.lane k).chain.getD 0
  fend : f.fend = false

theorem State.newFrame_begun {s t : State} {k : Nat} (rssi : Int) (hn : t.now = s.now) (hl : t.lane k = s.lane k) :
    FrameBegun s k rssi (t.newFrame k (s.lane k).freeBuf rssi) := by
  unfold State.newFrame
  rw [hl, hn]
  exact ⟨rfl, rfl, rfl, rfl, rfl⟩

/-- What the SFD leaves where a buffer is free. -/
structure SfdTaken (s t : State) (k : Nat) (f : Frame) : Prop where
  quiet : t.Quiet
  lane : t.lane k = (s.lane k).begun f
  regs : s.regsBut t [Reg.MEMC_RBANKCTL]
  zero : ∀ i, i < 256 → t.byte (bufAddr k f.buf + i) = 0

theorem State.sfd_taken {s : State} (h : s.Calm) (ho : s.txqOver = false) {k : Nat} (hk : k < 128) (rssi : Int) (hb : s.noBuf k = false) :
    ∃ f, FrameBegun s k rssi f ∧ SfdTaken s (s.sfd k rssi) k f := by
  have hclear := s.bufCleared_clears k (s.lane k).freeBuf
  have hlt := (s.lane k).freeBuf_lt
  rw [State.sfd_takes rssi hb]
  generalize s.bufCleared k (s.lane k).freeBuf = t at *
  have hf := State.newFrame_begun (s := s) (t := t) rssi hclear.turned.now (hclear.rest.lane k)
  generalize t.newFrame k (s.lane k).freeBuf rssi = f at *
  have hbeside := t.updLane_beside k ((s.lane k).begun f)
  refine ⟨f, hf, ⟨(hclear.turned.trans hbeside.turned).quiet h.quiet, ?_, fun a ha => ?_, fun i hi => ?_⟩⟩
  · exact State.updLane_lane_self (hclear.keeps.canonical h.canonical).lanes k _
  · exact (congrArg (fun r => sget regReset r a) hbeside.regs).trans (hclear.regs a ha)
  · rw [hf.buf, State.updLane_byte_below (hclear.turned.txqOver.trans ho) k _ (by unfold bufAddr parseAddr; omega)]
    exact hclear.zero h.canonical ho i hi

/-- Without a buffer the attempt counts and ends. -/
theorem State.sfd_counts {s : State} (h : s.Calm) {k : Nat} (hk : k < 128) (rssi : Int) (hb : s.noBuf k = true) :
    (s.sfd k rssi).Quiet ∧ ((s.sfd k rssi).lane k).st = s.restState k ∧ ((s.sfd k rssi).lane k).frames = (s.lane k).frames ∧
      (s.sfd k rssi).get (Reg.ENV_LERR_NOBUF k) = min 255 (s.get (Reg.ENV_LERR_NOBUF k) + 1) := by
  rw [State.sfd_noBuf hk rssi hb]
  have hturned := (s.count (Reg.ENV_LERR_NOBUF k)).laneRest_turned k
  obtain ⟨hst, hfr⟩ := State.laneRest_lane (s := s.count (Reg.ENV_LERR_NOBUF k)) h.canonical.lanes k
  refine ⟨hturned.quiet (State.count_lerr_quiet _ rfl h.quiet), ?_, hfr, ?_⟩
  · rw [hst, s.count_lerr_restState _ rfl hk]
  · exact (congrArg (fun r => fget (sget regReset r (Reg.ENV_LERR k)) (Reg.ENV_LERR_NOBUF k)) hturned.regs).trans
      (State.count_get h.canonical.regs _ (show 16 + 8 ≤ 32 by decide))

theorem sfdRecognised_inTime {s : State} {t k : Nat} {rssi : Int} (hp : ((s.at_ t).lane k).st = .preamble)
    (hn : (s.at_ t).now ≤ ((s.at_ t).lane k).since + (s.at_ t).sfdLimit k * symTicks ((s.at_ t).lane k).fmt) :
    exec (.sfdRecognised k rssi t) s = doneW ((s.at_ t).sfd k rssi) :=
  congrArg doneW ((if_pos hp).trans (if_pos hn))

theorem State.sfdLimit_lane (s : State) {k : Nat} (hk : k < 128) : s.sfdLimit k = max 4 (s.get (Reg.ENV_GCFG_SFDTO (k / 8))) :=
  if_neg (by omega)

theorem sfdTimeout_due {s : State} {t k : Nat} (hp : ((s.at_ t).lane k).st = .preamble)
    (hn : ((s.at_ t).lane k).since + (s.at_ t).sfdLimit k * symTicks ((s.at_ t).lane k).fmt ≤ (s.at_ t).now) :
    exec (.sfdTimeout k t) s = doneW ((s.at_ t).abandon k) := by
  refine congrArg doneW (if_pos ?_)
  rw [decide_eq_true hp, decide_eq_true hn]
  rfl

theorem sfdTimeout_early {s : State} {t k : Nat} (hq : (s.at_ t).Quiet)
    (hn : (s.at_ t).now < ((s.at_ t).lane k).since + (s.at_ t).sfdLimit k * symTicks ((s.at_ t).lane k).fmt) :
    Does (.sfdTimeout k t) s (s.at_ t) := by
  refine does_doneW (congrArg doneW (if_neg ?_)) hq
  simp only [Bool.and_eq_true, decide_eq_true_eq]
  omega

end Sys2Proof.Machine
end

section
/-! OBLIGATIONS. AGC, preamble detection, chain choice, the SFD and its timeout, command by command. -/

namespace Sys2Proof.Machine

theorem agcGainDown_raises {s : State} {t c : Nat} (hv : (s.at_ t).Calm) (hc : c < 2) (hs : (s.at_ t).sampling = true)
    (ha : (s.at_ t).env.active.testBit c = true) (hh : (s.at_ t).env.agcHeld = false) (e : Nat) (clip : Bool) :
    ∃ u, exec (.agcGainDown c e clip t) s = .next u ∧ u.env.exp c = max ((s.at_ t).env.exp c) (min 15 e) ∧
      u.env.exp (1 - c) = (s.at_ t).env.exp (1 - c) ∧ u.lanes = (s.at_ t).lanes ∧ (s.at_ t).regsBut u [Reg.ENV_STATUS] ∧
      (clip = false → u.regs = (s.at_ t).regs) ∧
      (clip = true → u.env.exp c = 15 → u.flag (if c = 0 then Reg.ENV_STATUS_CLIPA else Reg.ENV_STATUS_CLIPB) = true) := by
  obtain ⟨u, hu, hset⟩ := does_done (agcGainDown_free (e := e) (clip := clip) hc hs ha hh)
  refine ⟨u, hu, ?_⟩
  generalize s.at_ t = v at *
  have hexp : (v.gainDown c e).env.exp c = max (v.env.exp c) (min 15 e) := Env.setExp_exp _ _ _
  have hother : (v.gainDown c e).env.exp (1 - c) = v.env.exp (1 - c) := Env.setExp_exp_other _ hc _
  by_cases hclip : (clip && (v.gainDown c e).env.exp c = 15) = true
  · rw [if_pos hclip] at hset
    simp only [Bool.and_eq_true, decide_eq_true_eq] at hclip
    refine ⟨?_, ?_, hset.lanes, fun a hn => ?_, fun hno => ?_, fun _ _ => ?_⟩
    · rw [hset.env]
      exact hexp
    · rw [hset.env]
      exact hother
    · exact (hset.reg a).trans (State.clipSet_reg _ c (by simpa using hn))
    · rw [hno] at hclip
      exact absurd hclip.1 Bool.false_ne_true
    · rw [hset.flag]
      exact State.clipSet_flag (s := v.gainDown c e) hv.canonical.regs c
  · rw [if_neg hclip] at hset
    refine ⟨?_, ?_, hset.lanes, fun a _ => hset.reg a, fun _ => hset.regs, fun hyes h15 => ?_⟩
    · rw [hset.env, hexp]
    · rw [hset.env, hother]
    · rw [hset.env] at h15
      rw [hyes, h15] at hclip
      exact absurd rfl hclip

theorem agcGainUp_lowers {s : State} {t c : Nat} (hc : c < 2) (hs : (s.at_ t).sampling = true)
    (ha : (s.at_ t).env.active.testBit c = true) (hh : (s.at_ t).env.agcHeld = false) :
    ∃ u, exec (.agcGainUp c t) s = .next u ∧ u.env.exp c = (s.at_ t).env.exp c - 1 ∧
      u.env.exp (1 - c) = (s.at_ t).env.exp (1 - c) ∧ u.regs = (s.at_ t).regs := by
  obtain ⟨u, hu, hset⟩ := does_done (agcGainUp_free hc hs ha hh)
  exact ⟨u, hu, by rw [hset.env]; exact Env.setExp_exp _ _ _, by rw [hset.env]; exact Env.setExp_exp_other _ hc _, hset.regs⟩

/-- The sample clock runs where the Envelope is neither OFF nor in XWAIT. -/
theorem State.sampling_of {s : State} (h0 : s.env.st ≠ .off) (h1 : s.env.st ≠ .xwait) : s.sampling = true := by
  unfold State.sampling
  simp [h0, h1]

/-- With a buffer free the attempt begins on the lane's format and channel. -/
theorem preambleDetect_begins {s : State} {t k ch c0 c1 : Nat} (hv : (s.at_ t).Calm) (hk : k < 128)
    (hx : exec (.preambleDetect k ch c0 c1 t) s = doneW ((s.at_ t).detect k)) (hb : (s.at_ t).noBuf k = false) :
    Does (.preambleDetect k ch c0 c1 t) s ((s.at_ t).setLane k ((s.at_ t).attemptOf k)) := by
  rw [State.detect_takes hb, State.spPhase_lane _ hk] at hx
  exact does_doneW hx (hv.quiet.setLane k _)

/-- Without one the lane hunts afresh, and NOBUF counts. -/
theorem preambleDetect_counts {s : State} {t k ch c0 c1 : Nat} (hv : (s.at_ t).Calm) (hk : k < 128)
    (hx : exec (.preambleDetect k ch c0 c1 t) s = doneW ((s.at_ t).detect k)) (hb : (s.at_ t).noBuf k = true) :
    ∃ u, exec (.preambleDetect k ch c0 c1 t) s = .next u ∧
      u.lanes = ((s.at_ t).setLane k { (s.at_ t).lane k with since := (s.at_ t).now }).lanes ∧
      u.get (Reg.ENV_LERR_NOBUF k) = min 255 ((s.at_ t).get (Reg.ENV_LERR_NOBUF k) + 1) := by
  rw [State.detect_noBuf hk hb] at hx
  obtain ⟨u, hu, hset⟩ := does_doneW hx ((State.count_lerr_quiet (Reg.ENV_LERR_NOBUF k) rfl hv.quiet).setLane k _)
  exact ⟨u, hu, hset.lanes, (hset.get _).trans (State.count_get hv.canonical.regs _ (show 16 + 8 ≤ 32 by decide))⟩

theorem spPreambleDetect_begins {s : State} {t c0 c1 : Nat} (hv : (s.at_ t).Calm)
    (hx : exec (.spPreambleDetect c0 c1 t) s = doneW ((s.at_ t).detect 128)) (hb : (s.at_ t).noBuf 128 = false) :
    ∃ u, exec (.spPreambleDetect c0 c1 t) s = .next u ∧ (u.lane 128).st = .preamble ∧ (u.lane 128).since = (s.at_ t).now ∧
      (u.lane 128).fmt = (s.at_ t).get Reg.RFE_SPCTL_FMT ∧ (u.lane 128).chan = (s.at_ t).get Reg.RFE_SPCTL_CHAN ∧
      u.rfe.divst = (if (s.at_ t).rfe.divst = 3 then 3 else 1) ∧ u.regs = (s.at_ t).regs ∧ u.mem = (s.at_ t).mem := by
  rw [State.detect_takes hb, State.spPhase_single] at hx
  obtain ⟨u, hu, hset⟩ := does_doneW hx ((hv.quiet.setLane 128 _).rf _)
  have hlane : u.lane 128 = (s.at_ t).attemptOf 128 := (hset.lane 128).trans (State.setLane_lane_self hv.canonical.lanes 128 _)
  refine ⟨u, hu, ?_⟩
  rw [hlane, hset.rfe]
  exact ⟨rfl, rfl, rfl, rfl, rfl, hset.regs, hset.mem⟩

theorem sfdRecognised_begins {s : State} {t k : Nat} {rssi : Int} (hv : (s.at_ t).Calm) (hk : k < 128)
    (hx : exec (.sfdRecognised k rssi t) s = doneW ((s.at_ t).sfd k rssi)) (hb : (s.at_ t).noBuf k = false) (ho : (s.at_ t).txqOver = false) :
    ∃ u f, exec (.sfdRecognised k rssi t) s = .next u ∧ FrameBegun (s.at_ t) k rssi f ∧ u.lane k = ((s.at_ t).lane k).begun f ∧
      (∀ i, i < 256 → u.byte (bufAddr k f.buf + i) = 0) ∧ (s.at_ t).regsBut u [Reg.MEMC_RBANKCTL] := by
  obtain ⟨f, hf, ht⟩ := State.sfd_taken hv ho hk rssi hb
  obtain ⟨u, hu, hset⟩ := does_doneW hx ht.quiet
  exact ⟨u, f, hu, hf, (hset.lane k).trans ht.lane, fun i hi => (hset.byte _).trans (ht.zero i hi), fun a ha => (hset.reg a).trans (ht.regs a ha)⟩

theorem sfdRecognised_counts {s : State} {t k : Nat} {rssi : Int} (hv : (s.at_ t).Calm) (hk : k < 128)
    (hx : exec (.sfdRecognised k rssi t) s = doneW ((s.at_ t).sfd k rssi)) (hb : (s.at_ t).noBuf k = true) :
    ∃ u, exec (.sfdRecognised k rssi t) s = .next u ∧ (u.lane k).st = (s.at_ t).restState k ∧
      (u.lane k).frames = ((s.at_ t).lane k).frames ∧ u.get (Reg.ENV_LERR_NOBUF k) = min 255 ((s.at_ t).get (Reg.ENV_LERR_NOBUF k) + 1) := by
  obtain ⟨hq, hst, hfr, hcount⟩ := State.sfd_counts hv hk rssi hb
  obtain ⟨u, hu, hset⟩ := does_doneW hx hq
  rw [← hset.lane] at hst hfr
  exact ⟨u, hu, hst, hfr, (hset.get _).trans hcount⟩

end Sys2Proof.Machine

open Sys2Proof Sys2Proof.Machine

/-- Settles O29, command by command: each makes one named change of the state (`State.gainDown`, `State.detect`, `State.sfd`,
`State.abandon`), which the lemmas above describe. That the frame of an SFD with no chain choice made uses chain 0 is the model's choice
(log entry 54). -/
theorem lanesDetectAndChoose : Obligations.LanesDetectAndChoose := by
  unfold Obligations.LanesDetectAndChoose
  intro s t v hv
  refine ⟨fun ch hc hact hoff hxwait => ?_, fun k ch c0 c1 hk hc hhunt hact hx hp => ?_, fun c0 c1 hhunt hx hp hsince => ?_,
    fun k n a b hk hp hch => chainChoice_does hk hp hch, fun k rssi hk hp hn => ?_, fun k hk hp hf => ?_⟩
  · have hs := State.sampling_of hoff hxwait
    exact ⟨fun e clip hh => agcGainDown_raises hv hc hs hact hh e clip, fun e hh => ⟨agcGainDown_held hh, agcGainUp_held hh⟩,
      fun hh => agcGainUp_lowers hc hs hact hh⟩
  · intro thr l fmt chan hsince
    have hfmt : v.laneFmt k = (fmt, chan) := v.laneFmt_lane hk
    have hdet := fun h0 h1 => preambleDetect_detects (c0 := c0) (c1 := c1) hk hc
      (State.mayDetect_of hx hp hhunt (by rw [hfmt]; exact hsince)) hact h0 h1
    refine ⟨fun h0 h1 hb => ?_, fun h0 h1 hb => preambleDetect_counts hv hk (hdet h0 h1) hb, fun h => preambleDetect_below hv.quiet h⟩
    have hdoes := preambleDetect_begins hv hk (hdet h0 h1) hb
    have honly : v.onlyChain k = if v.env.active = 3 then none else some (v.env.active / 2) := if_neg (by omega)
    have hatt : v.attemptOf k = { l with
        st := .preamble, since := v.now, fmt := fmt, chan := chan, chain := if v.env.active = 3 then none else some (v.env.active / 2)
        nfpre := toSigned 16 (v.get (Reg.ENV_NF_FLOOR (tuneOf fmt chan))), lastAbort := 0, fp := false } := by
      unfold State.attemptOf
      rw [hfmt, honly]
    exact hatt ▸ hdoes
  · have hmay : v.mayDetect 128 = true := State.mayDetect_of hx hp hhunt hsince
    exact ⟨fun h0 h1 hb => spPreambleDetect_begins hv (spPreambleDetect_detects hmay h0 h1) hb, fun h => spPreambleDetect_below hv.quiet h⟩
  · have hsfd : exec (.sfdRecognised k rssi t) s = doneW (v.sfd k rssi) :=
      sfdRecognised_inTime hp (by rw [State.sfdLimit_lane _ hk]; exact hn)
    refine ⟨fun hb ho => ?_, sfdRecognised_counts hv hk hsfd⟩
    obtain ⟨u, f, hu, hf, hlane, hzero, hregs⟩ := sfdRecognised_begins hv hk hsfd hb ho
    have hdelay : rxDelay k (v.lane k).fmt = if (v.lane k).fmt = 1 then 80 else 64 := if_neg (by omega)
    refine ⟨u, f.buf, f, hu, hf.buf ▸ (v.lane k).freeBuf_lt, ?_, ?_, rfl, ?_, hf.rssi, hf.chain, hf.fend, hzero, hregs⟩
    · rw [hlane]; rfl
    · rw [hlane]; rfl
    · rw [hf.tsfd, hdelay]
  · intro limit
    have hlimit : limit = (v.lane k).since + v.sfdLimit k * symTicks (v.lane k).fmt := by
      rw [State.sfdLimit_lane _ hk]
      rfl
    refine ⟨fun hn => ?_, fun hn => sfdTimeout_early hv.quiet (hlimit ▸ hn)⟩
    have hab := State.abandon_attempt hv hk hf hp
    obtain ⟨u, hu, hset⟩ := does_doneW (sfdTimeout_due hp (hlimit ▸ hn)) hab.quiet
    obtain ⟨hst, -, hwhy, hbit, hcount, -⟩ := hab.settles hk hset
    exact ⟨u, hu, hst, hwhy, hcount, hbit⟩

end

section
/-! SUPPORT. The one frame of a lane: its change in the lane, and its record in memory (R156, R224, R225). -/

namespace Sys2Proof.Machine

/-! ### Words one after another -/

theorem State.setWords_word {s : State} (hs : Memory.wf s.lost s.mem) (a : Nat) (ws : List Word) {i : Nat} (hi : i < ws.length) :
    (s.setWords a ws).word (a + 4 * i) = ws.getD i 0 := by
  induction ws generalizing s a i with
  | nil => simp at hi
  | cons w ws ih =>
    cases i with
    | zero =>
      refine (State.word_congr fun x _ hx => ?_).trans (s.setWord_word hs a w)
      exact State.setWords_byte_below _ _ _ (by omega)
    | succ i =>
      have h := ih (s := s.setWord a w) (s.setWord_wf hs a w) (a + 4) (i := i) (by simpa using hi)
      rw [show a + 4 * (i + 1) = a + 4 + 4 * i by omega]
      exact h

theorem parseRecord_length (p : List Byte) (n : Nat) (sc : Byte) (len fcs : Nat) (f : Filter) (addr fend : Bool) :
    (parseRecord p n sc len fcs f addr fend).length = 4 := by
  unfold parseRecord
  dsimp only
  split <;> rfl

/-- The record of the lane's current frame stands in memory. -/
theorem State.present_word {s : State} (hs : s.canonical) (ho : s.txqOver = false) {k : Nat} {f : Frame} (hf : (s.lane k).cur = some f) {i : Nat}
    (hi : i < 4) : (s.present k).word (parseAddr k + 4 * i) = f.parse.getD i 0 := by
  unfold State.present
  dsimp only
  rw [hf]
  dsimp only
  rw [State.muddy_apart ((s.setWords_beside _ _).txqOver.trans ho)]
  exact State.setWords_word hs.mem _ _ (by unfold Frame.parse; rw [parseRecord_length]; exact hi)

/-! ### The one frame -/

/-- Lane k holds one frame, in reception. -/
structure State.OneFrame (s : State) (k : Nat) (f : Frame) : Prop where
  frames : (s.lane k).frames = [f]
  fend : f.fend = false
  abort : f.abort = 0
  leaving : f.leaving = false
  st : (s.lane k).st = .frame

section
variable {s : State} {k : Nat} {f : Frame} (h : s.OneFrame k f)
include h

theorem State.OneFrame.opened : (s.lane k).frames.find? Frame.open_ = some f := by
  have hopen : f.open_ = true := by
    unfold Frame.open_
    rw [h.fend, h.abort]
    rfl
  rw [h.frames, List.find?_singleton, if_pos hopen]

theorem State.OneFrame.updFrame_lane (hl : Swf (fun _ => Lane.reset) s.lanes) (g : Frame → Frame) :
    (s.updFrame k f.buf g).lane k = { s.lane k with frames := [g f] } := by
  unfold State.updFrame
  dsimp only
  rw [State.setLane_lane_self hl, h.frames, List.map_singleton, if_pos rfl]

end

theorem State.updFrame_beside (s : State) (k b : Nat) (g : Frame → Frame) : Beside s (s.updFrame k b g) := rfl

/-- A frame of lane k changes and its record is written. -/
def State.reframe (s : State) (k b : Nat) (g : Frame → Frame) : State := (s.updFrame k b g).present k

theorem State.reframe_beside (s : State) (k b : Nat) (g : Frame → Frame) : Beside s (s.reframe k b g) :=
  (s.updFrame_beside k b g).trans (State.present_beside _ k)

theorem State.OneFrame.reframe_lane {s : State} {k : Nat} {f : Frame} (h : s.OneFrame k f) (hl : Swf (fun _ => Lane.reset) s.lanes)
    (g : Frame → Frame) : (s.reframe k f.buf g).lane k = { s.lane k with frames := [g f] } := by
  rw [← h.updFrame_lane hl g]
  exact congrArg (fun l => sget (fun _ => Lane.reset) l k) (State.present_lanes _ k)

theorem State.OneFrame.reframe_word {s : State} {k : Nat} {f : Frame} (h : s.OneFrame k f) (hs : s.canonical) (ho : s.txqOver = false)
    (g : Frame → Frame) (hg : (g f).leaving = false) {i : Nat} (hi : i < 4) :
    (s.reframe k f.buf g).word (parseAddr k + 4 * i) = (g f).parse.getD i 0 := by
  have hcanon : (s.updFrame k f.buf g).canonical := (s.setLane_keeps k _).canonical hs
  refine State.present_word hcanon ho ?_ hi
  unfold Lane.cur
  rw [h.updFrame_lane hs.lanes g]
  simp [hg]

end Sys2Proof.Machine
end

section
/-! SUPPORT. A frame that ends without FEND (R96, R127), and one that ends with it (R100, R102). -/

namespace Sys2Proof.Machine

/-! ### Abandoned -/

/-- The one frame of a lane, no octet of whose PSDU has come, is given up and leaves the lane without a frame. -/
theorem State.abortLane_frame {s : State} (hs : s.Calm) {k : Nat} {f : Frame} (why : Nat) (h : s.OneFrame k f) (hp : f.phr = none) :
    LaneAborted k { s.lane k with frames := [], lastAbort := why } s (s.abortLane k why false) := by
  have hd : s.deposit k = s := by
    have hn : f.arrived k s.now = 0 := by
      unfold Frame.arrived
      rw [hp]
      rfl
    unfold State.deposit
    dsimp only
    rw [h.opened]
    dsimp only
    rw [hn, if_pos (Nat.zero_le _)]
  have hm := s.markBusy_turned k
  have hml := s.markBusy_lanes k
  have hmc : (s.markBusy k).Calm := ⟨(s.markBusy_keeps k).canonical hs.canonical, hm.quiet hs.quiet, by rw [hm]; exact hs.armed⟩
  unfold State.abortLane
  rw [hd]
  generalize s.markBusy k = m at *
  have hlane : m.lane k = s.lane k := congrArg (fun l => sget (fun _ => Lane.reset) l k) hml
  obtain ⟨hdrop, hal, hrest, hbuf, -⟩ := m.ackWithdraw_dropped hmc (engOf k) (ctxOf k) k f
  dsimp only
  rw [hlane, h.opened]
  dsimp only
  rw [if_neg Bool.false_ne_true, h.frames]
  generalize (m.ackWithdraw k f).1 = a at *
  generalize (m.ackWithdraw k f).2 = f' at *
  have hgone : [f].filter (fun g => g.buf != f'.buf) = [] := by
    rw [hbuf]
    simp
  rw [hgone]
  obtain ⟨⟨n, hn⟩, hbit⟩ := State.laneOff_aborts (s := a) (by rw [hal]; exact hmc.canonical.lanes) hdrop.ctxs k
    { s.lane k with st := .off, frames := [], lastAbort := why }
  exact ⟨⟨n, by rw [hn, hrest, hm.restState]⟩, hbit⟩

theorem State.abandon_frame {s : State} (h : s.Calm) {k : Nat} (hk : k < 128) {f : Frame} (hf : s.OneFrame k f) (hp : f.phr = none) :
    Abandoned k { s.lane k with frames := [], lastAbort := 3 } s (s.abandon k) :=
  have hc : (s.count (Reg.ENV_LERR_ABANDON k)).Calm :=
    ⟨State.count_canonical h.canonical _, State.count_lerr_quiet _ rfl h.quiet, h.armed⟩
  State.abandon_of_abort h hk (State.abortLane_frame hc 3 ⟨hf.frames, hf.fend, hf.abort, hf.leaving, hf.st⟩ hp)

/-! ### Ended -/

/-- The frame at its FEND. -/
def Frame.ended (f : Frame) (cq : Nat) : Frame :=
  { f with
    rxoct := f.len, addr := true, addrOct := if f.addr then f.addrOct else f.len, fend := true, tend := f.lastChip, fcsok := f.fcsPass
    cq := min 255 cq }

/-- The lane of a frame that has ended goes to rest, and keeps what was measured. -/
def State.laneEnds (s : State) (k : Nat) (f : Frame) (cq : Nat) : State :=
  ((s.markBusy k).setLane k { (s.markBusy k).lane k with st := .off, rssi := f.rssi, cq := min 255 cq, lastChain := f.chain }).laneRest k

theorem State.laneEnds_turned (s : State) (k : Nat) (f : Frame) (cq : Nat) : LaneTurned s (s.laneEnds k f cq) :=
  (s.markBusy_turned k).trans ((show Beside (s.markBusy k) (State.setLane _ k _) from rfl).laneTurned.trans (State.laneRest_turned _ k))

theorem State.laneEnds_lane {s : State} (hs : Swf (fun _ => Lane.reset) s.lanes) (k : Nat) (f : Frame) (cq : Nat) :
    ((s.laneEnds k f cq).lane k).st = s.restState k ∧ ((s.laneEnds k f cq).lane k).frames = (s.lane k).frames := by
  have hm := s.markBusy_turned k
  have hml := s.markBusy_lanes k
  unfold State.laneEnds
  generalize s.markBusy k = m at *
  have hlane : m.lane k = s.lane k := congrArg (fun l => sget (fun _ => Lane.reset) l k) hml
  have hswf : Swf (fun _ => Lane.reset) m.lanes := hml ▸ hs
  have hb : ∀ l, Beside m (m.setLane k l) := fun _ => rfl
  obtain ⟨hst, hfr⟩ := State.laneRest_lane (s := m.setLane k { m.lane k with st := .off, rssi := f.rssi, cq := min 255 cq, lastChain := f.chain })
    (Swf_sput hswf _ _) k
  rw [(hb _).restState, hm.restState] at hst
  rw [State.setLane_lane_self hswf] at hfr
  exact ⟨hst, hfr.trans (show (m.lane k).frames = _ from congrArg Lane.frames hlane)⟩

theorem State.endFrame_pass {s : State} {f : Frame} (h : f.fcsPass = true) (k cq : Nat) :
    s.endFrame k f cq = (s.updFrame k f.buf fun _ => f.ended cq).laneEnds k f cq := by
  unfold State.endFrame Frame.ended
  dsimp only
  rw [if_pos h]
  rfl

/-- The state in which a frame whose FCS failed has withdrawn its acknowledgement and counted. -/
def State.crcFailed (s : State) (k : Nat) (f : Frame) (cq : Nat) : State :=
  let a := (s.updFrame k f.buf fun _ => f.ended cq).ackWithdraw k (f.ended cq)
  (a.1.updFrame k f.buf fun _ => a.2).count (Reg.ENV_LERR_CRCERR k)

theorem State.endFrame_fail {s : State} {f : Frame} (h : f.fcsPass = false) {k : Nat} (hk : k < 128) (cq : Nat) :
    s.endFrame k f cq = (s.crcFailed k f cq).laneEnds k f cq := by
  unfold State.endFrame State.crcFailed Frame.ended
  dsimp only
  rw [if_neg (by rw [h]; decide), if_neg (show ¬ k = 128 by omega)]
  rfl

/-- What a FEND leaves: the lane holds `g` alone and is at rest. -/
structure FrameEnded (s t : State) (k : Nat) (g : Frame) : Prop where
  quiet : t.Quiet
  frames : (t.lane k).frames = [g]
  st : (t.lane k).st = s.restState k

theorem State.endFrame_passes {s : State} (hs : s.Calm) {k : Nat} {f : Frame} (h : s.OneFrame k f) (hp : f.fcsPass = true) (cq : Nat) :
    FrameEnded s (s.endFrame k f cq) k (f.ended cq) ∧ (s.endFrame k f cq).regs = s.regs := by
  rw [State.endFrame_pass hp]
  have hb := s.updFrame_beside k f.buf fun _ => f.ended cq
  have hlane := h.updFrame_lane hs.canonical.lanes fun _ => f.ended cq
  have hcanon : (s.updFrame k f.buf fun _ => f.ended cq).canonical := (s.setLane_keeps k _).canonical hs.canonical
  generalize (s.updFrame k f.buf fun _ => f.ended cq) = m at *
  obtain ⟨hst, hfr⟩ := State.laneEnds_lane hcanon.lanes k f cq
  have ht := hb.laneTurned.trans (m.laneEnds_turned k f cq)
  refine ⟨⟨ht.quiet hs.quiet, ?_, ?_⟩, ht.regs⟩
  · rw [hfr, hlane]
  · rw [hst, hb.restState]

/-- What is withdrawn of the frame whose FCS failed. -/
theorem State.ackWithdraw_frame (s : State) (k : Nat) (f : Frame) : (s.ackWithdraw k f).2 = f.withdraw := by
  unfold State.ackWithdraw
  split
  · rfl
  · rename_i h
    exact (if_neg h).symm

theorem State.crcFailed_fails {s : State} (hs : s.Calm) {k : Nat} (hk : k < 128) {f : Frame} (h : s.OneFrame k f) (cq : Nat) :
    let t := s.crcFailed k f cq
    t.Quiet ∧ Swf (fun _ => Lane.reset) t.lanes ∧ (t.lane k).frames = [(f.ended cq).withdraw] ∧ t.restState k = s.restState k ∧
      s.regsBut t [Reg.ENV_LERR k] ∧ t.get (Reg.ENV_LERR_CRCERR k) = min 65535 (s.get (Reg.ENV_LERR_CRCERR k) + 1) := by
  intro t
  have hb := s.updFrame_beside k f.buf fun _ => f.ended cq
  have hlane := h.updFrame_lane hs.canonical.lanes fun _ => f.ended cq
  have hmc : (s.updFrame k f.buf fun _ => f.ended cq).Calm :=
    ⟨(s.setLane_keeps k _).canonical hs.canonical, hb.laneTurned.quiet hs.quiet, hs.armed⟩
  obtain ⟨hdrop, hal, hrest, -, -⟩ := State.ackWithdraw_dropped hmc 0 0 k (f.ended cq)
  have hwith := State.ackWithdraw_frame (s.updFrame k f.buf fun _ => f.ended cq) k (f.ended cq)
  have ht : t = ((State.ackWithdraw _ k (f.ended cq)).1.updFrame k f.buf fun _ => (State.ackWithdraw
    (s.updFrame k f.buf fun _ => f.ended cq) k (f.ended cq)).2).count (Reg.ENV_LERR_CRCERR k) := rfl
  rw [hwith] at ht
  rw [ht]
  generalize (s.updFrame k f.buf fun _ => f.ended cq) = m at *
  generalize (m.ackWithdraw k (f.ended cq)).1 = a at *
  have hswf : Swf (fun _ => Lane.reset) a.lanes := hal ▸ hmc.canonical.lanes
  have hb' := a.updFrame_beside k f.buf fun _ => (f.ended cq).withdraw
  have hfr : ((a.updFrame k f.buf fun _ => (f.ended cq).withdraw).lane k).frames = [(f.ended cq).withdraw] := by
    rw [State.updFrame_frames hswf, show a.lane k = m.lane k from congrArg (fun l => sget (fun _ => Lane.reset) l k) hal, hlane]
    exact congrArg (fun g => [g]) (if_pos rfl)
  have hswf' : Swf (fun _ => Lane.reset) (a.updFrame k f.buf fun _ => (f.ended cq).withdraw).lanes := Swf_sput hswf _ _
  generalize (a.updFrame k f.buf fun _ => (f.ended cq).withdraw) = w at *
  have hregs : w.regs = s.regs := hb'.regs.trans (hdrop.regs.trans hb.regs)
  refine ⟨State.count_lerr_quiet _ rfl (hb'.laneTurned.quiet hdrop.quiet), hswf', hfr, ?_, fun x hx => ?_, ?_⟩
  · rw [w.count_lerr_restState _ rfl hk, hb'.restState, hrest, hb.restState]
  · exact (w.count_lerr_reg _ rfl (by simpa using hx)).trans (congrArg (fun r => sget regReset r x) hregs)
  · rw [State.count_get (hregs ▸ hs.canonical.regs) _ (show 0 + 16 ≤ 32 by decide)]
    exact congrArg (fun r => min 65535 (fget (sget regReset r (Reg.ENV_LERR k)) (Reg.ENV_LERR_CRCERR k) + 1)) hregs

theorem State.endFrame_fails {s : State} (hs : s.Calm) {k : Nat} (hk : k < 128) {f : Frame} (h : s.OneFrame k f) (hp : f.fcsPass = false)
    (cq : Nat) : FrameEnded s (s.endFrame k f cq) k (f.ended cq).withdraw ∧ s.regsBut (s.endFrame k f cq) [Reg.ENV_LERR k] ∧
      (s.endFrame k f cq).get (Reg.ENV_LERR_CRCERR k) = min 65535 (s.get (Reg.ENV_LERR_CRCERR k) + 1) := by
  rw [State.endFrame_fail hp hk]
  obtain ⟨hq, hswf, hframes, hrest, hbut, hcount⟩ := State.crcFailed_fails hs hk h cq
  generalize s.crcFailed k f cq = m at *
  obtain ⟨hst, hfr⟩ := State.laneEnds_lane hswf k f cq
  have ht := m.laneEnds_turned k f cq
  have hreg : ∀ x, (m.laneEnds k f cq).reg x = m.reg x := fun x => congrArg (fun r => sget regReset r x) ht.regs
  exact ⟨⟨ht.quiet hq, hfr.trans hframes, hst.trans hrest⟩, fun x hx => (hreg x).trans (hbut x hx),
    (congrArg (fun w => fget w (Reg.ENV_LERR_CRCERR k)) (hreg _)).trans hcount⟩

end Sys2Proof.Machine
end

section
/-! OBLIGATIONS. PHR_RECEIVED, ADDR_REACHED and FRAME_END, command by command. -/

namespace Sys2Proof.Machine

section
variable {s : State} {t k : Nat} {f : Frame} (h : (s.at_ t).OneFrame k f)
include h

theorem phrReceived_valid {phr : BitVec 16} (psdu : List Byte) (hn : f.phr = none) (hv : phrValid f.fmt phr = true) :
    exec (.phrReceived k phr psdu t) s = doneW ((s.at_ t).reframe k f.buf fun g => { g with
      phr := some (phrSeen f.fmt phr), len := phrLen f.fmt phr
      psdu := (psdu ++ List.replicate (phrLen f.fmt phr) 0).take (phrLen f.fmt phr) }) := by
  show execPhrReceived k phr psdu t s = _
  unfold execPhrReceived
  dsimp only
  rw [h.opened]
  dsimp only
  rw [if_neg (by rw [hn]; decide), if_pos hv]
  rfl

theorem phrReceived_invalid {phr : BitVec 16} (psdu : List Byte) (hn : f.phr = none) (hv : phrValid f.fmt phr = false) :
    exec (.phrReceived k phr psdu t) s = doneW ((s.at_ t).abandon k) := by
  show execPhrReceived k phr psdu t s = _
  unfold execPhrReceived
  dsimp only
  rw [h.opened]
  dsimp only
  rw [if_neg (by rw [hn]; decide), if_neg (by rw [hv]; decide)]

theorem addrReached_reaches (hp : f.phr.isSome = true) (ha : f.addr = false) (h2 : 2 ≤ f.rxoct)
    (hr : addrPoint f.got f.len f.fcs ≤ f.rxoct) :
    exec (.addrReached k t) s = doneW ((s.at_ t).reframe k f.buf fun g => { g with addr := true, addrOct := g.rxoct }) := by
  show execAddrReached k t s = _
  unfold execAddrReached
  dsimp only
  rw [h.opened]
  dsimp only
  rw [if_pos (by rw [hp, ha, decide_eq_true h2, decide_eq_true hr]; rfl)]
  rfl

theorem frameEnd_ends (cq : Nat) (hp : f.phr.isSome = true) (hl : f.lastChip + rxDelay k f.fmt ≤ (s.at_ t).now) :
    exec (.frameEnd k cq t) s = doneW ((s.at_ t).endFrame k f cq) := by
  show execFrameEnd k cq t s = _
  unfold execFrameEnd
  dsimp only
  rw [h.opened]
  dsimp only
  rw [if_pos (by rw [hp, decide_eq_true hl]; rfl)]

end

/-- A command that changes the one frame alone changes no register. -/
theorem State.OneFrame.reframe_does {c : Instr} {s v : State} {k : Nat} {f : Frame} (h : v.OneFrame k f) (hv : v.Calm) {g : Frame → Frame}
    (hx : exec c s = doneW (v.reframe k f.buf g)) :
    ∃ u, exec c s = .next u ∧ Settles (v.reframe k f.buf g) u ∧ u.regs = v.regs ∧ u.lane k = { v.lane k with frames := [g f] } := by
  have hb := v.reframe_beside k f.buf g
  obtain ⟨u, hu, hset⟩ := does_doneW hx (hb.laneTurned.quiet hv.quiet)
  exact ⟨u, hu, hset, hset.regs.trans hb.regs, (hset.lane k).trans (h.reframe_lane hv.canonical.lanes g)⟩

/-- The frame that a FEND leaves reports what has arrived. -/
structure FrameReport (f g : Frame) (cq : Nat) : Prop where
  fend : g.fend = true
  addr : g.addr = true
  tend : g.tend = f.lastChip
  rxoct : g.rxoct = f.len
  psdu : g.psdu = f.psdu
  cq : g.cq = min 255 cq
  fcsok : g.fcsok = f.fcsPass

theorem Frame.ended_reports (f : Frame) (cq : Nat) : FrameReport f (f.ended cq) cq := ⟨rfl, rfl, rfl, rfl, rfl, rfl, rfl⟩

theorem Frame.withdraw_reports {f g : Frame} {cq : Nat} (h : FrameReport f g cq) : FrameReport f g.withdraw cq := by
  obtain ⟨h1, h2, h3, h4, h5, h6, h7⟩ := h
  unfold Frame.withdraw
  split <;> exact ⟨h1, h2, h3, h4, h5, h6, h7⟩

theorem Frame.withdraw_ack (f : Frame) : f.withdraw.ack = if f.ack = .requested then .withdrawn else f.ack := by
  unfold Frame.withdraw
  split <;> rfl

end Sys2Proof.Machine

open Sys2Proof Sys2Proof.Machine

/-- Settles O30: PHR_RECEIVED and ADDR_REACHED replace the lane's one frame and write its record (`State.reframe`), an invalid PHR abandons it
(`State.abandon_frame`), and FRAME_END ends it with or without its acknowledgement (`State.endFrame_passes`, `State.endFrame_fails`). -/
theorem framesArriveAndEnd : Obligations.FramesArriveAndEnd := by
  unfold Obligations.FramesArriveAndEnd
  intro s t k f v hv ho hk hframes hfend habort hleave hst
  have hone : v.OneFrame k f := ⟨hframes, hfend, habort, hleave, hst⟩
  refine ⟨fun phr psdu hn => ⟨fun hvalid => ?_, fun hbad => ?_⟩, fun hp ha h2 hr => ?_, fun cq hp hl => ?_⟩
  · obtain ⟨u, hu, -, hregs, hlane⟩ := hone.reframe_does hv (phrReceived_valid hone psdu hn hvalid)
    rw [phrSeen] at hlane
    exact ⟨u, hu, hregs, by rw [hlane]; exact hst, by rw [hlane]⟩
  · have hab := State.abandon_frame hv hk hone hn
    obtain ⟨u, hu, hset⟩ := does_doneW (phrReceived_invalid hone psdu hn hbad) hab.quiet
    obtain ⟨hrest, hfr, hwhy, hbit, hcount, hregs⟩ := hab.settles hk hset
    exact ⟨u, hu, hfr, hwhy, hrest, hbit, hcount, hregs⟩
  · obtain ⟨u, hu, hset, hregs, hlane⟩ := hone.reframe_does hv (addrReached_reaches hone hp ha h2 hr)
    refine ⟨u, hu, hregs, by rw [hlane], fun i hi => ?_⟩
    refine (hset.word _).trans ((hone.reframe_word hv.canonical ho (fun g => { g with addr := true, addrOct := g.rxoct }) hleave hi).trans ?_)
    show (parseRecord f.got f.rxoct _ f.len f.fcs f.filter true f.fend).getD i 0 = _
    rw [hfend]
    rfl
  · have hdelay : rxDelay k f.fmt = if f.fmt = 1 then 80 else 64 := if_neg (by omega)
    have hx := frameEnd_ends hone cq hp (by rw [hdelay]; exact hl)
    have hrep := f.ended_reports cq
    cases hfcs : f.fcsPass with
    | true =>
      obtain ⟨hend, hregs⟩ := State.endFrame_passes hv hone hfcs cq
      obtain ⟨u, hu, hset⟩ := does_doneW hx hend.quiet
      obtain ⟨h1, h2, h3, h4, h5, h6, h7⟩ := hrep
      exact ⟨u, f.ended cq, hu, (congrArg Lane.frames (hset.lane k)).trans hend.frames, h1, h2, h3, h4, h5, h6, h7.trans hfcs,
        (congrArg Lane.st (hset.lane k)).trans hend.st, fun _ => ⟨rfl, hset.regs.trans hregs⟩, fun hno => absurd hno (by decide)⟩
    | false =>
      obtain ⟨hend, hregs, hcount⟩ := State.endFrame_fails hv hk hone hfcs cq
      obtain ⟨u, hu, hset⟩ := does_doneW hx hend.quiet
      obtain ⟨h1, h2, h3, h4, h5, h6, h7⟩ := Frame.withdraw_reports hrep
      exact ⟨u, (f.ended cq).withdraw, hu, (congrArg Lane.frames (hset.lane k)).trans hend.frames, h1, h2, h3, h4, h5, h6, h7.trans hfcs,
        (congrArg Lane.st (hset.lane k)).trans hend.st, fun hno => absurd hno (by decide),
        fun _ => ⟨fun a ha => (hset.reg a).trans (hregs a ha), (hset.get _).trans hcount, (f.ended cq).withdraw_ack⟩⟩

end

section
/-! OBLIGATIONS. The arithmetic steps (R157, R158). -/

namespace Sys2Proof.Machine

/-- A step that cannot fault: its effect, and the next step. -/
theorem State.At.plain_does {s : State} {e c op : Nat} {w : StepWord} (h : s.At e c w) (ho : w.op = op) {i : Instr}
    {eff : State → StepWord → State} (hx : exec i s = s.plainStep e c op eff) : Does i s ((eff s w).stepNext e c w) :=
  does_done (hx.trans (h.plainStep ho eff))

/-- ADD, AND, OR, XOR, SHL and SHR: the result goes to v[DST] and sets Z. -/
theorem State.At.alu_does {s : State} {e c op : Nat} {w : StepWord} (h : s.At e c w) (ho : w.op = op) {i : Instr}
    {f : StepWord → Word → Word → Word} (hx : exec i s = s.plainStep e c op fun s w => s.alu e c (f w) w) :
    let x := s.ctx e c
    let r := f w (x.v.getD w.dst 0) (if w.mod.testBit 0 then w.imm else x.v.getD w.src 0)
    Does i s ((s.setCtx e c { x with v := x.v.set w.dst r, z := decide (r = 0) }).stepNext e c w) :=
  h.plain_does ho hx

/-- SUB: the difference, with the flags of the comparison of v[DST] and B. -/
def State.subEff (e c : Nat) (s : State) (w : StepWord) : State :=
  let x := s.ctx e c
  s.setCtx e c ((x.setV w.dst (x.getV w.dst - x.opB w)).setCmp (x.getV w.dst) (x.opB w))

/-- CMP: the flags alone. -/
def State.cmpEff (e c : Nat) (s : State) (w : StepWord) : State :=
  let x := s.ctx e c
  s.setCtx e c (x.setCmp (x.getV w.dst) (x.opB w))

theorem execSubOp_eq (e c : Nat) (s : State) : exec (.subOp e c) s = s.plainStep e c 0x03 (State.subEff e c) := rfl

theorem execCmp_eq (e c : Nat) (s : State) : exec (.cmp e c) s = s.plainStep e c 0x09 (State.cmpEff e c) := rfl

end Sys2Proof.Machine

open Sys2Proof Sys2Proof.Machine

/-- Settles O32: the operation of each arithmetic step on v[DST] and operand B, with the flags it sets. -/
theorem arithmeticStepsFollowR158 : Obligations.ArithmeticStepsFollowR158 := by
  unfold Obligations.ArithmeticStepsFollowR158
  intro s e c w h x a b goes sets lt slt
  refine ⟨?add, ?sub, ?and, ?or, ?xor, ?shl, ?shr, ?cmp⟩
  case add => exact fun ho => h.alu_does ho (f := fun _ a b => a + b) rfl
  case sub => exact fun ho => h.plain_does ho (execSubOp_eq e c s)
  case and => exact fun ho => h.alu_does ho (f := fun _ a b => a &&& b) rfl
  case or => exact fun ho => h.alu_does ho (f := fun _ a b => a ||| b) rfl
  case xor => exact fun ho => h.alu_does ho (f := fun _ a b => a ^^^ b) rfl
  case shl => exact fun ho => h.alu_does ho (f := fun _ a b => a <<< (b.toNat % 32)) rfl
  case shr =>
    exact fun ho => h.alu_does ho
      (f := fun w a b => if w.mod.testBit 1 then a.sshiftRight (b.toNat % 32) else a >>> (b.toNat % 32)) rfl
  case cmp => exact fun ho => h.plain_does ho (execCmp_eq e c s)

end

section
/-! SUPPORT. What testing a condition leaves of a context (R155), and where a step goes by COND (R153). -/

namespace Sys2Proof.Machine

theorem State.setCtx_setCtx {s : State} (hs : Swf (fun _ => Ctx.reset) s.ctxs) (e c : Nat) (x y : Ctx) :
    (s.setCtx e c x).setCtx e c y = s.setCtx e c y := by
  have hm : sput (fun _ => Ctx.reset) (sput (fun _ => Ctx.reset) s.ctxs (8 * e + c) x) (8 * e + c) y =
      sput (fun _ => Ctx.reset) s.ctxs (8 * e + c) y := by
    have hx := Swf_sput hs (8 * e + c) x
    refine Swf_ext (Swf_sput hx _ _) (Swf_sput hs _ _) fun a => ?_
    by_cases ha : a = 8 * e + c
    · rw [ha, sget_sput_self hx.1, sget_sput_self hs.1]
    · rw [sget_sput_ne _ _ _ ha, sget_sput_ne _ _ _ ha, sget_sput_ne _ _ _ ha]
  exact congrArg (fun m => { s with ctxs := m }) hm

/-- A context whose condition `code` has been tested and found `b` (R155). -/
def Ctx.tested (x : Ctx) (b : Bool) (code : Nat) : Ctx :=
  if b = true ∧ code ∈ [17, 18, 19, 21, 22, 23, 28, 30, 31] then
    { x with
      lat := x.lat &&& ~~~((1 : Word) <<< code)
      evHop := if code = 22 then x.evtHop else x.evHop
      turnHop := if code = 22 then some x.evtHop else x.turnHop
      evtHop := if code = 22 then 0 else x.evtHop }
  else x

theorem Ctx.tested_goes (x : Ctx) (b : Bool) (code : Nat) : x.Goes (x.tested b code) := by
  unfold Ctx.tested
  split <;> rfl

section
variable {x : Ctx} {b : Bool} {code : Nat}

@[simp] theorem Ctx.tested_pc : (x.tested b code).pc = x.pc := by unfold Ctx.tested; split <;> rfl
@[simp] theorem Ctx.tested_steps : (x.tested b code).steps = x.steps := by unfold Ctx.tested; split <;> rfl
@[simp] theorem Ctx.tested_stack : (x.tested b code).stack = x.stack := by unfold Ctx.tested; split <;> rfl
@[simp] theorem Ctx.tested_v : (x.tested b code).v = x.v := (x.tested_goes b code).v

/-- The registers have no part in what a test clears. -/
theorem Ctx.tested_setV (i : Nat) (r : Word) : (x.setV i r).tested b code = { x.tested b code with v := x.v.set i r } := by
  unfold Ctx.tested
  split <;> rfl

end

theorem State.takeCond_fst (s : State) (e c code : Nat) : (s.takeCond e c code).1 = s.cond e c code := by
  unfold State.takeCond
  dsimp only
  split <;> rfl

theorem State.takeCond_snd (s : State) (e c code : Nat) : (s.takeCond e c code).2 =
    if s.cond e c code = true ∧ code ∈ [17, 18, 19, 21, 22, 23, 28, 30, 31] then
      s.setCtx e c ((s.ctx e c).tested (s.cond e c code) code)
    else s := by
  have hlist : (s.cond e c code && latchedCodes.contains code) = true ↔ s.cond e c code = true ∧ code ∈ [17, 18, 19, 21, 22, 23, 28, 30, 31] := by
    rw [Bool.and_eq_true, List.contains_iff_mem]
    rfl
  unfold State.takeCond Ctx.tested
  simp only [hlist]
  split
  · by_cases h22 : code = 22 <;> simp [h22]
  · rfl

section
variable {s : State} (hs : Swf (fun _ => Ctx.reset) s.ctxs) (e c : Nat)
include hs

theorem State.takeCond_ctx (code : Nat) : (s.takeCond e c code).2.ctx e c = (s.ctx e c).tested (s.cond e c code) code := by
  rw [State.takeCond_snd]
  split
  · exact State.setCtx_ctx_self hs e c _
  · rename_i h
    exact (if_neg h).symm

theorem State.takeCond_setCtx (code : Nat) (z : Ctx) : (s.takeCond e c code).2.setCtx e c z = s.setCtx e c z := by
  rw [State.takeCond_snd]
  split
  · exact State.setCtx_setCtx hs e c _ z
  · rfl

/-- The next step, as one change of the context. -/
theorem State.stepNext_tested (w : StepWord) : s.stepNext e c w =
    s.setCtx e c { (s.ctx e c).tested (s.cond e c w.cond) w.cond with
      pc := if s.cond e c w.cond then w.tgt else ((s.ctx e c).pc + 1) % 1024
      steps := (s.ctx e c).steps + 1 } := by
  rw [State.stepNext_eq, State.takeCond_setCtx hs, State.takeCond_ctx hs, State.takeCond_fst, Ctx.tested_pc, Ctx.tested_steps]

/-- A flow step whose COND is false goes to the next step. -/
theorem State.flowStep_past {w : StepWord} (hb : s.cond e c w.cond = false) (act : Ctx → Except Nat Ctx) :
    s.flowStep e c w act = .ok (s.setCtx e c { (s.ctx e c).tested (s.cond e c w.cond) w.cond with
      pc := ((s.ctx e c).pc + 1) % 1024
      steps := (s.ctx e c).steps + 1 }) := by
  unfold State.flowStep
  dsimp only
  rw [State.takeCond_setCtx hs, State.takeCond_ctx hs, State.takeCond_fst, if_neg (by rw [hb]; decide), Ctx.tested_pc, Ctx.tested_steps]

/-- A flow step whose COND is true is performed. -/
theorem State.flowStep_ok {w : StepWord} (hb : s.cond e c w.cond = true) {act : Ctx → Except Nat Ctx} {z : Ctx}
    (ha : act ((s.ctx e c).tested (s.cond e c w.cond) w.cond) = .ok z) :
    s.flowStep e c w act = .ok (s.setCtx e c { z with steps := (s.ctx e c).steps + 1 }) := by
  unfold State.flowStep
  dsimp only
  rw [State.takeCond_ctx hs, State.takeCond_fst, if_pos hb, ha]
  dsimp only
  rw [State.takeCond_setCtx hs, Ctx.tested_steps]

theorem State.flowStep_error {w : StepWord} (hb : s.cond e c w.cond = true) {act : Ctx → Except Nat Ctx} {k : Nat}
    (ha : act ((s.ctx e c).tested (s.cond e c w.cond) w.cond) = .error k) : s.flowStep e c w act = .error k := by
  unfold State.flowStep
  dsimp only
  rw [State.takeCond_ctx hs, State.takeCond_fst, if_pos hb, ha]

/-- No condition reads the registers. -/
theorem State.setV_cond (i : Nat) (r : Word) (code : Nat) : (s.setCtx e c ((s.ctx e c).setV i r)).cond e c code = s.cond e c code := by
  unfold State.cond
  dsimp only
  rw [State.setCtx_ctx_self hs]
  rfl

end

end Sys2Proof.Machine
end

section
/-! OBLIGATIONS. NOP, MOVI, JMP, CALL and RET (R153, R157). -/

namespace Sys2Proof.Machine

section
variable {s : State} {e c : Nat} {w : StepWord} (h : s.At e c w) {op : Nat}
include h

/-- A flow step that does not fault. -/
theorem State.At.flow_does (ho : w.op = op) {i : Instr} {act : StepWord → Ctx → Except Nat Ctx}
    (hx : exec i s = s.runStep e c (fun w => w.op = op) (fun s w => s.flowStep e c w (act w)) done) {t : State}
    (hf : s.flowStep e c w (act w) = .ok t) : Does i s t :=
  does_done (hx.trans (h.runStep_ok (decide_eq_true ho) hf))

theorem State.At.flow_faults (ho : w.op = op) {i : Instr} {act : StepWord → Ctx → Except Nat Ctx}
    (hx : exec i s = s.runStep e c (fun w => w.op = op) (fun s w => s.flowStep e c w (act w)) done) {k : Nat}
    (hf : s.flowStep e c w (act w) = .error k) : exec i s = doneW (s.faultCtx e c k) :=
  hx.trans (h.runStep_error (decide_eq_true ho) hf)

end

/-- What JMP does to its context. -/
def Ctx.jump (w : StepWord) (x : Ctx) : Except Nat Ctx := .ok { x with pc := x.flowTarget w }

/-- What CALL does to its context. -/
def Ctx.call (w : StepWord) (x : Ctx) : Except Nat Ctx :=
  if 4 ≤ x.stack.length then .error 4
  else .ok { x with stack := x.stack ++ [(x.pc + 1) % 1024], pc := x.flowTarget w }

/-- What RET does to its context. -/
def Ctx.ret (x : Ctx) : Except Nat Ctx :=
  match x.stack.getLast? with
  | none => .error 4
  | some p => .ok { x with stack := x.stack.dropLast, pc := p }

theorem execJmp_eq (e c : Nat) (s : State) :
    exec (.jmp e c) s = s.runStep e c (fun w => w.op = 0x3C) (fun s w => s.flowStep e c w (Ctx.jump w)) done := rfl

theorem execCall_eq (e c : Nat) (s : State) :
    exec (.call e c) s = s.runStep e c (fun w => w.op = 0x3D) (fun s w => s.flowStep e c w (Ctx.call w)) done := rfl

theorem execRet_eq (e c : Nat) (s : State) :
    exec (.ret e c) s = s.runStep e c (fun w => w.op = 0x3E) (fun s w => s.flowStep e c w Ctx.ret) done := rfl

theorem Ctx.ret_append {x : Ctx} {k : List Nat} {p : Nat} (h : x.stack = k ++ [p]) : x.ret = .ok { x with stack := k, pc := p } := by
  unfold Ctx.ret
  rw [h, List.getLast?_append_of_ne_nil _ (by simp), List.dropLast_concat]
  rfl

theorem Ctx.flowTarget_tested (x : Ctx) (b : Bool) (code : Nat) (w : StepWord) : (x.tested b code).flowTarget w = x.flowTarget w := by
  unfold Ctx.flowTarget Ctx.getV
  rw [Ctx.tested_v]

end Sys2Proof.Machine

open Sys2Proof Sys2Proof.Machine

/-- Settles O33: each step's effect, and the place that COND gives it. -/
theorem stepsGoOnByCond : Obligations.StepsGoOnByCond := by
  unfold Obligations.StepsGoOnByCond
  intro s e c w hc hh hf h x b y next target goes
  have hs := hc.canonical.ctxs
  refine ⟨?nop, ?movi, ?jmp, ?call, ?ret⟩
  case nop =>
    intro ho
    have hd := h.plain_does ho (i := .nop e c) (eff := fun s _ => s) rfl
    rw [State.stepNext_tested hs] at hd
    exact hd
  case movi =>
    intro ho
    have hd := h.plain_does ho (i := .movi e c) (eff := fun s w => s.setDst e c w (if w.m 0 then s.srcV e c w + w.imm else w.imm)) rfl
    rw [State.setDst, State.stepNext_tested (Swf_sput hs _ _), State.setV_cond hs, State.setCtx_ctx_self hs,
      State.setCtx_setCtx hs, Ctx.tested_setV] at hd
    exact hd
  case jmp =>
    intro ho
    by_cases hb : b = true
    · have hd := h.flow_does ho (execJmp_eq e c s) (State.flowStep_ok hs e c hb rfl)
      rw [Ctx.flowTarget_tested] at hd
      rw [if_pos hb]
      exact hd
    · rw [if_neg hb]
      exact h.flow_does ho (execJmp_eq e c s) (State.flowStep_past hs e c (Bool.eq_false_of_not_eq_true hb) _)
  case call =>
    intro ho
    refine ⟨fun hb => h.flow_does ho (execCall_eq e c s) (State.flowStep_past hs e c hb _), fun hb hlen => ?_, fun hb hlen => ?_⟩
    · have hd := h.flow_does ho (execCall_eq e c s) (State.flowStep_ok hs e c hb (if_neg (by rw [Ctx.tested_stack]; exact Nat.not_le.2 hlen)))
      rw [Ctx.flowTarget_tested, Ctx.tested_stack, Ctx.tested_pc] at hd
      exact hd
    · exact faults_of_exec hc hh hf (h.flow_faults ho (execCall_eq e c s)
        (State.flowStep_error hs e c hb (if_pos (by rw [Ctx.tested_stack]; exact hlen))))
  case ret =>
    intro ho
    refine ⟨fun hb => h.flow_does ho (execRet_eq e c s) (State.flowStep_past hs e c hb _), fun k p hb hst => ?_, fun hb hst => ?_⟩
    · exact h.flow_does ho (execRet_eq e c s) (State.flowStep_ok hs e c hb (Ctx.ret_append (Ctx.tested_stack.trans hst)))
    · refine faults_of_exec hc hh hf (h.flow_faults ho (execRet_eq e c s) (State.flowStep_error hs e c hb ?_))
      unfold Ctx.ret
      rw [Ctx.tested_stack, show (s.ctx e c).stack = [] from hst]
      rfl

end

section
/-! SUPPORT. The places that LD and ST reach (R159, R267), and what each does there (R224, R236). -/

namespace Sys2Proof.Machine

/-! ### Places -/

/-- An access of n bytes lies within its space, aligned where the space asks for it; `b` is v[SRC] (R159). -/
def StepWord.inRange (w : StepWord) (b : Word) (n : Nat) : Prop :=
  (w.mod % 4 = 0 ∧ (b + w.imm).toNat + n ≤ 320) ∨
  (w.mod % 4 = 1 ∧ b.toNat < 1024 ∧ w.imm.toNat + n ≤ 64 ∧ w.imm.toNat % n = 0) ∨
  (w.mod % 4 = 2 ∧ (b + w.imm).toNat + n ≤ 128 ∧ (b + w.imm).toNat % n = 0) ∨
  (w.mod % 4 = 3 ∧ 0x21000000 ≤ (b + w.imm).toNat ∧ (b + w.imm).toNat + n ≤ 0x21040000 ∧ (b + w.imm).toNat % n = 0)

/-- An access of n bytes within its space reaches memory at `a`. -/
def State.stepReaches (s : State) (e c : Nat) (w : StepWord) (n a : Nat) : Prop :=
  let b := s.srcV e c w
  w.inRange b n ∧
    ((w.mod % 4 = 0 ∧ ∃ k f, s.curFrame e c = some (k, f) ∧ a = bufAddr k f.buf + (b + w.imm).toNat) ∨
     (w.mod % 4 = 1 ∧ a = 0x21020000 + 64 * b.toNat + w.imm.toNat) ∨ (w.mod % 4 = 3 ∧ a = (b + w.imm).toNat))

/-- A place in memory, if its banks serve it (R267). -/
def State.memPlace (s : State) (n a : Nat) : Except Nat Place := if s.rangeRefused a n then .error 3 else .ok (.mem a)

/-- A width of Table 6-7 divides the radio memory's base. -/
theorem accWidth_eq {w : StepWord} {n : Nat} (h : (w.mod / 4 % 4, n) ∈ [(0, 1), (1, 2), (2, 4)]) : accWidth w = some n ∧ 0x21000000 % n = 0 := by
  unfold accWidth
  simp only [List.mem_cons, Prod.mk.injEq, List.not_mem_nil, or_false] at h
  rcases h with ⟨hm, rfl⟩ | ⟨hm, rfl⟩ | ⟨hm, rfl⟩ <;> rw [hm] <;> exact ⟨rfl, rfl⟩

theorem accWidth_none {w : StepWord} (h : w.mod / 4 % 4 = 3) : accWidth w = none := by
  unfold accWidth
  rw [h]
  rfl

theorem offOk_iff {off n size : Nat} : offOk off n size true = true ↔ off + n ≤ size ∧ off % n = 0 := by simp [offOk]

theorem offOk_any_iff {off n size : Nat} : offOk off n size false = true ↔ off + n ≤ size := by simp [offOk]

section
variable {s : State} {e c n : Nat} {w : StepWord}

theorem State.place_buffer (h : w.mod % 4 = 0) : s.place e c w n =
    if (s.srcV e c w + w.imm).toNat + n ≤ 320 then
      match s.curFrame e c with
      | some (k, f) => s.memPlace n (bufAddr k f.buf + (s.srcV e c w + w.imm).toNat)
      | none => .error 5
    else .error 3 := by
  unfold State.place
  rw [h]
  dsimp only
  generalize (s.srcV e c w + w.imm).toNat = off
  by_cases ho : off + n ≤ 320
  · rw [if_pos ho, offOk_any_iff.2 ho]
    rfl
  · rw [if_neg ho, if_pos (by rw [Bool.not_eq_true', ← Bool.not_eq_true, offOk_any_iff]; exact ho)]
    rfl

theorem State.place_nbr (h : w.mod % 4 = 1) : s.place e c w n =
    if (s.srcV e c w).toNat < 1024 ∧ w.imm.toNat + n ≤ 64 ∧ w.imm.toNat % n = 0 then
      s.memPlace n (nbrAddr (s.srcV e c w).toNat + w.imm.toNat)
    else .error 3 := by
  unfold State.place
  rw [h]
  simp [offOk, State.memPlace]

theorem State.place_scratch (h : w.mod % 4 = 2) : s.place e c w n =
    if (s.srcV e c w + w.imm).toNat + n ≤ 128 ∧ (s.srcV e c w + w.imm).toNat % n = 0 then
      .ok (.scratch (s.srcV e c w + w.imm).toNat)
    else .error 3 := by
  unfold State.place
  rw [h]
  simp [offOk]

theorem State.place_radio (h : w.mod % 4 = 3) (hn : 0x21000000 % n = 0) : s.place e c w n =
    if 0x21000000 ≤ (s.srcV e c w + w.imm).toNat ∧ (s.srcV e c w + w.imm).toNat + n ≤ 0x21040000 ∧ (s.srcV e c w + w.imm).toNat % n = 0 then
      s.memPlace n (s.srcV e c w + w.imm).toNat
    else .error 3 := by
  have hal : ∀ {off : Nat}, 0x21000000 ≤ off → ((off - 0x21000000) % n = 0 ↔ off % n = 0) := fun {off} ho => by
    obtain ⟨j, hj⟩ := Nat.dvd_of_mod_eq_zero hn
    constructor <;> intro hm <;> obtain ⟨i, hi⟩ := Nat.dvd_of_mod_eq_zero hm
    · exact Nat.mod_eq_zero_of_dvd ⟨i + j, by rw [Nat.mul_add]; omega⟩
    · exact Nat.mod_eq_zero_of_dvd ⟨i - j, by rw [Nat.mul_sub]; omega⟩
  unfold State.place
  rw [h]
  dsimp only
  generalize (s.srcV e c w + w.imm).toNat = off
  refine ite_congr (propext ?_) (fun _ => rfl) fun _ => rfl
  rw [Bool.and_eq_true, decide_eq_true_eq, offOk_iff]
  refine and_congr_right fun ho => ?_
  rw [hal ho]
  exact and_congr_left fun _ => by omega

/-- The place of an access that reaches memory. -/
theorem State.stepReaches.place {a : Nat} (h : s.stepReaches e c w n a) (hn : 0x21000000 % n = 0) : s.place e c w n = s.memPlace n a := by
  obtain ⟨hr, ⟨hm, k, f, hcur, rfl⟩ | ⟨hm, rfl⟩ | ⟨hm, rfl⟩⟩ := h
  all_goals unfold StepWord.inRange at hr
  · rw [State.place_buffer hm, if_pos (by omega), hcur]
  · have hin : (s.srcV e c w).toNat < 1024 ∧ w.imm.toNat + n ≤ 64 ∧ w.imm.toNat % n = 0 := by omega
    rw [State.place_nbr hm, if_pos hin, nbrAddr, Nat.mod_eq_of_lt hin.1]
  · rw [State.place_radio hm hn, if_pos (by omega)]

theorem State.place_served {a : Nat} (h : s.stepReaches e c w n a) (hn : 0x21000000 % n = 0) (hb : s.rangeRefused a n = false) :
    s.place e c w n = .ok (.mem a) :=
  (h.place hn).trans (if_neg (by rw [hb]; decide))

theorem State.place_refused {a : Nat} (h : s.stepReaches e c w n a) (hn : 0x21000000 % n = 0) (hb : s.rangeRefused a n = true) :
    s.place e c w n = .error 3 :=
  (h.place hn).trans (if_pos hb)

theorem State.place_outside (h : ¬w.inRange (s.srcV e c w) n) (hn : 0x21000000 % n = 0) : s.place e c w n = .error 3 := by
  unfold StepWord.inRange at h
  simp only [not_or] at h
  obtain ⟨h0, h1, h2, h3⟩ := h
  rcases (by omega : w.mod % 4 = 0 ∨ w.mod % 4 = 1 ∨ w.mod % 4 = 2 ∨ w.mod % 4 = 3) with hm | hm | hm | hm
  · rw [State.place_buffer hm, if_neg fun hr => h0 ⟨hm, hr⟩]
  · rw [State.place_nbr hm, if_neg fun hr => h1 ⟨hm, hr⟩]
  · rw [State.place_scratch hm, if_neg fun hr => h2 ⟨hm, hr⟩]
  · rw [State.place_radio hm hn, if_neg fun hr => h3 ⟨hm, hr⟩]

theorem State.place_noFrame (h : w.mod % 4 = 0) (hr : w.inRange (s.srcV e c w) n) (hcur : s.curFrame e c = none) :
    s.place e c w n = .error 5 := by
  unfold StepWord.inRange at hr
  rw [State.place_buffer h, if_pos (by omega), hcur]

theorem State.place_inScratch (h : w.mod % 4 = 2) (hr : w.inRange (s.srcV e c w) n) :
    s.place e c w n = .ok (.scratch (s.srcV e c w + w.imm).toNat) := by
  unfold StepWord.inRange at hr
  rw [State.place_scratch h, if_pos (by omega)]

/-! ### LD -/

theorem State.placeWake_devRest (s : State) (n : Nat) (p : Place) : DevRest s (s.placeWake n p) := by
  cases p with
  | scratch o => exact .refl s
  | mem a => exact s.wakeRange_devRest a n

theorem State.Quiet.placeWake (q : s.Quiet) (n : Nat) (p : Place) : (s.placeWake n p).Quiet := by
  cases p with
  | scratch o => exact q
  | mem a => exact (s.wakeRange_turned a n).quiet q

/-- LD from a place: the bank wakes, v[DST] takes the value. -/
theorem State.At.ld_does (h : s.At e c w) (q : s.Quiet) (ho : w.op = 0x10) (hn : accWidth w = some n) {p : Place}
    (hp : s.place e c w n = .ok p) :
    Does (.ld e c) s (((s.placeWake n p).setCtx e c
      ((s.ctx e c).setV w.dst (extend (w.m 4) n (leNat (s.placeBytes e c n p))))).stepNext e c w) := by
  have heff : s.ldEff e c w = .ok ((s.placeWake n p).setCtx e c
      ((s.ctx e c).setV w.dst (extend (w.m 4) n (leNat (s.placeBytes e c n p))))) := by
    unfold State.ldEff
    rw [hn]
    dsimp only
    rw [hp]
    dsimp only
    rw [State.setDst, (s.placeWake_devRest n p).ctx]
  exact h.goes ho (eff := fun s w => s.ldEff e c w) rfl heff ((q.placeWake n p).setCtx e c _)

/-! ### ST -/

/-- ST to a place. -/
def State.stPlace (s : State) (e c : Nat) (bs : List Byte) : Place → State
  | .scratch o => s.setCtx e c ((s.ctx e c).setScratch o bs)
  | .mem a => s.stMem e c a bs

theorem State.stMem_parse {a : Nat} {bs : List Byte} (h0 : 0x2103F000 ≤ a) (h1 : a < 0x2103F810) : s.stMem e c a bs = s :=
  if_pos (by unfold parseArea; simp [h0, h1])

theorem State.stMem_plain {a : Nat} {bs : List Byte} (h : ¬(0x2103F000 ≤ a ∧ a < 0x2103F810)) (hr : rxnextOf a = none) :
    s.stMem e c a bs = s.devWrite a bs := by
  unfold State.stMem
  rw [if_neg (by unfold parseArea; simpa using h), hr]

theorem State.stMem_rxnext {a m : Nat} {bs : List Byte} (h : ¬(0x2103F000 ≤ a ∧ a < 0x2103F810)) (hr : rxnextOf a = some m) :
    s.stMem e c a bs =
      { s.devWrite a bs with link := { s.link with thru := (s.link.thru.filter fun p => p.1 != m) ++ [(m, e, c)] } } := by
  have hlink : (s.devWrite a bs).link = s.link := by rw [s.devWrite_devRest a bs]
  unfold State.stMem
  rw [if_neg (by unfold parseArea; simpa using h), hr]
  dsimp only
  rw [hlink]

theorem State.Quiet.stPlace (q : s.Quiet) (bs : List Byte) (p : Place) : (s.stPlace e c bs p).Quiet := by
  cases p with
  | scratch o => exact q.setCtx e c _
  | mem a =>
    show (s.stMem e c a bs).Quiet
    by_cases hp : 0x2103F000 ≤ a ∧ a < 0x2103F810
    · rw [State.stMem_parse hp.1 hp.2]
      exact q
    · have hq := (s.devWrite_turned a bs).quiet q
      cases hr : rxnextOf a with
      | none =>
        rw [State.stMem_plain hp hr]
        exact hq
      | some m =>
        rw [State.stMem_rxnext hp hr]
        exact hq.of rfl rfl rfl rfl rfl rfl rfl

theorem State.At.st_does (h : s.At e c w) (q : s.Quiet) (ho : w.op = 0x11) (hn : accWidth w = some n) {p : Place}
    (hp : s.place e c w n = .ok p) :
    Does (.st e c) s ((s.stPlace e c (leBytes n ((s.ctx e c).getV w.dst).toNat) p).stepNext e c w) := by
  have heff : s.stEff e c w = .ok (s.stPlace e c (leBytes n ((s.ctx e c).getV w.dst).toNat) p) := by
    unfold State.stEff
    rw [hn]
    dsimp only
    rw [hp]
    cases p <;> rfl
  exact h.goes ho (eff := fun s w => s.stEff e c w) rfl heff (q.stPlace _ p)

/-! ### Faults -/

/-- An LD or an ST whose place cannot be reached. -/
theorem State.At.access_faults (h : s.At e c w) (hc : s.Calm) (hh : s.rfe.holder = none) (hf : s.reg Reg.REEL_FATALC = 0)
    (hn : accWidth w = some n) {k : Nat} (hp : s.place e c w n = .error k) :
    (w.op = 0x10 → Faults (.ld e c) s e c k) ∧ (w.op = 0x11 → Faults (.st e c) s e c k) := by
  refine ⟨fun ho => faults_of_exec hc hh hf (h.dataStep_error ho (eff := fun s w => s.ldEff e c w) ?_),
    fun ho => faults_of_exec hc hh hf (h.dataStep_error ho (eff := fun s w => s.stEff e c w) ?_)⟩
  · unfold State.ldEff
    rw [hn]
    dsimp only
    rw [hp]
  · unfold State.stEff
    rw [hn]
    dsimp only
    rw [hp]

/-- A width that Table 6-7 does not list. -/
theorem State.At.access_badWidth (h : s.At e c w) (hc : s.Calm) (hh : s.rfe.holder = none) (hf : s.reg Reg.REEL_FATALC = 0)
    (hn : accWidth w = none) : (w.op = 0x10 → Faults (.ld e c) s e c 2) ∧ (w.op = 0x11 → Faults (.st e c) s e c 2) := by
  refine ⟨fun ho => faults_of_exec hc hh hf (h.dataStep_error ho (eff := fun s w => s.ldEff e c w) ?_),
    fun ho => faults_of_exec hc hh hf (h.dataStep_error ho (eff := fun s w => s.stEff e c w) ?_)⟩
  · unfold State.ldEff
    rw [hn]
  · unfold State.stEff
    rw [hn]

end

end Sys2Proof.Machine
end

section
/-! OBLIGATIONS. LD and ST (R159, R224, R236, R267, R435). -/

open Sys2Proof Sys2Proof.Machine

/-- Settles O34: the place of each access, what LD and ST do there, and the fault where there is none. -/
theorem ldAndStReachTheirSpaces : Obligations.LdAndStReachTheirSpaces := by
  unfold Obligations.LdAndStReachTheirSpaces
  intro s e c n w hc hh hf h x b off space stored loads inRange lies places _
  refine ⟨fun hm => h.access_badWidth hc hh hf (accWidth_none hm), fun hw => ?_⟩
  obtain ⟨hn, hbase⟩ := accWidth_eq hw
  refine ⟨?memory, ?scratch, ?refused, ?outside, ?noFrame⟩
  case memory =>
    rintro a ⟨hl, hb⟩
    have hp := State.place_served (e := e) (c := c) hl hbase hb
    refine ⟨fun ho => h.ld_does hc.quiet ho hn hp, fun ho hout => ?_, fun ho h0 h1 => ?_⟩
    · have hd := h.st_does hc.quiet ho hn hp
      rw [State.stPlace] at hd
      exact ⟨fun hr => State.stMem_plain hout hr ▸ hd, fun m hr => State.stMem_rxnext hout hr ▸ hd⟩
    · have hd := h.st_does hc.quiet ho hn hp
      rw [State.stPlace, State.stMem_parse h0 h1] at hd
      exact hd
  case scratch =>
    intro hsp hin
    have hp := State.place_inScratch (s := s) (e := e) (c := c) hsp hin
    exact ⟨fun ho => h.ld_does hc.quiet ho hn hp, fun ho => h.st_does hc.quiet ho hn hp⟩
  case refused => exact fun a hl hb => h.access_faults hc hh hf hn (State.place_refused hl hbase hb)
  case outside => exact fun hout => h.access_faults hc hh hf hn (State.place_outside hout hbase)
  case noFrame => exact fun hsp hin hcur => h.access_faults hc hh hf hn (State.place_noFrame hsp hin hcur)

end

section
/-! SUPPORT. What the conditions of a context read (R154, Table 6-5), and which waits settling ends (R146, R147). -/

namespace Sys2Proof.Machine

/-! ### What a condition reads -/

/-- The flags of `y` are those of `x`. -/
def Ctx.SameFlags (x y : Ctx) : Prop :=
  y = { y with z := x.z, lt := x.lt, slt := x.slt, hit := x.hit, acc := x.acc, epr := x.epr, lat := x.lat, pend := x.pend }

/-- `t` is `s` in what the conditions read beside the contexts. -/
structure SameAir (s t : State) : Prop where
  rest : t = { t with regs := s.regs, lanes := s.lanes, txq := s.txq, tb := s.tb, env := s.env }
  stopping : (t.eng 16).stopping = (s.eng 16).stopping

theorem SameAir.setCtx (s : State) (e c : Nat) (x : Ctx) : SameAir s (s.setCtx e c x) := ⟨rfl, rfl⟩

theorem SameAir.trans {s t u : State} (h : SameAir s t) (k : SameAir t u) : SameAir s u := by
  refine ⟨?_, k.stopping.trans h.stopping⟩
  have hk := k.rest
  rw [h.rest] at hk
  exact hk

theorem Settles.sameAir {s t : State} (h : Settles s t) : SameAir s t := ⟨by rw [h.rest], by rw [h.eng]⟩

/-- A condition reads the flags of its context and what `SameAir` names. -/
theorem SameAir.cond {s t : State} (h : SameAir s t) {e c : Nat} (hx : Ctx.SameFlags (s.ctx e c) (t.ctx e c)) (code : Nat) :
    t.cond e c code = s.cond e c code := by
  obtain ⟨hr, hstop⟩ := h
  generalize hxd : s.ctx e c = x at hx
  generalize hyd : t.ctx e c = y at hx
  have hq : t.quiescing e = s.quiescing e := by
    unfold State.quiescing
    rw [hstop, hr]
    rfl
  unfold State.cond
  dsimp only
  rw [hq, hxd, hyd, hx, hr]
  rfl

theorem SameAir.anyCond {s t : State} (h : SameAir s t) {e c : Nat} (hx : Ctx.SameFlags (s.ctx e c) (t.ctx e c)) (m : Word) :
    t.anyCond e c m = s.anyCond e c m := by
  unfold State.anyCond
  simp only [h.cond hx]

theorem SameAir.urgentCond {s t : State} (h : SameAir s t) {e c : Nat} (hx : Ctx.SameFlags (s.ctx e c) (t.ctx e c)) (m : Word) :
    t.urgentCond e c m = s.urgentCond e c m := by
  unfold State.urgentCond
  simp only [h.cond hx]

/-! ### The waits that end -/

/-- A context that waits for the conditions of the mask `m`, once the waits that have come true have ended (R146, R147). -/
def State.woken (s : State) (e c : Nat) (m : Word) : Ctx :=
  if s.anyCond e c m then
    { s.ctx e c with st := .ready, urg := s.urgentCond e c m, woke := s.now, wait := .none, resume := true }
  else s.ctx e c

theorem State.woken_flags (s : State) (e c : Nat) (m : Word) : Ctx.SameFlags (s.ctx e c) (s.woken e c m) := by
  unfold State.woken
  split <;> rfl

theorem State.wakeCtx_rest (s : State) (e c : Nat) : s.wakeCtx e c = { s with ctxs := (s.wakeCtx e c).ctxs } := by
  unfold State.wakeCtx
  dsimp only
  split
  · split <;> rfl
  · rfl

theorem State.wakeCtx_ctx_ne (s : State) {e c e' c' : Nat} (h : 8 * e + c ≠ 8 * e' + c') : (s.wakeCtx e' c').ctx e c = s.ctx e c := by
  unfold State.wakeCtx
  dsimp only
  split
  · split
    · exact State.setCtx_ctx_ne _ _ h
    · rfl
  · rfl

/-- A property that a step of a fold brings about from another one, each kept by every step. -/
theorem foldl_reaches {α β : Type} {P Q : α → Prop} {f : α → β → α} {l : List β} (hP : ∀ j ∈ l, ∀ t, P t → P (f t j))
    (hQ : ∀ j ∈ l, ∀ t, Q t → Q (f t j)) {i : β} (hi : i ∈ l) (hPQ : ∀ t, P t → Q (f t i)) (s : α) (hs : P s) : Q (l.foldl f s) := by
  obtain ⟨l1, l2, rfl⟩ := List.append_of_mem hi
  rw [List.foldl_append, List.foldl_cons]
  exact List.foldlRecOn l2 f (hPQ _ (List.foldlRecOn l1 f hs fun t ht j hj => hP j (by simp [hj]) t ht))
    fun t ht j hj => hQ j (by simp [hj]) t ht

/-- A key that is not listed reads its default. -/
theorem sget_unlisted {α : Type} {d : Nat → α} {l : List (Nat × α)} {a : Nat} (h : a ∉ l.map Prod.fst) : sget d l a = d a := by
  induction l with
  | nil => rfl
  | cons p l ih =>
    obtain ⟨k, v⟩ := p
    rw [List.map_cons, List.mem_cons, not_or] at h
    exact (if_neg h.1).trans (ih h.2)

/-- Settling changes no context after the waits that have come true have ended. -/
theorem State.settle_ctxs (s : State) : s.settle.ctxs = ((s.engs.map Prod.fst).foldl State.wakeEng s).ctxs := by
  have hmod : ∀ (t : State) (d : CoreId), (t.modStep d).ctxs = t.ctxs := fun t d => by cases d <;> rfl
  have hwfi : ∀ (t : State) (d : CoreId), (t.wfiStep d).ctxs = t.ctxs := fun t d => by
    have hres : (t.resumeCore d).ctxs = t.ctxs := by
      unfold State.resumeCore
      dsimp only
      split
      · cases d <;> rfl
      · rfl
    exact ite_same State.ctxs hres rfl
  have hmode : ∀ t : State, t.modeStep.ctxs = t.ctxs := fun t => ite_same State.ctxs rfl rfl
  unfold State.settle
  rw [hmode, hwfi, hwfi, hmod, hmod]

section
variable {s : State} {e c : Nat} {m : Word} (hc : c < nctx e) (hst : (s.ctx e c).st = .waiting) (hw : (s.ctx e c).wait = .ev m)

/-- `t` is `s` but for contexts, among which that of the wait is `x`. -/
def State.Waking (s : State) (e c : Nat) (x : Ctx) (t : State) : Prop := t = { s with ctxs := t.ctxs } ∧ t.ctx e c = x

theorem State.Waking.sameAir {x : Ctx} {t : State} (h : s.Waking e c x t) : SameAir s t := ⟨by rw [h.1], by rw [h.1]; rfl⟩

theorem State.Waking.wakeCtx_ne {x : Ctx} {t : State} (h : s.Waking e c x t) {e' c' : Nat} (hne : 8 * e + c ≠ 8 * e' + c') :
    s.Waking e c x (t.wakeCtx e' c') :=
  ⟨(t.wakeCtx_rest e' c').trans (by rw [h.1]), (t.wakeCtx_ctx_ne hne).trans h.2⟩

include hst hw

/-- The wait's own turn: it ends if a condition of its mask is true. -/
theorem State.Waking.wakeCtx_self {t : State} (h : s.Waking e c (s.ctx e c) t) : s.Waking e c (s.woken e c m) (t.wakeCtx e c) := by
  have hx : Ctx.SameFlags (s.ctx e c) (t.ctx e c) := by rw [h.2]; rfl
  have hnow : t.now = s.now := by rw [h.1]
  refine ⟨(t.wakeCtx_rest e c).trans (by rw [h.1]), ?_⟩
  unfold State.wakeCtx State.woken
  dsimp only
  rw [h.2, hst, hw]
  dsimp only
  rw [h.sameAir.anyCond hx, h.sameAir.urgentCond hx, hnow]
  split
  · refine sget_sput_ne_default _ _ fun hd => ?_
    exact nomatch congrArg Ctx.st hd
  · exact h.2

theorem State.Waking.wakeCtx_again {t : State} (h : s.Waking e c (s.woken e c m) t) : s.Waking e c (s.woken e c m) (t.wakeCtx e c) := by
  have hx : Ctx.SameFlags (s.ctx e c) (t.ctx e c) := by rw [h.2]; exact s.woken_flags e c m
  by_cases hb : s.anyCond e c m = true
  · have hst' : (t.ctx e c).st = .ready := by
      rw [h.2, State.woken, if_pos hb]
    have heq : t.wakeCtx e c = t := by
      unfold State.wakeCtx
      dsimp only
      rw [hst']
    rw [heq]
    exact h
  · have hwk : s.woken e c m = s.ctx e c := if_neg hb
    rw [hwk] at h
    exact h.wakeCtx_self hst hw

/-- The wait goes on, or it has ended as it must. -/
def State.MayWake (s : State) (e c : Nat) (m : Word) (t : State) : Prop := s.Waking e c (s.ctx e c) t ∨ s.Waking e c (s.woken e c m) t

theorem State.MayWake.wakeCtx_self {t : State} (h : s.MayWake e c m t) : s.Waking e c (s.woken e c m) (t.wakeCtx e c) :=
  h.elim (fun h => h.wakeCtx_self hst hw) fun h => h.wakeCtx_again hst hw

include hc

theorem State.MayWake.wakeCtx {t : State} (h : s.MayWake e c m t) {e' c' : Nat} (hc' : c' < nctx e') : s.MayWake e c m (t.wakeCtx e' c') := by
  by_cases hk : 8 * e + c = 8 * e' + c'
  · obtain ⟨rfl, rfl⟩ : e' = e ∧ c' = c := by
      have h1 := nctx_le e
      have h2 := nctx_le e'
      omega
    exact .inr (h.wakeCtx_self hst hw)
  · exact h.imp (·.wakeCtx_ne hk) (·.wakeCtx_ne hk)

theorem State.Waking.wakeCtx {t : State} (h : s.Waking e c (s.woken e c m) t) {e' c' : Nat} (hc' : c' < nctx e') :
    s.Waking e c (s.woken e c m) (t.wakeCtx e' c') := by
  by_cases hk : 8 * e + c = 8 * e' + c'
  · obtain ⟨rfl, rfl⟩ : e' = e ∧ c' = c := by
      have h1 := nctx_le e
      have h2 := nctx_le e'
      omega
    exact h.wakeCtx_again hst hw
  · exact h.wakeCtx_ne hk

theorem State.MayWake.wakeEng {t : State} (h : s.MayWake e c m t) (e' : Nat) : s.MayWake e c m (t.wakeEng e') := by
  unfold State.wakeEng
  split
  · exact List.foldlRecOn _ _ h fun t ht j hj => State.MayWake.wakeCtx hc hst hw ht (List.mem_range.1 hj)
  · exact h

theorem State.Waking.wakeEng {t : State} (h : s.Waking e c (s.woken e c m) t) (e' : Nat) : s.Waking e c (s.woken e c m) (t.wakeEng e') := by
  unfold State.wakeEng
  split
  · exact List.foldlRecOn _ _ h fun t ht j hj => State.Waking.wakeCtx hc hst hw ht (List.mem_range.1 hj)
  · exact h

theorem State.MayWake.wakeEng_self (hrun : (s.eng e).run = true) {t : State} (h : s.MayWake e c m t) :
    s.Waking e c (s.woken e c m) (t.wakeEng e) := by
  have heng : t.eng e = s.eng e := h.elim (fun h => by rw [h.1]; rfl) fun h => by rw [h.1]; rfl
  unfold State.wakeEng
  rw [heng, if_pos hrun]
  exact foldl_reaches (P := s.MayWake e c m) (Q := s.Waking e c (s.woken e c m))
    (fun j hj t ht => State.MayWake.wakeCtx hc hst hw ht (List.mem_range.1 hj))
    (fun j hj t ht => State.Waking.wakeCtx hc hst hw ht (List.mem_range.1 hj)) (List.mem_range.2 hc)
    (fun t ht => State.MayWake.wakeCtx_self hst hw ht) t h

/-- What settling makes of a context of a running engine that waits for conditions. -/
theorem State.settle_woken (hrun : (s.eng e).run = true) : s.settle.ctx e c = s.woken e c m := by
  have he : e ∈ s.engs.map Prod.fst := by
    by_contra hno
    rw [State.eng, sget_unlisted hno] at hrun
    exact nomatch hrun
  have h : s.Waking e c (s.woken e c m) ((s.engs.map Prod.fst).foldl State.wakeEng s) :=
    foldl_reaches (P := s.MayWake e c m) (Q := s.Waking e c (s.woken e c m)) (fun j _ t ht => State.MayWake.wakeEng hc hst hw ht j)
      (fun j _ t ht => State.Waking.wakeEng hc hst hw ht j) he
      (fun t ht => State.MayWake.wakeEng_self hc hst hw hrun ht) s (.inl ⟨rfl, rfl⟩)
  rw [← h.2, State.ctx, State.settle_ctxs]
  rfl

end

/-- Where nothing is due, a command that could set more off settles twice. -/
theorem State.Quiet.doneW_eq {s : State} (q : s.Quiet) : doneW s = .next s.settle.settle := by
  have q1 := s.settle_settles.quiet q
  unfold doneW
  rw [q.boundaries, q1.hoverStep, q1.fioStep, q1.wakeStep, q1.ripStep]
  rfl

/-- A command that leaves a context waiting for conditions ends the wait if one of them is true. -/
theorem doneW_endsWait {s : State} (q : s.Quiet) {e c : Nat} {m : Word} (hc : c < nctx e) (hrun : (s.eng e).run = true)
    (hst : (s.ctx e c).st = .waiting) (hw : (s.ctx e c).wait = .ev m) :
    ∃ u, doneW s = .next u ∧ Settles s u ∧ u.ctx e c = s.woken e c m := by
  have h1 := State.settle_woken hc hst hw hrun
  have hset := s.settle_settles
  refine ⟨_, q.doneW_eq, hset.trans (State.settle_settles _), ?_⟩
  by_cases hb : s.anyCond e c m = true
  · have hready : (s.settle.ctx e c).st = .ready := by
      rw [h1, State.woken, if_pos hb]
    exact (s.settle.settle_settles.ctx_still (by rw [hready]; exact nofun)).trans h1
  · have hsame : s.settle.ctx e c = s.ctx e c := h1.trans (if_neg hb)
    have hany : s.settle.anyCond e c m = s.anyCond e c m := hset.sameAir.anyCond (by rw [hsame]; rfl) m
    rw [State.settle_woken hc (hsame ▸ hst) (hsame ▸ hw) ((hset.eng e).symm ▸ hrun), State.woken, hany, if_neg hb, ← h1]

end Sys2Proof.Machine
end

section
/-! SUPPORT. WAITEV, WAITT, YIELD and HALT (R146, R175, R181). -/

namespace Sys2Proof.Machine

section
variable {s : State} {e c : Nat} {w : StepWord} (h : s.At e c w)
include h

theorem State.At.waitev (hc : s.Calm) (ho : w.op = 0x38) (hm : w.imm &&& 0xFFFFFFFE ≠ 0) :
    ∃ u, exec (.waitev e c) s = .next u ∧ u.regs = s.regs ∧ u.mem = s.mem ∧
      u.ctx e c = if s.anyCond e c w.imm then
          { (s.ctx e c).turnEnd .ready .none s.now with urg := s.urgentCond e c w.imm }
        else (s.ctx e c).turnEnd .waiting (.ev w.imm) s.now := by
  have hself := State.setCtx_ctx_self hc.canonical.ctxs e c ((s.ctx e c).turnEnd .waiting (.ev w.imm) s.now)
  have hflags : Ctx.SameFlags (s.ctx e c) ((s.setCtx e c ((s.ctx e c).turnEnd .waiting (.ev w.imm) s.now)).ctx e c) := by
    rw [hself]
    rfl
  have hx : exec (.waitev e c) s = doneW (s.setCtx e c ((s.ctx e c).turnEnd .waiting (.ev w.imm) s.now)) := by
    show execWaitev e c s = _
    unfold execWaitev
    exact h.runStep_ok (decide_eq_true ho) (if_neg hm)
  obtain ⟨u, hu, hset, hctx⟩ := doneW_endsWait (m := w.imm) (hc.quiet.setCtx e c _) h.ctx h.eng (congrArg Ctx.st hself) (congrArg Ctx.wait hself)
  refine ⟨u, hx.trans hu, hset.regs, hset.mem, ?_⟩
  rw [hctx, State.woken, (SameAir.setCtx s e c _).anyCond hflags, (SameAir.setCtx s e c _).urgentCond hflags, hself]
  rfl

theorem State.At.waitev_noMask (ho : w.op = 0x38) (hm : w.imm &&& 0xFFFFFFFE = 0) : exec (.waitev e c) s = doneW (s.faultCtx e c 2) := by
  show execWaitev e c s = _
  unfold execWaitev
  exact h.runStep_error (decide_eq_true ho) (if_pos hm)

/-- WAITT ends the turn: WAITING for its target, or READY where it has none. -/
theorem State.At.waitt (q : s.Quiet) (ho : w.op = 0x39) : Does (.waitt e c) s (s.setCtx e c (match s.waittTarget e c w with
    | some t => (s.ctx e c).turnEnd .waiting (.time t) s.now
    | none => (s.ctx e c).turnEnd .ready .none s.now)) := by
  refine does_doneW ?_ (q.setCtx e c _)
  show execWaitt e c s = _
  unfold execWaitt
  exact h.runStep_ok (decide_eq_true ho) rfl

theorem State.At.waitt_until (q : s.Quiet) (ho : w.op = 0x39) {t : Nat} (ht : s.waittTarget e c w = some t) :
    Does (.waitt e c) s (s.setCtx e c ((s.ctx e c).turnEnd .waiting (.time t) s.now)) := by
  have hd := h.waitt q ho
  rw [ht] at hd
  exact hd

theorem State.At.waitt_ready (q : s.Quiet) (ho : w.op = 0x39) (ht : s.waittTarget e c w = none) :
    Does (.waitt e c) s (s.setCtx e c ((s.ctx e c).turnEnd .ready .none s.now)) := by
  have hd := h.waitt q ho
  rw [ht] at hd
  exact hd

theorem State.At.yield (q : s.Quiet) (ho : w.op = 0x3A) : Does (.yield e c) s (s.setCtx e c ((s.ctx e c).turnEnd .ready .none s.now)) := by
  refine does_doneW ?_ (q.setCtx e c _)
  show execYield e c s = _
  unfold execYield
  exact h.runStep_ok (decide_eq_true ho) rfl

end

/-! ### HALT -/

/-- A lane that goes OFF keeps the frames on their way to a ring, their held acknowledgements withdrawn (R177, R181). -/
def Lane.silenced (l : Lane) : Lane :=
  { l with st := .off, frames := (l.frames.filter fun f => f.leaving).map Frame.withdraw, acks := [] }

theorem State.silence_lane {s : State} (hs : Swf (fun _ => Lane.reset) s.lanes) (k : Nat) : (s.silence k).lane k = (s.lane k).silenced := by
  have hl : ((s.markBusy k).spHunt k).lanes = s.lanes := (State.spHunt_lanes _ k).trans (s.markBusy_lanes k)
  have hlane : ((s.markBusy k).spHunt k).lane k = s.lane k := congrArg (fun l => sget (fun _ => Lane.reset) l k) hl
  have heq : s.silence k = ((s.markBusy k).spHunt k).updLane k (((s.markBusy k).spHunt k).lane k).silenced := rfl
  rw [heq, State.updLane_lane_self (hl ▸ hs), hlane]

/-- Where no transmit holds the transmitter, a context whose lane goes OFF has that lane silenced. -/
theorem State.muteLane_lane {s : State} (hh : s.rfe.holder = none) (hs : Swf (fun _ => Lane.reset) s.lanes) {e c k : Nat}
    (hk : s.laneOf e c = some k) : (s.muteLane e c).lane k = (s.lane k).silenced := by
  unfold State.muteLane
  rw [hk, hh]
  exact State.silence_lane hs k

/-- A context that has halted (R181, log entry 108). -/
def Ctx.atHalt (x : Ctx) : Ctx := { x with st := .halted, urg := false, wait := .none, timer := none, act := .none, steps := 0 }

theorem State.At.halt {s : State} {e c : Nat} {w : StepWord} (h : s.At e c w) (hc : s.Calm) (hh : s.rfe.holder = none) (ho : w.op = 0x3F) :
    ∃ u, exec (.halt e c) s = .next u ∧ u.regs = s.regs ∧
      u.ctx e c = (s.ctx e c).atHalt ∧
      ∀ k, s.laneOf e c = some k → u.lane k = (s.lane k).silenced := by
  have hm := State.muteLane_turned hh e c
  have hx : exec (.halt e c) s = doneW (s.haltCtx e c) := by
    show execHalt e c s = _
    unfold execHalt
    exact h.runStep_ok (decide_eq_true ho) rfl
  have hself : (s.haltCtx e c).ctx e c = (s.ctx e c).atHalt := by
    unfold State.haltCtx
    dsimp only
    rw [State.setCtx_ctx_self (hm.ctxs ▸ hc.canonical.ctxs), hm.ctx]
    rfl
  obtain ⟨u, hu, hset⟩ := doneW_settles (s := s.haltCtx e c) ((hm.quiet hc.quiet).setCtx e c _)
  refine ⟨u, hx.trans hu, hset.regs.trans hm.regs, ?_, fun k hk => (hset.lane k).trans (State.muteLane_lane hh hc.canonical.lanes hk)⟩
  exact (hset.ctx_still (by rw [hself]; exact nofun)).trans hself

end Sys2Proof.Machine
end

section
/-! OBLIGATIONS. The steps that end a turn, and the ends of waits and timers (R146, R147, R174, R175, R181). -/

namespace Sys2Proof.Machine

/-- WAITT_WAKE of a context that waits for a time. -/
theorem execWaittWake_waiting {s : State} {t e c d : Nat} (hst : ((s.at_ t).ctx e c).st = .waiting) (hw : ((s.at_ t).ctx e c).wait = .time d)
    (hrun : ((s.at_ t).eng e).run = true) : exec (.waittWake e c t) s = doneW (if d ≤ (s.at_ t).now then
      (s.at_ t).setCtx e c { (s.at_ t).ctx e c with st := .ready, wait := .none, woke := (s.at_ t).now, urg := false, resume := true }
    else s.at_ t) := by
  show execWaittWake e c t s = _
  unfold execWaittWake
  dsimp only
  rw [hst, hw, hrun]
  simp only [Bool.and_true, decide_eq_true_eq]

theorem execContextTimerExpiry_running {s : State} {t e c d : Nat} (ht : ((s.at_ t).ctx e c).timer = some d)
    (hrun : ((s.at_ t).eng e).run = true) : exec (.contextTimerExpiry e c t) s = doneW (if d ≤ (s.at_ t).now then
      (s.at_ t).setCtx e c { (s.at_ t).ctx e c with timer := none, lat := ((s.at_ t).ctx e c).lat ||| 0x200000 }
    else s.at_ t) := by
  show execContextTimerExpiry e c t s = _
  unfold execContextTimerExpiry
  dsimp only
  rw [ht, hrun]
  simp only [Bool.and_true, decide_eq_true_eq]
  rfl

end Sys2Proof.Machine

open Sys2Proof Sys2Proof.Machine

/-- Settles O35: how each wait step leaves its context, how HALT leaves its lane, and when a wait for a time and a timer end. -/
theorem waitsEndTurns : Obligations.WaitsEndTurns := by
  unfold Obligations.WaitsEndTurns
  refine ⟨fun s e c w hc hh hf h => ?_, fun s t e c d => ?_⟩
  · intro x ends ready until_ d
    have hq := hc.quiet
    refine ⟨?waitev, ?noMask, ?after, ?afterNow, ?at_, ?atNow, ?yield, ?halt⟩
    case waitev =>
      intro ho hm
      obtain ⟨u, hu, hregs, hmem, hctx⟩ := h.waitev hc ho hm
      refine ⟨u, hu, hregs, hmem, ?_⟩
      rw [hctx]
      by_cases hany : s.anyCond e c w.imm = true
      · rw [if_pos hany, if_pos (show ((List.range 32).any fun i => bitOf w.imm i && s.cond e c i) = true from hany)]
        exact ⟨rfl, rfl, rfl, rfl, rfl, rfl⟩
      · rw [if_neg hany, if_neg (show ¬((List.range 32).any fun i => bitOf w.imm i && s.cond e c i) = true from hany)]
        exact ⟨rfl, rfl, rfl, rfl, rfl⟩
    case noMask => exact fun ho hm => faults_of_exec hc hh hf (h.waitev_noMask ho hm)
    case after =>
      exact fun ho hm hi => h.waitt_until hq ho (by unfold State.waittTarget StepWord.m; rw [if_pos hm, if_neg hi])
    case afterNow => exact fun ho hm hi => h.waitt_ready hq ho (by unfold State.waittTarget StepWord.m; rw [if_pos hm, if_pos hi])
    case at_ =>
      intro ho hm h0 h31
      refine h.waitt_until hq ho ?_
      unfold State.waittTarget StepWord.m
      rw [hm]
      exact if_neg (show ¬(d = 0 ∨ 2 ^ 31 ≤ d) by omega)
    case atNow =>
      intro ho hm hd
      refine h.waitt_ready hq ho ?_
      unfold State.waittTarget StepWord.m
      rw [hm]
      exact if_pos hd
    case yield => exact fun ho => h.yield hq ho
    case halt =>
      intro ho
      obtain ⟨u, hu, hregs, hctx, hlane⟩ := h.halt hc hh ho
      refine ⟨u, hu, ?_⟩
      rw [hctx]
      refine ⟨rfl, rfl, rfl, rfl, rfl, hregs, fun k hk => ?_⟩
      rw [hlane k hk]
      exact ⟨rfl, rfl, rfl⟩
  · intro v hv _ hrun
    refine ⟨fun hst hw => ⟨fun hd => ?_, fun hd => ?_⟩, fun ht => ⟨fun hd => ?_, fun hd => ?_⟩⟩
    · exact does_doneW ((execWaittWake_waiting hst hw hrun).trans (by rw [if_pos hd])) (hv.quiet.setCtx e c _)
    · exact does_doneW ((execWaittWake_waiting hst hw hrun).trans (by rw [if_neg (Nat.not_le.2 hd)])) hv.quiet
    · exact does_doneW ((execContextTimerExpiry_running ht hrun).trans (by rw [if_pos hd])) (hv.quiet.setCtx e c _)
    · exact does_doneW ((execContextTimerExpiry_running ht hrun).trans (by rw [if_neg (Nat.not_le.2 hd)])) hv.quiet

end

section
/-! SUPPORT. The choice of a context and the beginning of its turn (R147, R148, R149, R153). -/

namespace Sys2Proof.Machine

/-! ### Which context is next -/

/-- The earlier of two urgent contexts in the order of R148, the later-numbered one second. -/
def State.earlierUrgent (s : State) (e : Nat) (o : Option Nat) (c : Nat) : Option Nat :=
  match o with
  | none => some c
  | some b => if (s.ctx e c).woke < (s.ctx e b).woke then some c else some b

/-- The READY urgent contexts, in rising order. -/
def State.urgents (s : State) (e : Nat) : List Nat := (List.range (nctx e)).filter fun c => (s.ctx e c).st = .ready && (s.ctx e c).urg

theorem State.nextUrgent_eq (s : State) (e : Nat) : s.nextUrgent e = (s.urgents e).foldl (s.earlierUrgent e) none := rfl

theorem State.mem_urgents {s : State} {e d : Nat} : d ∈ s.urgents e ↔ (d < nctx e ∧ (s.ctx e d).st = .ready) ∧ (s.ctx e d).urg = true := by
  unfold State.urgents
  rw [List.mem_filter, List.mem_range, Bool.and_eq_true, decide_eq_true_eq, and_assoc]

/-- The context chosen is one of those chosen from. -/
theorem State.earlierUrgent_mem (s : State) (e : Nat) (l : List Nat) : ∀ b ∈ l.foldl (s.earlierUrgent e) none, b ∈ l := by
  refine List.foldlRecOn (motive := fun o => ∀ b ∈ o, b ∈ l) l _ (fun b hb => nomatch hb) fun o ho d hd b hb => ?_
  unfold State.earlierUrgent at hb
  split at hb
  · cases hb
    exact hd
  · split at hb <;> cases hb
    · exact hd
    · exact ho _ rfl

/-- The urgent context whose wait ended first, and of those that ended together the lowest in number (R148). -/
theorem State.nextUrgent_first {s : State} {e c : Nat} (hc : c ∈ s.urgents e)
    (hfirst : ∀ d ∈ s.urgents e, d ≠ c → (s.ctx e c).woke < (s.ctx e d).woke ∨ ((s.ctx e c).woke = (s.ctx e d).woke ∧ c < d)) :
    s.nextUrgent e = some c := by
  have hsorted : (s.urgents e).Pairwise (· < ·) := List.pairwise_lt_range.filter _
  rw [State.nextUrgent_eq]
  obtain ⟨l1, l2, hl⟩ := List.append_of_mem hc
  rw [hl] at hfirst hsorted ⊢
  obtain ⟨-, -, hlt⟩ := List.pairwise_append.1 hsorted
  have hthere : s.earlierUrgent e (l1.foldl (s.earlierUrgent e) none) c = some c := by
    have hmem := s.earlierUrgent_mem e l1
    unfold State.earlierUrgent at hmem ⊢
    split
    · rfl
    · rename_i b hb
      have hb1 : b ∈ l1 := hmem b hb
      have hbc := hlt b hb1 c (by simp)
      rcases hfirst b (by simp [hb1]) (by omega) with h | ⟨-, h⟩
      · exact if_pos h
      · omega
  rw [List.foldl_append, List.foldl_cons, hthere]
  refine List.foldlRecOn (motive := fun o => o = some c) l2 _ rfl fun o ho d hd => ?_
  rw [ho]
  refine if_neg fun hw => ?_
  by_cases hdc : d = c
  · rw [hdc] at hw
    omega
  · rcases hfirst d (by simp [hd]) hdc with h | ⟨h, -⟩ <;> omega

theorem State.nextUrgent_none {s : State} {e : Nat} (h : ∀ d, d < nctx e → (s.ctx e d).st = .ready → (s.ctx e d).urg = false) :
    s.nextUrgent e = none := by
  have hnil : s.urgents e = [] := List.eq_nil_iff_forall_not_mem.2 fun d hd => by
    obtain ⟨⟨hd, hr⟩, hu⟩ := State.mem_urgents.1 hd
    exact nomatch hu.symm.trans (h d hd hr)
  rw [State.nextUrgent_eq, hnil]
  rfl

/-- The place of context d in the round-robin order after the context that ran last (R148). -/
def State.turnPlace (s : State) (e d : Nat) : Nat := (d + nctx e - ((s.eng e).last + 1) % nctx e) % nctx e

theorem nctx_cases {e c : Nat} (h : c < nctx e) : nctx e = 4 ∨ nctx e = 8 := by
  unfold nctx at *
  split at h
  · exact .inl (if_pos ‹_›)
  · split at h
    · rename_i h16 hlt
      exact .inr (by rw [if_neg h16, if_pos hlt])
    · omega

theorem State.turnPlace_lt (s : State) {e d : Nat} (h : d < nctx e) : s.turnPlace e d < nctx e :=
  Nat.mod_lt _ (by omega)

/-- The context at its own place in the turn is itself. -/
theorem State.turnPlace_self (s : State) {e d : Nat} (h : d < nctx e) : ((s.eng e).last + 1 + s.turnPlace e d) % nctx e = d := by
  unfold State.turnPlace
  rcases nctx_cases h with hn | hn <;> rw [hn] at h ⊢ <;> omega

theorem State.turnPlace_at (s : State) {e j : Nat} (h : j < nctx e) : s.turnPlace e (((s.eng e).last + 1 + j) % nctx e) = j := by
  unfold State.turnPlace
  rcases nctx_cases h with hn | hn <;> rw [hn] at h ⊢ <;> omega

/-- The first READY context that is not urgent, in round-robin order (R148). -/
theorem State.nextPlain_first {s : State} {e c : Nat} (hc : c < nctx e) (hr : (s.ctx e c).st = .ready) (hu : (s.ctx e c).urg = false)
    (hfirst : ∀ d, d < nctx e → (s.ctx e d).st = .ready → d ≠ c → s.turnPlace e c < s.turnPlace e d) : s.nextPlain e = some c := by
  unfold State.nextPlain
  rw [List.find?_map, find?_range_eq_some_iff.2 ⟨s.turnPlace_lt hc, ?_, fun j hj => ?_⟩, Option.map_some, s.turnPlace_self hc]
  · simp only [Function.comp_apply, s.turnPlace_self hc, hr, hu]
    rfl
  · have hjn := Nat.lt_trans hj (s.turnPlace_lt hc)
    have hplace := s.turnPlace_at hjn
    intro hd
    simp only [Function.comp_apply, Bool.and_eq_true, decide_eq_true_eq] at hd
    by_cases hdc : ((s.eng e).last + 1 + j) % nctx e = c
    · rw [hdc] at hplace
      omega
    · have := hfirst _ (Nat.mod_lt _ (by omega)) hd.1 hdc
      omega

theorem State.runningCtx_none {s : State} {e : Nat} (h : ∀ d, d < nctx e → (s.ctx e d).st ≠ .running) : s.runningCtx e = none :=
  List.find?_eq_none.2 fun d hd => by
    rw [decide_eq_true_eq]
    exact h d (List.mem_range.1 hd)

theorem State.runningCtx_only {s : State} {e r : Nat} (hr : r < nctx e) (hst : (s.ctx e r).st = .running)
    (h : ∀ d, d < nctx e → d ≠ r → (s.ctx e d).st ≠ .running) : s.runningCtx e = some r :=
  find?_range_eq_some_iff.2 ⟨hr, decide_eq_true hst, fun j hj => by
    rw [decide_eq_true_eq]
    exact h j (by omega) (by omega)⟩

/-! ### The turn begins -/

/-- A context whose turn begins; after a wait it first goes by the COND of its wait step (R153). -/
def State.dispatched (s : State) (e c : Nat) : Ctx :=
  let x := s.ctx e c
  let y : Ctx := { x with st := .running, turnHop := none, resume := false }
  let w := s.fetchStep e x.pc
  if x.resume then
    { y.tested (s.cond e c w.cond) w.cond with pc := if s.cond e c w.cond then w.tgt else (x.pc + 1) % 1024, steps := 0 }
  else y

theorem State.dispatched_st (s : State) (e c : Nat) : (s.dispatched e c).st = .running := by
  unfold State.dispatched
  dsimp only
  split
  · exact (Ctx.tested_goes _ _ _).st
  · rfl

theorem State.dispatched_v (s : State) (e c : Nat) : (s.dispatched e c).v = (s.ctx e c).v := by
  unfold State.dispatched
  dsimp only
  split
  · exact Ctx.tested_v
  · rfl

theorem State.dispatched_pc (s : State) (e c : Nat) : (s.dispatched e c).pc =
    if (s.ctx e c).resume then
      (if s.cond e c (s.fetchStep e (s.ctx e c).pc).cond then (s.fetchStep e (s.ctx e c).pc).tgt else ((s.ctx e c).pc + 1) % 1024)
    else (s.ctx e c).pc := by
  unfold State.dispatched
  dsimp only
  split <;> rfl

theorem State.dispatched_steps (s : State) (e c : Nat) : (s.dispatched e c).steps = if (s.ctx e c).resume then 0 else (s.ctx e c).steps := by
  unfold State.dispatched
  dsimp only
  split <;> rfl

/-- What a dispatch makes of a context reads its own record, the conditions and the step words. -/
theorem SameAir.dispatched {s t : State} (h : SameAir s t) {e c : Nat} (hx : t.ctx e c = s.ctx e c) (hw : ∀ a, t.word a = s.word a) :
    t.dispatched e c = s.dispatched e c := by
  have hf : ∀ pc, t.fetchStep e pc = s.fetchStep e pc := fun pc => by
    unfold State.fetchStep
    simp only [hw]
  unfold State.dispatched
  dsimp only
  rw [hx, hf, h.cond (by rw [hx]; rfl)]

theorem State.setLast_sameAir {s : State} (hs : Swf (fun _ => Engine.reset) s.engs) (e c : Nat) :
    SameAir s (s.setEng e { s.eng e with last := c }) := by
  refine ⟨rfl, ?_⟩
  by_cases he : (16 : Nat) = e
  · rw [← he]
    have hself : (s.setEng 16 { s.eng 16 with last := c }).eng 16 = { s.eng 16 with last := c } := sget_sput_self hs.1 16 _
    rw [hself]
  · exact congrArg Engine.stopping (sget_sput_ne _ _ _ he)

theorem State.dispatch_eq {s : State} (hs : s.canonical) (e c : Nat) :
    s.dispatch e c = (s.setEng e { s.eng e with last := c }).setCtx e c (s.dispatched e c) := by
  set t := s.setEng e { s.eng e with last := c } with ht
  set y : Ctx := { s.ctx e c with st := .running, turnHop := none, resume := false } with hy
  have hself : (t.setCtx e c y).ctx e c = y := State.setCtx_ctx_self (s := t) hs.ctxs e c y
  have hcond : ∀ code, (t.setCtx e c y).cond e c code = s.cond e c code :=
    fun code => ((State.setLast_sameAir hs.engs e c).trans (.setCtx t e c y)).cond (by rw [hself]; rfl) code
  unfold State.dispatch State.dispatched
  dsimp only
  rw [← ht, ← hy]
  split
  · rw [State.takeCond_setCtx (Swf_sput hs.ctxs _ _), State.takeCond_ctx (Swf_sput hs.ctxs _ _), State.takeCond_fst, hself, hcond,
      State.setCtx_setCtx (s := t) hs.ctxs, Ctx.tested_pc]
    rfl
  · rfl

/-- The fetch of a listed step within its stretch faults by nothing but parity. -/
theorem State.fetchCheck_ok {s : State} {e c : Nat} (hsteps : (s.ctx e c).steps < 64) (hl : (s.fetchStep e (s.ctx e c).pc).listed = true) :
    s.fetchCheck e c false = s := by
  unfold State.fetchCheck
  dsimp only
  rw [if_neg (by omega), if_neg (by decide), hl]
  rfl

/-- A context whose turn begins at a listed step, with room in its stretch. -/
theorem State.dispatch_fetched {s : State} (hs : s.canonical) {e c : Nat} (hl : (s.fetchStep e (s.dispatched e c).pc).listed = true)
    (hr : (s.ctx e c).resume = true ∨ (s.ctx e c).steps < 64) :
    (s.dispatch e c).fetchCheck e c false = (s.setEng e { s.eng e with last := c }).setCtx e c (s.dispatched e c) := by
  have hself := State.setCtx_ctx_self (s := s.setEng e { s.eng e with last := c }) hs.ctxs e c (s.dispatched e c)
  rw [State.dispatch_eq hs]
  refine State.fetchCheck_ok ?_ ?_
  · rw [hself, State.dispatched_steps]
    split
    · decide
    · exact hr.resolve_left ‹_›
  · rw [hself]
    exact hl

/-- What a turn that has begun shows: `t` is the state in which the context was chosen. -/
theorem turn_begun {s t : State} {i : Instr} (q : t.Quiet) (hs : t.canonical) {e c : Nat}
    (hx : exec i s = doneW ((t.setEng e { t.eng e with last := c }).setCtx e c (t.dispatched e c))) :
    ∃ u, exec i s = .next u ∧ u.ctx e c = t.dispatched e c ∧ (u.eng e).last = c ∧ u.regs = t.regs ∧ u.mem = t.mem ∧
      ∀ d, 8 * e + d ≠ 8 * e + c → (t.ctx e d).st = .ready → u.ctx e d = t.ctx e d := by
  set p := (t.setEng e { t.eng e with last := c }).setCtx e c (t.dispatched e c) with hp
  have hq : p.Quiet := q.of rfl rfl rfl rfl rfl rfl rfl
  have hself : p.ctx e c = t.dispatched e c := State.setCtx_ctx_self (s := t.setEng e { t.eng e with last := c }) hs.ctxs e c _
  obtain ⟨u, hu, hset⟩ := doneW_settles hq
  refine ⟨u, hx.trans hu, ?_, ?_, hset.regs, hset.mem, fun d hd hst => ?_⟩
  · exact (hset.ctx_still (by rw [hself, State.dispatched_st]; exact nofun)).trans hself
  · rw [hset.eng]
    exact congrArg Engine.last (sget_sput_self hs.engs.1 e _)
  · have hdp : p.ctx e d = t.ctx e d := State.setCtx_ctx_ne _ _ hd
    exact (hset.ctx_ready (hdp.symm ▸ hst)).trans hdp

end Sys2Proof.Machine
end

section
/-! OBLIGATIONS. CONTEXT_DISPATCH (R147, R148). -/

namespace Sys2Proof.Machine

theorem execContextDispatch_run {s : State} {t e : Nat} (h : ((s.at_ t).eng e).run = true) (parity : Bool) :
    exec (.contextDispatch e parity t) s = doneW ((s.at_ t).turn e parity) := by
  show execContextDispatch e parity t s = _
  unfold execContextDispatch
  dsimp only
  rw [if_pos h]

section
variable {s : State} {e : Nat} {parity : Bool}

theorem State.turn_idle (hr : s.runningCtx e = none) {c : Nat} (hn : (s.nextUrgent e).or (s.nextPlain e) = some c) :
    s.turn e parity = (s.dispatch e c).fetchCheck e c parity := by
  unfold State.turn
  rw [hr]
  dsimp only
  rw [hn]

theorem State.turn_preempts {r c : Nat} (hr : s.runningCtx e = some r) (hn : s.nextUrgent e = some c) (hu : (s.ctx e r).urg = false) :
    s.turn e parity = ((s.setCtx e r { s.ctx e r with st := .ready, turnHop := none }).dispatch e c).fetchCheck e c parity := by
  unfold State.turn
  rw [hr]
  dsimp only
  rw [hn]
  dsimp only
  rw [if_neg (by rw [hu]; decide)]

/-- A RUNNING context that no urgent one takes the engine from goes on. -/
theorem State.turn_goesOn {r : Nat} (hr : s.runningCtx e = some r) (hu : (s.ctx e r).urg = true ∨ s.nextUrgent e = none) :
    s.turn e parity = s.fetchCheck e r parity := by
  unfold State.turn
  rw [hr]
  dsimp only
  split
  · rename_i hn
    rw [if_pos (hu.resolve_right fun h => nomatch hn.symm.trans h)]
  · rfl

end

end Sys2Proof.Machine

open Sys2Proof Sys2Proof.Machine

/-- Settles O36: the context chosen, how its turn begins, and when it takes the engine from another. -/
theorem theEngineChoosesItsContext : Obligations.TheEngineChoosesItsContext := by
  unfold Obligations.TheEngineChoosesItsContext
  refine ⟨fun s t e c => ?_, fun s t e r => ?_⟩
  · intro v x n ready place w pc hv hrun hc hl hroom first runs
    have hpc : (v.dispatched e c).pc = pc := v.dispatched_pc e c
    have hurgent : x.urg = true → first → v.nextUrgent e = some c := fun hu hf =>
      State.nextUrgent_first (State.mem_urgents.2 ⟨hc, hu⟩) fun d hd hdc =>
        have hd' := State.mem_urgents.1 hd
        hf d hd'.1 hd'.2 hdc
    refine ⟨fun hidle hchoice => ?_, fun r hr hst hru honly hu hf => ?_⟩
    · have hnext : (v.nextUrgent e).or (v.nextPlain e) = some c := by
        by_cases hu : x.urg = true
        · rw [if_pos hu] at hchoice
          rw [hurgent hu hchoice]
          rfl
        · rw [if_neg hu] at hchoice
          obtain ⟨hnone, hfirst⟩ := hchoice
          rw [State.nextUrgent_none fun d hd hr => hnone d ⟨hd, hr⟩, State.nextPlain_first hc.1 hc.2 (Bool.eq_false_of_not_eq_true hu)
            fun d hd hr hdc => hfirst d ⟨hd, hr⟩ hdc]
          rfl
      obtain ⟨u, hu, hctx, hlast, hregs, hmem, -⟩ := turn_begun hv.quiet hv.canonical ((execContextDispatch_run hrun false).trans
        (congrArg doneW ((State.turn_idle (State.runningCtx_none hidle) hnext).trans
          (State.dispatch_fetched hv.canonical (by rw [hpc]; exact hl) hroom))))
      exact ⟨u, hu, by rw [hctx, v.dispatched_st], by rw [hctx, hpc], hlast, by rw [hctx, v.dispatched_v], hregs, hmem⟩
    · set y : Ctx := { v.ctx e r with st := .ready, turnHop := none } with hy
      have hrc : c ≠ r := fun h => nomatch (h ▸ hc.2 : (v.ctx e r).st = .ready).symm.trans hst
      have hxc : (v.setCtx e r y).ctx e c = v.ctx e c := State.setCtx_ctx_ne _ _ (by omega)
      have hyr : (v.setCtx e r y).ctx e r = y := State.setCtx_ctx_self hv.canonical.ctxs e r y
      have hdisp : (v.setCtx e r y).dispatched e c = v.dispatched e c := (SameAir.setCtx v e r y).dispatched hxc fun _ => rfl
      have hcan : (v.setCtx e r y).canonical := (v.setCtx_keeps e r y).canonical hv.canonical
      obtain ⟨u, hu, hctx, hlast, hregs, hmem, hothers⟩ := turn_begun (hv.quiet.setCtx e r y) hcan
        ((execContextDispatch_run hrun false).trans (congrArg doneW
          ((State.turn_preempts (State.runningCtx_only hr hst honly) (hurgent hu hf) hru).trans
            (State.dispatch_fetched hcan (by rw [hdisp, hpc]; exact hl) (by rw [hxc]; exact hroom)))))
      rw [hdisp] at hctx
      exact ⟨u, hu, ⟨by rw [hctx, v.dispatched_st], by rw [hctx, hpc], hlast, by rw [hctx, v.dispatched_v], hregs, hmem⟩,
        (hothers r (by omega) (by rw [hyr])).trans hyr⟩
  · intro v hv hrun hr hst hu honly hl hroom
    refine does_doneW ((execContextDispatch_run hrun false).trans (congrArg doneW ?_)) hv.quiet
    rw [State.turn_goesOn (State.runningCtx_only hr hst honly) (.inl hu), State.fetchCheck_ok hroom hl]

end

section
/-! SUPPORT. Commands that change the contexts of one engine each by itself: its start, its stop and PEERFLT (R144, R145, R177). -/

namespace Sys2Proof.Machine

/-- A fold whose step d changes context d of engine e alone, by what `g` makes of its record. -/
theorem forN_ctxwise {e : Nat} {f : State → Nat → State} {g : Nat → Ctx → Ctx}
    (hf : ∀ t d, f t d = t.setCtx e d (g d (t.ctx e d)) ∨ (f t d = t ∧ g d (t.ctx e d) = t.ctx e d)) {s : State}
    (hs : Swf (fun _ => Ctx.reset) s.ctxs) (n : Nat) :
    forN n f s = { s with ctxs := (forN n f s).ctxs } ∧ Swf (fun _ => Ctx.reset) (forN n f s).ctxs ∧
      ∀ c, (forN n f s).ctx e c = if c < n then g c (s.ctx e c) else s.ctx e c := by
  induction n with
  | zero => exact ⟨rfl, hs, fun c => rfl⟩
  | succ n ih =>
    obtain ⟨hrest, hswf, hctx⟩ := ih
    rw [forN_succ]
    generalize forN n f s = t at *
    have hn : t.ctx e n = s.ctx e n := (hctx n).trans (if_neg (Nat.lt_irrefl n))
    have hself : (f t n).ctx e n = g n (s.ctx e n) := by
      rcases hf t n with h | ⟨h, hg⟩
      · rw [h, State.setCtx_ctx_self hswf, hn]
      · rw [h, ← hg, hn]
    have hother : ∀ c, c ≠ n → (f t n).ctx e c = t.ctx e c := fun c hc => by
      rcases hf t n with h | ⟨h, -⟩
      · rw [h, State.setCtx_ctx_ne _ _ (by omega)]
      · rw [h]
    refine ⟨?_, ?_, fun c => ?_⟩
    · rcases hf t n with h | ⟨h, -⟩ <;> rw [h, hrest]
      rfl
    · rcases hf t n with h | ⟨h, -⟩ <;> rw [h]
      · exact Swf_sput hswf _ _
      · exact hswf
    · by_cases hc : c = n
      · rw [hc, hself, if_pos (Nat.lt_succ_self n)]
      · rw [hother c hc, hctx c]
        exact if_congr (by omega) rfl rfl

/-- An engine that starts: its record and its contexts, each in the state of R144. -/
structure EngBegun (e : Nat) (s t : State) : Prop where
  rest : t = { s with engs := t.engs, ctxs := t.ctxs }
  eng : t.eng e = ⟨true, false, false, nctx e - 1⟩
  ctx : ∀ c < nctx e, t.ctx e c = (s.ctx e c).fresh e c

theorem State.engStart_now {s : State} (hs : s.canonical) (hb : s.start.rxbusy = false) (hh : s.pwr.hs = none) (e : Nat) :
    EngBegun e s (s.engStart e) := by
  have hq : (s.start.rxbusy || s.quiesced 1) = false := by
    unfold State.quiesced
    rw [hb, hh]
    rfl
  unfold State.engStart
  rw [hq, if_neg Bool.false_ne_true]
  set r := s.setEng e ⟨true, false, false, nctx e - 1⟩ with hr
  obtain ⟨hrest, -, hctx⟩ := forN_ctxwise (e := e) (f := fun s c => s.setCtx e c ((s.ctx e c).fresh e c)) (g := fun c x => x.fresh e c)
    (fun t d => .inl rfl) (s := r) hs.ctxs (nctx e)
  refine ⟨by rw [hrest]; rfl, ?_, fun c hc => (hctx c).trans (if_pos hc)⟩
  rw [hrest]
  exact sget_sput_self hs.engs.1 e _

/-- An engine that stops (R145). -/
structure EngStopped (e : Nat) (s t : State) : Prop where
  rest : t = { s with engs := t.engs, ctxs := t.ctxs }
  eng : t.eng e = { s.eng e with run := false, stopping := false, wantStart := false }
  ctx : ∀ c < nctx e, t.ctx e c = (s.ctx e c).ended

theorem State.engStop_stops {s : State} (hs : s.canonical) (e : Nat) : EngStopped e s (s.engStop e) := by
  rw [State.engStop_eq]
  set r := s.setEng e { s.eng e with run := false, stopping := false, wantStart := false } with hr
  have hstep : ∀ (t : State) d, t.ctxStop e d = t.setCtx e d (t.ctx e d).ended ∨ (t.ctxStop e d = t ∧ (t.ctx e d).ended = t.ctx e d) := fun t d => by
    unfold State.ctxStop Ctx.ended
    dsimp only
    split
    · exact .inr ⟨rfl, rfl⟩
    · exact .inl rfl
  obtain ⟨hrest, -, hctx⟩ := forN_ctxwise (e := e) (g := fun _ => Ctx.ended) hstep (s := r) hs.ctxs (nctx e)
  refine ⟨by rw [hrest]; rfl, ?_, fun c hc => (hctx c).trans (if_pos hc)⟩
  rw [hrest]
  exact sget_sput_self hs.engs.1 e _

/-- PEERFLT is latched in every other context of the engine (R177). -/
theorem State.peerFault_latches {s : State} (hs : Swf (fun _ => Ctx.reset) s.ctxs) (e c : Nat) :
    s.peerFault e c = { s with ctxs := (s.peerFault e c).ctxs } ∧
      ∀ d, d < nctx e → d ≠ c → bitOf ((s.peerFault e c).ctx e d).lat 30 = true := by
  have hstep : ∀ (t : State) d, (if d = c then t else t.latch e d 30) = t.setCtx e d (if d = c then t.ctx e d else (t.ctx e d).latch 30) ∨
      ((if d = c then t else t.latch e d 30) = t ∧ (if d = c then t.ctx e d else (t.ctx e d).latch 30) = t.ctx e d) := fun t d => by
    split
    · exact .inr ⟨rfl, rfl⟩
    · exact .inl rfl
  obtain ⟨hrest, -, hctx⟩ := forN_ctxwise (e := e) (g := fun d x => if d = c then x else x.latch 30) hstep hs (nctx e)
  refine ⟨hrest, fun d hd hdc => ?_⟩
  rw [State.peerFault, hctx d, if_pos hd, if_neg hdc]
  exact Ctx.latch_bit _ (by decide)

end Sys2Proof.Machine
end

section
/-! SUPPORT. What a context fault leaves (R177), where no cause is fatal. -/

namespace Sys2Proof.Machine

/-- A context that has faulted, its fault not fatal. -/
def Ctx.atFault (x : Ctx) (cause : Nat) : Ctx :=
  { x with st := .faulted, cause := cause, fatal := false, timer := none, act := .none, wait := .none, urg := false, resume := false }

/-- The word of a fault that is not fatal, in `REEL_LASTF` and in its record. -/
def faultWord (e c cause pc : Nat) : Word := BitVec.ofNat 32 (cause * 2 ^ 28 + e * 2 ^ 20 + c * 2 ^ 16 + pc)

theorem State.faultCtx_eq {s : State} (hf : s.reg Reg.REEL_FATALC = 0) (e c cause : Nat) : s.faultCtx e c cause =
    (((((s.setCtx e c ((s.ctx e c).atFault cause)).muteLane e c).peerFault e c).setReg Reg.REEL_LASTF
      (faultWord e c cause (s.ctx e c).pc)).postTo .c0 136 (faultWord e c cause (s.ctx e c).pc) 0) := by
  have hfatal : (((s.get Reg.REEL_FATALE_ENG).testBit e) && bitOf (s.reg Reg.REEL_FATALC) cause) = false := by
    rw [hf, show bitOf (0 : Word) cause = false from BitVec.getLsbD_zero, Bool.and_false]
  unfold State.faultCtx
  dsimp only
  rw [hfatal, show b2n false = 0 from rfl, Nat.zero_mul, Nat.add_zero]
  rfl

/-- What a context fault shows. -/
structure FaultShown (s u : State) (e c cause : Nat) : Prop where
  ctx : u.ctx e c = (s.ctx e c).atFault cause
  peers : ∀ d, d < nctx e → d ≠ c → bitOf (u.ctx e d).lat 30 = true
  lastf : u.reg Reg.REEL_LASTF = faultWord e c cause (s.ctx e c).pc
  regs : s.regsBut u [Reg.REEL_LASTF]
  record : u.icol0.buf = s.icol0.buf ++ [⟨136, s.icolPri .c0 136, false, faultWord e c cause (s.ctx e c).pc, 0, s.us⟩]
  lane : ∀ k, s.laneOf e c = some k → u.lane k = (s.lane k).silenced

theorem doneW_faults {s : State} (hc : s.Calm) (hh : s.rfe.holder = none) (hf : s.reg Reg.REEL_FATALC = 0) (e c cause : Nat) :
    ∃ u, doneW (s.faultCtx e c cause) = .next u ∧ FaultShown s u e c cause := by
  rw [State.faultCtx_eq hf]
  set w := faultWord e c cause (s.ctx e c).pc with hw
  set x := (s.ctx e c).atFault cause with hx
  set m := (s.setCtx e c x).muteLane e c with hm
  have hmt : LaneTurned (s.setCtx e c x) m := State.muteLane_turned (s := s.setCtx e c x) hh e c
  have hmc : Swf (fun _ => Ctx.reset) m.ctxs := hmt.ctxs ▸ Swf_sput hc.canonical.ctxs _ _
  obtain ⟨hprest, hpeers⟩ := State.peerFault_latches hmc e c
  have hpx : (m.peerFault e c).ctx e c = x := by
    rw [State.peerFault_ctx, hmt.ctx, State.setCtx_ctx_self hc.canonical.ctxs]
  have hpq : (m.peerFault e c).Quiet := (hmt.quiet (hc.quiet.setCtx e c x)).peerFault e c
  have hlane : ∀ k, s.laneOf e c = some k → m.lane k = (s.lane k).silenced :=
    fun k hk => State.muteLane_lane (s := s.setCtx e c x) hh hc.canonical.lanes hk
  generalize m.peerFault e c = p at *
  have hregs : p.regs = s.regs := by rw [hprest]; exact hmt.regs
  have hother : ∀ a, a ≠ Reg.REEL_LASTF → (p.setReg Reg.REEL_LASTF w).reg a = s.reg a :=
    fun a ha => (p.setReg_reg_ne w ha).trans (congrArg (fun r => sget regReset r a) hregs)
  have hq : (p.setReg Reg.REEL_LASTF w).Quiet := State.setReg_quiet hpq w (by decide) (by decide)
  obtain ⟨u, hu, hset⟩ := doneW_settles (hq.postTo .c0 136 w 0)
  refine ⟨u, hu, ?_, fun d hd hdc => ?_, ?_, fun a ha => ?_, ?_, fun k hk => ?_⟩
  · refine (hset.ctx_still ?_).trans hpx
    show (p.ctx e c).st ≠ _
    rw [hpx]
    exact nofun
  · rw [hset.lat]
    exact hpeers d hd hdc
  · exact (hset.reg _).trans (p.setReg_reg_self (hregs ▸ hc.canonical.regs) _ w)
  · refine (hset.reg a).trans ?_
    exact hother a (by simpa using ha)
  · rw [hset.icol0_buf]
    show p.icol0.buf ++ [⟨136, (p.setReg Reg.REEL_LASTF w).icolPri .c0 136, false, w, 0, p.us⟩] = _
    have hpri : (p.setReg Reg.REEL_LASTF w).icolPri .c0 136 = s.icolPri .c0 136 := congrArg (fun v => fget v _) (hother _ (by decide))
    have hsame : p.icol0 = s.icol0 ∧ p.us = s.us := by
      rw [hprest, hmt]
      exact ⟨rfl, rfl⟩
    rw [hpri, hsame.1, hsame.2]
  · rw [hset.lane]
    show p.lane k = _
    rw [hprest]
    exact hlane k hk

/-- The RUNNING context that no other takes the engine from, at a step whose fetch faults. -/
theorem State.fetchCheck_faults {s : State} {e c cause : Nat} {parity : Bool}
    (h : (cause = 1 ∧ 64 ≤ (s.ctx e c).steps) ∨ (cause = 9 ∧ (s.ctx e c).steps < 64 ∧ parity = true) ∨
      (cause = 2 ∧ (s.ctx e c).steps < 64 ∧ parity = false ∧ (s.fetchStep e (s.ctx e c).pc).listed = false)) :
    s.fetchCheck e c parity = s.faultCtx e c cause := by
  unfold State.fetchCheck
  dsimp only
  rcases h with ⟨rfl, hs⟩ | ⟨rfl, hs, rfl⟩ | ⟨rfl, hs, rfl, hl⟩
  · rw [if_pos hs]
  · rw [if_neg (by omega), if_pos rfl]
  · rw [if_neg (by omega), if_neg (by decide), hl]
    rfl

end Sys2Proof.Machine
end

section
/-! SUPPORT. Engine 16's start and stop, a context's restart and the base of the transmit queues, command by command (R180, R182, R434). -/

namespace Sys2Proof.Machine

/-! ### Engine 16 -/

/-- `REEL_E16CTL.RUN` after a write. -/
theorem State.putRun_flag {s : State} (hs : s.canonical) (b : Bool) : (s.put Reg.REEL_E16CTL_RUN (b2n b)).flag Reg.REEL_E16CTL_RUN = b := by
  unfold State.flag
  rw [s.put_get_self hs.regs _ _ (by decide)]
  cases b <;> rfl

theorem State.putRun_regsBut (s : State) (n : Nat) : s.regsBut (s.put Reg.REEL_E16CTL_RUN n) [Reg.REEL_E16CTL] :=
  fun a ha => s.put_reg_ne _ _ (by simpa using ha)

theorem State.Quiet.putRun {s : State} (q : s.Quiet) (n : Nat) : (s.put Reg.REEL_E16CTL_RUN n).Quiet :=
  State.setReg_quiet q _ (by decide) (by decide)

theorem EngBegun.quiet {e : Nat} {s t : State} (h : EngBegun e s t) (q : s.Quiet) : t.Quiet := by
  rw [h.rest]
  exact q.of rfl rfl rfl rfl rfl rfl rfl

/-- The engine and its contexts as a command that started it leaves them. -/
theorem EngBegun.settles {e : Nat} {s t u : State} (h : EngBegun e s t) (hu : Settles t u) :
    u.regs = s.regs ∧ u.eng e = ⟨true, false, false, nctx e - 1⟩ ∧ ∀ c < nctx e, (u.ctx e c).st = .ready ∧ (u.ctx e c).pc = 0 := by
  refine ⟨hu.regs.trans (by rw [h.rest]), (hu.eng e).trans h.eng, fun c hc => ?_⟩
  have hfresh := h.ctx c hc
  rw [hu.ctx_ready (by rw [hfresh]; rfl), hfresh]
  exact ⟨rfl, rfl⟩

theorem State.Quiet.not_quiesced {s : State} (q : s.Quiet) (d : Nat) : s.quiesced d = false := by
  unfold State.quiesced
  rw [q.entry]

theorem State.Quiet.radioOn {s : State} (q : s.Quiet) : s.radioOn = true := by
  unfold State.radioOn State.awake
  rw [q.awake]
  rfl

theorem State.not_loading {s : State} (h : s.ldr.phase = .idle) (e : Nat) : s.loading e = false := by
  unfold State.loading
  rw [h]
  rfl

/-- A write of 1 to RUN of the stopped engine 16 starts it, once no load and no pause holds it. -/
theorem State.e16Write_starts {s : State} (q : s.Quiet) (hf : s.flag Reg.REEL_E16CTL_RUN = false) (hr : (s.eng 16).run = false)
    (hl : s.ldr.phase = .idle) (hp : s.upd.phase ≠ .pause) : s.e16Write true = (s.put Reg.REEL_E16CTL_RUN 1).engStart 16 := by
  have hp' : (s.upd.phase != .pause) = true := by simpa using hp
  have hrun : ((s.put Reg.REEL_E16CTL_RUN 1).eng 16).run = false := hr
  have hload : (s.put Reg.REEL_E16CTL_RUN 1).loading 16 = false := State.not_loading (s := s.put Reg.REEL_E16CTL_RUN 1) hl 16
  have hupd : (s.put Reg.REEL_E16CTL_RUN 1).upd.phase = s.upd.phase := rfl
  unfold State.e16Write
  dsimp only
  rw [if_pos rfl, show b2n true = 1 from rfl, hf, hrun, (q.putRun 1).radioOn, hload, hupd, hp']
  rfl

theorem engine16Run_starts {s : State} (hc : s.Calm) (hf : s.flag Reg.REEL_E16CTL_RUN = false) (hr : (s.eng 16).run = false)
    (hl : s.ldr.phase = .idle) (hp : s.upd.phase ≠ .pause) :
    ∃ u, exec .engine16Run s = .next u ∧ u.flag Reg.REEL_E16CTL_RUN = true ∧ s.regsBut u [Reg.REEL_E16CTL] ∧
      if s.start.rxbusy then (u.eng 16).wantStart = true ∧ (u.eng 16).run = false
      else (u.eng 16).run = true ∧ ∀ c < nctx 16, (u.ctx 16 c).st = .ready ∧ (u.ctx 16 c).pc = 0 := by
  set t := s.put Reg.REEL_E16CTL_RUN 1 with ht
  have hx : exec .engine16Run s = doneW (t.engStart 16) := congrArg doneW (State.e16Write_starts hc.quiet hf hr hl hp)
  have htc : t.canonical := (s.put_keeps _ _).canonical hc.canonical
  have htq : t.Quiet := hc.quiet.putRun 1
  have hflag : t.flag Reg.REEL_E16CTL_RUN = true := State.putRun_flag hc.canonical true
  have hshown : ∀ {u : State}, u.regs = t.regs → u.flag Reg.REEL_E16CTL_RUN = true ∧ s.regsBut u [Reg.REEL_E16CTL] := fun {u} h =>
    ⟨(congrArg (fun r => fget (sget regReset r Reg.REEL_E16CTL) Reg.REEL_E16CTL_RUN != 0) h).trans hflag,
      fun a ha => (congrArg (fun r => sget regReset r a) h).trans (s.putRun_regsBut 1 a ha)⟩
  cases hb : s.start.rxbusy with
  | true =>
    have hstart : t.engStart 16 = t.setEng 16 { t.eng 16 with wantStart := true } := if_pos (by rw [show t.start.rxbusy = true from hb]; rfl)
    obtain ⟨u, hu, hset⟩ := doneW_settles (s := t.setEng 16 { t.eng 16 with wantStart := true }) (htq.of rfl rfl rfl rfl rfl rfl rfl)
    have heng : u.eng 16 = { s.eng 16 with wantStart := true } := (hset.eng 16).trans (sget_sput_self htc.engs.1 16 _)
    obtain ⟨h1, h2⟩ := hshown (u := u) hset.regs
    refine ⟨u, hx.trans (by rw [hstart, hu]), h1, h2, ?_⟩
    rw [if_pos rfl, heng]
    exact ⟨rfl, hr⟩
  | false =>
    have hbeg := State.engStart_now htc hb htq.entry 16
    obtain ⟨u, hu, hset⟩ := doneW_settles (hbeg.quiet htq)
    obtain ⟨hregs, heng, hctx⟩ := hbeg.settles hset
    obtain ⟨h1, h2⟩ := hshown hregs
    refine ⟨u, hx.trans hu, h1, h2, ?_⟩
    rw [if_neg (by decide), heng]
    exact ⟨rfl, hctx⟩

/-- What a write of 0 to RUN makes of engine 16: a running one begins its stop. -/
def Engine.toldToStop (g : Engine) : Engine := if g.run then { g with stopping := true } else { g with wantStart := false }

theorem engine16Stop_stops {s : State} (hc : s.Calm) :
    ∃ u, exec .engine16Stop s = .next u ∧ u.flag Reg.REEL_E16CTL_RUN = false ∧ s.regsBut u [Reg.REEL_E16CTL] ∧
      u.eng 16 = (s.eng 16).toldToStop := by
  set t := s.put Reg.REEL_E16CTL_RUN 0 with ht
  have htq : t.Quiet := hc.quiet.putRun 0
  have htc : t.canonical := (s.put_keeps _ _).canonical hc.canonical
  have hx : exec .engine16Stop s = doneW (t.setEng 16 (s.eng 16).toldToStop) := by
    refine congrArg doneW (?_ : s.e16Write false = _)
    unfold State.e16Write Engine.toldToStop
    dsimp only
    rw [if_neg (by decide), show b2n false = 0 from rfl, ← ht, htq.not_quiesced 1]
    show (if (s.eng 16).run then _ else _) = _
    split <;> rfl
  obtain ⟨u, hu, hset⟩ := doneW_settles (s := t.setEng 16 (s.eng 16).toldToStop) (htq.of rfl rfl rfl rfl rfl rfl rfl)
  exact ⟨u, hx.trans hu, (hset.flag _).trans (State.putRun_flag hc.canonical false),
    fun a ha => (hset.reg a).trans (s.putRun_regsBut 0 a ha), (hset.eng 16).trans (sget_sput_self htc.engs.1 16 _)⟩

theorem engine16Stopped_exec (t : Nat) (s : State) : exec (.engine16Stopped t) s =
    doneW (if ((s.at_ t).eng 16).run && ((s.at_ t).eng 16).stopping && (s.at_ t).allWait 16 then (s.at_ t).e16Stopped else s.at_ t) := rfl

theorem EngStopped.quiet {e : Nat} {s t : State} (h : EngStopped e s t) (q : s.Quiet) : t.Quiet := by
  rw [h.rest]
  exact q.of rfl rfl rfl rfl rfl rfl rfl

/-- Engine 16 comes to its stop, and starts again where RUN reads 1 (R182). -/
theorem doneW_e16Stopped {v : State} (hv : v.Calm) (hl : v.ldr.phase = .idle) (hs : v.upd.stop16 = false) (hb : v.start.rxbusy = false) :
    ∃ u, doneW v.e16Stopped = .next u ∧ u.regs = v.regs ∧ (u.eng 16).stopping = false ∧
      (v.flag Reg.REEL_E16CTL_RUN = false → (u.eng 16).run = false ∧
        ∀ c < nctx 16, (v.ctx 16 c).st ≠ .faulted → (v.ctx 16 c).st ≠ .halted → (u.ctx 16 c).st = .stopped) ∧
      (v.flag Reg.REEL_E16CTL_RUN = true → (u.eng 16).run = true ∧ ∀ c < nctx 16, (u.ctx 16 c).st = .ready ∧ (u.ctx 16 c).pc = 0) := by
  have hstop := State.engStop_stops hv.canonical 16
  have htc : (v.engStop 16).canonical := (v.engStop_keeps 16).canonical hv.canonical
  unfold State.e16Stopped
  generalize v.engStop 16 = t at *
  have htq := hstop.quiet hv.quiet
  have hldr : t.ldr = v.ldr := by rw [hstop.rest]
  have hupd : t.upd = v.upd := by rw [hstop.rest]
  have hregs : t.regs = v.regs := by rw [hstop.rest]
  have hstart : t.start = v.start := by rw [hstop.rest]
  have hflag : t.flag Reg.REEL_E16CTL_RUN = v.flag Reg.REEL_E16CTL_RUN :=
    congrArg (fun r => fget (sget regReset r Reg.REEL_E16CTL) Reg.REEL_E16CTL_RUN != 0) hregs
  rw [State.ldrFollow_idle (by rw [hldr, hl])]
  dsimp only
  rw [hflag, htq.radioOn, State.not_loading (by rw [hldr, hl]) 16, hupd, hs]
  simp only [Bool.not_false, Bool.and_true]
  cases hf : v.flag Reg.REEL_E16CTL_RUN with
  | false =>
    obtain ⟨u, hu, hset⟩ := doneW_settles htq
    refine ⟨u, hu, hset.regs.trans hregs, ?_, fun _ => ⟨?_, fun c hc h1 h2 => ?_⟩, nofun⟩
    · rw [hset.eng, hstop.eng]
    · rw [hset.eng, hstop.eng]
    · have hst : (t.ctx 16 c).st = .stopped := by rw [hstop.ctx c hc, Ctx.ended_st h1 h2]
      rw [hset.ctx_still (by rw [hst]; exact nofun), hst]
  | true =>
    have hbeg := State.engStart_now htc (by rw [hstart, hb]) htq.entry 16
    obtain ⟨u, hu, hset⟩ := doneW_settles (hbeg.quiet htq)
    obtain ⟨hr, heng, hctx⟩ := hbeg.settles hset
    exact ⟨u, hu, hr.trans hregs, by rw [heng], nofun, fun _ => ⟨by rw [heng], hctx⟩⟩

/-! ### CONTEXT_RESTART -/

theorem bitsOf_eq (x : Word) (lo n : Nat) : bitsOf x lo n = x.toNat / 2 ^ lo % 2 ^ n := by
  unfold bitsOf
  rw [BitVec.toNat_ushiftRight, Nat.shiftRight_eq_div_pow]

theorem contextRestart_exec (d : Word) (s : State) : exec (.contextRestart d) s =
    doneW (if (s.eng (d.toNat / 2 ^ 16 % 32)).run && d.toNat % 8 < nctx (d.toNat / 2 ^ 16 % 32) then
      s.restartCtx (d.toNat / 2 ^ 16 % 32) (d.toNat % 8) else s) := by
  show doneW (s.crst d) = _
  unfold State.crst
  dsimp only
  rw [bitsOf_eq, bitsOf_eq, Nat.pow_zero, Nat.div_one]
  rfl

/-- A context restarted alone: its lane may have gone OFF before, and comes to rest after (R180). -/
theorem State.restartCtx_restarts {s : State} (hh : s.rfe.holder = none) (e c : Nat) :
    ∃ t, LaneTurned s t ∧ LaneTurned (t.setCtx e c ((s.ctx e c).fresh e c)) (s.restartCtx e c) := by
  have hmute : ∃ t, LaneTurned s t ∧ (if (s.ctx e c).st = .faulted || (s.ctx e c).st = .halted then s else s.muteLane e c) = t := by
    split
    · exact ⟨_, .refl s, rfl⟩
    · exact ⟨_, State.muteLane_turned hh e c, rfl⟩
  obtain ⟨t, ht, heq⟩ := hmute
  refine ⟨t, ht, ?_⟩
  unfold State.restartCtx
  dsimp only
  rw [heq, ht.ctx]
  split
  · exact State.laneRest_turned _ _
  · exact .refl _

theorem doneW_restartCtx {s : State} (hc : s.Calm) (hh : s.rfe.holder = none) (e c : Nat) :
    ∃ u, doneW (s.restartCtx e c) = .next u ∧ u.ctx e c = (s.ctx e c).fresh e c ∧ u.regs = s.regs := by
  obtain ⟨t, ht, hr⟩ := State.restartCtx_restarts hh e c
  have hself : (s.restartCtx e c).ctx e c = (s.ctx e c).fresh e c := by
    rw [hr.ctx, State.setCtx_ctx_self (ht.ctxs ▸ hc.canonical.ctxs)]
  obtain ⟨u, hu, hset⟩ := doneW_settles (hr.quiet ((ht.quiet hc.quiet).setCtx e c _))
  exact ⟨u, hu, (hset.ctx_ready (by rw [hself]; rfl)).trans hself, hset.regs.trans (hr.regs.trans ht.regs)⟩

/-! ### TXQBASE_WRITE -/

theorem txqbase_regmap : onlyK Reg.REEL_TXQBASE 0xFFFFF000 = true ∧ wignField Reg.REEL_TXQBASE = ⟨Reg.REEL_WIGN, 16, 1⟩ := by decide +kernel

/-- A one-bit field is its bit. -/
theorem fget_one_bit (w : Word) (a i : Nat) : (fget w ⟨a, i, 1⟩ != 0) = bitOf w i := by
  unfold fget bitOf
  rw [BitVec.getLsbD, Nat.testBit_eq_decide_div_mod_eq, BitVec.toNat_ushiftRight, Nat.shiftRight_eq_div_pow, Bool.eq_iff_iff, bne_iff_ne,
    decide_eq_true_eq]
  exact Nat.mod_two_ne_zero

theorem region_radio_iff (a : Nat) : region a = .radio ↔ 0x21000000 ≤ a ∧ a < 0x21040000 := by
  refine ⟨fun h => ?_, fun h => region_radio h.1 h.2⟩
  unfold region at h
  split_ifs at h
  assumption

theorem State.kOpen_txqbase (s : State) (d : Word) : s.kOpen Reg.REEL_TXQBASE d =
    decide ((s.eng 16).run = false ∧ s.txq = [] ∧ 0x21000 ≤ d.toNat / 4096 ∧ d.toNat / 4096 < 0x21040) := by
  unfold State.kOpen
  dsimp only
  rw [if_pos rfl, Bool.eq_iff_iff]
  simp only [Bool.and_eq_true, Bool.not_eq_true', List.isEmpty_iff, decide_eq_true_eq, region_radio_iff, and_assoc]
  refine and_congr_right fun _ => and_congr_right fun _ => ?_
  omega

theorem State.txqBase_regs (s : State) (d : Word) : (s.txqBase d).regs = (s.writeK Reg.REEL_TXQBASE d).regs := by
  have hover : ∀ t : State, t.txqOverlap.regs = t.regs := fun t => ite_same State.regs rfl rfl
  unfold State.txqBase
  dsimp only
  rw [State.writeReg_onlyK txqbase_regmap.1]
  exact ite_same State.regs rfl (hover _)

/-- The base is taken while engine 16 is stopped, the queues are empty and the area lies in radio memory (R434). -/
theorem txqbaseWrite_taken {s : State} (hc : s.Calm) {d : Word} (h : s.kOpen Reg.REEL_TXQBASE d = true) :
    ∃ u, exec (.txqbaseWrite d) s = .next u ∧ u.reg Reg.REEL_TXQBASE &&& 0xFFFFF000 = d &&& 0xFFFFF000 ∧ s.regsBut u [Reg.REEL_TXQBASE] := by
  obtain ⟨-, hself, hother⟩ := State.writeK_open hc.canonical hc.quiet h (by decide) (by decide)
  obtain ⟨u, hu, hset⟩ := done_settles (s.txqBase d)
  have hreg : ∀ a, u.reg a = (s.writeK Reg.REEL_TXQBASE d).reg a :=
    fun a => congrArg (fun r => sget regReset r a) (hset.regs.trans (s.txqBase_regs d))
  exact ⟨u, hu, by rw [hreg, hself, kMask_of_onlyK txqbase_regmap.1, mergeBits_and], fun a ha => (hreg a).trans (hother a (by simpa using ha))⟩

theorem txqbaseWrite_ignored {s : State} (hc : s.Calm) {d : Word} (h : s.kOpen Reg.REEL_TXQBASE d = false) :
    ∃ u, exec (.txqbaseWrite d) s = .next u ∧ bitOf (u.reg Reg.REEL_WIGN) 16 = true ∧ s.regsBut u [Reg.REEL_WIGN] ∧ u.mem = s.mem := by
  obtain ⟨hq, hflag, hother⟩ := State.writeK_closed hc.canonical hc.quiet h txqbase_regmap.2 rfl (by decide) (by decide) (by decide)
  have hsame : s.txqBase d = s.writeK Reg.REEL_TXQBASE d := by
    unfold State.txqBase
    dsimp only
    rw [State.writeReg_onlyK txqbase_regmap.1]
    exact if_pos (hother _ (by decide))
  obtain ⟨u, hu, hset⟩ := done_settles (s.txqBase d)
  rw [hsame] at hset
  refine ⟨u, hu, ?_, fun a ha => (hset.reg a).trans (hother a (by simpa using ha)), hset.mem.trans hq.mem⟩
  rw [hset.reg, ← fget_one_bit]
  exact hflag

end Sys2Proof.Machine
end

section
/-! OBLIGATIONS. Engine 16, the transmit queues, the restart of a context and the faults of a fetch. -/

namespace Sys2Proof.Machine

/-- A fetch of the RUNNING context that faults, no other context waiting for the engine (R149, R152, R178). -/
theorem contextDispatch_faults {s : State} {t e c cause : Nat} {parity : Bool} (hv : (s.at_ t).Calm) (hh : (s.at_ t).rfe.holder = none)
    (hf : (s.at_ t).reg Reg.REEL_FATALC = 0) (hc : c < nctx e) (hrun : ((s.at_ t).eng e).run = true)
    (hst : ((s.at_ t).ctx e c).st = .running)
    (hothers : ∀ d, d < nctx e → d ≠ c → ((s.at_ t).ctx e d).st ≠ .running ∧ ((s.at_ t).ctx e d).st ≠ .ready)
    (hcause : (s.at_ t).fetchCheck e c parity = (s.at_ t).faultCtx e c cause) :
    ∃ u, exec (.contextDispatch e parity t) s = .next u ∧ FaultShown (s.at_ t) u e c cause := by
  have hnone : (s.at_ t).nextUrgent e = none := State.nextUrgent_none fun d hd hr => by
    by_cases hdc : d = c
    · rw [hdc, hst] at hr
      exact nomatch hr
    · exact absurd hr (hothers d hd hdc).2
  have hturn : (s.at_ t).turn e parity = (s.at_ t).faultCtx e c cause :=
    (State.turn_goesOn (State.runningCtx_only hc hst fun d hd hdc => (hothers d hd hdc).1) (.inr hnone)).trans hcause
  obtain ⟨u, hu, hshown⟩ := doneW_faults hv hh hf e c cause
  exact ⟨u, (execContextDispatch_run hrun parity).trans (hturn ▸ hu), hshown⟩

end Sys2Proof.Machine

open Sys2Proof Sys2Proof.Machine

/-- Settles O39: engine 16, the queues and their base, the restart of a context, and the three faults of a fetch. -/
theorem enginesQueuesAndContextFaults : Obligations.EnginesQueuesAndContextFaults := by
  unfold Obligations.EnginesQueuesAndContextFaults
  refine ⟨fun s hc => ⟨?run, ?stopRunning, ?stopStopped, ?restartIdle, ?restart, ?base⟩, fun s t => ?_⟩
  case run => exact fun hf hr hl hp => engine16Run_starts hc hf hr hl hp
  case stopRunning =>
    intro hr
    obtain ⟨u, hu, hflag, hregs, heng⟩ := engine16Stop_stops hc
    rw [Engine.toldToStop, if_pos hr] at heng
    exact ⟨u, hu, hflag, hregs, by rw [heng], by rw [heng, hr]⟩
  case stopStopped =>
    intro hr
    obtain ⟨u, hu, hflag, hregs, heng⟩ := engine16Stop_stops hc
    rw [Engine.toldToStop, if_neg (by rw [hr]; decide)] at heng
    exact ⟨u, hu, hflag, hregs, by rw [heng, hr]⟩
  case restartIdle =>
    intro d e c hidle
    refine does_doneW ((contextRestart_exec d s).trans (congrArg doneW (if_neg fun h => ?_))) hc.quiet
    rw [Bool.and_eq_true, decide_eq_true_eq] at h
    rcases hidle with hr | hn
    · exact nomatch hr.symm.trans h.1
    · exact absurd h.2 (Nat.not_lt.2 hn)
  case restart =>
    intro d e c hh hr hn
    obtain ⟨u, hu, hctx, hregs⟩ := doneW_restartCtx hc hh e c
    refine ⟨u, (contextRestart_exec d s).trans ((congrArg doneW (if_pos ?_)).trans hu), ?_⟩
    · rw [Bool.and_eq_true, decide_eq_true_eq]
      exact ⟨hr, hn⟩
    · rw [hctx]
      exact ⟨rfl, rfl, rfl, rfl, hregs⟩
  case base =>
    intro d
    split
    · exact txqbaseWrite_taken hc ((s.kOpen_txqbase d).trans (decide_eq_true ‹_›))
    · exact txqbaseWrite_ignored hc ((s.kOpen_txqbase d).trans (decide_eq_false ‹_›))
  · intro v hv
    refine ⟨does_doneW (c := .txqRelease t) rfl (hv.quiet.of rfl rfl rfl rfl rfl rfl rfl), fun hr hst hl hs hb => ⟨fun hw => ?_, fun hw => ?_⟩, ?_⟩
    · obtain ⟨u, hu, hshown⟩ := doneW_e16Stopped hv hl hs hb
      exact ⟨u, (engine16Stopped_exec t s).trans ((congrArg doneW (if_pos (by rw [hr, hst, hw]; rfl))).trans hu), hshown⟩
    · exact does_doneW ((engine16Stopped_exec t s).trans (congrArg doneW (if_neg (by rw [hw]; simp)))) hv.quiet
    · intro e c cause parity hh hf hc hr hst hothers listed hcause
      obtain ⟨u, hu, hshown⟩ := contextDispatch_faults hv hh hf hc hr hst hothers (State.fetchCheck_faults hcause)
      refine ⟨u, hu, ?_⟩
      rw [hshown.ctx]
      refine ⟨rfl, rfl, rfl, rfl, rfl, rfl, hshown.peers, ⟨hshown.lastf, hshown.regs, hshown.record⟩, fun k hk => ?_⟩
      rw [hshown.lane k hk]
      exact ⟨rfl, rfl, rfl⟩

end

section
/-! SUPPORT. A device write below the transmit queues' area (R267, R434): no byte of it is shared with them. -/

namespace Sys2Proof.Machine

theorem State.muddy_below {s : State} {a n : Nat} (h : a + n ≤ 4096 * s.get Reg.REEL_TXQBASE_ADDR) : s.muddy a n = s := by
  refine if_neg fun hm => ?_
  rw [Bool.and_eq_true] at hm
  unfold overlaps at hm
  simp only [Bool.and_eq_true, decide_eq_true_eq] at hm
  omega

theorem State.devPut_turned (s : State) (a : Nat) (bs : List Byte) : Turned s (s.devPut a bs) := by
  unfold State.devPut
  split
  · exact (State.setBytes_beside _ _ _).turned
  · refine turned_foldl _ (fun p _ t => ?_) _
    split
    · exact (show Beside t (t.setByte (a + p.2) p.1) from rfl).turned
    · exact .refl t

theorem State.devWrite_below {s : State} {a : Nat} {bs : List Byte} (h : a + bs.length ≤ 4096 * s.get Reg.REEL_TXQBASE_ADDR) :
    s.devWrite a bs = ((s.wakeRange a bs.length).devPut a bs).snoopBoth a bs.length := by
  have ht : Turned s (((s.wakeRange a bs.length).devPut a bs).snoopBoth a bs.length) :=
    ((s.wakeRange_turned a bs.length).trans (State.devPut_turned _ a bs)).trans ⟨rfl, rfl, rfl, rfl, rfl, rfl, rfl, fun _ _ => rfl⟩
  rw [State.devWrite_eq]
  exact State.muddy_below (by rw [ht.get not_turnReg_TXQBASE.1]; exact h)

theorem State.devWrite_below_byte_out {s : State} {a x : Nat} {bs : List Byte} (h : a + bs.length ≤ 4096 * s.get Reg.REEL_TXQBASE_ADDR)
    (hx : x < a ∨ a + bs.length ≤ x) : (s.devWrite a bs).byte x = s.byte x := by
  rw [State.devWrite_below h]
  exact (State.devPut_byte_out _ hx).trans (s.wakeRange_byte _ _ _)

theorem State.devWrite_below_bytes {s : State} (hs : s.canonical) {a : Nat} {bs : List Byte}
    (h : a + bs.length ≤ 4096 * s.get Reg.REEL_TXQBASE_ADDR) (h0 : s.takes a = true) (h1 : s.takes (a + bs.length - 1) = true) :
    (s.devWrite a bs).bytes a bs.length = bs := by
  have htakes : ∀ x, (s.wakeRange a bs.length).takes x = s.takes x := fun x => by
    unfold State.takes
    rw [State.wakeRange_refuses hs]
  have hput : (s.wakeRange a bs.length).devPut a bs = (s.wakeRange a bs.length).setBytes a bs := by
    unfold State.devPut
    rw [htakes, htakes, h0, h1]
    rfl
  rw [State.devWrite_below h, hput]
  exact State.setBytes_bytes _ ((s.wakeRange_keeps a bs.length).canonical hs).mem a bs

theorem State.bytes_append (s : State) (a m n : Nat) : s.bytes a (m + n) = s.bytes a m ++ s.bytes (a + m) n := by
  unfold State.bytes
  rw [List.range_add, List.map_append, List.map_map]
  congr 1
  exact List.map_congr_left fun i _ => congrArg s.byte (Nat.add_assoc a m i).symm

/-- A record of at most 320 bytes in SRAM that takes its first and its last place is taken whole: it spans two banks at most. -/
theorem State.takes_record {s : State} {a x : Nat} (h0 : 0x20000000 ≤ a) (h1 : a + 320 ≤ 0x20100000) (hr : s.bankRefuses a = false)
    (hr' : s.bankRefuses (a + 319) = false) (hx : a ≤ x) (hx' : x ≤ a + 319) : s.takes x = true := by
  have hbank : bankOf x = bankOf a ∨ bankOf x = bankOf (a + 319) := by
    have hdiv : (x - 0x20000000) / 0x10000 = (a - 0x20000000) / 0x10000 ∨ (x - 0x20000000) / 0x10000 = (a + 319 - 0x20000000) / 0x10000 := by
      omega
    rw [bankOf_sram (by omega) (by omega), bankOf_sram (by omega) (by omega), bankOf_sram (by omega) (by omega)]
    exact hdiv.imp (congrArg some) (congrArg some)
  have href : s.bankRefuses x = false := by
    unfold State.bankRefuses at *
    rcases hbank with h | h <;> rw [h] <;> assumption
  unfold State.takes
  rw [href, region_sram (by omega) (by omega)]
  rfl

end Sys2Proof.Machine
end

section
/-! SUPPORT. DELIVERY_WRITE (R171, R239): the record, its post, the buffer that it frees. -/

namespace Sys2Proof.Machine

/-- The head words of a delivery's record, with its sequence number. -/
def Delivery.words (d : Delivery) (put : Nat) : List Word := d.head.set 7 (d.head.getD 7 0 ||| numAt put 16)

/-- A lane without the frame whose copy has ended; its held acknowledgement goes on. -/
def Lane.freed (l : Lane) (buf : Nat) : Lane :=
  { l with
    frames := l.frames.filter fun f => !(f.leaving && f.buf = buf)
    acks := l.acks ++ l.frames.filter fun f => (f.leaving && f.buf = buf) && f.ack = .requested }

/-- The delivery is taken from the queue. -/
def State.undelivered (s : State) (d : Delivery) : State := { s with link := { s.link with deliv := s.link.deliv.erase d } }

/-- The record as the ring holds it, before its post. -/
def State.recordStored (s : State) (d : Delivery) (put : Nat) : State :=
  ((s.undelivered d).devWrite (s.recAddr d.ring put)
    (((d.words put).flatMap fun v => leBytes 4 v.toNat) ++ s.bytes (bufAddr d.lane d.buf) d.len)).put (Reg.LINK_RPUT_PUT d.ring) ((put + 1) % 65536)

/-- The post of a record, where the ring notifies. -/
def State.recordPosted (s : State) (d : Delivery) (put : Nat) : State :=
  if s.flag (Reg.LINK_RCFG_NOTIFY d.ring) then
    s.postTo (if d.ring = 0 then .c0 else .c1) (140 + d.ring) (((d.words put).getD 0 0 &&& 0xFF000000) ||| numAt put 0) ((d.words put).getD 8 0)
  else s

theorem State.delivWrite_recorded {s : State} {d : Delivery} {put : Nat} (hput : s.get (Reg.LINK_RPUT_PUT d.ring) = put) (hz : s.ringSize d.ring ≠ 0)
    (hok : s.recOk d.ring put = true) : s.delivWrite d =
      ((s.recordStored d put).recordPosted d put).setLane d.lane ((((s.recordStored d put).recordPosted d put).lane d.lane).freed d.buf) := by
  have hcond : ((s.undelivered d).ringSize d.ring = 0 || !(s.undelivered d).recOk d.ring put) = false := by
    rw [show (s.undelivered d).ringSize d.ring = s.ringSize d.ring from rfl, show (s.undelivered d).recOk d.ring put = s.recOk d.ring put from rfl,
      hok, decide_eq_false hz]
    rfl
  subst hput
  unfold State.delivWrite
  dsimp only
  rw [show ({ s with link := { s.link with deliv := s.link.deliv.erase d } } : State) = s.undelivered d from rfl, hcond, if_neg Bool.false_ne_true]
  rfl

theorem State.delivWrite_lost {s : State} {d : Delivery} (h : s.ringSize d.ring = 0 ∨ s.recOk d.ring (s.get (Reg.LINK_RPUT_PUT d.ring)) = false) :
    s.delivWrite d = ((s.undelivered d).count (Reg.LINK_RPUT_FULL d.ring)).setLane d.lane ((s.lane d.lane).freed d.buf) := by
  have hcond : ((s.undelivered d).ringSize d.ring = 0 || !(s.undelivered d).recOk d.ring (s.get (Reg.LINK_RPUT_PUT d.ring))) = true := by
    rw [show (s.undelivered d).ringSize d.ring = s.ringSize d.ring from rfl,
      show (s.undelivered d).recOk d.ring (s.get (Reg.LINK_RPUT_PUT d.ring)) = s.recOk d.ring (s.get (Reg.LINK_RPUT_PUT d.ring)) from rfl]
    simpa using h
  unfold State.delivWrite
  dsimp only
  rw [show ({ s with link := { s.link with deliv := s.link.deliv.erase d } } : State) = s.undelivered d from rfl, hcond, if_pos rfl]
  rfl

/-! ### The record in its ring -/

/-- The registers of the rings and of the collectors' priorities are none that a bank's wake writes. -/
theorem not_turnReg_ring {n : Nat} (h : n < 2) : ¬turnReg (Reg.LINK_RPUT n) ∧ ¬turnReg (Reg.LINK_RCFG n) ∧
    ¬turnReg (Reg.ICOL_PRI n ((140 + n) / 8)) := by
  unfold turnReg Reg.LINK_RPUT Reg.LINK_RCFG Reg.ICOL_PRI Reg.ENV_NF Reg.ENV_SVSTAT Reg.MEMC_BANKCTL Reg.MEMC_RBANKCTL Reg.EVL_WATCH
  omega

theorem ringReg_ne {n : Nat} (h : n < 2) : Reg.CFG_PEND ≠ Reg.LINK_RPUT n ∧ Reg.RFE_SPCTL ≠ Reg.LINK_RPUT n ∧
    Reg.LINK_RCFG n ≠ Reg.LINK_RPUT n ∧ Reg.ICOL_PRI n ((140 + n) / 8) ≠ Reg.LINK_RPUT n := by
  rcases (by omega : n = 0 ∨ n = 1) with rfl | rfl <;> decide

/-- A record that has been stored: its bytes, PUT, and what else has changed. -/
structure RecordStored (s t : State) (d : Delivery) (put : Nat) : Prop where
  rest : DevRest (s.undelivered d) t
  words : ∀ i, i < 16 → t.word (s.recAddr d.ring put + 4 * i) = (d.words put).getD i 0
  psdu : t.bytes (s.recAddr d.ring put + 64) d.len = s.bytes (bufAddr d.lane d.buf) d.len
  out : ∀ x, x < s.recAddr d.ring put ∨ s.recAddr d.ring put + 64 + d.len ≤ x → t.byte x = s.byte x
  advanced : t.get (Reg.LINK_RPUT_PUT d.ring) = (put + 1) % 65536
  reg : ∀ x, ¬turnReg x → x ≠ Reg.LINK_RPUT d.ring → t.reg x = s.reg x
  quiet : t.Quiet
  keeps : Keeps (s.undelivered d) t

theorem Delivery.words_length {d : Delivery} (h : d.head.length = 16) (put : Nat) : (d.words put).length = 16 := by
  unfold Delivery.words
  rw [List.length_set, h]

theorem State.undelivered_canonical {s : State} (hs : s.canonical) (d : Delivery) : (s.undelivered d).canonical :=
  ⟨hs.mem, hs.regs, hs.shadow, hs.ctxs, hs.engs, hs.lanes, hs.tmrs, hs.banks⟩

theorem State.recordStored_stored {s : State} (hs : s.canonical) (q : s.Quiet) {d : Delivery} {put : Nat} (hring : d.ring < 2)
    (h0 : 0x20000000 ≤ s.recAddr d.ring put) (h1 : s.recAddr d.ring put + 320 ≤ 0x20100000)
    (hr : s.bankRefuses (s.recAddr d.ring put) = false) (hr' : s.bankRefuses (s.recAddr d.ring put + 319) = false)
    (hq : 0x21000 ≤ s.get Reg.REEL_TXQBASE_ADDR) (hlen : d.head.length = 16) (hpsdu : d.len ≤ 256) :
    RecordStored s (s.recordStored d put) d put := by
  unfold State.recordStored
  set a := s.recAddr d.ring put with ha
  set head := (d.words put).flatMap fun v => leBytes 4 v.toNat with hhead
  set psdu := s.bytes (bufAddr d.lane d.buf) d.len with hps
  have hwl := Delivery.words_length hlen put
  have hheadl : head.length = 64 := by rw [hhead, flatMap_leBytes_length, hwl]
  have hpsl : psdu.length = d.len := by rw [hps, State.bytes, List.length_map, List.length_range]
  have hall : (head ++ psdu).length = 64 + d.len := by rw [List.length_append, hheadl, hpsl]
  have hbelow : a + (head ++ psdu).length ≤ 4096 * (s.undelivered d).get Reg.REEL_TXQBASE_ADDR := by
    change a + (head ++ psdu).length ≤ 4096 * s.get Reg.REEL_TXQBASE_ADDR
    omega
  have hc := State.undelivered_canonical hs d
  have hafter : a + (head ++ psdu).length - 1 ≤ a + 319 := by omega
  have htakes : ∀ x, a ≤ x → x ≤ a + 319 → (s.undelivered d).takes x = true :=
    fun x hx hx' => State.takes_record (s := s.undelivered d) h0 h1 hr hr' hx hx'
  have hbytes := State.devWrite_below_bytes hc hbelow (htakes a (Nat.le_refl a) (Nat.le_add_right a 319))
    (htakes _ (by clear hbelow; omega) hafter)
  have hout := fun x => State.devWrite_below_byte_out (x := x) hbelow
  have hdev := (s.undelivered d).devWrite_devRest a (head ++ psdu)
  have hturn := (s.undelivered d).devWrite_turned a (head ++ psdu)
  have hkeep := (s.undelivered d).devWrite_keeps a (head ++ psdu)
  generalize (s.undelivered d).devWrite a (head ++ psdu) = t at *
  have hsplit : t.bytes a head.length = head ∧ t.bytes (a + head.length) d.len = psdu := by
    have hb : t.bytes a (head.length + d.len) = head ++ psdu := by
      rw [hheadl, ← hall]
      exact hbytes
    rw [State.bytes_append] at hb
    exact List.append_inj hb (by rw [State.bytes, List.length_map, List.length_range])
  rw [hall, ← Nat.add_assoc] at hout
  exact {
    rest := hdev.trans rfl
    words := fun i hi => State.word_of_bytes (s := t) hsplit.1 (by omega)
    psdu := by
      have h := hsplit.2
      rw [hheadl] at h
      exact h
    out := hout
    advanced := by
      rw [State.put_get_self _ (hkeep.canonical hc).regs _ _ (show 0 + 16 ≤ 32 by decide)]
      exact Nat.mod_mod _ _
    reg := fun x hx hne => (t.put_reg_ne _ _ hne).trans (hturn.reg x hx)
    quiet := State.setReg_quiet (hturn.quiet (q.of rfl rfl rfl rfl rfl rfl rfl)) _ (ringReg_ne hring).1 (ringReg_ne hring).2.1
    keeps := hkeep.transS (t.put_keeps _ _) }

/-! ### The post and the buffer -/

theorem State.recordPosted_rest (t : State) (d : Delivery) (put : Nat) :
    t.recordPosted d put = { t with icol0 := (t.recordPosted d put).icol0, icol1 := (t.recordPosted d put).icol1 } := by
  unfold State.recordPosted
  split
  · split <;> rfl
  · rfl

/-- The buffer of collector r after the post of a record of its ring. -/
theorem State.recordPosted_buf (t : State) {d : Delivery} {r : CoreId} (hring : d.ring = coreNum r) (put : Nat) :
    ((t.recordPosted d put).icol r).buf = (t.icol r).buf ++ (if t.flag (Reg.LINK_RCFG_NOTIFY d.ring) then
      [⟨140 + d.ring, t.icolPri r (140 + d.ring), false, ((d.words put).getD 0 0 &&& 0xFF000000) ||| numAt put 0, (d.words put).getD 8 0, t.us⟩]
        else []) := by
  have hcol : (if d.ring = 0 then CoreId.c0 else .c1) = r := by
    rw [hring]
    cases r <;> rfl
  unfold State.recordPosted
  rw [hcol]
  split
  · cases r <;> rfl
  · rw [List.append_nil]

theorem State.Quiet.recordPosted {t : State} (q : t.Quiet) (d : Delivery) (put : Nat) : (t.recordPosted d put).Quiet := by
  rw [State.recordPosted_rest]
  exact q.of rfl rfl rfl rfl rfl rfl rfl

theorem Settles.icol_buf {v u : State} (h : Settles v u) (r : CoreId) : (u.icol r).buf = (v.icol r).buf := by
  cases r
  · exact h.icol0_buf
  · exact h.icol1_buf

theorem deliveryWrite_exec (r : CoreId) (t : Nat) (s : State) : exec (.deliveryWrite r t) s =
    doneW (match (s.at_ t).link.deliv.find? fun d => d.ring = coreNum r with
      | some d => (s.at_ t).delivWrite d
      | none => s.at_ t) := rfl

theorem coreNum_lt (r : CoreId) : coreNum r < 2 := by cases r <;> decide

/-- What DELIVERY_WRITE shows of a record that its ring takes. -/
structure Delivered (s u : State) (r : CoreId) (d : Delivery) (put : Nat) : Prop where
  words : ∀ i, i < 16 → u.word (s.recAddr d.ring put + 4 * i) = (d.words put).getD i 0
  psdu : u.bytes (s.recAddr d.ring put + 64) d.len = s.bytes (bufAddr d.lane d.buf) d.len
  out : ∀ x, x < s.recAddr d.ring put ∨ s.recAddr d.ring put + 64 + d.len ≤ x → u.byte x = s.byte x
  advanced : u.get (Reg.LINK_RPUT_PUT d.ring) = (put + 1) % 65536
  deliv : u.link.deliv = s.link.deliv.erase d
  lane : u.lane d.lane = (s.lane d.lane).freed d.buf
  post : (u.icol r).buf = (s.icol r).buf ++ (if s.flag (Reg.LINK_RCFG_NOTIFY d.ring) then
    [⟨140 + d.ring, s.icolPri r (140 + d.ring), false, ((d.words put).getD 0 0 &&& 0xFF000000) ||| numAt put 0, (d.words put).getD 8 0, s.us⟩]
      else [])

theorem doneW_recorded {s t : State} (hs : s.canonical) {r : CoreId} {d : Delivery} {put : Nat} (hring : d.ring = coreNum r)
    (h : RecordStored s t d put) :
    ∃ u, doneW ((t.recordPosted d put).setLane d.lane (((t.recordPosted d put).lane d.lane).freed d.buf)) = .next u ∧
      Delivered s u r d put := by
  have hlt : d.ring < 2 := hring ▸ coreNum_lt r
  obtain ⟨-, hcfg, hpri⟩ := not_turnReg_ring hlt
  obtain ⟨-, -, hcfgNe, hpriNe⟩ := ringReg_ne hlt
  have hflag : t.flag (Reg.LINK_RCFG_NOTIFY d.ring) = s.flag (Reg.LINK_RCFG_NOTIFY d.ring) :=
    congrArg (fun w => fget w (Reg.LINK_RCFG_NOTIFY d.ring) != 0) (h.reg _ hcfg hcfgNe)
  have hicolPri : t.icolPri r (140 + d.ring) = s.icolPri r (140 + d.ring) := by
    unfold State.icolPri
    rw [← hring]
    exact congrArg (fun w => fget w _) (h.reg _ hpri hpriNe)
  have hus : t.us = s.us := by rw [h.rest]; rfl
  have hicol : t.icol r = s.icol r := by
    rw [h.rest]
    cases r <;> rfl
  have hbuf := t.recordPosted_buf hring put
  rw [hflag, hicolPri, hus, hicol] at hbuf
  have hrest := t.recordPosted_rest d put
  have hq := h.quiet.recordPosted d put
  generalize t.recordPosted d put = p at *
  have hregs : p.regs = t.regs := by rw [hrest]
  have hbyte : ∀ x, p.byte x = t.byte x := fun x => by rw [hrest]; rfl
  have hlanes : p.lanes = s.lanes := by
    rw [hrest]
    show t.lanes = _
    rw [h.rest]
    rfl
  have hlane : p.lane d.lane = s.lane d.lane := congrArg (fun l => sget (fun _ => Lane.reset) l d.lane) hlanes
  obtain ⟨u, hu, hset⟩ := doneW_settles (hq.setLane d.lane ((p.lane d.lane).freed d.buf))
  have hubyte : ∀ x, u.byte x = t.byte x := fun x => (hset.byte x).trans (hbyte x)
  refine ⟨u, hu, ?_, ?_, ?_, ?_, ?_, ?_, ?_⟩
  · exact fun i hi => (State.word_congr fun x _ _ => hubyte x).trans (h.words i hi)
  · exact (State.bytes_congr fun x _ _ => hubyte x).trans h.psdu
  · exact fun x hx => (hubyte x).trans (h.out x hx)
  · exact (hset.get _).trans ((congrArg (fun m => fget (sget regReset m _) _) hregs).trans h.advanced)
  · rw [hset.link]
    show p.link.deliv = _
    rw [hrest]
    show t.link.deliv = _
    rw [h.rest]
    rfl
  · rw [hset.lane, State.setLane_lane_self (hlanes ▸ hs.lanes), hlane]
  · exact (hset.icol_buf r).trans hbuf

/-! ### A record that its ring no longer takes -/

/-- What DELIVERY_WRITE shows of a record that is lost (R267, log entries 47 and 98). -/
structure RecordLost (s u : State) (r : CoreId) (d : Delivery) : Prop where
  full : u.get (Reg.LINK_RPUT_FULL d.ring) = min 65535 (s.get (Reg.LINK_RPUT_FULL d.ring) + 1)
  put : u.get (Reg.LINK_RPUT_PUT d.ring) = s.get (Reg.LINK_RPUT_PUT d.ring)
  bytes : s.sameBytes u
  regs : s.regsBut u [Reg.LINK_RPUT d.ring]
  deliv : u.link.deliv = s.link.deliv.erase d
  buf : (u.icol r).buf = (s.icol r).buf
  lane : u.lane d.lane = (s.lane d.lane).freed d.buf

theorem doneW_recordLost {s : State} (hs : s.canonical) (q : s.Quiet) (r : CoreId) {d : Delivery} (hring : d.ring < 2) :
    ∃ u, doneW (((s.undelivered d).count (Reg.LINK_RPUT_FULL d.ring)).setLane d.lane ((s.lane d.lane).freed d.buf)) = .next u ∧
      RecordLost s u r d := by
  set t := (s.undelivered d).count (Reg.LINK_RPUT_FULL d.ring) with ht
  have hq : t.Quiet := State.setReg_quiet (s := s.undelivered d) (q.of rfl rfl rfl rfl rfl rfl rfl) _ (ringReg_ne hring).1 (ringReg_ne hring).2.1
  obtain ⟨u, hu, hset⟩ := doneW_settles (hq.setLane d.lane ((s.lane d.lane).freed d.buf))
  refine ⟨u, hu, ?_, ?_, fun x => hset.byte x, fun x hx => ?_, ?_, ?_, ?_⟩
  · refine (hset.get _).trans (((s.undelivered d).put_get_self hs.regs _ _ (show 16 + 16 ≤ 32 by decide)).trans ?_)
    exact Nat.mod_eq_of_lt (Nat.lt_of_le_of_lt (Nat.min_le_left _ _) (show 2 ^ 16 - 1 < 2 ^ 16 by decide))
  · exact (hset.get _).trans ((s.undelivered d).put_get_other hs.regs _ _ _ (show 16 + 16 ≤ 32 by decide) (.inr (.inl (Nat.le_refl 16))))
  · exact (hset.reg x).trans ((s.undelivered d).put_reg_ne _ _ (by simpa using hx))
  · rw [hset.link]
    rfl
  · refine (hset.icol_buf r).trans ?_
    cases r <;> rfl
  · exact (hset.lane _).trans (State.setLane_lane_self (s := t) hs.lanes _ _)

end Sys2Proof.Machine
end

section
/-! SUPPORT. RTAKE_WRITE (R240) and BALLAST_WRITE_THROUGH (R236). -/

namespace Sys2Proof.Machine

/-- The occupancy of ring n with TAKE at k. -/
def State.ringOcc (s : State) (n k : Nat) : Nat := (s.get (Reg.LINK_RPUT_PUT n) + 65536 - k) % 65536

theorem State.rtake_eq (s : State) (n : Nat) (take : BitVec 16) : s.rtake n take.toNat =
    if s.ringOcc n take.toNat ≤ s.ringOcc n (s.get (Reg.LINK_RTAKE_TAKE n)) then s.put (Reg.LINK_RTAKE_TAKE n) take.toNat else s := by
  have htake : take.toNat % 65536 = take.toNat := Nat.mod_eq_of_lt take.isLt
  have hold : s.get (Reg.LINK_RTAKE_TAKE n) % 65536 = s.get (Reg.LINK_RTAKE_TAKE n) := Nat.mod_mod _ _
  unfold State.rtake State.ringOcc
  simp only [htake, hold]

/-- The write-through of an entry that waits (R236): its Ballast word is written, good again, and the entry waits no more. -/
theorem State.thruDone_waiting {s : State} {n : Nat} (h : ∃ p ∈ s.link.thru, p.1 = n) : s.thruDone n =
    { s.setWord (rxWord n) (s.word (0x21020000 + 64 * n + 0x10)) with
      memc := { s.memc with bad := s.memc.bad.filter fun a => a != rxWord n }
      link := { s.link with thru := s.link.thru.filter fun p => p.1 != n } } := by
  have hlink : (s.carryThru n).link = s.link := (State.setBytes_link _ _ _ :)
  unfold State.thruDone
  rw [if_pos (by simpa using h)]
  dsimp only
  rw [hlink]
  rfl

theorem State.thruDone_idle {s : State} {n : Nat} (h : ∀ p ∈ s.link.thru, p.1 ≠ n) : s.thruDone n = s := by
  refine if_neg fun hany => ?_
  obtain ⟨p, hp, he⟩ := List.any_eq_true.1 hany
  exact h p hp (of_decide_eq_true he)

theorem ballastWriteThrough_exec (n t : Nat) (s : State) : exec (.ballastWriteThrough n t) s = done ((s.at_ t).thruDone n) := rfl

theorem done_thruDone {v : State} (hv : v.canonical) {n : Nat} (h : ∃ p ∈ v.link.thru, p.1 = n) :
    ∃ u, done (v.thruDone n) = .next u ∧ u.word (rxWord n) = v.word (0x21020000 + 64 * n + 0x10) ∧ u.regs = v.regs ∧
      (∀ p ∈ u.link.thru, p.1 ≠ n) ∧ ∀ x, x < rxWord n ∨ rxWord n + 4 ≤ x → u.byte x = v.byte x := by
  obtain ⟨u, hu, hset⟩ := done_settles (v.thruDone n)
  rw [State.thruDone_waiting h] at hset
  have hword := v.setWord_word hv.mem (rxWord n) (v.word (0x21020000 + 64 * n + 0x10))
  have hregs := v.setWord_regs (rxWord n) (v.word (0x21020000 + 64 * n + 0x10))
  have hbyte := fun x => v.setWord_byte_out (rxWord n) (v.word (0x21020000 + 64 * n + 0x10)) (x := x)
  generalize v.setWord (rxWord n) (v.word (0x21020000 + 64 * n + 0x10)) = t at hset hword hregs hbyte
  refine ⟨u, hu, (hset.word _).trans hword, hset.regs.trans hregs, fun p hp => ?_, fun x hx => (hset.byte x).trans (hbyte x hx)⟩
  rw [hset.link] at hp
  simpa using (List.mem_filter.1 hp).2

end Sys2Proof.Machine
end

section
/-! OBLIGATIONS. DELIVERY_WRITE, RTAKE_WRITE and BALLAST_WRITE_THROUGH. -/

namespace Sys2Proof.Machine

theorem numAt_half (put : Nat) : numAt put 16 = BitVec.ofNat 32 (put * 2 ^ 16) := by
  unfold numAt
  refine BitVec.eq_of_toNat_eq ?_
  rw [BitVec.toNat_shiftLeft, BitVec.toNat_ofNat, BitVec.toNat_ofNat, Nat.shiftLeft_eq]
  omega

theorem Delivery.words_getD {d : Delivery} (hlen : d.head.length = 16) (put i : Nat) :
    (d.words put).getD i 0 = if i = 7 then d.head.getD 7 0 ||| BitVec.ofNat 32 (put * 2 ^ 16) else d.head.getD i 0 := by
  unfold Delivery.words
  rw [numAt_half, List.getD_eq_getElem?_getD, List.getElem?_set]
  by_cases h7 : i = 7
  · rw [if_pos h7, if_pos h7.symm, if_pos (by omega)]
    rfl
  · rw [if_neg h7, if_neg (Ne.symm h7), List.getD_eq_getElem?_getD]

end Sys2Proof.Machine

open Sys2Proof Sys2Proof.Machine

/-- Settles O41: the record of a delivery or its loss, TAKE, and the Ballast word of an entry. -/
theorem deliveriesAndReplayWords : Obligations.DeliveriesAndReplayWords := by
  unfold Obligations.DeliveriesAndReplayWords
  refine ⟨fun s t r d => ?record, fun s t r => ?lost, fun s r take => ?take, fun s n t => ?thru⟩
  case record =>
    intro v n put a hv hfind hsize h0 h1 hr hr' hq hlen hpsdu _ _
    have hring : d.ring = n := by simpa using List.find?_some hfind
    have ha : v.recAddr d.ring put = a := by rw [hring]
    have hok : v.recOk d.ring put = true := by
      unfold State.recOk
      dsimp only
      rw [ha, region_sram h0 (by omega), region_sram (a := a + 319) (by omega) (by omega), hr, hr']
      rfl
    have hst := State.recordStored_stored hv.canonical hv.quiet (hring ▸ coreNum_lt r) (ha.symm ▸ h0) (ha.symm ▸ h1) (ha.symm ▸ hr)
      (ha.symm ▸ hr') hq hlen hpsdu
    obtain ⟨u, hu, hd⟩ := doneW_recorded hv.canonical hring hst
    have hx : exec (.deliveryWrite r t) s = doneW (v.delivWrite d) := (deliveryWrite_exec r t s).trans (by rw [hfind])
    rw [State.delivWrite_recorded (by rw [hring]) (by rw [hring]; omega) hok] at hx
    obtain ⟨hwords, hps, hout, hadv, hdel, hlane, hpost⟩ := hd
    rw [ha] at hwords hps hout
    rw [hring] at hadv hpost
    have hw0 : (d.words put).getD 0 0 = d.head.getD 0 0 := (Delivery.words_getD hlen put 0).trans (if_neg (by decide))
    have hw8 : (d.words put).getD 8 0 = d.head.getD 8 0 := (Delivery.words_getD hlen put 8).trans (if_neg (by decide))
    rw [hw0, hw8, numAt_zero] at hpost
    exact ⟨u, hx.trans hu, fun i hi => (hwords i hi).trans (Delivery.words_getD hlen put i), hps, hout, hadv, hdel,
      by rw [hlane]; rfl, hpost⟩
  case lost =>
    intro v n hv
    refine ⟨fun hnone => does_doneW ((deliveryWrite_exec r t s).trans (by rw [hnone])) hv.quiet, fun d hfind hbad => ?_⟩
    have hring : d.ring = n := by simpa using List.find?_some hfind
    obtain ⟨u, hu, hfull, hput, hbytes, hregs, hdel, hbuf, hlane⟩ :=
      doneW_recordLost hv.canonical hv.quiet r (d := d) (hring ▸ coreNum_lt r)
    have hx : exec (.deliveryWrite r t) s = doneW (v.delivWrite d) := (deliveryWrite_exec r t s).trans (by rw [hfind])
    rw [State.delivWrite_lost (by rw [hring]; exact hbad)] at hx
    rw [hring] at hfull hput hregs
    exact ⟨u, hx.trans hu, hfull, hput, hbytes, hregs, hdel, hbuf, by rw [hlane]; rfl⟩
  case take =>
    intro n occ
    have hx : exec (.rtakeWrite r take) s = done (s.rtake n take.toNat) := rfl
    rw [State.rtake_eq] at hx
    split
    · rename_i hle
      intro hs
      rw [if_pos (show s.ringOcc n take.toNat ≤ s.ringOcc n (s.get (Reg.LINK_RTAKE_TAKE n)) from hle)] at hx
      obtain ⟨u, hu, hset⟩ := done_settles (s.put (Reg.LINK_RTAKE_TAKE n) take.toNat)
      exact ⟨u, hx.trans hu, (hset.get _).trans ((s.put_get_self hs.regs _ _ (show 0 + 16 ≤ 32 by decide)).trans
        (Nat.mod_eq_of_lt take.isLt)), fun x hx => (hset.reg x).trans (s.put_reg_ne _ _ (by simpa using hx)), hset.mem⟩
    · rename_i hgt
      rw [if_neg (show ¬s.ringOcc n take.toNat ≤ s.ringOcc n (s.get (Reg.LINK_RTAKE_TAKE n)) from hgt)] at hx
      exact does_done hx
  case thru =>
    intro v hv _
    refine ⟨fun h => ?_, fun h => does_done ((ballastWriteThrough_exec n t s).trans (by rw [State.thruDone_idle h]))⟩
    obtain ⟨u, hu, hword, hregs, hthru, hbytes⟩ := done_thruDone hv h
    exact ⟨u, hu, hword.trans (congrArg v.word (by omega)), hregs, hthru, fun x hx => hbytes x (by unfold rxWord; omega)⟩

end
